-- ==== Sys2Proof/Word.lean ====
section
/-! DEFINITION. The byte, the one bit vector that the part's layouts are made of (Chapter 12). Counts, timers and
quantities of the other chapters are natural numbers or integers with the ranges their rules give. -/

namespace Sys2Proof

/-- One byte of a message, a block, a reply or a display record. -/
abbrev Byte := BitVec 8

end Sys2Proof
end

