-- ==== Sys2Proof/Syntax.lean ====
section
/-! DEFINITION. The commands: one constructor per row of spec/opcode_table.json, with what the event carries. The table
gives no operands; each operand below is the datum that the row's own rule reads from outside the part. -/

namespace Sys2Proof

/-- The four cluster keys (R39). -/
inductive Key
  | mode
  | reset
  | set
  | ack
deriving DecidableEq, Repr

/-- The three warnings that the service unit requests (R154). -/
inductive ServiceWarning
  | soon
  | due
  | overdue
deriving DecidableEq, Repr

/-- A command: one event that reaches the part, whole and indivisible. -/
inductive Instr
  /-- POWER_ON_RESET (R184). -/
  | powerOnReset
  /-- SPEED_PULSE (R1): a rising edge on SPD, `elapsed` microseconds after the edge before it. -/
  | speedPulse (elapsed : Nat)
  /-- HALF_SECOND_WINDOW_CLOSURE (R5). -/
  | halfSecondWindowClosure
  /-- ONE_SECOND_TIMER (R9). -/
  | oneSecondTimer
  /-- KEY_PRESS (R39): the key has been sampled low at three consecutive ticks. -/
  | keyPress (k : Key)
  /-- KEY_RELEASE (R39): the key has been sampled high at three consecutive ticks. -/
  | keyRelease (k : Key)
  /-- CLOCK_SET_HOLD (R10): the 2 s mark of a hold of SET. -/
  | clockSetHold
  /-- KEY_IDLE_TIMER_EXPIRY (R11). -/
  | keyIdleTimerExpiry
  /-- TRIP_RESET_HOLD (R41): the 2 s mark of a hold of RESET. -/
  | tripResetHold
  /-- SERVICE_STEP_HOLD (R161): a 1 s mark of a hold of MODE. -/
  | serviceStepHold
  /-- SERVICE_RESET_HOLD (R159): the 5 s mark of a hold of RESET. -/
  | serviceResetHold
  /-- OPERATION_COMPLETE (R21). -/
  | operationComplete
  /-- FRESHNESS_TICK (R76). -/
  | freshnessTick
  /-- TURN_SIGNAL_COUNT_TIMEOUT (R4). -/
  | turnSignalCountTimeout
  /-- INIT_QUIET_REACHED (R51). -/
  | initQuietReached
  /-- ACCESS_WAIT_REACHED (R52). -/
  | accessWaitReached
  /-- CLASH (R53): an echo mismatch (`breakFirst` false) or a break recognised while SENDING (true). -/
  | clash (breakFirst : Bool)
  /-- MESSAGE_SENT (R54). -/
  | messageSent
  /-- BREAK_RECOGNISED (R49). -/
  | breakRecognised
  /-- BREAK_END (R50): the own break has lasted 12 bit times; `stillDriven` while another station drives on. -/
  | breakEnd (stillDriven : Bool)
  /-- LINE_STUCK (R55). -/
  | lineStuck
  /-- LINE_RELEASED (R55). -/
  | lineReleased
  /-- END_GAP (R60): the end gap of a message of these bytes, with a framing error or without. -/
  | endGap (bytes : List Byte) (framingError : Bool)
  /-- SILENCE_TIMER_EXPIRY (R64). -/
  | silenceTimerExpiry
  /-- RATE_40H_EXPIRY (R67). -/
  | rate40hExpiry
  /-- RATE_41H_EXPIRY (R68). -/
  | rate41hExpiry
  /-- GAUGE_UPDATE (R92). -/
  | gaugeUpdate
  /-- PARK_COUNT_EXPIRY (R100) of one gauge. -/
  | parkCountExpiry (gauge : Fin 6)
  /-- SWEEP_TICK (R97). -/
  | sweepTick
  /-- SWEEP_END (R98). -/
  | sweepEnd
  /-- EVALUATION (R105). -/
  | evaluation
  /-- ARBITER_TICK (R128). -/
  | arbiterTick
  /-- SHOWN_TIMER_EXPIRY (R127). -/
  | shownTimerExpiry
  /-- REMINDER_TIMER_EXPIRY (R128) of one warning. -/
  | reminderTimerExpiry (warning : Fin 32)
  /-- REVIEW_TIMER_EXPIRY (R125). -/
  | reviewTimerExpiry
  /-- RATE_43H_EXPIRY (R135). -/
  | rate43hExpiry
  /-- PATTERN_COMPLETE (R127): the sound unit's report for one warning. -/
  | patternComplete (warning : Fin 32)
  /-- SERVICE_EDGE_REQUEST (R120). -/
  | serviceEdgeRequest (which : ServiceWarning)
  /-- CADENCE_EXPIRY (R139). -/
  | cadenceExpiry
  /-- CLICK_TIMER_EXPIRY (R143). -/
  | clickTimerExpiry
  /-- TICK_TIMER_EXPIRY (R143). -/
  | tickTimerExpiry
  /-- FLASH_COUNTER_EXPIRY (R147). -/
  | flashCounterExpiry
  /-- BULB_CHECK_EXPIRY (R149). -/
  | bulbCheckExpiry
  /-- DISPLAY_TIMER_EXPIRY (R45). -/
  | displayTimerExpiry
  /-- DISPLAY_TRANSFER_END (R45). -/
  | displayTransferEnd
  /-- BLOCK_READ_END (R173). -/
  | blockReadEnd
  /-- BLOCK_WRITE_READY (R174). -/
  | blockWriteReady
  /-- BLOCK_WRITE_TIMEOUT (R174). -/
  | blockWriteTimeout
  /-- PWR_GOOD_FALL (R176). -/
  | pwrGoodFall
  /-- PWR_GOOD_RISE (R176). -/
  | pwrGoodRise
  /-- KEY_POSITION_CHANGE (R181): the filtered levels of IGN-ACC and IGN-RUN after the change. -/
  | keyPositionChange (acc run : Bool)
  /-- WAKE_INPUT_CHANGE (R181): the filtered level of WAKE after the change. -/
  | wakeInputChange (high : Bool)
  /-- WATCH_TIMER_EXPIRY (R181). -/
  | watchTimerExpiry
  /-- HOLDUP_TIMER_EXPIRY (R182). -/
  | holdupTimerExpiry
  /-- READ_BYTES (R189): request 60h. -/
  | readBytes (block offset : Byte)
  /-- WRITE_BYTES (R168): request 61h. -/
  | writeBytes (block offset : Byte) (data : List Byte)
  /-- FETCH (R166): request 62h, operation 0. -/
  | fetch (block : Byte)
  /-- FETCH_AND_PIN (R167): request 62h, operation 1. -/
  | fetchAndPin (block : Byte)
  /-- UNPIN (R167): request 62h, operation 2. -/
  | unpin (block : Byte)
  /-- WRITEBACK (R169): request 62h, operation 3. -/
  | writeback (block : Byte)
  /-- WRITEBACK_INVALIDATE (R170): request 62h, operation 4. -/
  | writebackInvalidate (block : Byte)
  /-- INVALIDATE (R170): request 62h, operation 5. -/
  | invalidate (block : Byte)
  /-- VERIFY (R171): request 62h, operation 6. -/
  | verify (block : Byte)
  /-- INDEX_WRITEBACK_INVALIDATE (R170): request 62h, operation 7. -/
  | indexWritebackInvalidate (set way : Byte)
  /-- SET_ODOMETER (R178): request 63h. -/
  | setOdometer (value : BitVec 24)
  /-- CLOSE (R177): request 64h. -/
  | close
  /-- SERVICE_RESET (R160): request 65h. -/
  | serviceReset (item : Byte)
  /-- ACKNOWLEDGE_WARNING (R126): request 66h. -/
  | acknowledgeWarning (warning : Byte)
  /-- READ_STATUS (R191): request 67h. -/
  | readStatus (selector index : Byte)
  /-- GAUGE_TEST (R99): request 68h. -/
  | gaugeTest
  /-- LINE_DRIVEN (R50): another station drives the line. -/
  | lineDriven
  /-- LINE_RELEASED_AFTER_BREAK (R49). -/
  | lineReleasedAfterBreak
deriving DecidableEq, Repr

end Sys2Proof
end

