-- ==== Sys2Proof/Decode.lean ====
section
/-! DEFINITION. Reading a command from table bits. No row of spec/opcode_table.json gives bits (the part has no
instruction words; its commands are events), so no word spells a command. -/

namespace Sys2Proof

/-- The command that a word spells by the table's bits: none for every word, since no row has bits. -/
def decodeTableWord (_nbits _w : Nat) : Option Instr := none

end Sys2Proof
end

