-- ==== Sys2Proof/Config.lean ====
section
/-! DEFINITION. The values that the spec leaves open, as constants without a body: nothing can be proved of them, so
a statement that holds holds whatever they are. Fixed sizes of the part stand here too. -/

namespace Sys2Proof.Config

/-- Content of a byte of the nonvolatile memory whose block write was abandoned or failed: "left of unknown content"
(R176, R179). Applied to the free-value counter of State. Log entry 4. -/
opaque unknownByte : Nat → Byte

/-- The 16-bit value item stored in a trip record beside an outcome of NONE: the layout of Table 12-6 has the item, no
rule gives it a value (R20, R30, R32). Applied to the free-value counter of State. Log entry 5. -/
opaque noneValue : Nat → BitVec 16

/-- The ON-phase index after 255, the top of its range (Figure 8-1): R139 has it gain 1 at every ON phase of a
pattern without end and states no successor of 255. Applied to the free-value counter of State. Log entry 6. -/
opaque onIndexAfterTop : Nat → Nat

/-- The topic that an unused general entry of the built-in default image reports to READ STATUS (R72, R86 state only
that the entry is unused). Applied to the entry number. Log entry 7. -/
opaque unusedTopic : Nat → Byte

/-- Most messages of the transmit queue (R56). -/
def queueSize : Nat := 12

/-- Most orders of the copy engine's order list (R172). -/
def orderListSize : Nat := 4

/-- Number of blocks of the nonvolatile memory (R163). -/
def blockCount : Nat := 64

/-- Data bytes of a block (R163). -/
def blockData : Nat := 15

end Sys2Proof.Config
end

