-- ==== Sys2Proof/Machine/Bytes.lean ====
section
/-! DEFINITION. The conventions of R192: byte order, signed values, check bytes; and the small list helpers that every
block uses. -/

namespace Sys2Proof.Machine

/-- A count that gains `d` and is held at `limit` ("saturating at", "held at maximum"). -/
def satAdd (limit n d : Nat) : Nat := min limit (n + d)

/-- Byte `i` of a list of bytes; a byte that is not there reads 0. -/
def byteAt (bs : List Byte) (i : Nat) : Nat := (bs.getD i 0).toNat

/-- Two bytes at offset `i`, most significant first (R192). -/
def wordAt (bs : List Byte) (i : Nat) : Nat := byteAt bs i * 256 + byteAt bs (i + 1)

/-- Three bytes at offset `i`, most significant first (R192). -/
def tripleAt (bs : List Byte) (i : Nat) : Nat := byteAt bs i * 65536 + wordAt bs (i + 1)

/-- Bit `k` of byte `i`. -/
def bitAt (bs : List Byte) (i k : Nat) : Bool := (byteAt bs i).testBit k

/-- The value of a `w`-bit number read as two's complement (R192). -/
def signedOf (w n : Nat) : Int := if n < 2 ^ (w - 1) then (n : Int) else (n : Int) - 2 ^ w

/-- Two bytes at offset `i` as a signed value. -/
def signedWordAt (bs : List Byte) (i : Nat) : Int := signedOf 16 (wordAt bs i)

/-- One byte of a number, mod 256. -/
def byteOf (n : Nat) : Byte := BitVec.ofNat 8 n

/-- A number as two bytes, most significant first. -/
def bytes2 (n : Nat) : List Byte := [byteOf (n / 256), byteOf n]

/-- A number as three bytes, most significant first. -/
def bytes3 (n : Nat) : List Byte := [byteOf (n / 65536), byteOf (n / 256), byteOf n]

/-- An integer reduced to `w` bits, two's complement. -/
def wrapSigned (w : Nat) (i : Int) : Nat := (i % 2 ^ w).toNat

/-- A signed value as two bytes. -/
def signedBytes2 (i : Int) : List Byte := bytes2 (wrapSigned 16 i)

/-- The bytes `new` put over `bs` from offset `off` on. -/
def splice (bs : List Byte) (off : Nat) (new : List Byte) : List Byte :=
  bs.take off ++ new ++ bs.drop (off + new.length)

/-- Sum of bytes, mod 256. -/
def byteSum (bs : List Byte) : Byte := bs.foldl (· + ·) 0

/-- The check byte that makes the sum of all bytes 0 mod 256. -/
def checkByteOf (bs : List Byte) : Byte := - byteSum bs

/-- A flag as a number. -/
def flagNat (b : Bool) : Nat := if b then 1 else 0

/-- Small codes packed from bit 0 up, `width` bits each: item n occupies the bits named for it (R192). -/
def packCodes (width : Nat) : List Nat → Nat
  | [] => 0
  | c :: cs => c + 2 ^ width * packCodes width cs

/-- The lowest index below `n` at which `p` holds. -/
def firstIndex (n : Nat) (p : Nat → Bool) : Option Nat := (List.range n).find? p

/-- How many indexes below `n` satisfy `p`. -/
def countBelow (n : Nat) (p : Nat → Bool) : Nat := ((List.range n).filter p).length

end Sys2Proof.Machine
end

