-- ==== Sys2Proof/Machine/Calibration.lean ====
section
/-! DEFINITION. The calibration image: its items as the blocks take them at the end of LOAD (limits included), the
built-in default image, the map of Table 12-7 that reads the items from the 855 data bytes of blocks 7 to 63, and the
check of R185. -/

namespace Sys2Proof.Machine

/-- Warning classes, most urgent first (R118). -/
inductive WarnClass
  | danger
  | caution
  | advisory
  | information
deriving DecidableEq, Repr

/-- The class as its number: lower is more urgent. -/
def WarnClass.rank : WarnClass → Nat
  | .danger => 0
  | .caution => 1
  | .advisory => 2
  | .information => 3

/-- A curve: nine x values and nine y values (Chapter 2, Curve Lookup). -/
structure Curve where
  xs : List Nat
  ys : List Nat
deriving DecidableEq, Repr

/-- A listen window 1 to 7 (R61); `source` none is ANY. -/
structure ListenWindow where
  first : Nat
  last : Nat
  source : Option Nat
  enabled : Bool
deriving DecidableEq, Repr

/-- The calibrated definition of a general entry (R72). -/
structure EntryDefinition where
  defined : Bool
  topic : Nat
  length : Nat
  limit : Nat
deriving DecidableEq, Repr

/-- Curve, damping shift and slew limit of a gauge (R88). -/
structure GaugeFigures where
  curve : Curve
  shift : Nat
  slew : Nat
deriving DecidableEq, Repr

/-- The built-in quantities of the warning rules (Tables 6-8 and 6-9). -/
inductive Quantity
  | speed
  | rpm
  | coolant
  | oil
  | battery
  | fuel
  | range
  | outside
  | doorBits
  | lidBits
  | parkBrake
  | keyWithDoorOpen
  | lampsWithKeyOut
  | turnDistance
  | e0WithoutValue
  | e2WithoutValue
  | lineFault
  | instrumentFault
deriving DecidableEq, Repr

/-- What a rule compares (R103). -/
inductive Source
  | builtIn (q : Quantity)
  | field (entry offset : Nat) (wide signed : Bool)
deriving DecidableEq, Repr

/-- Gates (Table 6-4). -/
inductive Gate
  | always
  | notRun
  | run
  | moving
  | stopped
  | engineRunning
deriving DecidableEq, Repr

/-- A condition set (R103). -/
structure ConditionSet where
  less : Bool
  equal : Bool
  greater : Bool
  unordered : Bool
deriving DecidableEq, Repr

/-- A rule record (Table 6-1); `edge` false is a LEVEL trigger. -/
structure RuleRecord where
  source : Source
  threshold : Int
  hysteresis : Nat
  cond : ConditionSet
  gate : Gate
  qualify : Nat
  release : Nat
  edge : Bool
  warning : Nat
deriving DecidableEq, Repr

/-- The calibrated items of one warning (R118). -/
structure WarningFigures where
  enabled : Bool
  pattern : Nat
  cls : WarnClass
  lamp : Option Nat
deriving DecidableEq, Repr

/-- A chime pattern (Table 8-2). -/
structure Pattern where
  first : Nat
  second : Option Nat
  onTime : Nat
  offTime : Nat
  repeats : Nat
  loud : Bool
deriving DecidableEq, Repr

/-- Lamp kinds (R146). -/
inductive LampKind
  | warning
  | turnLeft
  | turnRight
  | highBeam
  | unused
deriving DecidableEq, Repr

/-- The calibration figures of a service item (Table 9-1). -/
structure ItemFigures where
  enabled : Bool
  distanceInterval : Nat
  dayInterval : Nat
  aheadKm : Nat
  aheadDays : Nat
  marginKm : Nat
  marginDays : Nat
deriving DecidableEq, Repr

/-- The calibrated items of the whole part. A slot without a rule record is inactive. -/
structure Calibration where
  station : Nat
  divisor : Nat
  refuel : Nat
  economy : Nat
  fixedLimits : List Nat
  windows : List ListenWindow
  entries : List EntryDefinition
  tank : Curve
  gauges : List GaugeFigures
  slots : List (Option RuleRecord)
  warnings : List WarningFigures
  patterns : List Pattern
  lamps : List LampKind
  items : List ItemFigures
deriving DecidableEq, Repr

/-! ### Fixed items of the built-in rules and warnings -/

/-- The class of a warning whose class is built in (Table 6-10); `calibrated` is the image's class, for 14 to 25. -/
def classOf (w : Nat) (calibrated : WarnClass) : WarnClass :=
  if 14 ≤ w ∧ w ≤ 25 then calibrated
  else if w ≤ 1 then .danger
  else if w ≤ 5 then .caution
  else if w ≤ 9 then .advisory
  else if w ≤ 12 then .caution
  else if w = 13 then .advisory
  else if w ≤ 27 then .information
  else if w = 28 ∨ w = 31 then .advisory
  else .caution

/-- A condition set from its members in the order LESS, EQUAL, GREATER, UNORDERED. -/
def condOf (l e g u : Bool) : ConditionSet := ⟨l, e, g, u⟩

/-- The fixed items of a built-in slot 0 to 16 (Table 6-7), with the four calibrated figures. -/
def builtInRule (slot : Nat) (threshold : Int) (hysteresis qualify release : Nat) : RuleRecord :=
  let mk (q : Quantity) (c : ConditionSet) (g : Gate) (edge : Bool) (w : Nat) : RuleRecord :=
    { source := .builtIn q, threshold := threshold, hysteresis := hysteresis, cond := c, gate := g,
      qualify := qualify, release := release, edge := edge, warning := w }
  let less := condOf true false false false
  let greater := condOf false false true false
  match slot with
  | 0 => mk .oil (condOf true false false true) .engineRunning false 0
  | 1 => mk .coolant greater .run false 1
  | 2 => mk .battery less .engineRunning false 2
  | 3 => mk .parkBrake greater .moving false 3
  | 4 => mk .doorBits greater .moving false 4
  | 5 => mk .lidBits greater .moving false 5
  | 6 => mk .range less .run true 6
  | 7 => mk .fuel less .run true 6
  | 8 => mk .keyWithDoorOpen greater .notRun false 7
  | 9 => mk .lampsWithKeyOut greater .notRun false 8
  | 10 => mk .speed greater .run false 9
  | 11 => mk .e0WithoutValue greater .run false 10
  | 12 => mk .e2WithoutValue greater .run false 11
  | 13 => mk .lineFault greater .always false 12
  | 14 => mk .instrumentFault greater .always true 13
  | 15 => mk .outside (condOf true true false false) .run true 26
  | _ => mk .turnDistance greater .moving false 31

/-! ### The built-in default image -/

/-- Default curve of Table 2-4 (the tank curve). -/
def defaultTank : Curve := ⟨[0, 20, 45, 75, 110, 150, 190, 225, 254], [0, 50, 130, 230, 350, 480, 610, 730, 820]⟩

/-- Default figures of the gauges (Tables 5-2 and 5-3). -/
def defaultGauges : List GaugeFigures :=
  [⟨⟨[0, 100, 200, 400, 600, 1000, 1400, 2000, 2600], [0, 27, 54, 108, 162, 270, 378, 540, 702]⟩, 2, 24⟩,
   ⟨⟨[0, 500, 1000, 2000, 3000, 4000, 5000, 6000, 7000], [0, 50, 100, 200, 300, 400, 500, 600, 700]⟩, 1, 40⟩,
   ⟨⟨[0, 50, 100, 200, 300, 400, 500, 650, 820], [0, 16, 32, 64, 96, 128, 160, 208, 256]⟩, 5, 2⟩,
   ⟨⟨[0, 80, 100, 110, 120, 130, 140, 150, 160], [0, 20, 60, 100, 128, 128, 150, 200, 256]⟩, 4, 4⟩,
   ⟨⟨[0, 25, 50, 75, 100, 125, 150, 175, 200], [0, 32, 64, 96, 128, 160, 192, 224, 256]⟩, 3, 8⟩,
   ⟨⟨[0, 80, 100, 110, 120, 130, 140, 150, 160], [0, 0, 32, 64, 96, 128, 160, 192, 256]⟩, 4, 4⟩]

/-- Default listen windows 1 to 7 (Table 3-8). -/
def defaultWindows : List ListenWindow :=
  [⟨0x10, 0x11, some 3, true⟩, ⟨0x20, 0x20, some 4, true⟩, ⟨0x30, 0x30, some 5, true⟩] ++
    List.replicate 4 ⟨0, 0, none, false⟩

/-- Default slots: 0 to 16 with the values of Table 6-7, 17 to 31 inactive (R104). -/
def defaultSlots : List (Option RuleRecord) :=
  [some (builtInRule 0 10 2 20 10), some (builtInRule 1 158 3 30 30), some (builtInRule 2 125 3 100 20),
   some (builtInRule 3 0 0 10 0), some (builtInRule 4 0 0 5 0), some (builtInRule 5 0 0 5 0),
   some (builtInRule 6 50 10 50 0), some (builtInRule 7 80 20 50 0), some (builtInRule 8 0 0 0 0),
   some (builtInRule 9 0 0 10 0), some (builtInRule 10 1300 20 30 50), some (builtInRule 11 0 0 50 0),
   some (builtInRule 12 0 0 50 0), some (builtInRule 13 0 0 10 20), some (builtInRule 14 0 0 0 0),
   some (builtInRule 15 3 2 50 0), some (builtInRule 16 160 0 0 0)] ++ List.replicate 15 none

/-- Default pattern index and lamp number of a warning (Table 8-4). -/
def defaultPatternLamp (w : Nat) : Nat × Option Nat :=
  if w = 0 then (0, some 0)
  else if w = 1 then (0, some 1)
  else if w = 2 then (1, some 2)
  else if w = 3 then (1, some 3)
  else if w ≤ 5 then (1, some 4)
  else if w = 6 then (2, some 5)
  else if w ≤ 8 then (2, none)
  else if w = 9 then (2, some 6)
  else if w ≤ 12 then (1, some 7)
  else if w = 13 then (2, some 7)
  else if w ≤ 25 then (1, none)
  else if w = 26 then (3, some 8)
  else if w = 27 then (3, some 9)
  else if w = 28 then (2, some 9)
  else if w = 29 then (1, some 9)
  else if w = 30 then (4, some 10)
  else (5, none)

/-- Default warnings: all enabled but warning 9 (R115). The class of 14 to 25 in the default image is the model's
(DESIGN CHOICE, log entry 8; no rule feeds these warnings in that image). -/
def defaultWarning (w : Nat) : WarningFigures :=
  { enabled := w != 9, pattern := (defaultPatternLamp w).1, cls := classOf w .caution, lamp := (defaultPatternLamp w).2 }

/-- Default chime patterns (Table 8-3). -/
def defaultPatterns : List Pattern :=
  [⟨7, some 5, 25, 5, 0, true⟩, ⟨3, none, 30, 70, 5, true⟩, ⟨2, none, 20, 30, 2, false⟩, ⟨1, some 0, 15, 10, 2, false⟩,
   ⟨4, some 3, 20, 20, 3, true⟩, ⟨6, none, 10, 0, 1, false⟩, ⟨2, none, 20, 30, 2, false⟩, ⟨2, none, 20, 30, 2, false⟩]

/-- Default lamp kinds (R146). -/
def defaultLamps : List LampKind :=
  List.replicate 11 .warning ++ [.unused, .unused, .turnLeft, .turnRight, .highBeam]

/-- The limits that the service unit puts on an item's figures (R151). -/
def limitItem (f : ItemFigures) : ItemFigures :=
  let cap (n : Nat) : Nat := min n 32000
  let margin (n : Nat) : Nat := if cap n = 0 then 1 else cap n
  let ahead (n interval : Nat) : Nat := if cap n < cap interval then cap n else cap interval - 1
  { enabled := f.enabled
    distanceInterval := cap f.distanceInterval
    dayInterval := cap f.dayInterval
    aheadKm := ahead f.aheadKm f.distanceInterval
    aheadDays := ahead f.aheadDays f.dayInterval
    marginKm := margin f.marginKm
    marginDays := margin f.marginDays }

/-- Default service items (Table 9-2). DEDUCED (log entry 51): limited as every image's are (R151), so that the 60,000 km of
item 3 are taken as 32,000. -/
def defaultItems : List ItemFigures :=
  let given : List ItemFigures :=
    [⟨true, 15000, 365, 1000, 30, 1000, 30⟩, ⟨true, 30000, 0, 2000, 0, 2000, 0⟩, ⟨true, 0, 730, 0, 60, 0, 60⟩,
     ⟨true, 60000, 1460, 3000, 60, 3000, 60⟩] ++ List.replicate 4 ⟨false, 0, 0, 0, 0, 0, 0⟩
  given.map limitItem

/-- The built-in default image. -/
def builtInDefaults : Calibration where
  station := 2
  divisor := 40
  refuel := 50
  economy := 150
  fixedLimits := [5, 10, 10, 20]
  windows := defaultWindows
  entries := (List.range 12).map fun i => ⟨false, (Config.unusedTopic (i + 4)).toNat, 0, 0⟩
  tank := defaultTank
  gauges := defaultGauges
  slots := defaultSlots
  warnings := (List.range 32).map defaultWarning
  patterns := defaultPatterns
  lamps := defaultLamps
  items := defaultItems

/-! ### Reading the items from the image (Tables 12-7 and 12-8) -/

/-- The curve whose 36 bytes begin at offset `o`. -/
def readCurve (img : List Byte) (o : Nat) : Curve :=
  ⟨(List.range 9).map fun i => wordAt img (o + 2 * i), (List.range 9).map fun i => wordAt img (o + 18 + 2 * i)⟩

/-- Strictly increasing. -/
def strictlyRising : List Nat → Bool
  | a :: b :: rest => decide (a < b) && strictlyRising (b :: rest)
  | _ => true

/-- Non-decreasing. -/
def neverFalling : List Nat → Bool
  | a :: b :: rest => decide (a ≤ b) && neverFalling (b :: rest)
  | _ => true

/-- The ordering that every curve in use has; a curve without it breaks its ordering (R185). -/
def Curve.ordered (c : Curve) : Bool :=
  strictlyRising c.xs && neverFalling c.ys && c.xs.all (· ≠ 65535) && c.ys.all (· ≠ 65535)

/-- The seven curves of an image: the tank curve, then G0 to G5. -/
def imageCurves (img : List Byte) : List Curve := (List.range 7).map fun i => readCurve img (86 + 36 * i)

/-- The built-in quantity of a source code (Chapter 12). -/
def quantityOfCode : Nat → Option Quantity
  | 0 => some .speed
  | 1 => some .rpm
  | 2 => some .coolant
  | 3 => some .oil
  | 4 => some .battery
  | 5 => some .fuel
  | 6 => some .range
  | 7 => some .outside
  | 8 => some .doorBits
  | 9 => some .lidBits
  | 10 => some .parkBrake
  | 11 => some .keyWithDoorOpen
  | 12 => some .lampsWithKeyOut
  | 13 => some .turnDistance
  | 14 => some .e0WithoutValue
  | 15 => some .e2WithoutValue
  | 16 => some .lineFault
  | 17 => some .instrumentFault
  | _ => none

/-- The gate of a gate code (Table 12-8). -/
def gateOfCode : Nat → Option Gate
  | 0 => some .always
  | 1 => some .notRun
  | 2 => some .run
  | 3 => some .moving
  | 4 => some .stopped
  | 5 => some .engineRunning
  | _ => none

/-- The source of a calibrated slot: a built-in quantity, or in slots 20 to 31 a field of E4 to E15 whose offset does
not exceed 7 (R104, Table 12-8). -/
def sourceOf (slot code offset widthBits : Nat) : Option Source :=
  if 0x84 ≤ code ∧ code ≤ 0x8F then
    if 20 ≤ slot ∧ offset ≤ 7 then some (.field (code - 0x80) offset (widthBits.testBit 0) (widthBits.testBit 1)) else none
  else (quantityOfCode code).map .builtIn

/-- The warnings permitted to a calibrated slot (Table 6-2). -/
def permittedWarning (slot w : Nat) : Bool :=
  if slot < 20 then decide (w ≤ 13) || w == 26 || w == 31 else decide (14 ≤ w) && decide (w ≤ 25)

/-- The record of a slot 17 to 31, none when its defined flag is clear or it is not well formed (R104, Table 12-8). -/
def readSlot (img : List Byte) (slot : Nat) : Option RuleRecord :=
  let o := 435 + 11 * (slot - 17)
  let cond := condOf (bitAt img o 1) (bitAt img o 2) (bitAt img o 3) (bitAt img o 4)
  if !bitAt img o 0 || !(cond.less || cond.equal || cond.greater || cond.unordered)
      || !permittedWarning slot (byteAt img (o + 10)) then none
  else
    match gateOfCode (byteAt img (o + 1)), sourceOf slot (byteAt img (o + 2)) (byteAt img (o + 3)) (byteAt img (o + 4)) with
    | some g, some src =>
      some { source := src, threshold := signedWordAt img (o + 5), hysteresis := byteAt img (o + 7), cond := cond,
             gate := g, qualify := byteAt img (o + 8), release := byteAt img (o + 9), edge := bitAt img o 5,
             warning := byteAt img (o + 10) }
    | _, _ => none

/-- The record of a slot 0 to 16: the built-in items and the four calibrated figures. -/
def readBuiltInSlot (img : List Byte) (slot : Nat) : RuleRecord :=
  let o := 350 + 5 * slot
  builtInRule slot (signedWordAt img o) (byteAt img (o + 2)) (byteAt img (o + 3)) (byteAt img (o + 4))

/-- The class of a two-bit code. -/
def classOfCode : Nat → WarnClass
  | 0 => .danger
  | 1 => .caution
  | 2 => .advisory
  | _ => .information

/-- The calibrated items of warning `w` (Table 12-7). -/
def readWarning (img : List Byte) (w : Nat) : WarningFigures :=
  let b := byteAt img (600 + 2 * w)
  let lamp := byteAt img (601 + 2 * w)
  { enabled := b.testBit 0, pattern := b / 2 % 8, cls := classOf w (classOfCode (b / 16 % 4)),
    lamp := if lamp ≤ 15 then some lamp else none }

/-- Pattern `p`, limited as R138 gives. -/
def readPattern (img : List Byte) (p : Nat) : Pattern :=
  let o := 664 + 6 * p
  { first := min 7 (byteAt img o)
    second := if byteAt img (o + 1) ≤ 7 then some (byteAt img (o + 1)) else none
    onTime := max 1 (byteAt img (o + 2))
    offTime := byteAt img (o + 3)
    repeats := min 254 (byteAt img (o + 4))
    loud := byteAt img (o + 5) == 0 }

/-- The lamp kind of a code (Table 12-7). -/
def lampKindOf : Nat → LampKind
  | 0 => .warning
  | 1 => .turnLeft
  | 2 => .turnRight
  | 3 => .highBeam
  | _ => .unused

/-- The figures of service item `i`, limited as R151 gives. -/
def readItem (img : List Byte) (i : Nat) : ItemFigures :=
  let o := 728 + 13 * i
  limitItem
    { enabled := byteAt img o != 0, distanceInterval := wordAt img (o + 1), dayInterval := wordAt img (o + 3),
      aheadKm := wordAt img (o + 5), aheadDays := wordAt img (o + 7), marginKm := wordAt img (o + 9),
      marginDays := wordAt img (o + 11) }

/-- A listen window 1 to 7. -/
def readWindow (img : List Byte) (i : Nat) : ListenWindow :=
  let o := 10 + 4 * i
  let src := byteAt img (o + 2) % 16
  { first := byteAt img o, last := byteAt img (o + 1), source := if src = 0 then none else some src,
    enabled := byteAt img (o + 3) != 0 }

/-- The definition of a general entry; a limit of 0 is taken as 1 (R72). -/
def readEntry (img : List Byte) (i : Nat) : EntryDefinition :=
  let o := 38 + 4 * i
  { defined := byteAt img o != 0, topic := byteAt img (o + 1), length := byteAt img (o + 2),
    limit := max 1 (byteAt img (o + 3)) }

/-- The figures of a gauge, limited as R88 gives. -/
def readGauge (img : List Byte) (g : Nat) : GaugeFigures :=
  { curve := readCurve img (86 + 36 * (g + 1)), shift := min 5 (byteAt img (338 + 2 * g)),
    slew := max 1 (byteAt img (339 + 2 * g)) }

/-- The station number as clamped: 0 or 15 is taken as 2 (R185). -/
def clampStation (n : Nat) : Nat := if n = 0 ∨ n = 15 then 2 else n

/-- The divisor as clamped to 10 to 160 (R185). -/
def clampDivisor (d : Nat) : Nat := max 10 (min 160 d)

/-- How many of the two clamped items of an image were clamped (R185). -/
def clampsOf (img : List Byte) : Nat :=
  flagNat (clampStation (byteAt img 0 % 16) != byteAt img 0 % 16) + flagNat (clampDivisor (byteAt img 1) != byteAt img 1)

/-- The items of a kept image, clamped and limited. -/
def readImage (img : List Byte) : Calibration where
  station := clampStation (byteAt img 0 % 16)
  divisor := clampDivisor (byteAt img 1)
  refuel := wordAt img 2
  economy := wordAt img 4
  fixedLimits := (List.range 4).map fun i => max 1 (byteAt img (6 + i))
  windows := (List.range 7).map (readWindow img)
  entries := (List.range 12).map (readEntry img)
  tank := readCurve img 86
  gauges := (List.range 6).map (readGauge img)
  slots := (List.range 32).map fun i => if i < 17 then some (readBuiltInSlot img i) else readSlot img i
  warnings := (List.range 32).map (readWarning img)
  patterns := (List.range 8).map (readPattern img)
  lamps := (List.range 16).map fun i => lampKindOf (byteAt img (712 + i))
  items := (List.range 8).map (readItem img)

/-- The image fails its check: a bad block check, or a curve that breaks its ordering (R185). -/
def imageFails (img : List Byte) (badCheck : Bool) : Bool := badCheck || !(imageCurves img).all Curve.ordered

end Sys2Proof.Machine
end

