-- ==== Sys2Proof/Machine/State.lean ====
section
/-! DEFINITION. The state of the part, block by block, as plain data; the reasons a step could stop; and the state
right after power-on reset. A timer is the number of its own units left, none while it is stopped. -/

namespace Sys2Proof.Machine

/-- Faults. The spec names none: an event that a state does not list leaves that state as it is (R50, R181), so no
command stops the part, and this type has no constructor. Safe: nothing can be claimed of a fault. -/
inductive Fault
deriving DecidableEq, Repr

/-- Refusals. -/
inductive Refusal
  /-- Raised by exec alone, for a row that has no meaning yet; every row has one, so it is never raised. Safe. -/
  | notModelled (mnemonic : String)
deriving DecidableEq, Repr

/-! ### Ignition controller and start-up load (Chapter 11) -/

/-- The six ignition states (R181). -/
inductive Ign
  | load
  | sleep
  | watch
  | accessory
  | run
  | holdup
deriving DecidableEq, Repr

/-- What the start-up load has gathered (R184 to R187): the block whose fill it awaits, the data bytes of the
calibration blocks read so far, whether a check was bad, and the image once block 63 has been checked. -/
structure LoadProgress where
  awaits : Nat
  bytes : List Byte
  bad : Bool
  image : Calibration
deriving DecidableEq, Repr

/-- The ignition controller. `acc`, `run`, `wake` are the filtered levels; the `pin…` fields the levels at the pins and
the `…Samples` fields how many consecutive samples have shown a level other than the filtered one (R180). The watch and
holdup timers count 100 ms ticks, which `prescaler` divides from the base tick. -/
structure Ignition where
  state : Ign
  acc : Bool
  run : Bool
  wake : Bool
  pinAcc : Bool
  pinRun : Bool
  pinWake : Bool
  accSamples : Nat
  runSamples : Nat
  wakeSamples : Nat
  prescaler : Nat
  watchTimer : Option Nat
  holdupTimer : Option Nat
  calDefault : Bool
  clampCount : Nat
  load : LoadProgress
deriving DecidableEq, Repr

/-! ### Counting unit (Chapter 1) -/

/-- Clock setting states (R10). -/
inductive ClockSet
  | normal
  | hourSet
  | minuteSet
deriving DecidableEq, Repr

/-- The counting unit (Figure 1-1). `sinceAccepted` is the pulse interval timer, held at 100 µs, none before the first
accepted edge. `latestRaw` is the tank value of the last E2 arrival while E2 has one, `requestRaw` the raw value of the
outstanding FUEL request, `notedPulses` the n noted while a SPEED request is outstanding (R5, R15): it goes when that
request completes or is abandoned. -/
structure Counting where
  sinceAccepted : Option Nat
  stepCount : Nat
  openCount : Nat
  closedCount : Nat
  hasClosed : Bool
  windowTimer : Option Nat
  notedPulses : Option Nat
  speed : Nat
  stepTally : Nat
  odometerSub : Nat
  checkpoint : Nat
  serviceSub : Nat
  turnDistance : Nat
  turnActive : Bool
  turnTicks : Nat
  windowSteps : Nat
  windowFuel : Nat
  secondTimer : Nat
  hours : Nat
  minutes : Nat
  seconds : Nat
  dayCount : Nat
  heldDays : Nat
  clockSet : ClockSet
  keyIdle : Option Nat
  fuelReference : Option Nat
  implausible : Nat
  rawFuel : Option Nat
  fuel : Option Nat
  returnPending : Bool
  keptRaw : Option Nat
  latestRaw : Option Nat
  requestRaw : Option Nat
  refuelTimer : Nat
deriving DecidableEq, Repr

/-! ### Arithmetic unit (Chapter 2) -/

/-- The three trip records (R30). -/
inductive TripRecord
  | a
  | b
  | journey
deriving DecidableEq, Repr

/-- The sixteen targets (Table 2-6). -/
inductive Target
  | gauge (g : Nat)
  | speed
  | fuel
  | economy (r : TripRecord)
  | average (r : TripRecord)
  | inst
  | range
deriving DecidableEq, Repr

/-- A request (Table 2-5): `afterReturn` is the return mark; its age is its place in the list. -/
structure Request where
  target : Target
  n : Nat
  k : Nat
  c : Nat
  base : Nat
  generation : Nat
  afterReturn : Bool
deriving DecidableEq, Repr

/-- The request list, oldest first, the operation in flight (IDLE while there is none) and the discarded-result count. -/
structure Arith where
  list : List Request
  inFlight : Option Request
  discarded : Nat
deriving DecidableEq, Repr

/-- An arithmetic result kept by a target (R20, R30). -/
inductive Result
  | valid (v : Nat)
  | saturated (v : Nat)
  | none
deriving DecidableEq, Repr

/-! ### Trip computer and keys (Chapter 2) -/

/-- The selectable pages (R40). -/
inductive Page
  | tripA
  | tripB
  | journey
  | range
  | clock
  | service
deriving DecidableEq, Repr

/-- The views of the trip pages (R42). -/
inductive View
  | rates
  | totals
  | fuel
deriving DecidableEq, Repr

/-- The JOURNEY record, the results that belong to no record, the selected page and the view. Trips A and B live in the
cache lines of blocks 1 and 2 (R30). -/
structure Trip where
  distance : Nat
  fuel : Nat
  time : Nat
  generation : Nat
  economy : Result
  average : Result
  inst : Result
  range : Result
  page : Page
  view : View
deriving DecidableEq, Repr

/-- What a running hold would do at its mark; `idle` when there is no hold or it was abandoned (R10, R41, R159, R161). -/
inductive Hold
  | idle
  | clockSet
  | tripReset (r : TripRecord)
  | serviceReset
  | serviceStep (stepped : Bool)
deriving DecidableEq, Repr

/-- A cluster key: the level at its pin (`pinLow`) and how many consecutive samples have differed from the level it is
taken for, whether it counts as pressed, whether it was found low at an ignition change and must first be sampled high
(R39), its hold, and the base ticks of the hold. -/
structure KeyInput where
  pinLow : Bool
  samples : Nat
  pressed : Bool
  blocked : Bool
  hold : Hold
  holdTicks : Nat
deriving DecidableEq, Repr

/-- The four cluster keys. -/
structure Keys where
  mode : KeyInput
  reset : KeyInput
  set : KeyInput
  ack : KeyInput
deriving DecidableEq, Repr

/-- The display port (R45, R193): the record being clocked out, the record after which DSP-STB last pulsed (the last that
the driver received whole, none before the first pulse), the send-pending flag and the 100 ms timer. -/
structure Display where
  transfer : Option (List Byte)
  strobed : Option (List Byte)
  sendPending : Bool
  timer : Option Nat
deriving DecidableEq, Repr

/-! ### Line station (Chapter 3) -/

/-- Station states (R50). -/
inductive StationState
  | off
  | init
  | quiet
  | receiving
  | sending
  | breaking
  | stuck
deriving DecidableEq, Repr

/-- The kinds of message that the part sends (R47, Table 3-5). -/
inductive MsgKind
  | publication
  | reply
deriving DecidableEq, Repr

/-- What a queued message is to the workshop handler: nothing, a BUSY answer, or the reply of the request in progress
(R188, R190). -/
inductive Answer
  | none
  | busy
  | own
deriving DecidableEq, Repr

/-- A queued message (Table 3-5); its age is its place in the queue. `sending` marks the one being sent. -/
structure Msg where
  cls : Nat
  kind : MsgKind
  topic : Nat
  seq : Nat
  data : List Byte
  started : Bool
  sending : Bool
  attempts : Nat
  stagger : Nat
  answer : Answer
deriving DecidableEq, Repr

/-- The sequence counters, one per published topic (R57). -/
structure Sequences where
  t40 : Nat
  t41 : Nat
  t42 : Nat
  t43 : Nat
  t44 : Nat
  t70 : Nat
deriving DecidableEq, Repr

/-- The line station (Figure 3-1). `awaitsRelease` marks RECEIVING after a recognised break, until the line is released.
`driven` is the line as last reported driven by another station, `drivenTime` its driven time in bit times, `sendBits` the
bit times left of what the station is sending, and `sent` the bytes of the message on the line in SENDING (R47), else
none. -/
structure LineStation where
  state : StationState
  awaitsRelease : Bool
  quiet : Nat
  driven : Bool
  drivenTime : Nat
  sendBits : Nat
  sent : List Byte
  queue : List Msg
  seqs : Sequences
  stuck : Bool
  silent : Bool
  conflict : Bool
  silence : Option Nat
  rate40 : Option Nat
  rate41 : Option Nat
  receptionErrors : Nat
  clashes : Nat
  dropped : Nat
  conflicts : Nat
  unclaimed : Nat
deriving DecidableEq, Repr

/-! ### Topic table (Chapter 4) -/

/-- Freshness states (R70). -/
inductive Freshness
  | empty
  | fresh
  | stale
  | lost
deriving DecidableEq, Repr

/-- An entry of the topic table (Table 4-1). -/
structure Entry where
  topic : Nat
  length : Nat
  limit : Nat
  used : Bool
  state : Freshness
  age : Nat
  data : List Byte
  lastSource : Option Nat
  lastSeq : Option Nat
  arrivals : Nat
  missed : Nat
  formatErrors : Nat
deriving DecidableEq, Repr

/-- The sixteen entries E0 to E15 and the freshness tick's counter (R76). -/
structure Topics where
  entries : List Entry
  tick : Option Nat
deriving DecidableEq, Repr

/-! ### Gauges (Chapter 5) -/

/-- Gauge states (R90). -/
inductive GaugeState
  | parked
  | sweep
  | track
  | hold
  | rest
deriving DecidableEq, Repr

/-- A gauge (Figure 5-1): the coil levels follow from `commanded` while the coils are `driven`, and are 0 otherwise. -/
structure Gauge where
  state : GaugeState
  evaluated : Option Nat
  target : Nat
  filtered : Nat
  commanded : Nat
  parkCount : Nat
  driven : Bool
deriving DecidableEq, Repr

/-- The gauge unit: six gauges, the sweep position (none while no sweep runs), the test mark and the update timer. -/
structure Gauges where
  gauges : List Gauge
  sweep : Option Nat
  testMark : Bool
  timer : Option Nat
deriving DecidableEq, Repr

/-! ### Warning rules (Chapter 6) -/

/-- Rule states (R108). -/
inductive RuleState
  | clear
  | qualifying
  | asserted
  | releasing
deriving DecidableEq, Repr

/-- State and timer of a rule slot; its record is a calibrated item. -/
structure Slot where
  state : RuleState
  timer : Nat
deriving DecidableEq, Repr

/-- The 32 rule slots and the evaluation timer. -/
structure Rules where
  slots : List Slot
  timer : Option Nat
deriving DecidableEq, Repr

/-! ### Warning arbiter (Chapter 7) -/

/-- Warning states (R118). -/
inductive WarningState
  | off
  | pending
  | shown
  | held
  | silenced
deriving DecidableEq, Repr

/-- A warning: its state, whether its level request stands, shown timer, completion mark and reminder timer. -/
structure Warning where
  state : WarningState
  level : Bool
  shownTimer : Nat
  completed : Bool
  reminder : Nat
deriving DecidableEq, Repr

/-- Rear sub-warning states (R129). -/
inductive SubState
  | none
  | opened
  | ackedLocal
deriving DecidableEq, Repr

/-- A running review (R125). -/
structure Review where
  warning : Nat
  timer : Nat
deriving DecidableEq, Repr

/-- The warning arbiter (Figure 7-1). -/
structure Arbiter where
  warnings : List Warning
  cautionOrder : List Nat
  advisoryOrder : List Nat
  review : Option Review
  subs : List SubState
  presented : Option Nat
  tick : Option Nat
  rate43 : Option Nat
deriving DecidableEq, Repr

/-! ### Sound and lamp unit (Chapter 8) -/

/-- Chime channel states (R139, R140). -/
inductive Channel
  | idle
  | on
  | off
  | carry
  | done
deriving DecidableEq, Repr

/-- Output states of the sound arbiter (R143). -/
inductive Output
  | silent
  | chime
  | click
  | tick
deriving DecidableEq, Repr

/-- The current pattern: its index and the warning it sounds for (R139). -/
structure Playing where
  pattern : Nat
  warning : Nat
deriving DecidableEq, Repr

/-- The sound and lamp unit (Figure 8-1). `carryTone` and `carryLoud` are the tone and volume of the tone in CARRY, and
`toneCycle` is the tone counter as crystal cycles into the period of the tone driven (R137). The lamp outputs follow from
the warnings, E2, the flash phase and the bulb check. -/
structure Sound where
  channel : Channel
  playing : Option Playing
  cadence : Nat
  onIndex : Nat
  repeats : Nat
  carryTone : Nat
  carryLoud : Bool
  toneCycle : Nat
  quietCabin : Bool
  output : Output
  clickTimer : Nat
  tickTimer : Nat
  lastLeft : Bool
  lastRight : Bool
  flash : Option Nat
  lit : Bool
  bulbCheck : Option Nat
deriving DecidableEq, Repr

/-! ### Service unit (Chapter 9) -/

/-- Item states (R153). -/
inductive ItemState
  | ok
  | soon
  | due
  | overdue
deriving DecidableEq, Repr

/-- A service item; its stored fields live in its block's cache line (R152). -/
structure ServiceItem where
  state : ItemState
  pendingKm : Nat
  pendingDays : Nat
  waitsChauffeur : Bool
  waitsWorkshop : Bool
deriving DecidableEq, Repr

/-- The service unit: eight items, the fetch-outstanding marks of blocks 3 to 6, and the selected item. -/
structure Service where
  items : List ServiceItem
  fetchMarks : List Bool
  selected : Option Nat
deriving DecidableEq, Repr

/-! ### Record store (Chapter 10) -/

/-- Cache line states (R164). -/
inductive LineState
  | invalid
  | clean
  | dirty
  | filling
  | writing
deriving DecidableEq, Repr

/-- A cache line (Table 10-2); `recent` while it is the most recently used of its set. -/
structure CacheLine where
  tag : Option Nat
  state : LineState
  data : List Byte
  redirty : Bool
  pinned : Bool
  recent : Bool
deriving DecidableEq, Repr

/-- An order of the copy engine (Table 10-6); its age is its place in the list. A walk is a HOLDUP or a SWEEP order. The
workshop's request in progress may wait for a SINGLE order, and a SINGLE may write a victim for the fetch of a block. -/
inductive Order
  | walk (holdup : Bool) (position : Nat)
  | fill (block : Nat)
  | single (block : Nat) (workshop : Bool) (victimOf : Option Nat)
  | verify (block : Nat)
deriving DecidableEq, Repr

/-- What order a block write serves; `restarted` is a walk that began again at position 0 during the write (R172). -/
inductive WriteFor
  | single
  | walk
  | restarted
deriving DecidableEq, Repr

/-- The block operation on the port (R173). A write carries its line, its snapshot and the base ticks left of its 40 ms. -/
inductive EngineOp
  | readFill (block : Nat)
  | readVerify (block : Nat)
  | write (line : Nat) (snapshot : List Byte) (serves : WriteFor) (ticksLeft : Nat)
deriving DecidableEq, Repr

/-- A waiting request: a fetch that waits for room, for an eligible way or for the write of its DIRTY victim, or an
order that waits for room in the list (R166, R172). -/
inductive Waiting
  | fetch (block : Nat) (awaitsWrite : Bool)
  | order (o : Order)
deriving DecidableEq, Repr

/-- What the workshop's request in progress waits for at the store (R166 to R171, R178, R158). -/
inductive Task
  | none
  | fetch (block : Nat) (pin : Bool)
  | read (block offset : Nat)
  | write (block offset : Nat) (data : List Byte)
  | writeback (block : Nat)
  | writebackInvalidate (block : Nat) (ordered : Bool)
  | invalidate (block : Nat)
  | verify (block : Nat)
  | placing
deriving DecidableEq, Repr

/-- The nonvolatile memory: 1,024 bytes, address 16 × block + byte, as a list of the cells that differ from what an
unlisted address reads as. -/
structure NvMemory where
  cells : List Host.Cell
deriving DecidableEq, Repr

/-- The record store (Figure 10-1), with the PWR-GOOD input and the memory behind the port. -/
structure Store where
  lines : List CacheLine
  orders : List Order
  op : Option EngineOp
  waiting : List Waiting
  task : Task
  consecutiveFailures : Nat
  nvFailures : Nat
  nvFault : Bool
  latch : Bool
  pwrGood : Bool
  nv : NvMemory
deriving DecidableEq, Repr

/-! ### Workshop handler (Chapter 11) -/

/-- Handler states (R188). -/
inductive HandlerState
  | idle
  | working
  | replying
deriving DecidableEq, Repr

/-- The workshop handler: its state, the topic of the request in progress, and the unanswered count. -/
structure Handler where
  state : HandlerState
  topic : Nat
  unanswered : Nat
deriving DecidableEq, Repr

/-- The whole part. `cal` holds the calibrated items in use, `freeIndex` counts the free values used (the model's own
field), and `pending` is the queue of commands, first in first out (the model's own field). -/
structure State where
  ignition : Ignition
  counting : Counting
  arith : Arith
  trip : Trip
  keys : Keys
  display : Display
  line : LineStation
  topics : Topics
  gauges : Gauges
  rules : Rules
  arbiter : Arbiter
  sound : Sound
  service : Service
  store : Store
  handler : Handler
  cal : Calibration
  freeIndex : Nat
  pending : List Instr
deriving DecidableEq, Repr

/-! ### Power-on values -/

/-- A released key. -/
def KeyInput.released : KeyInput :=
  { pinLow := false, samples := 0, pressed := false, blocked := false, hold := .idle, holdTicks := 0 }

/-- An unused entry. DESIGN CHOICE (log entry 40): Table 4-13 gives E4 to E15 no definition from power-on reset to the end
of LOAD, and R72 none to an unused entry of the default image; here topic 0, length 0 and limit 1 stand for it. -/
def Entry.blank : Entry := ⟨0, 0, 1, false, .empty, 0, [], none, none, 0, 0, 0⟩

/-- A fixed entry of a topic and length, with its default limit (Table 4-2). -/
def Entry.fixed (topic length limit : Nat) : Entry :=
  { Entry.blank with topic := topic, length := length, limit := limit, used := true }

/-- A parked gauge with its coils off (R102). -/
def Gauge.off : Gauge := ⟨.parked, none, 0, 0, 0, 0, false⟩

/-- A CLEAR slot (R112). -/
def Slot.clear : Slot := ⟨.clear, 0⟩

/-- An OFF warning (R136). -/
def Warning.off : Warning := ⟨.off, false, 0, false, 0⟩

/-- A service item at power-on (R152). -/
def ServiceItem.fresh : ServiceItem := ⟨.ok, 0, 0, false, false⟩

/-- An INVALID cache line (R164). -/
def CacheLine.invalid : CacheLine := ⟨none, .invalid, List.replicate 15 0, false, false, false⟩

/-- The cache line that a fetch of block `b` fills (R166). -/
def CacheLine.filling (b : Nat) : CacheLine := { CacheLine.invalid with tag := some b, state := .filling }

/-- The machine right after power-on reset (R184): every block at its power-on values, the state LOAD, and the start-up
load begun, that is the FETCH of block 7 into set 3 way 0 placed and its read in progress. DESIGN CHOICE (log entry 2):
the spec gives the counting unit's 1 s timer no value here; it starts a full period of 100 base ticks. -/
def State.reset : State where
  ignition :=
    { state := .load, acc := false, run := false, wake := false, pinAcc := false, pinRun := false, pinWake := false,
      accSamples := 0, runSamples := 0, wakeSamples := 0, prescaler := 10, watchTimer := none, holdupTimer := none,
      calDefault := false, clampCount := 0,
      load := { awaits := 7, bytes := [], bad := false, image := builtInDefaults } }
  counting :=
    { sinceAccepted := none, stepCount := 0, openCount := 0, closedCount := 0, hasClosed := false, windowTimer := none,
      notedPulses := none, speed := 0, stepTally := 0, odometerSub := 0, checkpoint := 100, serviceSub := 0,
      turnDistance := 0, turnActive := false, turnTicks := 0, windowSteps := 0, windowFuel := 0, secondTimer := 100,
      hours := 0, minutes := 0, seconds := 0, dayCount := 0, heldDays := 0, clockSet := .normal, keyIdle := none,
      fuelReference := none, implausible := 0, rawFuel := none, fuel := none, returnPending := true, keptRaw := none,
      latestRaw := none, requestRaw := none, refuelTimer := 0 }
  arith := { list := [], inFlight := none, discarded := 0 }
  trip :=
    { distance := 0, fuel := 0, time := 0, generation := 0, economy := .none, average := .none, inst := .none,
      range := .none, page := .tripA, view := .rates }
  keys := { mode := .released, reset := .released, set := .released, ack := .released }
  display := { transfer := none, strobed := none, sendPending := false, timer := none }
  line :=
    { state := .init, awaitsRelease := false, quiet := 0, driven := false, drivenTime := 0, sendBits := 0, sent := [],
      queue := [],
      seqs := { t40 := 0, t41 := 0, t42 := 0, t43 := 0, t44 := 0, t70 := 0 }, stuck := false, silent := false,
      conflict := false, silence := none, rate40 := none, rate41 := none, receptionErrors := 0, clashes := 0,
      dropped := 0, conflicts := 0, unclaimed := 0 }
  topics :=
    { entries := [.fixed 0x10 5 5, .fixed 0x11 2 10, .fixed 0x20 5 10, .fixed 0x30 3 20] ++ List.replicate 12 .blank,
      tick := none }
  gauges := { gauges := List.replicate 6 .off, sweep := none, testMark := false, timer := none }
  rules := { slots := List.replicate 32 .clear, timer := none }
  arbiter :=
    { warnings := List.replicate 32 .off, cautionOrder := [], advisoryOrder := [], review := none,
      subs := List.replicate 8 .none, presented := none, tick := none, rate43 := none }
  sound :=
    { channel := .idle, playing := none, cadence := 0, onIndex := 1, repeats := 0, carryTone := 0, carryLoud := false,
      toneCycle := 0, quietCabin := false, output := .silent, clickTimer := 0, tickTimer := 0, lastLeft := false, lastRight := false,
      flash := none, lit := true, bulbCheck := none }
  service := { items := List.replicate 8 .fresh, fetchMarks := List.replicate 4 false, selected := none }
  store :=
    { lines := List.replicate 6 .invalid ++ [.filling 7, .invalid], orders := [.fill 7], op := some (.readFill 7),
      waiting := [], task := .none, consecutiveFailures := 0, nvFailures := 0, nvFault := false, latch := false,
      pwrGood := true, nv := { cells := [] } }
  handler := { state := .idle, topic := 0, unanswered := 0 }
  cal := builtInDefaults
  freeIndex := 0
  pending := []

end Sys2Proof.Machine
end

