-- ==== Sys2Proof/Machine/Ops.lean ====
section
/-! DEFINITION. The named operations that the blocks share: one update per block of the state, the nonvolatile memory,
the cache lines as the clients read and UPDATE them, the record views (odometer, trip records, service fields), and the
transmit queue. -/

namespace Sys2Proof.Machine

/-! ### One update per block -/

/-- The state with another `ignition`. -/
def State.setIgnition (s : State) (x : Ignition) : State := { s with ignition := x }

/-- The state with another `counting`. -/
def State.setCounting (s : State) (x : Counting) : State := { s with counting := x }

/-- The state with another `arith`. -/
def State.setArith (s : State) (x : Arith) : State := { s with arith := x }

/-- The state with another `trip`. -/
def State.setTrip (s : State) (x : Trip) : State := { s with trip := x }

/-- The state with another `keys`. -/
def State.setKeys (s : State) (x : Keys) : State := { s with keys := x }

/-- The state with another `display`. -/
def State.setDisplay (s : State) (x : Display) : State := { s with display := x }

/-- The state with another `line`. -/
def State.setLine (s : State) (x : LineStation) : State := { s with line := x }

/-- The state with another `topics`. -/
def State.setTopics (s : State) (x : Topics) : State := { s with topics := x }

/-- The state with another `gauges`. -/
def State.setGauges (s : State) (x : Gauges) : State := { s with gauges := x }

/-- The state with another `rules`. -/
def State.setRules (s : State) (x : Rules) : State := { s with rules := x }

/-- The state with another `arbiter`. -/
def State.setArbiter (s : State) (x : Arbiter) : State := { s with arbiter := x }

/-- The state with another `sound`. -/
def State.setSound (s : State) (x : Sound) : State := { s with sound := x }

/-- The state with another `service`. -/
def State.setService (s : State) (x : Service) : State := { s with service := x }

/-- The state with another `store`. -/
def State.setStore (s : State) (x : Store) : State := { s with store := x }

/-- The state with another `handler`. -/
def State.setHandler (s : State) (x : Handler) : State := { s with handler := x }

/-- The state with another `cal`. -/
def State.setCal (s : State) (x : Calibration) : State := { s with cal := x }

/-- The state with another `freeIndex`. -/
def State.setFreeIndex (s : State) (x : Nat) : State := { s with freeIndex := x }

/-- The state with another `pending`. -/
def State.setPending (s : State) (x : List Instr) : State := { s with pending := x }

/-! ### Ignition states -/

/-- WATCH, ACCESSORY, RUN and HOLDUP: the states in which the part is awake. -/
def Ign.awake : Ign → Bool
  | .watch | .accessory | .run | .holdup => true
  | .load | .sleep => false

/-- RUN and HOLDUP: the states in which pulses are accepted and the windows run (Table 1-7). -/
def Ign.counts : Ign → Bool
  | .run | .holdup => true
  | _ => false

/-- ACCESSORY and RUN: the states in which key presses are accepted (R39). -/
def Ign.keysAccepted : Ign → Bool
  | .accessory | .run => true
  | _ => false

/-- The ignition state. -/
def State.ign (s : State) : Ign := s.ignition.state

/-! ### Members of the blocks -/

/-- Entry `e` of the topic table. -/
def State.entry (s : State) (e : Nat) : Entry := s.topics.entries.getD e .blank

/-- Gauge `g`. -/
def State.gauge (s : State) (g : Nat) : Gauge := s.gauges.gauges.getD g .off

/-- Warning `w`. -/
def State.warning (s : State) (w : Nat) : Warning := s.arbiter.warnings.getD w .off

/-- Service item `i`. -/
def State.item (s : State) (i : Nat) : ServiceItem := s.service.items.getD i .fresh

/-- The calibrated items of warning `w`. -/
def State.warningFigures (s : State) (w : Nat) : WarningFigures := s.cal.warnings.getD w (defaultWarning w)

/-- The class of warning `w`. -/
def State.warningClass (s : State) (w : Nat) : WarnClass := (s.warningFigures w).cls

/-- The figures of service item `i`. -/
def State.itemFigures (s : State) (i : Nat) : ItemFigures :=
  s.cal.items.getD i { enabled := false, distanceInterval := 0, dayInterval := 0, aheadKm := 0, aheadDays := 0,
                       marginKm := 1, marginDays := 1 }

/-- The figures of gauge `g`. -/
def State.gaugeFigures (s : State) (g : Nat) : GaugeFigures :=
  s.cal.gauges.getD g { curve := ⟨[], []⟩, shift := 0, slew := 1 }

/-- Entry `e` replaced by `f` of it. -/
def State.modifyEntry (s : State) (e : Nat) (f : Entry → Entry) : State :=
  s.setTopics { s.topics with entries := s.topics.entries.modify e f }

/-- Gauge `g` replaced by `f` of it. -/
def State.modifyGauge (s : State) (g : Nat) (f : Gauge → Gauge) : State :=
  s.setGauges { s.gauges with gauges := s.gauges.gauges.modify g f }

/-- Warning `w` replaced by `f` of it. -/
def State.modifyWarning (s : State) (w : Nat) (f : Warning → Warning) : State :=
  s.setArbiter { s.arbiter with warnings := s.arbiter.warnings.modify w f }

/-- Service item `i` replaced by `f` of it. -/
def State.modifyItem (s : State) (i : Nat) (f : ServiceItem → ServiceItem) : State :=
  s.setService { s.service with items := s.service.items.modify i f }

/-! ### The nonvolatile memory (R163) -/

/-- What an address of the memory that no cell lists reads as (DESIGN CHOICE, log entry 3). -/
def blankByte : Byte := 0xFF

/-- The byte at an address. -/
def NvMemory.read (m : NvMemory) (a : Nat) : Byte :=
  match m.cells.find? fun c => c.1 == a with
  | some c => c.2
  | none => blankByte

/-- The cells with `v` at address `a`, in canonical form. -/
def writeCells : List Host.Cell → Nat → Byte → List Host.Cell
  | [], a, v => if v = blankByte then [] else [(a, v)]
  | c :: rest, a, v =>
    if c.1 < a then c :: writeCells rest a v
    else if c.1 = a then (if v = blankByte then rest else (a, v) :: rest)
    else if v = blankByte then c :: rest else (a, v) :: c :: rest

/-- The memory with one byte written. -/
def NvMemory.write (m : NvMemory) (a : Nat) (v : Byte) : NvMemory := ⟨writeCells m.cells a v⟩

/-- The memory with bytes written from address `a` on. -/
def NvMemory.writeMany (m : NvMemory) : Nat → List Byte → NvMemory
  | _, [] => m
  | a, v :: vs => (m.write a v).writeMany (a + 1) vs

/-- The 16 bytes of a block. -/
def NvMemory.block (m : NvMemory) (b : Nat) : List Byte := (List.range 16).map fun i => m.read (16 * b + i)

/-- Strictly rising addresses, all of them above `low`. -/
def risingFrom : Nat → List Host.Cell → Bool
  | _, [] => true
  | low, c :: rest => decide (low ≤ c.1) && risingFrom (c.1 + 1) rest

/-- The canonical form: addresses strictly rising and no cell equal to what an unlisted address reads as. -/
def NvMemory.wf (m : NvMemory) : Bool := risingFrom 0 m.cells && m.cells.all fun c => c.2 != blankByte

/-! ### Cache lines (R164) -/

/-- Cache line `i`: line 2 × set + way. -/
def Store.line (st : Store) (i : Nat) : CacheLine := st.lines.getD i .invalid

/-- Cache line `i` replaced by `f` of it. -/
def Store.modifyLine (st : Store) (i : Nat) (f : CacheLine → CacheLine) : Store :=
  { st with lines := st.lines.modify i f }

/-- The line holds block `b`, in a state other than INVALID. -/
def CacheLine.holds (b : Nat) (l : CacheLine) : Bool := l.tag == some b && l.state != .invalid

/-- A line in this state makes its block present: CLEAN, DIRTY or WRITING (R164). -/
def LineState.isPresent : LineState → Bool
  | .clean | .dirty | .writing => true
  | .invalid | .filling => false

/-- The line that holds block `b`, if one does. -/
def Store.find (st : Store) (b : Nat) : Option Nat := st.lines.findIdx? (CacheLine.holds b)

/-- The line in which block `b` is present. -/
def Store.presentLine (st : Store) (b : Nat) : Option Nat :=
  match st.find b with
  | some i => if (st.line i).state.isPresent then some i else none
  | none => none

/-- Block `b` is present. -/
def Store.present (st : Store) (b : Nat) : Bool := (st.presentLine b).isSome

/-- Block `b`'s line is FILLING. -/
def Store.filling (st : Store) (b : Nat) : Bool :=
  match st.find b with
  | some i => (st.line i).state == .filling
  | none => false

/-- The data of a present block. -/
def Store.dataOf (st : Store) (b : Nat) : List Byte :=
  match st.presentLine b with
  | some i => (st.line i).data
  | none => []

/-- The other way of a line's set. -/
def otherWay (i : Nat) : Nat := if i % 2 = 0 then i + 1 else i - 1

/-- Line `i` becomes the most recently used of its set, the other way the least (R164). -/
def Store.touch (st : Store) (i : Nat) : Store :=
  (st.modifyLine i fun l => { l with recent := true }).modifyLine (otherWay i) fun l => { l with recent := false }

/-- What an UPDATE does to the line itself: the bytes change, CLEAN becomes DIRTY, WRITING sets redirty (R165, R168). -/
def CacheLine.updated (f : List Byte → List Byte) (l : CacheLine) : CacheLine :=
  match l.state with
  | .clean => { l with data := f l.data, state := .dirty }
  | .writing => { l with data := f l.data, redirty := true }
  | _ => { l with data := f l.data }

/-- An UPDATE of a present block; the clients update no other (R168). -/
def Store.update (st : Store) (b : Nat) (f : List Byte → List Byte) : Store :=
  match st.presentLine b with
  | some i => (st.modifyLine i (CacheLine.updated f)).touch i
  | none => st

/-- An UPDATE taken at the store of the state. -/
def State.update (s : State) (b : Nat) (f : List Byte → List Byte) : State := s.setStore (s.store.update b f)

/-- Dirty lines present: some line is DIRTY or WRITING (R179). -/
def Store.dirtyReported (st : Store) : Bool := st.lines.any fun l => l.state == .dirty || l.state == .writing

/-! ### The odometer (R7, Table 12-6) -/

/-- The odometer: its value and whether its state is GOOD (else SUSPECT); none is NO VALUE, while block 0 is not
present. -/
def Store.odometer (st : Store) : Option (Nat × Bool) :=
  if st.present 0 then some (tripleAt (st.dataOf 0) 0, byteAt (st.dataOf 0) 3 == 0) else none

/-- The odometer value as a distance or reset takes it. -/
def Store.odometerValue (st : Store) : Nat := tripleAt (st.dataOf 0) 0

/-- The bytes of block 0 for a value. -/
def putOdometer (value : Nat) (bs : List Byte) : List Byte := splice bs 0 (bytes3 value)

/-- The bytes of block 0 for a value and a state (0 GOOD, 1 SUSPECT). -/
def putOdometerState (value state : Nat) (bs : List Byte) : List Byte := splice bs 0 (bytes3 value ++ [byteOf state])

/-- The largest odometer value (R7). -/
def odometerTop : Nat := 9999999

/-! ### Trip records (R30, Table 12-6) -/

/-- Where a distance, fuel or time field is held at maximum. -/
def tripTop : Nat := 16777215

/-- The block of trip A or B. -/
def TripRecord.block : TripRecord → Nat
  | .a => 1
  | .b => 2
  | .journey => 0

/-- A trip record's fields as a consumer reads them. -/
structure TripView where
  distance : Nat
  fuel : Nat
  time : Nat
  generation : Nat
  economy : Result
  average : Result
deriving DecidableEq, Repr

/-- The result of a stored value and outcome code; code 3 is taken as NONE (R31). -/
def storedResult (value code : Nat) : Result :=
  match code with
  | 0 => .valid value
  | 1 => .saturated value
  | _ => .none

/-- The trip record in a block's data (Table 12-6). -/
def viewOfBlock (d : List Byte) : TripView where
  distance := tripleAt d 0
  fuel := tripleAt d 3
  time := tripleAt d 6
  generation := byteAt d 9
  economy := storedResult (wordAt d 10) (byteAt d 14 % 4)
  average := storedResult (wordAt d 12) (byteAt d 14 / 4 % 4)

/-- A trip record as it stands. -/
def State.tripView (s : State) (r : TripRecord) : TripView :=
  match r with
  | .journey =>
    { distance := s.trip.distance, fuel := s.trip.fuel, time := s.trip.time, generation := s.trip.generation,
      economy := s.trip.economy, average := s.trip.average }
  | _ => viewOfBlock (s.store.dataOf r.block)

/-- A three-byte total at offset `o` gains `d`, held at maximum. -/
def gainTotal (o d : Nat) (bs : List Byte) : List Byte := splice bs o (bytes3 (satAdd tripTop (tripleAt bs o) d))

/-- Distance of a record gains `d` steps (R3). -/
def State.addDistance (s : State) (r : TripRecord) (d : Nat) : State :=
  match r with
  | .journey => s.setTrip { s.trip with distance := satAdd tripTop s.trip.distance d }
  | _ => s.update r.block (gainTotal 0 d)

/-- Fuel of a record gains `d` ml (R13). -/
def State.addFuel (s : State) (r : TripRecord) (d : Nat) : State :=
  match r with
  | .journey => s.setTrip { s.trip with fuel := satAdd tripTop s.trip.fuel d }
  | _ => s.update r.block (gainTotal 3 d)

/-- Time of a record gains `d` seconds (R12). -/
def State.addTime (s : State) (r : TripRecord) (d : Nat) : State :=
  match r with
  | .journey => s.setTrip { s.trip with time := satAdd tripTop s.trip.time d }
  | _ => s.update r.block (gainTotal 6 d)

/-- An operation on trips A, B and JOURNEY. -/
def State.onTrips (s : State) (f : State → TripRecord → State) : State := f (f (f s .a) .b) .journey

/-- The outcome code of a stored result (Table 12-6). -/
def Result.code : Result → Nat
  | .valid _ => 0
  | .saturated _ => 1
  | .none => 2

/-- The value item stored with a result; beside NONE it is the free value of index `k`. -/
def Result.storedValue (k : Nat) : Result → Nat
  | .valid v => v
  | .saturated v => v
  | .none => (Config.noneValue k).toNat

/-- How many free values a stored result takes. -/
def Result.freeUse : Result → Nat
  | .none => 1
  | _ => 0

/-- Outcome byte 14 with a new economy code (bits 1 to 0). DESIGN CHOICE (log entry 39): bits 7 to 4, which Table 12-6
names for no item, stay as they are. -/
def withEconomyCode (old code : Nat) : Nat := old / 4 * 4 + code

/-- Outcome byte 14 with a new speed code (bits 3 to 2). DESIGN CHOICE (log entry 39): bits 7 to 4 stay as they are. -/
def withAverageCode (old code : Nat) : Nat := old / 16 * 16 + code * 4 + old % 4

/-- Average economy of a record is written. -/
def State.setEconomy (s : State) (r : TripRecord) (x : Result) : State :=
  match r with
  | .journey => s.setTrip { s.trip with economy := x }
  | _ =>
    (s.update r.block fun bs =>
      splice (splice bs 10 (bytes2 (x.storedValue s.freeIndex))) 14 [byteOf (withEconomyCode (byteAt bs 14) x.code)]).setFreeIndex
      (s.freeIndex + x.freeUse)

/-- Average speed of a record is written. -/
def State.setAverage (s : State) (r : TripRecord) (x : Result) : State :=
  match r with
  | .journey => s.setTrip { s.trip with average := x }
  | _ =>
    (s.update r.block fun bs =>
      splice (splice bs 12 (bytes2 (x.storedValue s.freeIndex))) 14 [byteOf (withAverageCode (byteAt bs 14) x.code)]).setFreeIndex
      (s.freeIndex + x.freeUse)

/-- The 15 bytes of a record with zero totals, a generation, and both results NONE. DESIGN CHOICE (log entry 39): bits 7 to
4 of outcome byte 14 are 0 here. -/
def zeroRecord (generation k : Nat) : List Byte :=
  List.replicate 9 0 ++ [byteOf generation] ++ bytes2 (Result.storedValue k .none) ++
    bytes2 (Result.storedValue (k + 1) .none) ++ [10]

/-- A reset of trip A or B (R32): totals 0, generation + 1, results NONE, in one UPDATE. DESIGN CHOICE (log entry 39): bits
7 to 4 of outcome byte 14 stay as they are. -/
def State.resetTrip (s : State) (r : TripRecord) : State :=
  match r with
  | .journey => s
  | _ =>
    (s.update r.block fun bs =>
      (zeroRecord (byteAt bs 9 + 1) s.freeIndex).take 14 ++ [byteOf (byteAt bs 14 / 16 * 16 + 10)]).setFreeIndex
      (s.freeIndex + 2)

/-! ### Stored fields of service items (R152, Table 12-6) -/

/-- The block of an item. -/
def itemBlock (i : Nat) : Nat := 3 + i / 2

/-- The offset of an item's fields in its block. -/
def itemOffset (i : Nat) : Nat := 7 * (i % 2)

/-- Remaining km of an item, as its line has it. -/
def Store.remainingKm (st : Store) (i : Nat) : Int := signedWordAt (st.dataOf (itemBlock i)) (itemOffset i)

/-- Remaining days of an item, as its line has it. -/
def Store.remainingDays (st : Store) (i : Nat) : Int := signedWordAt (st.dataOf (itemBlock i)) (itemOffset i + 2)

/-! ### The transmit queue (R56 to R58) -/

/-- The sequence counter of a topic (R57). -/
def Sequences.get (q : Sequences) (topic : Nat) : Nat :=
  match topic with
  | 0x40 => q.t40
  | 0x41 => q.t41
  | 0x42 => q.t42
  | 0x43 => q.t43
  | 0x44 => q.t44
  | _ => q.t70

/-- The sequence counter of a topic advanced by 1 mod 16 (R57). -/
def Sequences.advance (q : Sequences) (topic : Nat) : Sequences :=
  match topic with
  | 0x40 => { q with t40 := (q.t40 + 1) % 16 }
  | 0x41 => { q with t41 := (q.t41 + 1) % 16 }
  | 0x42 => { q with t42 := (q.t42 + 1) % 16 }
  | 0x43 => { q with t43 := (q.t43 + 1) % 16 }
  | 0x44 => { q with t44 := (q.t44 + 1) % 16 }
  | _ => { q with t70 := (q.t70 + 1) % 16 }

/-- A not-yet-started message of a topic. -/
def Msg.unstarted (topic : Nat) (m : Msg) : Bool := m.topic == topic && !m.started

/-- The coalescing of R57: the new class, kind, data and sequence in place; the age stays. -/
def Msg.coalesce (new old : Msg) : Msg :=
  { old with cls := new.cls, kind := new.kind, data := new.data, seq := new.seq, answer := new.answer }

/-- The least urgent class among the messages not being sent (R58). -/
def leastUrgent (q : List Msg) : Nat := q.foldl (fun c m => if m.sending then c else max c m.cls) 0

/-- The place of the oldest message of class `c` that is not being sent. -/
def oldestOf (q : List Msg) (c : Nat) : Option Nat := q.findIdx? fun m => !m.sending && m.cls == c

/-- The line station counts a dropped message (R65). -/
def LineStation.drop (l : LineStation) : LineStation := { l with dropped := satAdd 255 l.dropped 1 }

/-- The end of the request in progress when its reply leaves the queue, sent or discarded (R188). -/
def State.replyLeft (s : State) (m : Msg) : State :=
  if m.answer = .own then s.setHandler { s.handler with state := .idle } else s

/-- The handler leaves a request unanswered (R190). -/
def State.unanswer (s : State) : State :=
  s.setHandler { s.handler with unanswered := satAdd 255 s.handler.unanswered 1 }

/-- A BUSY answer that the reply of the request in progress replaces leaves its request unanswered (R190). -/
def State.busyReplaced (s : State) (old new : Msg) : State :=
  if old.answer = .busy ∧ new.answer = .own then s.unanswer else s

/-- A message placed in a full queue (R58). -/
def State.placeFull (s : State) (m : Msg) : State :=
  let q := s.line.queue
  if m.cls < leastUrgent q then
    match oldestOf q (leastUrgent q) with
    | some i =>
      (s.setLine ({ s.line with queue := q.eraseIdx i ++ [m] }.drop)).replyLeft (q.getD i m)
    | none => (s.setLine s.line.drop).replyLeft m
  else (s.setLine s.line.drop).replyLeft m

/-- A message placed in the queue: coalesced, entered as the newest, or decided by R58. -/
def State.placeMsg (s : State) (m : Msg) : State :=
  let q := s.line.queue
  match q.findIdx? (Msg.unstarted m.topic) with
  | some i => (s.setLine { s.line with queue := q.modify i m.coalesce }).busyReplaced (q.getD i m) m
  | none =>
    if q.length < Config.queueSize then s.setLine { s.line with queue := q ++ [m] } else s.placeFull m

/-- A block queues a message (R57): the topic's sequence advances and the message is placed. -/
def State.queue (s : State) (topic cls : Nat) (kind : MsgKind) (data : List Byte) (answer : Answer) : State :=
  let seqs := s.line.seqs.advance topic
  (s.setLine { s.line with seqs := seqs }).placeMsg
    { cls := cls, kind := kind, topic := topic, seq := seqs.get topic, data := data, started := false, sending := false,
      attempts := 0, stagger := 0, answer := answer }

/-- A publication is queued. -/
def State.publish (s : State) (topic cls : Nat) (data : List Byte) : State := s.queue topic cls .publication data .none

/-- A message is eligible to be head when no older message of its topic is in the queue (R56). -/
def eligibleAt (q : List Msg) (i : Nat) : Bool :=
  match q[i]? with
  | some m => (q.take i).all fun o => o.topic != m.topic
  | none => false

/-- The place of the head: the oldest eligible message of the most urgent class among the eligible ones (R56). -/
def headIndex (q : List Msg) : Option Nat :=
  (List.range 4).findSome? fun c => firstIndex q.length fun i => eligibleAt q i && (q[i]?.map (·.cls)) == some c

end Sys2Proof.Machine
end

