-- ==== Sys2Proof/Machine/Operands.lean ====
section
/-! DEFINITION. Field, flag and state reads of the topic table (R79, R80), the items of the fixed entries (R81 to R84
with Table 12-2), the inputs of the gauges (R87) and the quantities of the warning rules (R113, R114, R116). -/

namespace Sys2Proof.Machine

/-- A value read, with the HELD tag of a STALE source; a read that gives none is ABSENT. -/
structure Reading where
  value : Int
  held : Bool
deriving DecidableEq, Repr

/-- The entry has data to read: used, and FRESH or STALE (Table 4-9). -/
def Entry.readable (e : Entry) : Bool := e.used && (e.state == .fresh || e.state == .stale)

/-- The no-value code of a field (R79). -/
def noValueCode (wide signed : Bool) : Nat :=
  match wide, signed with
  | false, false => 0xFF
  | true, false => 0xFFFF
  | false, true => 0x80
  | true, true => 0x8000

/-- Width of a field in bytes. -/
def fieldBytes (wide : Bool) : Nat := if wide then 2 else 1

/-- The bits of a field. -/
def Entry.fieldBits (e : Entry) (offset : Nat) (wide : Bool) : Nat :=
  if wide then wordAt e.data offset else byteAt e.data offset

/-- A field read (Table 4-9). -/
def Entry.field (e : Entry) (offset : Nat) (wide signed : Bool) : Option Reading :=
  let bits := e.fieldBits offset wide
  if !e.readable then none
  else if e.length < offset + fieldBytes wide then none
  else if bits = noValueCode wide signed then none
  else some ⟨if signed then signedOf (8 * fieldBytes wide) bits else bits, e.state == .stale⟩

/-- A flag read (R80). -/
def Entry.flag (e : Entry) (byte bit : Nat) : Option Reading :=
  if e.readable then some ⟨flagNat (bitAt e.data byte bit), e.state == .stale⟩ else none

/-- A flag that reads 1, fresh or HELD; ABSENT is not 1. -/
def Entry.flagSet (e : Entry) (byte bit : Nat) : Bool :=
  match e.flag byte bit with
  | some r => r.value == 1
  | none => false

/-- A state read of EMPTY or LOST. -/
def Entry.withoutValue (e : Entry) : Bool := e.state == .empty || e.state == .lost

/-! ### Items of the fixed entries -/

/-- E0 rpm. -/
def State.rpm (s : State) : Option Reading := (s.entry 0).field 0 true false

/-- E0 coolant. -/
def State.coolant (s : State) : Option Reading := (s.entry 0).field 2 false false

/-- E0 oil pressure. -/
def State.oil (s : State) : Option Reading := (s.entry 0).field 3 false false

/-- E0 running flag reads 1. -/
def State.running (s : State) : Bool := (s.entry 0).flagSet 4 0

/-- E1 fuel total. -/
def State.fuelTotal (s : State) : Option Reading := (s.entry 1).field 0 true false

/-- E2 tank sender. -/
def State.tankSender (s : State) : Option Reading := (s.entry 2).field 0 false false

/-- E2 battery. -/
def State.battery (s : State) : Option Reading := (s.entry 2).field 1 false false

/-- E2 outside temperature. -/
def State.outside (s : State) : Option Reading := (s.entry 2).field 2 false true

/-- E2 turn left reads 1. -/
def State.turnLeft (s : State) : Bool := (s.entry 2).flagSet 4 1

/-- E2 turn right reads 1. -/
def State.turnRight (s : State) : Bool := (s.entry 2).flagSet 4 2

/-- E2 high beam reads 1. -/
def State.highBeam (s : State) : Bool := (s.entry 2).flagSet 4 3

/-- E3 QUIET CABIN reads 1. -/
def State.quietCabinFlag (s : State) : Bool := (s.entry 3).flagSet 2 0

/-- E3 TRIP PAGE reads 1. -/
def State.tripPageFlag (s : State) : Bool := (s.entry 3).flagSet 2 1

/-- F with its HELD tag: HELD while E2 is STALE (R17). -/
def State.fuelReading (s : State) : Option Reading :=
  s.counting.fuel.map fun f => ⟨f, (s.entry 2).state == .stale⟩

/-! ### Gauge inputs (R87) -/

/-- The input of a gauge. -/
def State.gaugeInput (s : State) (g : Nat) : Option Reading :=
  match g with
  | 0 => some ⟨s.counting.speed, false⟩
  | 1 => s.rpm
  | 2 => s.fuelReading
  | 3 => s.coolant
  | 4 => s.oil
  | _ => s.battery

/-! ### Rule quantities (R113, R114, R116) -/

/-- A quantity that an entry with data gives as a number; ABSENT while the entry is EMPTY or LOST. -/
def Entry.quantity (e : Entry) (n : Nat) : Option Int := if e.readable then some n else none

/-- Weighted sum of the flags `bits` of byte `byte`: weight 1, 2, 4, … in order. -/
def Entry.flagSum (e : Entry) (byte : Nat) (bits : List Nat) : Nat :=
  packCodes 1 (bits.map fun k => flagNat (e.flagSet byte k))

/-- The value of a result as a quantity: VALID or SATURATED has one. -/
def Result.quantity : Result → Option Int
  | .valid v => some v
  | .saturated v => some v
  | .none => Option.none

/-- LINE FAULT (R64). -/
def LineStation.fault (l : LineStation) : Nat := flagNat l.stuck + 2 * flagNat l.silent + 4 * flagNat l.conflict

/-- The odometer state is SUSPECT. -/
def Store.suspect (st : Store) : Bool :=
  match st.odometer with
  | some (_, good) => !good
  | none => false

/-- Instrument fault (Table 6-9). -/
def State.instrumentFault (s : State) : Nat :=
  flagNat s.ignition.calDefault + 2 * flagNat s.store.suspect + 4 * flagNat s.store.nvFault

/-- A built-in quantity; none is ABSENT. Range is also ABSENT while F is (R114). -/
def State.quantity (s : State) (q : Quantity) : Option Int :=
  match q with
  | .speed => some s.counting.speed
  | .rpm => s.rpm.map (·.value)
  | .coolant => s.coolant.map (·.value)
  | .oil => s.oil.map (·.value)
  | .battery => s.battery.map (·.value)
  | .fuel => s.fuelReading.map (·.value)
  | .range => if s.counting.fuel.isSome then s.trip.range.quantity else none
  | .outside => s.outside.map (·.value)
  | .doorBits => (s.entry 2).quantity ((s.entry 2).flagSum 3 [0, 1, 2, 3])
  | .lidBits => (s.entry 2).quantity ((s.entry 2).flagSum 3 [4, 5])
  | .parkBrake => (s.entry 2).quantity (flagNat ((s.entry 2).flagSet 3 6))
  | .keyWithDoorOpen => (s.entry 2).quantity (flagNat ((s.entry 2).flagSet 3 7 && (s.entry 2).flagSet 3 0))
  | .lampsWithKeyOut => (s.entry 2).quantity (flagNat ((s.entry 2).flagSet 4 0 && !(s.entry 2).flagSet 3 7))
  | .turnDistance => some s.counting.turnDistance
  | .e0WithoutValue => some (flagNat (s.entry 0).withoutValue)
  | .e2WithoutValue => some (flagNat (s.entry 2).withoutValue)
  | .lineFault => some s.line.fault
  | .instrumentFault => some s.instrumentFault

/-- The source quantity of a rule. -/
def State.sourceValue (s : State) (src : Source) : Option Int :=
  match src with
  | .builtIn q => s.quantity q
  | .field e off wide signed => ((s.entry e).field off wide signed).map (·.value)

end Sys2Proof.Machine
end

