-- ==== Sys2Proof/Machine/Arith.lean ====
section
/-! DEFINITION. The arithmetic unit (Chapter 2): SCALE-DIVIDE, curve evaluation, the request list and its arbiter. What
a completion does at its target stands with the target's owner. -/

namespace Sys2Proof.Machine

/-- SCALE-DIVIDE (Table 2-1). -/
def scaleDivide (n k c : Nat) : Result :=
  if c = 0 then .none
  else if 65534 < (n * k + c / 2) / c then .saturated 65534
  else .valid ((n * k + c / 2) / c)

/-- The value of a result that has one, else 0. -/
def Result.value : Result → Nat
  | .valid v => v
  | .saturated v => v
  | .none => 0

/-- What a curve evaluation gives (Table 2-3): an output at once, or the operands of a request. -/
inductive CurveOutput
  | direct (y : Nat)
  | request (n k c base : Nat)
deriving DecidableEq, Repr

/-- The segment of an input between the end points: the i with xi ≤ x < xi+1. -/
def Curve.segment (c : Curve) (x : Int) : Option Nat :=
  firstIndex 8 fun i => decide ((c.xs.getD i 0 : Int) ≤ x) && decide (x < (c.xs.getD (i + 1) 0 : Int))

/-- A curve evaluated for an input that is a value (Table 2-3). -/
def Curve.evaluate (c : Curve) (x : Int) : CurveOutput :=
  if x ≤ (c.xs.getD 0 0 : Int) then .direct (c.ys.getD 0 0)
  else if (c.xs.getD 8 0 : Int) ≤ x then .direct (c.ys.getD 8 0)
  else
    match c.segment x with
    | none => .direct (c.ys.getD 8 0)
    | some i =>
      let y := c.ys.getD i 0
      let y' := c.ys.getD (i + 1) 0
      if y' = y then .direct y
      else .request (x.toNat - c.xs.getD i 0) (y' - y) (c.xs.getD (i + 1) 0 - c.xs.getD i 0) y

/-- The rank of a target's client class: GAUGE, SPEED, FUEL, TRIP (R26). -/
def Target.rank : Target → Nat
  | .gauge _ => 0
  | .speed => 1
  | .fuel => 2
  | .economy _ | .average _ | .inst | .range => 3

/-- A target is outstanding: its request is in the list or in flight (R24). -/
def Arith.outstanding (a : Arith) (t : Target) : Bool :=
  a.list.any (fun r => r.target == t) || (a.inFlight.map (·.target)) == some t

/-- The place of the request that the arbiter takes next: the oldest of the most urgent class present (R26). -/
def nextRequest (l : List Request) : Option Nat :=
  (List.range 4).findSome? fun k => l.findIdx? fun r => r.target.rank == k

/-- While the unit is IDLE, the arbiter hands it the next request of the list (R21, R26). -/
def Arith.handOver (a : Arith) : Arith :=
  if a.inFlight.isSome then a
  else
    match nextRequest a.list with
    | some i => { a with list := a.list.eraseIdx i, inFlight := a.list[i]? }
    | none => a

/-- A request joins the list, and is handed to an IDLE unit at once (R21, R25). -/
def State.issue (s : State) (r : Request) : State :=
  s.setArith { s.arith with list := s.arith.list ++ [r] }.handOver

/-- The request in flight leaves the unit, and the next one is handed over (R21). -/
def State.leaveUnit (s : State) : State := s.setArith { s.arith with inFlight := none }.handOver

/-- SLEEP entry: the list is emptied and the operation in flight abandoned, the discarded count kept (R29). -/
def Arith.sleep (a : Arith) : Arith := { a with list := [], inFlight := none }

/-- What a request's operation gives (R20). -/
def Request.result (r : Request) : Result := scaleDivide r.n r.k r.c

end Sys2Proof.Machine
end

