-- ==== Sys2Proof/Machine/Store.lean ====
section
/-! DEFINITION. The record store (Chapter 10): fetches and victims, orders and their merging, the copy engine's arbiter,
block reads and writes, walks, and what the workshop's request in progress waits for. Everything here is on the store
alone; what its clients do at the end of a fill stands with the clients. -/

namespace Sys2Proof.Machine

/-- Statuses of a workshop request (Chapter 12). -/
inductive Status
  | done
  | busy
  | isProtected
  | below
  | notActive
  | pinned
  | mismatch
  | state
  | badRequest
deriving DecidableEq, Repr

/-- The status codes of Chapter 12. -/
def Status.code : Status → Nat
  | .done => 0
  | .busy => 1
  | .isProtected => 2
  | .below => 3
  | .notActive => 4
  | .pinned => 5
  | .mismatch => 6
  | .state => 7
  | .badRequest => 8

/-- Blocks 0, 1 and 2 are held in the system lines (R164). -/
def systemBlock (b : Nat) : Bool := b ≤ 2

/-- The set that may hold block `b` (R164). -/
def setOf (b : Nat) : Nat := b % 4

/-! ### Fetches (R166) -/

/-- A waiting fetch of block `b`. -/
def Waiting.isFetch (b : Nat) : Waiting → Bool
  | .fetch b' _ => b' == b
  | .order _ => false

/-- A FETCH of block `b`: a hit makes its line most recently used, a FILLING line is joined, a fetch already waiting is
merged with, and a miss joins the waiting requests, which choose their victims in the order they came. -/
def Store.fetch (st : Store) (b : Nat) : Store :=
  match st.find b with
  | some i => if (st.line i).state = .filling then st else st.touch i
  | none => if st.waiting.any (Waiting.isFetch b) then st else { st with waiting := st.waiting ++ [.fetch b false] }

/-- A way is eligible as victim: not pinned, not FILLING or WRITING, and in NV FAULT not DIRTY (R166). -/
def Store.eligible (st : Store) (i : Nat) : Bool :=
  !(st.line i).pinned &&
    match (st.line i).state with
    | .filling | .writing => false
    | .dirty => !st.nvFault
    | .invalid | .clean => true

/-- The victim in a set: an eligible INVALID way first, way 0 before way 1, else the least recently used eligible way. -/
def Store.victim (st : Store) (set : Nat) : Option Nat :=
  let a := 2 * set
  let b := 2 * set + 1
  if st.eligible a && (st.line a).state == .invalid then some a
  else if st.eligible b && (st.line b).state == .invalid then some b
  else if st.eligible a && (!(st.line a).recent || !st.eligible b) then some a
  else if st.eligible b then some b
  else none

/-- A fetch chooses line `i`: a DIRTY victim keeps its block and a SINGLE order is placed for it; any other takes the
block's tag, becomes FILLING, and a FILL order is placed (R166). `k` is the fetch's place among the waiting requests. -/
def Store.takeVictim (st : Store) (b i k : Nat) : Store :=
  match (st.line i).state, (st.line i).tag with
  | .dirty, some old =>
    { st with orders := st.orders ++ [.single old false (some b)], waiting := st.waiting.set k (.fetch b true) }
  | _, _ =>
    { st.modifyLine i (fun l => { CacheLine.filling b with recent := l.recent }) with
      orders := st.orders ++ [.fill b], waiting := st.waiting.eraseIdx k }

/-! ### Placing orders (R172) -/

/-- The order list has room. -/
def Store.hasRoom (st : Store) : Bool := decide (st.orders.length < Config.orderListSize)

/-- A walk order. -/
def Order.isWalk : Order → Bool
  | .walk _ _ => true
  | _ => false

/-- A SINGLE order. -/
def Order.isSingle : Order → Bool
  | .single _ _ _ => true
  | _ => false

/-- A FILL order. -/
def Order.isFill : Order → Bool
  | .fill _ => true
  | _ => false

/-- A VERIFY order. -/
def Order.isVerify : Order → Bool
  | .verify _ => true
  | _ => false

/-- The same kind and block, so that a waiting request is merged with the one already waiting. -/
def Order.sameRequest : Order → Order → Bool
  | .single a _ _, .single b _ _ => a == b
  | .verify a, .verify b => a == b
  | .fill a, .fill b => a == b
  | .walk _ _, .walk _ _ => true
  | _, _ => false

/-- An order for which no workshop request waits any more. -/
def Order.unmark : Order → Order
  | .single b _ v => .single b false v
  | o => o

/-- Two merged orders: the workshop's share is kept. -/
def Order.merge : Order → Order → Order
  | .single a w v, .single _ w' _ => .single a (w || w') v
  | o, _ => o

/-- The order that waits, if this request is one. -/
def Waiting.order? : Waiting → Option Order
  | .order o => some o
  | .fetch _ _ => none

/-- An order waits that is the same request as `o`. -/
def Waiting.sameRequest (o : Order) (w : Waiting) : Bool :=
  match w.order? with
  | some o' => o'.sameRequest o
  | none => false

/-- A waiting order merged with `o`. -/
def Waiting.mergeWith (o : Order) : Waiting → Waiting
  | .order o' => .order (o'.merge o)
  | w => w

/-- A waiting request can go on: an order needs room in the list, a fetch also an eligible way (R166, R172). -/
def Store.canGoOn (st : Store) : Waiting → Bool
  | .fetch b awaitsWrite => !awaitsWrite && st.hasRoom && (st.victim (setOf b)).isSome
  | .order _ => st.hasRoom

/-- An order joins the list at the back, unless the list is full or a request that came earlier takes the room; it then
waits among the waiting requests, merged where it can be (R172). -/
def Store.place (st : Store) (o : Order) : Store :=
  if st.hasRoom && !st.waiting.any st.canGoOn then { st with orders := st.orders ++ [o] }
  else
    match st.waiting.findIdx? (Waiting.sameRequest o) with
    | some k => { st with waiting := st.waiting.modify k (Waiting.mergeWith o) }
    | none => { st with waiting := st.waiting ++ [.order o] }

/-- A walk order waits. -/
def Waiting.isWalk (w : Waiting) : Bool :=
  match w.order? with
  | some o => o.isWalk
  | none => false

/-- A walk is in the list or waits for room in it. -/
def Store.walkPresent (st : Store) : Bool := st.orders.any Order.isWalk || st.waiting.any Waiting.isWalk

/-- A SWEEP is placed, or merged with the SWEEP or HOLDUP already there (R172). -/
def Store.placeSweep (st : Store) : Store := if st.walkPresent then st else st.place (.walk false 0)

/-- DEDUCED (log entry 47): a write in progress for a walk that begins again at position 0 (R172) does not advance it at its
end. -/
def EngineOp.restart : EngineOp → EngineOp
  | .write i snap .walk t => .write i snap .restarted t
  | op => op

/-- A SWEEP order. -/
def Order.isSweep : Order → Bool
  | .walk false _ => true
  | _ => false

/-- A waiting walk turned into a HOLDUP at position 0, keeping its place. -/
def Waiting.toHoldup (w : Waiting) : Waiting := if w.isWalk then .order (.walk true 0) else w

/-- A HOLDUP is placed: it turns a SWEEP into a HOLDUP that restarts its walk and takes HOLDUP's age (R172). -/
def Store.placeHoldup (st : Store) : Store :=
  match st.orders.findIdx? Order.isSweep with
  | some k => { st with orders := st.orders.eraseIdx k ++ [.walk true 0], op := st.op.map EngineOp.restart }
  | none =>
    if st.orders.any Order.isWalk then st
    else if st.waiting.any Waiting.isWalk then { st with waiting := st.waiting.map Waiting.toHoldup }
    else st.place (.walk true 0)

/-- A HOLDUP order turned into a SWEEP of the same position. -/
def Order.toSweep : Order → Order
  | .walk _ p => .walk false p
  | o => o

/-- A waiting HOLDUP order turned into a SWEEP. -/
def Waiting.toSweep : Waiting → Waiting
  | .order o => .order o.toSweep
  | w => w

/-- A return of the key during HOLDUP turns the HOLDUP order into a SWEEP with the same walk position and age (R172). -/
def Store.turnHoldup (st : Store) : Store :=
  { st with orders := st.orders.map Order.toSweep, waiting := st.waiting.map Waiting.toSweep }

/-- A WRITEBACK of a block places a SINGLE order (R169); `workshop` when the workshop's request in progress waits for it. -/
def Store.writeback (st : Store) (b : Nat) (workshop : Bool) : Store := st.place (.single b workshop none)

/-! ### Waiting requests go on (R166, R172) -/

/-- The first waiting request that can go on does. -/
def Store.admitOne (st : Store) : Option Store :=
  match st.waiting.findIdx? st.canGoOn with
  | some k =>
    match st.waiting[k]? with
    | some (.fetch b _) => (st.victim (setOf b)).map fun i => st.takeVictim b i k
    | some (.order o) => some { st with orders := st.orders ++ [o], waiting := st.waiting.eraseIdx k }
    | none => none
  | none => none

/-! ### The copy engine's arbiter (R173 to R176) -/

/-- The first DIRTY line at or after a walk position. -/
def Store.dirtyFrom (st : Store) (p : Nat) : Option Nat :=
  (List.range 8).find? fun i => decide (p ≤ i) && (st.line i).state == .dirty

/-- A SINGLE order of this block would write: its line is DIRTY and the store is not in NV FAULT (R169, R174). -/
def Store.singleWrites (st : Store) (b : Nat) : Bool :=
  !st.nvFault &&
    match st.find b with
    | some i => (st.line i).state == .dirty
    | none => false

/-- A walk at this position would write (R175). -/
def Store.walkWrites (st : Store) (p : Nat) : Bool := !st.nvFault && (st.dirtyFrom p).isSome

/-- The order's next operation is a write. -/
def Store.writesNext (st : Store) : Order → Bool
  | .single b _ _ => st.singleWrites b
  | .walk _ p => st.walkWrites p
  | .fill _ | .verify _ => false

/-- The order has an operation that can start: while PWR-GOOD is low, orders whose next operation is a write are passed
over (R173, R176). -/
def Store.canStart (st : Store) (o : Order) : Bool := st.pwrGood || !st.writesNext o

/-- The rank of an order's kind: HOLDUP, FILL, SINGLE, SWEEP, VERIFY (R173). -/
def Order.rank : Order → Nat
  | .walk true _ => 0
  | .fill _ => 1
  | .single _ _ _ => 2
  | .walk false _ => 3
  | .verify _ => 4

/-- The order that the arbiter selects: the oldest of the most urgent kind that can start (R173). -/
def Store.selected (st : Store) : Option Nat :=
  (List.range 5).findSome? fun r => st.orders.findIdx? fun o => o.rank == r && st.canStart o

/-- A block write starts: the line becomes WRITING with redirty clear, and its data are the snapshot (R165, R174). -/
def Store.startWrite (st : Store) (i : Nat) (serves : WriteFor) : Store :=
  { st.modifyLine i (fun l => { l with state := .writing, redirty := false }) with
    op := some (.write i (st.line i).data serves 4) }

/-- A fetch whose victim's write has ended chooses afresh (R166). -/
def Waiting.victimWritten (b : Nat) : Waiting → Waiting
  | .fetch b' w => .fetch b' (w && b' != b)
  | w => w

/-- An order leaves the list; the fetch whose victim it wrote chooses afresh. -/
def Store.endOrder (st : Store) (k : Nat) : Store :=
  let st' := { st with orders := st.orders.eraseIdx k }
  match st.orders[k]? with
  | some (.single _ _ (some f)) => { st' with waiting := st'.waiting.map (Waiting.victimWritten f) }
  | _ => st'

/-- The selected order starts its operation, or ends without one (R169, R173 to R175). -/
def Store.startOrder (st : Store) (k : Nat) : Store :=
  match st.orders[k]? with
  | some (.fill b) => { st with op := some (.readFill b) }
  | some (.verify b) => { st with op := some (.readVerify b) }
  | some (.single b _ _) =>
    if st.singleWrites b then
      match st.find b with
      | some i => st.startWrite i .single
      | none => st.endOrder k
    else st.endOrder k
  | some (.walk h p) =>
    if st.nvFault then st.endOrder k
    else
      match st.dirtyFrom p with
      | some i => ({ st with orders := st.orders.set k (.walk h i) }).startWrite i .walk
      | none => st.endOrder k
  | none => st

/-- The arbiter, when the port is free (R173). -/
def Store.engineOne (st : Store) : Option Store := if st.op.isSome then none else st.selected.map st.startOrder

/-! ### The workshop's request in progress -/

/-- The SINGLE order that the workshop's request in progress waits for is in the list. -/
def Store.workshopListed (st : Store) : Bool :=
  st.orders.any fun o => match o with | .single _ w _ => w | _ => false

/-- The SINGLE order of the workshop's request in progress waits for room. -/
def Store.workshopWaits (st : Store) : Bool :=
  st.waiting.any fun w => match w with | .order (.single _ x _) => x | _ => false

/-- Block `b`'s line is FILLING or WRITING, so that an invalidation of it waits (R170). -/
def Store.inTransfer (st : Store) (b : Nat) : Bool :=
  match st.find b with
  | some i => (st.line i).state == .filling || (st.line i).state == .writing
  | none => false

/-- Block `b`'s line is DIRTY. -/
def Store.isDirty (st : Store) (b : Nat) : Bool :=
  match st.find b with
  | some i => (st.line i).state == .dirty
  | none => false

/-- The line of block `b` becomes INVALID: no tag, no pin, redirty clear; its age stays (R164, R170). -/
def Store.invalidateBlock (st : Store) (b : Nat) : Store :=
  match st.find b with
  | some i => st.modifyLine i fun l => { CacheLine.invalid with recent := l.recent }
  | none => st

/-- The request in progress goes on where it can: the status it ends with, or none where it only takes a step. WRITEBACK and
WRITEBACK-INVALIDATE wait for their own order (R169, R170); a request that ends when its order is placed leaves that order
behind as nobody's. INVALIDATE of a block that is absent and not FILLING ends with DONE: DEDUCED (log entry 41), since R170
gives that case for WRITEBACK-INVALIDATE alone. -/
def Store.taskOne (st : Store) : Option (Store × Option Status) :=
  let ended (st : Store) (x : Status) : Option (Store × Option Status) := some ({ st with task := .none }, some x)
  match st.task with
  | .writeback b =>
    if st.workshopListed || st.workshopWaits then none
    else ended st (if st.isDirty b then .mismatch else .done)
  | .writebackInvalidate b true =>
    if st.workshopListed || st.workshopWaits then none
    else if st.isDirty b then ended st .mismatch
    else ended (st.invalidateBlock b) .done
  | .writebackInvalidate b false =>
    if st.inTransfer b then none
    else if st.isDirty b then some ({ st.writeback b true with task := .writebackInvalidate b true }, none)
    else ended (st.invalidateBlock b) .done
  | .invalidate b =>
    if st.inTransfer b then none
    else if st.latch && decide (7 ≤ b) then ended st .isProtected
    else ended (st.invalidateBlock b) .done
  | .placing =>
    if st.workshopWaits then none else ended { st with orders := st.orders.map Order.unmark } .done
  | .none | .fetch _ _ | .read _ _ | .write _ _ _ | .verify _ => none

/-- The store goes on until nothing can: the request in progress first, then the waiting requests in the order they
came, then the port's arbiter. At most one request is in progress, so at most one status comes of it. -/
def Store.settle : Nat → Store → Store × Option Status
  | 0, st => (st, none)
  | fuel + 1, st =>
    match st.taskOne with
    | some (st', r) => ((st'.settle fuel).1, match r with | some x => some x | none => (st'.settle fuel).2)
    | none =>
      match st.admitOne with
      | some st' => st'.settle fuel
      | none =>
        match st.engineOne with
        | some st' => st'.settle fuel
        | none => (st, none)

/-- More steps than the store can take at one event: each step ends a request, places one, or starts the port. -/
def settleFuel : Nat := 64

/-! ### Ends of block operations -/

/-- The order of a kind that the operation in progress serves leaves the list: the oldest of that kind. -/
def Store.endKind (st : Store) (p : Order → Bool) : Store :=
  match st.orders.findIdx? p with
  | some k => st.endOrder k
  | none => st

/-- A walk order moved past line `i`. -/
def Order.pastLine (i : Nat) : Order → Order
  | .walk h _ => .walk h (i + 1)
  | o => o

/-- A walk that has reached the terminal count 8 (R175). -/
def Order.walked : Order → Bool
  | .walk _ p => decide (8 ≤ p)
  | _ => false

/-- The order of an ended write goes on: a SINGLE leaves the list, a walk moves past the line, and at 8 it ends and leaves
(R173, R175). -/
def Store.writeServed (st : Store) (i : Nat) : WriteFor → Store
  | .single => st.endKind Order.isSingle
  | .walk => { st with orders := (st.orders.map (Order.pastLine i)).filter fun o => !o.walked }
  | .restarted => st

/-- A written line at the write's success: CLEAN, or DIRTY if redirty was set (R174). -/
def CacheLine.written (l : CacheLine) : CacheLine := { l with state := if l.redirty then .dirty else .clean }

/-- A line whose write failed or was abandoned is DIRTY (R165). -/
def CacheLine.unwritten (l : CacheLine) : CacheLine := { l with state := .dirty }

/-- The block that a line holds, as a number. -/
def Store.blockOf (st : Store) (i : Nat) : Nat := (st.line i).tag.getD 0

/-- The memory with block `b` written from a snapshot, with its check byte computed afresh (R163). -/
def NvMemory.writeBlock (m : NvMemory) (b : Nat) (data : List Byte) : NvMemory :=
  m.writeMany (16 * b) (data ++ [checkByteOf data])

/-- Free values from index `k` on, `n` of them, as bytes of unknown content. -/
def unknownBytes (k n : Nat) : List Byte := (List.range n).map fun i => Config.unknownByte (k + i)

/-- The memory with block `b` of unknown content, its check included (R174, log entry 4): 16 free values from index `k` on. -/
def NvMemory.scramble (m : NvMemory) (b k : Nat) : NvMemory := m.writeMany (16 * b) (unknownBytes k 16)

/-- A check over 16 bytes is good when their sum is 0 mod 256 (R163). -/
def checkGood (bs : List Byte) : Bool := byteSum bs == 0

/-- A check byte that is bad for these data: off the good one by 1 to 255, as the free byte `x` has it. -/
def badCheckByte (data : List Byte) (x : Byte) : Byte := checkByteOf data + byteOf (x.toNat % 255 + 1)

/-- The memory with block `b` as an abandoned write leaves it (R176, and R179 by log entry 4): the data are of unknown
content, 15 free values from index `k` on, and the check is bad, by any of the 255 ways in which it can be. -/
def NvMemory.spoil (m : NvMemory) (b k : Nat) : NvMemory :=
  m.writeMany (16 * b) (unknownBytes k 15 ++ [badCheckByte (unknownBytes k 15) (Config.unknownByte (k + 15))])

/-- The memory reports ready within 40 ms: the write has succeeded (R174). -/
def Store.writeReady (st : Store) : Store :=
  match st.op with
  | some (.write i snap serves _) =>
    { (st.modifyLine i CacheLine.written).writeServed i serves with
      op := none, consecutiveFailures := 0, nv := st.nv.writeBlock (st.blockOf i) snap }
  | _ => st

/-- 40 ms pass without ready: the write has failed (R174). The block in the memory is of unknown content from free
index `k` on (log entry 4). -/
def Store.writeFailed (st : Store) (k : Nat) : Store :=
  match st.op with
  | some (.write i _ serves _) =>
    { (st.modifyLine i CacheLine.unwritten).writeServed i serves with
      op := none, nvFailures := satAdd 255 st.nvFailures 1, consecutiveFailures := satAdd 3 st.consecutiveFailures 1,
      nvFault := st.nvFault || decide (3 ≤ st.consecutiveFailures + 1), nv := st.nv.scramble (st.blockOf i) k }
  | _ => st

/-- A write in progress is abandoned: the block in the memory is left of unknown content and its check bad, the line stays
DIRTY, and the order keeps its place (R176). -/
def Store.abandonWrite (st : Store) (k : Nat) : Store :=
  match st.op with
  | some (.write i _ _ _) =>
    { st.modifyLine i CacheLine.unwritten with op := none, nv := st.nv.spoil (st.blockOf i) k }
  | _ => st

/-- The memory when a power-on reset ends a write in progress: its block is of unknown content (log entry 29). A block whose
check is bad keeps a bad check, as the one that an abandoned write left does until a later write completes (R176). -/
def Store.nvAtReset (st : Store) (k : Nat) : NvMemory :=
  match st.op with
  | some (.write i _ _ _) =>
    let b := st.blockOf i
    if checkGood (st.nv.block b) then st.nv.scramble b k else st.nv.spoil b k
  | _ => st.nv

/-- A write is in progress. -/
def Store.writing (st : Store) : Bool :=
  match st.op with
  | some (.write _ _ _ _) => true
  | _ => false

/-- How many free values an abandoned or failed write takes. -/
def Store.freeUse (st : Store) : Nat := if st.writing then 16 else 0

/-- The end of a FILL's read: the data enter the FILLING line, which becomes CLEAN and most recently used; a pin asked
for is set (R173). -/
def Store.endFill (st : Store) (b : Nat) (pin : Bool) : Store :=
  let st' := { st.endKind Order.isFill with op := none }
  match st'.find b with
  | some i =>
    (st'.modifyLine i fun l =>
      { l with state := .clean, data := (st.nv.block b).take 15, redirty := false, pinned := l.pinned || pin }).touch i
  | none => st'

/-- The result of a VERIFY of block `b` from the line as it stands (Table 10-4). -/
def Store.verifies (st : Store) (b : Nat) : Bool :=
  checkGood (st.nv.block b) &&
    match st.presentLine b with
    | some i => (st.line i).data == (st.nv.block b).take 15
    | none => true

/-- SLEEP entry at the store (R179), the write in progress abandoned beforehand: every FILLING line becomes INVALID, the
order list and the waiting requests are emptied, and the request in progress ends as abandoned. -/
def Store.sleep (st : Store) : Store :=
  { st with
    lines := st.lines.map fun l => if l.state = .filling then { CacheLine.invalid with recent := l.recent } else l
    orders := [], op := none, waiting := [], task := .none }

/-- Wake at the store: NV FAULT and the consecutive failure count are cleared (R174). -/
def Store.wake (st : Store) : Store := { st with nvFault := false, consecutiveFailures := 0 }

/-! ### Workshop requests at the store -/

/-- A way of the block's set holds a pinned line of another block (R167). -/
def Store.otherPinned (st : Store) (b : Nat) : Bool :=
  let other (l : CacheLine) : Bool := l.pinned && l.tag != some b
  other (st.line (2 * setOf b)) || other (st.line (2 * setOf b + 1))

/-- The line of block `b` is pinned. -/
def Store.isPinned (st : Store) (b : Nat) : Bool :=
  match st.find b with
  | some i => (st.line i).pinned
  | none => false

/-- Block `b`'s pin cleared or set. -/
def Store.setPin (st : Store) (b : Nat) (pin : Bool) : Store :=
  match st.find b with
  | some i => st.modifyLine i fun l => { l with pinned := pin }
  | none => st

/-- FETCH of the workshop (R166): the status if it ends at once. -/
def Store.taskFetch (st : Store) (b : Nat) : Store × Option Status :=
  if st.present b then (st.fetch b, some .done) else ({ st.fetch b with task := .fetch b false }, none)

/-- FETCH-AND-PIN (R167). -/
def Store.taskFetchPin (st : Store) (b : Nat) : Store × Option Status :=
  if st.present b && st.isPinned b then (st.fetch b, some .done)
  else if st.otherPinned b then (st, some .pinned)
  else if st.present b then ((st.fetch b).setPin b true, some .done)
  else ({ st.fetch b with task := .fetch b true }, none)

/-- UNPIN (R167). -/
def Store.taskUnpin (st : Store) (b : Nat) : Store × Option Status :=
  if systemBlock b then (st, some .pinned)
  else if st.present b then (st.setPin b false, some .done)
  else (st, some .done)

/-- WRITEBACK of the workshop (R169): it ends when its order ends. -/
def Store.taskWriteback (st : Store) (b : Nat) : Store × Option Status :=
  ({ st.writeback b true with task := .writeback b }, none)

/-- WRITEBACK-INVALIDATE (R170). DESIGN CHOICE (log entry 52): a system line is refused with PINNED as the request arrives,
also while the line is FILLING or WRITING. -/
def Store.taskWritebackInvalidate (st : Store) (b : Nat) : Store × Option Status :=
  if systemBlock b then (st, some .pinned)
  else if (st.find b).isNone then (st, some .done)
  else ({ st with task := .writebackInvalidate b false }, none)

/-- INVALIDATE (R170, R177). DESIGN CHOICE (log entry 52): a pinned line and a system line are refused with PINNED as the
request arrives, also while the line is FILLING or WRITING. -/
def Store.taskInvalidate (st : Store) (b : Nat) : Store × Option Status :=
  if st.latch && decide (7 ≤ b) then (st, some .isProtected)
  else if systemBlock b || st.isPinned b then (st, some .pinned)
  else ({ st with task := .invalidate b }, none)

/-- INDEX-WRITEBACK-INVALIDATE (R170): as WRITEBACK-INVALIDATE on the block that the line holds, a system line being refused
at once too (log entry 52). -/
def Store.taskIndex (st : Store) (set way : Nat) : Store × Option Status :=
  let l := st.line (2 * set + way)
  match l.state, l.tag with
  | .invalid, _ => (st, some .done)
  | _, some b => st.taskWritebackInvalidate b
  | _, none => (st, some .done)

/-- VERIFY (R171). -/
def Store.taskVerify (st : Store) (b : Nat) : Store × Option Status :=
  ({ st.place (.verify b) with task := .verify b }, none)

/-- SET ODOMETER (R178), decided by the first case that applies; a value taken is written with GOOD, a SINGLE order is
placed, and the request ends when it is placed. -/
def Store.taskSetOdometer (st : Store) (value : Nat) : Store × Option Status :=
  if st.latch then (st, some .isProtected)
  else if value < st.odometerValue then (st, some .below)
  else ({ (st.update 0 (putOdometerState value 0)).writeback 0 true with task := .placing }, none)

/-- WRITE BYTES is refused: block 0 always, blocks 1, 2 and 7 to 63 while the latch is set (R177). -/
def Store.writeRefused (st : Store) (b : Nat) : Bool := b == 0 || (st.latch && (decide (b ≤ 2) || decide (7 ≤ b)))

end Sys2Proof.Machine
end

