-- ==== Sys2Proof/Machine/Reply.lean ====
section
/-! DEFINITION. How a workshop request's status becomes a reply on topic 70h, the BUSY answers (R188, R190), and the
store's progress taken at the state with the reply that comes of it. -/

namespace Sys2Proof.Machine

/-- A status returned for the request in progress: the reply is queued and the handler is REPLYING (Table 11-3). -/
def State.returnStatus (s : State) (x : Status) (result : List Byte) : State :=
  (s.setHandler { s.handler with state := .replying }).queue 0x70 3 .reply
    ([byteOf s.handler.topic, byteOf x.code] ++ result) .own

/-- A request that finds the handler WORKING or REPLYING (R190). -/
def State.answerBusy (s : State) (topic : Nat) : State :=
  if s.line.queue.any (Msg.unstarted 0x70) then s.unanswer
  else s.queue 0x70 3 .reply [byteOf topic, byteOf Status.busy.code] .busy

/-- The store goes on as far as it can, and the status that the request in progress ends with is returned. -/
def State.settleStore (s : State) : State :=
  match s.store.settle settleFuel with
  | (st, some x) => (s.setStore st).returnStatus x []
  | (st, none) => s.setStore st

/-- What a store operation gives the request in progress: a status at once, or a request that waits; then the store
goes on. -/
def State.takeTask (s : State) (r : Store × Option Status) : State :=
  match r with
  | (st, some x) => ((s.setStore st).returnStatus x []).settleStore
  | (st, none) => (s.setStore st).settleStore

end Sys2Proof.Machine
end

