-- ==== Sys2Proof/Machine/Flags.lean ====
section
/-! DEFINITION. The conditions that several blocks test: MOVING and STOPPED, the gates of the rules, the WARNING page,
the HOLDUP exit condition, and the state of the item and dimension counts. -/

namespace Sys2Proof.Machine

/-- MOVING: speed at least 5.0 km/h (R6). -/
def State.moving (s : State) : Bool := decide (50 ≤ s.counting.speed)

/-- STOPPED: speed below 2.0 km/h (R6). -/
def State.stopped (s : State) : Bool := decide (s.counting.speed < 20)

/-- The engine is running: E0's running flag reads 1 and its rpm reads more than 400 (Table 6-4). -/
def State.engineRunning (s : State) : Bool :=
  s.running &&
    match s.rpm with
    | some r => decide (400 < r.value)
    | none => false

/-- A gate (Table 6-4). -/
def State.gate (s : State) (g : Gate) : Bool :=
  match g with
  | .always => true
  | .notRun => s.ign == .watch || s.ign == .accessory || s.ign == .holdup
  | .run => s.ign == .run
  | .moving => s.moving
  | .stopped => s.stopped
  | .engineRunning => s.engineRunning

/-- The SHOWN warning, if there is one. -/
def State.shown (s : State) : Option Nat := s.arbiter.warnings.findIdx? fun w => w.state == .shown

/-- The display record carries the WARNING page: a warning is SHOWN or a review runs (R134). -/
def State.warningPage (s : State) : Bool := s.shown.isSome || s.arbiter.review.isSome

/-- The HOLDUP exit condition: no dirty lines and no message in flight (R182, R59). -/
def State.exitCondition (s : State) : Bool := !s.store.dirtyReported && s.line.queue.isEmpty

/-- The key position (R180). -/
inductive Position
  | off
  | acc
  | run
deriving DecidableEq, Repr

/-- The key position of the filtered inputs: RUN while IGN-RUN is high, whatever IGN-ACC shows (R180). -/
def Ignition.position (i : Ignition) : Position := if i.run then .run else if i.acc then .acc else .off

/-! ### Service items (R151, R153) -/

/-- The distance dimension takes part (R151). -/
def ItemFigures.kmInUse (f : ItemFigures) : Bool := f.distanceInterval != 0

/-- The day dimension takes part (R151). -/
def ItemFigures.daysInUse (f : ItemFigures) : Bool := f.dayInterval != 0

/-- An item is active (R151). -/
def ItemFigures.active (f : ItemFigures) : Bool := f.enabled && (f.kmInUse || f.daysInUse)

/-- The state of a dimension from its remaining count (Table 9-3). -/
def dimensionState (r : Int) (ahead margin : Nat) : ItemState :=
  if (ahead : Int) < r then .ok else if 0 < r then .soon else if -(margin : Int) < r then .due else .overdue

/-- How far advanced an item state is. -/
def ItemState.rank : ItemState → Nat
  | .ok => 0
  | .soon => 1
  | .due => 2
  | .overdue => 3

/-- The more advanced of two states (R153). -/
def ItemState.worse (a b : ItemState) : ItemState := if a.rank < b.rank then b else a

/-- The state of an item from its remaining counts (R153). -/
def itemStateOf (f : ItemFigures) (km days : Int) : ItemState :=
  (if f.kmInUse then dimensionState km f.aheadKm f.marginKm else .ok).worse
    (if f.daysInUse then dimensionState days f.aheadDays f.marginDays else .ok)

end Sys2Proof.Machine
end

