-- ==== Sys2Proof/Machine/Sound.lean ====
section
/-! DEFINITION. The sound and lamp unit (Chapter 8): tones, the chime channel, quiet cabin, the sound arbiter, clicks and
ticks, and the lamp outputs. -/

namespace Sys2Proof.Machine

/-- A calibrated pattern. -/
def State.pattern (s : State) (i : Nat) : Pattern := s.cal.patterns.getD i ⟨0, none, 1, 0, 1, false⟩

/-- Half period of a tone in crystal cycles (Table 8-1). -/
def toneHalfPeriod : Nat → Nat
  | 0 => 4000
  | 1 => 3077
  | 2 => 2500
  | 3 => 2000
  | 4 => 1600
  | 5 => 1333
  | 6 => 1143
  | _ => 1000

/-- How many crystal cycles of each period of a tone SND is high: half of the period at LOUD, one eighth at SOFT (R137).
That these cycles are the first of the period is `State.sndHigh`'s choice.
DESIGN CHOICE (log entry 38): where an eighth of a period is no whole number of cycles (tones 1, 5 and 6) it is rounded up. -/
def toneHigh (tone : Nat) (loud : Bool) : Nat :=
  if loud then toneHalfPeriod tone else (2 * toneHalfPeriod tone + 7) / 8

/-- The tone of an ON phase: the first for an odd index, the second (if there is one) for an even index (R139). -/
def Pattern.tone (p : Pattern) (index : Nat) : Nat := if index % 2 = 1 then p.first else p.second.getD p.first

/-- The current pattern's items. -/
def State.current (s : State) : Pattern :=
  match s.sound.playing with
  | some p => s.pattern p.pattern
  | none => s.pattern 0

/-- The class of the SHOWN warning. -/
def State.shownClass (s : State) : Option WarnClass := s.shown.map s.warningClass

/-! ### Quiet cabin and the sound arbiter (R141 to R143) -/

/-- The chime is muted: quiet cabin is requested and the SHOWN warning is ADVISORY or INFORMATION (Table 8-6). -/
def State.muted (s : State) : Bool :=
  s.sound.quietCabin && (s.shownClass == some .advisory || s.shownClass == some .information)

/-- The channel asks for the output: ON or CARRY, and not muted (R141). -/
def State.chimeAsks (s : State) : Bool := (s.sound.channel == .on || s.sound.channel == .carry) && !s.muted

/-- The sound arbiter after a change at the channel (Table 8-7): a chime that asks takes the output, cutting a click or
tick; one that has ceased to ask releases it. -/
def State.syncChime (s : State) : State :=
  if s.chimeAsks then s.setSound { s.sound with output := .chime, clickTimer := 0, tickTimer := 0 }
  else if s.sound.output = .chime then s.setSound { s.sound with output := .silent }
  else s

/-- A click request (Table 8-7). -/
def Sound.click (u : Sound) : Sound :=
  match u.output with
  | .chime => u
  | _ => { u with output := .click, clickTimer := 2, tickTimer := 0 }

/-- A tick request (Table 8-7). -/
def Sound.tick (u : Sound) : Sound :=
  match u.output with
  | .chime | .click => u
  | _ => { u with output := .tick, tickTimer := 1 }

/-- A click request at the state. -/
def State.click (s : State) : State := s.setSound s.sound.click

/-- The volume of the chime as driven: SOFT is forced on CAUTION by quiet cabin (Table 8-6). -/
def State.chimeLoud (s : State) : Bool :=
  (if s.sound.channel = .carry then s.sound.carryLoud else s.current.loud) &&
    !(s.sound.quietCabin && s.shownClass == some .caution)

/-- SND: the tone driven and whether it is LOUD; none while the output is SILENT (R137, R141, R143). -/
def State.snd (s : State) : Option (Nat × Bool) :=
  match s.sound.output with
  | .silent => none
  | .chime =>
    some (if s.sound.channel = .carry then s.sound.carryTone else s.current.tone s.sound.onIndex, s.chimeLoud)
  | .click => some (7, false)
  | .tick => some (2, false)

/-- The level of SND, `cycles` crystal cycles from now while the output stays as it is: high for its part of each period of
the tone counter, and held low while the output is SILENT (R137). DESIGN CHOICE (log entry 38): R137 gives the fractions and
not their place in the period; the high part comes first, the first half at LOUD and the first eighth at SOFT. -/
def State.sndHigh (s : State) (cycles : Nat) : Bool :=
  match s.snd with
  | some (tone, loud) => decide ((s.sound.toneCycle + cycles) % (2 * toneHalfPeriod tone) < toneHigh tone loud)
  | none => false

/-- The tone counter `cycles` crystal cycles later: it is stopped while the output is SILENT (R137). DESIGN CHOICE (log
entry 38): a tone that starts, and a change of tone, goes on from where the counter stands. -/
def State.toneLater (s : State) (cycles : Nat) : Nat :=
  match s.snd with
  | some (tone, _) => (s.sound.toneCycle + cycles) % (2 * toneHalfPeriod tone)
  | none => s.sound.toneCycle

/-! ### The chime channel (R139, R140) -/

/-- A pattern is started from the beginning (R139). -/
def State.startPattern (s : State) (p : Playing) : State :=
  s.setSound { s.sound with channel := .on, playing := some p, cadence := (s.pattern p.pattern).onTime, onIndex := 1,
                            repeats := 0 }

/-- A SHOWN notice for warning `w` (Table 8-5). -/
def State.shownNotice (s : State) (w : Nat) : State :=
  let p : Playing := ⟨(s.warningFigures w).pattern, w⟩
  if s.warningClass w = .danger then s.startPattern p
  else
    match s.sound.channel with
    | .idle | .off | .done => s.startPattern p
    | .on =>
      s.setSound { s.sound with channel := .carry, playing := some p, carryTone := s.current.tone s.sound.onIndex,
                                carryLoud := s.current.loud }
    | .carry => s.setSound { s.sound with playing := some p }

/-- The arbiter reports that no warning is SHOWN: IDLE from any state (R140). -/
def State.noneShown (s : State) : State :=
  s.setSound { s.sound with channel := .idle, playing := none, cadence := 0 }

/-- The ON-phase index after `i`: a free value within its range after 255 (log entry 6). -/
def nextOnIndex (k i : Nat) : Nat := if i < 255 then i + 1 else 1 + Config.onIndexAfterTop k % 255

/-- The repeat counter gains 1; with repeats of 0 it stops at 254 (R139). -/
def Pattern.nextRepeats (p : Pattern) (r : Nat) : Nat := if p.repeats = 0 then min 254 (r + 1) else r + 1

/-- The end of an OFF phase, and the warning whose pattern is complete if it is (R139). -/
def State.endOff (s : State) : State × Option Nat :=
  let p := s.current
  let r := p.nextRepeats s.sound.repeats
  if p.repeats ≠ 0 ∧ r = p.repeats then
    (s.setSound { s.sound with channel := .done, repeats := r, cadence := 0 }, s.sound.playing.map (·.warning))
  else
    ((s.setSound { s.sound with channel := .on, repeats := r, cadence := p.onTime,
                                onIndex := nextOnIndex s.freeIndex s.sound.onIndex }).setFreeIndex
      (if s.sound.onIndex < 255 then s.freeIndex else s.freeIndex + 1), none)

/-- The cadence counter expires (R139, R140): the channel's next phase, and the warning whose pattern is complete. -/
def State.cadenceEnd (s : State) : State × Option Nat :=
  match s.sound.channel with
  | .on =>
    let off := s.setSound { s.sound with channel := .off, cadence := s.current.offTime }
    if s.current.offTime = 0 then off.endOff else (off, none)
  | .off => s.endOff
  | .carry =>
    match s.sound.playing with
    | some p => (s.startPattern p, none)
    | none => (s.noneShown, none)
  | .idle | .done => (s, none)

/-! ### Lamps (R146 to R149) -/

/-- The kind of a lamp. -/
def State.lampKind (s : State) (n : Nat) : LampKind := s.cal.lamps.getD n .unused

/-- Some warning assigned to lamp `n` satisfies `p`. -/
def State.lampAny (s : State) (n : Nat) (p : WarningState → Bool) : Bool :=
  (List.range 32).any fun w => (s.warningFigures w).lamp == some n && p (s.warning w).state

/-- A lamp as its kind gives (R147, R148). -/
def State.lampByKind (s : State) (n : Nat) : Bool :=
  match s.lampKind n with
  | .warning => if s.lampAny n (· == .shown) then s.sound.lit else s.lampAny n (· != .off)
  | .turnLeft => s.turnLeft
  | .turnRight => s.turnRight
  | .highBeam => s.highBeam
  | .unused => false

/-- Lamp output `n`: on or off (R146, R149). -/
def State.lampOn (s : State) (n : Nat) : Bool :=
  if !s.ign.awake then false else if s.sound.bulbCheck.isSome then true else s.lampByKind n

/-! ### Followers of E2 and E3, occasions -/

/-- Quiet cabin from E3's flag (R142). -/
def State.followQuietCabin (s : State) : State :=
  (s.setSound { s.sound with quietCabin := s.quietCabinFlag }).syncChime

/-- An E2 arrival at the turn ticks (R145). -/
def State.turnTick (s : State) : State :=
  let u := s.sound
  let changed := u.lastLeft != s.turnLeft || u.lastRight != s.turnRight
  let u' := { u with lastLeft := s.turnLeft, lastRight := s.turnRight }
  s.setSound (if changed then u'.tick else u')

/-- E2 becomes LOST or EMPTY at the turn ticks (R145). -/
def Sound.forgetFlashers (u : Sound) : Sound := { u with lastLeft := false, lastRight := false }

/-- SLEEP entry (R150). -/
def Sound.sleep (u : Sound) : Sound :=
  { u with channel := .idle, playing := none, cadence := 0, output := .silent, clickTimer := 0, tickTimer := 0,
           flash := none, bulbCheck := none }

/-- Wake, and the end of LOAD unless SLEEP is entered: the flash counter starts LIT, the rest stands at its power-on
values (R147, R150). -/
def Sound.wake (u : Sound) : Sound :=
  { u.sleep with quietCabin := false, lastLeft := false, lastRight := false, flash := some 25, lit := true }

/-- The bulb check starts: 3 s (R149). -/
def Sound.startBulbCheck (u : Sound) : Sound := { u with bulbCheck := some 300 }

/-- The bulb check ends (R149). -/
def Sound.endBulbCheck (u : Sound) : Sound := { u with bulbCheck := none }

end Sys2Proof.Machine
end

