-- ==== Sys2Proof/Machine/Arbiter.lean ====
section
/-! DEFINITION. The warning arbiter (Chapter 7): requests, selection, acknowledgements, the review, the rear cascade and
the summary topic 43h. Every event goes through `State.arbiterEvent`: the event's own changes, one selection, the notices
to the sound unit, and one 43h if its content has changed. -/

namespace Sys2Proof.Machine

/-- The classes, most urgent first (R118). -/
def allClasses : List WarnClass := [.danger, .caution, .advisory, .information]

/-- The class order (R122): the rotation order, or ascending number. -/
def State.classOrder (s : State) (c : WarnClass) : List Nat :=
  match c with
  | .caution => s.arbiter.cautionOrder
  | .advisory => s.arbiter.advisoryOrder
  | .danger | .information => (List.range 32).filter fun w => s.warningClass w == c

/-- The warnings of a class in ascending number: a rotation order as it is formed at the end of LOAD (R122). -/
def State.formedOrder (s : State) (c : WarnClass) : List Nat := (List.range 32).filter fun w => s.warningClass w == c

/-- The first warning of a class, in the class order, in state `x`. -/
def State.firstOf (s : State) (x : WarningState) (c : WarnClass) : Option Nat :=
  (s.classOrder c).find? fun w => (s.warning w).state == x

/-- In service: SHOWN or HELD (R118). -/
def WarningState.inService : WarningState → Bool
  | .shown | .held => true
  | .off | .pending | .silenced => false

/-- A warning taken to another state than SHOWN or HELD, its timers and mark cleared. -/
def Warning.goTo (x : WarningState) (v : Warning) : Warning :=
  { v with state := x, shownTimer := 0, completed := false, reminder := 0 }

/-! ### The summary topic 43h (R135) -/

/-- The six data bytes of 43h (Table 12-3). -/
def State.summary (s : State) : List Byte :=
  let mask := packCodes 1 (s.arbiter.warnings.map fun w => flagNat (w.state != .off))
  (match s.shown with
   | some w => [byteOf w, byteOf (s.warningClass w).rank]
   | none => [0xFF, 0xFF]) ++
    [byteOf (mask / 16777216), byteOf (mask / 65536), byteOf (mask / 256), byteOf mask]

/-- 43h is queued, of class 0 while the SHOWN warning is DANGER, else of class 2. -/
def State.queueSummary (s : State) : State :=
  s.publish 0x43 (if s.shownClass = some .danger then 0 else 2) s.summary

/-! ### Sub-warnings (R129 to R132) -/

/-- The lowest-numbered OPEN sub-warning. -/
def lowestOpen (subs : List SubState) : Option Nat := subs.findIdx? (· == .opened)

/-- Topic 44h is queued: class 1, the set ACKED-LOCAL (R132). -/
def State.queueCascade (s : State) : State :=
  s.publish 0x44 1 [byteOf (packCodes 1 (s.arbiter.subs.map fun x => flagNat (x == .ackedLocal)))]

/-- The lowest-numbered OPEN sub-warning becomes presented; if warning 30 is SHOWN its pattern starts from the beginning
and its shown timer is set to 0 (R130, R131). -/
def State.presentNext (s : State) : State :=
  let s' := s.setArbiter { s.arbiter with presented := lowestOpen s.arbiter.subs }
  if (s.warning 30).state = .shown then
    (s'.modifyWarning 30 fun v => { v with shownTimer := 0 }).shownNotice 30
  else s'

/-- No sub-warning is presented while warning 30 is out of service (R130). -/
def State.dropPresented (s : State) : State :=
  if (s.warning 30).state.inService then s else s.setArbiter { s.arbiter with presented := none }

/-! ### Selection (R121, R123) -/

/-- Entry to SHOWN (R123): timer and mark cleared, a review ended, warning 30's sub-warning presented if none is, and
the sound unit told. -/
def State.enterShown (s : State) (w : Nat) : State :=
  let s' := s.modifyWarning w fun v => { v with state := .shown, shownTimer := 0, completed := false, reminder := 0 }
  let presented :=
    if w = 30 ∧ s'.arbiter.presented = none then lowestOpen s'.arbiter.subs else s'.arbiter.presented
  (s'.setArbiter { s'.arbiter with review := none, presented := presented }).shownNotice w

/-- The warning that becomes SHOWN while none is: of the most urgent class with a HELD or PENDING warning, the HELD one
first. -/
def State.candidate (s : State) : Option Nat :=
  allClasses.findSome? fun c => (s.firstOf .held c).or (s.firstOf .pending c)

/-- The PENDING warning that preempts a SHOWN warning of class `c`. -/
def State.preemptor (s : State) (c : WarnClass) : Option Nat :=
  (allClasses.filter fun d => decide (d.rank < c.rank)).findSome? (s.firstOf .pending)

/-- The selection made once after each event (R121). -/
def State.select (s : State) : State :=
  match s.shown with
  | none =>
    match s.candidate with
    | some w => s.enterShown w
    | none => s
  | some v =>
    match s.preemptor (s.warningClass v) with
    | some w => (s.modifyWarning v fun x => { x with state := .held }).enterShown w
    | none => s

/-- The review ends when the reviewed warning leaves SILENCED (R125). -/
def State.endStaleReview (s : State) : State :=
  match s.arbiter.review with
  | some r => if (s.warning r.warning).state = .silenced then s else s.setArbiter { s.arbiter with review := none }
  | none => s

/-- One event at the arbiter: its own changes, the selection, the report that none is SHOWN, and 43h if its content has
changed (R118, R121, R123, R135). -/
def State.arbiterEvent (s : State) (f : State → State) : State :=
  let s1 := (f s).dropPresented.select
  let s2 := if s.shown.isSome && s1.shown.isNone then s1.noneShown else s1
  let s3 := s2.endStaleReview.syncChime
  if s3.summary = s.summary then s3 else s3.queueSummary

/-! ### Requests (R119, R120) -/

/-- A level request as given by its source: it stands or it is withdrawn; a disabled warning's is taken as neither. -/
def Warning.takeLevel (enabled stands : Bool) (v : Warning) : Warning :=
  if stands && enabled then
    if v.state = .off then { v.goTo .pending with level := true } else { v with level := true }
  else if v.level then { v.goTo .off with level := false }
  else v

/-- An edge request. -/
def Warning.takeEdge (enabled : Bool) (v : Warning) : Warning :=
  if enabled && (v.state == .off || v.state == .silenced) then v.goTo .pending else v

/-- The level request of warning `w` as its source gives it. -/
def State.takeLevel (s : State) (w : Nat) (stands : Bool) : State :=
  s.modifyWarning w (Warning.takeLevel (s.warningFigures w).enabled stands)

/-- An edge request of warning `w` taken within an event. -/
def State.takeEdge (s : State) (w : Nat) : State := s.modifyWarning w (Warning.takeEdge (s.warningFigures w).enabled)

/-- An edge request of the service unit: an event of its own (R120). While the part is not awake the arbiter is stopped
(R136) and the request is not taken (log entry 18). -/
def State.edgeRequest (s : State) (w : Nat) : State :=
  if s.ign.awake then s.arbiterEvent fun s => s.takeEdge w else s

/-- The warnings whose level request a request set names (R111). -/
def ruleFed (w : Nat) : Bool := decide (w ≤ 26) || w == 31

/-- A request set of the rules, taken whole (R111). -/
def State.requestSet (s : State) (level edge : Nat → Bool) : State :=
  s.arbiterEvent fun s =>
    ((List.range 32).filter ruleFed).foldl
      (fun s w => let s := s.takeLevel w (level w); if edge w then s.takeEdge w else s) s

/-! ### Acknowledgements (R122, R124, R126, R127, R131) -/

/-- The reminder time of a class (R128). -/
def reminderTime : WarnClass → Nat
  | .danger => 600
  | .caution => 3000
  | .advisory | .information => 0

/-- A warning as acknowledged: SILENCED if its level request stands, else OFF. -/
def Warning.acknowledged (c : WarnClass) (v : Warning) : Warning :=
  if v.level then { v.goTo .silenced with reminder := reminderTime c } else v.goTo .off

/-- `w` moves to the end of a list that holds it. -/
def moveLast (w : Nat) (l : List Nat) : List Nat := if l.contains w then l.filter (· != w) ++ [w] else l

/-- `w` moves to the end of its class's rotation order (R122). -/
def State.rotate (s : State) (w : Nat) : State :=
  match s.warningClass w with
  | .caution => s.setArbiter { s.arbiter with cautionOrder := moveLast w s.arbiter.cautionOrder }
  | .advisory => s.setArbiter { s.arbiter with advisoryOrder := moveLast w s.arbiter.advisoryOrder }
  | .danger | .information => s

/-- An acknowledgement of a warning other than 30. -/
def State.acknowledge (s : State) (w : Nat) : State :=
  let s' := s.modifyWarning w (Warning.acknowledged (s.warningClass w))
  if (s.warning w).state.inService then s'.rotate w else s'

/-- An acknowledgement of sub-warning `n` (R131). -/
def State.acknowledgeSub (s : State) (n : Nat) : State :=
  let s1 := (s.setArbiter { s.arbiter with subs := s.arbiter.subs.set n .ackedLocal }).queueCascade
  if (lowestOpen s1.arbiter.subs).isSome then
    if (s.warning 30).state.inService then s1.presentNext else s1
  else
    let s2 := s1.takeLevel 30 false
    if (s.warning 30).state.inService then s2.rotate 30 else s2

/-- An acknowledgement of warning 30: of the presented sub-warning, or while PENDING of the lowest-numbered OPEN one. -/
def State.acknowledgeCascade (s : State) : State :=
  let n := if (s.warning 30).state.inService then s.arbiter.presented else lowestOpen s.arbiter.subs
  match n with
  | some n => s.acknowledgeSub n
  | none => s

/-- An acknowledgement of any warning. -/
def State.acknowledgeAny (s : State) (w : Nat) : State := if w = 30 then s.acknowledgeCascade else s.acknowledge w

/-! ### The review (R125) -/

/-- The SILENCED warnings in the review order. -/
def State.reviewOrder (s : State) : List Nat :=
  allClasses.flatMap fun c => (s.classOrder c).filter fun w => (s.warning w).state == .silenced

/-- The warning after `r` in a list. -/
def nextAfter (r : Nat) (l : List Nat) : Option Nat := ((l.dropWhile (· != r)).drop 1).head?

/-- The review starts, steps or ends. -/
def State.reviewStep (s : State) : State :=
  let next :=
    match s.arbiter.review with
    | some r => nextAfter r.warning s.reviewOrder
    | none => s.reviewOrder.head?
  s.setArbiter { s.arbiter with review := next.map fun w => ⟨w, 40⟩ }

/-- The review ends. -/
def State.endReview (s : State) : State := s.setArbiter { s.arbiter with review := none }

/-- The DANGER guard holds (R124). -/
def State.guarded (s : State) (w : Nat) : Bool :=
  s.warningClass w == .danger && decide ((s.warning w).shownTimer < 30)

/-- An accepted press of ACK (R124). -/
def State.ackPress (s : State) : State :=
  s.arbiterEvent fun s =>
    match s.shown with
    | some w => if s.guarded w then s else s.acknowledgeAny w
    | none => s.reviewStep

/-- A specific acknowledgement has something to act on (Table 7-2). -/
def State.acknowledgeable (s : State) (w : Nat) : Bool :=
  match (s.warning w).state with
  | .shown | .held | .pending => true
  | .off | .silenced => false

/-- A specific acknowledgement of warning `w`, and its status (R126). -/
def State.specificAck (s : State) (w : Nat) : State × Status :=
  if s.acknowledgeable w then (s.arbiterEvent fun s => s.acknowledgeAny w, .done) else (s, .notActive)

/-- Pattern complete for warning `w` (R127). -/
def State.patternDone (s : State) (w : Nat) : State :=
  s.arbiterEvent fun s =>
    if s.shown = some w ∧ s.warningClass w = .information then
      if 40 ≤ (s.warning w).shownTimer then s.acknowledge w
      else s.modifyWarning w fun v => { v with completed := true }
    else s

/-- A report of the channel, if there is one. -/
def State.reportDone (r : State × Option Nat) : State :=
  match r.2 with
  | some w => r.1.syncChime.patternDone w
  | none => r.1.syncChime

/-! ### The arbiter tick (R127, R128) -/

/-- The shown timer of a SHOWN warning has reached 40 ticks: an INFORMATION warning whose mark is set is acknowledged. -/
def State.shownTimerDone (s : State) (w : Nat) : State :=
  let s' := s.modifyWarning w fun v => { v with shownTimer := 40 }
  if s.warningClass w = .information ∧ (s.warning w).completed then s'.acknowledge w else s'

/-- The shown timer at an arbiter tick. -/
def State.shownTick (s : State) : State :=
  match s.shown with
  | some w =>
    if (s.warning w).shownTimer = 39 then s.shownTimerDone w
    else s.modifyWarning w fun v => { v with shownTimer := satAdd 40 v.shownTimer 1 }
  | none => s

/-- The reminder timer of a warning at an arbiter tick; at 0 the warning becomes PENDING. -/
def Warning.reminderTick (v : Warning) : Warning :=
  if v.state = .silenced ∧ 0 < v.reminder then
    if v.reminder = 1 then v.goTo .pending else { v with reminder := v.reminder - 1 }
  else v

/-- The review timer at an arbiter tick. -/
def State.reviewTick (s : State) : State :=
  match s.arbiter.review with
  | some r =>
    if r.timer ≤ 1 then s.endReview else s.setArbiter { s.arbiter with review := some { r with timer := r.timer - 1 } }
  | none => s

/-- An expiry of the arbiter tick: all its timers, as one event. -/
def State.arbiterTicked (s : State) : State :=
  s.arbiterEvent fun s =>
    let s1 := s.setArbiter { s.arbiter with warnings := s.arbiter.warnings.map Warning.reminderTick }
    s1.reviewTick.shownTick

/-! ### The rear cascade (R129, R130, R133) -/

/-- A sub-warning at an E3 arrival (Table 7-4). -/
def SubState.move (active acked : Bool) (x : SubState) : SubState :=
  if !active then .none
  else if acked then .ackedLocal
  else
    match x with
    | .ackedLocal => .ackedLocal
    | .none | .opened => .opened

/-- The presented sub-warning after the sub-warnings have moved (R130). -/
def State.followPresented (s : State) : State :=
  if (s.warning 30).state.inService then
    match s.arbiter.presented with
    | some p => if s.arbiter.subs.getD p .none = .opened then s else s.presentNext
    | none => s.presentNext
  else s

/-- An arrival at E3 at the cascade: one event for all eight sub-warnings. -/
def State.cascadeArrival (s : State) : State :=
  let data := (s.entry 3).data
  s.arbiterEvent fun s =>
    let old := s.arbiter.subs
    let s1 := s.setArbiter
      { s.arbiter with subs := old.mapIdx fun n x => x.move (bitAt data 0 n) (bitAt data 1 n) }
    let repeats := (List.range 8).any fun n =>
      old.getD n .none == .ackedLocal && bitAt data 0 n && !bitAt data 1 n
    let s2 := if repeats then s1.queueCascade else s1
    (s2.takeLevel 30 (lowestOpen s2.arbiter.subs).isSome).followPresented

/-- E3 becomes LOST or EMPTY (R133). -/
def State.cascadeLost (s : State) : State :=
  s.arbiterEvent fun s =>
    (s.setArbiter { s.arbiter with subs := List.replicate 8 .none }).takeLevel 30 false

/-! ### Occasions (R136) -/

/-- Every warning OFF, no review, nothing presented, and the sound unit told that none is SHOWN. -/
def State.arbiterClear (s : State) : State :=
  (s.setArbiter { s.arbiter with warnings := List.replicate 32 .off, review := none, presented := none }).noneShown.syncChime

/-- SLEEP entry: the changes queue nothing, and both counters stop. -/
def State.arbiterSleep (s : State) : State :=
  let s' := s.arbiterClear
  s'.setArbiter { s'.arbiter with tick := none, rate43 := none }

/-- The arbiter tick and the 43h rate counter start, and one 43h is queued (R135, R136). -/
def State.arbiterStart (s : State) : State :=
  (s.setArbiter { s.arbiter with tick := some 10, rate43 := some 200 }).queueSummary

/-- Wake. -/
def State.arbiterWake (s : State) : State :=
  let s' := s.arbiterClear
  s'.setArbiter { s'.arbiter with subs := List.replicate 8 .none }

/-- The rotation orders are formed (R122). -/
def State.formOrders (s : State) : State :=
  s.setArbiter { s.arbiter with cautionOrder := s.formedOrder .caution, advisoryOrder := s.formedOrder .advisory }

end Sys2Proof.Machine
end

