-- ==== Sys2Proof/Machine/Rules.lean ====
section
/-! DEFINITION. The warning rules (Chapter 6): comparison, gates, the states of a slot, and the request set that one
evaluation gives the arbiter. -/

namespace Sys2Proof.Machine

/-- The rule record of a slot; an inactive slot has none. -/
def State.record (s : State) (i : Nat) : Option RuleRecord := (s.cal.slots.getD i none)

/-- State and timer of slot `i`. -/
def State.slot (s : State) (i : Nat) : Slot := s.rules.slots.getD i .clear

/-- ASSERTED and RELEASING: the states compared with the shifted threshold, in which a LEVEL rule holds its request. -/
def RuleState.holds : RuleState → Bool
  | .asserted | .releasing => true
  | .clear | .qualifying => false

/-- The effective threshold (R106). -/
def RuleRecord.effective (r : RuleRecord) (st : RuleState) : Int :=
  if st.holds then
    if r.cond.less && !r.cond.greater then r.threshold + r.hysteresis
    else if r.cond.greater && !r.cond.less then r.threshold - r.hysteresis
    else r.threshold
  else r.threshold

/-- The condition of a rule for a reading (R106). -/
def RuleRecord.holds (r : RuleRecord) (st : RuleState) (v : Option Int) : Bool :=
  match v with
  | none => r.cond.unordered
  | some v =>
    let t := r.effective st
    if v < t then r.cond.less else if v = t then r.cond.equal else r.cond.greater

/-- A slot at an evaluation whose gate is true (Table 6-5). -/
def Slot.move (r : RuleRecord) (holds : Bool) (x : Slot) : Slot :=
  match x.state with
  | .clear =>
    if holds then (if r.qualify = 0 then ⟨.asserted, 0⟩ else ⟨.qualifying, r.qualify⟩) else ⟨.clear, 0⟩
  | .qualifying =>
    if holds then (if x.timer ≤ 1 then ⟨.asserted, 0⟩ else ⟨.qualifying, x.timer - 1⟩) else ⟨.clear, 0⟩
  | .asserted =>
    if holds then x else if r.release = 0 then ⟨.clear, 0⟩ else ⟨.releasing, r.release⟩
  | .releasing =>
    if holds then ⟨.asserted, 0⟩ else if x.timer ≤ 1 then ⟨.clear, 0⟩ else ⟨.releasing, x.timer - 1⟩

/-- Slot `i` at an evaluation (R105): the gate, the comparison, the move. -/
def State.evaluateSlot (s : State) (i : Nat) : Slot :=
  match s.record i with
  | none => .clear
  | some r =>
    if s.gate r.gate then (s.slot i).move r (r.holds (s.slot i).state (s.sourceValue r.source)) else .clear

/-- The rule is asserted at this evaluation: it enters ASSERTED from CLEAR or QUALIFYING (R109). -/
def Slot.newlyAsserted (old new : Slot) : Bool := !old.state.holds && new.state == .asserted

/-- A LEVEL slot of warning `w` holds a level request (R110). -/
def State.levelHeld (s : State) (slots : List Slot) (w i : Nat) : Bool :=
  match s.record i with
  | some r => !r.edge && r.warning == w && (slots.getD i .clear).state.holds
  | none => false

/-- An EDGE slot of warning `w` is asserted at this evaluation (R110). -/
def State.edgeGiven (s : State) (slots : List Slot) (w i : Nat) : Bool :=
  match s.record i with
  | some r => r.edge && r.warning == w && (s.slot i).newlyAsserted (slots.getD i .clear)
  | none => false

/-- One evaluation: every slot moves, and the request set is given to the arbiter (R105, R111). -/
def State.evaluateRules (s : State) : State :=
  let slots := (List.range 32).map s.evaluateSlot
  (s.setRules { s.rules with slots := slots }).requestSet
    (fun w => (List.range 32).any (s.levelHeld slots w)) (fun w => (List.range 32).any (s.edgeGiven slots w))

/-- SLEEP entry: the evaluation timer stops (R112). -/
def Rules.sleep (r : Rules) : Rules := { r with timer := none }

/-- Wake, and the end of LOAD unless SLEEP is entered: every slot CLEAR, the evaluation timer started (R112). -/
def Rules.wake (_ : Rules) : Rules := { slots := List.replicate 32 .clear, timer := some 10 }

end Sys2Proof.Machine
end

