-- ==== Sys2Proof/Machine/Service.lean ====
section
/-! DEFINITION. The service unit (Chapter 9): item states and their edge requests, the countdown, fills, resets, and the
selected item. Everything here leaves the store's progress to the command that called it. -/

namespace Sys2Proof.Machine

/-- Item `i` is active (R151). -/
def State.itemActive (s : State) (i : Nat) : Bool := (s.itemFigures i).active

/-- The active items in ascending order. -/
def State.activeItems (s : State) : List Nat := (List.range 8).filter s.itemActive

/-! ### Item states (R153, R154) -/

/-- The state of item `i` formed afresh; an item that is not active stays OK, and one whose block is absent keeps its
state. -/
def State.newItemState (s : State) (i : Nat) : ItemState :=
  if s.itemActive i && s.store.present (itemBlock i) then
    itemStateOf (s.itemFigures i) (s.store.remainingKm i) (s.store.remainingDays i)
  else (s.item i).state

/-- The warning of the state entered (R154). -/
def ItemState.warning : ItemState → Option Nat
  | .ok => none
  | .soon => some 27
  | .due => some 28
  | .overdue => some 29

/-- The edge request that a change of state sends: none for a change toward OK (R154). -/
def edgeFor (old new : ItemState) : Option Nat := if old.rank < new.rank then new.warning else none

/-- The states of items formed afresh, without requests. -/
def State.formQuietly (s : State) (is : List Nat) : State :=
  is.foldl (fun s i => s.modifyItem i fun x => { x with state := s.newItemState i }) s

/-- The states of items formed afresh; the requests are sent one after the other in item order. -/
def State.formItems (s : State) (is : List Nat) : State :=
  (is.filterMap fun i => edgeFor (s.item i).state (s.newItemState i)).foldl State.edgeRequest (s.formQuietly is)

/-- The item that the service unit names for a warning 27 to 29 (R154). -/
def State.serviceName (s : State) (w : Nat) : Option Nat :=
  firstIndex 8 fun i => (s.item i).state.warning == some w

/-- The reminders of a RUN entry (R155). -/
def State.serviceReminders (s : State) : State :=
  ((List.range 8).filterMap fun i =>
    if s.itemActive i && ((s.item i).state == .due || (s.item i).state == .overdue) then (s.item i).state.warning
    else none).foldl State.edgeRequest s

/-! ### Countdown (R156) -/

/-- A remaining count lowered by `n`, floored at −32,000. -/
def lowerRemaining (r : Int) (n : Nat) : Int := if r ≤ -32000 then r else max (-32000) (r - n)

/-- A signed two-byte field at offset `o` lowered by `n`. -/
def lowerField (o n : Nat) (bs : List Byte) : List Byte :=
  splice bs o (signedBytes2 (lowerRemaining (signedWordAt bs o) n))

/-- The fetch-outstanding mark of a service block. -/
def Service.mark (v : Service) (b : Nat) : Bool := v.fetchMarks.getD (b - 3) false

/-- The mark of a block set or cleared. -/
def State.setMark (s : State) (b : Nat) (x : Bool) : State :=
  s.setService { s.service with fetchMarks := s.service.fetchMarks.set (b - 3) x }

/-- A FETCH of a service block, unless one is outstanding (R156). -/
def State.fetchService (s : State) (b : Nat) : State :=
  if s.service.mark b then s else (s.setStore (s.store.fetch b)).setMark b true

/-- The dimension of an item that "1 km" (`km` true) or "1 day" counts. -/
def ItemFigures.inUse (f : ItemFigures) (km : Bool) : Bool := if km then f.kmInUse else f.daysInUse

/-- The offset of a dimension's remaining count in its block. -/
def remainingOffset (i : Nat) (km : Bool) : Nat := itemOffset i + if km then 0 else 2

/-- A pending count gains 1, saturating. -/
def ServiceItem.pend (km : Bool) (x : ServiceItem) : ServiceItem :=
  if km then { x with pendingKm := satAdd 255 x.pendingKm 1 } else { x with pendingDays := satAdd 255 x.pendingDays 1 }

/-- A decrement of item `i`. -/
def State.countItem (km : Bool) (s : State) (i : Nat) : State :=
  if s.itemActive i && (s.itemFigures i).inUse km then
    if s.store.present (itemBlock i) then s.update (itemBlock i) (lowerField (remainingOffset i km) 1)
    else (s.modifyItem i (ServiceItem.pend km)).fetchService (itemBlock i)
  else s

/-- One "1 km" or "1 day": one event for all items. DESIGN CHOICE (log entry 46): the FETCHes of absent blocks are issued in
ascending item order. -/
def State.countdown (s : State) (km : Bool) : State :=
  ((List.range 8).foldl (State.countItem km) s).formItems (List.range 8)

/-! ### Resets (R158) -/

/-- The fields of item `i` as a reset or a bad check leaves them: the intervals, and the odometer as it stands. -/
def resetField (f : ItemFigures) (odometer i : Nat) (bs : List Byte) : List Byte :=
  splice bs (itemOffset i)
    (signedBytes2 f.distanceInterval ++ signedBytes2 f.dayInterval ++ bytes3 odometer)

/-- A reset of an item whose block is present: one UPDATE, the pending counts to 0, the state formed, and a WRITEBACK of
the block, for which the workshop's request in progress waits if it asked. What the requests of the state formed queue
comes before the 70h reply (DESIGN CHOICE, log entry 43). -/
def State.applyReset (s : State) (i : Nat) (workshop : Bool) : State :=
  let s1 := s.update (itemBlock i) (resetField (s.itemFigures i) s.store.odometerValue i)
  let s2 := s1.modifyItem i fun x =>
    { x with pendingKm := 0, pendingDays := 0, waitsChauffeur := false, waitsWorkshop := false }
  let s3 := s2.formItems [i]
  let st := s3.store.writeback (itemBlock i) workshop
  s3.setStore (if workshop then { st with task := .placing } else st)

/-- A reset of item `i`, at once or waiting for its block. -/
def State.requestReset (s : State) (i : Nat) (workshop : Bool) : State :=
  if s.store.present (itemBlock i) then s.applyReset i workshop
  else
    (s.modifyItem i fun x =>
      { x with waitsChauffeur := x.waitsChauffeur || !workshop, waitsWorkshop := x.waitsWorkshop || workshop }).fetchService
      (itemBlock i)

/-! ### Fills and workshop writes (R157) -/

/-- The two items of a service block. -/
def itemsOf (b : Nat) : List Nat := [2 * (b - 3), 2 * (b - 3) + 1]

/-- A service block's data as a bad check is taken: both items at their intervals. -/
def replaceService (first second : ItemFigures) (odometer b : Nat) (bs : List Byte) : List Byte :=
  resetField second odometer (2 * (b - 3) + 1) (resetField first odometer (2 * (b - 3)) bs)

/-- The pending counts of item `i` applied at a fill. -/
def State.applyPending (s : State) (i : Nat) : State :=
  let x := s.item i
  if x.pendingKm = 0 ∧ x.pendingDays = 0 then s
  else
    (s.update (itemBlock i) fun bs =>
      lowerField (itemOffset i + 2) x.pendingDays (lowerField (itemOffset i) x.pendingKm bs)).modifyItem i
      fun x => { x with pendingKm := 0, pendingDays := 0 }

/-- A reset that waits for item `i` carried out at a fill. -/
def State.applyWaiting (s : State) (i : Nat) : State :=
  let x := s.item i
  if x.waitsChauffeur || x.waitsWorkshop then s.applyReset i x.waitsWorkshop else s

/-- A fill completion of a service block, outside LOAD. DESIGN CHOICE (log entry 45): of two resets that wait, one for each
item, the lower item's is carried out first, and its write-back order asked for first. -/
def State.serviceFill (s : State) (b : Nat) (bad : Bool) : State :=
  let is := itemsOf b
  let s1 :=
    if bad then
      s.update b (replaceService (s.itemFigures (2 * (b - 3))) (s.itemFigures (2 * (b - 3) + 1)) s.store.odometerValue b)
    else s
  let s2 := is.foldl State.applyPending s1
  let s3 := is.foldl State.applyWaiting s2
  (s3.formItems is).setMark b false

/-- A workshop write of a service block. -/
def State.serviceWritten (s : State) (b : Nat) : State := s.formItems (itemsOf b)

/-- A block of the service unit. -/
def serviceBlock (b : Nat) : Bool := decide (3 ≤ b) && decide (b ≤ 6)

/-! ### The selected item (R161) -/

/-- The selected item's block is fetched if it is absent. -/
def State.fetchSelected (s : State) : State :=
  match s.service.selected with
  | some i => if s.store.present (itemBlock i) then s else s.fetchService (itemBlock i)
  | none => s

/-- The next active item after `i`, wrapping. -/
def State.itemAfter (s : State) (i : Nat) : Option Nat :=
  (s.activeItems.find? fun j => decide (i < j)).or s.activeItems.head?

/-- One step of the selection. -/
def State.stepSelection (s : State) : State :=
  match s.service.selected with
  | none => s
  | some i =>
    let s' := s.setService { s.service with selected := s.itemAfter i }
    if s'.service.selected = some i then s' else s'.fetchSelected

/-! ### Occasions (R152, R162) -/

/-- SLEEP entry: waiting resets and marks are gone. -/
def Service.sleep (v : Service) : Service :=
  { v with
    items := v.items.map fun x => { x with waitsChauffeur := false, waitsWorkshop := false }
    fetchMarks := List.replicate 4 false }

/-- Wake: a FETCH for each block that has an item with a pending count. DESIGN CHOICE (log entry 46): in ascending block
order. -/
def State.serviceWake (s : State) : State :=
  [3, 4, 5, 6].foldl
    (fun s b =>
      if (itemsOf b).any fun i => (s.item i).pendingKm != 0 || (s.item i).pendingDays != 0 then s.fetchService b else s) s

/-- The end of LOAD: the states formed without requests, and the lowest active item selected. -/
def State.serviceLoaded (s : State) : State :=
  let s' := s.formQuietly (List.range 8)
  s'.setService { s'.service with selected := s'.activeItems.head? }

/-- The held days delivered, each an event of its own (R9). -/
def State.deliverHeldDays (s : State) : State :=
  let s' := s.setCounting { s.counting with heldDays := 0 }
  (List.range s.counting.heldDays).foldl (fun s _ => s.countdown false) s'

end Sys2Proof.Machine
end

