-- ==== Sys2Proof/Machine/Counting.lean ====
section
/-! DEFINITION. The counting unit (Chapter 1): pulses and distance steps, the half-second windows, the odometer, the
clock, fuel used and fuel remaining. -/

namespace Sys2Proof.Machine

/-! ### Pulses and steps (R1 to R3) -/

/-- The glitch interval in µs. -/
def glitchInterval : Nat := 100

/-- The pulse interval timer `elapsed` µs later, held at the glitch interval. Each SPEED_PULSE carries the µs since the
edge before, accepted or not, so the edges alone move this timer (log entry 32). -/
def Counting.later (c : Counting) (elapsed : Nat) : Counting :=
  { c with sinceAccepted := c.sinceAccepted.map fun t => satAdd glitchInterval t elapsed }

/-- An edge is accepted: there was none before, or 100 µs have passed since the last accepted one (R1). -/
def Counting.edgeAccepted (c : Counting) : Bool :=
  match c.sinceAccepted with
  | some t => decide (glitchInterval ≤ t)
  | none => true

/-- The odometer gains 0.1 km (R7, R8). -/
def State.gainOdometer (s : State) : State :=
  if odometerTop ≤ s.store.odometerValue then s.update 0 id
  else
    let s1 := s.update 0 (putOdometer (s.store.odometerValue + 1))
    if s.counting.checkpoint ≤ 1 then
      (s1.setStore (s1.store.writeback 0 false)).setCounting { s1.counting with checkpoint := 100 }
    else s1.setCounting { s1.counting with checkpoint := s.counting.checkpoint - 1 }

/-- What a distance step does to the counting unit's own counts, the carries apart (Table 1-1). -/
def Counting.step (c : Counting) : Counting :=
  { c with
    odometerSub := if 9 ≤ c.odometerSub then 0 else c.odometerSub + 1
    serviceSub := if 99 ≤ c.serviceSub then 0 else c.serviceSub + 1
    turnDistance := if c.turnActive then satAdd 65535 c.turnDistance 1 else c.turnDistance
    windowSteps := satAdd 65535 c.windowSteps 1
    stepTally := (c.stepTally + 1) % 65536 }

/-- One distance step (R3). -/
def State.distanceStep (s : State) : State :=
  let s1 := (s.setCounting s.counting.step).setStore { s.store with latch := true }
  let s2 := if 9 ≤ s.counting.odometerSub then s1.gainOdometer else s1
  let s3 := s2.onTrips fun s r => s.addDistance r 1
  if 99 ≤ s.counting.serviceSub then s3.countdown true else s3

/-- An accepted pulse (R1, R2). -/
def State.acceptPulse (s : State) : State :=
  let c := { s.counting with sinceAccepted := some 0, openCount := satAdd 65535 s.counting.openCount 1 }
  if s.cal.divisor ≤ c.stepCount + 1 then (s.setCounting { c with stepCount := 0 }).distanceStep
  else s.setCounting { c with stepCount := c.stepCount + 1 }

/-! ### Windows and speed (R5, R6) -/

/-- The SPEED request for `n` pulses. -/
def speedRequest (n divisor : Nat) : Request :=
  { target := .speed, n := n, k := 360, c := divisor, base := 0, generation := 0, afterReturn := false }

/-- A closure of the half-second window (R5). -/
def State.closeWindow (s : State) : State :=
  let c := s.counting
  let n := c.closedCount + c.openCount
  let s1 := s.setCounting
    { c with closedCount := c.openCount, openCount := 0, hasClosed := true, windowTimer := some 50 }
  if !c.hasClosed then s1
  else if s.arith.outstanding .speed then s1.setCounting { s1.counting with notedPulses := some n }
  else s1.issue (speedRequest n s.cal.divisor)

/-- A SPEED completion: its result is discarded while the windows are stopped (R6), and the n noted meanwhile is asked for
in every state (R5). -/
def State.takeSpeed (s : State) (x : Result) : State :=
  let s1 := s.setCounting
    { s.counting with speed := if s.ign.counts then x.value else s.counting.speed, notedPulses := none }
  match s.counting.notedPulses with
  | some n => s1.issue (speedRequest n s.cal.divisor)
  | none => s1

/-- The windows stopped, their counts and speed 0 (R18); a noted n waits on for the outstanding request (R5). -/
def Counting.stopWindows (c : Counting) : Counting :=
  { c with openCount := 0, closedCount := 0, hasClosed := false, windowTimer := none, speed := 0 }

/-- The noted n gone with the outstanding SPEED request, abandoned at SLEEP entry (R29). -/
def Counting.forgetNoted (c : Counting) : Counting := { c with notedPulses := none }

/-- The windows at their first closure to come (R18). -/
def Counting.startWindows (c : Counting) : Counting := { c.stopWindows with windowTimer := some 50 }

/-! ### The clock (R9 to R11) -/

/-- The clock a second later, and whether it is a midnight rollover. -/
def Counting.second (c : Counting) : Counting × Bool :=
  if c.seconds < 59 then ({ c with seconds := c.seconds + 1 }, false)
  else if c.minutes < 59 then ({ c with seconds := 0, minutes := c.minutes + 1 }, false)
  else if c.hours < 23 then ({ c with seconds := 0, minutes := 0, hours := c.hours + 1 }, false)
  else ({ c with seconds := 0, minutes := 0, hours := 0, dayCount := satAdd 65535 c.dayCount 1 }, true)

/-- The clock at the 1 s timer, with the "1 day" of a rollover given or held (R9). -/
def State.clockSecond (s : State) : State :=
  let r := s.counting.second
  let s1 := s.setCounting r.1
  if !r.2 then s1
  else if s.ign.awake then s1.countdown false
  else s1.setCounting { s1.counting with heldDays := satAdd 255 s1.counting.heldDays 1 }

/-- The end of clock setting (R11). -/
def Counting.endSetting (c : Counting) : Counting :=
  if c.clockSet = .normal then c else { c with clockSet := .normal, seconds := 0, keyIdle := none }

/-- MODE during clock setting (Table 1-3). -/
def Counting.settingMode (c : Counting) : Counting :=
  match c.clockSet with
  | .normal => c
  | .hourSet => { c with hours := if c.hours < 23 then c.hours + 1 else 0 }
  | .minuteSet => { c with minutes := if c.minutes < 59 then c.minutes + 1 else 0 }

/-- SET during clock setting (Table 1-3). -/
def Counting.settingSet (c : Counting) : Counting :=
  match c.clockSet with
  | .normal => c
  | .hourSet => { c with clockSet := .minuteSet }
  | .minuteSet => c.endSetting

/-- The key-idle timer restarted while the clock is being set: 10 s in base ticks (R11). -/
def Counting.restartIdle (c : Counting) : Counting :=
  if c.clockSet = .normal then c else { c with keyIdle := some 1000 }

/-- Entry to HOUR-SET (R10). -/
def Counting.enterSetting (c : Counting) : Counting := { c with clockSet := .hourSet, keyIdle := some 1000 }

/-! ### Fuel used (R13, R14) -/

/-- The largest plausible delta in ml. -/
def plausibleDelta : Nat := 2000

/-- An arrival at E1 (Table 1-4). -/
def State.fuelArrival (s : State) : State :=
  match s.fuelTotal with
  | none => s.setCounting { s.counting with fuelReference := none }
  | some r =>
    let v := r.value.toNat
    match s.counting.fuelReference with
    | none => s.setCounting { s.counting with fuelReference := some v }
    | some ref =>
      let delta := (v + 65536 - ref) % 65536
      if plausibleDelta < delta then
        s.setCounting
          { s.counting with fuelReference := some v, implausible := satAdd 255 s.counting.implausible 1 }
      else
        (s.onTrips fun s r => s.addFuel r delta).setCounting
          { s.counting with fuelReference := some v, windowFuel := satAdd 65535 s.counting.windowFuel delta }

/-! ### Fuel remaining (R15 to R17) -/

/-- The return mark of an outstanding FUEL request cleared: a pending return begins after its issue. -/
def Arith.clearReturn (a : Arith) : Arith :=
  let f (r : Request) : Request := if r.target = .fuel then { r with afterReturn := false } else r
  { a with list := a.list.map f, inFlight := a.inFlight.map f }

/-- A pending return begins: F is ABSENT (R17). -/
def State.beginReturn (s : State) : State :=
  (s.setCounting { s.counting with returnPending := true, fuel := none, latestRaw := none }).setArith s.arith.clearReturn

/-- F_raw takes a value; where it may end the pending return, F takes it too (R17). -/
def Counting.takeRaw (c : Counting) (y : Nat) (ends : Bool) : Counting :=
  if ends && c.returnPending then { c with rawFuel := some y, fuel := some y, returnPending := false }
  else { c with rawFuel := some y }

/-- The tank curve applied to a raw value: an output taken at once, or a FUEL request unless `busy` (R15). -/
def State.evaluateTank (s : State) (raw : Nat) (busy : Bool) : State :=
  match s.cal.tank.evaluate raw with
  | .direct y => s.setCounting (s.counting.takeRaw y true)
  | .request n k c base =>
    if busy then s
    else
      (s.setCounting { s.counting with requestRaw := some raw }).issue
        { target := .fuel, n := n, k := k, c := c, base := base, generation := 0,
          afterReturn := s.counting.returnPending }

/-- The FUEL client at an arrival at E2 (R15, R17). -/
def State.tankArrival (s : State) : State :=
  match s.tankSender with
  | none => s.beginReturn
  | some r =>
    let v := r.value.toNat
    let asks := s.counting.keptRaw != some v || s.counting.returnPending
    let s1 := s.setCounting { s.counting with keptRaw := some v, latestRaw := some v }
    if asks then s1.evaluateTank v (s.arith.outstanding .fuel) else s1

/-- A FUEL completion giving `y` (R15, R17). -/
def State.takeFuel (s : State) (y : Nat) (afterReturn : Bool) : State :=
  let s1 := s.setCounting (s.counting.takeRaw y afterReturn)
  match s.counting.latestRaw with
  | some v => if s.counting.requestRaw = some v then s1 else s1.evaluateTank v false
  | none => s1

/-- E2 becomes LOST or EMPTY at the FUEL client (R15, R17). -/
def State.tankLost (s : State) : State :=
  let s' := s.beginReturn
  s'.setCounting { s'.counting with rawFuel := none }

/-- F moved toward F_raw (R16). -/
def filterStep (f raw : Nat) : Nat :=
  if f < raw then f + max 1 ((raw - f) / 16) else if raw < f then f - max 1 ((f - raw) / 16) else f

/-- The filter at an expiry of the 1 s timer (R16). -/
def State.filterFuel (s : State) : State :=
  let c := s.counting
  match s.ign.awake && (s.entry 2).state == .fresh, c.fuel, c.rawFuel with
  | true, some f, some raw =>
    if f + s.cal.refuel ≤ raw && s.stopped then
      if 10 ≤ c.refuelTimer + 1 then s.setCounting { c with fuel := some raw, refuelTimer := 0 }
      else s.setCounting { c with fuel := some (filterStep f raw), refuelTimer := c.refuelTimer + 1 }
    else s.setCounting { c with fuel := some (filterStep f raw), refuelTimer := 0 }
  | _, _, _ => s.setCounting { c with refuelTimer := 0 }

/-! ### The turn-signal distance count (R4) -/

/-- An arrival at E2 at the turn-signal distance count. -/
def State.turnArrival (s : State) : State :=
  if s.turnLeft || s.turnRight then s.setCounting { s.counting with turnActive := true, turnTicks := 0 } else s

/-- The count returns to 0 and becomes inactive. -/
def Counting.endTurn (c : Counting) : Counting := { c with turnDistance := 0, turnActive := false, turnTicks := 0 }

/-- An expiry of the freshness tick at the count: the tenth without an arrival ends it. -/
def Counting.turnFreshness (c : Counting) : Counting :=
  if !c.turnActive then c else if 10 ≤ c.turnTicks + 1 then c.endTurn else { c with turnTicks := c.turnTicks + 1 }

/-! ### Occasions (R18, R19) -/

/-- Wake (Table 1-8); the held days are delivered apart. -/
def State.countingWake (s : State) : State :=
  let c := s.counting.stopWindows.forgetNoted.endTurn
  s.setCounting
    { c with windowSteps := 0, windowFuel := 0, clockSet := .normal, keyIdle := none, fuelReference := none,
             rawFuel := none, fuel := none, returnPending := true, keptRaw := none, latestRaw := none,
             requestRaw := none, refuelTimer := 0 }

end Sys2Proof.Machine
end

