-- ==== Sys2Proof/Machine/Trip.lean ====
section
/-! DEFINITION. The trip computer's pass and the delivery of its results (R27, R28, R34 to R38), topic 42h (R46), and
JOURNEY at wake (R31). -/

namespace Sys2Proof.Machine

/-- A target of the pass: left alone while outstanding, else requested or set NONE (R35 to R38). -/
def State.passTarget (s : State) (t : Target) (request : Option Request) (clear : State → State) : State :=
  if s.arith.outstanding t then s
  else
    match request with
    | some r => s.issue r
    | none => clear s

/-- A SCALE-DIVIDE request of the pass. -/
def tripRequest (t : Target) (n k c generation : Nat) : Request :=
  { target := t, n := n, k := k, c := c, base := 0, generation := generation, afterReturn := false }

/-- The ECON request of a record's snapshot, if its distance reaches 0.5 km (Table 2-9). -/
def economyRequest (r : TripRecord) (v : TripView) : Option Request :=
  if 50 ≤ v.distance then some (tripRequest (.economy r) v.fuel 100 v.distance v.generation) else none

/-- The SPEED request of a record's snapshot, if its time reaches 60 s (Table 2-9). -/
def averageRequest (r : TripRecord) (v : TripView) : Option Request :=
  if 60 ≤ v.time then some (tripRequest (.average r) v.distance 360 v.time v.generation) else none

/-- A record's two results at the pass; a result already NONE is not written again (R35). -/
def State.passRecord (snapshot s : State) (r : TripRecord) : State :=
  let v := snapshot.tripView r
  let s1 := s.passTarget (.economy r) (economyRequest r v) fun s =>
    if v.economy = .none then s else s.setEconomy r .none
  s1.passTarget (.average r) (averageRequest r v) fun s => if v.average = .none then s else s.setAverage r .none

/-- The economy that the range uses (R37). -/
def State.rangeEconomy (s : State) : Nat :=
  match s.trip.economy with
  | .valid e => if 500 ≤ s.trip.distance then e else s.cal.economy
  | .saturated _ | .none => s.cal.economy

/-- The INST request of the window (R36). -/
def State.instRequest (s : State) : Option Request :=
  if 3 ≤ s.counting.windowSteps then some (tripRequest .inst s.counting.windowFuel 100 s.counting.windowSteps 0) else none

/-- The RANGE request (R37). -/
def State.rangeRequest (s : State) : Option Request :=
  s.counting.fuel.map fun f => tripRequest .range f 100 s.rangeEconomy 0

/-- The trip pass (R34): every operand from the snapshot, the window returned to 0. -/
def State.tripPass (s : State) : State :=
  let s1 := s.setCounting { s.counting with windowSteps := 0, windowFuel := 0 }
  let s2 := s1.onTrips s.passRecord
  let s3 := s2.passTarget .inst s.instRequest fun s => s.setTrip { s.trip with inst := .none }
  s3.passTarget .range s.rangeRequest fun s => s.setTrip { s.trip with range := .none }

/-- A result for a record is written, or discarded and counted where the generations differ (R28). -/
def State.takeRecord (s : State) (r : TripRecord) (generation : Nat) (write : State → State) : State :=
  if generation = (s.tripView r).generation then write s
  else s.setArith { s.arith with discarded := satAdd 255 s.arith.discarded 1 }

/-- JOURNEY, INST and RANGE at wake (R31). -/
def Trip.wake (t : Trip) : Trip :=
  { t with distance := 0, fuel := 0, time := 0, generation := (t.generation + 1) % 256, economy := .none,
           average := .none, inst := .none, range := .none }

/-! ### Topic 42h (R46) -/

/-- A result as 42h codes it. -/
def Result.topicCode : Result → Nat
  | .valid v => v
  | .saturated _ => 0xFFFE
  | .none => 0xFFFF

/-- A result is SATURATED. -/
def Result.isSaturated : Result → Bool
  | .saturated _ => true
  | .valid _ | .none => false

/-- The outside temperature as 42h codes it. -/
def State.outsideCode (s : State) : Byte :=
  match s.outside with
  | some r => byteOf (wrapSigned 8 r.value)
  | none => 0x80

/-- The eight data bytes of 42h (Table 12-3). -/
def State.rearPage (s : State) : List Byte :=
  [byteOf s.counting.hours, byteOf s.counting.minutes] ++ bytes2 s.trip.average.topicCode ++
    bytes2 s.trip.range.topicCode ++
    [s.outsideCode, byteOf (packCodes 1 [flagNat s.trip.average.isSaturated, flagNat s.trip.range.isSaturated])]

/-- 42h at an expiry of the 1 s timer: queued while E3 has data and its TRIP PAGE bit is set. -/
def State.rearPageDue (s : State) : State :=
  if s.ign.awake && s.tripPageFlag then s.publish 0x42 3 s.rearPage else s

end Sys2Proof.Machine
end

