-- ==== Sys2Proof/Machine/Display.lean ====
section
/-! DEFINITION. The display record (R43, R44, R134, R161, R193) and the display port (R45). -/

namespace Sys2Proof.Machine

/-- A quantity of the record: code, flag (0 VALID, 1 SATURATED, 2 NONE) and its 24-bit value. -/
structure Shown where
  code : Nat
  flag : Nat
  value : Nat
deriving DecidableEq, Repr

/-- A VALID quantity. -/
def Shown.valid (code value : Nat) : Shown := ⟨code, 0, value⟩

/-- A quantity whose flag is NONE carries the value 0 (R193). -/
def Shown.none (code : Nat) : Shown := ⟨code, 2, 0⟩

/-- BLANK (Table 2-14). -/
def Shown.blank : Shown := .none 0

/-- A result. -/
def Shown.ofResult (code : Nat) : Result → Shown
  | .valid v => ⟨code, 0, v⟩
  | .saturated v => ⟨code, 1, v⟩
  | .none => .none code

/-- A record total divided, with its mark when held at maximum (Table 2-14). -/
def Shown.ofTotal (code total divisor : Nat) : Shown := ⟨code, if total = tripTop then 1 else 0, total / divisor⟩

/-- A signed value, as 24 bits. -/
def Shown.signed (code : Nat) (v : Int) : Shown := ⟨code, 0, wrapSigned 24 v⟩

/-! ### The pages (Table 2-13) -/

/-- A trip page's two quantities. -/
def tripQuantities (v : TripView) (view : View) : Shown × Shown :=
  match view with
  | .rates => (.ofResult 4 v.economy, .ofResult 5 v.average)
  | .totals => (.ofTotal 1 v.distance 10, .ofTotal 3 v.time 60)
  | .fuel => (.ofTotal 2 v.fuel 100, .blank)

/-- The outside temperature. -/
def State.outsideShown (s : State) : Shown :=
  match s.outside with
  | some r => .signed 8 r.value
  | none => .none 8

/-- A dimension of the selected item (Table 9-6). DESIGN CHOICE (log entry 48): while the item's block is absent it is NONE,
also where R159 says that the page shows the old figures, a taken reset waiting for its block. -/
def State.serviceShown (s : State) (km : Bool) : Shown :=
  let code := if km then 9 else 10
  match s.service.selected with
  | some i =>
    if (s.itemFigures i).inUse km && s.store.present (itemBlock i) then
      .signed code (if km then s.store.remainingKm i else s.store.remainingDays i)
    else .none code
  | none => .none code

/-- The two quantities of the selected page. -/
def State.pageQuantities (s : State) : Shown × Shown :=
  match s.trip.page with
  | .tripA => tripQuantities (s.tripView .a) s.trip.view
  | .tripB => tripQuantities (s.tripView .b) s.trip.view
  | .journey => tripQuantities (s.tripView .journey) s.trip.view
  | .range => (.ofResult 7 s.trip.range, .ofResult 6 s.trip.inst)
  | .clock => (s.outsideShown, .blank)
  | .service => (s.serviceShown true, s.serviceShown false)

/-- The second quantity of the WARNING page for SHOWN warning `w` (Table 7-6). -/
def State.warningSecond (s : State) (w : Nat) : Shown :=
  if w = 30 then
    match s.arbiter.presented with
    | some p => .valid 15 p
    | none => .none 15
  else if 27 ≤ w ∧ w ≤ 29 then
    match s.serviceName w with
    | some i => .valid 16 i
    | none => .none 16
  else .blank

/-- How many warnings are SILENCED. -/
def State.silencedCount (s : State) : Nat := (s.arbiter.warnings.filter fun w => w.state == .silenced).length

/-- The two quantities of the record. -/
def State.quantities (s : State) : Shown × Shown :=
  match s.shown, s.arbiter.review with
  | some w, _ => (.valid (11 + (s.warningClass w).rank) w, s.warningSecond w)
  | none, some r => (.valid (11 + (s.warningClass r.warning).rank) r.warning, .valid 17 s.silencedCount)
  | none, none => s.pageQuantities

/-! ### The record (Table 12-9) -/

/-- The code of a page. -/
def Page.code : Page → Nat
  | .tripA => 0
  | .tripB => 1
  | .journey => 2
  | .range => 3
  | .clock => 4
  | .service => 5

/-- The page kind: WARNING, or the selected page. -/
def State.pageKind (s : State) : Nat := if s.warningPage then 6 else s.trip.page.code

/-- The code of a view. -/
def View.code : View → Nat
  | .rates => 0
  | .totals => 1
  | .fuel => 2

/-- The code of a clock setting state. -/
def ClockSet.code : ClockSet → Nat
  | .normal => 0
  | .hourSet => 1
  | .minuteSet => 2

/-- The odometer's state code. -/
def Store.odometerCode (st : Store) : Nat :=
  match st.odometer with
  | some (_, true) => 0
  | some (_, false) => 1
  | none => 2

/-- The odometer's value as it is sent: FFFFFFh while NO VALUE. -/
def Store.odometerSent (st : Store) : Nat :=
  match st.odometer with
  | some (v, _) => v
  | none => 0xFFFFFF

/-- An optional number as one byte: FFh for none. -/
def optByte : Option Nat → Byte
  | some n => byteOf n
  | none => 0xFF

/-- A quantity's five bytes. -/
def Shown.bytes (q : Shown) : List Byte := [byteOf q.code, byteOf q.flag] ++ bytes3 q.value

/-- Bytes 0 to 17 of the record: every item of Table 2-12. -/
def State.recordItems (s : State) : List Byte :=
  let q := s.quantities
  [byteOf s.pageKind, byteOf (packCodes 2 [s.trip.view.code, s.counting.clockSet.code, s.store.odometerCode]),
    if s.pageKind = 5 then optByte s.service.selected else 0xFF] ++ q.1.bytes ++ q.2.bytes ++
    bytes3 s.store.odometerSent ++ [byteOf s.counting.hours, byteOf s.counting.minutes]

/-- The 19 bytes of the record (R193). -/
def State.displayRecord (s : State) : List Byte := s.recordItems ++ [checkByteOf s.recordItems]

/-- The bits of bytes as DSP-DAT carries them: each byte's most significant bit first (R193). -/
def serialBits (bs : List Byte) : List Bool := bs.flatMap fun b => (List.range 8).map fun k => b.toNat.testBit (7 - k)

/-- What DSP-DAT is clocking out, bit by bit, if a transfer is in progress (R193). -/
def Display.dat (d : Display) : Option (List Bool) := d.transfer.map serialBits

/-! ### The port (R45) -/

/-- A send is requested: a transfer of the content at this moment, or the send-pending flag. -/
def State.requestSend (s : State) : State :=
  match s.display.transfer with
  | none => s.setDisplay { s.display with transfer := some s.displayRecord }
  | some _ => s.setDisplay { s.display with sendPending := true }

/-- The end of a transfer: DSP-STB pulses, and the driver has received the record whole (R193). -/
def State.endTransfer (s : State) : State :=
  match s.display.transfer with
  | none => s
  | some record =>
    let s' := s.setDisplay { s.display with transfer := none, strobed := some record, sendPending := false }
    if s.display.sendPending then s'.requestSend else s'

/-- SLEEP entry at the port: a record abandoned ends without the strobe, and the driver keeps its last one (R193). -/
def Display.sleep (d : Display) : Display := { d with transfer := none, sendPending := false, timer := none }

/-- What follows at the port from a command that took the part from `s0` to `s`: at an entry from SLEEP or LOAD the timer
starts and a send is requested, and a change of an item requests a send. DESIGN CHOICE (log entry 50): the items are those
of Table 2-12 (R45, R134), so a change of a warning's state that leaves them as they are requests none, though R123 calls
each such change a change of the record's items. -/
def State.refreshDisplay (s0 s : State) : State :=
  if !s.ign.awake then s
  else if s.display.timer.isNone then (s.setDisplay { s.display with timer := some 10 }).requestSend
  else if s0.recordItems = s.recordItems then s
  else s.requestSend

end Sys2Proof.Machine
end

