-- ==== Sys2Proof/Machine/Gauges.lean ====
section
/-! DEFINITION. The gauge unit (Chapter 5): inputs, the 20 ms update, damping and slew, coil drive, the sweep, the gauge
test and the park. -/

namespace Sys2Proof.Machine

/-! ### Coil drive (R96) -/

/-- Tab: entry i is 255 × sin(i × 90° ÷ 256), rounded to the nearest integer. -/
def coilTable : List Nat :=
  [0, 2, 3, 5, 6, 8, 9, 11, 13, 14, 16, 17, 19, 20, 22, 23, 25, 27, 28, 30, 31, 33, 34, 36, 37, 39, 41, 42, 44,
   45, 47, 48] ++
  [50, 51, 53, 54, 56, 57, 59, 60, 62, 63, 65, 67, 68, 70, 71, 73, 74, 76, 77, 79, 80, 81, 83, 84, 86, 87, 89,
   90, 92, 93, 95, 96] ++
  [98, 99, 100, 102, 103, 105, 106, 108, 109, 110, 112, 113, 115, 116, 117, 119, 120, 122, 123, 124, 126, 127,
   128, 130, 131, 132, 134, 135, 136, 138, 139, 140] ++
  [142, 143, 144, 146, 147, 148, 149, 151, 152, 153, 154, 156, 157, 158, 159, 161, 162, 163, 164, 165, 167,
   168, 169, 170, 171, 172, 174, 175, 176, 177, 178, 179] ++
  [180, 181, 183, 184, 185, 186, 187, 188, 189, 190, 191, 192, 193, 194, 195, 196, 197, 198, 199, 200, 201,
   202, 203, 204, 205, 206, 207, 208, 208, 209, 210, 211] ++
  [212, 213, 214, 215, 215, 216, 217, 218, 219, 220, 220, 221, 222, 223, 223, 224, 225, 226, 226, 227, 228,
   228, 229, 230, 231, 231, 232, 232, 233, 234, 234, 235] ++
  [236, 236, 237, 237, 238, 238, 239, 240, 240, 241, 241, 242, 242, 243, 243, 244, 244, 244, 245, 245, 246,
   246, 247, 247, 247, 248, 248, 248, 249, 249, 249, 250] ++
  [250, 250, 251, 251, 251, 252, 252, 252, 252, 252, 253, 253, 253, 253, 253, 254, 254, 254, 254, 254, 254,
   254, 255, 255, 255, 255, 255, 255, 255, 255, 255, 255] ++
  [255]

/-- An entry of Tab. -/
def tab (i : Nat) : Int := coilTable.getD i 0

/-- The sine and cosine coil levels of a commanded angle (Table 5-6). -/
def coilLevels (a : Nat) : Int × Int :=
  let r := a % 256
  match a / 256 with
  | 0 => (tab r, tab (256 - r))
  | 1 => (tab (256 - r), -tab r)
  | _ => (-tab r, -tab (256 - r))

/-- The coil levels of a gauge: 0 while its coils are off. -/
def Gauge.coils (g : Gauge) : Int × Int := if g.driven then coilLevels g.commanded else (0, 0)

/-! ### Target angle (R89, R91, R93) -/

/-- The largest angle in counts. -/
def angleTop : Nat := 767

/-- T set from a curve output, limited to 767 (R89). -/
def Gauge.setTarget (y : Nat) (g : Gauge) : Gauge := { g with target := min angleTop y }

/-- Entry to REST, unless the gauge is in REST (R91). -/
def Gauge.rest (g : Gauge) : Gauge :=
  if g.state = .rest then g else { g with state := .rest, target := 0, evaluated := none }

/-- A GAUGE completion (R93). -/
def Gauge.deliver (y : Nat) (g : Gauge) : Gauge :=
  match g.state with
  | .track | .hold => g.setTarget y
  | .parked | .sweep | .rest => g

/-- The notice that the gauge's entry has become LOST or EMPTY (R91). -/
def Gauge.notice (g : Gauge) : Gauge :=
  match g.state with
  | .track | .hold => g.rest
  | .parked | .sweep | .rest => g

/-! ### The update (R92, R94, R95, R100) -/

/-- The state that an input gives. -/
def Gauge.follow (r : Option Reading) (g : Gauge) : Gauge :=
  match r with
  | some ⟨_, false⟩ => { g with state := .track }
  | some ⟨_, true⟩ => { g with state := .hold }
  | none => g.rest

/-- The damping step (R94). -/
def dampingStep (shift target filtered : Nat) : Nat :=
  let goal := 16 * target
  if filtered < goal then filtered + max 1 ((goal - filtered) / 2 ^ shift)
  else if goal < filtered then filtered - max 1 ((filtered - goal) / 2 ^ shift)
  else filtered

/-- The damped angle (R95). -/
def dampedAngle (filtered : Nat) : Nat := (filtered + 8) / 16

/-- A move from `a` toward `goal` by at most `limit` (R95, R100). -/
def slewStep (limit goal a : Nat) : Nat :=
  if goal ≤ a + limit ∧ a ≤ goal + limit then goal else if a < goal then a + limit else a - limit

/-- Steps 3 and 4 of the update. -/
def Gauge.approach (f : GaugeFigures) (g : Gauge) : Gauge :=
  let filtered := dampingStep f.shift g.target g.filtered
  { g with filtered := filtered, commanded := slewStep f.slew (dampedAngle filtered) g.commanded }

/-- Step 2 of the update: the curve is evaluated for input value `v` (R92). -/
def State.evaluateGauge (s : State) (i : Nat) (v : Int) : State :=
  match (s.gaugeFigures i).curve.evaluate v with
  | .direct y => s.modifyGauge i fun g => ({ g with evaluated := some v.toNat }).setTarget y
  | .request n k c base =>
    (s.modifyGauge i fun g => { g with evaluated := some v.toNat }).issue
      { target := .gauge i, n := n, k := k, c := c, base := base, generation := 0, afterReturn := false }

/-- The gauge asks for an evaluation of a reading: a changed value in TRACK, or in TRACK or HOLD when there is no
evaluated input, and no request outstanding. -/
def State.gaugeAsks (s : State) (i : Nat) (r : Reading) : Bool :=
  !s.arith.outstanding (.gauge i) &&
    match (s.gauge i).evaluated with
    | none => true
    | some v => !r.held && r.value != v

/-- The update of a gauge in TRACK, HOLD or REST. -/
def State.trackGauge (s : State) (i : Nat) : State :=
  let input := s.gaugeInput i
  let s1 := s.modifyGauge i (Gauge.follow input)
  let s2 :=
    match input with
    | some r => if s1.gaugeAsks i r then s1.evaluateGauge i r.value else s1
    | none => s1
  s2.modifyGauge i (Gauge.approach (s.gaugeFigures i))

/-- The park step (R100). -/
def Gauge.park (f : GaugeFigures) (g : Gauge) : Gauge :=
  if g.parkCount = 0 then g
  else
    let a := slewStep f.slew 0 g.commanded
    { g with commanded := a, filtered := 16 * a, parkCount := g.parkCount - 1, driven := decide (1 < g.parkCount) }

/-- The park count reaches 0: the coils are turned off (R100). -/
def Gauge.endPark (g : Gauge) : Gauge := { g with parkCount := 0, driven := false }

/-- The update of gauge `i` (R92). -/
def State.updateGauge (s : State) (i : Nat) : State :=
  match (s.gauge i).state with
  | .parked => s.modifyGauge i (Gauge.park (s.gaugeFigures i))
  | .sweep => s
  | .track | .hold | .rest => s.trackGauge i

/-- An expiry of the gauge update timer: six gauges in order. -/
def State.updateGauges (s : State) : State := (List.range 6).foldl State.updateGauge s

/-! ### The sweep (R97 to R99) -/

/-- The sweep profile (Table 5-8). -/
def sweepAngle (p : Nat) : Nat := if p ≤ 75 then 767 * p / 75 else 767 * (150 - p) / 75

/-- A gauge at the start of the sweep. -/
def Gauge.startSweep (_ : Gauge) : Gauge :=
  { state := .sweep, evaluated := none, target := 0, filtered := 0, commanded := 0, parkCount := 0, driven := true }

/-- A gauge at a sweep position. -/
def Gauge.sweepTo (p : Nat) (g : Gauge) : Gauge :=
  { g with commanded := sweepAngle p, filtered := 16 * sweepAngle p }

/-- The sweep starts for all six gauges. -/
def Gauges.startSweep (u : Gauges) (test : Bool) : Gauges :=
  { u with gauges := u.gauges.map Gauge.startSweep, sweep := some 0, testMark := test }

/-- A gauge at the end of the sweep: TRACK, HOLD or REST by its input, everything at 0. -/
def Gauge.endSweep (r : Option Reading) (_ : Gauge) : Gauge :=
  ({ state := .track, evaluated := none, target := 0, filtered := 0, commanded := 0, parkCount := 0,
     driven := true } : Gauge).follow r

/-- The workshop handler is told of a marked sweep's end, and the mark is cleared (R98, R99). -/
def State.tellTest (s : State) (x : Status) : State :=
  if s.gauges.testMark then (s.setGauges { s.gauges with testMark := false }).returnStatus x [] else s

/-- The sweep ends at position 150 (R98). -/
def State.endSweep (s : State) : State :=
  (s.setGauges
    { s.gauges with gauges := s.gauges.gauges.mapIdx fun i g => g.endSweep (s.gaugeInput i), sweep := none }).tellTest
    .done

/-- A sweep tick: the position gains 1 (R97). -/
def State.sweepStep (s : State) : State :=
  match s.gauges.sweep with
  | some p =>
    if 150 ≤ p + 1 then s.endSweep
    else
      s.setGauges { s.gauges with gauges := s.gauges.gauges.map (Gauge.sweepTo (p + 1)), sweep := some (p + 1) }
  | none => s

/-- A GAUGE TEST (R99). -/
def Gauges.test (u : Gauges) : Gauges := if u.sweep.isSome then { u with testMark := true } else u.startSweep true

/-! ### Park and occasions (R100 to R102) -/

/-- A gauge as the ignition state leaves RUN. -/
def Gauge.startPark (g : Gauge) : Gauge := { g with state := .parked, target := 0, evaluated := none, parkCount := 100 }

/-- The ignition state leaves RUN (R99, R100). -/
def State.parkGauges (s : State) : State :=
  (s.setGauges { s.gauges with gauges := s.gauges.gauges.map Gauge.startPark, sweep := none }).tellTest .state

/-- SLEEP entry (R101). -/
def Gauges.sleep (u : Gauges) : Gauges :=
  { gauges := u.gauges.map fun g => { g with state := .parked, parkCount := 0, driven := false }, sweep := none,
    testMark := false, timer := none }

/-- Wake, and the end of LOAD unless SLEEP is entered: power-on values, the update timer started (R101, R102). -/
def Gauges.wake (_ : Gauges) : Gauges :=
  { gauges := List.replicate 6 .off, sweep := none, testMark := false, timer := some 2 }

/-- E0 becomes LOST or EMPTY (R91). -/
def State.gaugesLoseEngine (s : State) : State :=
  ((s.modifyGauge 1 Gauge.notice).modifyGauge 3 Gauge.notice).modifyGauge 4 Gauge.notice

/-- E2 becomes LOST or EMPTY (R91). -/
def State.gaugesLoseBody (s : State) : State := s.modifyGauge 5 Gauge.notice

end Sys2Proof.Machine
end

