-- ==== Sys2Proof/Machine/Keys.lean ====
section
/-! DEFINITION. The four cluster keys (R39), what their presses, releases and holds do (R10, R11, R40 to R42, R159, R161),
and the holds that a command ends. -/

namespace Sys2Proof.Machine

/-- A key. -/
def Keys.get (ks : Keys) : Key → KeyInput
  | .mode => ks.mode
  | .reset => ks.reset
  | .set => ks.set
  | .ack => ks.ack

/-- A key replaced. -/
def Keys.put (ks : Keys) (x : KeyInput) : Key → Keys
  | .mode => { ks with mode := x }
  | .reset => { ks with reset := x }
  | .set => { ks with set := x }
  | .ack => { ks with ack := x }

/-- One operation on all four keys. -/
def Keys.map (ks : Keys) (f : KeyInput → KeyInput) : Keys :=
  { mode := f ks.mode, reset := f ks.reset, set := f ks.set, ack := f ks.ack }

/-- A key replaced at the state. -/
def State.putKey (s : State) (k : Key) (x : KeyInput) : State := s.setKeys (s.keys.put x k)

/-- The hold of a key set to a purpose. -/
def State.setHold (s : State) (k : Key) (h : Hold) : State := s.putKey k { s.keys.get k with hold := h }

/-- A key's hold abandoned or used up. -/
def KeyInput.endHold (x : KeyInput) : KeyInput := { x with hold := .idle }

/-- A change of ignition state: the key counts as released, and one found low at its pin must first be sampled high
(R39). -/
def KeyInput.forget (x : KeyInput) : KeyInput :=
  { x with pressed := false, blocked := x.pinLow, samples := 0, hold := .idle, holdTicks := 0 }

/-- The key is taken for low: pressed, or blocked until it is sampled high (R39). -/
def KeyInput.takenLow (x : KeyInput) : Bool := x.pressed || x.blocked

/-- The third consecutive low sample: the key's pin is low, and no sample differs from what it is taken for (R39). -/
def KeyInput.goLow (x : KeyInput) : KeyInput := { x with pinLow := true, samples := 0 }

/-- The display record carries page `p`. -/
def State.carries (s : State) (p : Page) : Bool := !s.warningPage && s.trip.page == p

/-! ### Pages and views (R40, R42) -/

/-- The page after a page. -/
def Page.next : Page → Page
  | .tripA => .tripB
  | .tripB => .journey
  | .journey => .range
  | .range => .clock
  | .clock => .service
  | .service => .tripA

/-- The view after a view. -/
def View.next : View → View
  | .rates => .totals
  | .totals => .fuel
  | .fuel => .rates

/-- A page is selected; SERVICE fetches the selected item's block (R161). -/
def State.selectPage (s : State) (p : Page) : State :=
  let s' := s.setTrip { s.trip with page := p }
  if p = .service then s'.fetchSelected else s'

/-- A trip page. -/
def Page.isTrip : Page → Bool
  | .tripA | .tripB | .journey => true
  | .range | .clock | .service => false

/-! ### Presses -/

/-- MODE on the pages (R40, R161). -/
def State.pageMode (s : State) : State :=
  if s.warningPage then s
  else if s.trip.page = .service then s.setHold .mode (.serviceStep false)
  else s.selectPage s.trip.page.next

/-- What RESET would do at its mark, by the page (R41, R159). -/
def Page.resetHold : Page → Hold
  | .tripA => .tripReset .a
  | .tripB => .tripReset .b
  | .service => .serviceReset
  | .journey | .range | .clock => .idle

/-- RESET on the pages. -/
def State.pageReset (s : State) : State := if s.warningPage then s else s.setHold .reset s.trip.page.resetHold

/-- SET on the pages (R10, R42). -/
def State.pageSet (s : State) : State :=
  if s.warningPage then s
  else if s.trip.page.isTrip then s.setTrip { s.trip with view := s.trip.view.next }
  else if s.trip.page = .clock then s.setHold .set .clockSet
  else s

/-- An accepted press, after its click: during clock setting MODE and SET belong to the clock and RESET is ignored
(R11, R39). DESIGN CHOICE (log entry 44): the SET press that ends MINUTE-SET starts no hold, so holding it on does not
count the 2 s of R10. -/
def State.takePress (s : State) (k : Key) : State :=
  let setting := s.counting.clockSet != .normal
  let s1 := s.setCounting s.counting.restartIdle
  match k with
  | .ack => s1.ackPress
  | .mode => if setting then s1.setCounting s1.counting.settingMode else s1.pageMode
  | .set => if setting then s1.setCounting s1.counting.settingSet else s1.pageSet
  | .reset => if setting then s1 else s1.pageReset

/-- A press at a key: accepted in ACCESSORY and RUN, it clicks and starts the hold (R39, R144). DESIGN CHOICE (log entry 16):
of the two orders that R144 allows at an ACK press, the click is taken before the arbiter's event. -/
def State.pressKey (s : State) (k : Key) : State :=
  let x := s.keys.get k
  if x.takenLow then s.putKey k x.goLow
  else
    let s1 := s.putKey k { x.goLow with pressed := true, hold := .idle, holdTicks := 0 }
    if s.ign.keysAccepted then s1.click.takePress k else s1

/-- A release at a key: its hold ends, and a MODE press that stepped nothing selects TRIP A (R40). -/
def State.releaseKey (s : State) (k : Key) : State :=
  let x := s.keys.get k
  let s1 := s.putKey k .released
  if x.pressed && x.hold == .serviceStep false then s1.selectPage .tripA else s1

/-! ### Marks of holds -/

/-- The 2 s mark of SET (R10). -/
def State.clockSetMark (s : State) : State :=
  match s.keys.set.hold with
  | .clockSet => (s.setHold .set .idle).setCounting s.counting.enterSetting
  | _ => s

/-- The 2 s mark of RESET on a trip page (R41). -/
def State.tripResetMark (s : State) : State :=
  match s.keys.reset.hold with
  | .tripReset r => (s.setHold .reset .idle).resetTrip r
  | _ => s

/-- A 1 s mark of MODE on the SERVICE page (R161): the time to the next mark starts again. -/
def State.serviceStepMark (s : State) : State :=
  match s.keys.mode.hold with
  | .serviceStep _ => (s.putKey .mode { s.keys.mode with hold := .serviceStep true, holdTicks := 0 }).stepSelection
  | _ => s

/-- The 5 s mark of RESET on the SERVICE page (R159). -/
def State.serviceResetMark (s : State) : State :=
  match s.keys.reset.hold with
  | .serviceReset =>
    let s' := s.setHold .reset .idle
    match s.service.selected with
    | some i => if s.ign == .run && s.stopped && s.carries .service then s'.requestReset i false else s'
    | none => s'
  | _ => s

/-! ### Holds that a command ends -/

/-- A RESET hold for a service reset, ended by a change of the selected item (R159). -/
def KeyInput.endServiceReset (x : KeyInput) : KeyInput := if x.hold = .serviceReset then x.endHold else x

/-- The holds after a command that took the part from `s0` to `s`: all end when the selected page changes or the WARNING
page begins to be carried, a service reset's also when the selected item changes (R10, R41, R159, R161). -/
def State.refreshHolds (s0 s : State) : State :=
  if s0.trip.page != s.trip.page || (!s0.warningPage && s.warningPage) then s.setKeys (s.keys.map KeyInput.endHold)
  else if s0.service.selected != s.service.selected then
    s.setKeys { s.keys with reset := s.keys.reset.endServiceReset }
  else s

/-- What follows every command: the holds it ends and the record it sends. -/
def State.present (s0 s : State) : State := State.refreshDisplay s0 (State.refreshHolds s0 s)

end Sys2Proof.Machine
end

