-- ==== Sys2Proof/Machine/Topics.lean ====
section
/-! DEFINITION. The topic table (Chapter 4): arrivals, freshness, the followers of each entry, and the definitions taken
at the end of LOAD. -/

namespace Sys2Proof.Machine

/-! ### Arrivals (R73 to R75) -/

/-- The missed messages that an arrival shows (Table 4-3). -/
def Entry.missedBy (e : Entry) (source seq : Nat) : Nat :=
  match e.lastSeq, e.lastSource with
  | some last, some from' => if from' = source then (seq + 16 - last) % 16 - 1 else 0
  | _, _ => 0

/-- A message of the right length is taken whole (R74, R75). -/
def Entry.arrive (source seq : Nat) (data : List Byte) (e : Entry) : Entry :=
  { e with
    state := .fresh, age := e.limit, data := data, lastSource := some source, lastSeq := some seq
    arrivals := satAdd 65535 e.arrivals 1, missed := satAdd 255 e.missed (e.missedBy source seq) }

/-- A message of another length is rejected (R73). -/
def Entry.reject (e : Entry) : Entry := { e with formatErrors := satAdd 255 e.formatErrors 1 }

/-- The followers of an entry told of an arrival (Table 4-7). DESIGN CHOICE (log entry 42): R78 gives the followers of one
entry no order; E2 is told to the FUEL client, the turn-signal distance count and the turn ticks in turn, E3 to the rear
cascade and then to quiet cabin. -/
def State.tellArrival (s : State) (e : Nat) : State :=
  match e with
  | 1 => s.fuelArrival
  | 2 => s.tankArrival.turnArrival.turnTick
  | 3 => s.cascadeArrival.followQuietCabin
  | _ => s

/-- The followers of an entry told that it has become LOST or EMPTY (Table 4-7, R4, R14, R17, R91, R133, R142, R145). -/
def State.tellLost (s : State) (e : Nat) : State :=
  match e with
  | 0 => s.gaugesLoseEngine
  | 1 => s.setCounting { s.counting with fuelReference := none }
  | 2 =>
    let s' := (s.tankLost).gaugesLoseBody
    (s'.setCounting s'.counting.endTurn).setSound s'.sound.forgetFlashers
  | 3 => s.cascadeLost.followQuietCabin
  | _ => s

/-- A publication handed on to an entry. -/
def State.toEntry (s : State) (e source seq : Nat) (data : List Byte) : State :=
  if data.length = (s.entry e).length then (s.modifyEntry e (Entry.arrive source seq data)).tellArrival e
  else s.modifyEntry e Entry.reject

/-- The used entry that follows a topic. -/
def State.entryOf (s : State) (topic : Nat) : Option Nat :=
  s.topics.entries.findIdx? fun e => e.used && e.topic == topic

/-! ### Freshness (R76) -/

/-- An entry at a freshness tick (Table 4-5). -/
def Entry.ageTick (e : Entry) : Entry :=
  if !e.used || e.age = 0 then e
  else if 1 < e.age then { e with age := e.age - 1 }
  else
    match e.state with
    | .fresh => { e with state := .stale, age := e.limit }
    | .stale => { e with state := .lost, age := 0, data := [], lastSeq := none }
    | .empty | .lost => { e with age := 0 }

/-- The entries that a freshness tick makes LOST. -/
def State.newlyLost (s : State) : List Nat :=
  (List.range 16).filter fun e => (s.entry e).state == .stale && (s.entry e).ageTick.state == .lost

/-- A freshness tick: every entry ages, the followers are told, and the turn-signal distance count counts it (R4). DESIGN
CHOICE (log entry 42): all entries age before any follower is told, and the followers are told in entry order. -/
def State.freshness (s : State) : State :=
  let s1 := s.setTopics { entries := s.topics.entries.map Entry.ageTick, tick := some 10 }
  let s2 := s.newlyLost.foldl State.tellLost s1
  s2.setCounting s2.counting.turnFreshness

/-! ### Occasions (R71, R72, R85) -/

/-- An entry as wake makes it: EMPTY, its definition and counts kept. -/
def Entry.wake (e : Entry) : Entry :=
  { e with state := .empty, age := 0, data := [], lastSource := none, lastSeq := none }

/-- Wake at the topic table; the followers take their own wake values. -/
def Topics.wake (t : Topics) : Topics := { entries := t.entries.map Entry.wake, tick := some 10 }

/-- The entries' definitions with one general definition taken after those before it (R72). DESIGN CHOICE (log entry 40): an
entry left unused keeps the topic and length of its definition, as READ STATUS shows them. -/
def takeDefinition (es : List Entry) (d : EntryDefinition) : List Entry :=
  let used := d.defined && decide (1 ≤ d.length) && decide (d.length ≤ 8) &&
    !es.any fun e => e.used && e.topic == d.topic
  es ++ [{ Entry.blank with topic := d.topic, length := d.length, limit := max 1 d.limit, used := used }]

/-- The definitions taken at the end of LOAD: the fixed entries' limits, then E4 to E15 in order. -/
def State.takeDefinitions (s : State) : State :=
  let fixed := (s.topics.entries.take 4).mapIdx fun i e => { e with limit := s.cal.fixedLimits.getD i e.limit }
  s.setTopics { s.topics with entries := s.cal.entries.foldl takeDefinition fixed }

end Sys2Proof.Machine
end

