-- ==== Sys2Proof/Machine/Workshop.lean ====
section
/-! DEFINITION. The workshop handler (R188 to R191): the request checks, what each request does, and READ STATUS. -/

namespace Sys2Proof.Machine

/-- A request that fails a check. -/
def State.badRequest (s : State) : State := s.returnStatus .badRequest []

/-! ### READ BYTES and WRITE BYTES -/

/-- The four bytes that READ BYTES returns, with their source: 0 CACHED, 1 READ GOOD, 2 READ BAD. -/
def readResult (data : List Byte) (offset source : Nat) : List Byte :=
  (List.range 4).map (fun i => data.getD (offset + i) 0) ++ [byteOf source]

/-- READ BYTES (R189): a FETCH, and the bytes of the line at the hit or at the fill completion. -/
def State.requestRead (s : State) (b offset : Nat) : State :=
  if s.store.present b then
    ((s.setStore (s.store.fetch b)).returnStatus .done (readResult (s.store.dataOf b) offset 0)).settleStore
  else (s.setStore { s.store.fetch b with task := .read b offset }).settleStore

/-- A WRITE BYTES applied to a present block, and the service unit told (R168, R157), unless the latch refuses it by
then (R177). DESIGN CHOICE (log entry 43): a 43h that the service unit's request brings is queued before the 70h reply. -/
def State.applyWrite (s : State) (b offset : Nat) (data : List Byte) : State :=
  let s0 := s.setStore { s.store with task := .none }
  if s.store.writeRefused b then s0.returnStatus .isProtected []
  else
    let s1 := s0.update b fun bs => splice bs offset data
    let s2 := if serviceBlock b then s1.serviceWritten b else s1
    s2.returnStatus .done []

/-- WRITE BYTES (R168, R177). -/
def State.requestWrite (s : State) (b offset : Nat) (data : List Byte) : State :=
  if s.store.writeRefused b then s.returnStatus .isProtected []
  else if s.store.present b then (s.applyWrite b offset data).settleStore
  else (s.setStore { s.store.fetch b with task := .write b offset data }).settleStore

/-! ### The record operations -/

/-- A record operation 0 to 6 on a block (Chapter 12). -/
def State.recordOperation (s : State) (op b : Nat) : State :=
  match op with
  | 0 => s.takeTask (s.store.taskFetch b)
  | 1 => s.takeTask (s.store.taskFetchPin b)
  | 2 => s.takeTask (s.store.taskUnpin b)
  | 3 => s.takeTask (s.store.taskWriteback b)
  | 4 => s.takeTask (s.store.taskWritebackInvalidate b)
  | 5 => s.takeTask (s.store.taskInvalidate b)
  | _ => s.takeTask (s.store.taskVerify b)

/-- CLOSE (R177). -/
def State.requestClose (s : State) : State := (s.setStore { s.store with latch := true }).returnStatus .done []

/-- SERVICE RESET (R160): the status comes when the write-back order is placed. -/
def State.requestServiceReset (s : State) (i : Nat) : State :=
  if s.itemActive i then (s.requestReset i true).settleStore else s.returnStatus .notActive []

/-- ACKNOWLEDGE WARNING (R126). DESIGN CHOICE (log entry 43): the 44h and 43h that the acknowledgement queues come first,
and the 70h reply after them; the rule gives them no order, and a nearly full queue (R58) shows it. -/
def State.requestAck (s : State) (w : Nat) : State :=
  let r := s.specificAck w
  r.1.returnStatus r.2 []

/-- GAUGE TEST (R99, R189): its status comes when the gauge unit reports the test's end. -/
def State.requestGaugeTest (s : State) : State :=
  if s.ign = .run && s.stopped then s.setGauges s.gauges.test else s.returnStatus .state []

/-! ### READ STATUS (R191, Table 12-5) -/

/-- The codes of the station states. -/
def StationState.code : StationState → Nat
  | .off => 0
  | .init => 1
  | .quiet => 2
  | .receiving => 3
  | .sending => 4
  | .breaking => 5
  | .stuck => 6

/-- The codes of the freshness states. -/
def Freshness.code : Freshness → Nat
  | .empty => 0
  | .fresh => 1
  | .stale => 2
  | .lost => 3

/-- The codes of the warning states. -/
def WarningState.code : WarningState → Nat
  | .off => 0
  | .pending => 1
  | .shown => 2
  | .held => 3
  | .silenced => 4

/-- The codes of the sub-warning states. -/
def SubState.code : SubState → Nat
  | .none => 0
  | .opened => 1
  | .ackedLocal => 2

/-- The codes of the cache line states. -/
def LineState.code : LineState → Nat
  | .invalid => 0
  | .clean => 1
  | .dirty => 2
  | .filling => 3
  | .writing => 4

/-- A number as six bytes. -/
def bytes6 (n : Nat) : List Byte := bytes3 (n / 16777216) ++ bytes3 n

/-- An entry's items: topic, used flag and state, age, last source, last sequence. -/
def Entry.statusBytes (e : Entry) : List Byte :=
  [byteOf e.topic, byteOf (flagNat e.used + 2 * e.state.code), byteOf e.age, byteOf (e.lastSource.getD 0),
    optByte e.lastSeq]

/-- A cache line's two bytes. -/
def CacheLine.statusBytes (l : CacheLine) : List Byte :=
  [optByte l.tag,
    byteOf (l.state.code + 8 * flagNat l.pinned + 16 * flagNat l.redirty + 32 * flagNat l.recent)]

/-- The states of sixteen warnings from `w` on. -/
def State.warningStates (s : State) (w : Nat) : List Byte :=
  bytes6 (packCodes 3 ((List.range 16).map fun i => (s.warning (w + i)).state.code))

/-- The result of READ STATUS for a selector and index; none is out of range. -/
def State.statusResult (s : State) (selector index : Nat) : Option (List Byte) :=
  let l := s.line
  match selector with
  | 0 =>
    some ([byteOf l.receptionErrors] ++ bytes2 l.clashes ++ [byteOf l.dropped, byteOf l.conflicts, byteOf l.unclaimed])
  | 1 =>
    some [byteOf l.state.code, byteOf s.cal.station, byteOf l.fault, byteOf l.queue.length, byteOf s.handler.unanswered]
  | 2 => if index < 16 then some (s.entry index).statusBytes else none
  | 3 =>
    if index < 16 then
      let e := s.entry index
      some (bytes2 e.arrivals ++ [byteOf e.missed, byteOf e.formatErrors])
    else none
  | 4 => some (s.warningStates 0)
  | 5 => some (s.warningStates 16)
  | 6 =>
    some (bytes2 (packCodes 2 (s.arbiter.subs.map SubState.code)) ++ [optByte s.arbiter.presented, optByte s.shown])
  | 7 =>
    some (bytes2 (packCodes 2 (s.service.items.map fun x => x.state.rank)) ++
      [byteOf (packCodes 1 (s.service.items.map fun x => flagNat (x.waitsChauffeur || x.waitsWorkshop))),
        optByte s.service.selected])
  | 8 =>
    if index < 8 then
      let x := s.item index
      some [byteOf x.pendingKm, byteOf x.pendingDays, byteOf x.state.rank]
    else none
  | 9 =>
    some (bytes3 s.store.odometerSent ++
      [byteOf (s.store.odometerCode + 4 * flagNat s.store.latch + 8 * flagNat s.ignition.calDefault +
        16 * flagNat s.store.nvFault), byteOf s.counting.implausible, byteOf s.ignition.clampCount])
  | 10 =>
    some [byteOf s.store.nvFailures, byteOf s.store.consecutiveFailures, byteOf s.store.orders.length,
      byteOf s.arith.discarded, byteOf (flagNat s.arith.inFlight.isSome)]
  | 11 =>
    if index < 4 then
      some ((s.store.line (2 * index)).statusBytes ++ (s.store.line (2 * index + 1)).statusBytes)
    else none
  | _ => none

/-- READ STATUS. -/
def State.requestStatus (s : State) (selector index : Nat) : State :=
  match s.statusResult selector index with
  | some r => s.returnStatus .done r
  | none => s.badRequest

/-! ### The checks (R189) -/

/-- A READ BYTES request. -/
def State.takeRead (s : State) : List Byte → State
  | [b, o] => if b.toNat < 64 ∧ o.toNat ≤ 11 then s.requestRead b.toNat o.toNat else s.badRequest
  | _ => s.badRequest

/-- A WRITE BYTES request. -/
def State.takeWrite (s : State) : List Byte → State
  | b :: o :: d :: ds =>
    if ds.length ≤ 3 ∧ b.toNat < 64 ∧ o.toNat + (ds.length + 1) ≤ 15 then s.requestWrite b.toNat o.toNat (d :: ds)
    else s.badRequest
  | _ => s.badRequest

/-- A RECORD OPERATION request: an operation on a block, or INDEX OPERATION on a set and way. -/
def State.takeRecordOperation (s : State) : List Byte → State
  | [op, b] => if op.toNat ≤ 6 ∧ b.toNat < 64 then s.recordOperation op.toNat b.toNat else s.badRequest
  | [op, set, way] =>
    if op.toNat = 7 ∧ set.toNat < 4 ∧ way.toNat < 2 then s.takeTask (s.store.taskIndex set.toNat way.toNat)
    else s.badRequest
  | _ => s.badRequest

/-- A SET ODOMETER request. -/
def State.takeOdometer (s : State) (data : List Byte) : State :=
  if data.length = 3 ∧ tripleAt data 0 ≤ odometerTop then s.takeTask (s.store.taskSetOdometer (tripleAt data 0))
  else s.badRequest

/-- A request without data. -/
def State.takeEmpty (s : State) (carried : State) : List Byte → State
  | [] => carried
  | _ => s.badRequest

/-- A SERVICE RESET request. -/
def State.takeServiceReset (s : State) : List Byte → State
  | [i] => if i.toNat < 8 then s.requestServiceReset i.toNat else s.badRequest
  | _ => s.badRequest

/-- An ACKNOWLEDGE WARNING request. -/
def State.takeAck (s : State) : List Byte → State
  | [w] => if w.toNat < 32 then s.requestAck w.toNat else s.badRequest
  | _ => s.badRequest

/-- A READ STATUS request. -/
def State.takeStatus (s : State) : List Byte → State
  | [sel, i] => s.requestStatus sel.toNat i.toNat
  | _ => s.badRequest

/-- A request taken in IDLE: checked in the order of Table 11-4, then carried out. -/
def State.carryOut (s : State) (topic : Nat) (data : List Byte) : State :=
  if topic = 0x60 then s.takeRead data
  else if topic = 0x61 then s.takeWrite data
  else if topic = 0x62 then s.takeRecordOperation data
  else if topic = 0x63 then s.takeOdometer data
  else if topic = 0x64 then s.takeEmpty s.requestClose data
  else if topic = 0x65 then s.takeServiceReset data
  else if topic = 0x66 then s.takeAck data
  else if topic = 0x67 then s.takeStatus data
  else if topic = 0x68 then s.takeEmpty s.requestGaugeTest data
  else s.badRequest

/-- A request that arrives at the handler (Table 11-3); it takes requests in WATCH, ACCESSORY, RUN and HOLDUP. -/
def State.workshopRequest (s : State) (topic : Nat) (data : List Byte) : State :=
  if !s.ign.awake then s
  else if s.handler.state = .idle then
    (s.setHandler { s.handler with state := .working, topic := topic }).carryOut topic data
  else s.answerBusy topic

end Sys2Proof.Machine
end

