-- ==== Sys2Proof/Machine/Line.lean ====
section
/-! DEFINITION. The line station (Chapter 3): its states, sending and clashes, the reception checks, the listen windows
and the hand-off, and the publications of the counting unit. -/

namespace Sys2Proof.Machine

/-! ### Sending (R52 to R54) -/

/-- The access wait of a message in slots (R52). -/
def Msg.accessWait (m : Msg) : Nat := 3 + 6 * m.cls + m.stagger

/-- The bit times of a message on the line (R47, R48). -/
def Msg.bits (m : Msg) : Nat := 10 * (m.data.length + 4)

/-- The head message's place and access wait. -/
def LineStation.head (l : LineStation) : Option (Nat × Msg) :=
  match headIndex l.queue with
  | some i => (l.queue[i]?).map fun m => (i, m)
  | none => none

/-- The kind codes (Table 12-1). -/
def MsgKind.code : MsgKind → Nat
  | .publication => 0
  | .reply => 2

/-- The bytes of a message before its check byte, as a station forms them (R47, Table 12-1). -/
def Msg.frameItems (station : Nat) (m : Msg) : List Byte :=
  [byteOf (64 * m.cls + 16 * m.kind.code + station), byteOf m.topic, byteOf (16 * m.seq + m.data.length)] ++ m.data

/-- The bytes of a message on the line: the last makes their sum 0 mod 256 (R47). -/
def Msg.frame (station : Nat) (m : Msg) : List Byte := m.frameItems station ++ [checkByteOf (m.frameItems station)]

/-- The 10 bit times of a byte on MUX, first to last, true where the sender drives the line (R48): the start bit, driven;
the data bits, least significant first, a 0 driven and a 1 released; the stop bit, released. -/
def muxBits (b : Byte) : List Bool := true :: ((List.range 8).map fun k => !b.toNat.testBit k) ++ [false]

/-- The bits of the message being sent: its bytes back to back (R48). -/
def LineStation.sentBits (l : LineStation) : List Bool := l.sent.flatMap muxBits

/-- The station itself drives MUX in the bit time that now begins: in SENDING as the message's bit says, in BREAKING for as
long as the break lasts (R48, R50, R53). -/
def LineStation.muxDriven (l : LineStation) : Bool :=
  match l.state with
  | .sending => l.sentBits.getD (l.sentBits.length - l.sendBits) false
  | .breaking => true
  | .off | .init | .quiet | .receiving | .stuck => false

/-- The station, of the number given, starts the head message: its bytes go out on the line. -/
def LineStation.startSending (l : LineStation) (station : Nat) : LineStation :=
  match l.head with
  | some (i, m) =>
    { l with state := .sending, quiet := 0, drivenTime := 0, sendBits := m.bits, sent := m.frame station,
             queue := l.queue.modify i fun m => { m with started := true, sending := true } }
  | none => l

/-- The place of the message being sent. -/
def LineStation.sendingIndex (l : LineStation) : Option Nat := l.queue.findIdx? (·.sending)

/-- The message being sent leaves the queue; its departure is told (R54, R188). -/
def State.departSending (s : State) : State :=
  match s.line.sendingIndex with
  | some i =>
    match s.line.queue[i]? with
    | some m => (s.setLine { s.line with queue := s.line.queue.eraseIdx i }).replyLeft m
    | none => s
  | none => s

/-- The message is sent (R54). -/
def State.messageSent (s : State) : State :=
  if s.line.state = .sending then
    let s' := s.departSending
    s'.setLine { s'.line with state := .quiet, quiet := 0, sendBits := 0, sent := [] }
  else s

/-- The stagger after an attempt (R53). -/
def staggerOf (station attempts : Nat) : Nat := station * attempts % 5 + 1

/-- A message after a clash: it stays started. -/
def Msg.clashed (station : Nat) (m : Msg) : Msg :=
  { m with sending := false, attempts := m.attempts + 1, stagger := staggerOf station (m.attempts + 1) }

/-- The message being sent meets a clash: it waits with its new stagger, or at its 16th attempt is discarded (R53, R54). -/
def State.clashMessage (s : State) : State :=
  match s.line.sendingIndex with
  | some i =>
    match s.line.queue[i]? with
    | some m =>
      if 16 ≤ m.attempts + 1 then
        (s.setLine ({ s.line with queue := s.line.queue.eraseIdx i }.drop)).replyLeft m
      else s.setLine { s.line with queue := s.line.queue.modify i (Msg.clashed s.cal.station) }
    | none => s
  | none => s

/-- A clash while SENDING: with the mismatch first a break follows, with the break first none does (R53). A recognised break
is the line driven by another station for 10 bit times by now (R49, R55). -/
def State.clash (s : State) (breakFirst : Bool) : State :=
  if s.line.state = .sending then
    let s' := s.clashMessage
    s'.setLine
      (if breakFirst then
        { s'.line with state := .receiving, awaitsRelease := true, driven := true, drivenTime := 10, sendBits := 0,
                       sent := [], clashes := satAdd 65535 s'.line.clashes 1 }
      else
        { s'.line with state := .breaking, sendBits := 12, sent := [], clashes := satAdd 65535 s'.line.clashes 1 })
  else s

/-! ### Line events (R49 to R51, R55) -/

/-- INIT's quiet count reaches 21. -/
def LineStation.initQuiet (l : LineStation) : LineStation :=
  if l.state = .init then { l with state := .quiet, quiet := max 21 l.quiet } else l

/-- A break recognised in RECEIVING: what was gathered is discarded, and the release is awaited. The line has by then been
driven for 10 bit times, or for as long as it has been since a break recognised before (R49, R55). -/
def LineStation.breakHeard (l : LineStation) : LineStation :=
  if l.state = .receiving then
    { l with awaitsRelease := true, driven := true, drivenTime := if l.awaitsRelease then l.drivenTime else 10 }
  else l

/-- The own break has lasted 12 bit times, which count as driven time if another station still drives the line (R50). -/
def LineStation.breakEnd (l : LineStation) (stillDriven : Bool) : LineStation :=
  if l.state = .breaking then
    if stillDriven then
      { l with state := .receiving, awaitsRelease := true, sendBits := 0, driven := true,
               drivenTime := max 12 l.drivenTime }
    else { l with state := .quiet, quiet := 0, sendBits := 0, driven := false, drivenTime := 0 }
  else l

/-- The line driven for more than 20 ms (R55). -/
def LineStation.goStuck (l : LineStation) : LineStation :=
  match l.state with
  | .init | .receiving | .breaking =>
    { l with state := .stuck, stuck := true, awaitsRelease := false, sendBits := 0, driven := true }
  | .off | .quiet | .sending | .stuck => l

/-- The line is released: a STUCK station goes to QUIET, an INIT station counts quiet from here. -/
def LineStation.release (l : LineStation) : LineStation :=
  let l := { l with driven := false, drivenTime := 0 }
  match l.state with
  | .stuck => { l with state := .quiet, stuck := false, quiet := 0 }
  | .init => { l with quiet := 0 }
  | .off | .quiet | .receiving | .sending | .breaking => l

/-- The line is released after a break: the station that waited for it goes to QUIET. -/
def LineStation.releaseAfterBreak (l : LineStation) : LineStation :=
  if l.state = .receiving ∧ l.awaitsRelease then
    { l with state := .quiet, awaitsRelease := false, quiet := 0, driven := false, drivenTime := 0 }
  else l

/-- Another station drives the line: a QUIET station begins gathering, an INIT station restarts its quiet count. Driven time
counts from the start of the driving (R50). -/
def LineStation.drive (l : LineStation) : LineStation :=
  let l := { l with driven := true, drivenTime := if l.driven then l.drivenTime else 0 }
  match l.state with
  | .quiet => { l with state := .receiving, awaitsRelease := false, quiet := 0 }
  | .init => { l with quiet := 0 }
  | .off | .receiving | .sending | .breaking | .stuck => l

/-! ### Reception (R60 to R64) -/

/-- The kind code of a gathered message. -/
def frameKind (bs : List Byte) : Nat := byteAt bs 0 / 16 % 4

/-- The source of a gathered message. -/
def frameSource (bs : List Byte) : Nat := byteAt bs 0 % 16

/-- The topic of a gathered message. -/
def frameTopic (bs : List Byte) : Nat := byteAt bs 1

/-- The sequence of a gathered message. -/
def frameSeq (bs : List Byte) : Nat := byteAt bs 2 / 16

/-- The coded length of a gathered message. -/
def frameLength (bs : List Byte) : Nat := byteAt bs 2 % 16

/-- The data of a gathered message. -/
def frameData (bs : List Byte) : List Byte := (bs.drop 3).take (frameLength bs)

/-- A gathered message passes every reception check (Table 3-7). -/
def frameValid (bs : List Byte) (framingError : Bool) : Bool :=
  !framingError && decide (4 ≤ bs.length) && decide (bs.length ≤ 12) && byteSum bs == 0 && frameKind bs != 3 &&
    frameSource bs != 0 && decide (frameLength bs ≤ 8) && bs.length == frameLength bs + 4

/-- A window admits a topic from a source (R61). -/
def ListenWindow.admits (topic source : Nat) (w : ListenWindow) : Bool :=
  w.enabled && decide (w.first ≤ topic) && decide (topic ≤ w.last) &&
    match w.source with
    | some n => n == source
    | none => true

/-- The built-in window 0 (R61). -/
def windowZero : ListenWindow := ⟨0x60, 0x6F, some 15, true⟩

/-- A message passes the listen windows. -/
def State.passes (s : State) (topic source : Nat) : Bool :=
  (windowZero :: s.cal.windows).any (ListenWindow.admits topic source)

/-- A valid message at the silence timer and the SILENT flag (R64). -/
def State.heard (s : State) : State :=
  s.setLine { s.line with silent := false, silence := if s.ign = .run then some 200 else s.line.silence }

/-- A reception error (R60). -/
def LineStation.receptionError (l : LineStation) : LineStation :=
  { l with receptionErrors := satAdd 255 l.receptionErrors 1 }

/-- A station-number conflict (R63). -/
def LineStation.conflictHeard (l : LineStation) : LineStation :=
  { l with conflicts := satAdd 255 l.conflicts 1, conflict := true }

/-- A passed message that no consumer takes (R62). -/
def LineStation.leaveUnclaimed (l : LineStation) : LineStation := { l with unclaimed := satAdd 255 l.unclaimed 1 }

/-- The hand-off of a passed message (Table 3-9). -/
def State.handOn (s : State) (bs : List Byte) : State :=
  match frameKind bs, s.entryOf (frameTopic bs) with
  | 0, some e => s.toEntry e (frameSource bs) (frameSeq bs) (frameData bs)
  | 1, _ =>
    if 0x60 ≤ frameTopic bs ∧ frameTopic bs ≤ 0x6F ∧ frameSource bs = 15 then
      s.workshopRequest (frameTopic bs) (frameData bs)
    else s.setLine s.line.leaveUnclaimed
  | _, _ => s.setLine s.line.leaveUnclaimed

/-- A valid message (R51, R61 to R64): in LOAD it is discarded after the checks. -/
def State.takeValid (s : State) (bs : List Byte) : State :=
  let s1 := s.heard
  if s.ign = .load then s1
  else if frameSource bs = s.cal.station then s1.setLine s1.line.conflictHeard
  else if s.passes (frameTopic bs) (frameSource bs) then s1.handOn bs
  else s1

/-- The end gap of a gathered message (R60). -/
def State.endGap (s : State) (bs : List Byte) (framingError : Bool) : State :=
  if s.line.state = .receiving ∧ s.line.awaitsRelease = false then
    let s1 := s.setLine { s.line with state := .quiet, quiet := 2, driven := false, drivenTime := 0 }
    if frameValid bs framingError then s1.takeValid bs else s1.setLine s1.line.receptionError
  else s

/-! ### Publications of the counting unit (R66 to R68) -/

/-- 40h. -/
def State.queueSpeed (s : State) : State :=
  s.publish 0x40 1 (bytes2 s.counting.speed ++ bytes2 s.counting.stepTally)

/-- 41h. -/
def State.queueOdometer (s : State) : State :=
  s.publish 0x41 2 (bytes3 s.store.odometerSent ++ [byteOf s.store.odometerCode])

/-! ### Occasions (R59, R64, R66, R69) -/

/-- RUN entry: the silence timer loaded, the 40h counter started if it is not running. -/
def LineStation.runEntry (l : LineStation) : LineStation :=
  { l with silence := some 200, rate40 := some (l.rate40.getD 10) }

/-- HOLDUP entry: the 40h counter started if it is not running. -/
def LineStation.holdupEntry (l : LineStation) : LineStation := { l with rate40 := some (l.rate40.getD 10) }

/-- The ignition state leaves RUN: the silence timer stops. -/
def LineStation.leaveRun (l : LineStation) : LineStation := { l with silence := none }

/-- The 40h counter stops. -/
def LineStation.stop40 (l : LineStation) : LineStation := { l with rate40 := none }

/-- SLEEP entry: the queue emptied without counting, everything stopped, OFF. -/
def LineStation.sleep (l : LineStation) : LineStation :=
  { l with state := .off, awaitsRelease := false, sendBits := 0, sent := [], queue := [], silence := none, rate40 := none,
           rate41 := none }

/-- Wake: INIT, the flags cleared. -/
def LineStation.wake (l : LineStation) : LineStation :=
  { l with state := .init, awaitsRelease := false, quiet := 0, drivenTime := 0, sendBits := 0, sent := [],
           stuck := false, silent := false, conflict := false, silence := none, rate40 := none }

/-- Entry to WATCH, ACCESSORY or RUN from SLEEP or LOAD: the 41h counter starts. -/
def LineStation.start41 (l : LineStation) : LineStation := { l with rate41 := some 100 }

end Sys2Proof.Machine
end

