-- ==== Sys2Proof/Machine/IgnitionCtl.lean ====
section
/-! DEFINITION. The ignition controller (R180 to R183): SLEEP entry and wake as every block takes them, the entries to RUN,
ACCESSORY, WATCH and HOLDUP, and the HOLDUP exit. -/

namespace Sys2Proof.Machine

/-- The ignition state set, with the keys counting as released (R39). -/
def State.goTo (s : State) (x : Ign) : State :=
  (s.setIgnition { s.ignition with state := x }).setKeys (s.keys.map KeyInput.forget)

/-- The watch timer. -/
def State.setWatch (s : State) (t : Option Nat) : State := s.setIgnition { s.ignition with watchTimer := t }

/-- The holdup timer. -/
def State.setHoldup (s : State) (t : Option Nat) : State := s.setIgnition { s.ignition with holdupTimer := t }

/-! ### SLEEP entry and wake (R183) -/

/-- The store's SLEEP entry: a write in progress abandoned first (R176, R179). -/
def State.storeSleep (s : State) : State :=
  (s.setStore (s.store.abandonWrite s.freeIndex).sleep).setFreeIndex (s.freeIndex + s.store.freeUse)

/-- SLEEP entry: every block takes its effects (R18, R29, R45, R59, R85, R101, R112, R136, R150, R158, R179, R188). -/
def State.sleepEntry (s : State) : State :=
  let s1 := (s.goTo .sleep).setWatch none |>.setHoldup none
  let s2 := s1.setCounting s1.counting.stopWindows.forgetNoted.endSetting
  let s3 := (s2.setArith s2.arith.sleep).setDisplay s2.display.sleep
  let s4 := (s3.setLine s3.line.sleep).setTopics { s3.topics with tick := none }
  let s5 := ((s4.setGauges s4.gauges.sleep).setRules s4.rules.sleep).arbiterSleep
  let s6 := (s5.setSound s5.sound.sleep).setService s5.service.sleep
  s6.storeSleep.setHandler { s6.handler with state := .idle }

/-- What starts at an entry to WATCH, ACCESSORY or RUN from SLEEP or LOAD (R66, R76, R92, R105, R135, R147). -/
def State.startTimers (s : State) : State :=
  let s1 := (s.setLine s.line.start41).setTopics { s.topics with tick := some 10 }
  let s2 := (s1.setGauges s1.gauges.wake).setRules s1.rules.wake
  (s2.setSound s2.sound.wake).arbiterStart

/-- RUN entry, from any state (R18, R64, R66, R97, R149, R155). -/
def State.runEntry (s : State) : State :=
  let s1 := (s.setCounting s.counting.startWindows).setGauges (s.gauges.startSweep false)
  ((s1.setSound s1.sound.startBulbCheck).setLine s1.line.runEntry).serviceReminders

/-- The effects of entering `x` beyond its own timers: RUN entry, or nothing. -/
def State.enterAwake (s : State) (x : Ign) : State := if x = .run then s.runEntry else s

/-- Wake into WATCH, ACCESSORY or RUN: every block takes its wake values, then a RUN entry its effects, then the held days
are delivered (R19, R31, R85, R101, R112, R136, R150, R162, R174, R183). -/
def State.wakeInto (s : State) (x : Ign) : State :=
  let s1 := (s.goTo x).countingWake
  let s2 := (s1.setTrip s1.trip.wake).setLine s1.line.wake
  let s3 := (s2.setTopics s2.topics.wake).setStore s2.store.wake
  let s4 := (s3.setHandler { s3.handler with state := .idle }).arbiterWake
  ((s4.startTimers.serviceWake).enterAwake x).deliverHeldDays.settleStore

/-- The state that the filtered inputs ask for, SLEEP when none does (R183, R187). -/
def Ignition.asked (i : Ignition) : Ign :=
  match i.position with
  | .run => .run
  | .acc => .accessory
  | .off => if i.wake then .watch else .sleep

/-- In SLEEP the controller looks at the levels (R183). -/
def State.lookFromSleep (s : State) : State :=
  match s.ignition.asked with
  | .sleep | .load | .holdup => s
  | x => s.wakeInto x

/-- SLEEP entered, and left at once if a level asks for it (R183). -/
def State.enterSleep (s : State) : State := s.sleepEntry.lookFromSleep

/-! ### Changes among the awake states (Table 11-1) -/

/-- What leaving the present state does: leaving RUN parks the gauges, ends the bulb check and stops the silence timer;
leaving ACCESSORY or RUN ends a review (R64, R100, R125, R149). -/
def State.leave (s : State) : State :=
  match s.ign with
  | .run =>
    let s1 := s.parkGauges
    ((s1.setSound s1.sound.endBulbCheck).setLine s1.line.leaveRun).endReview
  | .accessory => s.endReview
  | .load | .sleep | .watch | .holdup => s

/-- Entry to RUN from WATCH, ACCESSORY or HOLDUP. -/
def State.toRun (s : State) : State := (s.leave.goTo .run).runEntry

/-- Entry to ACCESSORY from WATCH, RUN or HOLDUP: the windows and the 40h counter stop (R18, R66). -/
def State.toAccessory (s : State) : State :=
  let s1 := s.leave.goTo .accessory
  (s1.setCounting s1.counting.stopWindows).setLine s1.line.stop40

/-- The windows at HOLDUP entry: they run on from RUN, and start in the other cases (R5, R18). DESIGN CHOICE (log entry
37): R5 gives the first window of such a start no phase; it is a full 0.5 s. -/
def Counting.holdupWindows (c : Counting) : Counting := if c.windowTimer.isSome then c else c.startWindows

/-- The HOLDUP exit condition examined: in HOLDUP it gives SLEEP (R182). -/
def State.holdupExit (s : State) : State :=
  if s.ign = .holdup ∧ s.exitCondition then s.enterSleep else s

/-- Entry to HOLDUP: the HOLDUP order placed, the holdup timer loaded, clock setting ended, and from ACCESSORY or RUN 41h
queued (R11, R66, R68, R181). -/
def State.toHoldup (s : State) : State :=
  let fromKey := s.ign.keysAccepted
  let s1 := (s.leave.goTo .holdup).setWatch none |>.setHoldup (some 30)
  let s2 := s1.setCounting s1.counting.holdupWindows.endSetting
  let s3 := (s2.setLine s2.line.holdupEntry).setStore s2.store.placeHoldup
  let s4 := if fromKey then s3.queueOdometer else s3
  s4.settleStore.holdupExit

/-- A return of the key during HOLDUP: the timer stopped, the HOLDUP order turned into a SWEEP. -/
def State.endHoldup (s : State) : State := (s.setHoldup none).setStore s.store.turnHoldup

/-- The filtered ignition levels taken (R180): an input whose level changes has its pin at that level, and one whose level
stays keeps its pin and its samples, so that a change in progress there goes on. -/
def State.takeLevels (s : State) (acc run : Bool) : State :=
  let i := s.ignition
  s.setIgnition
    { i with
      acc := acc, pinAcc := if acc = i.acc then i.pinAcc else acc, accSamples := if acc = i.acc then i.accSamples else 0
      run := run, pinRun := if run = i.run then i.pinRun else run, runSamples := if run = i.run then i.runSamples else 0 }

/-- STAY-AWAKE: high in all states but SLEEP (R180). -/
def State.stayAwake (s : State) : Bool := s.ign != .sleep

/-- A change of the filtered IGN-ACC or IGN-RUN (Table 11-1). -/
def State.keyPosition (s : State) (acc run : Bool) : State :=
  let s1 := s.takeLevels acc run
  match s.ign, s1.ignition.position with
  | .load, _ => s1
  | .sleep, _ => s1.lookFromSleep
  | .watch, .run => ((s1.setWatch none).toRun).settleStore
  | .watch, .acc => (s1.setWatch none).toAccessory
  | .watch, .off => s1
  | .accessory, .run => s1.toRun.settleStore
  | .accessory, .off => s1.toHoldup
  | .accessory, .acc => s1
  | .run, .acc =>
    let s2 := s1.toAccessory
    (s2.setStore s2.store.placeSweep).settleStore
  | .run, .off => s1.toHoldup
  | .run, .run => s1
  | .holdup, .run => s1.endHoldup.toRun.settleStore
  | .holdup, .acc => s1.endHoldup.toAccessory.settleStore
  | .holdup, .off => s1

/-- A change of the filtered WAKE (Table 11-1). -/
def State.wakeInput (s : State) (high : Bool) : State :=
  let i := s.ignition
  let s1 := s.setIgnition
    { i with wake := high, pinWake := if high = i.wake then i.pinWake else high,
             wakeSamples := if high = i.wake then i.wakeSamples else 0 }
  match s.ign with
  | .sleep => s1.lookFromSleep
  | .watch => if high then s1.setWatch none else if s.ignition.wake then s1.setWatch (some 300) else s1
  | .load | .accessory | .run | .holdup => s1

/-- The watch timer expires (Table 11-1). -/
def State.watchExpired (s : State) : State :=
  if s.ign = .watch ∧ s.ignition.watchTimer.isSome then
    if s.store.dirtyReported then s.toHoldup else s.enterSleep
  else s

/-- The holdup timer expires (R182). -/
def State.holdupExpired (s : State) : State :=
  if s.ign = .holdup ∧ s.ignition.holdupTimer.isSome then s.enterSleep else s

/-- Power-on reset (R184): every block at its power-on values and the load begun. What is outside the part stays: the
levels at its pins, what the display driver last received, the nonvolatile memory (a write in progress leaves its block of
unknown content), the commands that wait; and the model's free values used so far. -/
def State.powerOn (s : State) : State :=
  { State.reset with
    ignition := { State.reset.ignition with pinAcc := s.ignition.pinAcc, pinRun := s.ignition.pinRun,
                                            pinWake := s.ignition.pinWake }
    keys := s.keys.map KeyInput.forget
    display := { State.reset.display with strobed := s.display.strobed }
    line := { State.reset.line with driven := s.line.driven }
    store := { State.reset.store with pwrGood := s.store.pwrGood, nv := s.store.nvAtReset s.freeIndex }
    freeIndex := s.freeIndex + s.store.freeUse
    pending := s.pending }

end Sys2Proof.Machine
end

