-- ==== Sys2Proof/Machine/Load.lean ====
section
/-! DEFINITION. The start-up load (R184 to R187), and the ends of the copy engine's block operations as the state takes
them: fills, verifications, writes. -/

namespace Sys2Proof.Machine

/-! ### The load -/

/-- The load goes on with block `b`. -/
def State.loadNext (s : State) (b : Nat) : State :=
  (s.setIgnition { s.ignition with load := { s.ignition.load with awaits := b } }).setStore (s.store.fetch b)

/-- Block 63 has been read: the image is checked, and kept with its clamps or replaced (R185). -/
def State.checkImage (s : State) : State :=
  let l := s.ignition.load
  if imageFails l.bytes l.bad then
    s.setIgnition { s.ignition with calDefault := true, load := { l with image := builtInDefaults } }
  else
    s.setIgnition
      { s.ignition with
        clampCount := s.ignition.clampCount + clampsOf l.bytes, load := { l with image := readImage l.bytes } }

/-- A calibration block's data are kept with its check result (R184). -/
def State.loadCalibration (s : State) (data : List Byte) (bad : Bool) : State :=
  let l := s.ignition.load
  s.setIgnition { s.ignition with load := { l with bytes := l.bytes ++ data, bad := l.bad || bad } }

/-- Block 0 is taken as stored (R186). -/
def odometerStored (data : List Byte) (bad : Bool) : Bool :=
  !bad && decide (tripleAt data 0 ≤ odometerTop) && decide (byteAt data 3 ≤ 1)

/-- A record block 0 to 6 brought in by the load (R186). DESIGN CHOICE (log entry 49): the UPDATE of a block that is not
taken as stored leaves the bytes of blocks 0 and 3 to 6 that Table 12-6 gives no item as they were read. -/
def State.loadRecord (s : State) (b : Nat) (data : List Byte) (bad : Bool) : State :=
  let items := s.ignition.load.image.items
  let figures (i : Nat) : ItemFigures := items.getD i (s.itemFigures i)
  if b = 0 then if odometerStored data bad then s else s.update 0 (putOdometerState 0 1)
  else if !bad then s
  else if b ≤ 2 then (s.update b fun _ => zeroRecord 0 s.freeIndex).setFreeIndex (s.freeIndex + 2)
  else
    s.update b (replaceService (figures (2 * (b - 3))) (figures (2 * (b - 3) + 1)) s.store.odometerValue b)

/-- The load is done (R187): every block takes its calibrated items, and the state is chosen from the filtered inputs; the
held days are delivered whatever it is (R9). Where it is SLEEP they are counted before the blocks' SLEEP entry, and their
edge requests find the arbiter asleep (log entry 18). -/
def State.loadDone (s : State) : State :=
  let s1 := (s.setCal s.ignition.load.image).takeDefinitions.formOrders.serviceLoaded
  match s1.ignition.asked with
  | .sleep | .load | .holdup => s1.deliverHeldDays.enterSleep
  | x => ((s1.goTo x).startTimers.enterAwake x).deliverHeldDays

/-- A fill that completes in LOAD (R184 to R187). -/
def State.loadFill (s : State) (b : Nat) (data : List Byte) (bad : Bool) : State :=
  if b ≠ s.ignition.load.awaits then s
  else if 63 ≤ b then (s.loadCalibration data bad).checkImage.loadNext 0
  else if 7 ≤ b then (s.loadCalibration data bad).loadNext (b + 1)
  else if b < 6 then (s.loadRecord b data bad).loadNext (b + 1)
  else (s.loadRecord b data bad).loadDone

/-! ### Ends of block operations -/

/-- The pin that the end of a fill sets: the load's for blocks 0 to 2, and that of a FETCH-AND-PIN (R173, R186). -/
def State.pinAtFill (s : State) (b : Nat) : Bool :=
  (s.ign == .load && systemBlock b) || s.store.task == .fetch b true

/-- A workshop FETCH or READ BYTES of block `b` ends with the fill (R166, R189). DESIGN CHOICE (log entry 43): its 70h reply
is queued before what the service unit queues at the same fill. -/
def State.taskFilled (s : State) (b : Nat) (bytes : List Byte) (bad : Bool) : State :=
  let s0 := s.setStore { s.store with task := .none }
  match s.store.task with
  | .fetch b' _ => if b' = b then s0.returnStatus .done [] else s
  | .read b' o => if b' = b then s0.returnStatus .done (readResult bytes o (if bad then 2 else 1)) else s
  | _ => s

/-- A workshop WRITE BYTES that waits for block `b` is applied, after the clients of the fill (R168). -/
def State.taskApplied (s : State) (b : Nat) : State :=
  match s.store.task with
  | .write b' o data => if b' = b then s.applyWrite b o data else s
  | _ => s

/-- The end of a FILL's read (R173). -/
def State.fillEnd (s : State) (b : Nat) : State :=
  let data := (s.store.nv.block b).take 15
  let bad := !checkGood (s.store.nv.block b)
  let s1 := (s.setStore (s.store.endFill b (s.pinAtFill b))).taskFilled b data bad
  let s2 :=
    if s.ign = .load then s1.loadFill b data bad
    else if serviceBlock b then s1.serviceFill b bad
    else s1
  (s2.taskApplied b).settleStore

/-- The end of a VERIFY's read (R171). -/
def State.verifyEnd (s : State) (b : Nat) : State :=
  let x : Status := if s.store.verifies b then .done else .mismatch
  ((s.setStore { s.store.endKind Order.isVerify with op := none, task := .none }).returnStatus x []).settleStore

/-- A block read ends (R173). -/
def State.readEnd (s : State) : State :=
  match s.store.op with
  | some (.readFill b) => s.fillEnd b
  | some (.readVerify b) => s.verifyEnd b
  | _ => s

/-- The memory reports ready (R174). -/
def State.writeDone (s : State) : State :=
  if s.store.writing then (s.setStore s.store.writeReady).settleStore.holdupExit else s

/-- 40 ms have passed without ready (R174). -/
def State.writeTimedOut (s : State) : State :=
  if s.store.writing then
    ((s.setStore (s.store.writeFailed s.freeIndex)).setFreeIndex (s.freeIndex + s.store.freeUse)).settleStore
  else s

/-- PWR-GOOD falls (R176). -/
def State.pwrFall (s : State) : State :=
  let st := s.store.abandonWrite s.freeIndex
  ((s.setStore { st with pwrGood := false }).setFreeIndex (s.freeIndex + s.store.freeUse)).settleStore

/-- PWR-GOOD rises (R176). -/
def State.pwrRise (s : State) : State := (s.setStore { s.store with pwrGood := true }).settleStore

end Sys2Proof.Machine
end

