-- ==== Sys2Proof/Machine/Command.lean ====
section
/-! DEFINITION. What every command's meaning ends with: the next state, with the holds that the command ends and the
display record that it sends. -/

namespace Sys2Proof.Machine

/-- What a command answers. -/
abbrev Answered := Host.Outcome State Fault Refusal

/-- The answer of a command that took the part from `s0` to `s`. -/
def finish (s0 s : State) : Answered := .next (State.present s0 s)

end Sys2Proof.Machine
end

