-- ==== Sys2Proof/Machine/CountingCommands.lean ====
section
/-! DEFINITION. The commands of the counting unit, the arithmetic unit and the topic table's tick. -/

namespace Sys2Proof.Machine

/-- SPEED_PULSE (R1 to R3). -/
def execSpeedPulse (elapsed : Nat) (s : State) : Answered :=
  let s1 := s.setCounting (s.counting.later elapsed)
  finish s (if s.ign.counts && s1.counting.edgeAccepted then s1.acceptPulse.settleStore else s1)

/-- HALF_SECOND_WINDOW_CLOSURE (R5). -/
def execHalfSecondWindowClosure (s : State) : Answered :=
  finish s (if s.counting.windowTimer.isSome then s.closeWindow else s)

/-- Trip time at the 1 s timer (R12). -/
def State.tripSecond (s : State) : State := if s.ign = .run then s.onTrips fun s r => s.addTime r 1 else s

/-- The pass at the 1 s timer (R34). -/
def State.passDue (s : State) : State := if s.ign.keysAccepted then s.tripPass else s

/-- ONE_SECOND_TIMER (R9, R12, R16, R34, R46). -/
def execOneSecondTimer (s : State) : Answered :=
  let s1 := s.setCounting { s.counting with secondTimer := 100 }
  finish s s1.clockSecond.tripSecond.filterFuel.passDue.rearPageDue.settleStore

/-- A completion delivered to its target (Table 2-7). -/
def State.deliver (s : State) (r : Request) : State :=
  match r.target with
  | .gauge g => s.modifyGauge g (Gauge.deliver (r.base + r.result.value))
  | .speed => s.takeSpeed r.result
  | .fuel => s.takeFuel (r.base + r.result.value) r.afterReturn
  | .economy t => s.takeRecord t r.generation fun s => s.setEconomy t r.result
  | .average t => s.takeRecord t r.generation fun s => s.setAverage t r.result
  | .inst => s.setTrip { s.trip with inst := r.result }
  | .range => s.setTrip { s.trip with range := r.result }

/-- The operation in flight completes: its result is delivered, and the arbiter hands over the next request (R21). -/
def State.complete (s : State) : State :=
  match s.arith.inFlight with
  | some r => (s.deliver r).leaveUnit
  | none => s

/-- OPERATION_COMPLETE (R21, R27). -/
def execOperationComplete (s : State) : Answered := finish s s.complete

/-- FRESHNESS_TICK (R76, R4). -/
def execFreshnessTick (s : State) : Answered := finish s (if s.topics.tick.isSome then s.freshness else s)

/-- TURN_SIGNAL_COUNT_TIMEOUT (R4). -/
def execTurnSignalCountTimeout (s : State) : Answered :=
  finish s (if s.counting.turnActive then s.setCounting s.counting.endTurn else s)

end Sys2Proof.Machine
end

