-- ==== Sys2Proof/Machine/GaugeCommands.lean ====
section
/-! DEFINITION. The commands of the gauge unit. -/

namespace Sys2Proof.Machine

/-- GAUGE_UPDATE (R92). -/
def execGaugeUpdate (s : State) : Answered :=
  finish s (if s.gauges.timer.isSome then (s.setGauges { s.gauges with timer := some 2 }).updateGauges else s)

/-- PARK_COUNT_EXPIRY (R100). -/
def execParkCountExpiry (gauge : Fin 6) (s : State) : Answered :=
  finish s
    (if (s.gauge gauge).state = .parked ∧ 0 < (s.gauge gauge).parkCount then s.modifyGauge gauge Gauge.endPark else s)

/-- SWEEP_TICK (R97, R98). -/
def execSweepTick (s : State) : Answered := finish s s.sweepStep

/-- SWEEP_END (R98). -/
def execSweepEnd (s : State) : Answered := finish s (if s.gauges.sweep.isSome then s.endSweep else s)

end Sys2Proof.Machine
end

