-- ==== Sys2Proof/Machine/IgnitionCommands.lean ====
section
/-! DEFINITION. The commands of the ignition controller. -/

namespace Sys2Proof.Machine

/-- POWER_ON_RESET (R184). -/
def execPowerOnReset (s : State) : Answered := finish s s.powerOn

/-- KEY_POSITION_CHANGE (R181). -/
def execKeyPositionChange (acc run : Bool) (s : State) : Answered := finish s (s.keyPosition acc run)

/-- WAKE_INPUT_CHANGE (R181). -/
def execWakeInputChange (high : Bool) (s : State) : Answered := finish s (s.wakeInput high)

/-- WATCH_TIMER_EXPIRY (R181). -/
def execWatchTimerExpiry (s : State) : Answered := finish s s.watchExpired

/-- HOLDUP_TIMER_EXPIRY (R182). -/
def execHoldupTimerExpiry (s : State) : Answered := finish s s.holdupExpired

end Sys2Proof.Machine
end

