-- ==== Sys2Proof/Machine/KeyCommands.lean ====
section
/-! DEFINITION. The commands of the cluster keys and the display port. -/

namespace Sys2Proof.Machine

/-- KEY_PRESS (R39 to R42, R10, R11, R124, R144, R161). -/
def execKeyPress (k : Key) (s : State) : Answered := finish s (s.pressKey k).settleStore

/-- KEY_RELEASE (R39, R40). -/
def execKeyRelease (k : Key) (s : State) : Answered := finish s (s.releaseKey k)

/-- CLOCK_SET_HOLD (R10). -/
def execClockSetHold (s : State) : Answered := finish s s.clockSetMark

/-- KEY_IDLE_TIMER_EXPIRY (R11). -/
def execKeyIdleTimerExpiry (s : State) : Answered :=
  finish s (if s.counting.keyIdle.isSome then s.setCounting s.counting.endSetting else s)

/-- TRIP_RESET_HOLD (R41, R32). -/
def execTripResetHold (s : State) : Answered := finish s s.tripResetMark

/-- SERVICE_STEP_HOLD (R161). -/
def execServiceStepHold (s : State) : Answered := finish s s.serviceStepMark.settleStore

/-- SERVICE_RESET_HOLD (R159, R158). -/
def execServiceResetHold (s : State) : Answered := finish s s.serviceResetMark.settleStore

/-- DISPLAY_TIMER_EXPIRY (R45). -/
def execDisplayTimerExpiry (s : State) : Answered :=
  finish s (if s.display.timer.isSome then (s.setDisplay { s.display with timer := some 10 }).requestSend else s)

/-- DISPLAY_TRANSFER_END (R45). -/
def execDisplayTransferEnd (s : State) : Answered := finish s s.endTransfer

end Sys2Proof.Machine
end

