-- ==== Sys2Proof/Machine/LineCommands.lean ====
section
/-! DEFINITION. The commands of the line station. -/

namespace Sys2Proof.Machine

/-- INIT_QUIET_REACHED (R51). -/
def execInitQuietReached (s : State) : Answered := finish s (s.setLine s.line.initQuiet)

/-- ACCESS_WAIT_REACHED (R52). -/
def execAccessWaitReached (s : State) : Answered :=
  finish s (if s.line.state = .quiet ∧ s.ign.awake then s.setLine (s.line.startSending s.cal.station) else s)

/-- CLASH (R53, R54). -/
def execClash (breakFirst : Bool) (s : State) : Answered := finish s (s.clash breakFirst).holdupExit

/-- MESSAGE_SENT (R54, R182, R188). -/
def execMessageSent (s : State) : Answered := finish s s.messageSent.holdupExit

/-- BREAK_RECOGNISED (R49); in SENDING it is a clash with the break taken first (R53). -/
def execBreakRecognised (s : State) : Answered :=
  finish s
    (if s.line.state = .sending then (s.clash true).holdupExit else s.setLine s.line.breakHeard)

/-- BREAK_END (R50). -/
def execBreakEnd (stillDriven : Bool) (s : State) : Answered := finish s (s.setLine (s.line.breakEnd stillDriven))

/-- LINE_STUCK (R55). -/
def execLineStuck (s : State) : Answered := finish s (s.setLine s.line.goStuck)

/-- LINE_RELEASED (R55). -/
def execLineReleased (s : State) : Answered := finish s (s.setLine s.line.release)

/-- END_GAP (R60 to R64). -/
def execEndGap (bytes : List Byte) (framingError : Bool) (s : State) : Answered := finish s (s.endGap bytes framingError)

/-- SILENCE_TIMER_EXPIRY (R64). -/
def execSilenceTimerExpiry (s : State) : Answered :=
  finish s (if s.line.silence.isSome then s.setLine { s.line with silent := true, silence := none } else s)

/-- RATE_40H_EXPIRY (R67). -/
def execRate40hExpiry (s : State) : Answered :=
  finish s (if s.line.rate40.isSome then (s.setLine { s.line with rate40 := some 10 }).queueSpeed else s)

/-- RATE_41H_EXPIRY (R68). -/
def execRate41hExpiry (s : State) : Answered :=
  finish s (if s.line.rate41.isSome then (s.setLine { s.line with rate41 := some 100 }).queueOdometer else s)

/-- LINE_DRIVEN (R50). -/
def execLineDriven (s : State) : Answered := finish s (s.setLine s.line.drive)

/-- LINE_RELEASED_AFTER_BREAK (R49). -/
def execLineReleasedAfterBreak (s : State) : Answered := finish s (s.setLine s.line.releaseAfterBreak)

end Sys2Proof.Machine
end

