-- ==== Sys2Proof/Machine/SoundCommands.lean ====
section
/-! DEFINITION. The commands of the sound and lamp unit. -/

namespace Sys2Proof.Machine

/-- CADENCE_EXPIRY (R139, R140). -/
def execCadenceExpiry (s : State) : Answered := finish s (State.reportDone s.cadenceEnd)

/-- The click timer expires (Table 8-7). -/
def Sound.endClick (u : Sound) : Sound := if u.output = .click then { u with output := .silent, clickTimer := 0 } else u

/-- CLICK_TIMER_EXPIRY (R143). -/
def execClickTimerExpiry (s : State) : Answered := finish s (s.setSound s.sound.endClick)

/-- The tick timer expires (Table 8-7). -/
def Sound.endTick (u : Sound) : Sound := if u.output = .tick then { u with output := .silent, tickTimer := 0 } else u

/-- TICK_TIMER_EXPIRY (R143). -/
def execTickTimerExpiry (s : State) : Answered := finish s (s.setSound s.sound.endTick)

/-- FLASH_COUNTER_EXPIRY (R147). -/
def execFlashCounterExpiry (s : State) : Answered :=
  finish s
    (if s.sound.flash.isSome then s.setSound { s.sound with flash := some 25, lit := !s.sound.lit } else s)

/-- BULB_CHECK_EXPIRY (R149). -/
def execBulbCheckExpiry (s : State) : Answered := finish s (s.setSound s.sound.endBulbCheck)

end Sys2Proof.Machine
end

