-- ==== Sys2Proof/Machine/StoreCommands.lean ====
section
/-! DEFINITION. The commands of the copy engine and its port. -/

namespace Sys2Proof.Machine

/-- BLOCK_READ_END (R171, R173, R157, R184 to R187). -/
def execBlockReadEnd (s : State) : Answered := finish s s.readEnd

/-- BLOCK_WRITE_READY (R174, R182). -/
def execBlockWriteReady (s : State) : Answered := finish s s.writeDone

/-- BLOCK_WRITE_TIMEOUT (R174). -/
def execBlockWriteTimeout (s : State) : Answered := finish s s.writeTimedOut

/-- PWR_GOOD_FALL (R176). -/
def execPwrGoodFall (s : State) : Answered := finish s s.pwrFall

/-- PWR_GOOD_RISE (R176). -/
def execPwrGoodRise (s : State) : Answered := finish s s.pwrRise

end Sys2Proof.Machine
end

