-- ==== Sys2Proof/Machine/WarningCommands.lean ====
section
/-! DEFINITION. The commands of the warning rules and the warning arbiter. -/

namespace Sys2Proof.Machine

/-- EVALUATION (R105). -/
def execEvaluation (s : State) : Answered :=
  finish s (if s.rules.timer.isSome then (s.setRules { s.rules with timer := some 10 }).evaluateRules else s)

/-- ARBITER_TICK (R127, R128, R125). -/
def execArbiterTick (s : State) : Answered :=
  finish s (if s.arbiter.tick.isSome then (s.setArbiter { s.arbiter with tick := some 10 }).arbiterTicked else s)

/-- The shown timer of a SHOWN INFORMATION warning at 40 ticks (R127). -/
def State.shownExpired (s : State) : State :=
  match s.shown with
  | some w => if s.warningClass w = .information then s.shownTimerDone w else s
  | none => s

/-- SHOWN_TIMER_EXPIRY (R127). -/
def execShownTimerExpiry (s : State) : Answered := finish s (s.arbiterEvent State.shownExpired)

/-- A reminder timer that runs reaches 0 (R128). -/
def Warning.reminderDone (v : Warning) : Warning :=
  if v.state = .silenced ∧ 0 < v.reminder then v.goTo .pending else v

/-- REMINDER_TIMER_EXPIRY (R128). -/
def execReminderTimerExpiry (warning : Fin 32) (s : State) : Answered :=
  finish s (s.arbiterEvent fun s => s.modifyWarning warning Warning.reminderDone)

/-- REVIEW_TIMER_EXPIRY (R125). -/
def execReviewTimerExpiry (s : State) : Answered := finish s s.endReview

/-- RATE_43H_EXPIRY (R135). -/
def execRate43hExpiry (s : State) : Answered :=
  finish s
    (if s.arbiter.rate43.isSome then (s.setArbiter { s.arbiter with rate43 := some 200 }).queueSummary else s)

/-- PATTERN_COMPLETE (R127). -/
def execPatternComplete (warning : Fin 32) (s : State) : Answered := finish s (s.patternDone warning)

/-- The warning of a service request (R154). -/
def serviceWarning : ServiceWarning → Nat
  | .soon => 27
  | .due => 28
  | .overdue => 29

/-- SERVICE_EDGE_REQUEST (R120). -/
def execServiceEdgeRequest (which : ServiceWarning) (s : State) : Answered :=
  finish s (s.edgeRequest (serviceWarning which))

end Sys2Proof.Machine
end

