-- ==== Sys2Proof/Machine/WorkshopCommands.lean ====
section
/-! DEFINITION. The workshop's requests as commands: each arrives at the workshop handler as the message of its topic
with the data of Table 12-4 (R189). -/

namespace Sys2Proof.Machine

/-- A request of a topic with its data bytes. -/
def arrives (topic : Nat) (data : List Byte) (s : State) : Answered := finish s (s.workshopRequest topic data)

/-- READ_BYTES (R189). -/
def execReadBytes (block offset : Byte) (s : State) : Answered := arrives 0x60 [block, offset] s

/-- WRITE_BYTES (R168). -/
def execWriteBytes (block offset : Byte) (data : List Byte) (s : State) : Answered :=
  arrives 0x61 (block :: offset :: data) s

/-- FETCH (R166). -/
def execFetch (block : Byte) (s : State) : Answered := arrives 0x62 [0, block] s

/-- FETCH_AND_PIN (R167). -/
def execFetchAndPin (block : Byte) (s : State) : Answered := arrives 0x62 [1, block] s

/-- UNPIN (R167). -/
def execUnpin (block : Byte) (s : State) : Answered := arrives 0x62 [2, block] s

/-- WRITEBACK (R169). -/
def execWriteback (block : Byte) (s : State) : Answered := arrives 0x62 [3, block] s

/-- WRITEBACK_INVALIDATE (R170). -/
def execWritebackInvalidate (block : Byte) (s : State) : Answered := arrives 0x62 [4, block] s

/-- INVALIDATE (R170). -/
def execInvalidate (block : Byte) (s : State) : Answered := arrives 0x62 [5, block] s

/-- VERIFY (R171). -/
def execVerify (block : Byte) (s : State) : Answered := arrives 0x62 [6, block] s

/-- INDEX_WRITEBACK_INVALIDATE (R170). -/
def execIndexWritebackInvalidate (set way : Byte) (s : State) : Answered := arrives 0x62 [7, set, way] s

/-- SET_ODOMETER (R178). -/
def execSetOdometer (value : BitVec 24) (s : State) : Answered := arrives 0x63 (bytes3 value.toNat) s

/-- CLOSE (R177). -/
def execClose (s : State) : Answered := arrives 0x64 [] s

/-- SERVICE_RESET (R160). -/
def execServiceReset (item : Byte) (s : State) : Answered := arrives 0x65 [item] s

/-- ACKNOWLEDGE_WARNING (R126). -/
def execAcknowledgeWarning (warning : Byte) (s : State) : Answered := arrives 0x66 [warning] s

/-- READ_STATUS (R191). -/
def execReadStatus (selector index : Byte) (s : State) : Answered := arrives 0x67 [selector, index] s

/-- GAUGE_TEST (R99). -/
def execGaugeTest (s : State) : Answered := arrives 0x68 [] s

end Sys2Proof.Machine
end

