-- ==== Sys2Proof/Machine/Dispatch.lean ====
section
/-! DEFINITION. One arm per command, each a direct call of the command's meaning. -/

namespace Sys2Proof.Machine

/-- The effect of a command on everything but the queue. -/
def exec (i : Instr) (s : State) : Host.Outcome State Fault Refusal :=
  match i with
  | .powerOnReset => Sys2Proof.Machine.execPowerOnReset s
  | .speedPulse elapsed => Sys2Proof.Machine.execSpeedPulse elapsed s
  | .halfSecondWindowClosure => Sys2Proof.Machine.execHalfSecondWindowClosure s
  | .oneSecondTimer => Sys2Proof.Machine.execOneSecondTimer s
  | .keyPress k => Sys2Proof.Machine.execKeyPress k s
  | .keyRelease k => Sys2Proof.Machine.execKeyRelease k s
  | .clockSetHold => Sys2Proof.Machine.execClockSetHold s
  | .keyIdleTimerExpiry => Sys2Proof.Machine.execKeyIdleTimerExpiry s
  | .tripResetHold => Sys2Proof.Machine.execTripResetHold s
  | .serviceStepHold => Sys2Proof.Machine.execServiceStepHold s
  | .serviceResetHold => Sys2Proof.Machine.execServiceResetHold s
  | .operationComplete => Sys2Proof.Machine.execOperationComplete s
  | .freshnessTick => Sys2Proof.Machine.execFreshnessTick s
  | .turnSignalCountTimeout => Sys2Proof.Machine.execTurnSignalCountTimeout s
  | .initQuietReached => Sys2Proof.Machine.execInitQuietReached s
  | .accessWaitReached => Sys2Proof.Machine.execAccessWaitReached s
  | .clash breakFirst => Sys2Proof.Machine.execClash breakFirst s
  | .messageSent => Sys2Proof.Machine.execMessageSent s
  | .breakRecognised => Sys2Proof.Machine.execBreakRecognised s
  | .breakEnd stillDriven => Sys2Proof.Machine.execBreakEnd stillDriven s
  | .lineStuck => Sys2Proof.Machine.execLineStuck s
  | .lineReleased => Sys2Proof.Machine.execLineReleased s
  | .endGap bytes framingError => Sys2Proof.Machine.execEndGap bytes framingError s
  | .silenceTimerExpiry => Sys2Proof.Machine.execSilenceTimerExpiry s
  | .rate40hExpiry => Sys2Proof.Machine.execRate40hExpiry s
  | .rate41hExpiry => Sys2Proof.Machine.execRate41hExpiry s
  | .gaugeUpdate => Sys2Proof.Machine.execGaugeUpdate s
  | .parkCountExpiry gauge => Sys2Proof.Machine.execParkCountExpiry gauge s
  | .sweepTick => Sys2Proof.Machine.execSweepTick s
  | .sweepEnd => Sys2Proof.Machine.execSweepEnd s
  | .evaluation => Sys2Proof.Machine.execEvaluation s
  | .arbiterTick => Sys2Proof.Machine.execArbiterTick s
  | .shownTimerExpiry => Sys2Proof.Machine.execShownTimerExpiry s
  | .reminderTimerExpiry warning => Sys2Proof.Machine.execReminderTimerExpiry warning s
  | .reviewTimerExpiry => Sys2Proof.Machine.execReviewTimerExpiry s
  | .rate43hExpiry => Sys2Proof.Machine.execRate43hExpiry s
  | .patternComplete warning => Sys2Proof.Machine.execPatternComplete warning s
  | .serviceEdgeRequest which => Sys2Proof.Machine.execServiceEdgeRequest which s
  | .cadenceExpiry => Sys2Proof.Machine.execCadenceExpiry s
  | .clickTimerExpiry => Sys2Proof.Machine.execClickTimerExpiry s
  | .tickTimerExpiry => Sys2Proof.Machine.execTickTimerExpiry s
  | .flashCounterExpiry => Sys2Proof.Machine.execFlashCounterExpiry s
  | .bulbCheckExpiry => Sys2Proof.Machine.execBulbCheckExpiry s
  | .displayTimerExpiry => Sys2Proof.Machine.execDisplayTimerExpiry s
  | .displayTransferEnd => Sys2Proof.Machine.execDisplayTransferEnd s
  | .blockReadEnd => Sys2Proof.Machine.execBlockReadEnd s
  | .blockWriteReady => Sys2Proof.Machine.execBlockWriteReady s
  | .blockWriteTimeout => Sys2Proof.Machine.execBlockWriteTimeout s
  | .pwrGoodFall => Sys2Proof.Machine.execPwrGoodFall s
  | .pwrGoodRise => Sys2Proof.Machine.execPwrGoodRise s
  | .keyPositionChange acc run => Sys2Proof.Machine.execKeyPositionChange acc run s
  | .wakeInputChange high => Sys2Proof.Machine.execWakeInputChange high s
  | .watchTimerExpiry => Sys2Proof.Machine.execWatchTimerExpiry s
  | .holdupTimerExpiry => Sys2Proof.Machine.execHoldupTimerExpiry s
  | .readBytes block offset => Sys2Proof.Machine.execReadBytes block offset s
  | .writeBytes block offset data => Sys2Proof.Machine.execWriteBytes block offset data s
  | .fetch block => Sys2Proof.Machine.execFetch block s
  | .fetchAndPin block => Sys2Proof.Machine.execFetchAndPin block s
  | .unpin block => Sys2Proof.Machine.execUnpin block s
  | .writeback block => Sys2Proof.Machine.execWriteback block s
  | .writebackInvalidate block => Sys2Proof.Machine.execWritebackInvalidate block s
  | .invalidate block => Sys2Proof.Machine.execInvalidate block s
  | .verify block => Sys2Proof.Machine.execVerify block s
  | .indexWritebackInvalidate set way => Sys2Proof.Machine.execIndexWritebackInvalidate set way s
  | .setOdometer value => Sys2Proof.Machine.execSetOdometer value s
  | .close => Sys2Proof.Machine.execClose s
  | .serviceReset item => Sys2Proof.Machine.execServiceReset item s
  | .acknowledgeWarning warning => Sys2Proof.Machine.execAcknowledgeWarning warning s
  | .readStatus selector index => Sys2Proof.Machine.execReadStatus selector index s
  | .gaugeTest => Sys2Proof.Machine.execGaugeTest s
  | .lineDriven => Sys2Proof.Machine.execLineDriven s
  | .lineReleasedAfterBreak => Sys2Proof.Machine.execLineReleasedAfterBreak s

end Sys2Proof.Machine
end

