-- ==== Sys2Proof/Machine/Tick.lean ====
section
/-! DEFINITION. What the part does while no command waits (DESIGN CHOICE, log entry 1): an operation of the arithmetic
unit in flight completes; otherwise one base tick of 10 ms passes. A tick counts every running timer down, and the
expiries it brings are put in the queue as the commands that they are, in one fixed order. -/

namespace Sys2Proof.Machine

/-- A counter of base ticks one tick later. -/
def tickDown (n : Nat) : Nat := n - 1

/-- A timer one tick later; a stopped one stays stopped. -/
def timerDown (t : Option Nat) : Option Nat := t.map tickDown

/-- A running timer expires at this tick. -/
def timerEnds (t : Option Nat) : Bool :=
  match t with
  | some n => decide (n ≤ 1)
  | none => false

/-- A command if a condition holds. -/
def dueIf (b : Bool) (c : Instr) : List Instr := if b then [c] else []

/-! ### Counting unit -/

/-- The counting unit's timers a tick later. -/
def Counting.tick (c : Counting) : Counting :=
  { c with
    secondTimer := tickDown c.secondTimer, windowTimer := timerDown c.windowTimer, keyIdle := timerDown c.keyIdle }

/-- The counting unit's expiries. -/
def Counting.due (c : Counting) : List Instr :=
  dueIf (decide (c.secondTimer ≤ 1)) .oneSecondTimer ++ dueIf (timerEnds c.windowTimer) .halfSecondWindowClosure ++
    dueIf (timerEnds c.keyIdle) .keyIdleTimerExpiry

/-! ### Ignition inputs and timers (R180) -/

/-- Consecutive samples of a pin that differ from the filtered level, this tick's included. -/
def samplesNow (pin level : Bool) (n : Nat) : Nat := if pin = level then 0 else n + 1

/-- An input takes a new level at its fifth sample. -/
def settles (pin level : Bool) (n : Nat) : Bool := decide (5 ≤ samplesNow pin level n)

/-- The 100 ms ticks of the watch and holdup timers fall on this base tick. -/
def Ignition.hundredMs (i : Ignition) : Bool := decide (i.prescaler ≤ 1)

/-- The ignition controller a tick later: the inputs are sampled in every state (R180). -/
def Ignition.tick (i : Ignition) : Ignition :=
  { i with
    accSamples := samplesNow i.pinAcc i.acc i.accSamples
    runSamples := samplesNow i.pinRun i.run i.runSamples
    wakeSamples := samplesNow i.pinWake i.wake i.wakeSamples
    prescaler := if i.hundredMs then 10 else i.prescaler - 1
    watchTimer := if i.hundredMs then timerDown i.watchTimer else i.watchTimer
    holdupTimer := if i.hundredMs then timerDown i.holdupTimer else i.holdupTimer }

/-- The ignition controller's expiries. -/
def Ignition.due (i : Ignition) : List Instr :=
  let acc := settles i.pinAcc i.acc i.accSamples
  let run := settles i.pinRun i.run i.runSamples
  dueIf (acc || run) (.keyPositionChange (if acc then i.pinAcc else i.acc) (if run then i.pinRun else i.run)) ++
    dueIf (settles i.pinWake i.wake i.wakeSamples) (.wakeInputChange i.pinWake) ++
    dueIf (i.hundredMs && timerEnds i.watchTimer) .watchTimerExpiry ++
    dueIf (i.hundredMs && timerEnds i.holdupTimer) .holdupTimerExpiry

/-! ### Keys and display port -/

/-- The mark of a hold in base ticks and its command. -/
def Hold.mark : Hold → Option (Nat × Instr)
  | .idle => none
  | .clockSet => some (200, .clockSetHold)
  | .tripReset _ => some (200, .tripResetHold)
  | .serviceReset => some (500, .serviceResetHold)
  | .serviceStep _ => some (100, .serviceStepHold)

/-- A key a tick later: its pin is sampled, and its hold goes on (R39). -/
def KeyInput.tick (x : KeyInput) : KeyInput :=
  { x with samples := samplesNow x.pinLow x.takenLow x.samples, holdTicks := if x.hold = .idle then 0 else x.holdTicks + 1 }

/-- A key's mark. -/
def KeyInput.markDue (x : KeyInput) : List Instr :=
  match x.hold.mark with
  | some (n, c) => dueIf (decide (n ≤ x.holdTicks + 1)) c
  | none => []

/-- The press or release of key `k` that its third consecutive sample makes (R39). -/
def KeyInput.sampleDue (k : Key) (x : KeyInput) : List Instr :=
  dueIf (decide (3 ≤ samplesNow x.pinLow x.takenLow x.samples)) (if x.pinLow then .keyPress k else .keyRelease k)

/-- The keys' marks, then their presses and releases. -/
def Keys.due (ks : Keys) : List Instr :=
  ks.mode.markDue ++ ks.reset.markDue ++ ks.set.markDue ++ ks.ack.markDue ++
    [Key.mode, .reset, .set, .ack].flatMap fun k => (ks.get k).sampleDue k

/-- The display port's expiries: its timer, and the end of a transfer in progress (log entry 1). -/
def Display.due (d : Display) : List Instr :=
  dueIf d.transfer.isSome .displayTransferEnd ++ dueIf (timerEnds d.timer) .displayTimerExpiry

/-! ### Line station (R48, R50 to R55) -/

/-- Slots of 250 µs in a base tick. -/
def tickSlots : Nat := 40

/-- Bit times of 125 µs in a base tick. -/
def tickBits : Nat := 80

/-- The line station a tick later. -/
def LineStation.tick (l : LineStation) : LineStation :=
  { l with
    quiet := if (l.state = .init ∨ l.state = .quiet) ∧ !l.driven then l.quiet + tickSlots else l.quiet
    drivenTime := if l.driven then l.drivenTime + tickBits else 0
    sendBits := l.sendBits - tickBits
    silence := timerDown l.silence, rate40 := timerDown l.rate40, rate41 := timerDown l.rate41 }

/-- The head message may start: the quiet count has reached its access wait (R52). -/
def LineStation.mayStart (l : LineStation) : Bool :=
  match l.head with
  | some (_, m) => decide (m.accessWait ≤ l.quiet)
  | none => false

/-- The line station's expiries, from the station a tick later `l`. -/
def LineStation.lineDue (l : LineStation) : List Instr :=
  let stuck := l.driven && decide (160 < l.drivenTime)
  match l.state with
  | .init => dueIf stuck .lineStuck ++ dueIf (!l.driven && decide (21 ≤ l.quiet)) .initQuietReached
  | .quiet => dueIf (!l.driven && l.mayStart) .accessWaitReached
  | .receiving => dueIf (l.awaitsRelease && stuck) .lineStuck
  | .breaking => dueIf stuck .lineStuck ++ dueIf (!stuck && l.sendBits == 0) (.breakEnd l.driven)
  | .sending | .off | .stuck => []

/-- The end of the message being sent. -/
def LineStation.sentDue (l : LineStation) : List Instr := dueIf (l.state == .sending && l.sendBits == 0) .messageSent

/-- The station's timers that expire at this tick. -/
def LineStation.timersDue (l : LineStation) : List Instr :=
  dueIf (timerEnds l.silence) .silenceTimerExpiry ++ dueIf (timerEnds l.rate40) .rate40hExpiry ++
    dueIf (timerEnds l.rate41) .rate41hExpiry

/-! ### Topic table, gauges, rules, arbiter -/

/-- The topic table's expiry. -/
def Topics.due (t : Topics) : List Instr := dueIf (timerEnds t.tick) .freshnessTick

/-- The gauge unit's expiries: a sweep moves at every base tick. The update comes before the sweep's end, so the first
update after the end is a tick later at the soonest (R98). -/
def Gauges.due (u : Gauges) : List Instr := dueIf (timerEnds u.timer) .gaugeUpdate ++ dueIf u.sweep.isSome .sweepTick

/-- The rules' expiry. -/
def Rules.due (r : Rules) : List Instr := dueIf (timerEnds r.timer) .evaluation

/-- The arbiter's expiries. -/
def Arbiter.due (a : Arbiter) : List Instr := dueIf (timerEnds a.tick) .arbiterTick ++ dueIf (timerEnds a.rate43) .rate43hExpiry

/-! ### Sound and lamp unit -/

/-- The channel times a phase. -/
def Channel.times : Channel → Bool
  | .on | .off | .carry => true
  | .idle | .done => false

/-- Crystal cycles of 250 ns in a base tick. -/
def tickCycles : Nat := 40000

/-- The sound and lamp unit a tick later, its tone counter apart. -/
def Sound.tickOn (u : Sound) : Sound :=
  { u with
    cadence := if u.channel.times then tickDown u.cadence else u.cadence
    clickTimer := tickDown u.clickTimer, tickTimer := tickDown u.tickTimer
    flash := timerDown u.flash, bulbCheck := timerDown u.bulbCheck }

/-- The sound and lamp unit's expiries. -/
def Sound.due (u : Sound) : List Instr :=
  dueIf (u.channel.times && decide (u.cadence ≤ 1)) .cadenceExpiry ++
    dueIf (u.output == .click && decide (u.clickTimer ≤ 1)) .clickTimerExpiry ++
    dueIf (u.output == .tick && decide (u.tickTimer ≤ 1)) .tickTimerExpiry ++
    dueIf (timerEnds u.flash) .flashCounterExpiry ++ dueIf (timerEnds u.bulbCheck) .bulbCheckExpiry

/-! ### Record store -/

/-- The copy engine's operation a tick later. -/
def EngineOp.tick : EngineOp → EngineOp
  | .write i snap serves t => .write i snap serves (t - 1)
  | op => op

/-- The copy engine's expiries: a read ends, or a write's 40 ms have passed without ready. -/
def Store.due (st : Store) : List Instr :=
  match st.op with
  | some (.readFill _) => [.blockReadEnd]
  | some (.readVerify _) => [.blockReadEnd]
  | some (.write _ _ _ t) => dueIf (decide (t ≤ 1)) .blockWriteTimeout
  | none => []

/-! ### The tick -/

/-- Every running timer a base tick later. -/
def State.tickAll (s : State) : State :=
  let s1 := (s.setIgnition s.ignition.tick).setCounting s.counting.tick
  let s2 := (s1.setKeys (s1.keys.map KeyInput.tick)).setDisplay { s1.display with timer := timerDown s1.display.timer }
  let s3 := (s2.setLine s2.line.tick).setTopics { s2.topics with tick := timerDown s2.topics.tick }
  let s4 := (s3.setGauges { s3.gauges with timer := timerDown s3.gauges.timer }).setRules
    { s3.rules with timer := timerDown s3.rules.timer }
  let s5 := s4.setArbiter
    { s4.arbiter with tick := timerDown s4.arbiter.tick, rate43 := timerDown s4.arbiter.rate43 }
  let s6 := s5.setSound { s5.sound.tickOn with toneCycle := s.toneLater tickCycles }
  s6.setStore { s6.store with op := s6.store.op.map EngineOp.tick }

/-- The commands that a base tick brings, in the order in which they are taken. A unit's expiries come before those of the
units that can start its timers, and what can change the ignition state comes last, so that no expiry falls on a timer
started within the same tick. -/
def State.due (s : State) : List Instr :=
  s.sound.due ++ s.arbiter.due ++ s.counting.due ++ s.keys.due ++ s.line.timersDue ++ s.topics.due ++ s.gauges.due ++
    s.rules.due ++ s.display.due ++ s.line.tick.lineDue ++ s.store.due ++ s.line.tick.sentDue ++ s.ignition.due

/-- The part while no command waits. -/
def State.idle (s : State) : State :=
  if s.arith.inFlight.isSome then s.setPending [.operationComplete] else s.tickAll.setPending s.due

end Sys2Proof.Machine
end

