-- ==== Sys2Proof/Safety.lean ====
section
/-! DEFINITION. The terms in which claims are stated: which blocks of the state two states agree on, the conditions that
claims name, and the invariants of the part. -/

namespace Sys2Proof

/-- Commands that act on the hold of a key. -/
def Instr.handlesKeys : Instr → Bool
  | .keyPress _ | .keyRelease _ | .clockSetHold | .tripResetHold | .serviceStepHold | .serviceResetHold => true
  | _ => false

/-- The topic and data of a workshop request (Table 12-4). -/
def Instr.request : Instr → Option (Nat × List Byte)
  | .readBytes b o => some (0x60, [b, o])
  | .writeBytes b o d => some (0x61, b :: o :: d)
  | .fetch b => some (0x62, [0, b])
  | .fetchAndPin b => some (0x62, [1, b])
  | .unpin b => some (0x62, [2, b])
  | .writeback b => some (0x62, [3, b])
  | .writebackInvalidate b => some (0x62, [4, b])
  | .invalidate b => some (0x62, [5, b])
  | .verify b => some (0x62, [6, b])
  | .indexWritebackInvalidate x y => some (0x62, [7, x, y])
  | .setOdometer v => some (0x63, Machine.bytes3 v.toNat)
  | .close => some (0x64, [])
  | .serviceReset i => some (0x65, [i])
  | .acknowledgeWarning w => some (0x66, [w])
  | .readStatus x y => some (0x67, [x, y])
  | .gaugeTest => some (0x68, [])
  | _ => none

/-- The fields of a workshop request lie in their ranges (Tables 11-5 and 11-6). -/
def Instr.Permitted : Instr → Prop
  | .readBytes b o => b.toNat < 64 ∧ o.toNat ≤ 11
  | .writeBytes b o d => b.toNat < 64 ∧ 1 ≤ d.length ∧ d.length ≤ 4 ∧ o.toNat + d.length ≤ 15
  | .fetch b | .fetchAndPin b | .unpin b | .writeback b | .writebackInvalidate b | .invalidate b | .verify b => b.toNat < 64
  | .indexWritebackInvalidate x y => x.toNat < 4 ∧ y.toNat < 2
  | .setOdometer v => v.toNat ≤ 9999999
  | .serviceReset i => i.toNat < 8
  | .acknowledgeWarning w => w.toNat < 32
  | .readStatus x y => x.toNat ≤ 11 ∧ (x.toNat = 2 ∨ x.toNat = 3 → y.toNat < 16) ∧ (x.toNat = 8 → y.toNat < 8) ∧
      (x.toNat = 11 → y.toNat < 4)
  | _ => True

/-- Commands of the display port itself (R45). -/
def Instr.drivesDisplay : Instr → Bool
  | .displayTimerExpiry | .displayTransferEnd => true
  | _ => false

end Sys2Proof

namespace Sys2Proof.Machine

/-! ### Frames -/

/-- The blocks of the state. -/
inductive Block
  | ignition
  | counting
  | arith
  | trip
  | keys
  | display
  | line
  | topics
  | gauges
  | rules
  | arbiter
  | sound
  | service
  | store
  | handler
  | cal
  | freeIndex
  | pending
deriving DecidableEq, Repr

/-- Two states agree on a block. -/
def Agrees (s t : State) : Block → Prop
  | .ignition => t.ignition = s.ignition
  | .counting => t.counting = s.counting
  | .arith => t.arith = s.arith
  | .trip => t.trip = s.trip
  | .keys => t.keys = s.keys
  | .display => t.display = s.display
  | .line => t.line = s.line
  | .topics => t.topics = s.topics
  | .gauges => t.gauges = s.gauges
  | .rules => t.rules = s.rules
  | .arbiter => t.arbiter = s.arbiter
  | .sound => t.sound = s.sound
  | .service => t.service = s.service
  | .store => t.store = s.store
  | .handler => t.handler = s.handler
  | .cal => t.cal = s.cal
  | .freeIndex => t.freeIndex = s.freeIndex
  | .pending => t.pending = s.pending

/-- The frame of a change: every block but those named is unchanged. -/
def KeptBut (bs : List Block) (s t : State) : Prop := ∀ b, b ∉ bs → Agrees s t b

/-! ### Ignition states across a command -/

/-- The ignition state was not changed by the command that took the part from `s` to `t`: it is what it was, and the command
was neither a power-on reset nor a watch timer's expiry, which with WAKE high leads from WATCH through SLEEP to WATCH. -/
def State.KeepsIgnition (s : State) (c : Instr) (t : State) : Prop :=
  t.ign = s.ign ∧ c ≠ .powerOnReset ∧ (c = .watchTimerExpiry → s.ignition.wake = false)

/-- The part was awake all through a command: its state stayed, or the key took it to HOLDUP, ACCESSORY or RUN (Table 11-1);
what is left out is a command that led through SLEEP. -/
def State.StaysAwake (s : State) (c : Instr) (t : State) : Prop :=
  s.ign.awake = true ∧ t.ign.awake = true ∧
    (s.KeepsIgnition c t ∨ t.ign = .holdup ∨ ∃ acc run, c = .keyPositionChange acc run ∧ (acc = true ∨ run = true))

/-! ### The counting unit -/

/-- An edge is accepted (R1): in RUN or HOLDUP, and no earlier than 100 µs after the last accepted one, if there was one. -/
def State.AcceptsPulse (s : State) (elapsed : Nat) : Prop :=
  s.ign.counts = true ∧ ∀ x, s.counting.sinceAccepted = some x → 100 ≤ x + elapsed

/-- The clock reads 23:59:59 (R9). -/
def Counting.BeforeMidnight (c : Counting) : Prop := c.hours = 23 ∧ c.minutes = 59 ∧ c.seconds = 59

/-! ### The record store -/

/-- The store has gone on as far as it can: its request in progress, its waiting requests and its port all stand. -/
def Store.Settled (st : Store) : Prop := st.taskOne = none ∧ st.admitOne = none ∧ st.engineOne = none

/-- The store has nothing under way: no order, no operation, no waiting request, no workshop request in progress. -/
def Store.AtRest (st : Store) : Prop := st.orders = [] ∧ st.op = none ∧ st.waiting = [] ∧ st.task = .none

/-- No line is WRITING, as while no block write is in progress (R165). -/
def Store.NoneWriting (st : Store) : Prop := ∀ l ∈ st.lines, l.state ≠ .writing

/-- Block `b` is present with its 15 data bytes. -/
def Store.Holds (st : Store) (b : Nat) : Prop := st.present b = true ∧ (st.dataOf b).length = 15

/-- Every line with a tag holds a block of its own set: lines 2k and 2k + 1 hold blocks that are k mod 4 (R164). -/
def Store.InSets (st : Store) : Prop := ∀ j < 8, ∀ b, (st.line j).tag = some b → j / 2 = b % 4

/-- The system lines of blocks 0, 1 and 2 are present (R164). -/
def Store.SystemPresent (st : Store) : Prop := st.Holds 0 ∧ st.Holds 1 ∧ st.Holds 2

/-- Block `b` is held by one line alone, present and pinned, and nothing is under way that could take it away: no fetch of
it waits, and the workshop's request in progress removes another block. -/
def Store.KeepsPinned (st : Store) (b : Nat) : Prop :=
  (∃ j < 8, (st.line j).tag = some b ∧ (st.line j).pinned = true ∧ (st.line j).state ∈ [.clean, .dirty, .writing] ∧
    ∀ k < 8, k ≠ j → (st.line k).tag ≠ some b) ∧
  (∀ x, .fetch b x ∉ st.waiting) ∧ st.task ≠ .invalidate b ∧ ∀ x, st.task ≠ .writebackInvalidate b x

/-- The system lines of blocks 0, 1 and 2 are pinned and present (R164). -/
def Store.SystemPinned (st : Store) : Prop := ∀ b ≤ 2, st.KeepsPinned b

/-- The order list holds at most 4 orders (R172). -/
def OrdersBounded (st : Store) : Prop := st.orders.length ≤ 4

/-- A SWEEP or HOLDUP order is in the list, or waits for room in it. -/
def Store.Walks (st : Store) : Prop := ∃ h p, .walk h p ∈ st.orders ∨ .order (.walk h p) ∈ st.waiting

/-- A walk over the cache lines `lines` has gone on from position `p` (R173 to R176), nothing else being ordered: the first
DIRTY line at or after it is being written from its snapshot, or the walk waits for PWR-GOOD; with no such line, and in NV
FAULT, it has ended. -/
def Store.WalkGoes (holdup : Bool) (p : Nat) (lines : List CacheLine) (st : Store) : Prop :=
  let line (j : Nat) := lines.getD j .invalid
  let dirty (j : Nat) : Prop := p ≤ j ∧ j < 8 ∧ (line j).state = .dirty
  ((st.nvFault = true ∨ ∀ j < 8, ¬dirty j) → st.orders = [] ∧ st.op = none ∧ st.lines = lines) ∧
    ∀ j < 8, st.nvFault = false → dirty j → (∀ k < j, ¬dirty k) →
      (st.pwrGood = true → st.orders = [.walk holdup j] ∧ st.op = some (.write j (line j).data .walk 4) ∧
        st.lines = lines.modify j fun l => { l with state := .writing, redirty := false }) ∧
      (st.pwrGood = false → st.orders = [.walk holdup p] ∧ st.op = none ∧ st.lines = lines)

/-- A SWEEP has been placed (R172): it is merged with a walk already there, else it is the newest order, or waits for room;
a store at rest begins its walk. -/
def Store.SweepPlaced (st st' : Store) : Prop :=
  (st.AtRest → st'.WalkGoes false 0 st.lines ∧ st' = { st with orders := st'.orders, op := st'.op, lines := st'.lines }) ∧
    (st.Settled → (st.Walks → st' = st) ∧ (¬st.Walks → st.op.isSome = true →
      (st.orders.length < 4 → st' = { st with orders := st.orders ++ [.walk false 0] }) ∧
      (4 ≤ st.orders.length → st' = { st with waiting := st.waiting ++ [.order (.walk false 0)] })))

/-- A HOLDUP has been placed (R172): it turns a SWEEP into a HOLDUP at position 0 and of the newest age, so that a write in
progress for that walk no longer advances it; a waiting walk is turned in its place; a HOLDUP already there stands; else it
is the newest order, or waits for room; a store at rest begins its walk. -/
def Store.HoldupPlaced (st st' : Store) : Prop :=
  (st.AtRest → st'.WalkGoes true 0 st.lines ∧ st' = { st with orders := st'.orders, op := st'.op, lines := st'.lines }) ∧
    (st.Settled → st.op.isSome = true →
      (∀ k p, st.orders[k]? = some (.walk false p) → (∀ j q, j < k → st.orders[j]? ≠ some (.walk false q)) → st' = { st with
        orders := st.orders.eraseIdx k ++ [.walk true 0]
        op := st.op.map fun o => match o with
          | .write i snapshot .walk n => .write i snapshot .restarted n
          | o => o }) ∧
      ((∀ p, .walk false p ∉ st.orders) → (∃ p, .walk true p ∈ st.orders) → st' = st) ∧
      ((∀ h p, .walk h p ∉ st.orders) → (∃ h p, .order (.walk h p) ∈ st.waiting) → st' = { st with
        waiting := st.waiting.map fun w => match w with
          | .order (.walk _ _) => .order (.walk true 0)
          | w => w }) ∧
      (¬st.Walks → (st.orders.length < 4 → st' = { st with orders := st.orders ++ [.walk true 0] }) ∧
        (4 ≤ st.orders.length → st' = { st with waiting := st.waiting ++ [.order (.walk true 0)] })))

/-- The HOLDUP order, in the list or waiting for room, has become a SWEEP of the same position and age (R172, R181). -/
def Store.HoldupTurned (st st' : Store) : Prop :=
  st.Settled → st' = { st with
    orders := st.orders.map fun o => match o with
      | .walk _ p => .walk false p
      | o => o
    waiting := st.waiting.map fun w => match w with
      | .order (.walk _ p) => .order (.walk false p)
      | w => w }

/-! ### Transmit queue and replies -/

/-- A queued message's items in their ranges (Table 3-5). -/
def Msg.InRange (m : Msg) : Prop :=
  m.cls ≤ 3 ∧ m.topic ∈ [0x40, 0x41, 0x42, 0x43, 0x44, 0x70] ∧ m.seq ≤ 15 ∧ m.data.length ≤ 8 ∧ m.attempts ≤ 15 ∧
    m.stagger ≤ 5

/-- The transmit queue's bounds (R56): at most 12 messages, no two not-yet-started messages of one topic. -/
def QueueBounded (q : List Msg) : Prop :=
  q.length ≤ 12 ∧ q.Pairwise fun a b => ¬(a.started = false ∧ b.started = false ∧ a.topic = b.topic)

/-- A message as it is entered (R57): the newest, not started, attempts 0, stagger 0. -/
def Msg.entered (cls : Nat) (kind : MsgKind) (topic seq : Nat) (data : List Byte) (answer : Answer) : Msg :=
  { cls := cls, kind := kind, topic := topic, seq := seq, data := data, started := false, sending := false,
    attempts := 0, stagger := 0, answer := answer }

/-- The queue has room, and no not-yet-started message of the topic (R57). -/
def LineStation.Open (l : LineStation) (topic : Nat) : Prop :=
  l.queue.length < 12 ∧ l.queue.any (Msg.unstarted topic) = false

/-- The station with a message of the topic entered as the newest, under the topic's next sequence (R57). -/
def LineStation.enter (l : LineStation) (topic cls : Nat) (kind : MsgKind) (data : List Byte) (answer : Answer) :
    LineStation :=
  { l with
    seqs := l.seqs.advance topic
    queue := l.queue ++ [Msg.entered cls kind topic ((l.seqs.advance topic).get topic) data answer] }

/-- The workshop handler can take a request: awake, IDLE, and room for its reply (R188). -/
def State.TakesRequest (s : State) : Prop := s.ign.awake = true ∧ s.handler.state = .idle ∧ s.line.Open 0x70

/-- The request of a topic has been answered (Table 11-3): the reply is the newest message of the queue and the handler is
REPLYING. -/
def Replies (topic : Nat) (x : Status) (result : List Byte) (s t : State) : Prop :=
  t.handler = { s.handler with state := .replying, topic := topic } ∧
    t.line = s.line.enter 0x70 3 .reply ([byteOf topic, byteOf x.code] ++ result) .own

/-- The request of a topic is in progress (Table 11-3): the handler is WORKING and nothing has been queued. -/
def Works (topic : Nat) (s t : State) : Prop :=
  t.handler = { s.handler with state := .working, topic := topic } ∧ t.line = s.line

/-- The result bytes of READ STATUS for selector `x` and index `y` are those of Table 12-5 (R191, R192): `holds n w k c`
says that item `k` of width `w` in the `n`-byte value the result begins with is code `c`. -/
def State.StatusBytes (s : State) (x y : Nat) (bytes : List Byte) : Prop :=
  let flag (b : Bool) (k : Nat) : Nat := if b then 2 ^ k else 0
  let orNone (o : Option Nat) : Byte := o.elim 0xFF byteOf
  let holds (n w k c : Nat) : Prop := ∀ j < w, bitAt bytes (n - 1 - (w * k + j) / 8) ((w * k + j) % 8) = c.testBit j
  let states (first : Nat) : Prop := bytes.length = 6 ∧ ∀ k < 16, ∀ p ∈ [(WarningState.off, 0), (.pending, 1), (.shown, 2),
    (.held, 3), (.silenced, 4)], (s.warning (first + k)).state = p.1 → holds 6 3 k p.2
  match x with
  | 0 => bytes = [byteOf s.line.receptionErrors] ++ bytes2 s.line.clashes ++
      [byteOf s.line.dropped, byteOf s.line.conflicts, byteOf s.line.unclaimed]
  | 1 => ∀ p ∈ [(StationState.off, 0), (.init, 1), (.quiet, 2), (.receiving, 3), (.sending, 4), (.breaking, 5), (.stuck, 6)],
      s.line.state = p.1 → bytes = [byteOf p.2, byteOf s.cal.station,
        byteOf (flag s.line.stuck 0 + flag s.line.silent 1 + flag s.line.conflict 2), byteOf s.line.queue.length,
        byteOf s.handler.unanswered]
  | 2 => let e := s.entry y
      ∀ p ∈ [(Freshness.empty, 0), (.fresh, 1), (.stale, 2), (.lost, 3)], e.state = p.1 → bytes =
        [byteOf e.topic, byteOf (flag e.used 0 + 2 * p.2), byteOf e.age, byteOf (e.lastSource.getD 0), orNone e.lastSeq]
  | 3 => bytes = bytes2 (s.entry y).arrivals ++ [byteOf (s.entry y).missed, byteOf (s.entry y).formatErrors]
  | 4 => states 0
  | 5 => states 16
  | 6 => bytes.length = 4 ∧ bytes.drop 2 = [orNone s.arbiter.presented, orNone s.shown] ∧
      ∀ n < 8, ∀ p ∈ [(SubState.none, 0), (.opened, 1), (.ackedLocal, 2)], s.arbiter.subs.getD n .none = p.1 → holds 2 2 n p.2
  | 7 => bytes.length = 4 ∧ byteAt bytes 3 = (orNone s.service.selected).toNat ∧
      ∀ n < 8, bitAt bytes 2 n = ((s.item n).waitsChauffeur || (s.item n).waitsWorkshop) ∧
        ∀ p ∈ [(ItemState.ok, 0), (.soon, 1), (.due, 2), (.overdue, 3)], (s.item n).state = p.1 → holds 2 2 n p.2
  | 8 => ∀ p ∈ [(ItemState.ok, 0), (.soon, 1), (.due, 2), (.overdue, 3)], (s.item y).state = p.1 →
      bytes = [byteOf (s.item y).pendingKm, byteOf (s.item y).pendingDays, byteOf p.2]
  | 9 => bytes.length = 6 ∧ bytes.drop 4 = [byteOf s.counting.implausible, byteOf s.ignition.clampCount] ∧
      let flags (code : Nat) : Nat :=
        code + flag s.store.latch 2 + flag s.ignition.calDefault 3 + flag s.store.nvFault 4
      (∀ v good, s.store.odometer = some (v, good) →
        bytes.take 4 = bytes3 v ++ [byteOf (flags (if good then 0 else 1))]) ∧
      (s.store.odometer = none → bytes.take 4 = [0xFF, 0xFF, 0xFF, byteOf (flags 2)])
  | 10 => bytes = [byteOf s.store.nvFailures, byteOf s.store.consecutiveFailures, byteOf s.store.orders.length,
      byteOf s.arith.discarded, if s.arith.inFlight.isSome then 1 else 0]
  | 11 => bytes.length = 4 ∧ ∀ w < 2, let l := s.store.line (2 * y + w)
      ∀ p ∈ [(LineState.invalid, 0), (.clean, 1), (.dirty, 2), (.filling, 3), (.writing, 4)], l.state = p.1 →
        (bytes.drop (2 * w)).take 2 =
          [orNone l.tag, byteOf (p.2 + flag l.pinned 3 + flag l.redirty 4 + flag l.recent 5)]
  | _ => False

/-! ### The arithmetic unit -/

/-- Every request of the arithmetic unit, the one in flight first. -/
def Arith.requests (a : Arith) : List Request := a.inFlight.toList ++ a.list

/-! ### Keys and service items -/

/-- A press of this key is accepted (R39): the key counts as released, is not waiting to be sampled high, and the ignition
state is ACCESSORY or RUN. -/
def State.KeyReady (s : State) (k : Key) : Prop :=
  s.ign.keysAccepted = true ∧ (s.keys.get k).pressed = false ∧ (s.keys.get k).blocked = false

/-- A key just pressed, with what its hold would do. -/
def KeyInput.down (x : KeyInput) (h : Hold) : KeyInput :=
  { x with pinLow := true, samples := 0, pressed := true, hold := h, holdTicks := 0 }

/-- A reset of item `i` has been carried out at its block's line (R158), with nothing else of the records changed. -/
def State.ServiceReset (s : State) (i : Nat) (t : State) : Prop :=
  t.store.remainingKm i = (s.itemFigures i).distanceInterval ∧
    t.store.remainingDays i = (s.itemFigures i).dayInterval ∧
    tripleAt (t.store.dataOf (itemBlock i)) (itemOffset i + 4) = s.store.odometerValue ∧
    (∀ b, b ≠ itemBlock i → t.store.dataOf b = s.store.dataOf b) ∧
    t.item i = { s.item i with state := .ok, pendingKm := 0, pendingDays := 0, waitsChauffeur := false,
                               waitsWorkshop := false } ∧
    ∀ j, j ≠ i → t.item j = s.item j

/-! ### Fills and the calibration image (Chapters 9 and 11) -/

/-- Item `j` after a fill of its block outside LOAD (R157, R158): a block with a bad check is taken at the intervals and the
present odometer, then the pending counts are taken off with the floor of −32,000 (R156), then a reset that waits is carried
out, and the state is formed (R153). -/
def State.ItemFilled (s : State) (j : Nat) (read : List Byte) (good : Bool) (t : State) : Prop :=
  let f := s.itemFigures j
  let x := s.item j
  let waits : Prop := x.waitsChauffeur = true ∨ x.waitsWorkshop = true
  let km : Int := if good then signedWordAt read (itemOffset j) else f.distanceInterval
  let days : Int := if good then signedWordAt read (itemOffset j + 2) else f.dayInterval
  let lowered (r : Int) (n : Nat) : Int := if r ≤ -32000 then r else max (-32000) (r - n)
  (¬waits → t.store.remainingKm j = lowered km x.pendingKm ∧ t.store.remainingDays j = lowered days x.pendingDays ∧
    tripleAt (t.store.dataOf (itemBlock j)) (itemOffset j + 4) =
      if good then tripleAt read (itemOffset j + 4) else s.store.odometerValue) ∧
  (waits → t.store.remainingKm j = f.distanceInterval ∧ t.store.remainingDays j = f.dayInterval ∧
    tripleAt (t.store.dataOf (itemBlock j)) (itemOffset j + 4) = s.store.odometerValue) ∧
  t.item j = { s.item j with
    state := if s.itemActive j then itemStateOf f (t.store.remainingKm j) (t.store.remainingDays j) else x.state
    pendingKm := 0, pendingDays := 0, waitsChauffeur := false, waitsWorkshop := false }

/-- The curve whose nine points begin at offset `o` of an image keeps its ordering (R185, Table 12-7): x values strictly
increasing, y values non-decreasing, and none of either 65,535. -/
def CurveInOrder (image : List Byte) (o : Nat) : Prop :=
  (∀ k < 8, wordAt image (o + 2 * k) < wordAt image (o + 2 * k + 2) ∧
    wordAt image (o + 18 + 2 * k) ≤ wordAt image (o + 18 + 2 * k + 2)) ∧
    ∀ k < 18, wordAt image (o + 2 * k) ≠ 65535

/-- A curve is the one whose nine points begin at offset `o` of an image (Table 12-7): the x values, then the y values. -/
def Curve.IsAt (c : Curve) (image : List Byte) (o : Nat) : Prop :=
  c.xs.length = 9 ∧ c.ys.length = 9 ∧ ∀ k < 9,
    c.xs[k]? = some (wordAt image (o + 2 * k)) ∧ c.ys[k]? = some (wordAt image (o + 18 + 2 * k))

/-- A rule on a built-in quantity with its four calibrated figures at 0; the condition set has its members in the order
LESS, EQUAL, GREATER, UNORDERED. -/
def builtInItems (q : Quantity) (cond : ConditionSet) (gate : Gate) (edge : Bool) (w : Nat) : RuleRecord :=
  { source := .builtIn q, cond := cond, gate := gate, edge := edge, warning := w
    threshold := 0, hysteresis := 0, qualify := 0, release := 0 }

/-- The built-in items of slots 0 to 16 (Table 6-7). -/
def builtInSlots : List RuleRecord :=
  let less : ConditionSet := ⟨true, false, false, false⟩
  let greater : ConditionSet := ⟨false, false, true, false⟩
  [builtInItems .oil ⟨true, false, false, true⟩ .engineRunning false 0,
   builtInItems .coolant greater .run false 1,
   builtInItems .battery less .engineRunning false 2,
   builtInItems .parkBrake greater .moving false 3,
   builtInItems .doorBits greater .moving false 4,
   builtInItems .lidBits greater .moving false 5,
   builtInItems .range less .run true 6,
   builtInItems .fuel less .run true 6,
   builtInItems .keyWithDoorOpen greater .notRun false 7,
   builtInItems .lampsWithKeyOut greater .notRun false 8,
   builtInItems .speed greater .run false 9,
   builtInItems .e0WithoutValue greater .run false 10,
   builtInItems .e2WithoutValue greater .run false 11,
   builtInItems .lineFault greater .always false 12,
   builtInItems .instrumentFault greater .always true 13,
   builtInItems .outside ⟨true, true, false, false⟩ .run true 26,
   builtInItems .turnDistance greater .moving false 31]

/-- The warnings of each class whose class is built in (Table 6-10). -/
def builtInClasses : List (WarnClass × List Nat) :=
  [(.danger, [0, 1]), (.caution, [2, 3, 4, 5, 10, 11, 12, 29, 30]), (.advisory, [6, 7, 8, 9, 13, 28, 31]),
   (.information, [26, 27])]

/-- The built-in quantities by their codes 0 to 17 (Table 12-8). -/
def quantityCodes : List Quantity :=
  [.speed, .rpm, .coolant, .oil, .battery, .fuel, .range, .outside, .doorBits, .lidBits, .parkBrake, .keyWithDoorOpen,
   .lampsWithKeyOut, .turnDistance, .e0WithoutValue, .e2WithoutValue, .lineFault, .instrumentFault]

/-- Slot `k`, 0 to 31, as an image gives it (R104, Tables 6-2, 12-7 and 12-8): 0 to 16 are built in but for their four
figures; 17 to 31 are active where the defined flag is set and the record is well formed. -/
def SlotIsAt (slot : Option RuleRecord) (image : List Byte) (k : Nat) : Prop :=
  let five := 350 + 5 * k
  let o := 435 + 11 * (k - 17)
  let cond : ConditionSet := ⟨bitAt image o 1, bitAt image o 2, bitAt image o 3, bitAt image o 4⟩
  let gates : List Gate := [.always, .notRun, .run, .moving, .stopped, .engineRunning]
  let code := byteAt image (o + 2)
  let isField : Prop := 20 ≤ k ∧ 0x84 ≤ code ∧ code ≤ 0x8F ∧ byteAt image (o + 3) ≤ 7
  let warning := byteAt image (o + 10)
  let permitted : Prop := (k < 20 ∧ (warning ≤ 13 ∨ warning = 26 ∨ warning = 31)) ∨ (20 ≤ k ∧ 14 ≤ warning ∧ warning ≤ 25)
  let active : Prop := bitAt image o 0 = true ∧ cond ≠ ⟨false, false, false, false⟩ ∧ byteAt image (o + 1) ≤ 5 ∧
    (code ≤ 17 ∨ isField) ∧ permitted
  (∀ b, builtInSlots[k]? = some b → slot = some
    { b with
      threshold := signedWordAt image five, hysteresis := byteAt image (five + 2), qualify := byteAt image (five + 3)
      release := byteAt image (five + 4) }) ∧
    (17 ≤ k → ¬active → slot = none) ∧
    (17 ≤ k → active → ∃ r, slot = some r ∧ gates[byteAt image (o + 1)]? = some r.gate ∧ r.cond = cond ∧
      r.edge = bitAt image o 5 ∧ r.threshold = signedWordAt image (o + 5) ∧ r.hysteresis = byteAt image (o + 7) ∧
      r.qualify = byteAt image (o + 8) ∧ r.release = byteAt image (o + 9) ∧ r.warning = warning ∧
      (∀ q, quantityCodes[code]? = some q → r.source = .builtIn q) ∧
      (isField → r.source =
        .field (code - 0x80) (byteAt image (o + 3)) (bitAt image (o + 4) 0) (bitAt image (o + 4) 1)))

/-- The figures of service item `i` as an image gives them, with the limits of R151; those of a dimension that is not in use
have no effect. -/
def ItemFigures.IsAt (f : ItemFigures) (image : List Byte) (i : Nat) : Prop :=
  let o := 728 + 13 * i
  let figure (k : Nat) : Nat := min 32000 (wordAt image (o + k))
  let ahead (k interval : Nat) : Nat := if figure k < interval then figure k else interval - 1
  f.enabled = decide (byteAt image o ≠ 0) ∧ f.distanceInterval = figure 1 ∧ f.dayInterval = figure 3 ∧
    (f.distanceInterval ≠ 0 → f.aheadKm = ahead 5 (figure 1) ∧ f.marginKm = max 1 (figure 9)) ∧
    (f.dayInterval ≠ 0 → f.aheadDays = ahead 7 (figure 3) ∧ f.marginDays = max 1 (figure 11))

/-- The items of a kept image lie as Table 12-7 gives, with the limits that the blocks put on them (R72, R88, R104, R138,
R151); the station number, the divisor and the limits of E0 to E3 apart. -/
def Calibration.IsAt (c : Calibration) (image : List Byte) : Prop :=
  let item (k : Nat) : Nat := byteAt image k
  let station (n : Nat) : Option Nat := if n % 16 = 0 then none else some (n % 16)
  c.refuel = wordAt image 2 ∧ c.economy = wordAt image 4 ∧
  (c.windows.length = 7 ∧ ∀ k < 7, c.windows[k]? = some
    { first := item (10 + 4 * k), last := item (11 + 4 * k), source := station (item (12 + 4 * k))
      enabled := decide (item (13 + 4 * k) ≠ 0) }) ∧
  (c.entries.length = 12 ∧ ∀ k < 12, c.entries[k]? = some
    { defined := decide (item (38 + 4 * k) ≠ 0), topic := item (39 + 4 * k), length := item (40 + 4 * k)
      limit := max 1 (item (41 + 4 * k)) }) ∧
  (c.tank.IsAt image 86 ∧ c.gauges.length = 6 ∧ ∀ g < 6, ∃ f, c.gauges[g]? = some f ∧ f.curve.IsAt image (122 + 36 * g) ∧
    f.shift = min 5 (item (338 + 2 * g)) ∧ f.slew = max 1 (item (339 + 2 * g))) ∧
  (c.slots.length = 32 ∧ ∀ k < 32, ∃ slot, c.slots[k]? = some slot ∧ SlotIsAt slot image k) ∧
  (c.warnings.length = 32 ∧ ∀ w < 32, ∃ f, c.warnings[w]? = some f ∧ f.enabled = bitAt image (600 + 2 * w) 0 ∧
    f.pattern = item (600 + 2 * w) / 2 % 8 ∧
    f.lamp = (if item (601 + 2 * w) ≤ 15 then some (item (601 + 2 * w)) else none) ∧
    (∀ p ∈ builtInClasses, w ∈ p.2 → f.cls = p.1) ∧
    (14 ≤ w → w ≤ 25 →
      [WarnClass.danger, .caution, .advisory, .information][item (600 + 2 * w) / 16 % 4]? = some f.cls)) ∧
  (c.patterns.length = 8 ∧ ∀ p < 8, let o := 664 + 6 * p
    c.patterns[p]? = some
      { first := min 7 (item o), second := if item (o + 1) ≤ 7 then some (item (o + 1)) else none
        onTime := max 1 (item (o + 2)), offTime := item (o + 3), repeats := min 254 (item (o + 4))
        loud := decide (item (o + 5) = 0) }) ∧
  (c.lamps.length = 16 ∧ ∀ n < 16, c.lamps[n]? = some
    ([LampKind.warning, .turnLeft, .turnRight, .highBeam].getD (item (712 + n)) .unused)) ∧
  (c.items.length = 8 ∧ ∀ i < 8, ∃ f, c.items[i]? = some f ∧ f.IsAt image i)

/-- The built-in default image (R72, R104, R115, R138, R146, R151 with Tables 2-4, 3-8, 5-2, 5-3, 6-7, 8-3, 8-4 and 9-2);
the class of warnings 14 to 25, and what an unused entry holds, are left open. That the 60,000 km of item 3 are taken as
32,000 is the model's inference (log entry 51). -/
def Calibration.IsDefault (c : Calibration) : Prop :=
  (c.station = 2 ∧ c.divisor = 40 ∧ c.refuel = 50 ∧ c.economy = 150 ∧ c.fixedLimits = [5, 10, 10, 20]) ∧
  c.windows.map (fun w => (w.first, w.last, w.source, w.enabled)) =
    [(0x10, 0x11, some 3, true), (0x20, 0x20, some 4, true), (0x30, 0x30, some 5, true), (0, 0, none, false),
     (0, 0, none, false), (0, 0, none, false), (0, 0, none, false)] ∧
  c.entries.map (·.defined) = List.replicate 12 false ∧
  (c.tank.xs = [0, 20, 45, 75, 110, 150, 190, 225, 254] ∧ c.tank.ys = [0, 50, 130, 230, 350, 480, 610, 730, 820]) ∧
  c.gauges.map (·.curve.xs) =
    [[0, 100, 200, 400, 600, 1000, 1400, 2000, 2600], [0, 500, 1000, 2000, 3000, 4000, 5000, 6000, 7000],
     [0, 50, 100, 200, 300, 400, 500, 650, 820], [0, 80, 100, 110, 120, 130, 140, 150, 160],
     [0, 25, 50, 75, 100, 125, 150, 175, 200], [0, 80, 100, 110, 120, 130, 140, 150, 160]] ∧
  c.gauges.map (·.curve.ys) =
    [[0, 27, 54, 108, 162, 270, 378, 540, 702], [0, 50, 100, 200, 300, 400, 500, 600, 700],
     [0, 16, 32, 64, 96, 128, 160, 208, 256], [0, 20, 60, 100, 128, 128, 150, 200, 256],
     [0, 32, 64, 96, 128, 160, 192, 224, 256], [0, 0, 32, 64, 96, 128, 160, 192, 256]] ∧
  c.gauges.map (fun g => (g.shift, g.slew)) = [(2, 24), (1, 40), (5, 2), (4, 4), (3, 8), (4, 4)] ∧
  (c.slots.length = 32 ∧ (∀ k, 17 ≤ k → k < 32 → c.slots[k]? = some none) ∧
    ∀ (k : Nat) (b : RuleRecord) (f : Int × Nat × Nat × Nat), builtInSlots[k]? = some b →
      [(10, 2, 20, 10), (158, 3, 30, 30), (125, 3, 100, 20), (0, 0, 10, 0), (0, 0, 5, 0), (0, 0, 5, 0), (50, 10, 50, 0),
        (80, 20, 50, 0), (0, 0, 0, 0), (0, 0, 10, 0), (1300, 20, 30, 50), (0, 0, 50, 0), (0, 0, 50, 0), (0, 0, 10, 20),
        (0, 0, 0, 0), (3, 2, 50, 0), (160, 0, 0, 0)][k]? = some f →
      c.slots[k]? = some (some { b with
        threshold := f.1, hysteresis := f.2.1, qualify := f.2.2.1, release := f.2.2.2 })) ∧
  (c.warnings.map (·.enabled) = List.replicate 9 true ++ false :: List.replicate 22 true ∧
    c.warnings.map (·.pattern) =
      [0, 0, 1, 1, 1, 1, 2, 2, 2, 2, 1, 1, 1, 2] ++ List.replicate 12 1 ++ [3, 3, 2, 1, 4, 5] ∧
    c.warnings.map (·.lamp) =
      [some 0, some 1, some 2, some 3, some 4, some 4, some 5, none, none, some 6, some 7, some 7, some 7, some 7] ++
        List.replicate 12 none ++ [some 8, some 9, some 9, some 9, some 10, none] ∧
    ∀ p ∈ builtInClasses, ∀ w ∈ p.2, (c.warnings[w]?.map (·.cls)) = some p.1) ∧
  (c.patterns.map (fun p => (p.first, p.second, p.onTime, p.offTime, p.repeats, p.loud)) =
    [(7, some 5, 25, 5, 0, true), (3, none, 30, 70, 5, true), (2, none, 20, 30, 2, false), (1, some 0, 15, 10, 2, false),
     (4, some 3, 20, 20, 3, true), (6, none, 10, 0, 1, false), (2, none, 20, 30, 2, false), (2, none, 20, 30, 2, false)]) ∧
  c.lamps = List.replicate 11 .warning ++ [.unused, .unused, .turnLeft, .turnRight, .highBeam] ∧
  c.items.map (fun f => (f.enabled, f.distanceInterval, f.dayInterval)) =
    [(true, 15000, 365), (true, 30000, 0), (true, 0, 730), (true, 32000, 1460), (false, 0, 0), (false, 0, 0), (false, 0, 0),
     (false, 0, 0)] ∧
  ∀ p ∈ [((0 : Nat), (some (1000, 1000) : Option (Nat × Nat)), (some (30, 30) : Option (Nat × Nat))),
      (1, some (2000, 2000), none), (2, none, some (60, 60)), (3, some (3000, 3000), some (60, 60))],
    ∃ f, c.items[p.1]? = some f ∧ (∀ x, p.2.1 = some x → f.aheadKm = x.1 ∧ f.marginKm = x.2) ∧
      ∀ x, p.2.2 = some x → f.aheadDays = x.1 ∧ f.marginDays = x.2

/-! ### The line (Chapter 3) -/

/-- Message `m` at place `i` is the head of the queue (R56): no older message of its topic, and no other message without
an older one of its own topic is of a more urgent class, or of its class and older. -/
def IsHead (q : List Msg) (i : Nat) (m : Msg) : Prop :=
  q[i]? = some m ∧ (∀ j n, j < i → q[j]? = some n → n.topic ≠ m.topic) ∧
    ∀ j n, q[j]? = some n → (∀ k o, k < j → q[k]? = some o → o.topic ≠ n.topic) →
      m.cls < n.cls ∨ (m.cls = n.cls ∧ i ≤ j)

/-- A gathered message passes every check of Table 3-7. -/
def ValidFrame (bytes : List Byte) (framingError : Bool) : Prop :=
  framingError = false ∧ 4 ≤ bytes.length ∧ bytes.length ≤ 12 ∧ byteSum bytes = 0 ∧ frameKind bytes ≠ 3 ∧
    frameSource bytes ≠ 0 ∧ frameLength bytes ≤ 8 ∧ bytes.length = frameLength bytes + 4

/-- A listen window admits a message (R61). -/
def ListenWindow.LetsIn (w : ListenWindow) (bytes : List Byte) : Prop :=
  w.enabled = true ∧ w.first ≤ frameTopic bytes ∧ frameTopic bytes ≤ w.last ∧
    (w.source = none ∨ w.source = some (frameSource bytes))

/-- The station after the end gap of a gathered message (Table 3-2). -/
def LineStation.gapped (l : LineStation) : LineStation :=
  { l with state := .quiet, quiet := 2, driven := false, drivenTime := 0 }

/-- The station after a valid message (R64). -/
def State.heardLine (s : State) : LineStation :=
  { s.line.gapped with silent := false, silence := if s.ign = .run then some 200 else s.line.silence }

/-- A gathered message reaches its consumer (R60 to R63): gathered in RECEIVING outside LOAD, valid, from another station,
and admitted by a listen window. -/
def State.Hears (s : State) (bytes : List Byte) : Prop :=
  s.line.state = .receiving ∧ s.line.awaitsRelease = false ∧ ValidFrame bytes false ∧ s.ign ≠ .load ∧
    frameSource bytes ≠ s.cal.station ∧ ∃ w ∈ windowZero :: s.cal.windows, w.LetsIn bytes

/-- Entry `e` is the one that a publication goes to (Table 3-9): the used entry of its topic. -/
def State.EntryOf (s : State) (bytes : List Byte) (e : Nat) : Prop :=
  frameKind bytes = 0 ∧ e < s.topics.entries.length ∧ (s.entry e).used = true ∧ (s.entry e).topic = frameTopic bytes ∧
    ∀ j < e, ¬((s.entry j).used = true ∧ (s.entry j).topic = frameTopic bytes)

/-! ### Readings (Chapters 4 to 6) -/

/-- An entry has data to read (Table 4-9): it is used, and FRESH or STALE. -/
def Entry.HasData (e : Entry) : Prop := e.used = true ∧ (e.state = .fresh ∨ e.state = .stale)

/-- `r` is the outcome of reading the field of `bytes` bytes, 1 or 2, at an offset (R79, Table 4-9): ABSENT without data,
where the field reaches beyond the expected length, and where it holds its no-value code; else its value, tagged HELD while
the entry is STALE. -/
def Entry.Reads (e : Entry) (offset bytes : Nat) (signed : Bool) (r : Option Reading) : Prop :=
  let bits := if bytes = 2 then 256 * byteAt e.data offset + byteAt e.data (offset + 1) else byteAt e.data offset
  let half := if bytes = 2 then 32768 else 128
  let value : Prop := e.HasData ∧ offset + bytes ≤ e.length ∧ bits ≠ (if signed then half else 2 * half - 1)
  (¬value → r = none) ∧
    (value → r = some
      { value := if signed = true ∧ half ≤ bits then (bits : Int) - 2 * half else bits, held := decide (e.state = .stale) })

/-- `got` is what built-in quantity `q` reads as, `none` being ABSENT (R113, R114, Tables 6-8 and 6-9). -/
def State.QuantityReads (s : State) (q : Quantity) (got : Option Int) : Prop :=
  let field (e offset bytes : Nat) (signed : Bool) : Prop :=
    ∃ r, (s.entry e).Reads offset bytes signed r ∧ got = r.map (·.value)
  let flag (byte bit : Nat) : Bool := bitAt (s.entry 2).data byte bit
  let body (n : Nat) : Prop := ((s.entry 2).HasData → got = some (n : Int)) ∧ (¬(s.entry 2).HasData → got = none)
  let without (e : Nat) : Prop := got = some (if (s.entry e).state = .empty ∨ (s.entry e).state = .lost then 1 else 0)
  let sum (ws : List (Bool × Nat)) : Nat := (ws.map fun p => if p.1 then p.2 else 0).sum
  match q with
  | .speed => got = some (s.counting.speed : Int)
  | .rpm => field 0 0 2 false
  | .coolant => field 0 2 1 false
  | .oil => field 0 3 1 false
  | .battery => field 2 1 1 false
  | .fuel => got = s.counting.fuel.map fun f => (f : Int)
  | .range => (∀ v : Nat, s.counting.fuel.isSome = true → s.trip.range = .valid v ∨ s.trip.range = .saturated v →
      got = some (v : Int)) ∧ (s.counting.fuel = none ∨ s.trip.range = .none → got = none)
  | .outside => field 2 2 1 true
  | .doorBits => body (sum [(flag 3 0, 1), (flag 3 1, 2), (flag 3 2, 4), (flag 3 3, 8)])
  | .lidBits => body (sum [(flag 3 4, 1), (flag 3 5, 2)])
  | .parkBrake => body (sum [(flag 3 6, 1)])
  | .keyWithDoorOpen => body (sum [(flag 3 7 && flag 3 0, 1)])
  | .lampsWithKeyOut => body (sum [(flag 4 0 && !flag 3 7, 1)])
  | .turnDistance => got = some (s.counting.turnDistance : Int)
  | .e0WithoutValue => without 0
  | .e2WithoutValue => without 2
  | .lineFault => got = some (sum [(s.line.stuck, 1), (s.line.silent, 2), (s.line.conflict, 4)] : Int)
  | .instrumentFault => got = some (sum [(s.ignition.calDefault, 1),
      (s.store.odometer.any fun o => !o.2, 2), (s.store.nvFault, 4)] : Int)

/-- `got` is what the source of a rule reads as, `none` being ABSENT (R104, R113, R114). -/
def State.SourceReads (s : State) (src : Source) (got : Option Int) : Prop :=
  match src with
  | .builtIn q => s.QuantityReads q got
  | .field e offset wide signed =>
    ∃ r, (s.entry e).Reads offset (if wide then 2 else 1) signed r ∧ got = r.map (·.value)

/-- A gate is true (R107, Table 6-4). -/
def State.GateOpen (s : State) : Gate → Prop
  | .always => True
  | .notRun => s.ign = .watch ∨ s.ign = .accessory ∨ s.ign = .holdup
  | .run => s.ign = .run
  | .moving => 50 ≤ s.counting.speed
  | .stopped => s.counting.speed < 20
  | .engineRunning => (s.entry 0).HasData ∧ bitAt (s.entry 0).data 4 0 = true ∧
      ∃ r : Reading, (s.entry 0).Reads 0 2 false (some r) ∧ 400 < r.value

/-- `r` is what gauge `g` reads as its input (R87, Table 5-1): speed, a field of E0 or E2, or F, HELD while E2 is STALE. -/
def State.GaugeReads (s : State) (g : Nat) (r : Option Reading) : Prop :=
  match g with
  | 0 => r = some ⟨s.counting.speed, false⟩
  | 1 => (s.entry 0).Reads 0 2 false r
  | 2 => r = s.counting.fuel.map fun f => ⟨f, decide ((s.entry 2).state = .stale)⟩
  | 3 => (s.entry 0).Reads 2 1 false r
  | 4 => (s.entry 0).Reads 3 1 false r
  | _ => (s.entry 2).Reads 1 1 false r

/-! ### Gauges (Chapter 5) -/

/-- The coil levels of a gauge as R96 and Table 5-6 form them from its commanded angle: by quadrant while its coils are
driven, and 0 while they are off. -/
def Gauge.CoilsFollow (g : Gauge) : Prop :=
  (g.driven = false → g.coils = (0, 0)) ∧
    (g.driven = true → ∀ r < 256,
      (g.commanded = r → g.coils = (tab r, tab (256 - r))) ∧
      (g.commanded = 256 + r → g.coils = (tab (256 - r), -tab r)) ∧
      (g.commanded = 512 + r → g.coils = (-tab r, -tab (256 - r))))

/-! ### Rules (Chapter 6) -/

/-- The effective threshold (R106). -/
def RuleRecord.bar (r : RuleRecord) (st : RuleState) : Int :=
  if st = .clear ∨ st = .qualifying then r.threshold
  else if r.cond.less = true ∧ r.cond.greater = false then r.threshold + r.hysteresis
  else if r.cond.greater = true ∧ r.cond.less = false then r.threshold - r.hysteresis
  else r.threshold

/-- The condition of a rule holds (R106): the outcome against the effective threshold is a member of the set. -/
def RuleRecord.Meets (r : RuleRecord) (st : RuleState) : Option Int → Prop
  | none => r.cond.unordered = true
  | some v => (v < r.bar st ∧ r.cond.less = true) ∨ (v = r.bar st ∧ r.cond.equal = true) ∨
      (r.bar st < v ∧ r.cond.greater = true)

/-- The row of Table 6-5 that moves a slot whose gate is true. -/
def Slot.MovesTo (r : RuleRecord) (holds : Prop) (old new : Slot) : Prop :=
  match old.state with
  | .clear => (¬holds → new = ⟨.clear, 0⟩) ∧ (holds → r.qualify = 0 → new = ⟨.asserted, 0⟩) ∧
      (holds → 0 < r.qualify → new = ⟨.qualifying, r.qualify⟩)
  | .qualifying => (¬holds → new = ⟨.clear, 0⟩) ∧ (holds → old.timer ≤ 1 → new = ⟨.asserted, 0⟩) ∧
      (holds → 1 < old.timer → new = ⟨.qualifying, old.timer - 1⟩)
  | .asserted => (holds → new = old) ∧ (¬holds → r.release = 0 → new = ⟨.clear, 0⟩) ∧
      (¬holds → 0 < r.release → new = ⟨.releasing, r.release⟩)
  | .releasing => (holds → new = ⟨.asserted, 0⟩) ∧ (¬holds → old.timer ≤ 1 → new = ⟨.clear, 0⟩) ∧
      (¬holds → 1 < old.timer → new = ⟨.releasing, old.timer - 1⟩)

/-! ### Warnings (Chapter 7) -/

/-- How many warnings are SHOWN. -/
def State.shownCount (s : State) : Nat := (s.arbiter.warnings.filter fun w => w.state == .shown).length

/-- 32 warnings, and the two rotation orders list the warnings of their classes (R122). -/
def State.OrdersComplete (s : State) : Prop :=
  s.arbiter.warnings.length = 32 ∧
    (∀ w, w ∈ s.arbiter.cautionOrder ↔ w < 32 ∧ s.warningClass w = .caution) ∧
    ∀ w, w ∈ s.arbiter.advisoryOrder ↔ w < 32 ∧ s.warningClass w = .advisory

/-- What the selection of R121 leaves: at most one warning SHOWN, none PENDING of a class more urgent than its, and none
PENDING or HELD while none is SHOWN. -/
def State.MostUrgentShown (s : State) : Prop :=
  s.shownCount ≤ 1 ∧
    (∀ v w, v < 32 → w < 32 → (s.warning v).state = .shown → (s.warning w).state = .pending →
      (s.warningClass v).rank ≤ (s.warningClass w).rank) ∧
    ((∀ v < 32, (s.warning v).state ≠ .shown) → ∀ w < 32, (s.warning w).state ≠ .pending ∧ (s.warning w).state ≠ .held)

/-- Neither rotation order lists a warning twice. -/
def State.OrdersOnce (s : State) : Prop := s.arbiter.cautionOrder.Nodup ∧ s.arbiter.advisoryOrder.Nodup

/-- In service as R121 says: two warnings in service are of different classes, and the SHOWN one is of the more urgent. -/
def State.ServiceOrdered (s : State) : Prop :=
  ∀ v w, v < 32 → w < 32 → v ≠ w → (s.warning v).state ∈ [.shown, .held] → (s.warning w).state ∈ [.shown, .held] →
    (s.warningClass v).rank ≠ (s.warningClass w).rank ∧
      ((s.warning v).state = .shown → (s.warningClass v).rank < (s.warningClass w).rank)

/-- The arbiter as every event leaves it (R121, R122, R184): outside LOAD the rotation orders are complete, in LOAD every
warning is OFF, and the most urgent warning is SHOWN. -/
def State.Arbitrated (s : State) : Prop :=
  s.arbiter.warnings.length = 32 ∧ s.MostUrgentShown ∧ (s.ign ≠ .load → s.OrdersComplete) ∧
    (s.ign = .load → ∀ w ∈ s.arbiter.warnings, w.state = .off)

/-- Warning `v` stands before `w` in the review order (R125): its class is more urgent, or it is before `w` in the order of
their class (R122). -/
def State.ReviewedBefore (s : State) (v w : Nat) : Prop :=
  (s.warningClass v).rank < (s.warningClass w).rank ∨
    (s.warningClass v = s.warningClass w ∧ match s.warningClass w with
      | .caution => s.arbiter.cautionOrder.idxOf v < s.arbiter.cautionOrder.idxOf w
      | .advisory => s.arbiter.advisoryOrder.idxOf v < s.arbiter.advisoryOrder.idxOf w
      | .danger | .information => v < w)

/-- The review has gone on to warning `w` (R125): the first SILENCED one in the review order, or the first after the
reviewed one. -/
def State.ReviewGoesTo (s : State) (w : Nat) : Prop :=
  let comes (v : Nat) : Prop := v < 32 ∧ (s.warning v).state = .silenced ∧
    ∀ r, s.arbiter.review = some r → s.ReviewedBefore r.warning v
  comes w ∧ ∀ v, comes v → v = w ∨ s.ReviewedBefore w v

/-- The command brings an event to the arbiter. -/
def State.ReachesArbiter (s : State) : Instr → Prop
  | .evaluation => s.rules.timer.isSome = true
  | .arbiterTick => s.arbiter.tick.isSome = true
  | .shownTimerExpiry | .reminderTimerExpiry _ | .patternComplete _ => True
  | .serviceEdgeRequest _ => s.ign.awake = true
  | .keyPress .ack => s.KeyReady .ack
  | _ => False

/-- What the selection of R121 may make of a warning that its event leaves as `x`: an OFF or SILENCED one stands, a PENDING
one may be SHOWN, one in service stays in service, and one whose state stands is as it was. -/
def Warning.GoesOn (x y : Warning) : Prop :=
  (x.state ∈ [.off, .silenced] → y = x) ∧ (x.state = .pending → y.state ∈ [.pending, .shown]) ∧
    (x.state ∈ [.shown, .held] → y.state ∈ [.shown, .held]) ∧ (y.state = x.state → y = x)

/-- Warning `w` has taken its part of a request set (R119, R120), `stands` saying whether its level request stands and
`given` whether it is given an edge request: OFF with the one, or OFF or SILENCED with the other, it is PENDING or already
SHOWN; a request withdrawn makes it OFF from any state, and an edge request of the same set makes it PENDING again. -/
def State.TakesRequests (s : State) (w : Nat) (stands given : Prop) (t : State) : Prop :=
  let x := s.warning w
  let y := t.warning w
  let gone : Prop := x.level = true ∧ ¬stands
  let rises : Prop := (x.state = .off ∧ stands) ∨ (given ∧ (gone ∨ x.state ∈ [.off, .silenced]))
  (y.level = true ↔ stands) ∧
    (rises → y.state ∈ [.pending, .shown] ∧ y.shownTimer = 0 ∧ y.completed = false ∧ y.reminder = 0) ∧
    (¬rises → gone → y = { x with state := .off, level := false, shownTimer := 0, completed := false, reminder := 0 }) ∧
    (¬rises → ¬gone → Warning.GoesOn { x with level := y.level } y)

/-- Edge requests of the service unit for the warnings `asked` have been taken one after the other (R120), the warnings
having been `before`: an enabled one that was OFF or SILENCED is raised, and no other; a warning that was raised already
goes on so. -/
def State.Raises (s : State) (asked : Nat → Prop) (before : Nat → Warning) (t : State) : Prop :=
  ∀ w < 32,
    let given : Prop := (s.warningFigures w).enabled = true ∧ asked w
    ((before w).state ∈ [.off, .silenced] → given → (t.warning w).state ∈ [.pending, .shown, .held] ∧ t.warning w =
      { before w with state := (t.warning w).state, shownTimer := 0, completed := false, reminder := 0 }) ∧
    ((before w).state ∈ [.off, .silenced] → ¬given → t.warning w = before w) ∧
    ((before w).state ∉ [.off, .silenced] → (t.warning w).state ∈ [.pending, .shown, .held])

/-- The reminders of a RUN entry have been taken (R155), the warnings having been `before`: warning 28 is asked for if an
active item is DUE, and warning 29 if one is OVERDUE. -/
def State.Reminds (s : State) (before : Nat → Warning) (t : State) : Prop :=
  s.Raises (fun w => ∃ i < 8, s.itemActive i = true ∧
    (((s.item i).state = .due ∧ w = 28) ∨ ((s.item i).state = .overdue ∧ w = 29))) before t

/-- The requests of the changes of item state from `s` to `t` have been taken (R154): each change into SOON, DUE or OVERDUE
asks for warning 27, 28 or 29, and a change toward OK for none. -/
def State.RaisesForItems (s t : State) : Prop :=
  s.Raises (fun w => ∃ i < 8,
    ((t.item i).state = .soon ∧ (s.item i).state = .ok ∧ w = 27) ∨
    ((t.item i).state = .due ∧ (s.item i).state ∈ [.ok, .soon] ∧ w = 28) ∨
    ((t.item i).state = .overdue ∧ (s.item i).state ∈ [.ok, .soon, .due] ∧ w = 29)) s.warning t

/-- Warning `w` has become PENDING and the arbiter has selected (R121): SHOWN if none was or the SHOWN one is of a less
urgent class, which is then HELD; else PENDING. Every other warning stands. -/
def State.Arises (s : State) (w : Nat) (t : State) : Prop :=
  t.warning w = { s.warning w with state := (t.warning w).state, shownTimer := 0, completed := false, reminder := 0 } ∧
    (∀ v < 32, v ≠ w → (s.warning v).state ≠ .shown → t.warning v = s.warning v) ∧
    ((∀ v < 32, (s.warning v).state ≠ .shown) → (t.warning w).state = .shown) ∧
    ∀ v < 32, (s.warning v).state = .shown →
      ((s.warningClass w).rank < (s.warningClass v).rank →
        (t.warning w).state = .shown ∧ t.warning v = { s.warning v with state := .held }) ∧
      ((s.warningClass v).rank ≤ (s.warningClass w).rank →
        (t.warning w).state = .pending ∧ t.warning v = s.warning v)

/-- Warning `w` has been acknowledged (R122, R124, R126, R128) and the arbiter has selected: SILENCED with its class's
reminder time if its level request stands, else OFF; last of its rotation order if it was in service. -/
def State.Acknowledges (s : State) (w : Nat) (t : State) : Prop :=
  t.warning w = { s.warning w with
    state := if (s.warning w).level then .silenced else .off, shownTimer := 0, completed := false
    reminder := if (s.warning w).level = true ∧ s.warningClass w = .danger then 600
      else if (s.warning w).level = true ∧ s.warningClass w = .caution then 3000 else 0 } ∧
    t.arbiter.cautionOrder = (if s.warningClass w = .caution ∧ (s.warning w).state ∈ [.shown, .held] then
      s.arbiter.cautionOrder.filter (· ≠ w) ++ [w] else s.arbiter.cautionOrder) ∧
    t.arbiter.advisoryOrder = (if s.warningClass w = .advisory ∧ (s.warning w).state ∈ [.shown, .held] then
      s.arbiter.advisoryOrder.filter (· ≠ w) ++ [w] else s.arbiter.advisoryOrder) ∧
    t.MostUrgentShown ∧ ∀ v < 32, v ≠ w → (s.warning v).state ∉ [.pending, .held] → t.warning v = s.warning v

/-- The sub-warning `n` of warning 30 has been acknowledged (R131, R132): it is ACKED-LOCAL and 44h with the set of those is
queued. With another OPEN, warning 30 keeps its state and, in service, presents the lowest OPEN one; SHOWN, its shown timer
and its pattern begin anew. With none OPEN, warning 30 is OFF, last in its rotation order if it was in service, and the
arbiter has selected. -/
def State.AcknowledgesSub (s : State) (n : Nat) (t : State) : Prop :=
  let subs := s.arbiter.subs.set n .ackedLocal
  t.arbiter.subs = subs ∧ t.MostUrgentShown ∧
    (s.line.queue.length < 10 → s.arbiter.subs.length = 8 → ∃ m ∈ t.line.queue, m.topic = 0x44 ∧ m.started = false ∧
      m.cls = 1 ∧ m.data.length = 1 ∧ ∀ j < 8, bitAt m.data 0 j = (subs.getD j .none == .ackedLocal)) ∧
    (∀ p, subs[p]? = some .opened → (∀ j < p, subs[j]? ≠ some .opened) →
      t.warning 30 = (if (s.warning 30).state = .shown then { s.warning 30 with shownTimer := 0 } else s.warning 30) ∧
      (∀ v, v ≠ 30 → t.warning v = s.warning v) ∧
      ((s.warning 30).state ∈ [.shown, .held] → t.arbiter.presented = some p) ∧
      t.arbiter.cautionOrder = s.arbiter.cautionOrder ∧ t.arbiter.advisoryOrder = s.arbiter.advisoryOrder) ∧
    (.opened ∉ subs →
      t.warning 30 = { s.warning 30 with
        state := .off, level := false, shownTimer := 0, completed := false, reminder := 0 } ∧
      t.arbiter.presented = none ∧
      (∀ v < 32, v ≠ 30 → (s.warning v).state ∉ [.pending, .held] → t.warning v = s.warning v) ∧
      (s.warningClass 30 = .caution → t.arbiter.cautionOrder = if (s.warning 30).state ∈ [.shown, .held] then
        s.arbiter.cautionOrder.filter (· ≠ 30) ++ [30] else s.arbiter.cautionOrder))

/-! ### The chime of an arbiter event (Chapter 8) -/

/-- The chime channel stands as in `u`, and with it every part of the sound unit but the sound output. -/
def State.Chimes (t : State) (u : Sound) : Prop :=
  t.sound = { u with output := t.sound.output, clickTimer := t.sound.clickTimer, tickTimer := t.sound.tickTimer }

/-- The channel has taken the notice that warning `w` is SHOWN, or that its pattern is to restart (R139, R140, Table 8-5):
the pattern starts from the beginning, or in ON and CARRY, unless `w` is DANGER, the tone in progress is carried. -/
def State.NoticeTaken (s : State) (w : Nat) (t : State) : Prop :=
  let p : Playing := ⟨(s.warningFigures w).pattern, w⟩
  let danger : Prop := s.warningClass w = .danger
  let u := s.sound
  (danger ∨ u.channel ∈ [.idle, .off, .done] → t.Chimes { u with
    channel := .on, playing := some p, cadence := (s.pattern p.pattern).onTime, onIndex := 1, repeats := 0 }) ∧
  (¬danger → u.channel = .on → t.Chimes { u with
    channel := .carry, playing := some p, carryLoud := s.current.loud
    carryTone := if u.onIndex % 2 = 1 then s.current.first else s.current.second.getD s.current.first }) ∧
  (¬danger → u.channel = .carry → t.Chimes { u with playing := some p })

/-- The sound output after the channel's event, having been as in `u` (R141, R142, Tables 8-6 and 8-7): the chime has it,
and cuts a click or tick, while the channel is in ON or CARRY and quiet cabin does not mute the class of the SHOWN warning;
else the chime has released it. -/
def State.ChimeOutput (u : Sound) (t : State) : Prop :=
  let muted : Prop := t.sound.quietCabin = true ∧
    ∃ w < 32, (t.warning w).state = .shown ∧ t.warningClass w ∈ [.advisory, .information]
  let asks : Prop := (t.sound.channel = .on ∨ t.sound.channel = .carry) ∧ ¬muted
  (asks → t.sound.output = .chime ∧ t.sound.clickTimer = 0 ∧ t.sound.tickTimer = 0) ∧
    (¬asks → t.sound.output = (if u.output = .chime then .silent else u.output) ∧
      t.sound.clickTimer = u.clickTimer ∧ t.sound.tickTimer = u.tickTimer)

/-- The sound unit after one event of the arbiter, its output having been as in `u` (R123, R140): a warning newly SHOWN, or
SHOWN again though the event withdrew its level request, has given a SHOWN notice; the last departure from SHOWN makes the
channel IDLE; else the channel stands. -/
def State.ChimeFollows (s : State) (u : Sound) (t : State) : Prop :=
  let was (w : Nat) : Prop := (s.warning w).state = .shown
  let stays (w : Nat) : Prop := (t.warning w).state = .shown
  let enters (w : Nat) : Prop := stays w ∧ ¬(was w ∧ ((s.warning w).level = true → (t.warning w).level = true))
  (∀ w < 32, enters w → s.NoticeTaken w t) ∧
  ((∃ w < 32, was w) → (∀ w < 32, ¬stays w) →
    t.Chimes { s.sound with channel := .idle, playing := none, cadence := 0 }) ∧
  ((∀ w < 32, ¬enters w) → (∃ w < 32, stays w) ∨ (∀ w < 32, ¬was w) → t.Chimes s.sound) ∧
  t.ChimeOutput u

/-- The sound unit after an acknowledgement of sub-warning `n` of warning 30 (R131, R140): SHOWN with another sub-warning
OPEN, warning 30 restarts its pattern; else as after any event of the arbiter. -/
def State.ChimeFollowsSub (s : State) (n : Nat) (u : Sound) (t : State) : Prop :=
  let restarts : Prop := (s.warning 30).state = .shown ∧ .opened ∈ s.arbiter.subs.set n .ackedLocal
  (restarts → s.NoticeTaken 30 t ∧ t.ChimeOutput u) ∧ (¬restarts → s.ChimeFollows u t)

/-- The sound unit with the click of an accepted press (R144, Table 8-7): dropped while a chime sounds. -/
def Sound.clicked (u : Sound) : Sound :=
  if u.output = .chime then u else { u with output := .click, clickTimer := 2, tickTimer := 0 }

/-! ### The display record (Chapters 2, 7, 9 and 12) -/

/-- Bytes 0 to 17 of a display record carry the items of Table 2-12 as they stand (R43, R44, R134, R161, R193, Tables 12-9,
2-13, 2-14, 7-6 and 9-6): each quantity with its code, flag and 24-bit value. -/
def State.RecordShows (s : State) (bs : List Byte) : Prop :=
  let carries (o code flag : Nat) (v : Int) : Prop :=
    byteAt bs o = code ∧ byteAt bs (o + 1) = flag ∧ (tripleAt bs (o + 2) : Int) = v % 16777216
  let result (o code : Nat) (r : Result) : Prop := (∀ v : Nat, r = .valid v → carries o code 0 v) ∧
    (∀ v : Nat, r = .saturated v → carries o code 1 v) ∧ (r = .none → carries o code 2 0)
  let total (o code n divisor : Nat) : Prop := carries o code (if n = 16777215 then 1 else 0) ((n / divisor : Nat) : Int)
  let trip (r : TripRecord) : Prop := let x := s.tripView r
    (s.trip.view = .rates → result 3 4 x.economy ∧ result 8 5 x.average) ∧
    (s.trip.view = .totals → total 3 1 x.distance 10 ∧ total 8 3 x.time 60) ∧
    (s.trip.view = .fuel → total 3 2 x.fuel 100 ∧ carries 8 0 2 0)
  let item (o code : Nat) (inUse : Nat → Prop) (remaining : Nat → Int) : Prop :=
    (∀ i, s.service.selected = some i → inUse i → s.store.present (itemBlock i) = true →
      carries o code 0 (remaining i)) ∧
    ((∀ i, s.service.selected = some i → ¬(inUse i ∧ s.store.present (itemBlock i) = true)) → carries o code 2 0)
  let shown (w : Nat) : Prop := (s.warning w).state = .shown ∧ ∀ v < w, (s.warning v).state ≠ .shown
  let named (w i : Nat) : Prop := i < 8 ∧ ((s.item i).state, w) ∈ [(ItemState.soon, 27), (.due, 28), (.overdue, 29)]
  let kind (n : Nat) : Prop := byteAt bs 0 = n
  bs.length = 18 ∧
  (∀ w, shown w → kind 6 ∧ carries 3 (11 + (s.warningClass w).rank) 0 w ∧
    (∀ p : Nat, w = 30 → s.arbiter.presented = some p → carries 8 15 0 p) ∧
    (∀ i : Nat, named w i → (∀ j < i, ¬named w j) → carries 8 16 0 i) ∧
    (w ∈ [27, 28, 29] → (∀ i, ¬named w i) → carries 8 16 2 0) ∧ (w ∉ [27, 28, 29, 30] → carries 8 0 2 0)) ∧
  ((∀ w, ¬shown w) → ∀ r, s.arbiter.review = some r → kind 6 ∧
    carries 3 (11 + (s.warningClass r.warning).rank) 0 r.warning ∧
    carries 8 17 0 ((s.arbiter.warnings.filter fun w => w.state == .silenced).length : Int)) ∧
  ((∀ w, ¬shown w) → s.arbiter.review = none →
    (s.trip.page = .tripA → kind 0 ∧ trip .a) ∧ (s.trip.page = .tripB → kind 1 ∧ trip .b) ∧
    (s.trip.page = .journey → kind 2 ∧ trip .journey) ∧
    (s.trip.page = .range → kind 3 ∧ result 3 7 s.trip.range ∧ result 8 6 s.trip.inst) ∧
    (s.trip.page = .clock → kind 4 ∧ carries 8 0 2 0 ∧ ∃ r, (s.entry 2).Reads 2 1 true r ∧
      (r = none → carries 3 8 2 0) ∧ ∀ x, r = some x → carries 3 8 0 x.value) ∧
    (s.trip.page = .service → kind 5 ∧
      item 3 9 (fun i => (s.itemFigures i).distanceInterval ≠ 0) s.store.remainingKm ∧
      item 8 10 (fun i => (s.itemFigures i).dayInterval ≠ 0) s.store.remainingDays)) ∧
  (∀ v ∈ [(View.rates, 0), (.totals, 1), (.fuel, 2)], ∀ c ∈ [(ClockSet.normal, 0), (.hourSet, 1), (.minuteSet, 2)],
    s.trip.view = v.1 → s.counting.clockSet = c.1 → byteAt bs 1 = v.2 + 4 * c.2 +
      match s.store.odometer with
      | some (_, true) => 0
      | some (_, false) => 16
      | none => 32) ∧
  byteAt bs 2 = (if byteAt bs 0 = 5 then s.service.selected.elim 255 (· % 256) else 255) ∧
  tripleAt bs 13 = (match s.store.odometer with
    | some (v, _) => v % 16777216
    | none => 0xFFFFFF) ∧
  byteAt bs 16 = s.counting.hours % 256 ∧ byteAt bs 17 = s.counting.minutes % 256

/-! ### The followers of E2 and E3 (Chapters 1, 5, 7 and 8) -/

/-- A request as a return that becomes pending leaves it (R17): a FUEL request has been issued before that return. -/
def Request.beforeReturn (r : Request) : Request := { r with afterReturn := r.afterReturn && r.target != .fuel }

/-- The arithmetic unit as a return that becomes pending leaves it (R17). -/
def Arith.beforeReturn (a : Arith) : Arith :=
  { a with list := a.list.map Request.beforeReturn, inFlight := a.inFlight.map Request.beforeReturn }

/-- An arrival at E2 with the raw tank value `raw` and these turn-signal flags has been taken by its followers: the FUEL
client (R15, R17), the turn-signal distance count (R4) and the turn ticks (R145). -/
def State.BodyArrives (s : State) (raw : Nat) (left right : Bool) (t : State) : Prop :=
  let c := { s.counting with
    turnActive := s.counting.turnActive || left || right
    turnTicks := if left = true ∨ right = true then 0 else s.counting.turnTicks }
  let kept := { c with keptRaw := some raw, latestRaw := some raw }
  let asks : Prop := c.keptRaw ≠ some raw ∨ c.returnPending = true
  let ticks : Prop := (left ≠ s.sound.lastLeft ∨ right ≠ s.sound.lastRight) ∧ s.sound.output ∉ [.chime, .click]
  (raw = 255 → t.counting = { c with returnPending := true, fuel := none, latestRaw := none } ∧
    t.arith = s.arith.beforeReturn) ∧
  (raw ≠ 255 → ¬asks → t.counting = kept ∧ t.arith = s.arith) ∧
  (raw ≠ 255 → asks →
    (∀ y, s.cal.tank.evaluate raw = .direct y → t.arith = s.arith ∧ t.counting = { kept with
      rawFuel := some y, fuel := if c.returnPending then some y else c.fuel, returnPending := false }) ∧
    ∀ n k d base, s.cal.tank.evaluate raw = .request n k d base →
      (s.arith.outstanding .fuel = true → t.counting = kept ∧ t.arith = s.arith) ∧
      (s.arith.outstanding .fuel = false → t.counting = { kept with requestRaw := some raw } ∧
        (∀ q ∈ s.arith.requests, q ∈ t.arith.requests) ∧
        ({ target := .fuel, n := n, k := k, c := d, base := base, generation := 0, afterReturn := c.returnPending } :
          Request) ∈ t.arith.requests)) ∧
  t.sound.lastLeft = left ∧ t.sound.lastRight = right ∧
  (ticks → t.sound = { s.sound with output := .tick, tickTimer := 1, lastLeft := left, lastRight := right }) ∧
  (¬ticks → t.sound = { s.sound with lastLeft := left, lastRight := right })

/-- E2 has become LOST (R4, R17, R91, R145): F and F_raw are none and a return is pending, the turn-signal distance count is
over, the kept flasher values are 0, and G5 is at REST if it was in TRACK or HOLD. -/
def State.BodyLost (s t : State) : Prop :=
  t.counting.fuel = none ∧ t.counting.rawFuel = none ∧ t.counting.returnPending = true ∧ t.arith = s.arith.beforeReturn ∧
    t.counting.turnDistance = 0 ∧ t.counting.turnActive = false ∧ t.sound.lastLeft = false ∧ t.sound.lastRight = false ∧
    ((s.gauge 5).state = .track ∨ (s.gauge 5).state = .hold →
      t.gauge 5 = { s.gauge 5 with state := .rest, target := 0, evaluated := none })

/-- Warning 30 and its sub-warnings after an event of the rear cascade that acknowledges none (R119, R121, R130): its level
request stands while a sub-warning is OPEN, both rotation orders stand, and the arbiter has selected. In service it presents
the sub-warning it presented if that is still OPEN, else the lowest OPEN one; SHOWN, with another presented, its shown timer
and its pattern begin anew. -/
def State.CascadeMoves (s t : State) : Prop :=
  let stands : Prop := (s.warningFigures 30).enabled = true ∧ .opened ∈ t.arbiter.subs
  let opened (n : Nat) : Prop := t.arbiter.subs[n]? = some .opened
  let inService (u : State) : Prop := (u.warning 30).state ∈ [.shown, .held]
  ((t.warning 30).level = true ↔ stands) ∧
    ((s.warning 30).level = true → ¬stands → (t.warning 30).state = .off) ∧
    ((s.warning 30).state = .off → stands → (t.warning 30).state ∈ [.pending, .shown]) ∧
    (inService s → stands → inService t) ∧
    (∀ v < 32, v ≠ 30 → (s.warning v).state ∈ [.off, .silenced] → t.warning v = s.warning v) ∧
    t.arbiter.cautionOrder = s.arbiter.cautionOrder ∧ t.arbiter.advisoryOrder = s.arbiter.advisoryOrder ∧
    t.MostUrgentShown ∧
    (¬inService t → t.arbiter.presented = none) ∧
    (∀ p, inService s → inService t → s.arbiter.presented = some p →
      (opened p → t.arbiter.presented = some p) ∧
      ((s.warning 30).state = .shown → (t.warning 30).state = .shown →
        (opened p → (t.warning 30).shownTimer = (s.warning 30).shownTimer) ∧
        (¬opened p → (t.warning 30).shownTimer = 0 ∧
          t.sound.playing = some ⟨(s.warningFigures 30).pattern, 30⟩))) ∧
    ∀ p, inService t → (¬inService s ∨ ∀ q, s.arbiter.presented = some q → ¬opened q) →
      opened p → (∀ j < p, ¬opened j) → t.arbiter.presented = some p

/-- Topic 44h is in the transmit queue, not yet started, with the set of the sub-warnings that are ACKED-LOCAL (R132). -/
def State.CascadeQueued (t : State) : Prop :=
  ∃ m ∈ t.line.queue, m.topic = 0x44 ∧ m.started = false ∧ m.cls = 1 ∧ m.data.length = 1 ∧
    ∀ j < 8, bitAt m.data 0 j = (t.arbiter.subs.getD j .none == .ackedLocal)

/-! ### Ignition (Chapter 11) -/

/-- The state that the levels of IGN-RUN, IGN-ACC and WAKE ask for (R183, R187). -/
def levelState (run acc wake : Bool) : Ign :=
  if run then .run else if acc then .accessory else if wake then .watch else .sleep

/-- The end of line `i`'s write does not take the part from HOLDUP to SLEEP (R182): it is in another state, a message is in
flight, or a line stays DIRTY. -/
def State.StaysUp (s : State) (i : Nat) : Prop :=
  s.ign = .holdup → s.line.queue ≠ [] ∨ (s.store.line i).redirty = true ∨
    ∃ j < 8, j ≠ i ∧ (s.store.line j).state ∈ [.dirty, .writing]

/-- 41h is queued and not started, with the odometer as it stood in `s`, or FFFFFFh, and its state (R68, Table 12-3). -/
def State.OdometerQueued (s t : State) : Prop :=
  ∃ m ∈ t.line.queue, m.topic = 0x41 ∧ m.cls = 2 ∧ m.kind = .publication ∧ m.started = false ∧
    m.data = match s.store.odometer with
      | some (v, good) => bytes3 v ++ [if good then 0 else 1]
      | none => [0xFF, 0xFF, 0xFF, 2]

/-- SLEEP has been entered from `s` and not left (R18, R29, R45, R59, R85, R101, R112, R136, R150, R158, R179, R188). -/
def State.FallsAsleep (s t : State) : Prop :=
  let setting : Prop := s.counting.clockSet ≠ .normal
  t.ign = .sleep ∧ t.stayAwake = false ∧
    t.ignition = { s.ignition with state := .sleep, watchTimer := none, holdupTimer := none } ∧
    (t.counting = { s.counting with
      openCount := 0, closedCount := 0, hasClosed := t.counting.hasClosed, windowTimer := none, speed := 0
      notedPulses := none, clockSet := .normal, seconds := if setting then 0 else s.counting.seconds
      keyIdle := if setting then none else s.counting.keyIdle }) ∧
    (t.arith = { s.arith with list := [], inFlight := none }) ∧ t.trip = s.trip ∧
    t.keys = s.keys.map KeyInput.forget ∧ t.display = { s.display with transfer := none, sendPending := false, timer := none } ∧
    (t.line.state = .off ∧ t.line.queue = [] ∧ t.line.sent = [] ∧ t.line.rate40 = none ∧ t.line.rate41 = none ∧ t.line.silence = none ∧
      t.line.seqs = s.line.seqs) ∧
    t.topics = { s.topics with tick := none } ∧ t.rules = { s.rules with timer := none } ∧
    ((∀ g ∈ t.gauges.gauges, g.state = .parked ∧ g.driven = false) ∧ t.gauges.sweep = none ∧ t.gauges.timer = none) ∧
    ((∀ w ∈ t.arbiter.warnings, w.state = .off) ∧ t.arbiter = { s.arbiter with
      warnings := t.arbiter.warnings, review := none, presented := none, tick := none, rate43 := none }) ∧
    (t.sound.channel = .idle ∧ t.sound.output = .silent ∧ t.sound.flash = none ∧ t.sound.bulbCheck = none ∧
      t.sound.quietCabin = s.sound.quietCabin ∧ t.sound.lastLeft = s.sound.lastLeft ∧
      t.sound.lastRight = s.sound.lastRight) ∧
    (t.service.fetchMarks = [false, false, false, false] ∧ t.service.selected = s.service.selected ∧
      t.service.items = s.service.items.map fun x => { x with waitsChauffeur := false, waitsWorkshop := false }) ∧
    (t.store.orders = [] ∧ t.store.op = none ∧ t.store.waiting = [] ∧ t.store.task = .none ∧
      (∀ l ∈ t.store.lines, l.state ≠ .filling) ∧ t.store.latch = s.store.latch ∧ t.store.odometer = s.store.odometer ∧
      (s.store.writing = false → t.store.nv = s.store.nv ∧ t.store.nvFailures = s.store.nvFailures ∧
        ∀ j, (s.store.line j).state ≠ .filling → t.store.line j = s.store.line j)) ∧
    t.handler = { s.handler with state := .idle } ∧ t.cal = s.cal ∧ t.pending = s.pending

/-- The part has woken from SLEEP (R183): every block has its wake values (R19 with Table 1-8, R31, R45, R69, R85, R101,
R112, R136, R150, R162, R174, R188), a wake into RUN those of a RUN entry beside them (R18, R64, R66, R97, R149, R155).
Held days (R9, R156) count items down after all this, so what they may change is said for a wake that finds none. -/
def State.Wakes (s t : State) : Prop :=
  let run : Bool := t.ign == .run
  let quiet : Prop := s.counting.heldDays = 0
  let pends (b : Nat) : Prop := ∃ i < 8, itemBlock i = b ∧ ((s.item i).pendingKm ≠ 0 ∨ (s.item i).pendingDays ≠ 0)
  let awake : LineStation := { s.line with
    state := .init, awaitsRelease := false, quiet := 0, drivenTime := 0, sendBits := 0, sent := [], stuck := false
    silent := false, conflict := false, silence := if run then some 200 else none
    rate40 := if run then some 10 else none, rate41 := some 100 }
  let gauge : Gauge :=
    { state := if run then .sweep else .parked, evaluated := none, target := 0, filtered := 0, commanded := 0
      parkCount := 0, driven := run }
  t.stayAwake = true ∧ t.keys = s.keys.map KeyInput.forget ∧ t.arith = s.arith ∧ t.cal = s.cal ∧ t.pending = s.pending ∧
    t.counting = { s.counting with
      openCount := 0, closedCount := 0, hasClosed := false, windowTimer := if run then some 50 else none
      notedPulses := none, speed := 0, turnDistance := 0, turnActive := false, turnTicks := 0, windowSteps := 0
      windowFuel := 0, heldDays := 0, clockSet := .normal, keyIdle := none, fuelReference := none, rawFuel := none
      fuel := none, returnPending := true, keptRaw := none, latestRaw := none, requestRaw := none, refuelTimer := 0 } ∧
    t.trip = { s.trip with
      distance := 0, fuel := 0, time := 0, generation := (s.trip.generation + 1) % 256, economy := .none, average := .none
      inst := .none, range := .none } ∧
    (s.display.timer = none → s.display.transfer = none →
      t.display = { s.display with timer := some 10, transfer := some t.displayRecord }) ∧
    (t.line = { awake with queue := t.line.queue, seqs := t.line.seqs, dropped := t.line.dropped } ∧
        (s.line.queue = [] → ∃ m ∈ t.line.queue, m.topic = 0x43 ∧ m.started = false) ∧
        (quiet → ¬run → s.store.task = .none → s.line.Open 0x43 →
          t.line = awake.enter 0x43 2 .publication t.summary .none)) ∧
    t.topics = { entries := s.topics.entries.map fun e =>
        { e with state := .empty, age := 0, data := [], lastSource := none, lastSeq := none }, tick := some 10 } ∧
    t.gauges = { gauges := List.replicate 6 gauge, sweep := if run then some 0 else none, testMark := false
                 timer := some 2 } ∧
    t.rules = { slots := List.replicate 32 ⟨.clear, 0⟩, timer := some 10 } ∧
    (t.arbiter = { s.arbiter with
        warnings := t.arbiter.warnings, review := none, subs := List.replicate 8 .none, presented := none
        tick := some 10, rate43 := some 200 } ∧
      t.arbiter.warnings.length = 32 ∧ (∀ w, w ∉ [27, 28, 29] → t.warning w = .off) ∧
      (quiet → (run → s.Reminds (fun _ => .off) t) ∧ (¬run → ∀ w, t.warning w = .off))) ∧
    ((t.sound.quietCabin = false ∧ t.sound.lastLeft = false ∧ t.sound.lastRight = false ∧ t.sound.flash = some 25 ∧
        t.sound.lit = true ∧ t.sound.bulbCheck = (if run then some 300 else none) ∧ t.sound.clickTimer = 0 ∧
        t.sound.tickTimer = 0) ∧
      (quiet → ¬run → t.sound.channel = .idle ∧ t.sound.output = .silent ∧ t.sound.playing = none)) ∧
    (t.service.selected = s.service.selected ∧ (quiet → t.service.items = s.service.items) ∧
      (quiet → s.service.fetchMarks.length = 4 → ∀ b, 3 ≤ b → b ≤ 6 →
        (t.service.mark b = true ↔ s.service.mark b = true ∨ pends b))) ∧
    (t.store.nvFault = false ∧ t.store.consecutiveFailures = 0 ∧ t.store.nvFailures = s.store.nvFailures ∧
      t.store.latch = s.store.latch ∧ t.store.nv = s.store.nv ∧
      (s.store.AtRest → quiet → (∀ b, 3 ≤ b → b ≤ 6 → ¬pends b) →
        t.store = { s.store with nvFault := false, consecutiveFailures := 0 }) ∧
      (s.store.AtRest → ∀ b, 3 ≤ b → b ≤ 6 → pends b → s.service.mark b = false → s.store.find b = none →
        .fill b ∈ t.store.orders ∨ ∃ x, .fetch b x ∈ t.store.waiting)) ∧
    (s.store.task = .none → t.handler = { s.handler with state := .idle })

/-- SLEEP has been entered from `s`, and is left at once if a level asks for another state (R183): `t` has slept and then
woken, and `slept` holds of it as SLEEP was entered. -/
def State.Sleeps (s : State) (slept : State → Prop) (t : State) : Prop :=
  let asked := levelState s.ignition.run s.ignition.acc s.ignition.wake
  (asked = .sleep → s.FallsAsleep t ∧ slept t) ∧
    (asked ≠ .sleep → t.ign = asked ∧ ∃ u, s.FallsAsleep u ∧ slept u ∧ u.Wakes t)

/-! ### Invariants -/

/-- A gauge's angles in range (R89, R94, R95). -/
def Gauge.InRange (g : Gauge) : Prop := g.target ≤ 767 ∧ g.filtered ≤ 12272 ∧ g.commanded ≤ 767

/-- Every gauge's angles in range. -/
def GaugesInRange (s : State) : Prop := ∀ g ∈ s.gauges.gauges, g.InRange

/-- The clock, the day count and the held-day count in range (R9). -/
def ClockInRange (c : Counting) : Prop :=
  c.hours ≤ 23 ∧ c.minutes ≤ 59 ∧ c.seconds ≤ 59 ∧ c.dayCount ≤ 65535 ∧ c.heldDays ≤ 255

/-- The transmit queue in its bounds, every message's items in their ranges, and bytes on the line in SENDING alone (R47,
R56, Table 3-5). -/
def LineStation.InBounds (l : LineStation) : Prop :=
  QueueBounded l.queue ∧ (∀ m ∈ l.queue, m.InRange) ∧ (l.state ≠ .sending → l.sent = [])

/-- The bounds of the state (R9, R47, R56, R89, R94, R95, R163, R172). -/
def State.InBounds (s : State) : Prop :=
  s.line.InBounds ∧ OrdersBounded s.store ∧ GaugesInRange s ∧ ClockInRange s.counting ∧ s.store.nv.wf = true

/-- At most one request per target is outstanding (R24), and the list is empty while the unit is IDLE (R21). -/
def Arith.Served (a : Arith) : Prop :=
  (a.requests.map (·.target)).Nodup ∧ (a.inFlight = none → a.list = [])

/-- The workshop handler carries one request (R188 with Table 11-3): in WORKING at most one of the gauge unit, the store and
the service items has work of it, in IDLE and REPLYING none; the transmit queue holds its reply in REPLYING alone, and once;
while the part is not awake it is IDLE. A VERIFY order is that request's, and in the list while its block is read (R171). -/
def State.OneRequest (s : State) : Prop :=
  let works : Nat := (if s.gauges.testMark then 1 else 0) + (if s.store.task = .none then 0 else 1) +
    s.service.items.countP fun x => x.waitsWorkshop
  works ≤ (if s.handler.state = .working then 1 else 0) ∧
    (s.line.queue.countP fun m => m.answer == .own) ≤ (if s.handler.state = .replying then 1 else 0) ∧
    (s.ign.awake = false → s.handler.state = .idle) ∧
    s.store.orders.countP Order.isVerify + (s.store.waiting.countP fun w => w.order?.any Order.isVerify) ≤
      (match s.store.task with | .verify _ => 1 | _ => 0) ∧
    ∀ b, s.store.op = some (.readVerify b) → s.store.orders.any Order.isVerify = true

/-- Which timers run in which ignition state: those of the awake states (R45, R66, R76, R92, R105, R135, R136, R147), those
of RUN and HOLDUP (R5, R66), and those of one state alone (R64, R149, R181). -/
def TimersFollow (s : State) : Prop :=
  (s.display.timer.isSome = s.ign.awake ∧ s.line.rate41.isSome = s.ign.awake ∧ s.topics.tick.isSome = s.ign.awake ∧
    s.gauges.timer.isSome = s.ign.awake ∧ s.rules.timer.isSome = s.ign.awake ∧ s.arbiter.tick.isSome = s.ign.awake ∧
    s.arbiter.rate43.isSome = s.ign.awake ∧ s.sound.flash.isSome = s.ign.awake) ∧
  (s.counting.windowTimer.isSome = s.ign.counts ∧ s.line.rate40.isSome = s.ign.counts) ∧
  ((s.line.silence.isSome → s.ign = .run) ∧ (s.sound.bulbCheck.isSome → s.ign = .run) ∧
    (s.gauges.sweep.isSome → s.ign = .run) ∧ (s.ignition.watchTimer.isSome → s.ign = .watch) ∧
    s.ignition.holdupTimer.isSome = (s.ign == .holdup))

end Sys2Proof.Machine
end

