-- ==== Sys2Proof/Certificates/Slice0/Obligations.lean ====
section
/-! DEFINITION. The statements for the provers. -/

section

open Sys2Proof Sys2Proof.Machine

/-! ### The queue of commands and the state after reset -/

/-- A step takes the command at the front of the queue and answers its effect on the state with the queue's rest. -/
def Obligations.StepRunsFrontCommand : Prop :=
  ∀ (c : Instr) (rest : List Instr) (s : State), s.pending = c :: rest → step s = exec c (s.setPending rest)

/-- The model's choice (log entry 1): with no command waiting, an operation in flight completes next; otherwise one base
tick passes, the counting unit's timers count down, and the commands that expire are put in the queue, with the press or
release of a key whose pin has differed for three samples (R39; that pins change with commands is log entry 14). -/
def Obligations.EmptyQueueLetsTimePass : Prop :=
  ∀ s : State, s.pending = [] →
    (s.arith.inFlight.isSome → step s = .next (s.setPending [.operationComplete])) ∧
    (s.arith.inFlight = none →
      ∃ t, step s = .next t ∧ t.pending = s.due ∧
        t.counting.secondTimer = s.counting.secondTimer - 1 ∧
        (Instr.oneSecondTimer ∈ t.pending ↔ s.counting.secondTimer ≤ 1) ∧
        t.counting.windowTimer = s.counting.windowTimer.map (· - 1) ∧
        (Instr.halfSecondWindowClosure ∈ t.pending ↔ ∃ n, s.counting.windowTimer = some n ∧ n ≤ 1) ∧
        (∀ k : Key, let x := s.keys.get k
          (Instr.keyPress k ∈ t.pending ↔ x.pinLow = true ∧ x.pressed = false ∧ x.blocked = false ∧ 2 ≤ x.samples) ∧
          (Instr.keyRelease k ∈ t.pending ↔ x.pinLow = false ∧ (x.pressed = true ∨ x.blocked = true) ∧ 2 ≤ x.samples)) ∧
        t.arith = s.arith ∧ t.trip = s.trip ∧ t.service = s.service ∧ t.handler = s.handler ∧ t.cal = s.cal ∧
        t.freeIndex = s.freeIndex)

/-- The state after reset meets the invariants that every step keeps. -/
def Obligations.ResetMeetsInvariants : Prop :=
  State.reset.InBounds ∧ State.reset.arith.Served ∧ TimersFollow State.reset ∧ State.reset.shownCount = 0 ∧
    State.reset.ServiceOrdered ∧ State.reset.OrdersOnce ∧ State.reset.Arbitrated ∧ State.reset.OneRequest ∧
    State.reset.store.InSets

/-- R184: POWER_ON_RESET puts every block to its power-on values and begins the load with the read of block 7. The values
that no rule gives are the model's choice (log entry 2): filtered levels, samples, prescaler, the 1 s timer, the built-in
calibrated items until the end of LOAD, tone and index fields; so are the unused entries' fields (log entry 40). That what
is outside the part stays is the model's inference (log entry 29): the levels at its pins and on the line, what the
display driver last received, PWR-GOOD, the nonvolatile memory (but for a block whose write was in progress, which keeps a
bad check that an abandoned write left it, R176) and the waiting commands; a key still low counts as released and blocked
(R39). -/
def Obligations.PowerOnResetStartsLoad : Prop :=
  ∀ s : State, ∃ t, exec .powerOnReset s = .next t ∧
    t.ign = .load ∧ t.stayAwake = true ∧ t.ignition = { State.reset.ignition with
                                    pinAcc := s.ignition.pinAcc, pinRun := s.ignition.pinRun, pinWake := s.ignition.pinWake } ∧
    t.store.lines.map (·.state) = [.invalid, .invalid, .invalid, .invalid, .invalid, .invalid, .filling, .invalid] ∧
    t.store.op = some (.readFill 7) ∧ t.store.latch = false ∧ t.store.nvFault = false ∧ t.store.nvFailures = 0 ∧
    t.store.consecutiveFailures = 0 ∧ t.store.odometer = none ∧ t.store.pwrGood = s.store.pwrGood ∧
    (s.store.writing = false → t.store.nv = s.store.nv) ∧
    (∀ (i b n : Nat) (snapshot : List Byte) (serves : WriteFor), s.store.op = some (.write i snapshot serves n) →
      (s.store.line i).tag = some b → s.store.nv.wf = true →
      (∀ a, a < 16 * b ∨ 16 * b + 16 ≤ a → t.store.nv.read a = s.store.nv.read a) ∧
      (byteSum ((List.range 16).map fun j => s.store.nv.read (16 * b + j)) ≠ 0 →
        byteSum ((List.range 16).map fun j => t.store.nv.read (16 * b + j)) ≠ 0)) ∧
    (t.counting.hours = 0 ∧ t.counting.minutes = 0 ∧ t.counting.seconds = 0 ∧ t.counting.dayCount = 0 ∧
      t.counting.checkpoint = 100 ∧ t.counting.speed = 0 ∧ t.counting.fuel = none) ∧
    t.counting = State.reset.counting ∧ t.arith = State.reset.arith ∧ t.trip = State.reset.trip ∧
    t.display = { State.reset.display with strobed := s.display.strobed } ∧
    t.line = { State.reset.line with driven := s.line.driven } ∧
    t.topics = State.reset.topics ∧ t.gauges = State.reset.gauges ∧ t.rules = State.reset.rules ∧
    t.arbiter = State.reset.arbiter ∧ t.sound = State.reset.sound ∧ t.service = State.reset.service ∧
    t.handler = State.reset.handler ∧ t.cal = State.reset.cal ∧
    t.keys = s.keys.map KeyInput.forget ∧ t.pending = s.pending

/-! ### Every command -/

/-- The model's inference (log entry 15, from R50 and R181: an event that a state does not list leaves the state): every
command completes in every state. It leaves the queue of waiting commands, the model's own field (log entry 36), alone. -/
def Obligations.EveryCommandCompletes : Prop :=
  ∀ (c : Instr) (s : State), ∃ t, exec c s = .next t ∧ t.pending = s.pending

/-- R10, R40, R41, R159, R161: a command that is no key event and changes no ignition state leaves the selected page and
item; the holds of all keys end when the WARNING page begins to be carried, and else no key changes. That every hold ends
then, MODE's included, is the model's inference (log entry 19; R161 says only that a MODE hold steps nothing further). -/
def Obligations.HoldsEndWithThePage : Prop :=
  ∀ (c : Instr) (s t : State), c.handlesKeys = false → s.KeepsIgnition c t → exec c s = .next t →
    t.trip.page = s.trip.page ∧ t.service.selected = s.service.selected ∧
    (s.warningPage = false → t.warningPage = true → t.keys = s.keys.map KeyInput.endHold) ∧
    (s.warningPage = true ∨ t.warningPage = false → t.keys = s.keys)

/-- R45: at every command through which the part stays awake, the port's own two apart, a change of an item of the display
record requests one send, a transfer of the new content at once or the send-pending flag; without a change the port is left
alone, and so it is at every command that leaves the part in LOAD or in SLEEP. That a change of a warning's state which
leaves the record's items as they are is no such change, though R123 calls it one, is the model's choice (log entry 50). -/
def Obligations.ChangedItemsAreSent : Prop :=
  ∀ (c : Instr) (s t : State), c.drivesDisplay = false → exec c s = .next t →
    (s.ign.awake = false → s.KeepsIgnition c t → t.display = s.display) ∧
    (s.StaysAwake c t → s.display.timer.isSome = true →
      (s.recordItems = t.recordItems → t.display = s.display) ∧
      (s.recordItems ≠ t.recordItems → s.display.transfer = none →
        t.display = { s.display with transfer := some (t.recordItems ++ [checkByteOf t.recordItems]) }) ∧
      (s.recordItems ≠ t.recordItems → s.display.transfer.isSome = true →
        t.display = { s.display with sendPending := true }))

/-! ### Invariants of every step -/

/-- R9, R47, R56, R57, R89, R94, R95, R163, R172: every step keeps the bounds of the state: the transmit queue and the
order list hold no more than they may, no two not-yet-started messages share a topic, every message's items (Table 3-5),
every gauge's angles, the clock and the day counts are in range, bytes are on the line in SENDING alone, and the
nonvolatile memory keeps its canonical form. R164: every cache line with a tag goes on holding a block of its own set. -/
def Obligations.StateStaysInBounds : Prop :=
  (∀ s t : State, s.InBounds → step s = .next t → t.InBounds) ∧
  ∀ s t : State, s.store.InSets → step s = .next t → t.store.InSets

/-- R21, R24, R25: no step lets a target have two outstanding requests, or the list hold one while the unit is IDLE. R188:
no step lets the workshop handler carry two requests, or have one in progress in IDLE. -/
def Obligations.RequestsStayUnique : Prop :=
  (∀ s t : State, s.arith.Served → step s = .next t → t.arith.Served) ∧
  ∀ s t : State, s.OneRequest → step s = .next t → t.OneRequest

/-- R45, R64, R66, R76, R92, R105, R135, R147, R149, R181: at every step the periodic timers, the
silence, watch and holdup timers, the bulb check and the sweep run in their ignition states alone. -/
def Obligations.TimersFollowIgnition : Prop :=
  ∀ s t : State, TimersFollow s → step s = .next t → TimersFollow t

/-- R118, R121: no step leaves more than one warning SHOWN. -/
def Obligations.AtMostOneWarningShown : Prop :=
  ∀ s t : State, s.shownCount ≤ 1 → step s = .next t → t.shownCount ≤ 1

/-- R177: once set, the protection latch stays set at every step but a power-on reset, the step with no command waiting
included. R164: the system lines, filled and pinned by the start-up load, stay pinned and present until then too. -/
def Obligations.LatchStaysSet : Prop :=
  (∀ s t : State, s.pending.head? ≠ some .powerOnReset → s.store.latch = true → step s = .next t → t.store.latch = true) ∧
  ∀ s t : State, s.pending.head? ≠ some .powerOnReset → s.ign ≠ .load → s.store.SystemPinned → step s = .next t →
    t.store.SystemPinned

/-! ### Counting unit (Chapter 1) -/

/-- R1, R2: in RUN and HOLDUP the first edge of all, and any edge at least 100 µs after the last accepted one, is a pulse:
it adds 1 to the divider and to the open window; below the divisor nothing else changes. Any other edge is ignored: only
the interval since the last accepted one grows, held at 100 µs. -/
def Obligations.PulsesAreCounted : Prop :=
  ∀ (e : Nat) (s : State),
    (s.AcceptsPulse e → s.counting.stepCount + 1 < s.cal.divisor → s.store.Settled →
      ∃ t, exec (.speedPulse e) s = .next t ∧ KeptBut [.counting, .display] s t ∧
        t.counting = { s.counting with
          sinceAccepted := some 0, openCount := min 65535 (s.counting.openCount + 1)
          stepCount := s.counting.stepCount + 1 }) ∧
    (¬s.AcceptsPulse e →
      ∃ t, exec (.speedPulse e) s = .next t ∧ KeptBut [.counting, .display] s t ∧
        t.counting = { s.counting with sinceAccepted := s.counting.sinceAccepted.map fun x => min 100 (x + e) })

/-- R2, R3 (Table 1-1): the pulse that brings the divider to D gives one distance step: every count of the table, the three
trip records and the protection latch; no other byte of a record block changes. -/
def Obligations.DistanceStepCounts : Prop :=
  ∀ (e : Nat) (s : State), s.AcceptsPulse e →
    s.cal.divisor ≤ s.counting.stepCount + 1 → s.counting.odometerSub < 9 → s.counting.serviceSub < 99 →
    s.store.AtRest → s.store.SystemPresent →
    ∃ t, exec (.speedPulse e) s = .next t ∧
      t.counting = { s.counting with
        sinceAccepted := some 0, openCount := min 65535 (s.counting.openCount + 1), stepCount := 0
        odometerSub := s.counting.odometerSub + 1, serviceSub := s.counting.serviceSub + 1
        turnDistance := if s.counting.turnActive then min 65535 (s.counting.turnDistance + 1) else s.counting.turnDistance
        windowSteps := min 65535 (s.counting.windowSteps + 1), stepTally := (s.counting.stepTally + 1) % 65536 } ∧
      (∀ r : TripRecord, t.tripView r = { s.tripView r with distance := min 16777215 ((s.tripView r).distance + 1) }) ∧
      t.store = (({ s.store with latch := true }.update 1 (gainTotal 0 1)).update 2 (gainTotal 0 1)) ∧
      (∀ b, b ≠ 1 → b ≠ 2 → t.store.dataOf b = s.store.dataOf b) ∧
      t.trip = { s.trip with distance := min 16777215 (s.trip.distance + 1) } ∧
      KeptBut [.counting, .trip, .store, .display] s t

/-- R7, R8: the tenth step of the sub-count raises the odometer by 0.1 km unless it stands at 9,999,999; its state is
left; each increment lowers the checkpoint counter, and the one that brings it to 0 reloads it with 100 and has block 0
written. -/
def Obligations.OdometerGains : Prop :=
  ∀ (e : Nat) (s : State), s.AcceptsPulse e →
    s.cal.divisor ≤ s.counting.stepCount + 1 → s.counting.odometerSub = 9 → s.counting.serviceSub < 99 →
    s.store.AtRest → s.store.NoneWriting → s.store.SystemPresent →
    ∃ t, exec (.speedPulse e) s = .next t ∧ t.counting.odometerSub = 0 ∧ t.counting.stepCount = 0 ∧
      byteAt (t.store.dataOf 0) 3 = byteAt (s.store.dataOf 0) 3 ∧ t.store.present 0 = true ∧
      (9999999 ≤ s.store.odometerValue →
        t.store.odometerValue = s.store.odometerValue ∧ t.counting.checkpoint = s.counting.checkpoint) ∧
      (s.store.odometerValue < 9999999 → t.store.odometerValue = s.store.odometerValue + 1) ∧
      (s.store.odometerValue < 9999999 → 1 < s.counting.checkpoint →
        t.counting.checkpoint = s.counting.checkpoint - 1 ∧ t.store.AtRest) ∧
      (s.store.odometerValue < 9999999 → s.counting.checkpoint = 1 → s.store.pwrGood = true → s.store.nvFault = false →
        t.counting.checkpoint = 100 ∧ t.store.orders = [.single 0 false none] ∧
        ∃ i, t.store.op = some (.write i (t.store.dataOf 0) .single 4) ∧ (t.store.line i).tag = some 0 ∧
          (t.store.line i).state = .writing) ∧
      KeptBut [.counting, .trip, .store, .display] s t

/-- R5: a closure moves the open count to the closed one and restarts the window; a first closure issues nothing, a later
one asks for SPEED with N = n, K = 360 and C = D, or notes n while a SPEED request is outstanding. That the command does
nothing while the windows are stopped is the model's choice (log entry 10). -/
def Obligations.WindowCloses : Prop :=
  ∀ s : State,
    (s.counting.windowTimer = none → ∃ t, exec .halfSecondWindowClosure s = .next t ∧ KeptBut [.display] s t) ∧
    (s.counting.windowTimer.isSome = true →
      let c := s.counting
      let n := c.closedCount + c.openCount
      let closed := { c with closedCount := c.openCount, openCount := 0, hasClosed := true, windowTimer := some 50 }
      let ask : Request :=
        { target := .speed, n := n, k := 360, c := s.cal.divisor, base := 0, generation := 0, afterReturn := false }
      (c.hasClosed = false → ∃ t, exec .halfSecondWindowClosure s = .next t ∧ t.counting = closed ∧
        KeptBut [.counting, .display] s t) ∧
      (c.hasClosed = true → s.arith.outstanding .speed = true →
        ∃ t, exec .halfSecondWindowClosure s = .next t ∧ t.counting = { closed with notedPulses := some n } ∧
          KeptBut [.counting, .display] s t) ∧
      (c.hasClosed = true → s.arith.inFlight.isSome = true → s.arith.outstanding .speed = false →
        ∃ t, exec .halfSecondWindowClosure s = .next t ∧ t.counting = closed ∧
          t.arith = { s.arith with list := s.arith.list ++ [ask] } ∧ KeptBut [.counting, .arith, .display] s t) ∧
      (c.hasClosed = true → s.arith.inFlight = none → s.arith.list = [] →
        ∃ t, exec .halfSecondWindowClosure s = .next t ∧ t.counting = closed ∧
          t.arith = { s.arith with inFlight := some ask } ∧ KeptBut [.counting, .arith, .display] s t))

/-- R9: the 1 s timer reloads and advances the clock by one second, with carries; at midnight the day count gains 1, held at
65,535, and in SLEEP and LOAD the "1 day" is held, saturating at 255. -/
def Obligations.SecondAdvancesClock : Prop :=
  ∀ s : State, ClockInRange s.counting → ∃ t, exec .oneSecondTimer s = .next t ∧
    t.counting.secondTimer = 100 ∧ t.counting.hours ≤ 23 ∧ t.counting.minutes ≤ 59 ∧ t.counting.seconds ≤ 59 ∧
    (t.counting.hours * 60 + t.counting.minutes) * 60 + t.counting.seconds =
      ((s.counting.hours * 60 + s.counting.minutes) * 60 + s.counting.seconds + 1) % 86400 ∧
    (¬s.counting.BeforeMidnight →
      t.counting.dayCount = s.counting.dayCount ∧ t.counting.heldDays = s.counting.heldDays) ∧
    (s.counting.BeforeMidnight →
      t.counting.dayCount = min 65535 (s.counting.dayCount + 1) ∧
      (s.ign.awake = true → t.counting.heldDays = s.counting.heldDays) ∧
      (s.ign.awake = false → t.counting.heldDays = min 255 (s.counting.heldDays + 1))) ∧
    (s.ign.awake = false → s.store.Settled → KeptBut [.counting, .display] s t)

/-- R12: in RUN the 1 s timer adds a second to each trip record, held at 16,777,215; in the other states no time is
added. -/
def Obligations.TripTimeAdvances : Prop :=
  ∀ s : State, s.store.AtRest → s.store.SystemPresent → ClockInRange s.counting → ¬s.counting.BeforeMidnight →
    ∃ t, exec .oneSecondTimer s = .next t ∧
      (s.ign = .run → ∀ r : TripRecord, (t.tripView r).time = min 16777215 ((s.tripView r).time + 1)) ∧
      (s.ign ≠ .run → ∀ r : TripRecord, (t.tripView r).time = (s.tripView r).time) ∧
      (∀ r : TripRecord, (t.tripView r).distance = (s.tripView r).distance ∧ (t.tripView r).fuel = (s.tripView r).fuel ∧
        (t.tripView r).generation = (s.tripView r).generation) ∧
      t.store.dataOf 0 = s.store.dataOf 0 ∧ KeptBut [.counting, .arith, .trip, .store, .line, .handler, .freeIndex, .display] s t

/-- R16: at each 1 s expiry in WATCH, ACCESSORY, RUN or HOLDUP with E2 FRESH and both F and F_raw values, the refuel
condition runs the refuel timer and its tenth second sets F to F_raw; otherwise F moves toward F_raw by a sixteenth, at
least 1. In every other case F stays and the timer is 0. The built-in threshold is 50. -/
def Obligations.FuelFilterMoves : Prop :=
  builtInDefaults.refuel = 50 ∧ ∀ s : State, ∃ t, exec .oneSecondTimer s = .next t ∧
    (∀ f raw : Nat, s.ign.awake = true → (s.entry 2).state = .fresh → s.counting.fuel = some f →
      s.counting.rawFuel = some raw →
      let moved := if f < raw then f + max 1 ((raw - f) / 16) else if raw < f then f - max 1 ((f - raw) / 16) else f
      t.counting.rawFuel = some raw ∧
      (f + s.cal.refuel ≤ raw → s.counting.speed < 20 → 9 ≤ s.counting.refuelTimer →
        t.counting.fuel = some raw ∧ t.counting.refuelTimer = 0) ∧
      (f + s.cal.refuel ≤ raw → s.counting.speed < 20 → s.counting.refuelTimer < 9 →
        t.counting.fuel = some moved ∧ t.counting.refuelTimer = s.counting.refuelTimer + 1) ∧
      (¬(f + s.cal.refuel ≤ raw ∧ s.counting.speed < 20) →
        t.counting.fuel = some moved ∧ t.counting.refuelTimer = 0)) ∧
    ((s.ign.awake = false ∨ (s.entry 2).state ≠ .fresh ∨ s.counting.fuel = none ∨ s.counting.rawFuel = none) →
      t.counting.fuel = s.counting.fuel ∧ t.counting.rawFuel = s.counting.rawFuel ∧ t.counting.refuelTimer = 0)

/-! ### Arithmetic unit (Chapter 2) -/

/-- R20 (Table 2-1): SCALE-DIVIDE rounds N × K ÷ C half up; it gives NONE for C = 0 alone, SATURATED at 65,534 above 65,534,
and never 65,535. The product with its half divisor stays below 2 to the power 40. -/
def Obligations.ScaleDivideRounds : Prop :=
  ∀ n k c : Nat, n ≤ 16777215 → k ≤ 65535 → c ≤ 16777215 →
    (n * k ≤ 1099494785025 ∧ n * k + c / 2 ≤ 1099503173632 ∧ 1099503173632 < 2 ^ 40) ∧
    (c = 0 → scaleDivide n k c = .none) ∧
    (0 < c → ∃ q, c * (2 * q) ≤ 2 * (n * k) + c ∧ 2 * (n * k) + c < c * (2 * q + 2) ∧
      (65534 < q → scaleDivide n k c = .saturated 65534) ∧ (q ≤ 65534 → scaleDivide n k c = .valid q)) ∧
    (0 < c → n = 0 ∨ k = 0 → scaleDivide n k c = .valid 0) ∧ (scaleDivide n k c).value ≠ 65535

/-- R22, R23: a curve of nine ordered 16-bit points gives an end value outside its points and a flat segment's value
inside it; on a rising segment the request delivers a value between the segment's two y values. -/
def Obligations.CurveFollowsItsPoints : Prop :=
  ∀ (c : Curve) (x : Int), c.xs.length = 9 → c.ys.length = 9 → c.ordered = true →
    (∀ y ∈ c.ys, y ≤ 65534) →
    (x ≤ (c.xs.getD 0 0 : Int) → c.evaluate x = .direct (c.ys.getD 0 0)) ∧
    ((c.xs.getD 8 0 : Int) ≤ x → c.evaluate x = .direct (c.ys.getD 8 0)) ∧
    (∀ i < 8, (c.xs.getD i 0 : Int) ≤ x → x < (c.xs.getD (i + 1) 0 : Int) →
      (c.ys.getD (i + 1) 0 = c.ys.getD i 0 → c.evaluate x = .direct (c.ys.getD i 0)) ∧
      ((c.xs.getD 0 0 : Int) < x → c.ys.getD i 0 < c.ys.getD (i + 1) 0 →
        ∃ n : Nat, (n : Int) = x - (c.xs.getD i 0 : Int) ∧
          c.evaluate x = .request n (c.ys.getD (i + 1) 0 - c.ys.getD i 0) (c.xs.getD (i + 1) 0 - c.xs.getD i 0)
            (c.ys.getD i 0) ∧
          ∃ v, scaleDivide n (c.ys.getD (i + 1) 0 - c.ys.getD i 0) (c.xs.getD (i + 1) 0 - c.xs.getD i 0) = .valid v ∧
            c.ys.getD i 0 + v ≤ c.ys.getD (i + 1) 0))

/-- R21, R26: a completion that issues no request of its own frees the unit, and the arbiter hands over the oldest request
of the most urgent class, if there is one. That in IDLE the command changes nothing is the model's choice (log entries 10
and 15). -/
def Obligations.CompletionHandsOver : Prop :=
  ∀ s : State,
    (s.arith.inFlight = none → ∃ t, exec .operationComplete s = .next t ∧ KeptBut [.display] s t) ∧
    (∀ r, s.arith.inFlight = some r → r.target ≠ .fuel → (r.target = .speed → s.counting.notedPulses = none) →
      ∃ t, exec .operationComplete s = .next t ∧
        (s.arith.list = [] → t.arith.inFlight = none ∧ t.arith.list = []) ∧
        (∀ (i : Nat) (q : Request), s.arith.list[i]? = some q →
          (∀ (j : Nat) (p : Request), s.arith.list[j]? = some p →
            q.target.rank < p.target.rank ∨ (q.target.rank = p.target.rank ∧ i ≤ j)) →
          t.arith.inFlight = some q ∧ t.arith.list = s.arith.list.eraseIdx i))

/-- R5, R6, R15, R17, R27, R93: a SPEED, FUEL, GAUGE, INST or RANGE completion writes its target: speed only while the
windows run, a gauge's T only in TRACK and HOLD, F with F_raw when the request was issued after the pending return. A FUEL
completion whose raw value is no longer the latest evaluates the latest: its output is taken at once, or a new FUEL
request is issued. That a noted n is asked for when the SPEED request completes in every state, the windows stopped
included, is the model's inference (log entry 27). -/
def Obligations.ResultsReachTargets : Prop :=
  ∀ (s : State) (r : Request), s.arith.inFlight = some r →
    ∃ t, exec .operationComplete s = .next t ∧
      (r.target = .speed →
        t.counting = { s.counting with
          speed := if s.ign.counts then r.result.value else s.counting.speed, notedPulses := none } ∧
          (∀ n, s.counting.notedPulses = some n →
            { target := .speed, n := n, k := 360, c := s.cal.divisor, base := 0, generation := 0, afterReturn := false } ∈
              t.arith.requests) ∧
          (s.counting.notedPulses = none → ∀ q ∈ t.arith.requests, q ∈ s.arith.list) ∧
          KeptBut [.counting, .arith, .display] s t) ∧
      (r.target = .fuel → s.counting.latestRaw = none ∨ s.counting.latestRaw = s.counting.requestRaw →
        t.counting = { s.counting with
          rawFuel := some (r.base + r.result.value)
          fuel := if r.afterReturn && s.counting.returnPending then some (r.base + r.result.value) else s.counting.fuel
          returnPending := s.counting.returnPending && !r.afterReturn } ∧ KeptBut [.counting, .arith, .display] s t) ∧
      (r.target = .fuel → ∀ v, s.counting.latestRaw = some v → s.counting.requestRaw ≠ some v →
        let y := r.base + r.result.value
        let got := { s.counting with
          rawFuel := some y, fuel := if r.afterReturn && s.counting.returnPending then some y else s.counting.fuel
          returnPending := s.counting.returnPending && !r.afterReturn }
        KeptBut [.counting, .arith, .display] s t ∧
        (∀ z, s.cal.tank.evaluate v = .direct z → (∀ q ∈ t.arith.requests, q ∈ s.arith.list) ∧ t.counting = { got with
          rawFuel := some z, fuel := if got.returnPending then some z else got.fuel, returnPending := false }) ∧
        ∀ n k c base, s.cal.tank.evaluate v = .request n k c base → t.counting = { got with requestRaw := some v } ∧
          ({ target := .fuel, n := n, k := k, c := c, base := base, generation := 0, afterReturn := got.returnPending } :
            Request) ∈ t.arith.requests) ∧
      (r.target = .inst → t.trip = { s.trip with inst := r.result } ∧ KeptBut [.trip, .arith, .display] s t) ∧
      (r.target = .range → t.trip = { s.trip with range := r.result } ∧ KeptBut [.trip, .arith, .display] s t) ∧
      (∀ g, r.target = .gauge g → g < s.gauges.gauges.length →
        t.gauge g = (if (s.gauge g).state = .track ∨ (s.gauge g).state = .hold then
          { s.gauge g with target := min 767 (r.base + r.result.value) } else s.gauge g) ∧
        (∀ h, h ≠ g → t.gauge h = s.gauge h) ∧ KeptBut [.gauges, .arith, .display] s t)

/-- R28 (Table 2-7): a trip record takes its result only from a request of its own generation; another is discarded and
counted, and the record stays. The record's totals and its other result stay in both cases. -/
def Obligations.RecordResultsNeedGeneration : Prop :=
  ∀ (s : State) (r : Request) (k : TripRecord), s.arith.inFlight = some r → s.store.SystemPresent →
    r.target = .economy k ∨ r.target = .average k →
    ∃ t, exec .operationComplete s = .next t ∧ KeptBut [.trip, .store, .arith, .freeIndex, .display] s t ∧
      (r.generation ≠ (s.tripView k).generation →
        (∀ j, t.tripView j = s.tripView j) ∧ t.arith.discarded = min 255 (s.arith.discarded + 1)) ∧
      (r.generation = (s.tripView k).generation →
        (∀ j, j ≠ k → t.tripView j = s.tripView j) ∧ t.arith.discarded = s.arith.discarded ∧
        (r.target = .economy k → t.tripView k = { s.tripView k with economy := r.result }) ∧
        (r.target = .average k → t.tripView k = { s.tripView k with average := r.result }))

/-- R34 to R38: at the 1 s timer in ACCESSORY and RUN the trip pass zeroes the window and asks, in order, for every target
that is not outstanding and whose threshold is reached; a target below its threshold becomes NONE. That the second is
counted and the fuel filter moves before the snapshot is the model's choice of an order that R34 leaves open (log entry
16). -/
def Obligations.TripPassAsks : Prop :=
  ∀ s : State, s.ign.keysAccepted = true → s.store.AtRest → s.store.SystemPresent → ClockInRange s.counting →
    ¬s.counting.BeforeMidnight → s.arith.Served →
    ∃ t, exec .oneSecondTimer s = .next t ∧ t.counting.windowSteps = 0 ∧ t.counting.windowFuel = 0 ∧
      (let asks (r : TripRecord) : List Request :=
        (if 50 ≤ (t.tripView r).distance then
          [tripRequest (.economy r) (t.tripView r).fuel 100 (t.tripView r).distance (t.tripView r).generation] else []) ++
        (if 60 ≤ (t.tripView r).time then
          [tripRequest (.average r) (t.tripView r).distance 360 (t.tripView r).time (t.tripView r).generation] else [])
      let inst : List Request :=
        if 3 ≤ s.counting.windowSteps then [tripRequest .inst s.counting.windowFuel 100 s.counting.windowSteps 0] else []
      let range : List Request :=
        match t.counting.fuel, t.trip.economy with
        | some f, .valid e => [tripRequest .range f 100 (if 500 ≤ t.trip.distance then e else s.cal.economy) 0]
        | some f, _ => [tripRequest .range f 100 s.cal.economy 0]
        | none, _ => []
      t.arith.requests = s.arith.requests ++
        (asks .a ++ asks .b ++ asks .journey ++ inst ++ range).filter fun q => !s.arith.outstanding q.target) ∧
      (∀ r : TripRecord,
        (t.tripView r).economy = (if s.arith.outstanding (.economy r) = false ∧ (t.tripView r).distance < 50 then .none
          else (s.tripView r).economy) ∧
        (t.tripView r).average = (if s.arith.outstanding (.average r) = false ∧ (t.tripView r).time < 60 then .none
          else (s.tripView r).average)) ∧
      t.trip.inst = (if s.arith.outstanding .inst = false ∧ s.counting.windowSteps < 3 then .none else s.trip.inst) ∧
      t.trip.range = (if s.arith.outstanding .range = false ∧ t.counting.fuel = none then .none else s.trip.range) ∧
      KeptBut [.counting, .arith, .trip, .store, .line, .handler, .freeIndex, .display] s t

/-! ### Keys and display port (Chapter 2) -/

/-- R39, R40, R42, R144, with the holds of R10, R41, R159, R161: outside clock setting an accepted press of MODE, RESET or
SET clicks, unless a chime sounds, and starts its hold. On the WARNING page it does nothing more; on the pages MODE turns
the page (CLOCK apart), SET turns a trip page's view, and RESET, SET on CLOCK and MODE on SERVICE wait for their marks. -/
def Obligations.PressesTurnPages : Prop :=
  ∀ (s : State) (k : Key), s.KeyReady k → s.store.Settled → s.counting.clockSet = .normal → k ≠ .ack →
    (k = .mode → s.trip.page = .clock → s.warningPage = true) →
    ∃ t, exec (.keyPress k) s = .next t ∧
      t.sound = (if s.sound.output = .chime then s.sound
        else { s.sound with output := .click, clickTimer := 2, tickTimer := 0 }) ∧
      KeptBut [.keys, .trip, .sound, .display] s t ∧
      (s.warningPage = true ∨ (k = .set ∧ s.trip.page ∈ [.range, .service]) ∨
          (k = .reset ∧ s.trip.page ∈ [.journey, .range, .clock]) →
        t.trip = s.trip ∧ t.keys = s.keys.put ((s.keys.get k).down .idle) k) ∧
      (s.warningPage = false →
        (k = .mode → s.trip.page ≠ .service → t.trip = { s.trip with page := t.trip.page } ∧
          t.trip.page.code = s.trip.page.code + 1 ∧
          t.keys = (s.keys.put ((s.keys.get .mode).down .idle) .mode).map KeyInput.endHold) ∧
        (k = .mode → s.trip.page = .service →
          t.trip = s.trip ∧ t.keys = s.keys.put ((s.keys.get .mode).down (.serviceStep false)) .mode) ∧
        (k = .set → s.trip.page ∈ [.tripA, .tripB, .journey] → t.trip = { s.trip with view := t.trip.view } ∧
          t.trip.view.code = (s.trip.view.code + 1) % 3 ∧ t.keys = s.keys.put ((s.keys.get .set).down .idle) .set) ∧
        (k = .set → s.trip.page = .clock →
          t.trip = s.trip ∧ t.keys = s.keys.put ((s.keys.get .set).down .clockSet) .set) ∧
        (k = .reset → s.trip.page ∈ [.tripA, .tripB] → t.trip = s.trip ∧ t.keys =
          s.keys.put ((s.keys.get .reset).down (.tripReset (if s.trip.page = .tripA then .a else .b))) .reset) ∧
        (k = .reset → s.trip.page = .service →
          t.trip = s.trip ∧ t.keys = s.keys.put ((s.keys.get .reset).down .serviceReset) .reset))

/-- R39, R40, R161: MODE on the CLOCK page selects SERVICE, and a selected item whose block is absent then has a FETCH
outstanding. A key that is pressed already, or that must first be sampled high, accepts no press, and outside ACCESSORY
and RUN a press only shows the key low and pressed. -/
def Obligations.ServicePageFetches : Prop :=
  ∀ s : State,
    (s.KeyReady .mode → s.counting.clockSet = .normal → s.trip.page = .clock → s.warningPage = false →
      ∃ t, exec (.keyPress .mode) s = .next t ∧ t.trip = { s.trip with page := .service } ∧
        t.keys = (s.keys.put ((s.keys.get .mode).down .idle) .mode).map KeyInput.endHold ∧
        t.service.selected = s.service.selected ∧ t.service.items = s.service.items ∧
        (∀ i < 8, s.service.selected = some i → s.store.present (itemBlock i) = false →
          s.service.fetchMarks.length = 4 → t.service.mark (itemBlock i) = true) ∧
        ((∀ i, s.service.selected = some i → s.store.present (itemBlock i) = true) →
          s.store.Settled → KeptBut [.keys, .trip, .sound, .display] s t) ∧
        KeptBut [.keys, .trip, .sound, .service, .store, .line, .handler, .display] s t) ∧
    (∀ k : Key, s.store.Settled → (s.keys.get k).pressed = true ∨ (s.keys.get k).blocked = true →
      ∃ t, exec (.keyPress k) s = .next t ∧ t.keys = s.keys.put { s.keys.get k with pinLow := true, samples := 0 } k ∧
        KeptBut [.keys, .display] s t) ∧
    (∀ k : Key, s.store.Settled → (s.keys.get k).pressed = false → (s.keys.get k).blocked = false →
      s.ign.keysAccepted = false →
      ∃ t, exec (.keyPress k) s = .next t ∧ t.keys = s.keys.put ((s.keys.get k).down .idle) k ∧
        KeptBut [.keys, .display] s t)

/-- R10, R11 (Table 1-3): the 2 s mark of SET enters HOUR-SET and starts the key-idle timer at 10 s. In the setting every
accepted press restarts that timer; MODE and SET set the clock, RESET does nothing, ACK leaves the clock to itself (what
the arbiter does with it is AcknowledgementsAreTaken); the last SET, and the timer's expiry, return to NORMAL with the
seconds at 0. That the last SET press starts no hold for a new setting is the model's choice (log entry 44). -/
def Obligations.ClockIsSet : Prop :=
  ∀ s : State,
    (s.keys.set.hold = .clockSet → ∃ t, exec .clockSetHold s = .next t ∧
      t.counting = { s.counting with clockSet := .hourSet, keyIdle := some 1000 } ∧ t.keys.set = s.keys.set.endHold ∧
      t.keys.mode = s.keys.mode ∧ t.keys.reset = s.keys.reset ∧ t.keys.ack = s.keys.ack ∧
      KeptBut [.counting, .keys, .display] s t) ∧
    (s.counting.clockSet ≠ .normal →
      (s.counting.keyIdle.isSome = true → ∃ t, exec .keyIdleTimerExpiry s = .next t ∧
        t.counting = { s.counting with clockSet := .normal, seconds := 0, keyIdle := none } ∧
        KeptBut [.counting, .display] s t) ∧
      (s.KeyReady .ack → ∃ t, exec (.keyPress .ack) s = .next t ∧ t.counting = { s.counting with keyIdle := some 1000 } ∧
        (t.keys.get .ack).pressed = true ∧ (t.keys.get .ack).hold = .idle ∧
        KeptBut [.keys, .counting, .arbiter, .sound, .store, .line, .handler, .display] s t ∧
        (s.store.Settled → t.store = s.store)) ∧
      (∀ k : Key, s.KeyReady k → s.store.Settled → ClockInRange s.counting → k ≠ .ack →
        ∃ t, exec (.keyPress k) s = .next t ∧ KeptBut [.counting, .keys, .sound, .display] s t ∧
          t.keys = s.keys.put ((s.keys.get k).down .idle) k ∧
          (k = .reset → t.counting = { s.counting with keyIdle := some 1000 }) ∧
          (k = .mode → s.counting.clockSet = .hourSet →
            t.counting = { s.counting with hours := (s.counting.hours + 1) % 24, keyIdle := some 1000 }) ∧
          (k = .mode → s.counting.clockSet = .minuteSet →
            t.counting = { s.counting with minutes := (s.counting.minutes + 1) % 60, keyIdle := some 1000 }) ∧
          (k = .set → s.counting.clockSet = .hourSet →
            t.counting = { s.counting with clockSet := .minuteSet, keyIdle := some 1000 }) ∧
          (k = .set → s.counting.clockSet = .minuteSet →
            t.counting = { s.counting with clockSet := .normal, seconds := 0, keyIdle := none })))

/-- R32, R41: the 2 s mark of a hold of RESET for trip A or B zeroes that record's totals, advances its generation by 1 mod
256 and sets both its results to NONE, in one UPDATE of its line; the other records stay. -/
def Obligations.TripResetClearsRecord : Prop :=
  ∀ (s : State) (r : TripRecord), s.keys.reset.hold = .tripReset r → r ≠ .journey → s.store.SystemPresent →
    ∃ t, exec .tripResetHold s = .next t ∧
      t.tripView r = { distance := 0, fuel := 0, time := 0, generation := ((s.tripView r).generation + 1) % 256,
                       economy := .none, average := .none } ∧
      (∀ q, q ≠ r → t.tripView q = s.tripView q) ∧ t.store.dataOf 0 = s.store.dataOf 0 ∧
      (∀ i, s.store.presentLine r.block = some i →
        (t.store.line i).state = (if (s.store.line i).state = .writing then .writing else .dirty) ∧
        (t.store.line i).redirty = ((s.store.line i).redirty || (s.store.line i).state == .writing)) ∧
      t.keys = s.keys.put s.keys.reset.endHold .reset ∧ KeptBut [.keys, .store, .freeIndex, .display] s t

/-- R39, R40: a release ends the key's hold; a MODE press on the SERVICE page whose hold still stands and has stepped
nothing selects TRIP A, and no other release selects a page. That a release of MODE whose hold the WARNING page has ended
selects nothing is the model's inference (log entry 19). -/
def Obligations.ReleaseEndsHold : Prop :=
  ∀ (s : State) (k : Key), ∃ t, exec (.keyRelease k) s = .next t ∧
    (t.keys.get k).pinLow = false ∧ (t.keys.get k).samples = 0 ∧
    (t.keys.get k).pressed = false ∧ (t.keys.get k).blocked = false ∧
    (t.keys.get k).hold = .idle ∧ KeptBut [.keys, .trip, .display] s t ∧
    ((s.keys.get k).pressed = true ∧ (s.keys.get k).hold = .serviceStep false →
      t.trip = { s.trip with page := .tripA }) ∧
    (¬((s.keys.get k).pressed = true ∧ (s.keys.get k).hold = .serviceStep false) →
      t.trip = s.trip ∧ ∀ q, q ≠ k → t.keys.get q = s.keys.get q)

/-- R161: a 1 s mark of MODE on the SERVICE page steps the selection to the next active item, wrapping from the highest to
the lowest; a changed selection whose block is absent has a FETCH of it outstanding. The hold runs on to its
next mark; a hold of RESET for a service reset ends with a change of the item. -/
def Obligations.SelectionSteps : Prop :=
  ∀ (s : State) (b : Bool) (i : Nat), s.keys.mode.hold = .serviceStep b → s.service.selected = some i →
    s.itemActive i = true → i < 8 → ∃ t, exec .serviceStepHold s = .next t ∧
      (∀ j < 8, i < j → s.itemActive j = true → (∀ n, i < n → n < j → s.itemActive n = false) →
        t.service.selected = some j) ∧
      ((∀ n, i < n → n < 8 → s.itemActive n = false) →
        ∀ j ≤ i, s.itemActive j = true → (∀ n < j, s.itemActive n = false) → t.service.selected = some j) ∧
      (∀ j < 8, t.service.selected = some j → j ≠ i → s.store.present (itemBlock j) = false →
        s.service.fetchMarks.length = 4 → t.service.mark (itemBlock j) = true) ∧
      t.service.items = s.service.items ∧ t.keys.mode = { s.keys.mode with hold := .serviceStep true, holdTicks := 0 } ∧
      (s.keys.reset.hold ≠ .serviceReset ∨ t.service.selected = s.service.selected → t.keys.reset = s.keys.reset) ∧
      (s.keys.reset.hold = .serviceReset → t.service.selected ≠ s.service.selected →
        t.keys.reset = s.keys.reset.endHold) ∧ t.keys.set = s.keys.set ∧ t.keys.ack = s.keys.ack ∧
      KeptBut [.keys, .service, .store, .line, .handler, .display] s t ∧
      ((∀ j < 8, s.store.present (itemBlock j) = true) → s.store.Settled →
        t.store = s.store ∧ t.line = s.line ∧ t.handler = s.handler ∧ t.service.fetchMarks = s.service.fetchMarks)

/-- R158, R159, R160 (Table 9-5): at the 5 s mark in RUN, STOPPED, on the SERVICE page, and at a workshop's SERVICE RESET
of an active item in any awake state, a reset of an item whose block is present sets its counts to its intervals, its
last-service odometer to the odometer, its pending counts to 0 and its state to OK, and places the block's write-back
order; the workshop is answered DONE when the order is placed. Of an absent block the reset waits, marked by its source,
with a FETCH of the block outstanding, and the workshop's answer is withheld. Of an item that is not active the workshop
is answered NOT ACTIVE, and nothing is done. -/
def Obligations.ServiceResetRestoresIntervals : Prop :=
  ∀ (s : State) (i : Nat), i < 8 → i < s.service.items.length → s.store.AtRest →
    let f := s.itemFigures i
    let block := itemBlock i
    let byKey : Prop := s.keys.reset.hold = .serviceReset ∧ s.ign = .run ∧ s.counting.speed < 20 ∧ s.warningPage = false ∧
      s.trip.page = .service ∧ s.service.selected = some i
    let waits (x : ServiceItem) (t : State) : Prop := t.item i = x ∧ (∀ j, j ≠ i → t.item j = s.item j) ∧
      t.service.selected = s.service.selected ∧ t.service.mark block = true ∧
      (∀ c, 3 ≤ c → c ≠ block → t.service.mark c = s.service.mark c) ∧
      (s.service.mark block = true → t.store = s.store) ∧
      (s.service.mark block = false → s.store.find block = none →
        .fill block ∈ t.store.orders ∨ ∃ b, .fetch block b ∈ t.store.waiting)
    (s.itemActive i = false → s.TakesRequest → ∃ t, exec (.serviceReset (byteOf i)) s = .next t ∧
      Replies 0x65 .notActive [] s t ∧ KeptBut [.line, .handler, .display] s t) ∧
    (s.itemActive i = true → s.store.present block = false → s.service.fetchMarks.length = 4 →
      (byKey → ∃ t, exec .serviceResetHold s = .next t ∧ waits { s.item i with waitsChauffeur := true } t ∧
        t.keys = s.keys.put s.keys.reset.endHold .reset ∧ KeptBut [.keys, .service, .store, .display] s t) ∧
      (s.TakesRequest → ∃ t, exec (.serviceReset (byteOf i)) s = .next t ∧
        waits { s.item i with waitsWorkshop := true } t ∧ Works 0x65 s t ∧
        KeptBut [.service, .store, .handler, .display] s t)) ∧
    (s.itemActive i = true → s.store.NoneWriting → s.store.pwrGood = true → s.store.nvFault = false →
      s.store.SystemPresent → s.store.Holds block → f.distanceInterval ≤ 32000 → f.dayInterval ≤ 32000 →
      (f.distanceInterval ≠ 0 → f.aheadKm < f.distanceInterval) → (f.dayInterval ≠ 0 → f.aheadDays < f.dayInterval) →
      (byKey → ∃ t, exec .serviceResetHold s = .next t ∧ s.ServiceReset i t ∧
        t.store.orders = [.single block false none] ∧ t.keys = s.keys.put s.keys.reset.endHold .reset ∧
        KeptBut [.keys, .service, .store, .display] s t) ∧
      (s.TakesRequest → ∃ t, exec (.serviceReset (byteOf i)) s = .next t ∧ s.ServiceReset i t ∧
        t.store.orders = [.single block false none] ∧ Replies 0x65 .done [] s t ∧
        KeptBut [.service, .store, .line, .handler, .display] s t))

/-- R45, R193: an expiry of the port's timer reloads it and requests a send: an idle port takes the record of this moment,
a busy one sets send-pending. The end of a transfer strobes the record, which the driver has then received whole, and starts
another with the content as it then stands, if send-pending is set. A record is 19 bytes whose sum is 0 mod 256, and
DSP-DAT carries each byte's most significant bit first. R43, R44, R134, R161: its other 18 bytes carry the items of Table
2-12 as they stand, the WARNING page's while a warning is SHOWN or a review runs. That an item's dimension is NONE while its
block is absent, also while a taken reset waits (R159), is the model's choice (log entry 48). -/
def Obligations.DisplayPortSends : Prop :=
  ∀ s : State, s.ign.awake = true → s.display.timer.isSome = true →
    let record := s.recordItems ++ [checkByteOf s.recordItems]
    s.RecordShows s.recordItems ∧
    (record.length = 19 ∧ byteSum record = 0 ∧ (serialBits record).length = 152 ∧
      ∀ i < 19, ∀ k < 8, (serialBits record)[8 * i + k]? = some (bitAt record i (7 - k))) ∧
    (∃ t, exec .displayTimerExpiry s = .next t ∧ KeptBut [.display] s t ∧
      (s.display.transfer = none → t.display = { s.display with timer := some 10, transfer := some record }) ∧
      (s.display.transfer.isSome = true → t.display = { s.display with timer := some 10, sendPending := true })) ∧
    (∃ t, exec .displayTransferEnd s = .next t ∧ KeptBut [.display] s t ∧
      (s.display.transfer = none → t.display = s.display) ∧
      (∀ sent, s.display.transfer = some sent → t.display = { s.display with
        transfer := if s.display.sendPending then some record else none, strobed := some sent, sendPending := false }))

/-! ### Line station and topic table (Chapters 3 and 4) -/

/-- R49, R50, R51, R55 (Table 3-2), R64: the line events at the station, state by state; an event that a state does not
list leaves it. STUCK is set at STUCK entry and cleared at the release; the silence timer's expiry sets SILENT and stops
it. The model's inferences: the line level reported is kept in every station state, and a recognised break counts as 10
bit times of driven time, an own one on a line still driven as 12 (log entry 13); after an own break with the line still
driven the station awaits the release as after a recognised one (log entry 30). That the expiry does nothing while the
silence timer is stopped is the model's choice (log entry 10). -/
def Obligations.LineStatesFollowTable : Prop :=
  ∀ s : State, let l := s.line
    (∃ t, exec .initQuietReached s = .next t ∧ KeptBut [.line, .display] s t ∧
      t.line = if l.state = .init then { l with state := .quiet, quiet := max 21 l.quiet } else l) ∧
    (∃ t, exec .lineDriven s = .next t ∧ KeptBut [.line, .display] s t ∧
      t.line = { l with
        driven := true, drivenTime := if l.driven then l.drivenTime else 0
        state := if l.state = .quiet then .receiving else l.state
        awaitsRelease := if l.state = .quiet then false else l.awaitsRelease
        quiet := if l.state = .quiet ∨ l.state = .init then 0 else l.quiet }) ∧
    (l.state ≠ .sending → ∃ t, exec .breakRecognised s = .next t ∧ KeptBut [.line, .display] s t ∧
      t.line = if l.state = .receiving then { l with
        awaitsRelease := true, driven := true, drivenTime := if l.awaitsRelease then l.drivenTime else 10 } else l) ∧
    (∀ still : Bool, ∃ t, exec (.breakEnd still) s = .next t ∧ KeptBut [.line, .display] s t ∧
      (l.state ≠ .breaking → t.line = l) ∧
      (l.state = .breaking → still = false →
        t.line = { l with state := .quiet, quiet := 0, sendBits := 0, driven := false, drivenTime := 0 }) ∧
      (l.state = .breaking → still = true →
        t.line = { l with
          state := .receiving, awaitsRelease := true, sendBits := 0, driven := true, drivenTime := max 12 l.drivenTime })) ∧
    (∃ t, exec .lineStuck s = .next t ∧ KeptBut [.line, .display] s t ∧
      t.line = if l.state ∈ [.init, .receiving, .breaking] then
        { l with state := .stuck, stuck := true, awaitsRelease := false, sendBits := 0, driven := true } else l) ∧
    (∃ t, exec .lineReleased s = .next t ∧ KeptBut [.line, .display] s t ∧
      t.line = { l with
        driven := false, drivenTime := 0
        state := if l.state = .stuck then .quiet else l.state
        stuck := if l.state = .stuck then false else l.stuck
        quiet := if l.state = .stuck ∨ l.state = .init then 0 else l.quiet }) ∧
    (∃ t, exec .lineReleasedAfterBreak s = .next t ∧ KeptBut [.line, .display] s t ∧
      t.line = if l.state = .receiving ∧ l.awaitsRelease = true then
        { l with state := .quiet, awaitsRelease := false, quiet := 0, driven := false, drivenTime := 0 } else l) ∧
    (∃ t, exec .silenceTimerExpiry s = .next t ∧ KeptBut [.line, .display] s t ∧
      t.line = if l.silence.isSome then { l with silent := true, silence := none } else l)

/-- R47, R48, R52, R53, R54, R56, R188, R192: in QUIET the head message of the queue is started: its bytes, as Table 12-1
lays them out with the own station number as source and a check byte that makes their sum 0 mod 256, go on the line, each
as a driven start bit, its 8 bits from the least significant on, a 0 driven and a 1 released, and a released stop bit. A
message sent leaves the queue; a clash counts an attempt and gives the stagger (station number × attempts mod 5) + 1, and
the 16th attempt drops the message. A clash drives the line for its break, but with the break recognised first it releases
it. The departure of the handler's reply makes the handler IDLE. -/
def Obligations.SendingTakesTheHead : Prop :=
  ∀ (s : State) (i : Nat) (m : Msg),
    (s.line.state = .quiet → s.ign.awake = true → IsHead s.line.queue i m → m.cls ≤ 3 →
      ∃ t frame, exec .accessWaitReached s = .next t ∧ KeptBut [.line, .display] s t ∧
        frame.length = m.data.length + 4 ∧ byteSum frame = 0 ∧
        frame.take (m.data.length + 3) =
          [byteOf (64 * m.cls + 16 * (if m.kind = .reply then 2 else 0) + s.cal.station), byteOf m.topic,
            byteOf (16 * m.seq + m.data.length)] ++ m.data ∧
        t.line = { s.line with
          state := .sending, quiet := 0, drivenTime := 0, sendBits := 10 * (m.data.length + 4), sent := frame
          queue := s.line.queue.set i { m with started := true, sending := true } } ∧
        t.line.muxDriven = true ∧ t.line.sentBits.length = t.line.sendBits ∧
        (∀ n, { t.line with sendBits := t.line.sendBits - n }.muxDriven = t.line.sentBits.getD (min n t.line.sendBits) false) ∧
        ∀ j < frame.length, t.line.sentBits[10 * j]? = some true ∧ t.line.sentBits[10 * j + 9]? = some false ∧
          ∀ k < 8, t.line.sentBits[10 * j + 1 + k]? = some !(bitAt frame j k)) ∧
    (s.line.state = .sending → s.ign ≠ .holdup → s.line.queue[i]? = some m → m.sending = true →
      (∀ j n, j < i → s.line.queue[j]? = some n → n.sending = false) →
      let handler := if m.answer = .own then { s.handler with state := .idle } else s.handler
      let met (first : Bool) : LineStation :=
        { s.line with
          clashes := min 65535 (s.line.clashes + 1), state := if first then .receiving else .breaking
          awaitsRelease := first || s.line.awaitsRelease, sendBits := if first then 0 else 12, sent := []
          driven := first || s.line.driven, drivenTime := if first then 10 else s.line.drivenTime }
      (∃ t, exec .messageSent s = .next t ∧ KeptBut [.line, .handler, .display] s t ∧ t.handler = handler ∧
        t.line = { s.line with
          state := .quiet, quiet := 0, sendBits := 0, sent := [], queue := s.line.queue.eraseIdx i } ∧
        t.line.muxDriven = false) ∧
      (∀ first : Bool, (met first).muxDriven = !first ∧
        (m.attempts < 15 → ∃ t, exec (.clash first) s = .next t ∧ KeptBut [.line, .display] s t ∧
          t.line = { met first with
            queue := s.line.queue.set i { m with
              sending := false, attempts := m.attempts + 1
              stagger := s.cal.station * (m.attempts + 1) % 5 + 1 } }) ∧
        (15 ≤ m.attempts → ∃ t, exec (.clash first) s = .next t ∧ KeptBut [.line, .handler, .display] s t ∧
          t.handler = handler ∧
          t.line = { met first with
            queue := s.line.queue.eraseIdx i, dropped := min 255 (s.line.dropped + 1) })) ∧
      exec .breakRecognised s = exec (.clash true) s)

/-- R46, R57, R58, R66, R67, R68, R135, R192: each rate counter's expiry reloads it and, with room, queues its topic under
the next sequence. At the 1 s timer while awake 42h is queued, with the items of Table 2-15 as Table 12-3 lays them out,
if E3 has data and its TRIP PAGE bit is set, and else not; that they are taken after the second is counted and the trip
pass made is the model's inference (log entry 16). At 40h a not-yet-started message of the topic takes the new items in
place; in a full queue the new message displaces the oldest of the least urgent class not being sent, if that is less
urgent, else it is refused, and one drop is counted. -/
def Obligations.PublicationsAreQueued : Prop :=
  ∀ s : State,
    (s.line.rate40.isSome = true →
      let l := { s.line with rate40 := some 10 }
      let data := bytes2 s.counting.speed ++ bytes2 s.counting.stepTally
      let new := Msg.entered 1 .publication 0x40 ((l.seqs.t40 + 1) % 16) data .none
      let seqs := { l.seqs with t40 := (l.seqs.t40 + 1) % 16 }
      (l.Open 0x40 → ∃ t, exec .rate40hExpiry s = .next t ∧ KeptBut [.line, .display] s t ∧
        t.line = { l with seqs := seqs, queue := l.queue ++ [new] }) ∧
      (∀ i m, l.queue[i]? = some m → m.topic = 0x40 → m.started = false →
        (∀ j n, j < i → l.queue[j]? = some n → n.topic = 0x40 → n.started = true) →
        ∃ t, exec .rate40hExpiry s = .next t ∧ KeptBut [.line, .display] s t ∧
          t.line = { l with
            seqs := seqs
            queue := l.queue.set i { new with
              started := m.started, sending := m.sending, attempts := m.attempts, stagger := m.stagger } }) ∧
      (l.queue.length = 12 → (∀ m ∈ l.queue, m.topic = 0x40 → m.started = true) →
        ((∀ m ∈ l.queue, m.sending = false → m.cls ≤ 1) →
          ∃ t, exec .rate40hExpiry s = .next t ∧ KeptBut [.line, .display] s t ∧
            t.line = { l with seqs := seqs, dropped := min 255 (l.dropped + 1) }) ∧
        (∀ i m, l.queue[i]? = some m → m.sending = false → 1 < m.cls →
          (∀ j n, l.queue[j]? = some n → n.sending = false → n.cls < m.cls ∨ (n.cls = m.cls ∧ i ≤ j)) →
          ∃ t, exec .rate40hExpiry s = .next t ∧ KeptBut [.line, .handler, .display] s t ∧
            t.handler = (if m.answer = .own then { s.handler with state := .idle } else s.handler) ∧
            t.line = { l with
              seqs := seqs, queue := l.queue.eraseIdx i ++ [new], dropped := min 255 (l.dropped + 1) }))) ∧
    (s.line.rate41.isSome = true → s.line.Open 0x41 → ∃ t data, exec .rate41hExpiry s = .next t ∧
      KeptBut [.line, .display] s t ∧
      t.line = { s.line with rate41 := some 100 }.enter 0x41 2 .publication data .none ∧
      (∀ v good, s.store.odometer = some (v, good) → data = bytes3 v ++ [if good then 0 else 1]) ∧
      (s.store.odometer = none → data = [0xFF, 0xFF, 0xFF, 2])) ∧
    (s.arbiter.rate43.isSome = true → s.line.Open 0x43 → s.arbiter.warnings.length = 32 →
      ∃ t data, exec .rate43hExpiry s = .next t ∧ KeptBut [.line, .arbiter, .display] s t ∧
        t.arbiter = { s.arbiter with rate43 := some 200 } ∧
        t.line = s.line.enter 0x43 (if s.shown.map s.warningClass = some .danger then 0 else 2) .publication data .none ∧
        data.length = 6 ∧
        (∀ w, s.shown = some w → byteAt data 0 = w ∧ byteAt data 1 = (s.warningClass w).rank) ∧
        (s.shown = none → byteAt data 0 = 255 ∧ byteAt data 1 = 255) ∧
        ∀ w < 32, bitAt data (5 - w / 8) (w % 8) = ((s.warning w).state != .off)) ∧
    (s.store.AtRest → ClockInRange s.counting → ¬s.counting.BeforeMidnight →
      let asked : Prop := (s.entry 3).used = true ∧ (s.entry 3).state ∈ [.fresh, .stale] ∧
        bitAt (s.entry 3).data 2 1 = true
      let blocks : List Block := [.counting, .arith, .trip, .store, .freeIndex, .display]
      (¬(s.ign.awake = true ∧ asked) → ∃ t, exec .oneSecondTimer s = .next t ∧ KeptBut blocks s t) ∧
      (s.ign.awake = true → asked → s.line.Open 0x42 → ∃ t data, exec .oneSecondTimer s = .next t ∧
        KeptBut (.line :: blocks) s t ∧ t.line = s.line.enter 0x42 3 .publication data .none ∧
        data.length = 8 ∧ byteAt data 0 = t.counting.hours ∧ byteAt data 1 = t.counting.minutes ∧
        (∀ k x, (k, x) ∈ [(0, t.trip.average), (1, t.trip.range)] →
          (∀ v ≤ 65535, x = .valid v → wordAt data (2 + 2 * k) = v ∧ bitAt data 7 k = false) ∧
          (∀ v, x = .saturated v → wordAt data (2 + 2 * k) = 65534 ∧ bitAt data 7 k = true) ∧
          (x = .none → wordAt data (2 + 2 * k) = 65535 ∧ bitAt data 7 k = false)) ∧ byteAt data 7 < 4 ∧
        ((s.entry 2).length = 5 → byteAt data 6 = if (s.entry 2).used = true ∧ (s.entry 2).state ∈ [.fresh, .stale] then
          byteAt (s.entry 2).data 2 else 0x80)))

/-- R60 to R64 (Table 3-7): an end gap outside RECEIVING changes nothing. Else the station goes to QUIET; a message that
fails a check counts one reception error. A valid one clears SILENT and, in RUN, restarts the silence timer; in LOAD it is
discarded; from the own station number it is a conflict; with no window it is discarded; with no consumer it is unclaimed.
What a publication and a workshop request do that reach their consumer, ArrivalsAreTaken and RequestsMeetTheHandler
say. -/
def Obligations.ReceptionChecksDecide : Prop :=
  ∀ (s : State) (bytes : List Byte) (err : Bool),
    (¬(s.line.state = .receiving ∧ s.line.awaitsRelease = false) →
      ∃ t, exec (.endGap bytes err) s = .next t ∧ KeptBut [.display] s t) ∧
    (s.line.state = .receiving → s.line.awaitsRelease = false →
      let windows := windowZero :: s.cal.windows
      (¬ValidFrame bytes err → ∃ t, exec (.endGap bytes err) s = .next t ∧ KeptBut [.line, .display] s t ∧
        t.line = { s.line.gapped with receptionErrors := min 255 (s.line.receptionErrors + 1) }) ∧
      (ValidFrame bytes err →
        (s.ign = .load → ∃ t, exec (.endGap bytes err) s = .next t ∧ KeptBut [.line, .display] s t ∧
          t.line = s.heardLine) ∧
        (s.ign ≠ .load → frameSource bytes = s.cal.station →
          ∃ t, exec (.endGap bytes err) s = .next t ∧ KeptBut [.line, .display] s t ∧
            t.line = { s.heardLine with conflicts := min 255 (s.line.conflicts + 1), conflict := true }) ∧
        (s.ign ≠ .load → frameSource bytes ≠ s.cal.station → (∀ w ∈ windows, ¬w.LetsIn bytes) →
          ∃ t, exec (.endGap bytes err) s = .next t ∧ KeptBut [.line, .display] s t ∧ t.line = s.heardLine) ∧
        (s.ign ≠ .load → frameSource bytes ≠ s.cal.station → (∃ w ∈ windows, w.LetsIn bytes) →
          ¬(frameKind bytes = 0 ∧ ∃ e ∈ s.topics.entries, e.used = true ∧ e.topic = frameTopic bytes) →
          ¬(frameKind bytes = 1 ∧ 0x60 ≤ frameTopic bytes ∧ frameTopic bytes ≤ 0x6F ∧ frameSource bytes = 15) →
          ∃ t, exec (.endGap bytes err) s = .next t ∧ KeptBut [.line, .display] s t ∧
            t.line = { s.heardLine with unclaimed := min 255 (s.line.unclaimed + 1) })))

/-- R73, R74, R75 (Table 4-3), R4, R15, R17, R145, R129 (Table 7-4), R130, R132, R142: a publication of the wrong length
counts one format error. One of the right length makes its entry FRESH with the message's data, source and sequence, and
counts the sequences missed. At E2 the FUEL client, the turn-signal distance count and the turn ticks take the tank value
and the turn flags. At E3 each rear sub-warning moves by its active and acknowledged bits, warning 30's request and
presented sub-warning follow, 44h is queued again for one that the rear module has not marked, and quiet cabin takes its
flag. E0 and E4 to E15 have no follower of arrivals. That the followers of one entry come in this order is the model's
choice (log entry 42); that a raw tank value of FFh clears the latest raw value and the return mark of an outstanding FUEL
request is its inference (log entry 26). -/
def Obligations.ArrivalsAreTaken : Prop :=
  ∀ (s : State) (bytes : List Byte) (e : Nat), s.Hears bytes → s.EntryOf bytes e →
    (frameLength bytes ≠ (s.entry e).length →
      ∃ t, exec (.endGap bytes false) s = .next t ∧ t.line = s.heardLine ∧ KeptBut [.line, .topics, .display] s t ∧
        t.entry e = { s.entry e with formatErrors := min 255 ((s.entry e).formatErrors + 1) } ∧
        ∀ d, d ≠ e → t.entry d = s.entry d) ∧
    (frameLength bytes = (s.entry e).length →
      ∃ t, exec (.endGap bytes false) s = .next t ∧
        t.entry e = { s.entry e with
          state := .fresh, age := (s.entry e).limit, data := (bytes.drop 3).take (frameLength bytes)
          lastSource := some (frameSource bytes), lastSeq := some (frameSeq bytes)
          arrivals := min 65535 ((s.entry e).arrivals + 1)
          missed := match (s.entry e).lastSeq, (s.entry e).lastSource with
            | some q, some f => if f = frameSource bytes then
                min 255 ((s.entry e).missed + ((frameSeq bytes + 16 - q) % 16 - 1)) else min 255 (s.entry e).missed
            | _, _ => min 255 (s.entry e).missed } ∧
        (∀ d, d ≠ e → t.entry d = s.entry d) ∧ t.topics.tick = s.topics.tick ∧
        (e = 0 ∨ 4 ≤ e → t.line = s.heardLine ∧ KeptBut [.line, .topics, .display] s t) ∧
        (e = 3 → ∀ n x, s.arbiter.subs[n]? = some x →
          let active := bitAt ((bytes.drop 3).take (frameLength bytes)) 0 n
          let acked := bitAt ((bytes.drop 3).take (frameLength bytes)) 1 n
          t.arbiter.subs[n]? = some (if active = false then .none
            else if acked = true ∨ x = .ackedLocal then .ackedLocal else .opened)) ∧
        (e = 2 → (s.entry 2).length = 5 → t.line = s.heardLine ∧
          KeptBut [.line, .topics, .counting, .arith, .sound, .display] s t ∧
          s.BodyArrives (byteAt bytes 3) (bitAt bytes 7 1) (bitAt bytes 7 2) t) ∧
        (e = 3 → (s.entry 3).length = 3 → s.arbiter.subs.length = 8 → s.OrdersComplete → s.MostUrgentShown →
          let again : Prop := ∃ n < 8, s.arbiter.subs[n]? = some .ackedLocal ∧ bitAt bytes 3 n = true ∧
            bitAt bytes 4 n = false
          KeptBut [.line, .topics, .arbiter, .sound, .handler, .keys, .display] s t ∧ s.CascadeMoves t ∧
          t.sound.quietCabin = bitAt bytes 5 0 ∧ (again → s.line.queue.length < 10 → t.CascadeQueued) ∧
          (¬again → t.line.seqs.t44 = s.line.seqs.t44)))

/-- R13 (Table 1-4), R14: at an arrival at E1 a value FFFFh makes the reference none, a value without a reference becomes
it, an implausible delta re-bases and counts, and a plausible delta is added to the three records and the window fuel. -/
def Obligations.FuelTotalsAreAdded : Prop :=
  ∀ (s : State) (bytes : List Byte), s.Hears bytes → s.EntryOf bytes 1 → (s.entry 1).length = 2 →
    frameLength bytes = 2 → s.store.SystemPresent →
    let v := wordAt bytes 3
    let c := s.counting
    ∃ t, exec (.endGap bytes false) s = .next t ∧ t.line = s.heardLine ∧
      KeptBut [.line, .topics, .counting, .trip, .store, .display] s t ∧
      (v = 65535 → t.counting = { c with fuelReference := none } ∧ ∀ r, t.tripView r = s.tripView r) ∧
      (v ≠ 65535 → c.fuelReference = none →
        t.counting = { c with fuelReference := some v } ∧ ∀ r, t.tripView r = s.tripView r) ∧
      (∀ ref ≤ 65535, v ≠ 65535 → c.fuelReference = some ref →
        let delta := (v + 65536 - ref) % 65536
        (2000 < delta →
          t.counting = { c with fuelReference := some v, implausible := min 255 (c.implausible + 1) } ∧
          ∀ r, t.tripView r = s.tripView r) ∧
        (delta ≤ 2000 →
          t.counting = { c with fuelReference := some v, windowFuel := min 65535 (c.windowFuel + delta) } ∧
          ∀ r, t.tripView r = { s.tripView r with fuel := min 16777215 ((s.tripView r).fuel + delta) }))

/-- R76 (Table 4-5), R4, R14, R15, R17, R91, R133, R142, R145: a freshness tick ages every used entry: FRESH to STALE with
its age reloaded, STALE to LOST with its data and last sequence gone. A LOST E1 ends the fuel reference, a LOST E0 sends
the gauges it feeds to REST, a LOST E2 ends F, F_raw, the turn-signal distance count and the kept flasher values and sends
G5 to REST, and a LOST E3 tears the rear cascade down, withdraws warning 30 without a 44h and ends quiet cabin; and the
tenth tick without a flasher bit, or that count's own time-out, ends the turn-signal distance count. That a tick does
nothing while it is stopped, and that the time-out acts by itself at any count, is the model's choice (log entry 10); that
a LOST E2 clears the return mark of an outstanding FUEL request is its inference (log entry 26). -/
def Obligations.EntriesAge : Prop :=
  ∀ s : State,
    let loses (e : Nat) : Prop := (s.entry e).used = true ∧ (s.entry e).state = .stale ∧ (s.entry e).age = 1
    let ended := { s.counting with turnDistance := 0, turnActive := false, turnTicks := 0 }
    (∃ t, exec .turnSignalCountTimeout s = .next t ∧ KeptBut [.counting, .display] s t ∧
      t.counting = if s.counting.turnActive then ended else s.counting) ∧
    (s.topics.tick = none → ∃ t, exec .freshnessTick s = .next t ∧ KeptBut [.display] s t) ∧
    (s.topics.tick.isSome = true → s.topics.entries.length = 16 → ∃ t, exec .freshnessTick s = .next t ∧
      t.topics.tick = some 10 ∧
      (∀ e, (s.entry e).used = false ∨ (s.entry e).age = 0 → t.entry e = s.entry e) ∧
      (∀ e, (s.entry e).used = true → 1 < (s.entry e).age →
        t.entry e = { s.entry e with age := (s.entry e).age - 1 }) ∧
      (∀ e, (s.entry e).used = true → (s.entry e).age = 1 → (s.entry e).state = .fresh →
        t.entry e = { s.entry e with state := .stale, age := (s.entry e).limit }) ∧
      (∀ e, loses e → t.entry e = { s.entry e with state := .lost, age := 0, data := [], lastSeq := none }) ∧
      (loses 1 → t.counting.fuelReference = none) ∧
      (loses 0 → ∀ g ∈ [1, 3, 4], (s.gauge g).state = .track ∨ (s.gauge g).state = .hold →
        t.gauge g = { s.gauge g with state := .rest, target := 0, evaluated := none }) ∧
      (loses 2 → s.gauges.gauges.length = 6 → s.BodyLost t) ∧
      (loses 3 → t.arbiter.subs = List.replicate 8 .none ∧ t.sound.quietCabin = false ∧
        t.line.seqs.t44 = s.line.seqs.t44 ∧ t.arbiter.cautionOrder = s.arbiter.cautionOrder ∧
        t.arbiter.advisoryOrder = s.arbiter.advisoryOrder ∧
        (s.OrdersComplete → s.MostUrgentShown → t.MostUrgentShown ∧
          (∀ v < 32, v ≠ 30 → (s.warning v).state ∈ [.off, .silenced] → t.warning v = s.warning v) ∧
          ((s.warning 30).level = true → t.arbiter.presented = none ∧ t.warning 30 =
            { s.warning 30 with state := .off, level := false, shownTimer := 0, completed := false, reminder := 0 }))) ∧
      ((∀ e < 16, ¬loses e) → KeptBut [.topics, .counting, .display] s t ∧
        t.counting = (if s.counting.turnActive = false then s.counting
          else if 9 ≤ s.counting.turnTicks then ended
          else { s.counting with turnTicks := s.counting.turnTicks + 1 })))

/-! ### Gauges (Chapter 5) -/

/-- R94: the damping step moves the filtered angle toward 16 times the target by max(1, |Δ| shifted right), never past it
and never out of 0 to 12,272; a shift of 0 reaches it in one update, and any shift reaches it at last. -/
def Obligations.DampingArrives : Prop :=
  ∀ shift target filtered : Nat, target ≤ 767 → filtered ≤ 12272 →
    (filtered = 16 * target → dampingStep shift target filtered = filtered) ∧
    (filtered < 16 * target →
      dampingStep shift target filtered = filtered + max 1 ((16 * target - filtered) / 2 ^ shift) ∧
      dampingStep shift target filtered ≤ 16 * target) ∧
    (16 * target < filtered →
      dampingStep shift target filtered + max 1 ((filtered - 16 * target) / 2 ^ shift) = filtered ∧
      16 * target ≤ dampingStep shift target filtered) ∧
    dampingStep shift target filtered ≤ 12272 ∧ dampingStep 0 target filtered = 16 * target ∧
    ∃ n ≤ 12272, (dampingStep shift target)^[n] filtered = 16 * target

/-- R79, R87, R92, R94, R95, R96, R100 (Tables 4-9, 5-1, 5-4, 5-6, 5-7): an update takes each gauge once, its input read
as Table 5-1 gives: in TRACK, HOLD and REST its state follows its input, its curve is evaluated for a changed value whose
target has no request outstanding, and its angles move by damping and within its slew limit. A PARKED gauge takes the park
step, one in SWEEP nothing. The coil levels follow the commanded angle by quadrant, and are 0 while the coils are off;
their length stays within one step of 255. -/
def Obligations.GaugesFollowInputs : Prop :=
  ((∀ p ∈ [((0 : Nat), (0 : Int)), (1, 2), (6, 9), (112, 162), (128, 180), (144, 197), (250, 255), (255, 255), (256, 255)],
      tab p.1 = p.2) ∧
    (∀ i < 256, tab i ≤ tab (i + 1) ∧ tab (i + 1) ≤ tab i + 2) ∧
    ∀ i ≤ 256, 254 ^ 2 ≤ tab i ^ 2 + tab (256 - i) ^ 2 ∧ tab i ^ 2 + tab (256 - i) ^ 2 ≤ 256 ^ 2) ∧
  (∀ (s : State) (i : Nat), i < 6 → s.GaugeReads i (s.gaugeInput i)) ∧
  ∀ s : State, s.gauges.timer.isSome = true → s.gauges.gauges.length = 6 →
    ∃ t, exec .gaugeUpdate s = .next t ∧ KeptBut [.gauges, .arith, .display] s t ∧ t.gauges.timer = some 2 ∧
      t.gauges.sweep = s.gauges.sweep ∧ t.gauges.testMark = s.gauges.testMark ∧ (∀ i < 6, (t.gauge i).CoilsFollow) ∧
      ∀ i < 6, let g := s.gauge i
        let f := s.gaugeFigures i
        (g.state = .sweep → t.gauge i = g) ∧
        (g.state = .parked → g.parkCount = 0 → t.gauge i = g) ∧
        (g.state = .parked → 0 < g.parkCount → t.gauge i = { g with
          commanded := g.commanded - f.slew, filtered := 16 * (g.commanded - f.slew), parkCount := g.parkCount - 1
          driven := decide (1 < g.parkCount) }) ∧
        (g.state ∈ [.track, .hold, .rest] →
          (t.gauge i).filtered = dampingStep f.shift (t.gauge i).target g.filtered ∧
          (∀ a, a = ((t.gauge i).filtered + 8) / 16 →
            (t.gauge i).commanded ≤ g.commanded + f.slew ∧ g.commanded ≤ (t.gauge i).commanded + f.slew ∧
            (a ≤ g.commanded + f.slew → g.commanded ≤ a + f.slew → (t.gauge i).commanded = a) ∧
            (g.commanded + f.slew < a → (t.gauge i).commanded = g.commanded + f.slew) ∧
            (a + f.slew < g.commanded → (t.gauge i).commanded + f.slew = g.commanded)) ∧
          (t.gauge i).parkCount = g.parkCount ∧ (t.gauge i).driven = g.driven ∧
          (s.gaugeInput i = none → (t.gauge i).state = .rest ∧
            (g.state ≠ .rest → (t.gauge i).target = 0 ∧ (t.gauge i).evaluated = none) ∧
            (g.state = .rest → (t.gauge i).target = g.target ∧ (t.gauge i).evaluated = g.evaluated)) ∧
          ∀ (v : Nat) (held : Bool), s.gaugeInput i = some ⟨v, held⟩ →
            (t.gauge i).state = (if held then .hold else .track) ∧
            let asks := s.arith.outstanding (.gauge i) = false ∧
              (g.evaluated = none ∨ (held = false ∧ g.evaluated ≠ some v))
            (¬asks → (t.gauge i).target = g.target ∧ (t.gauge i).evaluated = g.evaluated) ∧
            (asks → (t.gauge i).evaluated = some v ∧
              (∀ y, f.curve.evaluate v = .direct y → (t.gauge i).target = min 767 y) ∧
              ∀ n k c base, f.curve.evaluate v = .request n k c base → (t.gauge i).target = g.target ∧
                ({ target := .gauge i, n := n, k := k, c := c, base := base, generation := 0,
                   afterReturn := false } : Request) ∈ t.arith.requests))

/-- R96, R97, R98, R99, R100 (Tables 5-6, 5-8): each sweep tick moves the position and all six needles together, up over
75 ticks and down over 75. At its end each gauge takes its input's state with its angles at 0, and a test is answered
DONE. The end of a park count turns the coils off and leaves the needle. That SWEEP_TICK and SWEEP_END do nothing without
a sweep, and that SWEEP_END and PARK_COUNT_EXPIRY act before the count is out, is the model's choice (log entry 10). -/
def Obligations.SweepMovesTogether : Prop :=
  ∀ s : State,
    let ends (t : State) : Prop := t.gauges.sweep = none ∧ t.gauges.testMark = false ∧
      (∀ i < 6, t.gauge i =
        { state := (s.gaugeInput i).elim .rest fun r => if r.held then .hold else .track
          evaluated := none, target := 0, filtered := 0, commanded := 0, parkCount := 0, driven := true }) ∧
      (s.gauges.testMark = false → KeptBut [.gauges, .display] s t) ∧
      (s.gauges.testMark = true → s.line.Open 0x70 →
        t.handler = { s.handler with state := .replying } ∧
        t.line = s.line.enter 0x70 3 .reply [byteOf s.handler.topic, 0] .own ∧
        KeptBut [.gauges, .line, .handler, .display] s t)
    (∀ p, s.gauges.sweep = some p → p < 149 → ∃ t, exec .sweepTick s = .next t ∧ KeptBut [.gauges, .display] s t ∧
      t.gauges = { s.gauges with
        sweep := some (p + 1)
        gauges := s.gauges.gauges.map fun g =>
          let a := if p + 1 ≤ 75 then 767 * (p + 1) / 75 else 767 * (150 - (p + 1)) / 75
          { g with commanded := a, filtered := 16 * a } } ∧
      ∀ i < 6, (t.gauge i).CoilsFollow) ∧
    (∀ p, s.gauges.sweep = some p → 149 ≤ p → s.gauges.gauges.length = 6 → ∃ t, exec .sweepTick s = .next t ∧ ends t) ∧
    (s.gauges.sweep.isSome = true → s.gauges.gauges.length = 6 → ∃ t, exec .sweepEnd s = .next t ∧ ends t) ∧
    (s.gauges.sweep = none → (∃ t, exec .sweepTick s = .next t ∧ KeptBut [.display] s t) ∧
      ∃ t, exec .sweepEnd s = .next t ∧ KeptBut [.display] s t) ∧
    ∀ i : Fin 6, s.gauges.gauges.length = 6 → ∃ t, exec (.parkCountExpiry i) s = .next t ∧
      KeptBut [.gauges, .display] s t ∧ (∀ j, j ≠ i.val → t.gauge j = s.gauge j) ∧
      t.gauge i = if (s.gauge i).state = .parked ∧ 0 < (s.gauge i).parkCount then
        { s.gauge i with parkCount := 0, driven := false } else s.gauge i

/-! ### Warning rules and warning arbiter (Chapters 6 and 7) -/

/-- R105 to R108 (Tables 6-3 to 6-5), R109, R110, R113, R114, R119, R120: an evaluation moves every active slot once, by its
gate, its condition against the effective threshold of the state it was in, and its times, the gates read as Table 6-4 gives
and the sources as R79 and Tables 6-8 and 6-9 give; a slot that is not active or whose gate is false is
CLEAR. The level request of each warning the rules feed then stands as its LEVEL slots hold it, and an edge request is given
where an EDGE slot is asserted at this evaluation, if the warning is enabled: they raise it, or a withdrawal makes it OFF.
The other warnings, and the rotation orders, stand but for the selection; of the warning then SHOWN the sound unit has taken
a notice (R140). That the level request of a request set is taken
before its edge request is the model's inference (log entry 17). -/
def Obligations.EvaluationMovesSlots : Prop :=
  (∀ (s : State) (g : Gate), s.gate g = true ↔ s.GateOpen g) ∧
  (∀ (s : State) (source : Source), s.SourceReads source (s.sourceValue source)) ∧
  ∀ s : State, s.rules.timer.isSome = true → s.arbiter.warnings.length = 32 →
    ∃ t, exec .evaluation s = .next t ∧ t.rules.timer = some 10 ∧
      (∀ i < 32, s.record i = none → t.slot i = ⟨.clear, 0⟩) ∧
      (∀ i < 32, ∀ r, s.record i = some r →
        (s.gate r.gate = false → t.slot i = ⟨.clear, 0⟩) ∧
        (s.gate r.gate = true →
          Slot.MovesTo r (r.Meets (s.slot i).state (s.sourceValue r.source)) (s.slot i) (t.slot i))) ∧
      (∀ w < 32, w ∉ [27, 28, 29, 30] →
        let enabled := (s.warningFigures w).enabled = true
        s.TakesRequests w
          (enabled ∧ ∃ i < 32, ∃ r, s.record i = some r ∧ r.edge = false ∧ r.warning = w ∧
            ((t.slot i).state = .asserted ∨ (t.slot i).state = .releasing))
          (enabled ∧ ∃ i < 32, ∃ r, s.record i = some r ∧ r.edge = true ∧ r.warning = w ∧
            (s.slot i).state ∈ [.clear, .qualifying] ∧ (t.slot i).state = .asserted) t) ∧
      (∀ w ∈ [27, 28, 29, 30], Warning.GoesOn (s.warning w) (t.warning w)) ∧
      t.arbiter.cautionOrder = s.arbiter.cautionOrder ∧ t.arbiter.advisoryOrder = s.arbiter.advisoryOrder ∧
      (s.OrdersComplete → s.shownCount ≤ 1 → t.MostUrgentShown ∧ s.ChimeFollows s.sound t) ∧
      KeptBut [.rules, .arbiter, .sound, .line, .handler, .keys, .display] s t

/-- R118, R121, R122, R136, R184: while the timers follow the ignition state, every step keeps the most urgent warning
SHOWN: at most one warning is SHOWN, no PENDING warning is of a class more urgent than the SHOWN one's, and while none is
SHOWN none is PENDING or HELD; in LOAD every warning is OFF. EVALUATION, ARBITER_TICK, SHOWN_TIMER_EXPIRY,
REMINDER_TIMER_EXPIRY, PATTERN_COMPLETE, SERVICE_EDGE_REQUEST and an accepted press of ACK leave it so from any state with
complete rotation orders and at most one SHOWN. No step outside LOAD puts two warnings of one class in service, or a HELD
one that the SHOWN one does not outrank, and the rotation orders go on listing each warning of their class once. -/
def Obligations.SelectionShowsTheMostUrgent : Prop :=
  (∀ (c : Instr) (s : State), s.OrdersComplete → s.shownCount ≤ 1 → s.ReachesArbiter c →
    ∃ t, exec c s = .next t ∧ t.MostUrgentShown) ∧
  (∀ s t : State, TimersFollow s → s.Arbitrated → step s = .next t → t.Arbitrated) ∧
  ∀ s t : State, s.ign ≠ .load → s.OrdersComplete → s.ServiceOrdered → step s = .next t →
    t.ServiceOrdered ∧ (s.OrdersOnce → t.OrdersOnce) ∧ (t.ign ≠ .load → t.OrdersComplete)

/-- R120, R121, R123, R128, R154: a request of the service unit, and the end of a reminder, make an enabled OFF or
SILENCED warning PENDING, and it is SHOWN at once if it outranks what is; its chime starts, cuts what sounds or is carried
into (R140 to R143). A request for a warning that is PENDING, in service or disabled changes no warning. That a request
while the part is not awake, and a reminder that does not run, change nothing is the model's choice (log entries 10 and
15). -/
def Obligations.RequestsRaiseWarnings : Prop :=
  ∀ s : State, s.OrdersComplete → s.MostUrgentShown →
    (∀ (k : ServiceWarning) (w : Nat), (k, w) ∈ [(.soon, 27), (.due, 28), (.overdue, 29)] → s.ign.awake = true →
      ∃ t, exec (.serviceEdgeRequest k) s = .next t ∧
        KeptBut [.arbiter, .sound, .line, .handler, .keys, .display] s t ∧ s.ChimeFollows s.sound t ∧
        ((s.warningFigures w).enabled = true → (s.warning w).state ∈ [.off, .silenced] → s.Arises w t) ∧
        ((s.warningFigures w).enabled = true → (s.warning w).state = .off → s.line.Open 0x43 →
          t.line = s.line.enter 0x43 (if t.shown.map t.warningClass = some .danger then 0 else 2) .publication t.summary
            .none) ∧
        ((s.warningFigures w).enabled = false ∨ (s.warning w).state ∈ [.pending, .shown, .held] →
          t.arbiter.warnings = s.arbiter.warnings)) ∧
    (∀ k : ServiceWarning, s.ign.awake = false →
      ∃ t, exec (.serviceEdgeRequest k) s = .next t ∧ KeptBut [.display] s t) ∧
    ∀ w : Fin 32, ∃ t, exec (.reminderTimerExpiry w) s = .next t ∧
      KeptBut [.arbiter, .sound, .line, .handler, .keys, .display] s t ∧ s.ChimeFollows s.sound t ∧
      ((s.warning w).state = .silenced → 0 < (s.warning w).reminder → s.Arises w t) ∧
      (¬((s.warning w).state = .silenced ∧ 0 < (s.warning w).reminder) → t.arbiter.warnings = s.arbiter.warnings)

/-- R122, R124, R126, R127: the ACK key on the SHOWN warning, outside the DANGER guard, the workshop on an active one, and
the 4 s mark and pattern end of an INFORMATION warning acknowledge it: SILENCED with its reminder while its level request
stands, else OFF, last in its rotation order if it was in service; then the most urgent is SHOWN. R130, R131, R132: of
warning 30 they acknowledge the presented sub-warning, or while it is PENDING the lowest OPEN one. R125: with none SHOWN
the ACK key starts the review, steps it, or ends it after its last warning. R140: the chime of the warning that is then
SHOWN starts, or is carried into; with none SHOWN the chime ends. The model's choices: the click of an ACK press is taken
before the arbiter's event, where R144 leaves either order with its own outcome (log entry 16), and the 70h reply is
queued after the 43h of the same event (log entry 43). -/
def Obligations.AcknowledgementsAreTaken : Prop :=
  ∀ (s : State) (w : Fin 32), s.OrdersComplete → s.MostUrgentShown →
    (s.KeyReady .ack → (∀ v < 32, (s.warning v).state ≠ .shown) → s.OrdersOnce →
      (∀ r, s.arbiter.review = some r → r.warning < 32 ∧ (s.warning r.warning).state = .silenced) →
      ∃ t, exec (.keyPress .ack) s = .next t ∧ t.arbiter = { s.arbiter with review := t.arbiter.review, presented := none } ∧
        KeptBut [.keys, .counting, .arbiter, .sound, .store, .line, .handler, .display] s t ∧
        s.ChimeFollows s.sound.clicked t ∧ (s.counting.clockSet = .normal → t.counting = s.counting) ∧
        (s.store.Settled → KeptBut [.keys, .counting, .arbiter, .sound, .display] s t) ∧
        (∀ v, s.ReviewGoesTo v → t.arbiter.review = some { warning := v, timer := 40 }) ∧
        ((∀ v, ¬s.ReviewGoesTo v) → t.arbiter.review = none)) ∧
    (∀ n, (s.warning 30).level = true → (s.warning 30).state ∈ [.pending, .shown, .held] → n < s.arbiter.subs.length →
      ((s.warning 30).state ∈ [.shown, .held] → s.arbiter.presented = some n) →
      ((s.warning 30).state = .pending →
        s.arbiter.subs[n]? = some .opened ∧ ∀ j < n, s.arbiter.subs[j]? ≠ some .opened) →
      (s.KeyReady .ack → (s.warning 30).state = .shown →
        ¬(s.warningClass 30 = .danger ∧ (s.warning 30).shownTimer < 30) →
        ∃ t, exec (.keyPress .ack) s = .next t ∧ s.AcknowledgesSub n t ∧ s.ChimeFollowsSub n s.sound.clicked t ∧
          KeptBut [.keys, .counting, .arbiter, .sound, .store, .line, .handler, .display] s t) ∧
      (s.TakesRequest → ∃ t, exec (.acknowledgeWarning 30) s = .next t ∧ s.AcknowledgesSub n t ∧
        s.ChimeFollowsSub n s.sound t ∧
        KeptBut [.arbiter, .sound, .line, .handler, .keys, .display] s t)) ∧
    (s.KeyReady .ack → (s.warning w).state = .shown → w.val ≠ 30 →
      ∃ t, exec (.keyPress .ack) s = .next t ∧
        KeptBut [.keys, .counting, .arbiter, .sound, .store, .line, .handler, .display] s t ∧
        s.ChimeFollows s.sound.clicked t ∧
        (s.counting.clockSet = .normal → t.counting = s.counting) ∧ (s.store.Settled → t.store = s.store) ∧
        (s.warningClass w = .danger ∧ (s.warning w).shownTimer < 30 → t.arbiter.warnings = s.arbiter.warnings) ∧
        (¬(s.warningClass w = .danger ∧ (s.warning w).shownTimer < 30) → s.Acknowledges w t)) ∧
    (s.TakesRequest → w.val ≠ 30 →
      ∃ t, exec (.acknowledgeWarning (byteOf w)) s = .next t ∧
        KeptBut [.arbiter, .sound, .line, .handler, .keys, .display] s t ∧
        ((s.warning w).state ∈ [.pending, .shown, .held] → s.Acknowledges w t ∧ s.ChimeFollows s.sound t ∧
          (s.line.queue.length < 11 → s.line.Open 0x43 → t.handler = { s.handler with state := .replying, topic := 0x66 } ∧
            ∃ l, (l = s.line ∨ ∃ cls, l = s.line.enter 0x43 cls .publication t.summary .none) ∧
              t.line = l.enter 0x70 3 .reply [0x66, 0] .own)) ∧
        ((s.warning w).state ∈ [.off, .silenced] →
          Replies 0x66 .notActive [] s t ∧ KeptBut [.line, .handler, .display] s t)) ∧
    (∃ t, exec (.patternComplete w) s = .next t ∧ KeptBut [.arbiter, .sound, .line, .handler, .keys, .display] s t ∧
      s.ChimeFollows s.sound t ∧
      ((s.warning w).state = .shown → s.warningClass w = .information → 40 ≤ (s.warning w).shownTimer →
        s.Acknowledges w t) ∧
      ((s.warning w).state = .shown → s.warningClass w = .information → (s.warning w).shownTimer < 40 →
        t.warning w = { s.warning w with completed := true } ∧ ∀ v, v ≠ w.val → t.warning v = s.warning v) ∧
      ((s.warning w).state ≠ .shown ∨ s.warningClass w ≠ .information → t.arbiter.warnings = s.arbiter.warnings)) ∧
    ((s.warning w).state = .shown → s.warningClass w = .information →
      ∃ t, exec .shownTimerExpiry s = .next t ∧ KeptBut [.arbiter, .sound, .line, .handler, .keys, .display] s t ∧
        s.ChimeFollows s.sound t ∧
        ((s.warning w).completed = true → s.Acknowledges w t) ∧
        ((s.warning w).completed = false →
          t.warning w = { s.warning w with shownTimer := 40 } ∧ ∀ v, v ≠ w.val → t.warning v = s.warning v))

/-- R125, R127, R128: an arbiter tick counts up the shown timer of the SHOWN warning, held at 40, and counts down every
running reminder and the review timer; the review ends as its timer runs out, at that timer's own expiry, and as a warning
enters SHOWN or the reviewed one leaves SILENCED. A reminder that reaches 0 makes its warning PENDING, and an INFORMATION
warning whose pattern is complete is acknowledged as its shown timer reaches 40; the arbiter then selects, once for the
tick, and the chime follows (R140). That the timers of one tick are one event is the model's inference (log entry 17). -/
def Obligations.ArbiterTickCounts : Prop :=
  ∀ s : State,
    (∃ t, exec .reviewTimerExpiry s = .next t ∧ KeptBut [.arbiter, .display] s t ∧
      t.arbiter = { s.arbiter with review := none }) ∧
    (s.arbiter.tick.isSome = true → s.OrdersComplete → s.MostUrgentShown →
      let ends (w : Nat) : Prop := (s.warning w).state = .silenced ∧ (s.warning w).reminder = 1
      let done (w : Nat) : Prop := (s.warning w).state = .shown ∧ s.warningClass w = .information ∧
        (s.warning w).completed = true ∧ (s.warning w).shownTimer = 39
      let counted (w : Nat) : Warning := { s.warning w with shownTimer := min 40 ((s.warning w).shownTimer + 1) }
      let enters (t : State) : Prop := ∃ w < 32, (t.warning w).state = .shown ∧ (s.warning w).state ≠ .shown
      ∃ t, exec .arbiterTick s = .next t ∧ KeptBut [.arbiter, .sound, .line, .handler, .keys, .display] s t ∧
        t.arbiter.tick = some 10 ∧ t.MostUrgentShown ∧ s.ChimeFollows s.sound t ∧
        (∀ w < 32,
          ((s.warning w).state = .shown → ¬done w → Warning.GoesOn (counted w) (t.warning w)) ∧
          (done w → t.warning w = { s.warning w with
            state := if (s.warning w).level then .silenced else .off, shownTimer := 0, completed := false, reminder := 0 }) ∧
          ((s.warning w).state = .silenced → ¬ends w →
            t.warning w = { s.warning w with reminder := (s.warning w).reminder - 1 }) ∧
          (ends w → (t.warning w).state ∈ [.pending, .shown] ∧ t.warning w = { s.warning w with
            state := (t.warning w).state, shownTimer := 0, completed := false, reminder := 0 }) ∧
          ((s.warning w).state ∉ [.shown, .silenced] → Warning.GoesOn (s.warning w) (t.warning w))) ∧
        ((∀ w < 32, ¬ends w ∧ ¬done w) → KeptBut [.arbiter, .sound, .display] s t ∧
          ∀ w < 32, ((s.warning w).state = .shown → t.warning w = counted w) ∧
            ((s.warning w).state ∉ [.shown, .silenced] → t.warning w = s.warning w)) ∧
        (∀ r, s.arbiter.review = some r → (s.warning r.warning).state = .silenced →
          (¬enters t → (t.warning r.warning).state = .silenced →
            t.arbiter.review = if r.timer ≤ 1 then none else some { r with timer := r.timer - 1 }) ∧
          (enters t ∨ (t.warning r.warning).state ≠ .silenced → t.arbiter.review = none)) ∧
        (s.arbiter.review = none → t.arbiter.review = none) ∧
        t.arbiter.cautionOrder = s.arbiter.cautionOrder ∧ t.arbiter.advisoryOrder = s.arbiter.advisoryOrder ∧
        t.arbiter.subs = s.arbiter.subs)

/-! ### Sound and lamps (Chapter 8) -/

/-- R137 (Table 8-1), R139, R140, R143, R146, R147, R148, R149: SND is low while the output is SILENT, at LOUD high for
half of each period of its tone, at SOFT for an eighth. The end of an ON phase begins the OFF phase, or the next ON phase
where the off time is 0; the end of an OFF phase begins the next ON phase, or DONE at the last repeat; a CARRY ends in the
new pattern. The click and tick timers silence their own output, the flash counter turns the phase, and every lamp is on
in the bulb check. Else a WARNING lamp follows the flash phase while one of its warnings is SHOWN, and is lit while none
is SHOWN and one is not OFF; a mirror lamp is on while its flag of E2 reads 1, E2 FRESH or STALE. The model's choices: the
high half and the high eighth come first in the period, at SOFT a part of a cycle counts as a whole one, and the tone
counter goes on from where it stands (log entry 38); CADENCE_EXPIRY in IDLE and DONE moves no phase, and a flash counter
that does not run turns nothing (log entries 10 and 15). -/
def Obligations.SoundTimersAct : Prop :=
  ∀ s : State,
    let p := s.current
    let u := s.sound
    let r := if p.repeats = 0 then min 254 (u.repeats + 1) else u.repeats + 1
    let endsOff := u.channel = .off ∨ (u.channel = .on ∧ p.offTime = 0)
    ((List.range 8).map toneHalfPeriod = [4000, 3077, 2500, 2000, 1600, 1333, 1143, 1000] ∧
      (u.output = .silent → ∀ n, s.sndHigh n = false) ∧
      ∀ tone loud n, s.snd = some (tone, loud) → let x := (u.toneCycle + n) % (2 * toneHalfPeriod tone)
        (loud = true → (s.sndHigh n = true ↔ x < toneHalfPeriod tone)) ∧
        (loud = false → (s.sndHigh n = true ↔ 8 * x < 2 * toneHalfPeriod tone))) ∧
    (u.channel = .on → p.offTime ≠ 0 → ∃ t, exec .cadenceExpiry s = .next t ∧ KeptBut [.sound, .display] s t ∧
      t.sound = { u with
        channel := .off, cadence := p.offTime, output := if u.output = .chime then .silent else u.output }) ∧
    (endsOff → ¬(p.repeats ≠ 0 ∧ r = p.repeats) → ∃ t, exec .cadenceExpiry s = .next t ∧
      KeptBut [.sound, .freeIndex, .display] s t ∧ t.sound.channel = .on ∧ t.sound.cadence = p.onTime ∧
      t.sound.repeats = r ∧ t.sound.playing = u.playing ∧
      (u.onIndex < 255 → t.sound.onIndex = u.onIndex + 1 ∧ t.freeIndex = s.freeIndex)) ∧
    (endsOff → p.repeats ≠ 0 → r = p.repeats → s.OrdersComplete → s.MostUrgentShown → ∀ q, u.playing = some q →
      s.warningClass q.warning ≠ .information → ∃ t, exec .cadenceExpiry s = .next t ∧
        KeptBut [.arbiter, .sound, .display] s t ∧ t.sound.channel = .done ∧ t.sound.cadence = 0 ∧ t.sound.repeats = r ∧
        t.arbiter.warnings = s.arbiter.warnings) ∧
    (endsOff → p.repeats ≠ 0 → r = p.repeats → s.OrdersComplete → s.MostUrgentShown → ∀ q, u.playing = some q →
      (s.warning q.warning).state = .shown → s.warningClass q.warning = .information →
      (s.warning q.warning).shownTimer < 40 → ∃ t, exec .cadenceExpiry s = .next t ∧
        KeptBut [.arbiter, .sound, .display] s t ∧ t.sound.channel = .done ∧
        t.warning q.warning = { s.warning q.warning with completed := true }) ∧
    (u.channel = .idle ∨ u.channel = .done → ∃ t, exec .cadenceExpiry s = .next t ∧ KeptBut [.sound, .display] s t ∧
      t.sound = { u with output := if u.output = .chime then .silent else u.output }) ∧
    (∀ q, u.channel = .carry → u.playing = some q → ∃ t, exec .cadenceExpiry s = .next t ∧
      KeptBut [.sound, .display] s t ∧ t.sound.channel = .on ∧ t.sound.playing = some q ∧ t.sound.onIndex = 1 ∧
      t.sound.repeats = 0 ∧ t.sound.cadence = (s.pattern q.pattern).onTime) ∧
    (∃ t, exec .clickTimerExpiry s = .next t ∧ KeptBut [.sound, .display] s t ∧
      t.sound = if u.output = .click then { u with output := .silent, clickTimer := 0 } else u) ∧
    (∃ t, exec .tickTimerExpiry s = .next t ∧ KeptBut [.sound, .display] s t ∧
      t.sound = if u.output = .tick then { u with output := .silent, tickTimer := 0 } else u) ∧
    (∃ t, exec .flashCounterExpiry s = .next t ∧ KeptBut [.sound, .display] s t ∧
      t.sound = if u.flash.isSome then { u with flash := some 25, lit := !u.lit } else u) ∧
    (∃ t, exec .bulbCheckExpiry s = .next t ∧ KeptBut [.sound, .display] s t ∧ t.sound = { u with bulbCheck := none }) ∧
    ∀ n, (s.ign.awake = false → s.lampOn n = false) ∧ (s.ign.awake = true → u.bulbCheck.isSome = true → s.lampOn n = true) ∧
      (s.ign.awake = true → u.bulbCheck = none → s.cal.lamps[n]? = some .warning →
        ((∃ w < 32, (s.warningFigures w).lamp = some n ∧ (s.warning w).state = .shown) → s.lampOn n = u.lit) ∧
        ((∀ w < 32, (s.warningFigures w).lamp = some n → (s.warning w).state ≠ .shown) →
          (s.lampOn n = true ↔ ∃ w < 32, (s.warningFigures w).lamp = some n ∧ (s.warning w).state ≠ .off))) ∧
      (s.ign.awake = true → u.bulbCheck = none →
        (∀ kind k, (kind, k) ∈ [(LampKind.turnLeft, 1), (.turnRight, 2), (.highBeam, 3)] → s.cal.lamps[n]? = some kind →
          (s.lampOn n = true ↔ (s.entry 2).used = true ∧ (s.entry 2).state ∈ [.fresh, .stale] ∧
            bitAt (s.entry 2).data 4 k = true)) ∧
        (s.cal.lamps[n]? = some .unused → s.lampOn n = false))

/-! ### Record store (Chapter 10) and start-up load (Chapter 11) -/

/-- R153, R157, R158, R165, R166, R167, R168, R171, R173, R189: the end of a fill's read puts the block's 15 bytes into
its line, CLEAN and most recently used, and ends the workshop's FETCH, READ BYTES or WRITE BYTES of that block, with the
pin a FETCH-AND-PIN asked for. Of a service block the service unit replaces a bad content, takes off the pending counts,
carries out a waiting reset with its write-back order and the workshop's DONE, forms both items' states, which raise
warnings 27 to 29 (R154), and ends the fetch mark. A VERIFY changes no line and gives DONE where the check is good and the
block, if present, equals its line. -/
def Obligations.BlockReadsEnd : Prop :=
  ∀ (s : State) (b : Nat), s.ign ≠ .load → s.store.waiting = [] →
    let read := (List.range 15).map fun j => s.store.nv.read (16 * b + j)
    let good := byteSum ((List.range 16).map fun j => s.store.nv.read (16 * b + j)) = 0
    let replies (t : State) (bytes : List Byte) : Prop :=
      t.handler = { s.handler with state := .replying } ∧
        t.line = s.line.enter 0x70 3 .reply ([byteOf s.handler.topic, 0] ++ bytes) .own
    (∀ i, s.store.op = some (.readFill b) → s.store.orders = [.fill b] → s.store.find b = some i →
      (s.store.line i).state = .filling → 7 ≤ b →
      let filled (pin : Bool) : CacheLine := { s.store.line i with
        state := .clean, data := read, redirty := false, pinned := (s.store.line i).pinned || pin, recent := true }
      let rest (t : State) : Prop := t.store.orders = [] ∧ t.store.op = none ∧ t.store.task = .none ∧
        t.store.nv = s.store.nv ∧ ∀ j, j ≠ i → j ≠ otherWay i → t.store.line j = s.store.line j
      (s.store.task = .none → ∃ t, exec .blockReadEnd s = .next t ∧ KeptBut [.store, .display] s t ∧ rest t ∧
        t.store.line i = filled false) ∧
      (∀ pin, s.store.task = .fetch b pin → s.line.Open 0x70 → ∃ t, exec .blockReadEnd s = .next t ∧
        KeptBut [.store, .line, .handler, .display] s t ∧ rest t ∧ t.store.line i = filled pin ∧ replies t []) ∧
      (∀ o ≤ 11, s.store.task = .read b o → s.line.Open 0x70 → ∃ t, exec .blockReadEnd s = .next t ∧
        KeptBut [.store, .line, .handler, .display] s t ∧ rest t ∧ t.store.line i = filled false ∧
        (good → replies t ((read.drop o).take 4 ++ [1])) ∧ (¬good → replies t ((read.drop o).take 4 ++ [2]))) ∧
      (∀ o data, s.store.task = .write b o data → s.line.Open 0x70 → s.store.latch = false →
        ∃ t, exec .blockReadEnd s = .next t ∧ KeptBut [.store, .line, .handler, .display] s t ∧ rest t ∧
          t.store.line i = { filled false with state := .dirty, data := splice read o data } ∧ replies t [])) ∧
    (∀ i, s.store.op = some (.readFill b) → s.store.orders = [.fill b] → s.store.find b = some i →
      (s.store.line i).state = .filling → 3 ≤ b → b ≤ 6 → s.store.task = .none → s.service.items.length = 8 →
      s.service.fetchMarks.length = 4 →
      (∀ j < 8, let f := s.itemFigures j
        f.distanceInterval ≤ 32000 ∧ f.dayInterval ≤ 32000 ∧ (f.distanceInterval ≠ 0 → f.aheadKm < f.distanceInterval) ∧
          (f.dayInterval ≠ 0 → f.aheadDays < f.dayInterval)) →
      let here (j : Nat) : Prop := j < 8 ∧ itemBlock j = b
      let waits (j : Nat) : Prop := (s.item j).waitsChauffeur = true ∨ (s.item j).waitsWorkshop = true
      ∃ t, exec .blockReadEnd s = .next t ∧
        KeptBut [.store, .service, .arbiter, .sound, .line, .handler, .keys, .display] s t ∧
        (s.ign.awake = true → s.arbiter.warnings.length = 32 → s.RaisesForItems t) ∧
        (∀ j, here j → s.ItemFilled j read (decide good) t) ∧ (∀ j, ¬here j → t.item j = s.item j) ∧
        t.service.mark b = false ∧ (∀ c, 3 ≤ c → c ≠ b → t.service.mark c = s.service.mark c) ∧
        t.service.selected = s.service.selected ∧ t.store.nv = s.store.nv ∧
        (∀ c, c ≠ b → t.store.dataOf c = s.store.dataOf c) ∧
        ((∀ j, here j → ¬waits j) → t.store.orders = [] ∧ t.store.op = none ∧
          (good → (∀ j, here j → (s.item j).pendingKm = 0 ∧ (s.item j).pendingDays = 0) →
            (t.store.line i).state = .clean ∧ t.store.dataOf b = read) ∧
          (¬good ∨ (∃ j, here j ∧ ¬((s.item j).pendingKm = 0 ∧ (s.item j).pendingDays = 0)) →
            (t.store.line i).state = .dirty)) ∧
        (s.store.NoneWriting → s.store.pwrGood = true → s.store.nvFault = false → ∀ j, here j → waits j →
          t.store.op = some (.write i (t.store.dataOf b) .single 4) ∧ (t.store.line i).state = .writing ∧
          ((s.item j).waitsWorkshop = true → s.line.queue.length < 10 → s.line.Open 0x70 →
            t.handler = { s.handler with state := .replying } ∧ ∃ m ∈ t.line.queue, m.topic = 0x70 ∧ m.started = false ∧
              m.answer = .own ∧ m.data = [byteOf s.handler.topic, 0]))) ∧
    (s.store.op = some (.readVerify b) → s.store.orders = [.verify b] → s.line.Open 0x70 →
      ∃ t, exec .blockReadEnd s = .next t ∧ KeptBut [.store, .line, .handler, .display] s t ∧
        t.store = { s.store with orders := [], op := none, task := .none } ∧
        t.handler = { s.handler with state := .replying } ∧
        ∃ x : Byte, t.line = s.line.enter 0x70 3 .reply [byteOf s.handler.topic, x] .own ∧
          (x = 0 ↔ good ∧ (s.store.present b = true → s.store.dataOf b = read)) ∧ (x ≠ 0 → x = 6))

/-- R163, R165, R169, R172, R174, R175, R176: a ready report writes the snapshot and its check byte and leaves the line
CLEAN, or DIRTY after a redirty; 40 ms without it, or a fall of PWR-GOOD, leave the line DIRTY, and the fall the block's
check in the memory bad. A failure counts, and the third in a row makes NV FAULT. After a fall the order waits, and the
rise starts the write afresh. No other byte of the memory changes. The end of a walk's write, success or failure, moves
the walk past its line, and a walk begun anew during the write starts at position 0: the next DIRTY line's write begins,
and with none, or in NV FAULT, the walk ends. In HOLDUP all this is so while a message is in flight or a line stays DIRTY;
with neither the part goes to SLEEP (R182), as StandbyFollowsLevels has it. That the redirty bit stands as it is after a
write, and that the write in progress does not advance a walk begun anew, are the model's inferences (log entries 24 and
47). -/
def Obligations.BlockWritesEnd : Prop :=
  (∀ s : State, s.store.writing = false → s.store.Settled →
    ∃ t, exec .pwrGoodFall s = .next t ∧ KeptBut [.store, .display] s t ∧
      t.store = { s.store with pwrGood := false }) ∧
  (∀ (s : State) (i b n p : Nat) (snapshot : List Byte) (h again : Bool), s.store.nv.wf = true → b < 64 →
    snapshot.length = 15 → s.store.orders = [.walk h p] → s.store.waiting = [] → s.store.task = .none →
    let next := if again then p else i + 1
    let ended (x : LineState) : List CacheLine := s.store.lines.modify i fun l => { l with state := x }
    let frame (t : State) : Prop := KeptBut [.store, .freeIndex, .display] s t ∧ t.store.waiting = [] ∧ t.store.task = .none ∧
      t.store.latch = s.store.latch ∧ t.store.pwrGood = s.store.pwrGood ∧
      ∀ a, a < 16 * b ∨ 16 * b + 16 ≤ a → t.store.nv.read a = s.store.nv.read a
    (s.store.op = some (.write i snapshot (if again then .restarted else .walk) n) → (s.store.line i).state = .writing →
      (s.store.line i).tag = some b →
      (s.StaysUp i → ∃ t, exec .blockWriteReady s = .next t ∧ frame t ∧ t.freeIndex = s.freeIndex ∧
        (∀ j < 15, t.store.nv.read (16 * b + j) = snapshot.getD j 0) ∧ t.store.consecutiveFailures = 0 ∧
        t.store.nvFailures = s.store.nvFailures ∧ t.store.nvFault = s.store.nvFault ∧
        t.store.WalkGoes h next (ended (if (s.store.line i).redirty then .dirty else .clean))) ∧
      ∃ t, exec .blockWriteTimeout s = .next t ∧ frame t ∧
        t.store.nvFailures = min 255 (s.store.nvFailures + 1) ∧
        t.store.consecutiveFailures = min 3 (s.store.consecutiveFailures + 1) ∧
        t.store.nvFault = (s.store.nvFault || decide (3 ≤ s.store.consecutiveFailures + 1)) ∧
        t.store.WalkGoes h next (ended .dirty)) ∧
    (s.store.op = none → ∃ t, exec .pwrGoodRise s = .next t ∧ KeptBut [.store, .display] s t ∧ t.store.pwrGood = true ∧
      t.store.nv = s.store.nv ∧ t.store.WalkGoes h p s.store.lines)) ∧
  ∀ (s : State) (i b n : Nat) (snapshot : List Byte) (w : Bool), s.store.nv.wf = true → b < 64 →
    snapshot.length = 15 → s.store.orders = [.single b w none] → s.store.waiting = [] →
    s.store.task = (if w then .writeback b else .none) → s.store.find b = some i → s.line.Open 0x70 →
    let outside (t : State) : Prop := ∀ a, a < 16 * b ∨ 16 * b + 16 ≤ a → t.store.nv.read a = s.store.nv.read a
    let ended (t : State) (ok : Bool) : Prop := t.store.orders = [] ∧ t.store.op = none ∧ t.store.task = .none ∧
      (w = false → KeptBut [.store, .freeIndex, .display] s t) ∧
      (w = true → KeptBut [.store, .freeIndex, .line, .handler, .display] s t ∧
        t.handler = { s.handler with state := .replying } ∧
        t.line = s.line.enter 0x70 3 .reply [byteOf s.handler.topic, if ok then 0 else 6] .own)
    (s.store.op = some (.write i snapshot .single n) → (s.store.line i).state = .writing →
      (s.StaysUp i ∨ w = true → ∃ t, exec .blockWriteReady s = .next t ∧ outside t ∧ ended t !(s.store.line i).redirty ∧
        (∀ j < 15, t.store.nv.read (16 * b + j) = snapshot.getD j 0) ∧
        byteSum ((List.range 16).map fun j => t.store.nv.read (16 * b + j)) = 0 ∧ t.store.consecutiveFailures = 0 ∧
        t.store.nvFailures = s.store.nvFailures ∧ t.store.nvFault = s.store.nvFault ∧ t.freeIndex = s.freeIndex ∧
        t.store.lines = s.store.lines.modify i fun l => { l with state := if l.redirty then .dirty else .clean }) ∧
      (∃ t, exec .blockWriteTimeout s = .next t ∧ outside t ∧ ended t false ∧
        t.store.nvFailures = min 255 (s.store.nvFailures + 1) ∧
        t.store.consecutiveFailures = min 3 (s.store.consecutiveFailures + 1) ∧
        t.store.nvFault = (s.store.nvFault || decide (3 ≤ s.store.consecutiveFailures + 1)) ∧
        t.store.lines = s.store.lines.modify i fun l => { l with state := .dirty }) ∧
      (s.store.nvFault = false → ∃ t, exec .pwrGoodFall s = .next t ∧ outside t ∧
        KeptBut [.store, .freeIndex, .display] s t ∧ t.store.pwrGood = false ∧ t.store.op = none ∧
        t.store.orders = s.store.orders ∧ t.store.nvFailures = s.store.nvFailures ∧
        t.store.consecutiveFailures = s.store.consecutiveFailures ∧
        byteSum ((List.range 16).map fun j => t.store.nv.read (16 * b + j)) ≠ 0 ∧
        t.store.lines = s.store.lines.modify i fun l => { l with state := .dirty })) ∧
    (s.store.op = none → (s.store.line i).state = .dirty → s.store.nvFault = false →
      ∃ t, exec .pwrGoodRise s = .next t ∧ KeptBut [.store, .display] s t ∧ t.store.pwrGood = true ∧
        t.store.op = some (.write i (s.store.line i).data .single 4) ∧ t.store.orders = s.store.orders ∧
        t.store.nv = s.store.nv ∧
        t.store.lines = s.store.lines.modify i fun l => { l with state := .writing, redirty := false })

/-- R71, R72, R151 to R155, R184 to R187: in LOAD the end of the awaited fill keeps a calibration block's bytes and check
and goes on to the next block, up to 63 and then 0 to 6: the read of that block begins, with a way of its set free for it.
After block 63 the image is kept, its station number and divisor clamped and counted, if every check was good and each of
its seven curves keeps its ordering, with every other item as Table 12-7 lays it out, within the limits that its block
puts on it (R88, R104, R138, R151); else the built-in defaults replace it. Block 0 is taken as stored, or as odometer 0
SUSPECT; a trip block with a bad check becomes a zero record, and both items of a bad service block get their intervals
and the odometer just loaded; blocks 0 to 2 are pinned, and stay so. After block 6 the image is in use, the state is the
one that the filtered inputs ask for, the held days have been delivered (R9), the rotation orders are formed (R122), the
entries are defined, with a limit of at least 1, the states of the active items are formed without a request (R152, R153),
which a RUN entry then reminds of, and the lowest active item is selected. That an unused entry keeps the topic and length
of its definition, and a limit of 1 for 0, is the model's choice (log entry 40), and that the 60,000 km of default item 3
are taken as 32,000 its inference (log entry 51); the statement leaves the class of warnings 14 to 25 in the default image
open (log entry 8). -/
def Obligations.LoadGoesOn : Prop :=
  ∀ (s : State) (b i : Nat), s.ign = .load → s.ignition.load.awaits = b → s.store.op = some (.readFill b) →
    s.store.orders = [.fill b] → s.store.waiting = [] → s.store.task = .none → s.store.find b = some i →
    (s.store.line i).state = .filling → i < s.store.lines.length →
    let read := (List.range 15).map fun j => s.store.nv.read (16 * b + j)
    let good := byteSum ((List.range 16).map fun j => s.store.nv.read (16 * b + j)) = 0
    let loaded := s.ignition.load.image
    let readsNext (n : Nat) (t : State) : Prop := s.store.lines.length = 8 → i / 2 = b % 4 → s.store.find n = none →
      (∀ j, j / 2 = n % 4 → (s.store.line j).pinned = true ∨ (s.store.line j).state ∈ [.invalid, .clean]) →
      (∃ j, j / 2 = n % 4 ∧ (s.store.line j).pinned = false) →
      t.store.orders = [.fill n] ∧ t.store.op = some (.readFill n) ∧ t.store.waiting = [] ∧
        ∃ j, j / 2 = n % 4 ∧ t.store.find n = some j ∧ (t.store.line j).state = .filling
    let replaced (t : State) : Prop := ∀ j f, itemBlock j = b → loaded.items[j]? = some f → f.distanceInterval ≤ 32000 →
      f.dayInterval ≤ 32000 → t.store.remainingKm j = f.distanceInterval ∧
        (s.counting.heldDays = 0 ∨ b < 6 → t.store.remainingDays j = f.dayInterval) ∧
        tripleAt (t.store.dataOf b) (itemOffset j + 4) = s.store.odometerValue
    (7 ≤ b → b < 63 → ∃ t, exec .blockReadEnd s = .next t ∧ KeptBut [.ignition, .store] s t ∧
      t.store.nv = s.store.nv ∧ readsNext (b + 1) t ∧
      (good → t.ignition = { s.ignition with
        load := { s.ignition.load with awaits := b + 1, bytes := s.ignition.load.bytes ++ read } }) ∧
      (¬good → t.ignition = { s.ignition with
        load := { s.ignition.load with awaits := b + 1, bytes := s.ignition.load.bytes ++ read, bad := true } })) ∧
    (b = 63 → ∃ t, exec .blockReadEnd s = .next t ∧ KeptBut [.ignition, .store] s t ∧
      t.ign = .load ∧ t.ignition.load.awaits = 0 ∧ readsNext 0 t ∧
      let image := s.ignition.load.bytes ++ read
      let kept : Prop := s.ignition.load.bad = false ∧ good ∧ ∀ m < 7, CurveInOrder image (86 + 36 * m)
      let station := byteAt image 0 % 16
      let divisor := byteAt image 1
      (¬kept → t.ignition.calDefault = true ∧ t.ignition.load.image.IsDefault ∧
        t.ignition.clampCount = s.ignition.clampCount) ∧
      (kept → t.ignition.calDefault = s.ignition.calDefault ∧ t.ignition.load.image.IsAt image ∧
        t.ignition.load.image.station = (if station = 0 ∨ station = 15 then 2 else station) ∧
        t.ignition.load.image.divisor = (if divisor < 10 then 10 else if 160 < divisor then 160 else divisor) ∧
        t.ignition.load.image.fixedLimits = (List.range 4).map (fun e => max 1 (byteAt image (6 + e))) ∧
        t.ignition.clampCount = s.ignition.clampCount + (if station = 0 ∨ station = 15 then 1 else 0) +
          (if divisor < 10 ∨ 160 < divisor then 1 else 0))) ∧
    (b = 0 → i < 2 → ∃ t, exec .blockReadEnd s = .next t ∧ KeptBut [.ignition, .store] s t ∧
      t.ign = .load ∧ t.ignition.load.awaits = 1 ∧ readsNext 1 t ∧ (t.store.line i).pinned = true ∧
      (good ∧ tripleAt read 0 ≤ 9999999 ∧ byteAt read 3 ≤ 1 →
        t.store.odometer = some (tripleAt read 0, byteAt read 3 == 0)) ∧
      (¬(good ∧ tripleAt read 0 ≤ 9999999 ∧ byteAt read 3 ≤ 1) → t.store.odometer = some (0, false))) ∧
    (1 ≤ b → b ≤ 5 → i / 2 = b % 4 → ∃ t, exec .blockReadEnd s = .next t ∧
      KeptBut [.ignition, .store, .freeIndex] s t ∧ t.ign = .load ∧ t.ignition.load.awaits = b + 1 ∧ readsNext (b + 1) t ∧
      (good → t.store.dataOf b = read) ∧ (b ≤ 2 → (t.store.line i).pinned = true) ∧
      (3 ≤ b → (t.store.line i).pinned = (s.store.line i).pinned) ∧ (¬good → 3 ≤ b → replaced t) ∧
      (¬good → b ≤ 2 → viewOfBlock (t.store.dataOf b) =
        { distance := 0, fuel := 0, time := 0, generation := 0, economy := .none, average := .none })) ∧
    (b = 6 → ∃ t, exec .blockReadEnd s = .next t ∧ t.cal = loaded ∧
      t.ign = levelState s.ignition.run s.ignition.acc s.ignition.wake ∧ t.counting.heldDays = 0 ∧
      (s.store.SystemPinned → t.store.SystemPinned) ∧
      (s.arbiter.warnings.length = 32 → t.OrdersComplete ∧ t.OrdersOnce) ∧
      (good → s.counting.heldDays = 0 → t.store.dataOf b = read) ∧ (¬good → replaced t) ∧
      (s.topics.entries.length = 16 → (∀ e < 4, ∀ n, loaded.fixedLimits[e]? = some n → t.entry e = { s.entry e with limit := n }) ∧
        ∀ k d, loaded.entries[k]? = some d →
          t.entry (4 + k) = { Entry.blank with
            topic := d.topic, length := d.length, limit := max 1 d.limit, used := (t.entry (4 + k)).used } ∧
          ((t.entry (4 + k)).used = true ↔ d.defined = true ∧ 1 ≤ d.length ∧ d.length ≤ 8 ∧
            ∀ e < 4 + k, ¬((t.entry e).used = true ∧ (t.entry e).topic = d.topic))) ∧
      ((∀ i < 8, t.itemActive i = true → (∀ j < i, t.itemActive j = false) → t.service.selected = some i) ∧
        ((∀ i < 8, t.itemActive i = false) → t.service.selected = none)) ∧
      (s.service.items.length = 8 → (∀ c, 3 ≤ c → c ≤ 5 → s.store.Holds c) → ∀ j < 8, (t.item j).state =
        if t.itemActive j then itemStateOf (t.itemFigures j) (t.store.remainingKm j) (t.store.remainingDays j)
          else (s.item j).state) ∧
      (s.counting.heldDays = 0 → s.arbiter.warnings = List.replicate 32 .off →
        (t.ign ≠ .run → t.arbiter.warnings = s.arbiter.warnings) ∧ (t.ign = .run → t.Reminds s.warning t)))

/-! ### Ignition controller (Chapter 11) -/

/-- R180, R181, R183 (Table 11-1): a change of the filtered ignition inputs takes the part to the state its row gives; an
input whose level stays keeps its pin and samples. Every change of state releases the keys (R39). A RUN entry starts the
sweep (R97), the bulb check (R149), the silence timer (R64), the 40h counter (R66) and the windows (R18), and reminds of
DUE and OVERDUE items (R155); leaving RUN parks the gauges (R100), abandons a gauge test with STATE (R99; it is the one
request in progress, R188, so that the store has none), ends the check and ends a review (R125; that RUN to ACCESSORY ends
one is the model's inference, log entry 19); ACCESSORY stops the windows, and from RUN places a SWEEP; HOLDUP loads its
timer with 30 ticks and places a HOLDUP order, which a return of the key turns into a SWEEP (R172), and from ACCESSORY and
RUN queues 41h with the odometer as it stands (R68). From SLEEP every block takes its wake values; the latest raw value
and the noted pulse count, gone there, are the model's inferences (log entries 26 and 27), and so is that the write in
progress does not advance a walk begun anew (log entry 47). -/
def Obligations.IgnitionFollowsKey : Prop :=
  ∀ (s : State) (acc run : Bool), ∃ t, exec (.keyPositionChange acc run) s = .next t ∧
    t.ignition.acc = acc ∧ t.ignition.run = run ∧ t.ignition.wake = s.ignition.wake ∧ t.cal = s.cal ∧
    (t.ignition.pinAcc = (if acc = s.ignition.acc then s.ignition.pinAcc else acc) ∧
      t.ignition.accSamples = if acc = s.ignition.acc then s.ignition.accSamples else 0) ∧
    (t.ignition.pinRun = (if run = s.ignition.run then s.ignition.pinRun else run) ∧
      t.ignition.runSamples = if run = s.ignition.run then s.ignition.runSamples else 0) ∧
    (s.ign = .load → t.ign = .load ∧ KeptBut [.ignition, .display] s t) ∧
    (s.ign = .sleep → t.ign = levelState run acc s.ignition.wake ∧
      (t.ign = .sleep → KeptBut [.ignition] s t) ∧ (t.ign ≠ .sleep → s.Wakes t)) ∧
    (s.ign = .watch → t.ign = levelState run acc true) ∧
    (s.ign ∈ [.accessory, .run, .holdup] → t.ign = if run then .run else if acc then .accessory else .holdup) ∧
    (t.ign ≠ s.ign → t.keys = s.keys.map KeyInput.forget ∧
      (t.ign = .run → (t.gauges.sweep = some 0 ∧
          ∀ g ∈ t.gauges.gauges, g.state = .sweep ∧ g.target = 0 ∧ g.filtered = 0 ∧ g.commanded = 0 ∧ g.driven = true) ∧
        t.sound.bulbCheck = some 300 ∧ t.line.silence = some 200 ∧ t.line.rate40.isSome = true ∧
        t.counting.windowTimer = some 50 ∧ t.counting.speed = 0) ∧
      (s.ign = .run → (t.gauges.sweep = none ∧ ∀ g ∈ t.gauges.gauges, g.state = .parked ∧ g.target = 0 ∧ g.parkCount = 100) ∧
        t.sound.bulbCheck = none ∧ t.line.silence = none ∧ t.arbiter.review = none ∧ t.gauges.testMark = false ∧
        (s.gauges.testMark = true → s.store.task = .none → s.line.queue.length < 11 → s.line.Open 0x70 →
          t.handler = { s.handler with state := .replying } ∧ ∃ m ∈ t.line.queue, m.topic = 0x70 ∧ m.started = false ∧
            m.answer = .own ∧ m.data = [byteOf s.handler.topic, 7])) ∧
      (s.ign ≠ .sleep → s.arbiter.warnings.length = 32 → (t.ign = .run → s.Reminds s.warning t) ∧
        (t.ign ≠ .run → t.arbiter.warnings = s.arbiter.warnings)) ∧
      (s.ign = .run → t.ign = .accessory → s.store.SweepPlaced t.store) ∧
      (s.ign ≠ .sleep → t.ign = .holdup → s.store.HoldupPlaced t.store) ∧
      (s.ign = .holdup → s.store.HoldupTurned t.store) ∧
      (t.ign = .accessory → t.counting.windowTimer = none ∧ t.counting.speed = 0 ∧ t.line.rate40 = none) ∧
      (t.ign = .holdup → t.ignition.holdupTimer = some 30 ∧ t.counting.clockSet = .normal ∧
        t.counting.windowTimer.isSome = true ∧ t.line.rate40.isSome = true ∧ t.line.queue ≠ [] ∧
        (s.ign ∈ [.accessory, .run] → s.line.queue.length < 11 → s.store.Settled → s.OdometerQueued t)) ∧
      (s.ign = .holdup → t.ignition.holdupTimer = none) ∧ (s.ign = .watch → t.ignition.watchTimer = none))

/-- R181, R182, R183: in SLEEP a risen WAKE wakes the part; in WATCH its fall loads the watch timer with 300 ticks and its
rise stops it. The watch timer's expiry gives HOLDUP while dirty lines are reported, else SLEEP; HOLDUP gives SLEEP at its
timer's expiry and when the last message is sent, or discarded at its 16th clash, or the last dirty line written, with the
other gone. A SLEEP entry that finds a level asking for another state is followed at once by a wake. SLEEP entry is that
of every block (R18, R29, R39, R45, R59, R85, R101, R112, R136, R150, R158, R162, R179, R188), and a wake gives every block
its wake values (R19, R31, R69, R85, R101, R112, R136, R150, R162, R174). That an expiry does nothing while its timer is
stopped is the model's choice (log entry 10); that a noted pulse count is gone with SLEEP entry, and the latest raw value at
wake, and that a write in progress does not advance a HOLDUP walk begun anew, are its inferences (log entries 27, 26 and
47). -/
def Obligations.StandbyFollowsLevels : Prop :=
  ∀ s : State,
    (∀ high : Bool, ∃ t, exec (.wakeInputChange high) s = .next t ∧ t.ignition.wake = high ∧
      (s.ign = .sleep → t.ign = levelState s.ignition.run s.ignition.acc high ∧
        (t.ign = .sleep → KeptBut [.ignition] s t) ∧ (t.ign ≠ .sleep → s.Wakes t)) ∧
      (s.ign ≠ .sleep → t.ign = s.ign ∧ KeptBut [.ignition, .display] s t ∧
        t.ignition.watchTimer = (if s.ign ≠ .watch then s.ignition.watchTimer
          else if high then none else if s.ignition.wake then some 300 else s.ignition.watchTimer))) ∧
    (¬(s.ign = .watch ∧ s.ignition.watchTimer.isSome = true) →
      ∃ t, exec .watchTimerExpiry s = .next t ∧ KeptBut [.display] s t) ∧
    (¬(s.ign = .holdup ∧ s.ignition.holdupTimer.isSome = true) →
      ∃ t, exec .holdupTimerExpiry s = .next t ∧ KeptBut [.display] s t) ∧
    (s.ign = .watch → s.ignition.watchTimer.isSome = true →
      (s.store.dirtyReported = false → ∃ t, exec .watchTimerExpiry s = .next t ∧ s.Sleeps (fun _ => True) t) ∧
      (s.store.dirtyReported = true → s.store.Settled → ∃ t, exec .watchTimerExpiry s = .next t ∧ t.ign = .holdup ∧
        t.ignition.watchTimer = none ∧ t.ignition.holdupTimer = some 30 ∧ s.store.HoldupPlaced t.store)) ∧
    (s.ign = .holdup →
      (s.ignition.holdupTimer.isSome = true → ∃ t, exec .holdupTimerExpiry s = .next t ∧ s.Sleeps (fun u =>
        ∀ i snapshot serves n, s.store.op = some (.write i snapshot serves n) → (s.store.line i).state = .writing →
          u.store.line i = { s.store.line i with state := .dirty }) t) ∧
      (∀ m, s.line.state = .sending → s.line.queue = [m] → m.sending = true → s.store.dirtyReported = false →
        (∃ t, exec .messageSent s = .next t ∧ s.Sleeps (fun u => u.line.dropped = s.line.dropped) t) ∧
        (15 ≤ m.attempts → ∀ c, c = .breakRecognised ∨ (∃ b, c = .clash b) → ∃ t, exec c s = .next t ∧ s.Sleeps (fun u =>
          u.line.dropped = min 255 (s.line.dropped + 1) ∧ u.line.clashes = min 65535 (s.line.clashes + 1)) t)) ∧
      (∀ i p n snapshot, s.store.op = some (.write i snapshot .walk n) → s.store.orders = [.walk true p] →
        s.store.waiting = [] → s.store.task = .none → i < 8 → (s.store.line i).state = .writing →
        (s.store.line i).redirty = false → s.line.queue = [] →
        (∀ j, j ≠ i → (s.store.line j).state ≠ .dirty ∧ (s.store.line j).state ≠ .writing) →
        ∃ t, exec .blockWriteReady s = .next t ∧ s.Sleeps (fun u => u.store.line i = { s.store.line i with
          state := .clean }) t))

/-! ### Workshop requests (Chapters 10 to 12) -/

/-- R62, R188, R189, R190 (Tables 3-9, 11-3, 11-4): asleep or in LOAD the handler takes no request. A request that finds
it WORKING or REPLYING is answered BUSY, or left unanswered and counted while a not-yet-started 70h is queued; one that
fails a check is answered BAD REQUEST. None of these does anything else. A REQUEST on 60h to 6Fh from station 15 that the
line station passes on at its end gap does exactly what the command of its topic and data does to the part whose line has
heard it; one that no command stands for, with an unknown topic or data of a wrong form, is answered in the same way, with
BAD REQUEST in IDLE. -/
def Obligations.RequestsMeetTheHandler : Prop :=
  (∀ (s : State) (bytes : List Byte), s.Hears bytes → frameKind bytes = 1 → frameSource bytes = 15 →
    0x60 ≤ frameTopic bytes → frameTopic bytes ≤ 0x6F →
    let heard := s.setLine s.heardLine
    (∀ c : Instr, c.request = some (frameTopic bytes, frameData bytes) → exec (.endGap bytes false) s = exec c heard) ∧
    ((∀ c : Instr, c.request ≠ some (frameTopic bytes, frameData bytes)) → ∃ t, exec (.endGap bytes false) s = .next t ∧
      (s.ign.awake = false → KeptBut [] heard t) ∧
      (heard.TakesRequest → KeptBut [.line, .handler, .display] s t ∧ Replies (frameTopic bytes) .badRequest [] heard t) ∧
      (s.ign.awake = true → s.handler.state ≠ .idle → heard.line.Open 0x70 → KeptBut [.line, .display] s t ∧
        t.line = heard.line.enter 0x70 3 .reply [byteOf (frameTopic bytes), 1] .busy) ∧
      (s.ign.awake = true → s.handler.state ≠ .idle → (∃ m ∈ s.line.queue, m.topic = 0x70 ∧ m.started = false) →
        KeptBut [.handler, .display] heard t ∧
        t.handler = { s.handler with unanswered := min 255 (s.handler.unanswered + 1) }))) ∧
  ∀ (c : Instr) (topic : Nat) (data : List Byte) (s : State), c.request = some (topic, data) →
    (s.ign.awake = false → ∃ t, exec c s = .next t ∧ KeptBut [] s t) ∧
    (s.ign.awake = true → s.handler.state ≠ .idle → (∃ m ∈ s.line.queue, m.topic = 0x70 ∧ m.started = false) →
      ∃ t, exec c s = .next t ∧ KeptBut [.handler, .display] s t ∧
        t.handler = { s.handler with unanswered := min 255 (s.handler.unanswered + 1) }) ∧
    (s.ign.awake = true → s.handler.state ≠ .idle → s.line.Open 0x70 →
      ∃ t, exec c s = .next t ∧ KeptBut [.line, .display] s t ∧
        t.line = s.line.enter 0x70 3 .reply [byteOf topic, 1] .busy) ∧
    (s.TakesRequest → ¬c.Permitted → ∃ t, exec c s = .next t ∧ KeptBut [.line, .handler, .display] s t ∧
      Replies topic .badRequest [] s t)

/-- R166, R168, R177, R189, R153, R157: READ BYTES of a present block gives four of its bytes and CACHED. WRITE BYTES
changes the bytes named and no others, and its line is then DIRTY; the latch, and block 0 always, refuse it with
PROTECTED. Of an absent block both wait, with its fill into the free way of its set begun; that the FILLING line keeps its
recency (R164) is the model's inference (log entry 24). A WRITE BYTES to a service block forms its items' states, which
raise warnings 27 to 29 (R154). -/
def Obligations.BytesAreReadAndWritten : Prop :=
  ∀ (s : State) (b o : Byte) (data : List Byte), s.TakesRequest → s.store.AtRest →
    let begun (t : State) (i : Nat) (task : Task) : Prop :=
      t.store.task = task ∧ t.store.op = some (.readFill b.toNat) ∧ t.store.orders = [.fill b.toNat] ∧
        t.store.lines = s.store.lines.set i { CacheLine.filling b.toNat with recent := (s.store.line i).recent }
    let free (i : Nat) : Prop := s.store.find b.toNat = none ∧ s.store.lines.length = 8 ∧
      (s.store.line i).state = .invalid ∧ (s.store.line i).pinned = false ∧
      (i = 2 * (b.toNat % 4) ∨ (i = 2 * (b.toNat % 4) + 1 ∧ (s.store.line (i - 1)).state ≠ .invalid))
    ((Instr.readBytes b o).Permitted →
      (s.store.Holds b.toNat → ∃ t, exec (.readBytes b o) s = .next t ∧
        KeptBut [.store, .line, .handler, .display] s t ∧
        Replies 0x60 .done (((s.store.dataOf b.toNat).drop o.toNat).take 4 ++ [0]) s t ∧
        (∀ c, t.store.dataOf c = s.store.dataOf c ∧ t.store.present c = s.store.present c) ∧ t.store.AtRest) ∧
      (∀ i, free i → ∃ t, exec (.readBytes b o) s = .next t ∧ KeptBut [.store, .line, .handler, .display] s t ∧
        Works 0x60 s t ∧ begun t i (.read b.toNat o.toNat))) ∧
    ((Instr.writeBytes b o data).Permitted →
      let refused := b.toNat = 0 ∨ (s.store.latch = true ∧ (b.toNat ≤ 2 ∨ 7 ≤ b.toNat))
      (refused → ∃ t, exec (.writeBytes b o data) s = .next t ∧ KeptBut [.line, .handler, .display] s t ∧
        Replies 0x61 .isProtected [] s t) ∧
      (¬refused → s.store.Holds b.toNat → ∃ t, exec (.writeBytes b o data) s = .next t ∧
        KeptBut [.service, .arbiter, .sound, .store, .line, .handler, .keys, .display] s t ∧
        (s.line.queue.length < 11 → t.handler = { s.handler with state := .replying, topic := 0x61 }) ∧
        t.store.Holds b.toNat ∧ (s.arbiter.warnings.length = 32 → s.service.items.length = 8 → s.RaisesForItems t) ∧
        (∀ j < 15, byteAt (t.store.dataOf b.toNat) j = if o.toNat ≤ j ∧ j < o.toNat + data.length then
          byteAt data (j - o.toNat) else byteAt (s.store.dataOf b.toNat) j) ∧
        (∀ c, c ≠ b.toNat → t.store.dataOf c = s.store.dataOf c) ∧
        (∀ i, s.store.presentLine b.toNat = some i → (s.store.line i).state ≠ .writing →
          (t.store.line i).state = .dirty) ∧
        (b.toNat < 3 ∨ 7 ≤ b.toNat → KeptBut [.store, .line, .handler, .display] s t ∧ Replies 0x61 .done [] s t) ∧
        (3 ≤ b.toNat → b.toNat ≤ 6 → s.service.items.length = 8 → ∀ i < 8, itemBlock i = b.toNat →
          (t.item i).state = if s.itemActive i then
            itemStateOf (s.itemFigures i) (t.store.remainingKm i) (t.store.remainingDays i) else (s.item i).state)) ∧
      (¬refused → ∀ i, free i → ∃ t, exec (.writeBytes b o data) s = .next t ∧
        KeptBut [.store, .line, .handler, .display] s t ∧ Works 0x61 s t ∧ begun t i (.write b.toNat o.toNat data)))

/-- R166, R167, R171: a FETCH of a present block gives DONE at once; of an absent one it waits, with the fill begun into a
free way, or into the least recently used CLEAN way; a DIRTY victim is written first, by a SINGLE order, after which the
fetch chooses afresh and its fill begins; with no eligible way the fetch waits for one, such as an UNPIN brings.
FETCH-AND-PIN also pins, and is PINNED where the other way holds a pinned line of another block. UNPIN clears a pin, but
never a system line's. VERIFY waits for its read. That a FILLING line keeps its recency (R164) is the model's inference
(log entry 24). -/
def Obligations.FetchesAndPinsAreTaken : Prop :=
  (∀ (s : State) (n i old k : Nat) (snapshot : List Byte) (pin : Bool), s.StaysUp i → s.store.lines.length = 8 →
    s.store.op = some (.write i snapshot .single k) → s.store.orders = [.single old false (some n)] →
    s.store.waiting = [.fetch n true] → s.store.task = .fetch n pin → s.store.find n = none → s.store.find old = some i →
    (s.store.line i).tag = some old → (s.store.line i).state = .writing → (s.store.line i).pinned = false →
    (s.store.line i).redirty = false → i / 2 = n % 4 →
    (s.store.line (otherWay i)).pinned = true ∨ ((s.store.line i).recent = false ∧
      (s.store.line (otherWay i)).recent = true ∧ (s.store.line (otherWay i)).state ∈ [.clean, .dirty]) →
    ∃ t, exec .blockWriteReady s = .next t ∧ KeptBut [.store, .display] s t ∧ t.store.task = .fetch n pin ∧
      t.store.waiting = [] ∧ t.store.orders = [.fill n] ∧ t.store.op = some (.readFill n) ∧
      t.store.lines = s.store.lines.set i { CacheLine.filling n with recent := (s.store.line i).recent }) ∧
  (∀ (s : State) (b : Byte) (n i : Nat), s.TakesRequest → s.store.lines.length = 8 → s.store.orders = [] →
    s.store.op = none → s.store.waiting = [.fetch n false] → s.store.task = .none → s.store.find n = none →
    3 ≤ b.toNat → b.toNat < 64 → s.store.find b.toNat = some i → i / 2 = n % 4 → (s.store.line i).state = .clean →
    (s.store.line (otherWay i)).pinned = true →
    ∃ t, exec (.unpin b) s = .next t ∧ KeptBut [.store, .line, .handler, .display] s t ∧ Replies 0x62 .done [] s t ∧
      t.store = { s.store with
        orders := [.fill n], op := some (.readFill n), waiting := []
        lines := s.store.lines.set i { CacheLine.filling n with recent := (s.store.line i).recent } }) ∧
  ∀ (s : State) (b : Byte), s.TakesRequest → s.store.AtRest → b.toNat < 64 → s.store.lines.length = 8 →
    let n := b.toNat
    let same (t : State) : Prop := ∀ c, t.store.dataOf c = s.store.dataOf c ∧ t.store.present c = s.store.present c
    let pins (t : State) (x : Bool) : Prop := ∀ i, s.store.find n = some i → (t.store.line i).pinned = x ∧
      ∀ j, j ≠ i → (t.store.line j).pinned = (s.store.line j).pinned
    let otherPinned : Prop := ∃ j, (j = 2 * (n % 4) ∨ j = 2 * (n % 4) + 1) ∧ (s.store.line j).pinned = true ∧
      (s.store.line j).tag ≠ some n
    let frame (t : State) : Prop := KeptBut [.store, .line, .handler, .display] s t
    let passed (j i : Nat) : Prop := (s.store.line j).pinned = true ∨
      ((s.store.line j).state = .dirty ∧ s.store.nvFault = true) ∨
      ((s.store.line j).state ∈ [.clean, .dirty] ∧ (s.store.line i).recent = false ∧ (s.store.line j).recent = true)
    let victim (i : Nat) : Prop := s.store.find n = none ∧ (s.store.line i).pinned = false ∧
      (i = 2 * (n % 4) ∨ i = 2 * (n % 4) + 1) ∧ ((s.store.line i).state = .invalid →
        i % 2 = 0 ∨ (s.store.line (i - 1)).state ≠ .invalid ∨ (s.store.line (i - 1)).pinned = true) ∧
      ((s.store.line i).state = .invalid ∨ ((s.store.line i).state = .clean ∧ passed (otherWay i) i))
    let dirtyVictim (i old : Nat) : Prop := s.store.find n = none ∧ (s.store.line i).pinned = false ∧
      (i = 2 * (n % 4) ∨ i = 2 * (n % 4) + 1) ∧ (s.store.line i).state = .dirty ∧ s.store.nvFault = false ∧
      s.store.find old = some i ∧ (s.store.line i).tag = some old ∧ passed (otherWay i) i
    let noWay : Prop := s.store.find n = none ∧ ∀ i, (i = 2 * (n % 4) ∨ i = 2 * (n % 4) + 1) →
      (s.store.line i).pinned = true ∨ ((s.store.line i).state = .dirty ∧ s.store.nvFault = true)
    let writesVictim (t : State) (i old : Nat) (pin : Bool) : Prop := t.store = { s.store with
      orders := [.single old false (some n)], waiting := [.fetch n true], task := .fetch n pin
      op := if s.store.pwrGood then some (.write i (s.store.line i).data .single 4) else none
      lines := if s.store.pwrGood then s.store.lines.modify i fun l => { l with state := .writing, redirty := false }
        else s.store.lines }
    let waits (t : State) (pin : Bool) : Prop := t.store = { s.store with
      waiting := [.fetch n false], task := .fetch n pin }
    let begun (t : State) (i : Nat) (pin : Bool) : Prop := t.store.task = .fetch n pin ∧
      t.store.op = some (.readFill n) ∧ t.store.orders = [.fill n] ∧
      t.store.lines = s.store.lines.set i { CacheLine.filling n with recent := (s.store.line i).recent }
    (s.store.present n = true → ∃ t, exec (.fetch b) s = .next t ∧ frame t ∧ Replies 0x62 .done [] s t ∧ same t) ∧
    (∀ i, victim i → ∃ t, exec (.fetch b) s = .next t ∧ frame t ∧ Works 0x62 s t ∧ begun t i false) ∧
    (∀ i old, dirtyVictim i old → ∃ t, exec (.fetch b) s = .next t ∧ frame t ∧ Works 0x62 s t ∧ writesVictim t i old false) ∧
    (noWay → ∃ t, exec (.fetch b) s = .next t ∧ frame t ∧ Works 0x62 s t ∧ waits t false) ∧
    (otherPinned → s.store.isPinned n = false → ∃ t, exec (.fetchAndPin b) s = .next t ∧
      KeptBut [.line, .handler, .display] s t ∧ Replies 0x62 .pinned [] s t) ∧
    (s.store.present n = true → s.store.isPinned n = true ∨ ¬otherPinned → ∃ t, exec (.fetchAndPin b) s = .next t ∧
      frame t ∧ Replies 0x62 .done [] s t ∧ same t ∧ pins t true) ∧
    (¬otherPinned → ∀ i, victim i → ∃ t, exec (.fetchAndPin b) s = .next t ∧ frame t ∧ Works 0x62 s t ∧ begun t i true) ∧
    (¬otherPinned → ∀ i old, dirtyVictim i old →
      ∃ t, exec (.fetchAndPin b) s = .next t ∧ frame t ∧ Works 0x62 s t ∧ writesVictim t i old true) ∧
    (¬otherPinned → noWay → ∃ t, exec (.fetchAndPin b) s = .next t ∧ frame t ∧ Works 0x62 s t ∧ waits t true) ∧
    (n ≤ 2 → ∃ t, exec (.unpin b) s = .next t ∧ KeptBut [.line, .handler, .display] s t ∧
      Replies 0x62 .pinned [] s t) ∧
    (3 ≤ n → ∃ t, exec (.unpin b) s = .next t ∧ frame t ∧ Replies 0x62 .done [] s t ∧ same t ∧
      (s.store.present n = true → pins t false) ∧ (s.store.present n = false → t.store = s.store)) ∧
    (∃ t, exec (.verify b) s = .next t ∧ frame t ∧ Works 0x62 s t ∧ t.store = { s.store with
      orders := [.verify n], op := some (.readVerify n), task := .verify n })

/-- R169, R170, R177: WRITEBACK of a DIRTY line begins its write, and of a CLEAN or absent block gives DONE. The three
removals of a CLEAN line make it INVALID; a DIRTY line is written first, but for INVALIDATE, which loses its changes. A
system line is PINNED, as a pinned one is to INVALIDATE, and the latch protects blocks 7 to 63 from INVALIDATE. The
model's inferences: PROTECTED comes before PINNED (log entry 22), INVALIDATE of an absent block is DONE (log entry 41),
and a removed line keeps its recency (R164; log entry 24). That PINNED is answered at once in every state of the line is
its choice (log entry 52). -/
def Obligations.WritebacksAndRemovalsAreTaken : Prop :=
  ∀ (s : State) (b : Byte), s.TakesRequest → s.store.AtRest → s.store.NoneWriting → s.store.pwrGood = true →
    s.store.nvFault = false → b.toNat < 64 →
    let n := b.toNat
    let frame (t : State) : Prop := KeptBut [.store, .line, .handler, .display] s t
    let refused (c : Instr) (x : Status) : Prop :=
      ∃ t, exec c s = .next t ∧ KeptBut [.line, .handler, .display] s t ∧ Replies 0x62 x [] s t
    let writes (c : Instr) (i : Nat) (task : Task) : Prop := ∃ t, exec c s = .next t ∧ frame t ∧ Works 0x62 s t ∧
      t.store = { s.store with
        lines := s.store.lines.modify i fun l => { l with state := .writing, redirty := false }
        orders := [.single n true none], op := some (.write i (s.store.line i).data .single 4), task := task }
    let removes (c : Instr) (i : Nat) : Prop := ∃ t, exec c s = .next t ∧ frame t ∧ Replies 0x62 .done [] s t ∧
      t.store = { s.store with
        lines := s.store.lines.modify i fun l => { CacheLine.invalid with recent := l.recent } }
    (s.store.find n = none → refused (.writeback b) .done ∧ (3 ≤ n → refused (.writebackInvalidate b) .done) ∧
      (3 ≤ n → n ≤ 6 ∨ s.store.latch = false → refused (.invalidate b) .done)) ∧
    (n ≤ 2 → refused (.writebackInvalidate b) .pinned ∧ refused (.invalidate b) .pinned) ∧
    (7 ≤ n → s.store.latch = true → refused (.invalidate b) .isProtected) ∧
    ∀ i, s.store.find n = some i →
      (n ≤ 2 → ∀ x y : Byte, i = 2 * x.toNat + y.toNat → x.toNat < 4 → y.toNat < 2 → (s.store.line i).state ≠ .invalid →
        refused (.indexWritebackInvalidate x y) .pinned) ∧
      ((s.store.line i).state = .clean → refused (.writeback b) .done) ∧
      ((s.store.line i).state = .dirty → writes (.writeback b) i (.writeback n)) ∧
      (3 ≤ n →
        ((s.store.line i).state = .clean → removes (.writebackInvalidate b) i) ∧
        ((s.store.line i).state = .dirty → writes (.writebackInvalidate b) i (.writebackInvalidate n true)) ∧
        (∀ x y : Byte, i = 2 * x.toNat + y.toNat → x.toNat < 4 → y.toNat < 2 →
          ((s.store.line i).state = .clean → removes (.indexWritebackInvalidate x y) i) ∧
          ((s.store.line i).state = .dirty →
            writes (.indexWritebackInvalidate x y) i (.writebackInvalidate n true))) ∧
        (n ≤ 6 ∨ s.store.latch = false →
          ((s.store.line i).pinned = true → refused (.invalidate b) .pinned) ∧
          ((s.store.line i).pinned = false → (s.store.line i).state ∈ [.clean, .dirty] →
            removes (.invalidate b) i)))

/-- R99, R170, R177, R178, R191, R192: SET ODOMETER is PROTECTED while the latch is set and BELOW under the present value;
else block 0 holds the value, GOOD, with its write-back placed. CLOSE sets the latch. An INDEX operation on an INVALID
line is DONE. READ STATUS answers at once with the bytes of Table 12-5 and changes nothing else. GAUGE TEST starts a
sweep, or marks the running one, in RUN while STOPPED; else it answers STATE. -/
def Obligations.OdometerLatchAndStatusRequests : Prop :=
  (∀ (s : State) (x y : Byte), s.TakesRequest → (Instr.readStatus x y).Permitted →
    ∃ t bytes, exec (.readStatus x y) s = .next t ∧ KeptBut [.line, .handler, .display] s t ∧ Replies 0x67 .done bytes s t ∧
      bytes.length ≤ 6 ∧ s.StatusBytes x.toNat y.toNat bytes) ∧
  ∀ s : State, s.TakesRequest → s.store.AtRest →
    let only (t : State) : Prop := KeptBut [.line, .handler, .display] s t
    (∀ v : BitVec 24, v.toNat ≤ 9999999 →
      (s.store.latch = true → ∃ t, exec (.setOdometer v) s = .next t ∧ only t ∧ Replies 0x63 .isProtected [] s t) ∧
      (s.store.latch = false → v.toNat < s.store.odometerValue →
        ∃ t, exec (.setOdometer v) s = .next t ∧ only t ∧ Replies 0x63 .below [] s t) ∧
      (s.store.latch = false → s.store.odometerValue ≤ v.toNat → s.store.Holds 0 → s.store.NoneWriting →
        s.store.pwrGood = true → s.store.nvFault = false → ∃ t, exec (.setOdometer v) s = .next t ∧
          KeptBut [.store, .line, .handler, .display] s t ∧ Replies 0x63 .done [] s t ∧
          t.store.odometer = some (v.toNat, true) ∧ t.store.orders = [.single 0 false none] ∧
          ∀ b, b ≠ 0 → t.store.dataOf b = s.store.dataOf b)) ∧
    (∃ t, exec .close s = .next t ∧ KeptBut [.store, .line, .handler, .display] s t ∧ Replies 0x64 .done [] s t ∧
      t.store = { s.store with latch := true }) ∧
    (∀ x y : Byte, x.toNat < 4 → y.toNat < 2 → (s.store.line (2 * x.toNat + y.toNat)).state = .invalid →
      ∃ t, exec (.indexWritebackInvalidate x y) s = .next t ∧ only t ∧ Replies 0x62 .done [] s t) ∧
    (s.ign = .run → s.counting.speed < 20 → ∃ t, exec .gaugeTest s = .next t ∧
      KeptBut [.gauges, .handler, .display] s t ∧ Works 0x68 s t ∧ t.gauges.testMark = true ∧
      (s.gauges.sweep.isSome = true → t.gauges = { s.gauges with testMark := true }) ∧
      (s.gauges.sweep = none → t.gauges.sweep = some 0 ∧ t.gauges.timer = s.gauges.timer ∧
        t.gauges.gauges = s.gauges.gauges.map fun _ =>
          { state := .sweep, evaluated := none, target := 0, filtered := 0, commanded := 0, parkCount := 0,
            driven := true })) ∧
    (¬(s.ign = .run ∧ s.counting.speed < 20) →
      ∃ t, exec .gaugeTest s = .next t ∧ only t ∧ Replies 0x68 .state [] s t)

/-! ### Service items (Chapter 9) -/

/-- R153, R156: a midnight rollover while awake is "1 day", and the step that ends a kilometre is "1 km". For each active
item with that dimension in use it lowers the remaining count of a present block by 1, down to −32,000, and forms the
item's state; of an absent block it adds 1 to the pending count, up to 255, and has a FETCH outstanding. R154: a change of
state into SOON, DUE or OVERDUE raises warning 27, 28 or 29. R2, R3, R7, R8: that step makes the counts of Table 1-1 gain
as every other does, the odometer with its checkpoint too where its sub-count wraps with it. The system lines are pinned,
as LatchStaysSet has it, and every line holds a block of its own set, as StateStaysInBounds has it (R164), so that no
FETCH takes a system line, or a present service block, as victim. -/
def Obligations.CountdownLowersItems : Prop :=
  ∀ (s : State) (km : Bool) (c : Instr), s.store.AtRest → s.store.SystemPresent →
    (∀ b ≤ 2, s.store.isPinned b = true) → s.store.InSets → s.service.items.length = 8 → s.service.fetchMarks.length = 4 →
    (km = false → c = .oneSecondTimer ∧ s.counting.BeforeMidnight ∧ s.ign.awake = true) →
    (km = true → 99 ≤ s.counting.serviceSub ∧ s.cal.divisor ≤ s.counting.stepCount + 1 ∧
      ∃ e, c = .speedPulse e ∧ s.AcceptsPulse e) →
    ∃ t, exec c s = .next t ∧
      KeptBut [.counting, .arith, .trip, .service, .store, .arbiter, .sound, .line, .handler, .keys, .freeIndex, .display] s t ∧
      (km = true → t.arith = s.arith ∧ t.freeIndex = s.freeIndex ∧ t.store.latch = true ∧
        (∀ r : TripRecord, t.tripView r = { s.tripView r with distance := min 16777215 ((s.tripView r).distance + 1) }) ∧
        let gains : Prop := 9 ≤ s.counting.odometerSub ∧ s.store.odometerValue < 9999999
        let left := s.counting.checkpoint - 1
        t.store.odometerValue = s.store.odometerValue + (if gains then 1 else 0) ∧
        t.counting = { s.counting with
          sinceAccepted := some 0, openCount := min 65535 (s.counting.openCount + 1), stepCount := 0
          odometerSub := if 9 ≤ s.counting.odometerSub then 0 else s.counting.odometerSub + 1, serviceSub := 0
          checkpoint := if gains then (if left = 0 then 100 else left) else s.counting.checkpoint
          turnDistance := if s.counting.turnActive then min 65535 (s.counting.turnDistance + 1)
            else s.counting.turnDistance
          windowSteps := min 65535 (s.counting.windowSteps + 1), stepTally := (s.counting.stepTally + 1) % 65536 } ∧
        (gains → left = 0 → s.store.NoneWriting → s.store.nvFault = false → .single 0 false none ∈ t.store.orders ∧
          (s.store.pwrGood = true → (∀ b, 3 ≤ b → b ≤ 6 → s.store.present b = true) → ∃ i,
            t.store.op = some (.write i (t.store.dataOf 0) .single 4) ∧ (t.store.line i).tag = some 0 ∧
            (t.store.line i).state = .writing))) ∧
      (∀ i < 8, let f := s.itemFigures i
        let counts := s.itemActive i = true ∧ (if km then f.distanceInterval else f.dayInterval) ≠ 0
        (s.store.present (itemBlock i) = false →
          (t.item i).state = (s.item i).state ∧
          (t.item i).pendingKm = (if km = true ∧ counts then min 255 ((s.item i).pendingKm + 1) else (s.item i).pendingKm) ∧
          (t.item i).pendingDays =
            (if km = false ∧ counts then min 255 ((s.item i).pendingDays + 1) else (s.item i).pendingDays) ∧
          (counts → t.service.mark (itemBlock i) = true)) ∧
        (s.store.Holds (itemBlock i) →
          (t.item i).pendingKm = (s.item i).pendingKm ∧ (t.item i).pendingDays = (s.item i).pendingDays ∧
          t.store.remainingKm i = (if km = true ∧ counts ∧ -32000 < s.store.remainingKm i then s.store.remainingKm i - 1
            else s.store.remainingKm i) ∧
          t.store.remainingDays i = (if km = false ∧ counts ∧ -32000 < s.store.remainingDays i then
            s.store.remainingDays i - 1 else s.store.remainingDays i) ∧
          (t.item i).state = if s.itemActive i then itemStateOf f (t.store.remainingKm i) (t.store.remainingDays i)
            else (s.item i).state)) ∧
      (s.arbiter.warnings.length = 32 → s.RaisesForItems t) ∧ t.service.selected = s.service.selected

end
end

