-- ==== Sys2Proof/Laws/State.lean ====
section
/-! SUPPORT. Every block of the state after an update of one block, and after what follows every command: one lemma per
block per update, so that no later proof unfolds a record update. -/

namespace Sys2Proof.Machine

set_option Elab.async false

/-! ### `setIgnition` -/

@[simp] theorem State.setIgnition_ignition (s : State) (x) : (s.setIgnition x).ignition = x := rfl
@[simp] theorem State.setIgnition_counting (s : State) (x) : (s.setIgnition x).counting = s.counting := rfl
@[simp] theorem State.setIgnition_arith (s : State) (x) : (s.setIgnition x).arith = s.arith := rfl
@[simp] theorem State.setIgnition_trip (s : State) (x) : (s.setIgnition x).trip = s.trip := rfl
@[simp] theorem State.setIgnition_keys (s : State) (x) : (s.setIgnition x).keys = s.keys := rfl
@[simp] theorem State.setIgnition_display (s : State) (x) : (s.setIgnition x).display = s.display := rfl
@[simp] theorem State.setIgnition_line (s : State) (x) : (s.setIgnition x).line = s.line := rfl
@[simp] theorem State.setIgnition_topics (s : State) (x) : (s.setIgnition x).topics = s.topics := rfl
@[simp] theorem State.setIgnition_gauges (s : State) (x) : (s.setIgnition x).gauges = s.gauges := rfl
@[simp] theorem State.setIgnition_rules (s : State) (x) : (s.setIgnition x).rules = s.rules := rfl
@[simp] theorem State.setIgnition_arbiter (s : State) (x) : (s.setIgnition x).arbiter = s.arbiter := rfl
@[simp] theorem State.setIgnition_sound (s : State) (x) : (s.setIgnition x).sound = s.sound := rfl
@[simp] theorem State.setIgnition_service (s : State) (x) : (s.setIgnition x).service = s.service := rfl
@[simp] theorem State.setIgnition_store (s : State) (x) : (s.setIgnition x).store = s.store := rfl
@[simp] theorem State.setIgnition_handler (s : State) (x) : (s.setIgnition x).handler = s.handler := rfl
@[simp] theorem State.setIgnition_cal (s : State) (x) : (s.setIgnition x).cal = s.cal := rfl
@[simp] theorem State.setIgnition_freeIndex (s : State) (x) : (s.setIgnition x).freeIndex = s.freeIndex := rfl
@[simp] theorem State.setIgnition_pending (s : State) (x) : (s.setIgnition x).pending = s.pending := rfl

/-! ### `setCounting` -/

@[simp] theorem State.setCounting_ignition (s : State) (x) : (s.setCounting x).ignition = s.ignition := rfl
@[simp] theorem State.setCounting_counting (s : State) (x) : (s.setCounting x).counting = x := rfl
@[simp] theorem State.setCounting_arith (s : State) (x) : (s.setCounting x).arith = s.arith := rfl
@[simp] theorem State.setCounting_trip (s : State) (x) : (s.setCounting x).trip = s.trip := rfl
@[simp] theorem State.setCounting_keys (s : State) (x) : (s.setCounting x).keys = s.keys := rfl
@[simp] theorem State.setCounting_display (s : State) (x) : (s.setCounting x).display = s.display := rfl
@[simp] theorem State.setCounting_line (s : State) (x) : (s.setCounting x).line = s.line := rfl
@[simp] theorem State.setCounting_topics (s : State) (x) : (s.setCounting x).topics = s.topics := rfl
@[simp] theorem State.setCounting_gauges (s : State) (x) : (s.setCounting x).gauges = s.gauges := rfl
@[simp] theorem State.setCounting_rules (s : State) (x) : (s.setCounting x).rules = s.rules := rfl
@[simp] theorem State.setCounting_arbiter (s : State) (x) : (s.setCounting x).arbiter = s.arbiter := rfl
@[simp] theorem State.setCounting_sound (s : State) (x) : (s.setCounting x).sound = s.sound := rfl
@[simp] theorem State.setCounting_service (s : State) (x) : (s.setCounting x).service = s.service := rfl
@[simp] theorem State.setCounting_store (s : State) (x) : (s.setCounting x).store = s.store := rfl
@[simp] theorem State.setCounting_handler (s : State) (x) : (s.setCounting x).handler = s.handler := rfl
@[simp] theorem State.setCounting_cal (s : State) (x) : (s.setCounting x).cal = s.cal := rfl
@[simp] theorem State.setCounting_freeIndex (s : State) (x) : (s.setCounting x).freeIndex = s.freeIndex := rfl
@[simp] theorem State.setCounting_pending (s : State) (x) : (s.setCounting x).pending = s.pending := rfl

/-! ### `setArith` -/

@[simp] theorem State.setArith_ignition (s : State) (x) : (s.setArith x).ignition = s.ignition := rfl
@[simp] theorem State.setArith_counting (s : State) (x) : (s.setArith x).counting = s.counting := rfl
@[simp] theorem State.setArith_arith (s : State) (x) : (s.setArith x).arith = x := rfl
@[simp] theorem State.setArith_trip (s : State) (x) : (s.setArith x).trip = s.trip := rfl
@[simp] theorem State.setArith_keys (s : State) (x) : (s.setArith x).keys = s.keys := rfl
@[simp] theorem State.setArith_display (s : State) (x) : (s.setArith x).display = s.display := rfl
@[simp] theorem State.setArith_line (s : State) (x) : (s.setArith x).line = s.line := rfl
@[simp] theorem State.setArith_topics (s : State) (x) : (s.setArith x).topics = s.topics := rfl
@[simp] theorem State.setArith_gauges (s : State) (x) : (s.setArith x).gauges = s.gauges := rfl
@[simp] theorem State.setArith_rules (s : State) (x) : (s.setArith x).rules = s.rules := rfl
@[simp] theorem State.setArith_arbiter (s : State) (x) : (s.setArith x).arbiter = s.arbiter := rfl
@[simp] theorem State.setArith_sound (s : State) (x) : (s.setArith x).sound = s.sound := rfl
@[simp] theorem State.setArith_service (s : State) (x) : (s.setArith x).service = s.service := rfl
@[simp] theorem State.setArith_store (s : State) (x) : (s.setArith x).store = s.store := rfl
@[simp] theorem State.setArith_handler (s : State) (x) : (s.setArith x).handler = s.handler := rfl
@[simp] theorem State.setArith_cal (s : State) (x) : (s.setArith x).cal = s.cal := rfl
@[simp] theorem State.setArith_freeIndex (s : State) (x) : (s.setArith x).freeIndex = s.freeIndex := rfl
@[simp] theorem State.setArith_pending (s : State) (x) : (s.setArith x).pending = s.pending := rfl

/-! ### `setTrip` -/

@[simp] theorem State.setTrip_ignition (s : State) (x) : (s.setTrip x).ignition = s.ignition := rfl
@[simp] theorem State.setTrip_counting (s : State) (x) : (s.setTrip x).counting = s.counting := rfl
@[simp] theorem State.setTrip_arith (s : State) (x) : (s.setTrip x).arith = s.arith := rfl
@[simp] theorem State.setTrip_trip (s : State) (x) : (s.setTrip x).trip = x := rfl
@[simp] theorem State.setTrip_keys (s : State) (x) : (s.setTrip x).keys = s.keys := rfl
@[simp] theorem State.setTrip_display (s : State) (x) : (s.setTrip x).display = s.display := rfl
@[simp] theorem State.setTrip_line (s : State) (x) : (s.setTrip x).line = s.line := rfl
@[simp] theorem State.setTrip_topics (s : State) (x) : (s.setTrip x).topics = s.topics := rfl
@[simp] theorem State.setTrip_gauges (s : State) (x) : (s.setTrip x).gauges = s.gauges := rfl
@[simp] theorem State.setTrip_rules (s : State) (x) : (s.setTrip x).rules = s.rules := rfl
@[simp] theorem State.setTrip_arbiter (s : State) (x) : (s.setTrip x).arbiter = s.arbiter := rfl
@[simp] theorem State.setTrip_sound (s : State) (x) : (s.setTrip x).sound = s.sound := rfl
@[simp] theorem State.setTrip_service (s : State) (x) : (s.setTrip x).service = s.service := rfl
@[simp] theorem State.setTrip_store (s : State) (x) : (s.setTrip x).store = s.store := rfl
@[simp] theorem State.setTrip_handler (s : State) (x) : (s.setTrip x).handler = s.handler := rfl
@[simp] theorem State.setTrip_cal (s : State) (x) : (s.setTrip x).cal = s.cal := rfl
@[simp] theorem State.setTrip_freeIndex (s : State) (x) : (s.setTrip x).freeIndex = s.freeIndex := rfl
@[simp] theorem State.setTrip_pending (s : State) (x) : (s.setTrip x).pending = s.pending := rfl

/-! ### `setKeys` -/

@[simp] theorem State.setKeys_ignition (s : State) (x) : (s.setKeys x).ignition = s.ignition := rfl
@[simp] theorem State.setKeys_counting (s : State) (x) : (s.setKeys x).counting = s.counting := rfl
@[simp] theorem State.setKeys_arith (s : State) (x) : (s.setKeys x).arith = s.arith := rfl
@[simp] theorem State.setKeys_trip (s : State) (x) : (s.setKeys x).trip = s.trip := rfl
@[simp] theorem State.setKeys_keys (s : State) (x) : (s.setKeys x).keys = x := rfl
@[simp] theorem State.setKeys_display (s : State) (x) : (s.setKeys x).display = s.display := rfl
@[simp] theorem State.setKeys_line (s : State) (x) : (s.setKeys x).line = s.line := rfl
@[simp] theorem State.setKeys_topics (s : State) (x) : (s.setKeys x).topics = s.topics := rfl
@[simp] theorem State.setKeys_gauges (s : State) (x) : (s.setKeys x).gauges = s.gauges := rfl
@[simp] theorem State.setKeys_rules (s : State) (x) : (s.setKeys x).rules = s.rules := rfl
@[simp] theorem State.setKeys_arbiter (s : State) (x) : (s.setKeys x).arbiter = s.arbiter := rfl
@[simp] theorem State.setKeys_sound (s : State) (x) : (s.setKeys x).sound = s.sound := rfl
@[simp] theorem State.setKeys_service (s : State) (x) : (s.setKeys x).service = s.service := rfl
@[simp] theorem State.setKeys_store (s : State) (x) : (s.setKeys x).store = s.store := rfl
@[simp] theorem State.setKeys_handler (s : State) (x) : (s.setKeys x).handler = s.handler := rfl
@[simp] theorem State.setKeys_cal (s : State) (x) : (s.setKeys x).cal = s.cal := rfl
@[simp] theorem State.setKeys_freeIndex (s : State) (x) : (s.setKeys x).freeIndex = s.freeIndex := rfl
@[simp] theorem State.setKeys_pending (s : State) (x) : (s.setKeys x).pending = s.pending := rfl

/-! ### `setDisplay` -/

@[simp] theorem State.setDisplay_ignition (s : State) (x) : (s.setDisplay x).ignition = s.ignition := rfl
@[simp] theorem State.setDisplay_counting (s : State) (x) : (s.setDisplay x).counting = s.counting := rfl
@[simp] theorem State.setDisplay_arith (s : State) (x) : (s.setDisplay x).arith = s.arith := rfl
@[simp] theorem State.setDisplay_trip (s : State) (x) : (s.setDisplay x).trip = s.trip := rfl
@[simp] theorem State.setDisplay_keys (s : State) (x) : (s.setDisplay x).keys = s.keys := rfl
@[simp] theorem State.setDisplay_display (s : State) (x) : (s.setDisplay x).display = x := rfl
@[simp] theorem State.setDisplay_line (s : State) (x) : (s.setDisplay x).line = s.line := rfl
@[simp] theorem State.setDisplay_topics (s : State) (x) : (s.setDisplay x).topics = s.topics := rfl
@[simp] theorem State.setDisplay_gauges (s : State) (x) : (s.setDisplay x).gauges = s.gauges := rfl
@[simp] theorem State.setDisplay_rules (s : State) (x) : (s.setDisplay x).rules = s.rules := rfl
@[simp] theorem State.setDisplay_arbiter (s : State) (x) : (s.setDisplay x).arbiter = s.arbiter := rfl
@[simp] theorem State.setDisplay_sound (s : State) (x) : (s.setDisplay x).sound = s.sound := rfl
@[simp] theorem State.setDisplay_service (s : State) (x) : (s.setDisplay x).service = s.service := rfl
@[simp] theorem State.setDisplay_store (s : State) (x) : (s.setDisplay x).store = s.store := rfl
@[simp] theorem State.setDisplay_handler (s : State) (x) : (s.setDisplay x).handler = s.handler := rfl
@[simp] theorem State.setDisplay_cal (s : State) (x) : (s.setDisplay x).cal = s.cal := rfl
@[simp] theorem State.setDisplay_freeIndex (s : State) (x) : (s.setDisplay x).freeIndex = s.freeIndex := rfl
@[simp] theorem State.setDisplay_pending (s : State) (x) : (s.setDisplay x).pending = s.pending := rfl

/-! ### `setLine` -/

@[simp] theorem State.setLine_ignition (s : State) (x) : (s.setLine x).ignition = s.ignition := rfl
@[simp] theorem State.setLine_counting (s : State) (x) : (s.setLine x).counting = s.counting := rfl
@[simp] theorem State.setLine_arith (s : State) (x) : (s.setLine x).arith = s.arith := rfl
@[simp] theorem State.setLine_trip (s : State) (x) : (s.setLine x).trip = s.trip := rfl
@[simp] theorem State.setLine_keys (s : State) (x) : (s.setLine x).keys = s.keys := rfl
@[simp] theorem State.setLine_display (s : State) (x) : (s.setLine x).display = s.display := rfl
@[simp] theorem State.setLine_line (s : State) (x) : (s.setLine x).line = x := rfl
@[simp] theorem State.setLine_topics (s : State) (x) : (s.setLine x).topics = s.topics := rfl
@[simp] theorem State.setLine_gauges (s : State) (x) : (s.setLine x).gauges = s.gauges := rfl
@[simp] theorem State.setLine_rules (s : State) (x) : (s.setLine x).rules = s.rules := rfl
@[simp] theorem State.setLine_arbiter (s : State) (x) : (s.setLine x).arbiter = s.arbiter := rfl
@[simp] theorem State.setLine_sound (s : State) (x) : (s.setLine x).sound = s.sound := rfl
@[simp] theorem State.setLine_service (s : State) (x) : (s.setLine x).service = s.service := rfl
@[simp] theorem State.setLine_store (s : State) (x) : (s.setLine x).store = s.store := rfl
@[simp] theorem State.setLine_handler (s : State) (x) : (s.setLine x).handler = s.handler := rfl
@[simp] theorem State.setLine_cal (s : State) (x) : (s.setLine x).cal = s.cal := rfl
@[simp] theorem State.setLine_freeIndex (s : State) (x) : (s.setLine x).freeIndex = s.freeIndex := rfl
@[simp] theorem State.setLine_pending (s : State) (x) : (s.setLine x).pending = s.pending := rfl

/-! ### `setTopics` -/

@[simp] theorem State.setTopics_ignition (s : State) (x) : (s.setTopics x).ignition = s.ignition := rfl
@[simp] theorem State.setTopics_counting (s : State) (x) : (s.setTopics x).counting = s.counting := rfl
@[simp] theorem State.setTopics_arith (s : State) (x) : (s.setTopics x).arith = s.arith := rfl
@[simp] theorem State.setTopics_trip (s : State) (x) : (s.setTopics x).trip = s.trip := rfl
@[simp] theorem State.setTopics_keys (s : State) (x) : (s.setTopics x).keys = s.keys := rfl
@[simp] theorem State.setTopics_display (s : State) (x) : (s.setTopics x).display = s.display := rfl
@[simp] theorem State.setTopics_line (s : State) (x) : (s.setTopics x).line = s.line := rfl
@[simp] theorem State.setTopics_topics (s : State) (x) : (s.setTopics x).topics = x := rfl
@[simp] theorem State.setTopics_gauges (s : State) (x) : (s.setTopics x).gauges = s.gauges := rfl
@[simp] theorem State.setTopics_rules (s : State) (x) : (s.setTopics x).rules = s.rules := rfl
@[simp] theorem State.setTopics_arbiter (s : State) (x) : (s.setTopics x).arbiter = s.arbiter := rfl
@[simp] theorem State.setTopics_sound (s : State) (x) : (s.setTopics x).sound = s.sound := rfl
@[simp] theorem State.setTopics_service (s : State) (x) : (s.setTopics x).service = s.service := rfl
@[simp] theorem State.setTopics_store (s : State) (x) : (s.setTopics x).store = s.store := rfl
@[simp] theorem State.setTopics_handler (s : State) (x) : (s.setTopics x).handler = s.handler := rfl
@[simp] theorem State.setTopics_cal (s : State) (x) : (s.setTopics x).cal = s.cal := rfl
@[simp] theorem State.setTopics_freeIndex (s : State) (x) : (s.setTopics x).freeIndex = s.freeIndex := rfl
@[simp] theorem State.setTopics_pending (s : State) (x) : (s.setTopics x).pending = s.pending := rfl

/-! ### `setGauges` -/

@[simp] theorem State.setGauges_ignition (s : State) (x) : (s.setGauges x).ignition = s.ignition := rfl
@[simp] theorem State.setGauges_counting (s : State) (x) : (s.setGauges x).counting = s.counting := rfl
@[simp] theorem State.setGauges_arith (s : State) (x) : (s.setGauges x).arith = s.arith := rfl
@[simp] theorem State.setGauges_trip (s : State) (x) : (s.setGauges x).trip = s.trip := rfl
@[simp] theorem State.setGauges_keys (s : State) (x) : (s.setGauges x).keys = s.keys := rfl
@[simp] theorem State.setGauges_display (s : State) (x) : (s.setGauges x).display = s.display := rfl
@[simp] theorem State.setGauges_line (s : State) (x) : (s.setGauges x).line = s.line := rfl
@[simp] theorem State.setGauges_topics (s : State) (x) : (s.setGauges x).topics = s.topics := rfl
@[simp] theorem State.setGauges_gauges (s : State) (x) : (s.setGauges x).gauges = x := rfl
@[simp] theorem State.setGauges_rules (s : State) (x) : (s.setGauges x).rules = s.rules := rfl
@[simp] theorem State.setGauges_arbiter (s : State) (x) : (s.setGauges x).arbiter = s.arbiter := rfl
@[simp] theorem State.setGauges_sound (s : State) (x) : (s.setGauges x).sound = s.sound := rfl
@[simp] theorem State.setGauges_service (s : State) (x) : (s.setGauges x).service = s.service := rfl
@[simp] theorem State.setGauges_store (s : State) (x) : (s.setGauges x).store = s.store := rfl
@[simp] theorem State.setGauges_handler (s : State) (x) : (s.setGauges x).handler = s.handler := rfl
@[simp] theorem State.setGauges_cal (s : State) (x) : (s.setGauges x).cal = s.cal := rfl
@[simp] theorem State.setGauges_freeIndex (s : State) (x) : (s.setGauges x).freeIndex = s.freeIndex := rfl
@[simp] theorem State.setGauges_pending (s : State) (x) : (s.setGauges x).pending = s.pending := rfl

/-! ### `setRules` -/

@[simp] theorem State.setRules_ignition (s : State) (x) : (s.setRules x).ignition = s.ignition := rfl
@[simp] theorem State.setRules_counting (s : State) (x) : (s.setRules x).counting = s.counting := rfl
@[simp] theorem State.setRules_arith (s : State) (x) : (s.setRules x).arith = s.arith := rfl
@[simp] theorem State.setRules_trip (s : State) (x) : (s.setRules x).trip = s.trip := rfl
@[simp] theorem State.setRules_keys (s : State) (x) : (s.setRules x).keys = s.keys := rfl
@[simp] theorem State.setRules_display (s : State) (x) : (s.setRules x).display = s.display := rfl
@[simp] theorem State.setRules_line (s : State) (x) : (s.setRules x).line = s.line := rfl
@[simp] theorem State.setRules_topics (s : State) (x) : (s.setRules x).topics = s.topics := rfl
@[simp] theorem State.setRules_gauges (s : State) (x) : (s.setRules x).gauges = s.gauges := rfl
@[simp] theorem State.setRules_rules (s : State) (x) : (s.setRules x).rules = x := rfl
@[simp] theorem State.setRules_arbiter (s : State) (x) : (s.setRules x).arbiter = s.arbiter := rfl
@[simp] theorem State.setRules_sound (s : State) (x) : (s.setRules x).sound = s.sound := rfl
@[simp] theorem State.setRules_service (s : State) (x) : (s.setRules x).service = s.service := rfl
@[simp] theorem State.setRules_store (s : State) (x) : (s.setRules x).store = s.store := rfl
@[simp] theorem State.setRules_handler (s : State) (x) : (s.setRules x).handler = s.handler := rfl
@[simp] theorem State.setRules_cal (s : State) (x) : (s.setRules x).cal = s.cal := rfl
@[simp] theorem State.setRules_freeIndex (s : State) (x) : (s.setRules x).freeIndex = s.freeIndex := rfl
@[simp] theorem State.setRules_pending (s : State) (x) : (s.setRules x).pending = s.pending := rfl

/-! ### `setArbiter` -/

@[simp] theorem State.setArbiter_ignition (s : State) (x) : (s.setArbiter x).ignition = s.ignition := rfl
@[simp] theorem State.setArbiter_counting (s : State) (x) : (s.setArbiter x).counting = s.counting := rfl
@[simp] theorem State.setArbiter_arith (s : State) (x) : (s.setArbiter x).arith = s.arith := rfl
@[simp] theorem State.setArbiter_trip (s : State) (x) : (s.setArbiter x).trip = s.trip := rfl
@[simp] theorem State.setArbiter_keys (s : State) (x) : (s.setArbiter x).keys = s.keys := rfl
@[simp] theorem State.setArbiter_display (s : State) (x) : (s.setArbiter x).display = s.display := rfl
@[simp] theorem State.setArbiter_line (s : State) (x) : (s.setArbiter x).line = s.line := rfl
@[simp] theorem State.setArbiter_topics (s : State) (x) : (s.setArbiter x).topics = s.topics := rfl
@[simp] theorem State.setArbiter_gauges (s : State) (x) : (s.setArbiter x).gauges = s.gauges := rfl
@[simp] theorem State.setArbiter_rules (s : State) (x) : (s.setArbiter x).rules = s.rules := rfl
@[simp] theorem State.setArbiter_arbiter (s : State) (x) : (s.setArbiter x).arbiter = x := rfl
@[simp] theorem State.setArbiter_sound (s : State) (x) : (s.setArbiter x).sound = s.sound := rfl
@[simp] theorem State.setArbiter_service (s : State) (x) : (s.setArbiter x).service = s.service := rfl
@[simp] theorem State.setArbiter_store (s : State) (x) : (s.setArbiter x).store = s.store := rfl
@[simp] theorem State.setArbiter_handler (s : State) (x) : (s.setArbiter x).handler = s.handler := rfl
@[simp] theorem State.setArbiter_cal (s : State) (x) : (s.setArbiter x).cal = s.cal := rfl
@[simp] theorem State.setArbiter_freeIndex (s : State) (x) : (s.setArbiter x).freeIndex = s.freeIndex := rfl
@[simp] theorem State.setArbiter_pending (s : State) (x) : (s.setArbiter x).pending = s.pending := rfl

/-! ### `setSound` -/

@[simp] theorem State.setSound_ignition (s : State) (x) : (s.setSound x).ignition = s.ignition := rfl
@[simp] theorem State.setSound_counting (s : State) (x) : (s.setSound x).counting = s.counting := rfl
@[simp] theorem State.setSound_arith (s : State) (x) : (s.setSound x).arith = s.arith := rfl
@[simp] theorem State.setSound_trip (s : State) (x) : (s.setSound x).trip = s.trip := rfl
@[simp] theorem State.setSound_keys (s : State) (x) : (s.setSound x).keys = s.keys := rfl
@[simp] theorem State.setSound_display (s : State) (x) : (s.setSound x).display = s.display := rfl
@[simp] theorem State.setSound_line (s : State) (x) : (s.setSound x).line = s.line := rfl
@[simp] theorem State.setSound_topics (s : State) (x) : (s.setSound x).topics = s.topics := rfl
@[simp] theorem State.setSound_gauges (s : State) (x) : (s.setSound x).gauges = s.gauges := rfl
@[simp] theorem State.setSound_rules (s : State) (x) : (s.setSound x).rules = s.rules := rfl
@[simp] theorem State.setSound_arbiter (s : State) (x) : (s.setSound x).arbiter = s.arbiter := rfl
@[simp] theorem State.setSound_sound (s : State) (x) : (s.setSound x).sound = x := rfl
@[simp] theorem State.setSound_service (s : State) (x) : (s.setSound x).service = s.service := rfl
@[simp] theorem State.setSound_store (s : State) (x) : (s.setSound x).store = s.store := rfl
@[simp] theorem State.setSound_handler (s : State) (x) : (s.setSound x).handler = s.handler := rfl
@[simp] theorem State.setSound_cal (s : State) (x) : (s.setSound x).cal = s.cal := rfl
@[simp] theorem State.setSound_freeIndex (s : State) (x) : (s.setSound x).freeIndex = s.freeIndex := rfl
@[simp] theorem State.setSound_pending (s : State) (x) : (s.setSound x).pending = s.pending := rfl

/-! ### `setService` -/

@[simp] theorem State.setService_ignition (s : State) (x) : (s.setService x).ignition = s.ignition := rfl
@[simp] theorem State.setService_counting (s : State) (x) : (s.setService x).counting = s.counting := rfl
@[simp] theorem State.setService_arith (s : State) (x) : (s.setService x).arith = s.arith := rfl
@[simp] theorem State.setService_trip (s : State) (x) : (s.setService x).trip = s.trip := rfl
@[simp] theorem State.setService_keys (s : State) (x) : (s.setService x).keys = s.keys := rfl
@[simp] theorem State.setService_display (s : State) (x) : (s.setService x).display = s.display := rfl
@[simp] theorem State.setService_line (s : State) (x) : (s.setService x).line = s.line := rfl
@[simp] theorem State.setService_topics (s : State) (x) : (s.setService x).topics = s.topics := rfl
@[simp] theorem State.setService_gauges (s : State) (x) : (s.setService x).gauges = s.gauges := rfl
@[simp] theorem State.setService_rules (s : State) (x) : (s.setService x).rules = s.rules := rfl
@[simp] theorem State.setService_arbiter (s : State) (x) : (s.setService x).arbiter = s.arbiter := rfl
@[simp] theorem State.setService_sound (s : State) (x) : (s.setService x).sound = s.sound := rfl
@[simp] theorem State.setService_service (s : State) (x) : (s.setService x).service = x := rfl
@[simp] theorem State.setService_store (s : State) (x) : (s.setService x).store = s.store := rfl
@[simp] theorem State.setService_handler (s : State) (x) : (s.setService x).handler = s.handler := rfl
@[simp] theorem State.setService_cal (s : State) (x) : (s.setService x).cal = s.cal := rfl
@[simp] theorem State.setService_freeIndex (s : State) (x) : (s.setService x).freeIndex = s.freeIndex := rfl
@[simp] theorem State.setService_pending (s : State) (x) : (s.setService x).pending = s.pending := rfl

/-! ### `setStore` -/

@[simp] theorem State.setStore_ignition (s : State) (x) : (s.setStore x).ignition = s.ignition := rfl
@[simp] theorem State.setStore_counting (s : State) (x) : (s.setStore x).counting = s.counting := rfl
@[simp] theorem State.setStore_arith (s : State) (x) : (s.setStore x).arith = s.arith := rfl
@[simp] theorem State.setStore_trip (s : State) (x) : (s.setStore x).trip = s.trip := rfl
@[simp] theorem State.setStore_keys (s : State) (x) : (s.setStore x).keys = s.keys := rfl
@[simp] theorem State.setStore_display (s : State) (x) : (s.setStore x).display = s.display := rfl
@[simp] theorem State.setStore_line (s : State) (x) : (s.setStore x).line = s.line := rfl
@[simp] theorem State.setStore_topics (s : State) (x) : (s.setStore x).topics = s.topics := rfl
@[simp] theorem State.setStore_gauges (s : State) (x) : (s.setStore x).gauges = s.gauges := rfl
@[simp] theorem State.setStore_rules (s : State) (x) : (s.setStore x).rules = s.rules := rfl
@[simp] theorem State.setStore_arbiter (s : State) (x) : (s.setStore x).arbiter = s.arbiter := rfl
@[simp] theorem State.setStore_sound (s : State) (x) : (s.setStore x).sound = s.sound := rfl
@[simp] theorem State.setStore_service (s : State) (x) : (s.setStore x).service = s.service := rfl
@[simp] theorem State.setStore_store (s : State) (x) : (s.setStore x).store = x := rfl
@[simp] theorem State.setStore_handler (s : State) (x) : (s.setStore x).handler = s.handler := rfl
@[simp] theorem State.setStore_cal (s : State) (x) : (s.setStore x).cal = s.cal := rfl
@[simp] theorem State.setStore_freeIndex (s : State) (x) : (s.setStore x).freeIndex = s.freeIndex := rfl
@[simp] theorem State.setStore_pending (s : State) (x) : (s.setStore x).pending = s.pending := rfl

/-! ### `setHandler` -/

@[simp] theorem State.setHandler_ignition (s : State) (x) : (s.setHandler x).ignition = s.ignition := rfl
@[simp] theorem State.setHandler_counting (s : State) (x) : (s.setHandler x).counting = s.counting := rfl
@[simp] theorem State.setHandler_arith (s : State) (x) : (s.setHandler x).arith = s.arith := rfl
@[simp] theorem State.setHandler_trip (s : State) (x) : (s.setHandler x).trip = s.trip := rfl
@[simp] theorem State.setHandler_keys (s : State) (x) : (s.setHandler x).keys = s.keys := rfl
@[simp] theorem State.setHandler_display (s : State) (x) : (s.setHandler x).display = s.display := rfl
@[simp] theorem State.setHandler_line (s : State) (x) : (s.setHandler x).line = s.line := rfl
@[simp] theorem State.setHandler_topics (s : State) (x) : (s.setHandler x).topics = s.topics := rfl
@[simp] theorem State.setHandler_gauges (s : State) (x) : (s.setHandler x).gauges = s.gauges := rfl
@[simp] theorem State.setHandler_rules (s : State) (x) : (s.setHandler x).rules = s.rules := rfl
@[simp] theorem State.setHandler_arbiter (s : State) (x) : (s.setHandler x).arbiter = s.arbiter := rfl
@[simp] theorem State.setHandler_sound (s : State) (x) : (s.setHandler x).sound = s.sound := rfl
@[simp] theorem State.setHandler_service (s : State) (x) : (s.setHandler x).service = s.service := rfl
@[simp] theorem State.setHandler_store (s : State) (x) : (s.setHandler x).store = s.store := rfl
@[simp] theorem State.setHandler_handler (s : State) (x) : (s.setHandler x).handler = x := rfl
@[simp] theorem State.setHandler_cal (s : State) (x) : (s.setHandler x).cal = s.cal := rfl
@[simp] theorem State.setHandler_freeIndex (s : State) (x) : (s.setHandler x).freeIndex = s.freeIndex := rfl
@[simp] theorem State.setHandler_pending (s : State) (x) : (s.setHandler x).pending = s.pending := rfl

/-! ### `setCal` -/

@[simp] theorem State.setCal_ignition (s : State) (x) : (s.setCal x).ignition = s.ignition := rfl
@[simp] theorem State.setCal_counting (s : State) (x) : (s.setCal x).counting = s.counting := rfl
@[simp] theorem State.setCal_arith (s : State) (x) : (s.setCal x).arith = s.arith := rfl
@[simp] theorem State.setCal_trip (s : State) (x) : (s.setCal x).trip = s.trip := rfl
@[simp] theorem State.setCal_keys (s : State) (x) : (s.setCal x).keys = s.keys := rfl
@[simp] theorem State.setCal_display (s : State) (x) : (s.setCal x).display = s.display := rfl
@[simp] theorem State.setCal_line (s : State) (x) : (s.setCal x).line = s.line := rfl
@[simp] theorem State.setCal_topics (s : State) (x) : (s.setCal x).topics = s.topics := rfl
@[simp] theorem State.setCal_gauges (s : State) (x) : (s.setCal x).gauges = s.gauges := rfl
@[simp] theorem State.setCal_rules (s : State) (x) : (s.setCal x).rules = s.rules := rfl
@[simp] theorem State.setCal_arbiter (s : State) (x) : (s.setCal x).arbiter = s.arbiter := rfl
@[simp] theorem State.setCal_sound (s : State) (x) : (s.setCal x).sound = s.sound := rfl
@[simp] theorem State.setCal_service (s : State) (x) : (s.setCal x).service = s.service := rfl
@[simp] theorem State.setCal_store (s : State) (x) : (s.setCal x).store = s.store := rfl
@[simp] theorem State.setCal_handler (s : State) (x) : (s.setCal x).handler = s.handler := rfl
@[simp] theorem State.setCal_cal (s : State) (x) : (s.setCal x).cal = x := rfl
@[simp] theorem State.setCal_freeIndex (s : State) (x) : (s.setCal x).freeIndex = s.freeIndex := rfl
@[simp] theorem State.setCal_pending (s : State) (x) : (s.setCal x).pending = s.pending := rfl

/-! ### `setFreeIndex` -/

@[simp] theorem State.setFreeIndex_ignition (s : State) (x) : (s.setFreeIndex x).ignition = s.ignition := rfl
@[simp] theorem State.setFreeIndex_counting (s : State) (x) : (s.setFreeIndex x).counting = s.counting := rfl
@[simp] theorem State.setFreeIndex_arith (s : State) (x) : (s.setFreeIndex x).arith = s.arith := rfl
@[simp] theorem State.setFreeIndex_trip (s : State) (x) : (s.setFreeIndex x).trip = s.trip := rfl
@[simp] theorem State.setFreeIndex_keys (s : State) (x) : (s.setFreeIndex x).keys = s.keys := rfl
@[simp] theorem State.setFreeIndex_display (s : State) (x) : (s.setFreeIndex x).display = s.display := rfl
@[simp] theorem State.setFreeIndex_line (s : State) (x) : (s.setFreeIndex x).line = s.line := rfl
@[simp] theorem State.setFreeIndex_topics (s : State) (x) : (s.setFreeIndex x).topics = s.topics := rfl
@[simp] theorem State.setFreeIndex_gauges (s : State) (x) : (s.setFreeIndex x).gauges = s.gauges := rfl
@[simp] theorem State.setFreeIndex_rules (s : State) (x) : (s.setFreeIndex x).rules = s.rules := rfl
@[simp] theorem State.setFreeIndex_arbiter (s : State) (x) : (s.setFreeIndex x).arbiter = s.arbiter := rfl
@[simp] theorem State.setFreeIndex_sound (s : State) (x) : (s.setFreeIndex x).sound = s.sound := rfl
@[simp] theorem State.setFreeIndex_service (s : State) (x) : (s.setFreeIndex x).service = s.service := rfl
@[simp] theorem State.setFreeIndex_store (s : State) (x) : (s.setFreeIndex x).store = s.store := rfl
@[simp] theorem State.setFreeIndex_handler (s : State) (x) : (s.setFreeIndex x).handler = s.handler := rfl
@[simp] theorem State.setFreeIndex_cal (s : State) (x) : (s.setFreeIndex x).cal = s.cal := rfl
@[simp] theorem State.setFreeIndex_freeIndex (s : State) (x) : (s.setFreeIndex x).freeIndex = x := rfl
@[simp] theorem State.setFreeIndex_pending (s : State) (x) : (s.setFreeIndex x).pending = s.pending := rfl

/-! ### `setPending` -/

@[simp] theorem State.setPending_ignition (s : State) (x) : (s.setPending x).ignition = s.ignition := rfl
@[simp] theorem State.setPending_counting (s : State) (x) : (s.setPending x).counting = s.counting := rfl
@[simp] theorem State.setPending_arith (s : State) (x) : (s.setPending x).arith = s.arith := rfl
@[simp] theorem State.setPending_trip (s : State) (x) : (s.setPending x).trip = s.trip := rfl
@[simp] theorem State.setPending_keys (s : State) (x) : (s.setPending x).keys = s.keys := rfl
@[simp] theorem State.setPending_display (s : State) (x) : (s.setPending x).display = s.display := rfl
@[simp] theorem State.setPending_line (s : State) (x) : (s.setPending x).line = s.line := rfl
@[simp] theorem State.setPending_topics (s : State) (x) : (s.setPending x).topics = s.topics := rfl
@[simp] theorem State.setPending_gauges (s : State) (x) : (s.setPending x).gauges = s.gauges := rfl
@[simp] theorem State.setPending_rules (s : State) (x) : (s.setPending x).rules = s.rules := rfl
@[simp] theorem State.setPending_arbiter (s : State) (x) : (s.setPending x).arbiter = s.arbiter := rfl
@[simp] theorem State.setPending_sound (s : State) (x) : (s.setPending x).sound = s.sound := rfl
@[simp] theorem State.setPending_service (s : State) (x) : (s.setPending x).service = s.service := rfl
@[simp] theorem State.setPending_store (s : State) (x) : (s.setPending x).store = s.store := rfl
@[simp] theorem State.setPending_handler (s : State) (x) : (s.setPending x).handler = s.handler := rfl
@[simp] theorem State.setPending_cal (s : State) (x) : (s.setPending x).cal = s.cal := rfl
@[simp] theorem State.setPending_freeIndex (s : State) (x) : (s.setPending x).freeIndex = s.freeIndex := rfl
@[simp] theorem State.setPending_pending (s : State) (x) : (s.setPending x).pending = x := rfl

/-! ### Requests to send and what follows a command -/

@[simp] theorem State.requestSend_ignition (s : State) : s.requestSend.ignition = s.ignition := by
  unfold State.requestSend; split <;> rfl
@[simp] theorem State.requestSend_counting (s : State) : s.requestSend.counting = s.counting := by
  unfold State.requestSend; split <;> rfl
@[simp] theorem State.requestSend_arith (s : State) : s.requestSend.arith = s.arith := by
  unfold State.requestSend; split <;> rfl
@[simp] theorem State.requestSend_trip (s : State) : s.requestSend.trip = s.trip := by
  unfold State.requestSend; split <;> rfl
@[simp] theorem State.requestSend_keys (s : State) : s.requestSend.keys = s.keys := by
  unfold State.requestSend; split <;> rfl
@[simp] theorem State.requestSend_line (s : State) : s.requestSend.line = s.line := by
  unfold State.requestSend; split <;> rfl
@[simp] theorem State.requestSend_topics (s : State) : s.requestSend.topics = s.topics := by
  unfold State.requestSend; split <;> rfl
@[simp] theorem State.requestSend_gauges (s : State) : s.requestSend.gauges = s.gauges := by
  unfold State.requestSend; split <;> rfl
@[simp] theorem State.requestSend_rules (s : State) : s.requestSend.rules = s.rules := by
  unfold State.requestSend; split <;> rfl
@[simp] theorem State.requestSend_arbiter (s : State) : s.requestSend.arbiter = s.arbiter := by
  unfold State.requestSend; split <;> rfl
@[simp] theorem State.requestSend_sound (s : State) : s.requestSend.sound = s.sound := by
  unfold State.requestSend; split <;> rfl
@[simp] theorem State.requestSend_service (s : State) : s.requestSend.service = s.service := by
  unfold State.requestSend; split <;> rfl
@[simp] theorem State.requestSend_store (s : State) : s.requestSend.store = s.store := by
  unfold State.requestSend; split <;> rfl
@[simp] theorem State.requestSend_handler (s : State) : s.requestSend.handler = s.handler := by
  unfold State.requestSend; split <;> rfl
@[simp] theorem State.requestSend_cal (s : State) : s.requestSend.cal = s.cal := by
  unfold State.requestSend; split <;> rfl
@[simp] theorem State.requestSend_freeIndex (s : State) : s.requestSend.freeIndex = s.freeIndex := by
  unfold State.requestSend; split <;> rfl
@[simp] theorem State.requestSend_pending (s : State) : s.requestSend.pending = s.pending := by
  unfold State.requestSend; split <;> rfl

@[simp] theorem State.refreshDisplay_ignition (s0 s : State) : (State.refreshDisplay s0 s).ignition = s.ignition := by
  unfold State.refreshDisplay; split <;> (try rfl); split <;> (try split) <;> simp
@[simp] theorem State.refreshDisplay_counting (s0 s : State) : (State.refreshDisplay s0 s).counting = s.counting := by
  unfold State.refreshDisplay; split <;> (try rfl); split <;> (try split) <;> simp
@[simp] theorem State.refreshDisplay_arith (s0 s : State) : (State.refreshDisplay s0 s).arith = s.arith := by
  unfold State.refreshDisplay; split <;> (try rfl); split <;> (try split) <;> simp
@[simp] theorem State.refreshDisplay_trip (s0 s : State) : (State.refreshDisplay s0 s).trip = s.trip := by
  unfold State.refreshDisplay; split <;> (try rfl); split <;> (try split) <;> simp
@[simp] theorem State.refreshDisplay_keys (s0 s : State) : (State.refreshDisplay s0 s).keys = s.keys := by
  unfold State.refreshDisplay; split <;> (try rfl); split <;> (try split) <;> simp
@[simp] theorem State.refreshDisplay_line (s0 s : State) : (State.refreshDisplay s0 s).line = s.line := by
  unfold State.refreshDisplay; split <;> (try rfl); split <;> (try split) <;> simp
@[simp] theorem State.refreshDisplay_topics (s0 s : State) : (State.refreshDisplay s0 s).topics = s.topics := by
  unfold State.refreshDisplay; split <;> (try rfl); split <;> (try split) <;> simp
@[simp] theorem State.refreshDisplay_gauges (s0 s : State) : (State.refreshDisplay s0 s).gauges = s.gauges := by
  unfold State.refreshDisplay; split <;> (try rfl); split <;> (try split) <;> simp
@[simp] theorem State.refreshDisplay_rules (s0 s : State) : (State.refreshDisplay s0 s).rules = s.rules := by
  unfold State.refreshDisplay; split <;> (try rfl); split <;> (try split) <;> simp
@[simp] theorem State.refreshDisplay_arbiter (s0 s : State) : (State.refreshDisplay s0 s).arbiter = s.arbiter := by
  unfold State.refreshDisplay; split <;> (try rfl); split <;> (try split) <;> simp
@[simp] theorem State.refreshDisplay_sound (s0 s : State) : (State.refreshDisplay s0 s).sound = s.sound := by
  unfold State.refreshDisplay; split <;> (try rfl); split <;> (try split) <;> simp
@[simp] theorem State.refreshDisplay_service (s0 s : State) : (State.refreshDisplay s0 s).service = s.service := by
  unfold State.refreshDisplay; split <;> (try rfl); split <;> (try split) <;> simp
@[simp] theorem State.refreshDisplay_store (s0 s : State) : (State.refreshDisplay s0 s).store = s.store := by
  unfold State.refreshDisplay; split <;> (try rfl); split <;> (try split) <;> simp
@[simp] theorem State.refreshDisplay_handler (s0 s : State) : (State.refreshDisplay s0 s).handler = s.handler := by
  unfold State.refreshDisplay; split <;> (try rfl); split <;> (try split) <;> simp
@[simp] theorem State.refreshDisplay_cal (s0 s : State) : (State.refreshDisplay s0 s).cal = s.cal := by
  unfold State.refreshDisplay; split <;> (try rfl); split <;> (try split) <;> simp
@[simp] theorem State.refreshDisplay_freeIndex (s0 s : State) : (State.refreshDisplay s0 s).freeIndex = s.freeIndex := by
  unfold State.refreshDisplay; split <;> (try rfl); split <;> (try split) <;> simp
@[simp] theorem State.refreshDisplay_pending (s0 s : State) : (State.refreshDisplay s0 s).pending = s.pending := by
  unfold State.refreshDisplay; split <;> (try rfl); split <;> (try split) <;> simp

@[simp] theorem State.refreshHolds_ignition (s0 s : State) : (State.refreshHolds s0 s).ignition = s.ignition := by
  unfold State.refreshHolds; split <;> (try split) <;> rfl
@[simp] theorem State.refreshHolds_counting (s0 s : State) : (State.refreshHolds s0 s).counting = s.counting := by
  unfold State.refreshHolds; split <;> (try split) <;> rfl
@[simp] theorem State.refreshHolds_arith (s0 s : State) : (State.refreshHolds s0 s).arith = s.arith := by
  unfold State.refreshHolds; split <;> (try split) <;> rfl
@[simp] theorem State.refreshHolds_trip (s0 s : State) : (State.refreshHolds s0 s).trip = s.trip := by
  unfold State.refreshHolds; split <;> (try split) <;> rfl
@[simp] theorem State.refreshHolds_display (s0 s : State) : (State.refreshHolds s0 s).display = s.display := by
  unfold State.refreshHolds; split <;> (try split) <;> rfl
@[simp] theorem State.refreshHolds_line (s0 s : State) : (State.refreshHolds s0 s).line = s.line := by
  unfold State.refreshHolds; split <;> (try split) <;> rfl
@[simp] theorem State.refreshHolds_topics (s0 s : State) : (State.refreshHolds s0 s).topics = s.topics := by
  unfold State.refreshHolds; split <;> (try split) <;> rfl
@[simp] theorem State.refreshHolds_gauges (s0 s : State) : (State.refreshHolds s0 s).gauges = s.gauges := by
  unfold State.refreshHolds; split <;> (try split) <;> rfl
@[simp] theorem State.refreshHolds_rules (s0 s : State) : (State.refreshHolds s0 s).rules = s.rules := by
  unfold State.refreshHolds; split <;> (try split) <;> rfl
@[simp] theorem State.refreshHolds_arbiter (s0 s : State) : (State.refreshHolds s0 s).arbiter = s.arbiter := by
  unfold State.refreshHolds; split <;> (try split) <;> rfl
@[simp] theorem State.refreshHolds_sound (s0 s : State) : (State.refreshHolds s0 s).sound = s.sound := by
  unfold State.refreshHolds; split <;> (try split) <;> rfl
@[simp] theorem State.refreshHolds_service (s0 s : State) : (State.refreshHolds s0 s).service = s.service := by
  unfold State.refreshHolds; split <;> (try split) <;> rfl
@[simp] theorem State.refreshHolds_store (s0 s : State) : (State.refreshHolds s0 s).store = s.store := by
  unfold State.refreshHolds; split <;> (try split) <;> rfl
@[simp] theorem State.refreshHolds_handler (s0 s : State) : (State.refreshHolds s0 s).handler = s.handler := by
  unfold State.refreshHolds; split <;> (try split) <;> rfl
@[simp] theorem State.refreshHolds_cal (s0 s : State) : (State.refreshHolds s0 s).cal = s.cal := by
  unfold State.refreshHolds; split <;> (try split) <;> rfl
@[simp] theorem State.refreshHolds_freeIndex (s0 s : State) : (State.refreshHolds s0 s).freeIndex = s.freeIndex := by
  unfold State.refreshHolds; split <;> (try split) <;> rfl
@[simp] theorem State.refreshHolds_pending (s0 s : State) : (State.refreshHolds s0 s).pending = s.pending := by
  unfold State.refreshHolds; split <;> (try split) <;> rfl

@[simp] theorem State.present_ignition (s0 s : State) : (State.present s0 s).ignition = s.ignition := by
  simp [State.present]
@[simp] theorem State.present_counting (s0 s : State) : (State.present s0 s).counting = s.counting := by
  simp [State.present]
@[simp] theorem State.present_arith (s0 s : State) : (State.present s0 s).arith = s.arith := by
  simp [State.present]
@[simp] theorem State.present_trip (s0 s : State) : (State.present s0 s).trip = s.trip := by
  simp [State.present]
@[simp] theorem State.present_line (s0 s : State) : (State.present s0 s).line = s.line := by
  simp [State.present]
@[simp] theorem State.present_topics (s0 s : State) : (State.present s0 s).topics = s.topics := by
  simp [State.present]
@[simp] theorem State.present_gauges (s0 s : State) : (State.present s0 s).gauges = s.gauges := by
  simp [State.present]
@[simp] theorem State.present_rules (s0 s : State) : (State.present s0 s).rules = s.rules := by
  simp [State.present]
@[simp] theorem State.present_arbiter (s0 s : State) : (State.present s0 s).arbiter = s.arbiter := by
  simp [State.present]
@[simp] theorem State.present_sound (s0 s : State) : (State.present s0 s).sound = s.sound := by
  simp [State.present]
@[simp] theorem State.present_service (s0 s : State) : (State.present s0 s).service = s.service := by
  simp [State.present]
@[simp] theorem State.present_store (s0 s : State) : (State.present s0 s).store = s.store := by
  simp [State.present]
@[simp] theorem State.present_handler (s0 s : State) : (State.present s0 s).handler = s.handler := by
  simp [State.present]
@[simp] theorem State.present_cal (s0 s : State) : (State.present s0 s).cal = s.cal := by
  simp [State.present]
@[simp] theorem State.present_freeIndex (s0 s : State) : (State.present s0 s).freeIndex = s.freeIndex := by
  simp [State.present]
@[simp] theorem State.present_pending (s0 s : State) : (State.present s0 s).pending = s.pending := by
  simp [State.present]


end Sys2Proof.Machine
end

