-- ==== Sys2Proof/Laws/Kept.lean ====
section
/-! SUPPORT. The frame of every shared operation: the blocks that it may change, once for each, so that a later proof
cites the frame and unfolds nothing. -/

namespace Sys2Proof.Machine

set_option Elab.async false

/-! ### Combining frames -/

theorem KeptBut.refl (bs : List Block) (s : State) : KeptBut bs s s := fun b _ => by cases b <;> rfl

theorem KeptBut.trans {bs : List Block} {s t u : State} (h : KeptBut bs s t) (k : KeptBut bs t u) : KeptBut bs s u :=
  fun b hb => by
    have h1 := h b hb
    have h2 := k b hb
    cases b <;> exact Eq.trans h2 h1

theorem KeptBut.mono {bs cs : List Block} {s t : State} (h : KeptBut bs s t) (sub : bs ⊆ cs) : KeptBut cs s t :=
  fun b hb => h b fun hm => hb (sub hm)

/-- A frame followed by another, both widened to a third. -/
theorem KeptBut.andThen {as bs cs : List Block} {s t u : State} (h : KeptBut as s t) (k : KeptBut bs t u)
    (ha : as ⊆ cs := by decide) (hb : bs ⊆ cs := by decide) : KeptBut cs s u :=
  (h.mono ha).trans (k.mono hb)

theorem KeptBut.ite {bs : List Block} {p : Prop} [Decidable p] {s t u : State} (h : KeptBut bs s t)
    (k : KeptBut bs s u) : KeptBut bs s (if p then t else u) := by split <;> assumption

theorem KeptBut.foldl {α : Type} {bs : List Block} {f : State → α → State} (h : ∀ s a, KeptBut bs s (f s a)) :
    ∀ (l : List α) (s : State), KeptBut bs s (l.foldl f s)
  | [], s => KeptBut.refl bs s
  | a :: l, s => (h s a).trans (KeptBut.foldl h l (f s a))

/-! ### What a frame gives of one block -/

theorem KeptBut.ignition {bs : List Block} {s t : State} (h : KeptBut bs s t) (hb : Block.ignition ∉ bs := by decide) :
    t.ignition = s.ignition := h .ignition hb
theorem KeptBut.ign {bs : List Block} {s t : State} (h : KeptBut bs s t) (hb : Block.ignition ∉ bs := by decide) :
    t.ign = s.ign := by unfold State.ign; rw [h.ignition hb]
theorem KeptBut.counting {bs : List Block} {s t : State} (h : KeptBut bs s t) (hb : Block.counting ∉ bs := by decide) :
    t.counting = s.counting := h .counting hb
theorem KeptBut.arith {bs : List Block} {s t : State} (h : KeptBut bs s t) (hb : Block.arith ∉ bs := by decide) :
    t.arith = s.arith := h .arith hb
theorem KeptBut.trip {bs : List Block} {s t : State} (h : KeptBut bs s t) (hb : Block.trip ∉ bs := by decide) :
    t.trip = s.trip := h .trip hb
theorem KeptBut.keys {bs : List Block} {s t : State} (h : KeptBut bs s t) (hb : Block.keys ∉ bs := by decide) :
    t.keys = s.keys := h .keys hb
theorem KeptBut.display {bs : List Block} {s t : State} (h : KeptBut bs s t) (hb : Block.display ∉ bs := by decide) :
    t.display = s.display := h .display hb
theorem KeptBut.line {bs : List Block} {s t : State} (h : KeptBut bs s t) (hb : Block.line ∉ bs := by decide) :
    t.line = s.line := h .line hb
theorem KeptBut.topics {bs : List Block} {s t : State} (h : KeptBut bs s t) (hb : Block.topics ∉ bs := by decide) :
    t.topics = s.topics := h .topics hb
theorem KeptBut.gauges {bs : List Block} {s t : State} (h : KeptBut bs s t) (hb : Block.gauges ∉ bs := by decide) :
    t.gauges = s.gauges := h .gauges hb
theorem KeptBut.rules {bs : List Block} {s t : State} (h : KeptBut bs s t) (hb : Block.rules ∉ bs := by decide) :
    t.rules = s.rules := h .rules hb
theorem KeptBut.arbiter {bs : List Block} {s t : State} (h : KeptBut bs s t) (hb : Block.arbiter ∉ bs := by decide) :
    t.arbiter = s.arbiter := h .arbiter hb
theorem KeptBut.sound {bs : List Block} {s t : State} (h : KeptBut bs s t) (hb : Block.sound ∉ bs := by decide) :
    t.sound = s.sound := h .sound hb
theorem KeptBut.service {bs : List Block} {s t : State} (h : KeptBut bs s t) (hb : Block.service ∉ bs := by decide) :
    t.service = s.service := h .service hb
theorem KeptBut.store {bs : List Block} {s t : State} (h : KeptBut bs s t) (hb : Block.store ∉ bs := by decide) :
    t.store = s.store := h .store hb
theorem KeptBut.handler {bs : List Block} {s t : State} (h : KeptBut bs s t) (hb : Block.handler ∉ bs := by decide) :
    t.handler = s.handler := h .handler hb
theorem KeptBut.cal {bs : List Block} {s t : State} (h : KeptBut bs s t) (hb : Block.cal ∉ bs := by decide) :
    t.cal = s.cal := h .cal hb
theorem KeptBut.freeIndex {bs : List Block} {s t : State} (h : KeptBut bs s t)
    (hb : Block.freeIndex ∉ bs := by decide) : t.freeIndex = s.freeIndex := h .freeIndex hb
theorem KeptBut.pending {bs : List Block} {s t : State} (h : KeptBut bs s t) (hb : Block.pending ∉ bs := by decide) :
    t.pending = s.pending := h .pending hb

/-! ### Block updates -/

theorem setIgnition_kept (s : State) (x) : KeptBut [.ignition] s (s.setIgnition x) :=
  fun b hb => by cases b <;> first | rfl | exact absurd (by decide) hb
theorem setCounting_kept (s : State) (x) : KeptBut [.counting] s (s.setCounting x) :=
  fun b hb => by cases b <;> first | rfl | exact absurd (by decide) hb
theorem setArith_kept (s : State) (x) : KeptBut [.arith] s (s.setArith x) :=
  fun b hb => by cases b <;> first | rfl | exact absurd (by decide) hb
theorem setTrip_kept (s : State) (x) : KeptBut [.trip] s (s.setTrip x) :=
  fun b hb => by cases b <;> first | rfl | exact absurd (by decide) hb
theorem setKeys_kept (s : State) (x) : KeptBut [.keys] s (s.setKeys x) :=
  fun b hb => by cases b <;> first | rfl | exact absurd (by decide) hb
theorem setDisplay_kept (s : State) (x) : KeptBut [.display] s (s.setDisplay x) :=
  fun b hb => by cases b <;> first | rfl | exact absurd (by decide) hb
theorem setLine_kept (s : State) (x) : KeptBut [.line] s (s.setLine x) :=
  fun b hb => by cases b <;> first | rfl | exact absurd (by decide) hb
theorem setTopics_kept (s : State) (x) : KeptBut [.topics] s (s.setTopics x) :=
  fun b hb => by cases b <;> first | rfl | exact absurd (by decide) hb
theorem setGauges_kept (s : State) (x) : KeptBut [.gauges] s (s.setGauges x) :=
  fun b hb => by cases b <;> first | rfl | exact absurd (by decide) hb
theorem setRules_kept (s : State) (x) : KeptBut [.rules] s (s.setRules x) :=
  fun b hb => by cases b <;> first | rfl | exact absurd (by decide) hb
theorem setArbiter_kept (s : State) (x) : KeptBut [.arbiter] s (s.setArbiter x) :=
  fun b hb => by cases b <;> first | rfl | exact absurd (by decide) hb
theorem setSound_kept (s : State) (x) : KeptBut [.sound] s (s.setSound x) :=
  fun b hb => by cases b <;> first | rfl | exact absurd (by decide) hb
theorem setService_kept (s : State) (x) : KeptBut [.service] s (s.setService x) :=
  fun b hb => by cases b <;> first | rfl | exact absurd (by decide) hb
theorem setStore_kept (s : State) (x) : KeptBut [.store] s (s.setStore x) :=
  fun b hb => by cases b <;> first | rfl | exact absurd (by decide) hb
theorem setHandler_kept (s : State) (x) : KeptBut [.handler] s (s.setHandler x) :=
  fun b hb => by cases b <;> first | rfl | exact absurd (by decide) hb
theorem setCal_kept (s : State) (x) : KeptBut [.cal] s (s.setCal x) :=
  fun b hb => by cases b <;> first | rfl | exact absurd (by decide) hb
theorem setFreeIndex_kept (s : State) (x) : KeptBut [.freeIndex] s (s.setFreeIndex x) :=
  fun b hb => by cases b <;> first | rfl | exact absurd (by decide) hb
theorem setPending_kept (s : State) (x) : KeptBut [.pending] s (s.setPending x) :=
  fun b hb => by cases b <;> first | rfl | exact absurd (by decide) hb

theorem modifyEntry_kept (s : State) (e f) : KeptBut [.topics] s (s.modifyEntry e f) := setTopics_kept _ _
theorem modifyGauge_kept (s : State) (g f) : KeptBut [.gauges] s (s.modifyGauge g f) := setGauges_kept _ _
theorem modifyWarning_kept (s : State) (w f) : KeptBut [.arbiter] s (s.modifyWarning w f) := setArbiter_kept _ _
theorem modifyItem_kept (s : State) (i f) : KeptBut [.service] s (s.modifyItem i f) := setService_kept _ _

/-! ### Records -/

theorem update_kept (s : State) (b f) : KeptBut [.store] s (s.update b f) := setStore_kept _ _

theorem addDistance_kept (s : State) (r d) : KeptBut [.store, .trip] s (s.addDistance r d) := by
  cases r
  · exact (update_kept _ _ _).mono (by decide)
  · exact (update_kept _ _ _).mono (by decide)
  · exact (setTrip_kept _ _).mono (by decide)
theorem addFuel_kept (s : State) (r d) : KeptBut [.store, .trip] s (s.addFuel r d) := by
  cases r
  · exact (update_kept _ _ _).mono (by decide)
  · exact (update_kept _ _ _).mono (by decide)
  · exact (setTrip_kept _ _).mono (by decide)
theorem addTime_kept (s : State) (r d) : KeptBut [.store, .trip] s (s.addTime r d) := by
  cases r
  · exact (update_kept _ _ _).mono (by decide)
  · exact (update_kept _ _ _).mono (by decide)
  · exact (setTrip_kept _ _).mono (by decide)

theorem onTrips_kept {bs : List Block} {f : State → TripRecord → State} (h : ∀ s r, KeptBut bs s (f s r)) (s : State) :
    KeptBut bs s (s.onTrips f) := ((h _ _).trans (h _ _)).trans (h _ _)

theorem setEconomy_kept (s : State) (r x) : KeptBut [.store, .trip, .freeIndex] s (s.setEconomy r x) := by
  cases r
  · exact (update_kept _ _ _).andThen (setFreeIndex_kept _ _)
  · exact (update_kept _ _ _).andThen (setFreeIndex_kept _ _)
  · exact (setTrip_kept _ _).mono (by decide)
theorem setAverage_kept (s : State) (r x) : KeptBut [.store, .trip, .freeIndex] s (s.setAverage r x) := by
  cases r
  · exact (update_kept _ _ _).andThen (setFreeIndex_kept _ _)
  · exact (update_kept _ _ _).andThen (setFreeIndex_kept _ _)
  · exact (setTrip_kept _ _).mono (by decide)
theorem resetTrip_kept (s : State) (r) : KeptBut [.store, .freeIndex] s (s.resetTrip r) := by
  cases r
  · exact (update_kept _ _ _).andThen (setFreeIndex_kept _ _)
  · exact (update_kept _ _ _).andThen (setFreeIndex_kept _ _)
  · exact KeptBut.refl _ _

/-! ### The transmit queue and the replies -/

theorem replyLeft_kept (s : State) (m) : KeptBut [.handler] s (s.replyLeft m) :=
  KeptBut.ite (setHandler_kept _ _) (KeptBut.refl _ _)
theorem unanswer_kept (s : State) : KeptBut [.handler] s s.unanswer := setHandler_kept _ _
theorem busyReplaced_kept (s : State) (m n) : KeptBut [.handler] s (s.busyReplaced m n) :=
  KeptBut.ite (unanswer_kept _) (KeptBut.refl _ _)
theorem placeFull_kept (s : State) (m) : KeptBut [.line, .handler] s (s.placeFull m) := by
  unfold State.placeFull
  refine KeptBut.ite ?_ ((setLine_kept _ _).andThen (replyLeft_kept _ _))
  dsimp only
  split
  · exact (setLine_kept _ _).andThen (replyLeft_kept _ _)
  · exact (setLine_kept _ _).andThen (replyLeft_kept _ _)
theorem placeMsg_kept (s : State) (m) : KeptBut [.line, .handler] s (s.placeMsg m) := by
  unfold State.placeMsg
  dsimp only
  split
  · exact (setLine_kept _ _).andThen (busyReplaced_kept _ _ _)
  · exact KeptBut.ite ((setLine_kept _ _).mono (by decide)) (placeFull_kept _ _)
theorem queue_kept (s : State) (a b c d e) : KeptBut [.line, .handler] s (s.queue a b c d e) :=
  (setLine_kept _ _).andThen (placeMsg_kept _ _)
theorem publish_kept (s : State) (a b c) : KeptBut [.line, .handler] s (s.publish a b c) := queue_kept _ _ _ _ _ _
theorem returnStatus_kept (s : State) (x r) : KeptBut [.line, .handler] s (s.returnStatus x r) :=
  (setHandler_kept _ _).andThen (queue_kept _ _ _ _ _ _)
theorem answerBusy_kept (s : State) (t) : KeptBut [.line, .handler] s (s.answerBusy t) :=
  KeptBut.ite ((unanswer_kept _).mono (by decide)) (queue_kept _ _ _ _ _ _)
theorem settleStore_kept (s : State) : KeptBut [.store, .line, .handler] s s.settleStore := by
  unfold State.settleStore
  split
  · exact (setStore_kept _ _).andThen (returnStatus_kept _ _ _)
  · exact (setStore_kept _ _).mono (by decide)
theorem takeTask_kept (s : State) (r) : KeptBut [.store, .line, .handler] s (s.takeTask r) := by
  unfold State.takeTask
  split
  · exact ((setStore_kept _ _).andThen (returnStatus_kept _ _ _)).andThen (cs := [.store, .line, .handler])
      (as := [.store, .line, .handler]) (settleStore_kept _)
  · exact (setStore_kept _ _).andThen (settleStore_kept _)

/-! ### The arithmetic unit -/

theorem issue_kept (s : State) (r) : KeptBut [.arith] s (s.issue r) := setArith_kept _ _
theorem leaveUnit_kept (s : State) : KeptBut [.arith] s s.leaveUnit := setArith_kept _ _

/-! ### Sound -/

theorem syncChime_kept (s : State) : KeptBut [.sound] s s.syncChime :=
  KeptBut.ite (setSound_kept _ _) (KeptBut.ite (setSound_kept _ _) (KeptBut.refl _ _))
theorem click_kept (s : State) : KeptBut [.sound] s s.click := setSound_kept _ _
theorem startPattern_kept (s : State) (p) : KeptBut [.sound] s (s.startPattern p) := setSound_kept _ _
theorem shownNotice_kept (s : State) (w) : KeptBut [.sound] s (s.shownNotice w) := by
  unfold State.shownNotice
  refine KeptBut.ite (startPattern_kept _ _) ?_
  split
  · exact startPattern_kept _ _
  · exact startPattern_kept _ _
  · exact startPattern_kept _ _
  · exact setSound_kept _ _
  · exact setSound_kept _ _
theorem noneShown_kept (s : State) : KeptBut [.sound] s s.noneShown := setSound_kept _ _
theorem endOff_kept (s : State) : KeptBut [.sound, .freeIndex] s s.endOff.1 := by
  by_cases h : s.current.repeats ≠ 0 ∧ s.current.nextRepeats s.sound.repeats = s.current.repeats
  · simp only [State.endOff, if_pos h]
    exact (setSound_kept _ _).mono (by decide)
  · simp only [State.endOff, if_neg h]
    exact (setSound_kept _ _).andThen (setFreeIndex_kept _ _)
theorem cadenceEnd_kept (s : State) : KeptBut [.sound, .freeIndex] s s.cadenceEnd.1 := by
  unfold State.cadenceEnd
  split
  · dsimp only
    split
    · exact (setSound_kept _ _).andThen (endOff_kept _)
    · exact (setSound_kept _ _).mono (by decide)
  · exact endOff_kept _
  · split
    · exact (startPattern_kept _ _).mono (by decide)
    · exact (noneShown_kept _).mono (by decide)
  · exact KeptBut.refl _ _
  · exact KeptBut.refl _ _
theorem followQuietCabin_kept (s : State) : KeptBut [.sound] s s.followQuietCabin :=
  (setSound_kept _ _).trans (syncChime_kept _)
theorem turnTick_kept (s : State) : KeptBut [.sound] s s.turnTick := setSound_kept _ _

/-! ### The warning arbiter -/

theorem queueSummary_kept (s : State) : KeptBut [.line, .handler] s s.queueSummary := publish_kept _ _ _ _
theorem queueCascade_kept (s : State) : KeptBut [.line, .handler] s s.queueCascade := publish_kept _ _ _ _
theorem presentNext_kept (s : State) : KeptBut [.arbiter, .sound] s s.presentNext := by
  unfold State.presentNext
  exact KeptBut.ite
    (((setArbiter_kept _ _).andThen (cs := [.arbiter, .sound]) (modifyWarning_kept _ _ _)).andThen (shownNotice_kept _ _))
    ((setArbiter_kept _ _).mono (by decide))
theorem dropPresented_kept (s : State) : KeptBut [.arbiter] s s.dropPresented :=
  KeptBut.ite (KeptBut.refl _ _) (setArbiter_kept _ _)
theorem enterShown_kept (s : State) (w) : KeptBut [.arbiter, .sound] s (s.enterShown w) :=
  ((modifyWarning_kept _ _ _).trans (setArbiter_kept _ _)).andThen (shownNotice_kept _ _)
theorem select_kept (s : State) : KeptBut [.arbiter, .sound] s s.select := by
  unfold State.select
  split
  · split
    · exact enterShown_kept _ _
    · exact KeptBut.refl _ _
  · split
    · exact (modifyWarning_kept _ _ _).andThen (enterShown_kept _ _)
    · exact KeptBut.refl _ _
theorem endReview_kept (s : State) : KeptBut [.arbiter] s s.endReview := setArbiter_kept _ _
theorem endStaleReview_kept (s : State) : KeptBut [.arbiter] s s.endStaleReview := by
  unfold State.endStaleReview
  split
  · exact KeptBut.ite (KeptBut.refl _ _) (setArbiter_kept _ _)
  · exact KeptBut.refl _ _

/-- What an event of the arbiter may change. -/
abbrev arbiterBlocks : List Block := [.arbiter, .sound, .line, .handler]

theorem arbiterEvent_kept {f : State → State} (s : State) (h : KeptBut arbiterBlocks s (f s)) :
    KeptBut arbiterBlocks s (s.arbiterEvent f) := by
  unfold State.arbiterEvent
  have h1 : KeptBut arbiterBlocks s (f s).dropPresented.select :=
    (h.trans ((dropPresented_kept _).mono (by decide))).trans ((select_kept _).mono (by decide))
  have h2 : KeptBut arbiterBlocks s
      (if s.shown.isSome && (f s).dropPresented.select.shown.isNone then (f s).dropPresented.select.noneShown
        else (f s).dropPresented.select) := KeptBut.ite (h1.trans ((noneShown_kept _).mono (by decide))) h1
  have h3 := (h2.trans ((endStaleReview_kept _).mono (by decide))).trans ((syncChime_kept _).mono (by decide))
  exact KeptBut.ite h3 (h3.trans ((queueSummary_kept _).mono (by decide)))

theorem takeLevel_kept (s : State) (w b) : KeptBut [.arbiter] s (s.takeLevel w b) := modifyWarning_kept _ _ _
theorem takeEdge_kept (s : State) (w) : KeptBut [.arbiter] s (s.takeEdge w) := modifyWarning_kept _ _ _
theorem edgeRequest_kept (s : State) (w) : KeptBut arbiterBlocks s (s.edgeRequest w) :=
  KeptBut.ite (arbiterEvent_kept _ ((takeEdge_kept _ _).mono (by decide))) (KeptBut.refl _ _)
theorem requestSet_kept (s : State) (l e) : KeptBut arbiterBlocks s (s.requestSet l e) :=
  arbiterEvent_kept _ (KeptBut.foldl (fun _ _ =>
    KeptBut.ite (((takeLevel_kept _ _ _).trans (takeEdge_kept _ _)).mono (by decide))
      ((takeLevel_kept _ _ _).mono (by decide))) _ _)
theorem rotate_kept (s : State) (w) : KeptBut [.arbiter] s (s.rotate w) := by
  unfold State.rotate
  split
  · exact setArbiter_kept _ _
  · exact setArbiter_kept _ _
  · exact KeptBut.refl _ _
  · exact KeptBut.refl _ _
theorem acknowledge_kept (s : State) (w) : KeptBut [.arbiter] s (s.acknowledge w) :=
  KeptBut.ite ((modifyWarning_kept _ _ _).trans (rotate_kept _ _)) (modifyWarning_kept _ _ _)
theorem acknowledgeSub_kept (s : State) (n) : KeptBut arbiterBlocks s (s.acknowledgeSub n) := by
  unfold State.acknowledgeSub
  dsimp only
  have h1 : KeptBut arbiterBlocks s
      (s.setArbiter { s.arbiter with subs := s.arbiter.subs.set n .ackedLocal }).queueCascade :=
    (setArbiter_kept _ _).andThen (queueCascade_kept _)
  refine KeptBut.ite (KeptBut.ite (h1.trans ((presentNext_kept _).mono (by decide))) h1) ?_
  have h2 := h1.trans ((takeLevel_kept _ 30 false).mono (by decide))
  exact KeptBut.ite (h2.trans ((rotate_kept _ _).mono (by decide))) h2
theorem acknowledgeCascade_kept (s : State) : KeptBut arbiterBlocks s s.acknowledgeCascade := by
  unfold State.acknowledgeCascade
  dsimp only
  split
  · exact acknowledgeSub_kept _ _
  · exact KeptBut.refl _ _
theorem acknowledgeAny_kept (s : State) (w) : KeptBut arbiterBlocks s (s.acknowledgeAny w) :=
  KeptBut.ite (acknowledgeCascade_kept _) ((acknowledge_kept _ _).mono (by decide))
theorem reviewStep_kept (s : State) : KeptBut [.arbiter] s s.reviewStep := setArbiter_kept _ _
theorem ackPress_kept (s : State) : KeptBut arbiterBlocks s s.ackPress := by
  unfold State.ackPress
  refine arbiterEvent_kept _ ?_
  split
  · exact KeptBut.ite (KeptBut.refl _ _) (acknowledgeAny_kept _ _)
  · exact (reviewStep_kept _).mono (by decide)
theorem specificAck_kept (s : State) (w) : KeptBut arbiterBlocks s (s.specificAck w).1 := by
  unfold State.specificAck
  split
  · dsimp only
    exact arbiterEvent_kept _ (acknowledgeAny_kept _ _)
  · exact KeptBut.refl _ _
theorem patternDone_kept (s : State) (w) : KeptBut arbiterBlocks s (s.patternDone w) := by
  unfold State.patternDone
  refine arbiterEvent_kept _ ?_
  exact KeptBut.ite (KeptBut.ite ((acknowledge_kept _ _).mono (by decide)) ((modifyWarning_kept _ _ _).mono (by decide)))
    (KeptBut.refl _ _)
theorem reportDone_kept (r : State × Option Nat) : KeptBut arbiterBlocks r.1 (State.reportDone r) := by
  unfold State.reportDone
  split
  · exact (syncChime_kept _).andThen (patternDone_kept _ _)
  · exact (syncChime_kept _).mono (by decide)
theorem shownTimerDone_kept (s : State) (w) : KeptBut [.arbiter] s (s.shownTimerDone w) :=
  KeptBut.ite ((modifyWarning_kept _ _ _).trans (acknowledge_kept _ _)) (modifyWarning_kept _ _ _)
theorem shownTick_kept (s : State) : KeptBut [.arbiter] s s.shownTick := by
  unfold State.shownTick
  split
  · exact KeptBut.ite (shownTimerDone_kept _ _) (modifyWarning_kept _ _ _)
  · exact KeptBut.refl _ _
theorem reviewTick_kept (s : State) : KeptBut [.arbiter] s s.reviewTick := by
  unfold State.reviewTick
  split
  · exact KeptBut.ite (endReview_kept _) (setArbiter_kept _ _)
  · exact KeptBut.refl _ _
theorem arbiterTicked_kept (s : State) : KeptBut arbiterBlocks s s.arbiterTicked :=
  arbiterEvent_kept _
    ((((setArbiter_kept _ _).trans (reviewTick_kept _)).trans (shownTick_kept _)).mono (by decide))
theorem followPresented_kept (s : State) : KeptBut [.arbiter, .sound] s s.followPresented := by
  unfold State.followPresented
  refine KeptBut.ite ?_ (KeptBut.refl _ _)
  split
  · exact KeptBut.ite (KeptBut.refl _ _) (presentNext_kept _)
  · exact presentNext_kept _
theorem cascadeArrival_kept (s : State) : KeptBut arbiterBlocks s s.cascadeArrival := by
  unfold State.cascadeArrival
  refine arbiterEvent_kept _ ?_
  refine KeptBut.trans ?_ ((followPresented_kept _).mono (by decide))
  refine KeptBut.trans ?_ ((takeLevel_kept _ _ _).mono (by decide))
  exact KeptBut.ite ((setArbiter_kept _ _).andThen (queueCascade_kept _)) ((setArbiter_kept _ _).mono (by decide))
theorem cascadeLost_kept (s : State) : KeptBut arbiterBlocks s s.cascadeLost :=
  arbiterEvent_kept _ (((setArbiter_kept _ _).trans (takeLevel_kept _ _ _)).mono (by decide))
theorem arbiterClear_kept (s : State) : KeptBut [.arbiter, .sound] s s.arbiterClear :=
  ((setArbiter_kept _ _).andThen (cs := [.arbiter, .sound]) (noneShown_kept _)).andThen (syncChime_kept _)
theorem arbiterSleep_kept (s : State) : KeptBut [.arbiter, .sound] s s.arbiterSleep :=
  (arbiterClear_kept _).andThen (setArbiter_kept _ _)
theorem arbiterStart_kept (s : State) : KeptBut arbiterBlocks s s.arbiterStart :=
  (setArbiter_kept _ _).andThen (queueSummary_kept _)
theorem arbiterWake_kept (s : State) : KeptBut [.arbiter, .sound] s s.arbiterWake :=
  (arbiterClear_kept _).andThen (setArbiter_kept _ _)
theorem formOrders_kept (s : State) : KeptBut [.arbiter] s s.formOrders := setArbiter_kept _ _

theorem evaluateRules_kept (s : State) : KeptBut [.rules, .arbiter, .sound, .line, .handler] s s.evaluateRules :=
  (setRules_kept _ _).andThen (requestSet_kept _ _ _)

end Sys2Proof.Machine
end

