-- ==== Sys2Proof/Laws/KeptUnits.lean ====
section
/-! SUPPORT. The frames of the service, counting, trip, gauge, key, topic, workshop, line, ignition and load operations. -/

namespace Sys2Proof.Machine

set_option Elab.async false

/-! ### Service unit -/

/-- What a service operation may change. -/
abbrev serviceBlocks : List Block := [.service, .store, .arbiter, .sound, .line, .handler]

theorem formQuietly_kept (s : State) (is) : KeptBut [.service] s (s.formQuietly is) :=
  KeptBut.foldl (fun _ _ => modifyItem_kept _ _ _) _ _
theorem formItems_kept (s : State) (is) : KeptBut [.service, .arbiter, .sound, .line, .handler] s (s.formItems is) :=
  (formQuietly_kept _ _).andThen (KeptBut.foldl (fun _ _ => edgeRequest_kept _ _) _ _)
theorem serviceReminders_kept (s : State) : KeptBut arbiterBlocks s s.serviceReminders :=
  KeptBut.foldl (fun _ _ => edgeRequest_kept _ _) _ _
theorem setMark_kept (s : State) (b x) : KeptBut [.service] s (s.setMark b x) := setService_kept _ _
theorem fetchService_kept (s : State) (b) : KeptBut [.service, .store] s (s.fetchService b) :=
  KeptBut.ite (KeptBut.refl _ _) ((setStore_kept _ _).andThen (setMark_kept _ _ _))
theorem countItem_kept (km : Bool) (s : State) (i) : KeptBut [.service, .store] s (State.countItem km s i) :=
  KeptBut.ite
    (KeptBut.ite ((update_kept _ _ _).mono (by decide)) ((modifyItem_kept _ _ _).andThen (fetchService_kept _ _)))
    (KeptBut.refl _ _)
theorem countdown_kept (s : State) (km) : KeptBut serviceBlocks s (s.countdown km) :=
  (KeptBut.foldl (countItem_kept km) _ _).andThen (formItems_kept _ _)
theorem applyReset_kept (s : State) (i w) : KeptBut serviceBlocks s (s.applyReset i w) := by
  unfold State.applyReset
  refine KeptBut.trans ?_ ((setStore_kept _ _).mono (by decide))
  exact ((update_kept _ _ _).andThen (cs := serviceBlocks) (modifyItem_kept _ _ _)).andThen (formItems_kept _ _)
theorem requestReset_kept (s : State) (i w) : KeptBut serviceBlocks s (s.requestReset i w) :=
  KeptBut.ite (applyReset_kept _ _ _) ((modifyItem_kept _ _ _).andThen (fetchService_kept _ _))
theorem applyPending_kept (s : State) (i) : KeptBut [.service, .store] s (s.applyPending i) :=
  KeptBut.ite (KeptBut.refl _ _) ((update_kept _ _ _).andThen (modifyItem_kept _ _ _))
theorem applyWaiting_kept (s : State) (i) : KeptBut serviceBlocks s (s.applyWaiting i) :=
  KeptBut.ite (applyReset_kept _ _ _) (KeptBut.refl _ _)
theorem serviceFill_kept (s : State) (b bad) : KeptBut serviceBlocks s (s.serviceFill b bad) := by
  unfold State.serviceFill
  refine KeptBut.trans ?_ ((setMark_kept _ _ _).mono (by decide))
  refine KeptBut.trans ?_ ((formItems_kept _ _).mono (by decide))
  refine KeptBut.trans ?_ (KeptBut.foldl applyWaiting_kept _ _)
  refine KeptBut.trans ?_ ((KeptBut.foldl applyPending_kept _ _).mono (by decide))
  exact KeptBut.ite ((update_kept _ _ _).mono (by decide)) (KeptBut.refl _ _)
theorem serviceWritten_kept (s : State) (b) :
    KeptBut [.service, .arbiter, .sound, .line, .handler] s (s.serviceWritten b) := formItems_kept _ _
theorem fetchSelected_kept (s : State) : KeptBut [.service, .store] s s.fetchSelected := by
  unfold State.fetchSelected
  split
  · exact KeptBut.ite (KeptBut.refl _ _) (fetchService_kept _ _)
  · exact KeptBut.refl _ _
theorem stepSelection_kept (s : State) : KeptBut [.service, .store] s s.stepSelection := by
  unfold State.stepSelection
  split
  · exact KeptBut.refl _ _
  · exact KeptBut.ite ((setService_kept _ _).mono (by decide)) ((setService_kept _ _).andThen (fetchSelected_kept _))
theorem serviceWake_kept (s : State) : KeptBut [.service, .store] s s.serviceWake :=
  KeptBut.foldl (fun _ _ => KeptBut.ite (fetchService_kept _ _) (KeptBut.refl _ _)) _ _
theorem serviceLoaded_kept (s : State) : KeptBut [.service] s s.serviceLoaded :=
  (formQuietly_kept _ _).trans (setService_kept _ _)
theorem deliverHeldDays_kept (s : State) :
    KeptBut [.counting, .service, .store, .arbiter, .sound, .line, .handler] s s.deliverHeldDays :=
  (setCounting_kept _ _).andThen (KeptBut.foldl (fun _ _ => countdown_kept _ false) _ _)

/-! ### Counting unit -/

theorem gainOdometer_kept (s : State) : KeptBut [.counting, .store] s s.gainOdometer := by
  unfold State.gainOdometer
  refine KeptBut.ite ((update_kept _ _ _).mono (by decide)) ?_
  refine KeptBut.ite ?_ ((update_kept _ _ _).andThen (setCounting_kept _ _))
  exact ((update_kept _ _ _).trans (setStore_kept _ _)).andThen (setCounting_kept _ _)

/-- What a distance step may change. -/
abbrev stepBlocks : List Block := [.counting, .trip, .service, .store, .arbiter, .sound, .line, .handler]

theorem distanceStep_kept (s : State) : KeptBut stepBlocks s s.distanceStep := by
  unfold State.distanceStep
  have h1 : KeptBut stepBlocks s ((s.setCounting s.counting.step).setStore { s.store with latch := true }) :=
    (setCounting_kept _ _).andThen (setStore_kept _ _)
  have h2 : KeptBut stepBlocks s
      (if 9 ≤ s.counting.odometerSub then
        ((s.setCounting s.counting.step).setStore { s.store with latch := true }).gainOdometer
      else (s.setCounting s.counting.step).setStore { s.store with latch := true }) :=
    KeptBut.ite (h1.trans ((gainOdometer_kept _).mono (by decide))) h1
  have h3 := h2.trans ((onTrips_kept (fun s r => addDistance_kept s r 1) _).mono (by decide))
  exact KeptBut.ite (h3.trans ((countdown_kept _ _).mono (by decide))) h3
theorem acceptPulse_kept (s : State) : KeptBut stepBlocks s s.acceptPulse :=
  KeptBut.ite ((setCounting_kept _ _).andThen (distanceStep_kept _)) ((setCounting_kept _ _).mono (by decide))
theorem closeWindow_kept (s : State) : KeptBut [.counting, .arith] s s.closeWindow := by
  unfold State.closeWindow
  refine KeptBut.ite ((setCounting_kept _ _).mono (by decide)) ?_
  exact KeptBut.ite (((setCounting_kept _ _).trans (setCounting_kept _ _)).mono (by decide))
    ((setCounting_kept _ _).andThen (issue_kept _ _))
theorem takeSpeed_kept (s : State) (x) : KeptBut [.counting, .arith] s (s.takeSpeed x) := by
  unfold State.takeSpeed
  dsimp only
  split
  · exact (setCounting_kept _ _).andThen (issue_kept _ _)
  · exact (setCounting_kept _ _).mono (by decide)
theorem clockSecond_kept (s : State) :
    KeptBut [.counting, .service, .store, .arbiter, .sound, .line, .handler] s s.clockSecond := by
  unfold State.clockSecond
  refine KeptBut.ite ((setCounting_kept _ _).mono (by decide)) ?_
  exact KeptBut.ite ((setCounting_kept _ _).andThen (countdown_kept _ _))
    (((setCounting_kept _ _).trans (setCounting_kept _ _)).mono (by decide))
theorem fuelArrival_kept (s : State) : KeptBut [.counting, .store, .trip] s s.fuelArrival := by
  unfold State.fuelArrival
  split
  · exact (setCounting_kept _ _).mono (by decide)
  · dsimp only
    split
    · exact (setCounting_kept _ _).mono (by decide)
    · exact KeptBut.ite ((setCounting_kept _ _).mono (by decide))
        ((onTrips_kept (fun s r => addFuel_kept s r _) _).andThen (setCounting_kept _ _))
theorem beginReturn_kept (s : State) : KeptBut [.counting, .arith] s s.beginReturn :=
  (setCounting_kept _ _).andThen (setArith_kept _ _)
theorem evaluateTank_kept (s : State) (v b) : KeptBut [.counting, .arith] s (s.evaluateTank v b) := by
  unfold State.evaluateTank
  split
  · exact (setCounting_kept _ _).mono (by decide)
  · exact KeptBut.ite (KeptBut.refl _ _) ((setCounting_kept _ _).andThen (issue_kept _ _))
theorem tankArrival_kept (s : State) : KeptBut [.counting, .arith] s s.tankArrival := by
  unfold State.tankArrival
  split
  · exact beginReturn_kept _
  · exact KeptBut.ite ((setCounting_kept _ _).andThen (evaluateTank_kept _ _ _))
      ((setCounting_kept _ _).mono (by decide))
theorem takeFuel_kept (s : State) (y b) : KeptBut [.counting, .arith] s (s.takeFuel y b) := by
  unfold State.takeFuel
  dsimp only
  split
  · exact KeptBut.ite ((setCounting_kept _ _).mono (by decide))
      ((setCounting_kept _ _).andThen (evaluateTank_kept _ _ _))
  · exact (setCounting_kept _ _).mono (by decide)
theorem tankLost_kept (s : State) : KeptBut [.counting, .arith] s s.tankLost :=
  (beginReturn_kept _).andThen (setCounting_kept _ _)
theorem filterFuel_kept (s : State) : KeptBut [.counting] s s.filterFuel := by
  unfold State.filterFuel
  dsimp only
  split
  · exact KeptBut.ite (KeptBut.ite (setCounting_kept _ _) (setCounting_kept _ _)) (setCounting_kept _ _)
  · exact setCounting_kept _ _
theorem turnArrival_kept (s : State) : KeptBut [.counting] s s.turnArrival :=
  KeptBut.ite (setCounting_kept _ _) (KeptBut.refl _ _)
theorem countingWake_kept (s : State) : KeptBut [.counting] s s.countingWake := setCounting_kept _ _

/-! ### Trip computer -/

/-- What the pass may change. -/
abbrev passBlocks : List Block := [.counting, .arith, .trip, .store, .freeIndex]

theorem passTarget_kept {bs : List Block} (s : State) (t r) {clear : State → State}
    (h : KeptBut bs s (clear s)) (ha : [.arith] ⊆ bs) : KeptBut bs s (s.passTarget t r clear) := by
  unfold State.passTarget
  refine KeptBut.ite (KeptBut.refl _ _) ?_
  split
  · exact (issue_kept _ _).mono ha
  · exact h
theorem passRecord_kept (snap s : State) (r) : KeptBut [.arith, .trip, .store, .freeIndex] s (snap.passRecord s r) := by
  unfold State.passRecord
  refine KeptBut.trans (passTarget_kept (bs := [.arith, .trip, .store, .freeIndex]) _ _ _ ?_ (by decide))
    (passTarget_kept (bs := [.arith, .trip, .store, .freeIndex]) _ _ _ ?_ (by decide))
  · exact KeptBut.ite (KeptBut.refl _ _) ((setEconomy_kept _ _ _).mono (by decide))
  · exact KeptBut.ite (KeptBut.refl _ _) ((setAverage_kept _ _ _).mono (by decide))
theorem tripPass_kept (s : State) : KeptBut passBlocks s s.tripPass := by
  unfold State.tripPass
  dsimp only
  refine KeptBut.trans (KeptBut.trans (KeptBut.trans ((setCounting_kept _ _).mono (by decide))
    ((onTrips_kept (passRecord_kept s) _).mono (by decide)))
    (passTarget_kept (bs := passBlocks) _ _ _ ?_ (by decide))) (passTarget_kept (bs := passBlocks) _ _ _ ?_ (by decide))
  · exact (setTrip_kept _ _).mono (by decide)
  · exact (setTrip_kept _ _).mono (by decide)
theorem takeRecord_kept {bs : List Block} (s : State) (r g) {w : State → State} (h : KeptBut bs s (w s))
    (ha : [.arith] ⊆ bs) : KeptBut bs s (s.takeRecord r g w) := KeptBut.ite h ((setArith_kept _ _).mono ha)
theorem rearPageDue_kept (s : State) : KeptBut [.line, .handler] s s.rearPageDue :=
  KeptBut.ite (publish_kept _ _ _ _) (KeptBut.refl _ _)

/-! ### Display, holds and what follows a command -/

theorem requestSend_kept (s : State) : KeptBut [.display] s s.requestSend := by
  unfold State.requestSend
  split
  · exact setDisplay_kept _ _
  · exact setDisplay_kept _ _
theorem endTransfer_kept (s : State) : KeptBut [.display] s s.endTransfer := by
  unfold State.endTransfer
  split
  · exact KeptBut.refl _ _
  · exact KeptBut.ite ((setDisplay_kept _ _).trans (requestSend_kept _)) (setDisplay_kept _ _)
theorem refreshDisplay_kept (s0 s : State) : KeptBut [.display] s (State.refreshDisplay s0 s) := by
  unfold State.refreshDisplay
  exact KeptBut.ite (KeptBut.refl _ _)
    (KeptBut.ite ((setDisplay_kept _ _).trans (requestSend_kept _)) (KeptBut.ite (KeptBut.refl _ _) (requestSend_kept _)))
theorem refreshHolds_kept (s0 s : State) : KeptBut [.keys] s (State.refreshHolds s0 s) :=
  KeptBut.ite (setKeys_kept _ _) (KeptBut.ite (setKeys_kept _ _) (KeptBut.refl _ _))
theorem present_kept (s0 s : State) : KeptBut [.keys, .display] s (State.present s0 s) :=
  (refreshHolds_kept _ _).andThen (refreshDisplay_kept _ _)

/-- The frame of a command whose operation keeps a frame. -/
theorem finish_kept {bs : List Block} {s u : State} (h : KeptBut bs s u) :
    KeptBut (.keys :: .display :: bs) s (State.present s u) :=
  (h.mono (fun _ hb => List.mem_cons_of_mem _ (List.mem_cons_of_mem _ hb))).trans
    ((present_kept _ _).mono (fun b hb => by
      simp only [List.mem_cons, List.not_mem_nil, or_false] at hb ⊢
      rcases hb with h | h <;> simp [h]))

/-! ### Gauges -/

theorem evaluateGauge_kept (s : State) (i v) : KeptBut [.gauges, .arith] s (s.evaluateGauge i v) := by
  unfold State.evaluateGauge
  split
  · exact (modifyGauge_kept _ _ _).mono (by decide)
  · exact (modifyGauge_kept _ _ _).andThen (issue_kept _ _)
theorem trackGauge_kept (s : State) (i) : KeptBut [.gauges, .arith] s (s.trackGauge i) := by
  unfold State.trackGauge
  refine KeptBut.trans ?_ ((modifyGauge_kept _ _ _).mono (by decide))
  split
  · exact KeptBut.ite ((modifyGauge_kept _ _ _).andThen (evaluateGauge_kept _ _ _))
      ((modifyGauge_kept _ _ _).mono (by decide))
  · exact (modifyGauge_kept _ _ _).mono (by decide)
theorem updateGauge_kept (s : State) (i) : KeptBut [.gauges, .arith] s (s.updateGauge i) := by
  unfold State.updateGauge
  split
  · exact (modifyGauge_kept _ _ _).mono (by decide)
  · exact KeptBut.refl _ _
  · exact trackGauge_kept _ _
  · exact trackGauge_kept _ _
  · exact trackGauge_kept _ _
theorem updateGauges_kept (s : State) : KeptBut [.gauges, .arith] s s.updateGauges :=
  KeptBut.foldl updateGauge_kept _ _
theorem tellTest_kept (s : State) (x) : KeptBut [.gauges, .line, .handler] s (s.tellTest x) :=
  KeptBut.ite ((setGauges_kept _ _).andThen (returnStatus_kept _ _ _)) (KeptBut.refl _ _)
theorem endSweep_kept (s : State) : KeptBut [.gauges, .line, .handler] s s.endSweep :=
  (setGauges_kept _ _).andThen (tellTest_kept _ _)
theorem sweepStep_kept (s : State) : KeptBut [.gauges, .line, .handler] s s.sweepStep := by
  unfold State.sweepStep
  split
  · exact KeptBut.ite (endSweep_kept _) ((setGauges_kept _ _).mono (by decide))
  · exact KeptBut.refl _ _
theorem parkGauges_kept (s : State) : KeptBut [.gauges, .line, .handler] s s.parkGauges :=
  (setGauges_kept _ _).andThen (tellTest_kept _ _)
theorem gaugesLoseEngine_kept (s : State) : KeptBut [.gauges] s s.gaugesLoseEngine :=
  ((modifyGauge_kept _ _ _).trans (modifyGauge_kept _ _ _)).trans (modifyGauge_kept _ _ _)
theorem gaugesLoseBody_kept (s : State) : KeptBut [.gauges] s s.gaugesLoseBody := modifyGauge_kept _ _ _

/-! ### Keys -/

theorem putKey_kept (s : State) (k x) : KeptBut [.keys] s (s.putKey k x) := setKeys_kept _ _
theorem setHold_kept (s : State) (k h) : KeptBut [.keys] s (s.setHold k h) := setKeys_kept _ _
theorem selectPage_kept (s : State) (p) : KeptBut [.trip, .service, .store] s (s.selectPage p) :=
  KeptBut.ite ((setTrip_kept _ _).andThen (fetchSelected_kept _)) ((setTrip_kept _ _).mono (by decide))
theorem pageMode_kept (s : State) : KeptBut [.keys, .trip, .service, .store] s s.pageMode :=
  KeptBut.ite (KeptBut.refl _ _)
    (KeptBut.ite ((setHold_kept _ _ _).mono (by decide)) ((selectPage_kept _ _).mono (by decide)))
theorem pageReset_kept (s : State) : KeptBut [.keys] s s.pageReset :=
  KeptBut.ite (KeptBut.refl _ _) (setHold_kept _ _ _)
theorem pageSet_kept (s : State) : KeptBut [.keys, .trip] s s.pageSet :=
  KeptBut.ite (KeptBut.refl _ _) (KeptBut.ite ((setTrip_kept _ _).mono (by decide))
    (KeptBut.ite ((setHold_kept _ _ _).mono (by decide)) (KeptBut.refl _ _)))

/-- What a press may change. -/
abbrev pressBlocks : List Block :=
  [.keys, .counting, .trip, .service, .store, .arbiter, .sound, .line, .handler]

theorem takePress_kept (s : State) (k) : KeptBut pressBlocks s (s.takePress k) := by
  unfold State.takePress
  cases k <;> dsimp only
  · exact KeptBut.ite (((setCounting_kept _ _).trans (setCounting_kept _ _)).mono (by decide))
      ((setCounting_kept _ _).andThen (pageMode_kept _))
  · exact KeptBut.ite ((setCounting_kept _ _).mono (by decide)) ((setCounting_kept _ _).andThen (pageReset_kept _))
  · exact KeptBut.ite (((setCounting_kept _ _).trans (setCounting_kept _ _)).mono (by decide))
      ((setCounting_kept _ _).andThen (pageSet_kept _))
  · exact (setCounting_kept _ _).andThen (ackPress_kept _)
theorem pressKey_kept (s : State) (k) : KeptBut pressBlocks s (s.pressKey k) := by
  unfold State.pressKey
  refine KeptBut.ite ((putKey_kept _ _ _).mono (by decide)) ?_
  exact KeptBut.ite (((putKey_kept _ _ _).andThen (cs := [.keys, .sound]) (click_kept _)).andThen (takePress_kept _ _))
    ((putKey_kept _ _ _).mono (by decide))
theorem releaseKey_kept (s : State) (k) : KeptBut [.keys, .trip, .service, .store] s (s.releaseKey k) :=
  KeptBut.ite ((putKey_kept _ _ _).andThen (selectPage_kept _ _)) ((putKey_kept _ _ _).mono (by decide))
theorem clockSetMark_kept (s : State) : KeptBut [.keys, .counting] s s.clockSetMark := by
  unfold State.clockSetMark
  split
  · exact (setHold_kept _ _ _).andThen (setCounting_kept _ _)
  · exact KeptBut.refl _ _
theorem tripResetMark_kept (s : State) : KeptBut [.keys, .store, .freeIndex] s s.tripResetMark := by
  unfold State.tripResetMark
  split
  · exact (setHold_kept _ _ _).andThen (resetTrip_kept _ _)
  · exact KeptBut.refl _ _
theorem serviceStepMark_kept (s : State) : KeptBut [.keys, .service, .store] s s.serviceStepMark := by
  unfold State.serviceStepMark
  split
  · exact (putKey_kept _ _ _).andThen (stepSelection_kept _)
  · exact KeptBut.refl _ _
theorem serviceResetMark_kept (s : State) :
    KeptBut [.keys, .service, .store, .arbiter, .sound, .line, .handler] s s.serviceResetMark := by
  unfold State.serviceResetMark
  split
  · dsimp only
    split
    · exact KeptBut.ite ((setHold_kept _ _ _).andThen (requestReset_kept _ _ _)) ((setHold_kept _ _ _).mono (by decide))
    · exact (setHold_kept _ _ _).mono (by decide)
  · exact KeptBut.refl _ _

/-! ### Topic table -/

/-- What an arrival or a loss may change. -/
abbrev topicBlocks : List Block :=
  [.topics, .counting, .arith, .trip, .store, .gauges, .arbiter, .sound, .line, .handler]

theorem tellArrival_kept (s : State) (e) : KeptBut topicBlocks s (s.tellArrival e) := by
  unfold State.tellArrival
  split
  · exact (fuelArrival_kept _).mono (by decide)
  · exact (((tankArrival_kept _).andThen (cs := [.counting, .arith]) (turnArrival_kept _))).andThen (turnTick_kept _)
  · exact (cascadeArrival_kept _).andThen (followQuietCabin_kept _)
  · exact KeptBut.refl _ _
theorem tellLost_kept (s : State) (e) : KeptBut topicBlocks s (s.tellLost e) := by
  unfold State.tellLost
  split
  · exact (gaugesLoseEngine_kept _).mono (by decide)
  · exact (setCounting_kept _ _).mono (by decide)
  · refine KeptBut.trans ?_ ((setSound_kept _ _).mono (by decide))
    exact ((tankLost_kept _).andThen (cs := [.counting, .arith, .gauges]) (gaugesLoseBody_kept _)).andThen
      (setCounting_kept _ _)
  · exact (cascadeLost_kept _).andThen (followQuietCabin_kept _)
  · exact KeptBut.refl _ _
theorem toEntry_kept (s : State) (e a b c) : KeptBut topicBlocks s (s.toEntry e a b c) :=
  KeptBut.ite ((modifyEntry_kept _ _ _).andThen (tellArrival_kept _ _)) ((modifyEntry_kept _ _ _).mono (by decide))
theorem freshness_kept (s : State) : KeptBut topicBlocks s s.freshness :=
  KeptBut.trans (KeptBut.trans ((setTopics_kept _ _).mono (by decide)) (KeptBut.foldl tellLost_kept _ _))
    ((setCounting_kept _ _).mono (by decide))
theorem takeDefinitions_kept (s : State) : KeptBut [.topics] s s.takeDefinitions := setTopics_kept _ _

/-! ### Workshop handler -/

theorem badRequest_kept (s : State) : KeptBut [.line, .handler] s s.badRequest := returnStatus_kept _ _ _

/-- What a workshop request may change. -/
abbrev workshopBlocks : List Block := [.store, .line, .handler, .service, .arbiter, .sound, .gauges]

theorem requestRead_kept (s : State) (b o) : KeptBut [.store, .line, .handler] s (s.requestRead b o) :=
  KeptBut.ite
    (((setStore_kept _ _).andThen (cs := [.store, .line, .handler]) (returnStatus_kept _ _ _)).andThen (settleStore_kept _))
    ((setStore_kept _ _).andThen (settleStore_kept _))
theorem applyWrite_kept (s : State) (b o d) : KeptBut serviceBlocks s (s.applyWrite b o d) := by
  unfold State.applyWrite
  refine KeptBut.ite ((setStore_kept _ _).andThen (returnStatus_kept _ _ _)) ?_
  refine KeptBut.trans ?_ ((returnStatus_kept _ _ _).mono (by decide))
  exact KeptBut.ite (((setStore_kept _ _).trans (update_kept _ _ _)).andThen (serviceWritten_kept _ _))
    (((setStore_kept _ _).trans (update_kept _ _ _)).mono (by decide))
theorem requestWrite_kept (s : State) (b o d) : KeptBut serviceBlocks s (s.requestWrite b o d) :=
  KeptBut.ite ((returnStatus_kept _ _ _).mono (by decide))
    (KeptBut.ite ((applyWrite_kept _ _ _ _).andThen (settleStore_kept _)) ((setStore_kept _ _).andThen (settleStore_kept _)))
theorem recordOperation_kept (s : State) (op b) : KeptBut [.store, .line, .handler] s (s.recordOperation op b) := by
  unfold State.recordOperation
  split <;> exact takeTask_kept _ _
theorem requestClose_kept (s : State) : KeptBut [.store, .line, .handler] s s.requestClose :=
  (setStore_kept _ _).andThen (returnStatus_kept _ _ _)
theorem requestServiceReset_kept (s : State) (i) : KeptBut serviceBlocks s (s.requestServiceReset i) :=
  KeptBut.ite ((requestReset_kept _ _ _).andThen (settleStore_kept _)) ((returnStatus_kept _ _ _).mono (by decide))
theorem requestAck_kept (s : State) (w) : KeptBut arbiterBlocks s (s.requestAck w) := by
  unfold State.requestAck
  exact KeptBut.trans (specificAck_kept s w) ((returnStatus_kept _ _ _).mono (by decide))
theorem requestGaugeTest_kept (s : State) : KeptBut [.gauges, .line, .handler] s s.requestGaugeTest :=
  KeptBut.ite ((setGauges_kept _ _).mono (by decide)) ((returnStatus_kept _ _ _).mono (by decide))
theorem requestStatus_kept (s : State) (a b) : KeptBut [.line, .handler] s (s.requestStatus a b) := by
  unfold State.requestStatus
  split
  · exact returnStatus_kept _ _ _
  · exact badRequest_kept _
/-- A request that is either carried out or answered BAD REQUEST. -/
theorem checked_kept {p : Prop} [Decidable p] {bs : List Block} {s u : State} (h : KeptBut bs s u)
    (hb : bs ⊆ workshopBlocks := by decide) : KeptBut workshopBlocks s (if p then u else s.badRequest) :=
  KeptBut.ite (h.mono hb) ((badRequest_kept s).mono (by decide))
theorem refused_kept (s : State) : KeptBut workshopBlocks s s.badRequest := (badRequest_kept s).mono (by decide)
theorem takeRead_kept (s : State) (d) : KeptBut workshopBlocks s (s.takeRead d) := by
  unfold State.takeRead
  split
  · exact checked_kept (requestRead_kept _ _ _)
  · exact refused_kept _
theorem takeWrite_kept (s : State) (d) : KeptBut workshopBlocks s (s.takeWrite d) := by
  unfold State.takeWrite
  split
  · exact checked_kept (requestWrite_kept _ _ _ _)
  · exact refused_kept _
theorem takeRecordOperation_kept (s : State) (d) : KeptBut workshopBlocks s (s.takeRecordOperation d) := by
  unfold State.takeRecordOperation
  split
  · exact checked_kept (recordOperation_kept _ _ _)
  · exact checked_kept (takeTask_kept _ _)
  · exact refused_kept _
theorem takeOdometer_kept (s : State) (d) : KeptBut workshopBlocks s (s.takeOdometer d) := by
  unfold State.takeOdometer
  exact checked_kept (takeTask_kept _ _)
theorem takeEmpty_kept {s u : State} (h : KeptBut workshopBlocks s u) (d) : KeptBut workshopBlocks s (s.takeEmpty u d) := by
  unfold State.takeEmpty
  split
  · exact h
  · exact refused_kept _
theorem takeServiceReset_kept (s : State) (d) : KeptBut workshopBlocks s (s.takeServiceReset d) := by
  unfold State.takeServiceReset
  split
  · exact checked_kept (requestServiceReset_kept _ _)
  · exact refused_kept _
theorem takeAck_kept (s : State) (d) : KeptBut workshopBlocks s (s.takeAck d) := by
  unfold State.takeAck
  split
  · exact checked_kept (requestAck_kept _ _)
  · exact refused_kept _
theorem takeStatus_kept (s : State) (d) : KeptBut workshopBlocks s (s.takeStatus d) := by
  unfold State.takeStatus
  split
  · exact (requestStatus_kept _ _ _).mono (by decide)
  · exact refused_kept _
theorem carryOut_kept (s : State) (t d) : KeptBut workshopBlocks s (s.carryOut t d) := by
  unfold State.carryOut
  exact KeptBut.ite (takeRead_kept _ _) (KeptBut.ite (takeWrite_kept _ _) (KeptBut.ite (takeRecordOperation_kept _ _)
    (KeptBut.ite (takeOdometer_kept _ _) (KeptBut.ite (takeEmpty_kept ((requestClose_kept _).mono (by decide)) _)
    (KeptBut.ite (takeServiceReset_kept _ _) (KeptBut.ite (takeAck_kept _ _) (KeptBut.ite (takeStatus_kept _ _)
    (KeptBut.ite (takeEmpty_kept ((requestGaugeTest_kept _).mono (by decide)) _) (refused_kept _)))))))))
theorem workshopRequest_kept (s : State) (t d) : KeptBut workshopBlocks s (s.workshopRequest t d) :=
  KeptBut.ite (KeptBut.refl _ _)
    (KeptBut.ite ((setHandler_kept _ _).andThen (carryOut_kept _ _ _)) ((answerBusy_kept _ _).mono (by decide)))

/-! ### Line station -/

theorem departSending_kept (s : State) : KeptBut [.line, .handler] s s.departSending := by
  unfold State.departSending
  split
  · split
    · exact (setLine_kept _ _).andThen (replyLeft_kept _ _)
    · exact KeptBut.refl _ _
  · exact KeptBut.refl _ _
theorem messageSent_kept (s : State) : KeptBut [.line, .handler] s s.messageSent :=
  KeptBut.ite ((departSending_kept _).andThen (setLine_kept _ _)) (KeptBut.refl _ _)
theorem clashMessage_kept (s : State) : KeptBut [.line, .handler] s s.clashMessage := by
  unfold State.clashMessage
  split
  · split
    · exact KeptBut.ite ((setLine_kept _ _).andThen (replyLeft_kept _ _)) ((setLine_kept _ _).mono (by decide))
    · exact KeptBut.refl _ _
  · exact KeptBut.refl _ _
theorem clash_kept (s : State) (b) : KeptBut [.line, .handler] s (s.clash b) :=
  KeptBut.ite ((clashMessage_kept _).andThen (setLine_kept _ _)) (KeptBut.refl _ _)
theorem heard_kept (s : State) : KeptBut [.line] s s.heard := setLine_kept _ _

/-- What a message may change. -/
abbrev messageBlocks : List Block :=
  [.topics, .counting, .arith, .trip, .store, .gauges, .arbiter, .sound, .line, .handler, .service]

theorem handOn_kept (s : State) (bs) : KeptBut messageBlocks s (s.handOn bs) := by
  unfold State.handOn
  split
  · exact (toEntry_kept _ _ _ _ _).mono (by decide)
  · exact KeptBut.ite ((workshopRequest_kept _ _ _).mono (by decide)) ((setLine_kept _ _).mono (by decide))
  · exact (setLine_kept _ _).mono (by decide)
theorem takeValid_kept (s : State) (bs) : KeptBut messageBlocks s (s.takeValid bs) := by
  unfold State.takeValid
  have h := (heard_kept s).mono (cs := messageBlocks) (by decide)
  exact KeptBut.ite h (KeptBut.ite (h.trans ((setLine_kept _ _).mono (by decide)))
    (KeptBut.ite (h.trans (handOn_kept _ _)) h))
theorem endGap_kept (s : State) (bs f) : KeptBut messageBlocks s (s.endGap bs f) := by
  unfold State.endGap
  refine KeptBut.ite ?_ (KeptBut.refl _ _)
  exact KeptBut.ite ((setLine_kept _ _).andThen (takeValid_kept _ _))
    (((setLine_kept _ _).trans (setLine_kept _ _)).mono (by decide))
theorem queueSpeed_kept (s : State) : KeptBut [.line, .handler] s s.queueSpeed := publish_kept _ _ _ _
theorem queueOdometer_kept (s : State) : KeptBut [.line, .handler] s s.queueOdometer := publish_kept _ _ _ _

/-! ### Ignition and load: every block but the calibrated items and the queue of commands -/

/-- Every block but the calibrated items and the queue of commands. -/
abbrev ignitionBlocks : List Block :=
  [.ignition, .counting, .arith, .trip, .keys, .display, .line, .topics, .gauges, .rules, .arbiter, .sound, .service,
   .store, .handler, .freeIndex]

theorem goTo_kept (s : State) (x) : KeptBut [.ignition, .keys] s (s.goTo x) :=
  (setIgnition_kept _ _).andThen (setKeys_kept _ _)
theorem setWatch_kept (s : State) (t) : KeptBut [.ignition] s (s.setWatch t) := setIgnition_kept _ _
theorem setHoldup_kept (s : State) (t) : KeptBut [.ignition] s (s.setHoldup t) := setIgnition_kept _ _
theorem storeSleep_kept (s : State) : KeptBut [.store, .freeIndex] s s.storeSleep :=
  (setStore_kept _ _).andThen (setFreeIndex_kept _ _)
theorem sleepEntry_kept (s : State) : KeptBut ignitionBlocks s s.sleepEntry := by
  unfold State.sleepEntry
  refine KeptBut.trans ?_ ((setHandler_kept _ _).mono (by decide))
  refine KeptBut.trans ?_ ((storeSleep_kept _).mono (by decide))
  refine KeptBut.trans (KeptBut.trans ?_ ((setSound_kept _ _).mono (by decide))) ((setService_kept _ _).mono (by decide))
  refine KeptBut.trans ?_ ((arbiterSleep_kept _).mono (by decide))
  refine KeptBut.trans (KeptBut.trans ?_ ((setGauges_kept _ _).mono (by decide))) ((setRules_kept _ _).mono (by decide))
  refine KeptBut.trans (KeptBut.trans ?_ ((setLine_kept _ _).mono (by decide))) ((setTopics_kept _ _).mono (by decide))
  refine KeptBut.trans (KeptBut.trans ?_ ((setArith_kept _ _).mono (by decide))) ((setDisplay_kept _ _).mono (by decide))
  refine KeptBut.trans ?_ ((setCounting_kept _ _).mono (by decide))
  exact ((goTo_kept _ _).mono (by decide)).trans
    (((setWatch_kept _ _).trans (setHoldup_kept _ _)).mono (by decide))
theorem startTimers_kept (s : State) :
    KeptBut [.line, .topics, .gauges, .rules, .sound, .arbiter, .handler] s s.startTimers := by
  unfold State.startTimers
  refine KeptBut.trans ?_ ((arbiterStart_kept _).mono (by decide))
  refine KeptBut.trans ?_ ((setSound_kept _ _).mono (by decide))
  refine KeptBut.trans (KeptBut.trans ?_ ((setGauges_kept _ _).mono (by decide))) ((setRules_kept _ _).mono (by decide))
  exact (setLine_kept _ _).andThen (setTopics_kept _ _)
theorem runEntry_kept (s : State) :
    KeptBut [.counting, .gauges, .sound, .line, .arbiter, .handler] s s.runEntry := by
  unfold State.runEntry
  refine KeptBut.trans ?_ ((serviceReminders_kept _).mono (by decide))
  refine KeptBut.trans (KeptBut.trans ?_ ((setSound_kept _ _).mono (by decide))) ((setLine_kept _ _).mono (by decide))
  exact (setCounting_kept _ _).andThen (setGauges_kept _ _)
theorem enterAwake_kept (s : State) (x) :
    KeptBut [.counting, .gauges, .sound, .line, .arbiter, .handler] s (s.enterAwake x) :=
  KeptBut.ite (runEntry_kept _) (KeptBut.refl _ _)
theorem wakeInto_kept (s : State) (x) : KeptBut ignitionBlocks s (s.wakeInto x) := by
  unfold State.wakeInto
  refine KeptBut.trans ?_ ((settleStore_kept _).mono (by decide))
  refine KeptBut.trans ?_ ((deliverHeldDays_kept _).mono (by decide))
  refine KeptBut.trans ?_ ((enterAwake_kept _ _).mono (by decide))
  refine KeptBut.trans ?_ ((serviceWake_kept _).mono (by decide))
  refine KeptBut.trans ?_ ((startTimers_kept _).mono (by decide))
  refine KeptBut.trans ?_ ((arbiterWake_kept _).mono (by decide))
  refine KeptBut.trans ?_ ((setHandler_kept _ _).mono (by decide))
  refine KeptBut.trans (KeptBut.trans ?_ ((setTopics_kept _ _).mono (by decide))) ((setStore_kept _ _).mono (by decide))
  refine KeptBut.trans (KeptBut.trans ?_ ((setTrip_kept _ _).mono (by decide))) ((setLine_kept _ _).mono (by decide))
  exact (goTo_kept _ _).andThen (countingWake_kept _)
theorem lookFromSleep_kept (s : State) : KeptBut ignitionBlocks s s.lookFromSleep := by
  unfold State.lookFromSleep
  split
  · exact KeptBut.refl _ _
  · exact KeptBut.refl _ _
  · exact KeptBut.refl _ _
  · exact wakeInto_kept _ _
theorem enterSleep_kept (s : State) : KeptBut ignitionBlocks s s.enterSleep :=
  (sleepEntry_kept _).trans (lookFromSleep_kept _)
theorem leave_kept (s : State) : KeptBut [.gauges, .line, .handler, .sound, .arbiter] s s.leave := by
  unfold State.leave
  split
  · refine KeptBut.trans ?_ ((endReview_kept _).mono (by decide))
    refine KeptBut.trans (KeptBut.trans ?_ ((setSound_kept _ _).mono (by decide))) ((setLine_kept _ _).mono (by decide))
    exact (parkGauges_kept _).mono (by decide)
  · exact (endReview_kept _).mono (by decide)
  all_goals exact KeptBut.refl _ _
theorem toRun_kept (s : State) : KeptBut ignitionBlocks s s.toRun :=
  KeptBut.trans (KeptBut.trans ((leave_kept _).mono (by decide)) ((goTo_kept _ _).mono (by decide)))
    ((runEntry_kept _).mono (by decide))
theorem toAccessory_kept (s : State) : KeptBut ignitionBlocks s s.toAccessory :=
  KeptBut.trans (KeptBut.trans ((leave_kept _).mono (by decide)) ((goTo_kept _ _).mono (by decide)))
    (((setCounting_kept _ _).andThen (cs := [.counting, .line]) (setLine_kept _ _)).mono (by decide))
theorem holdupExit_kept (s : State) : KeptBut ignitionBlocks s s.holdupExit :=
  KeptBut.ite (enterSleep_kept _) (KeptBut.refl _ _)
theorem toHoldup_kept (s : State) : KeptBut ignitionBlocks s s.toHoldup := by
  unfold State.toHoldup
  refine KeptBut.trans ?_ (holdupExit_kept _)
  refine KeptBut.trans ?_ ((settleStore_kept _).mono (by decide))
  have h : KeptBut ignitionBlocks s (((s.leave.goTo .holdup).setWatch none).setHoldup (some 30)) :=
    (((leave_kept _).mono (by decide)).trans ((goTo_kept _ _).mono (by decide))).trans
      (((setWatch_kept _ _).trans (setHoldup_kept _ _)).mono (by decide))
  have h3 (x y z) := (((h.trans ((setCounting_kept _ x).mono (by decide))).trans
    ((setLine_kept _ y).mono (by decide))).trans ((setStore_kept _ z).mono (by decide)))
  exact KeptBut.ite ((h3 _ _ _).trans ((queueOdometer_kept _).mono (by decide))) (h3 _ _ _)
theorem endHoldup_kept (s : State) : KeptBut [.ignition, .store] s s.endHoldup :=
  (setHoldup_kept _ _).andThen (setStore_kept _ _)
theorem takeLevels_kept (s : State) (a r) : KeptBut [.ignition] s (s.takeLevels a r) := setIgnition_kept _ _
theorem keyPosition_kept (s : State) (a r) : KeptBut ignitionBlocks s (s.keyPosition a r) := by
  unfold State.keyPosition
  have h := (takeLevels_kept s a r).mono (cs := ignitionBlocks) (by decide)
  have settled {u : State} (k : KeptBut ignitionBlocks s u) : KeptBut ignitionBlocks s u.settleStore :=
    k.trans ((settleStore_kept _).mono (by decide))
  dsimp only
  split
  · exact h
  · exact h.trans (lookFromSleep_kept _)
  · exact settled ((h.trans ((setWatch_kept _ _).mono (by decide))).trans (toRun_kept _))
  · exact (h.trans ((setWatch_kept _ _).mono (by decide))).trans (toAccessory_kept _)
  · exact h
  · exact settled (h.trans (toRun_kept _))
  · exact h.trans (toHoldup_kept _)
  · exact h
  · exact settled ((h.trans (toAccessory_kept _)).trans ((setStore_kept _ _).mono (by decide)))
  · exact h.trans (toHoldup_kept _)
  · exact h
  · exact settled ((h.trans ((endHoldup_kept _).mono (by decide))).trans (toRun_kept _))
  · exact settled ((h.trans ((endHoldup_kept _).mono (by decide))).trans (toAccessory_kept _))
  · exact h
theorem wakeInput_kept (s : State) (x) : KeptBut ignitionBlocks s (s.wakeInput x) := by
  unfold State.wakeInput
  have h {i} : KeptBut ignitionBlocks s (s.setIgnition i) := (setIgnition_kept _ _).mono (by decide)
  dsimp only
  split
  · exact h.trans (lookFromSleep_kept _)
  · exact KeptBut.ite (h.trans ((setWatch_kept _ _).mono (by decide)))
      (KeptBut.ite (h.trans ((setWatch_kept _ _).mono (by decide))) h)
  all_goals exact h
theorem watchExpired_kept (s : State) : KeptBut ignitionBlocks s s.watchExpired :=
  KeptBut.ite (KeptBut.ite (toHoldup_kept _) (enterSleep_kept _)) (KeptBut.refl _ _)
theorem holdupExpired_kept (s : State) : KeptBut ignitionBlocks s s.holdupExpired :=
  KeptBut.ite (enterSleep_kept _) (KeptBut.refl _ _)
theorem powerOn_kept (s : State) : KeptBut (.cal :: ignitionBlocks) s s.powerOn := fun b hb => by
  cases b <;> first | rfl | exact absurd (by decide) hb

/-- Every block but the queue of commands. -/
abbrev loadBlocks : List Block := .cal :: ignitionBlocks

theorem loadNext_kept (s : State) (b) : KeptBut [.ignition, .store] s (s.loadNext b) :=
  (setIgnition_kept _ _).andThen (setStore_kept _ _)
theorem checkImage_kept (s : State) : KeptBut [.ignition] s s.checkImage :=
  KeptBut.ite (setIgnition_kept _ _) (setIgnition_kept _ _)
theorem loadCalibration_kept (s : State) (d b) : KeptBut [.ignition] s (s.loadCalibration d b) := setIgnition_kept _ _
theorem loadRecord_kept (s : State) (b d x) : KeptBut [.store, .freeIndex] s (s.loadRecord b d x) := by
  unfold State.loadRecord
  refine KeptBut.ite (KeptBut.ite (KeptBut.refl _ _) ((update_kept _ _ _).mono (by decide))) ?_
  refine KeptBut.ite (KeptBut.refl _ _) ?_
  exact KeptBut.ite ((update_kept _ _ _).andThen (setFreeIndex_kept _ _)) ((update_kept _ _ _).mono (by decide))
theorem loadDone_kept (s : State) : KeptBut loadBlocks s s.loadDone := by
  have h : KeptBut loadBlocks s (s.setCal s.ignition.load.image).takeDefinitions.formOrders.serviceLoaded :=
    (((setCal_kept _ _).andThen (cs := [.cal, .topics]) (takeDefinitions_kept _)).andThen
      (cs := [.cal, .topics, .arbiter]) (formOrders_kept _)).andThen (serviceLoaded_kept _)
  unfold State.loadDone
  dsimp only
  split
  · exact (h.trans ((deliverHeldDays_kept _).mono (by decide))).trans ((enterSleep_kept _).mono (by decide))
  · exact (h.trans ((deliverHeldDays_kept _).mono (by decide))).trans ((enterSleep_kept _).mono (by decide))
  · exact (h.trans ((deliverHeldDays_kept _).mono (by decide))).trans ((enterSleep_kept _).mono (by decide))
  · exact (((h.trans ((goTo_kept _ _).mono (by decide))).trans ((startTimers_kept _).mono (by decide))).trans
      ((enterAwake_kept _ _).mono (by decide))).trans ((deliverHeldDays_kept _).mono (by decide))
theorem loadFill_kept (s : State) (b d x) : KeptBut loadBlocks s (s.loadFill b d x) := by
  unfold State.loadFill
  refine KeptBut.ite (KeptBut.refl _ _) (KeptBut.ite ?_ (KeptBut.ite ?_ (KeptBut.ite ?_ ?_)))
  · exact (((loadCalibration_kept _ _ _).trans (checkImage_kept _)).andThen (cs := [.ignition, .store])
      (loadNext_kept _ _)).mono (by decide)
  · exact ((loadCalibration_kept _ _ _).andThen (cs := [.ignition, .store]) (loadNext_kept _ _)).mono (by decide)
  · exact (loadRecord_kept _ _ _ _).andThen (loadNext_kept _ _)
  · exact (loadRecord_kept _ _ _ _).andThen (loadDone_kept _)
theorem taskFilled_kept (s : State) (b d x) : KeptBut [.store, .line, .handler] s (s.taskFilled b d x) := by
  unfold State.taskFilled
  dsimp only
  split
  · exact KeptBut.ite ((setStore_kept _ _).andThen (returnStatus_kept _ _ _)) (KeptBut.refl _ _)
  · exact KeptBut.ite ((setStore_kept _ _).andThen (returnStatus_kept _ _ _)) (KeptBut.refl _ _)
  · exact KeptBut.refl _ _
theorem taskApplied_kept (s : State) (b) : KeptBut serviceBlocks s (s.taskApplied b) := by
  unfold State.taskApplied
  split
  · exact KeptBut.ite (applyWrite_kept _ _ _ _) (KeptBut.refl _ _)
  · exact KeptBut.refl _ _
theorem fillEnd_kept (s : State) (b) : KeptBut loadBlocks s (s.fillEnd b) := by
  unfold State.fillEnd
  refine KeptBut.trans ?_ ((settleStore_kept _).mono (by decide))
  refine KeptBut.trans ?_ ((taskApplied_kept _ _).mono (by decide))
  have h {d x} : KeptBut loadBlocks s ((s.setStore (s.store.endFill b (s.pinAtFill b))).taskFilled b d x) :=
    (setStore_kept _ _).andThen (taskFilled_kept _ _ _ _)
  exact KeptBut.ite (h.trans (loadFill_kept _ _ _ _)) (KeptBut.ite (h.trans ((serviceFill_kept _ _ _).mono (by decide))) h)
theorem verifyEnd_kept (s : State) (b) : KeptBut [.store, .line, .handler] s (s.verifyEnd b) :=
  ((setStore_kept _ _).andThen (cs := [.store, .line, .handler]) (returnStatus_kept _ _ _)).andThen (settleStore_kept _)
theorem readEnd_kept (s : State) : KeptBut loadBlocks s s.readEnd := by
  unfold State.readEnd
  split
  · exact fillEnd_kept _ _
  · exact (verifyEnd_kept _ _).mono (by decide)
  · exact KeptBut.refl _ _
theorem writeDone_kept (s : State) : KeptBut ignitionBlocks s s.writeDone :=
  KeptBut.ite (((setStore_kept _ _).andThen (cs := [.store, .line, .handler]) (settleStore_kept _)).andThen (holdupExit_kept _))
    (KeptBut.refl _ _)
theorem writeTimedOut_kept (s : State) : KeptBut [.store, .line, .handler, .freeIndex] s s.writeTimedOut :=
  KeptBut.ite (((setStore_kept _ _).andThen (cs := [.store, .freeIndex]) (setFreeIndex_kept _ _)).andThen (settleStore_kept _))
    (KeptBut.refl _ _)
theorem pwrFall_kept (s : State) : KeptBut [.store, .line, .handler, .freeIndex] s s.pwrFall :=
  ((setStore_kept _ _).andThen (cs := [.store, .freeIndex]) (setFreeIndex_kept _ _)).andThen (settleStore_kept _)
theorem pwrRise_kept (s : State) : KeptBut [.store, .line, .handler] s s.pwrRise :=
  (setStore_kept _ _).andThen (settleStore_kept _)

/-! ### Arithmetic completions -/

theorem deliver_kept (s : State) (r) : KeptBut [.gauges, .counting, .arith, .trip, .store, .freeIndex] s (s.deliver r) := by
  unfold State.deliver
  split
  · exact (modifyGauge_kept _ _ _).mono (by decide)
  · exact (takeSpeed_kept _ _).mono (by decide)
  · exact (takeFuel_kept _ _ _).mono (by decide)
  · exact takeRecord_kept _ _ _ ((setEconomy_kept _ _ _).mono (by decide)) (by decide)
  · exact takeRecord_kept _ _ _ ((setAverage_kept _ _ _).mono (by decide)) (by decide)
  · exact (setTrip_kept _ _).mono (by decide)
  · exact (setTrip_kept _ _).mono (by decide)
theorem complete_kept (s : State) : KeptBut [.gauges, .counting, .arith, .trip, .store, .freeIndex] s s.complete := by
  unfold State.complete
  split
  · exact (deliver_kept _ _).andThen (leaveUnit_kept _)
  · exact KeptBut.refl _ _

end Sys2Proof.Machine
end

