-- ==== Sys2Proof/Laws/Commands.lean ====
section
/-! SUPPORT. The frame of every command, once: the blocks that it may change before the holds it ends and the record it
sends. -/

namespace Sys2Proof

set_option Elab.async false

open Machine

/-- Commands that can change the ignition state (Table 11-1): the ignition controller's own, and those that end the load
or can meet the HOLDUP exit condition. -/
def Instr.movesIgnition : Instr → Bool
  | .powerOnReset | .keyPositionChange _ _ | .wakeInputChange _ | .watchTimerExpiry | .holdupTimerExpiry | .messageSent
  | .clash _ | .breakRecognised | .blockWriteReady | .blockReadEnd => true
  | _ => false

/-- The blocks that a command may change, besides the keys' holds and the display port. -/
def Instr.blocks : Instr → List Block
  | .powerOnReset => loadBlocks
  | .speedPulse _ => stepBlocks
  | .halfSecondWindowClosure => [.counting, .arith]
  | .oneSecondTimer => .freeIndex :: .arith :: stepBlocks
  | .keyPress _ => pressBlocks
  | .keyRelease _ => [.keys, .trip, .service, .store]
  | .clockSetHold => [.keys, .counting]
  | .keyIdleTimerExpiry => [.counting]
  | .tripResetHold => [.keys, .store, .freeIndex]
  | .serviceStepHold => .keys :: serviceBlocks
  | .serviceResetHold => .keys :: serviceBlocks
  | .operationComplete => [.gauges, .counting, .arith, .trip, .store, .freeIndex]
  | .freshnessTick => topicBlocks
  | .turnSignalCountTimeout => [.counting]
  | .initQuietReached => [.line]
  | .accessWaitReached => [.line]
  | .clash _ => ignitionBlocks
  | .messageSent => ignitionBlocks
  | .breakRecognised => ignitionBlocks
  | .breakEnd _ => [.line]
  | .lineStuck => [.line]
  | .lineReleased => [.line]
  | .endGap _ _ => messageBlocks
  | .silenceTimerExpiry => [.line]
  | .rate40hExpiry => [.line, .handler]
  | .rate41hExpiry => [.line, .handler]
  | .gaugeUpdate => [.gauges, .arith]
  | .parkCountExpiry _ => [.gauges]
  | .sweepTick => [.gauges, .line, .handler]
  | .sweepEnd => [.gauges, .line, .handler]
  | .evaluation => .rules :: arbiterBlocks
  | .arbiterTick => arbiterBlocks
  | .shownTimerExpiry => arbiterBlocks
  | .reminderTimerExpiry _ => arbiterBlocks
  | .reviewTimerExpiry => [.arbiter]
  | .rate43hExpiry => arbiterBlocks
  | .patternComplete _ => arbiterBlocks
  | .serviceEdgeRequest _ => arbiterBlocks
  | .cadenceExpiry => .freeIndex :: arbiterBlocks
  | .clickTimerExpiry => [.sound]
  | .tickTimerExpiry => [.sound]
  | .flashCounterExpiry => [.sound]
  | .bulbCheckExpiry => [.sound]
  | .displayTimerExpiry => [.display]
  | .displayTransferEnd => [.display]
  | .blockReadEnd => loadBlocks
  | .blockWriteReady => ignitionBlocks
  | .blockWriteTimeout => [.store, .line, .handler, .freeIndex]
  | .pwrGoodFall => [.store, .line, .handler, .freeIndex]
  | .pwrGoodRise => [.store, .line, .handler]
  | .keyPositionChange _ _ => ignitionBlocks
  | .wakeInputChange _ => ignitionBlocks
  | .watchTimerExpiry => ignitionBlocks
  | .holdupTimerExpiry => ignitionBlocks
  | .readBytes _ _ => workshopBlocks
  | .writeBytes _ _ _ => workshopBlocks
  | .fetch _ => workshopBlocks
  | .fetchAndPin _ => workshopBlocks
  | .unpin _ => workshopBlocks
  | .writeback _ => workshopBlocks
  | .writebackInvalidate _ => workshopBlocks
  | .invalidate _ => workshopBlocks
  | .verify _ => workshopBlocks
  | .indexWritebackInvalidate _ _ => workshopBlocks
  | .setOdometer _ => workshopBlocks
  | .close => workshopBlocks
  | .serviceReset _ => workshopBlocks
  | .acknowledgeWarning _ => workshopBlocks
  | .readStatus _ _ => workshopBlocks
  | .gaugeTest => workshopBlocks
  | .lineDriven => [.line]
  | .lineReleasedAfterBreak => [.line]

namespace Machine

/-- A second's effects (R9, R12, R16, R34, R46). -/
theorem oneSecond_kept (s : State) :
    KeptBut (.freeIndex :: .arith :: stepBlocks) s
      (s.setCounting { s.counting with secondTimer := 100 }).clockSecond.tripSecond.filterFuel.passDue.rearPageDue.settleStore := by
  refine KeptBut.trans ?_ ((settleStore_kept _).mono (by decide))
  refine KeptBut.trans ?_ ((rearPageDue_kept _).mono (by decide))
  refine KeptBut.trans ?_ (KeptBut.ite (t := (State.tripPass _)) ((tripPass_kept _).mono (by decide)) (KeptBut.refl _ _))
  refine KeptBut.trans ?_ ((filterFuel_kept _).mono (by decide))
  refine KeptBut.trans ?_ (KeptBut.ite ((onTrips_kept (fun s r => addTime_kept s r 1) _).mono (by decide)) (KeptBut.refl _ _))
  exact (setCounting_kept _ _).andThen (clockSecond_kept _)

/-- The shown timer's end. -/
theorem shownExpiry_kept (s : State) : KeptBut arbiterBlocks s (s.arbiterEvent State.shownExpired) := by
  refine arbiterEvent_kept s ?_
  unfold State.shownExpired
  split
  · exact KeptBut.ite ((shownTimerDone_kept _ _).mono (by decide)) (KeptBut.refl _ _)
  · exact KeptBut.refl _ _

/-- A phase's end at the channel, with what the arbiter makes of the report. -/
theorem cadence_kept (s : State) : KeptBut (.freeIndex :: arbiterBlocks) s (State.reportDone s.cadenceEnd) := by
  unfold State.reportDone
  split
  · exact ((cadenceEnd_kept s).andThen (cs := [.freeIndex, .sound]) (syncChime_kept _)).andThen (patternDone_kept _ _)
  · exact (cadenceEnd_kept s).andThen (syncChime_kept _)

/-! ### What the holds and the record read -/

/-- Two states that differ in keys and display alone carry the same record. -/
theorem recordItems_congr {s t : State} (h : KeptBut [.keys, .display] s t) : t.recordItems = s.recordItems := by
  have e : t = (s.setKeys t.keys).setDisplay t.display := by
    have h1 := h.ignition; have h2 := h.counting; have h3 := h.arith; have h4 := h.trip; have h5 := h.line
    have h6 := h.topics; have h7 := h.gauges; have h8 := h.rules; have h9 := h.arbiter; have h10 := h.sound
    have h11 := h.service; have h12 := h.store; have h13 := h.handler; have h14 := h.cal; have h15 := h.freeIndex
    have h16 := h.pending
    cases t
    simp only [State.setKeys, State.setDisplay]
    simp only at *
    subst_vars
    rfl
  rw [e]; rfl

/-- The WARNING page is the arbiter's alone. -/
theorem warningPage_congr {s t : State} (h : t.arbiter = s.arbiter) : t.warningPage = s.warningPage := by
  simp [State.warningPage, State.shown, h]

/-- Where page, WARNING page and selected item stand, no hold ends. -/
theorem refreshHolds_same {s u : State} (hp : u.trip.page = s.trip.page) (hw : u.warningPage = s.warningPage)
    (hs : u.service.selected = s.service.selected) : State.refreshHolds s u = u := by
  simp [State.refreshHolds, hp, hw, hs]

/-- A command that leaves page, WARNING page and selected item keeps what its frame keeps, the display apart. -/
theorem present_frame_of {bs cs : List Block} {s u : State} (h : KeptBut bs s u) (hp : u.trip.page = s.trip.page)
    (hw : u.warningPage = s.warningPage) (hs : u.service.selected = s.service.selected)
    (hc : bs ⊆ cs := by decide) (hd : [Block.display] ⊆ cs := by decide) : KeptBut cs s (State.present s u) := by
  unfold State.present
  rw [refreshHolds_same hp hw hs]
  exact (h.mono hc).trans ((refreshDisplay_kept s u).mono hd)

/-- A command outside the pages, the arbiter and the service unit leaves every hold. -/
theorem present_frame {bs cs : List Block} {s u : State} (h : KeptBut bs s u)
    (hb : ∀ b ∈ [Block.trip, .arbiter, .service], b ∉ bs := by decide)
    (hc : bs ⊆ cs := by decide) (hd : [Block.display] ⊆ cs := by decide) : KeptBut cs s (State.present s u) :=
  present_frame_of h (by rw [h.trip (hb _ (by decide))]) (warningPage_congr (h.arbiter (hb _ (by decide))))
    (by rw [h.service (hb _ (by decide))]) hc hd

/-- A command's answer keeps what its frame keeps, keys and display apart. -/
theorem present_frame_keys {bs : List Block} {s u : State} (h : KeptBut bs s u) :
    KeptBut (.keys :: .display :: bs) s (State.present s u) :=
  (h.mono (by simp)).trans ((present_kept s u).mono (by simp))

/-! ### Blocks that no command of a kind changes -/

theorem blocks_pending (c : Instr) : Block.pending ∉ c.blocks := by cases c <;> simp [Instr.blocks]
theorem blocks_ignition (c : Instr) (h : c.movesIgnition = false) : Block.ignition ∉ c.blocks := by
  cases c <;> first | (simp [Instr.blocks]; done) | simp [Instr.movesIgnition] at h
theorem blocks_cal (c : Instr) (h : c.movesIgnition = false) : Block.cal ∉ c.blocks := by
  cases c <;> first | (simp [Instr.blocks]; done) | simp [Instr.movesIgnition] at h
theorem blocks_display (c : Instr) (h : c.movesIgnition = false) (k : c.drivesDisplay = false) :
    Block.display ∉ c.blocks := by
  cases c <;> first | (simp [Instr.blocks]; done) | (simp [Instr.movesIgnition] at h; done) | simp [Instr.drivesDisplay] at k
theorem blocks_keys (c : Instr) (h : c.movesIgnition = false) (k : c.handlesKeys = false) : Block.keys ∉ c.blocks := by
  cases c <;> first | (simp [Instr.blocks]; done) | (simp [Instr.movesIgnition] at h; done) | simp [Instr.handlesKeys] at k

/-- A frame with its blocks spelled out. -/
theorem inside {bs : List Block} {s u : State} (h : KeptBut bs s u) : KeptBut bs s u := h

/-- Every command takes the part to a state inside its frame, and answers what `present` makes of it. -/
theorem command_frame (c : Instr) (s : State) :
    ∃ u, exec c s = .next (State.present s u) ∧ KeptBut c.blocks s u := by
  cases c with
  | powerOnReset => exact ⟨_, rfl, inside (bs := loadBlocks) (powerOn_kept s)⟩
  | speedPulse e => exact ⟨_, rfl, inside (bs := stepBlocks) (KeptBut.ite (((setCounting_kept _ _).andThen (cs := stepBlocks) (acceptPulse_kept _)).trans ((settleStore_kept _).mono (by decide))) ((setCounting_kept _ _).mono (by decide)))⟩
  | halfSecondWindowClosure => exact ⟨_, rfl, inside (bs := [.counting, .arith]) (KeptBut.ite (closeWindow_kept _) (KeptBut.refl _ _))⟩
  | oneSecondTimer => exact ⟨_, rfl, inside (bs := .freeIndex :: .arith :: stepBlocks) (oneSecond_kept s)⟩
  | keyPress k => exact ⟨_, rfl, inside (bs := pressBlocks) ((pressKey_kept s k).andThen (settleStore_kept _))⟩
  | keyRelease k => exact ⟨_, rfl, inside (bs := [.keys, .trip, .service, .store]) (releaseKey_kept s k)⟩
  | clockSetHold => exact ⟨_, rfl, inside (bs := [.keys, .counting]) (clockSetMark_kept s)⟩
  | keyIdleTimerExpiry => exact ⟨_, rfl, inside (bs := [.counting]) (KeptBut.ite (setCounting_kept _ _) (KeptBut.refl _ _))⟩
  | tripResetHold => exact ⟨_, rfl, inside (bs := [.keys, .store, .freeIndex]) (tripResetMark_kept s)⟩
  | serviceStepHold => exact ⟨_, rfl, inside (bs := .keys :: serviceBlocks) ((serviceStepMark_kept s).andThen (settleStore_kept _))⟩
  | serviceResetHold => exact ⟨_, rfl, inside (bs := .keys :: serviceBlocks) ((serviceResetMark_kept s).andThen (settleStore_kept _))⟩
  | operationComplete => exact ⟨_, rfl, inside (bs := [.gauges, .counting, .arith, .trip, .store, .freeIndex]) (complete_kept s)⟩
  | freshnessTick => exact ⟨_, rfl, inside (bs := topicBlocks) (KeptBut.ite (freshness_kept _) (KeptBut.refl _ _))⟩
  | turnSignalCountTimeout => exact ⟨_, rfl, inside (bs := [.counting]) (KeptBut.ite (setCounting_kept _ _) (KeptBut.refl _ _))⟩
  | initQuietReached => exact ⟨_, rfl, inside (bs := [.line]) (setLine_kept _ _)⟩
  | accessWaitReached => exact ⟨_, rfl, inside (bs := [.line]) (KeptBut.ite (setLine_kept _ _) (KeptBut.refl _ _))⟩
  | clash b => exact ⟨_, rfl, inside (bs := ignitionBlocks) ((clash_kept s b).andThen (holdupExit_kept _))⟩
  | messageSent => exact ⟨_, rfl, inside (bs := ignitionBlocks) ((messageSent_kept s).andThen (holdupExit_kept _))⟩
  | breakRecognised => exact ⟨_, rfl, inside (bs := ignitionBlocks) (KeptBut.ite ((clash_kept _ _).andThen (holdupExit_kept _)) ((setLine_kept _ _).mono (by decide)))⟩
  | breakEnd b => exact ⟨_, rfl, inside (bs := [.line]) (setLine_kept _ _)⟩
  | lineStuck => exact ⟨_, rfl, inside (bs := [.line]) (setLine_kept _ _)⟩
  | lineReleased => exact ⟨_, rfl, inside (bs := [.line]) (setLine_kept _ _)⟩
  | endGap bs f => exact ⟨_, rfl, inside (bs := messageBlocks) (endGap_kept s bs f)⟩
  | silenceTimerExpiry => exact ⟨_, rfl, inside (bs := [.line]) (KeptBut.ite (setLine_kept _ _) (KeptBut.refl _ _))⟩
  | rate40hExpiry => exact ⟨_, rfl, inside (bs := [.line, .handler]) (KeptBut.ite ((setLine_kept _ _).andThen (queueSpeed_kept _)) (KeptBut.refl _ _))⟩
  | rate41hExpiry => exact ⟨_, rfl, inside (bs := [.line, .handler]) (KeptBut.ite ((setLine_kept _ _).andThen (queueOdometer_kept _)) (KeptBut.refl _ _))⟩
  | gaugeUpdate => exact ⟨_, rfl, inside (bs := [.gauges, .arith]) (KeptBut.ite ((setGauges_kept _ _).andThen (updateGauges_kept _)) (KeptBut.refl _ _))⟩
  | parkCountExpiry g => exact ⟨_, rfl, inside (bs := [.gauges]) (KeptBut.ite (modifyGauge_kept _ _ _) (KeptBut.refl _ _))⟩
  | sweepTick => exact ⟨_, rfl, inside (bs := [.gauges, .line, .handler]) (sweepStep_kept s)⟩
  | sweepEnd => exact ⟨_, rfl, inside (bs := [.gauges, .line, .handler]) (KeptBut.ite (endSweep_kept _) (KeptBut.refl _ _))⟩
  | evaluation => exact ⟨_, rfl, inside (bs := .rules :: arbiterBlocks) (KeptBut.ite ((setRules_kept _ _).andThen (evaluateRules_kept _)) (KeptBut.refl _ _))⟩
  | arbiterTick => exact ⟨_, rfl, inside (bs := arbiterBlocks) (KeptBut.ite ((setArbiter_kept _ _).andThen (arbiterTicked_kept _)) (KeptBut.refl _ _))⟩
  | shownTimerExpiry => exact ⟨_, rfl, inside (bs := arbiterBlocks) (shownExpiry_kept s)⟩
  | reminderTimerExpiry w => exact ⟨_, rfl, inside (bs := arbiterBlocks) (arbiterEvent_kept s ((modifyWarning_kept _ _ _).mono (by decide)))⟩
  | reviewTimerExpiry => exact ⟨_, rfl, inside (bs := [.arbiter]) (setArbiter_kept _ _)⟩
  | rate43hExpiry => exact ⟨_, rfl, inside (bs := arbiterBlocks) (KeptBut.ite ((setArbiter_kept _ _).andThen (queueSummary_kept _)) (KeptBut.refl _ _))⟩
  | patternComplete w => exact ⟨_, rfl, inside (bs := arbiterBlocks) (patternDone_kept s w)⟩
  | serviceEdgeRequest w => exact ⟨_, rfl, inside (bs := arbiterBlocks) (edgeRequest_kept _ _)⟩
  | cadenceExpiry => exact ⟨_, rfl, inside (bs := .freeIndex :: arbiterBlocks) (cadence_kept s)⟩
  | clickTimerExpiry => exact ⟨_, rfl, inside (bs := [.sound]) (setSound_kept _ _)⟩
  | tickTimerExpiry => exact ⟨_, rfl, inside (bs := [.sound]) (setSound_kept _ _)⟩
  | flashCounterExpiry => exact ⟨_, rfl, inside (bs := [.sound]) (KeptBut.ite (setSound_kept _ _) (KeptBut.refl _ _))⟩
  | bulbCheckExpiry => exact ⟨_, rfl, inside (bs := [.sound]) (setSound_kept _ _)⟩
  | displayTimerExpiry => exact ⟨_, rfl, inside (bs := [.display]) (KeptBut.ite ((setDisplay_kept _ _).andThen (requestSend_kept _)) (KeptBut.refl _ _))⟩
  | displayTransferEnd => exact ⟨_, rfl, inside (bs := [.display]) (endTransfer_kept s)⟩
  | blockReadEnd => exact ⟨_, rfl, inside (bs := loadBlocks) (readEnd_kept s)⟩
  | blockWriteReady => exact ⟨_, rfl, inside (bs := ignitionBlocks) (writeDone_kept s)⟩
  | blockWriteTimeout => exact ⟨_, rfl, inside (bs := [.store, .line, .handler, .freeIndex]) (writeTimedOut_kept s)⟩
  | pwrGoodFall => exact ⟨_, rfl, inside (bs := [.store, .line, .handler, .freeIndex]) (pwrFall_kept s)⟩
  | pwrGoodRise => exact ⟨_, rfl, inside (bs := [.store, .line, .handler]) (pwrRise_kept s)⟩
  | keyPositionChange a r => exact ⟨_, rfl, inside (bs := ignitionBlocks) (keyPosition_kept s a r)⟩
  | wakeInputChange b => exact ⟨_, rfl, inside (bs := ignitionBlocks) (wakeInput_kept s b)⟩
  | watchTimerExpiry => exact ⟨_, rfl, inside (bs := ignitionBlocks) (watchExpired_kept s)⟩
  | holdupTimerExpiry => exact ⟨_, rfl, inside (bs := ignitionBlocks) (holdupExpired_kept s)⟩
  | readBytes b o => exact ⟨_, rfl, inside (bs := workshopBlocks) (workshopRequest_kept s _ _)⟩
  | writeBytes b o d => exact ⟨_, rfl, inside (bs := workshopBlocks) (workshopRequest_kept s _ _)⟩
  | fetch b => exact ⟨_, rfl, inside (bs := workshopBlocks) (workshopRequest_kept s _ _)⟩
  | fetchAndPin b => exact ⟨_, rfl, inside (bs := workshopBlocks) (workshopRequest_kept s _ _)⟩
  | unpin b => exact ⟨_, rfl, inside (bs := workshopBlocks) (workshopRequest_kept s _ _)⟩
  | writeback b => exact ⟨_, rfl, inside (bs := workshopBlocks) (workshopRequest_kept s _ _)⟩
  | writebackInvalidate b => exact ⟨_, rfl, inside (bs := workshopBlocks) (workshopRequest_kept s _ _)⟩
  | invalidate b => exact ⟨_, rfl, inside (bs := workshopBlocks) (workshopRequest_kept s _ _)⟩
  | verify b => exact ⟨_, rfl, inside (bs := workshopBlocks) (workshopRequest_kept s _ _)⟩
  | indexWritebackInvalidate a b => exact ⟨_, rfl, inside (bs := workshopBlocks) (workshopRequest_kept s _ _)⟩
  | setOdometer v => exact ⟨_, rfl, inside (bs := workshopBlocks) (workshopRequest_kept s _ _)⟩
  | close => exact ⟨_, rfl, inside (bs := workshopBlocks) (workshopRequest_kept s _ _)⟩
  | serviceReset i => exact ⟨_, rfl, inside (bs := workshopBlocks) (workshopRequest_kept s _ _)⟩
  | acknowledgeWarning w => exact ⟨_, rfl, inside (bs := workshopBlocks) (workshopRequest_kept s _ _)⟩
  | readStatus a b => exact ⟨_, rfl, inside (bs := workshopBlocks) (workshopRequest_kept s _ _)⟩
  | gaugeTest => exact ⟨_, rfl, inside (bs := workshopBlocks) (workshopRequest_kept s _ _)⟩
  | lineDriven => exact ⟨_, rfl, inside (bs := [.line]) (setLine_kept _ _)⟩
  | lineReleasedAfterBreak => exact ⟨_, rfl, inside (bs := [.line]) (setLine_kept _ _)⟩

end Machine

end Sys2Proof
end

