-- ==== Sys2Proof/Laws/Memory.lean ====
section
/-! SUPPORT. The nonvolatile memory (R163): every operation keeps its canonical form, a read after a write to the same
address gives the byte written, and a write leaves every other address alone. -/

namespace Sys2Proof.Machine

set_option Elab.async false

/-- The byte that a list of cells gives for an address. -/
theorem NvMemory.read_cons (c : Host.Cell) (rest : List Host.Cell) (a : Nat) :
    NvMemory.read ⟨c :: rest⟩ a = if c.1 = a then c.2 else NvMemory.read ⟨rest⟩ a := by
  by_cases h : c.1 = a <;> simp [NvMemory.read, h]

@[simp] theorem NvMemory.read_nil (a : Nat) : NvMemory.read ⟨[]⟩ a = blankByte := rfl

/-- Cells whose addresses all lie above `a` leave it blank. -/
theorem read_of_rising {cells : List Host.Cell} {low a : Nat} (h : risingFrom low cells = true) (ha : a < low) :
    NvMemory.read ⟨cells⟩ a = blankByte := by
  induction cells generalizing low with
  | nil => rfl
  | cons c rest ih =>
    simp only [risingFrom, Bool.and_eq_true, decide_eq_true_eq] at h
    rw [NvMemory.read_cons, if_neg (by omega)]
    exact ih h.2 (by omega)

theorem risingFrom_mono {cells : List Host.Cell} {low low' : Nat} (h : risingFrom low cells = true) (hl : low' ≤ low) :
    risingFrom low' cells = true := by
  cases cells with
  | nil => rfl
  | cons c rest =>
    simp only [risingFrom, Bool.and_eq_true, decide_eq_true_eq] at h ⊢
    exact ⟨by omega, h.2⟩

theorem risingFrom_writeCells {cells : List Host.Cell} {low a : Nat} (v : Byte) (h : risingFrom low cells = true)
    (ha : low ≤ a) : risingFrom low (writeCells cells a v) = true := by
  induction cells generalizing low with
  | nil => by_cases hv : v = blankByte <;> simp [writeCells, risingFrom, hv, ha]
  | cons c rest ih =>
    have h' := h
    simp only [risingFrom, Bool.and_eq_true, decide_eq_true_eq] at h
    unfold writeCells
    split
    · simp only [risingFrom, Bool.and_eq_true, decide_eq_true_eq]; exact ⟨h.1, ih h.2 (by omega)⟩
    · split
      · split
        · exact risingFrom_mono h.2 (by omega)
        · simp only [risingFrom, Bool.and_eq_true, decide_eq_true_eq]
          exact ⟨ha, risingFrom_mono h.2 (by omega)⟩
      · split
        · exact h'
        · simp only [risingFrom, Bool.and_eq_true, decide_eq_true_eq]
          exact ⟨ha, by omega, h.2⟩

theorem mem_writeCells {cells : List Host.Cell} {a : Nat} {v : Byte} {c : Host.Cell} (h : c ∈ writeCells cells a v) :
    c ∈ cells ∨ (c = (a, v) ∧ v ≠ blankByte) := by
  induction cells with
  | nil => by_cases hv : v = blankByte <;> simp_all [writeCells]
  | cons d rest ih =>
    unfold writeCells at h
    split at h
    · rcases List.mem_cons.1 h with rfl | h
      · simp
      · rcases ih h with h | h <;> simp [h]
    · split at h
      · split at h <;> simp_all; tauto
      · split at h <;> simp_all; tauto

/-- A write keeps the canonical form. -/
theorem NvMemory.wf_write {m : NvMemory} (a : Nat) (v : Byte) (h : m.wf = true) : (m.write a v).wf = true := by
  simp only [NvMemory.wf, Bool.and_eq_true, List.all_eq_true] at h ⊢
  refine ⟨risingFrom_writeCells v h.1 (Nat.zero_le _), fun c hc => ?_⟩
  rcases mem_writeCells hc with hc | ⟨rfl, hv⟩
  · exact h.2 c hc
  · simpa using hv

/-- What an address reads as after a write. -/
theorem NvMemory.read_write {m : NvMemory} (a b : Nat) (v : Byte) (h : m.wf = true) :
    (m.write a v).read b = if b = a then v else m.read b := by
  obtain ⟨cells⟩ := m
  simp only [NvMemory.wf, Bool.and_eq_true] at h
  have hr := h.1
  clear h
  simp only [NvMemory.write]
  generalize 0 = low at hr
  induction cells generalizing low with
  | nil =>
    by_cases hv : v = blankByte
    · simp [writeCells, hv]
    · by_cases hb : b = a
      · simp [writeCells, hv, NvMemory.read_cons, hb]
      · simp [writeCells, hv, NvMemory.read_cons, hb, Ne.symm hb]
  | cons c rest ih =>
    simp only [risingFrom, Bool.and_eq_true, decide_eq_true_eq] at hr
    unfold writeCells
    split
    · simp only [NvMemory.read_cons, ih _ hr.2]; split_ifs <;> first | rfl | omega
    · have hrest : ∀ x ≤ c.1, NvMemory.read ⟨rest⟩ x = blankByte := fun x hx => read_of_rising hr.2 (by omega)
      split
      · split
        · by_cases hb : b = a
          · subst hb; simp_all
          · simp only [NvMemory.read_cons, if_neg hb]; rw [if_neg (by omega)]
        · simp only [NvMemory.read_cons]; split_ifs <;> first | rfl | omega
      · split
        · by_cases hb : b = a
          · subst hb; rw [if_pos rfl, NvMemory.read_cons, if_neg (by omega), hrest _ (by omega)]; simp_all
          · rw [if_neg hb]
        · simp only [NvMemory.read_cons]; split_ifs <;> first | rfl | omega

@[simp] theorem NvMemory.read_write_same {m : NvMemory} (a : Nat) (v : Byte) (h : m.wf = true) :
    (m.write a v).read a = v := by simp [NvMemory.read_write a a v h]

@[simp] theorem NvMemory.read_write_other {m : NvMemory} {a b : Nat} (v : Byte) (h : m.wf = true) (hb : b ≠ a) :
    (m.write a v).read b = m.read b := by simp [NvMemory.read_write a b v h, hb]

/-- Writing many bytes keeps the canonical form. -/
theorem NvMemory.wf_writeMany {m : NvMemory} (a : Nat) (vs : List Byte) (h : m.wf = true) :
    (m.writeMany a vs).wf = true := by
  induction vs generalizing m a with
  | nil => exact h
  | cons v vs ih => exact ih _ (NvMemory.wf_write a v h)

/-- What an address reads as after many bytes are written. -/
theorem NvMemory.read_writeMany {m : NvMemory} (a b : Nat) (vs : List Byte) (h : m.wf = true) :
    (m.writeMany a vs).read b = if a ≤ b ∧ b < a + vs.length then vs.getD (b - a) 0 else m.read b := by
  induction vs generalizing m a with
  | nil => simp [NvMemory.writeMany]
  | cons v vs ih =>
    rw [NvMemory.writeMany, ih _ (NvMemory.wf_write a v h), NvMemory.read_write _ _ _ h]
    by_cases hb : b = a
    · subst hb; simp
    · by_cases hlt : a < b
      · obtain ⟨d, rfl⟩ : ∃ d, b = a + 1 + d := ⟨b - (a + 1), by omega⟩
        have e1 : a + 1 + d - (a + 1) = d := by omega
        have e2 : a + 1 + d - a = d + 1 := by omega
        rw [e1, e2, if_neg hb]
        simp only [List.length_cons, List.getD_cons_succ]
        split_ifs <;> first | rfl | omega
      · rw [if_neg (by omega), if_neg hb, if_neg (by omega)]

/-- A block write keeps the canonical form. -/
theorem NvMemory.wf_writeBlock {m : NvMemory} (b : Nat) (data : List Byte) (h : m.wf = true) :
    (m.writeBlock b data).wf = true := NvMemory.wf_writeMany _ _ h

/-- A block left of unknown content keeps the canonical form. -/
theorem NvMemory.wf_scramble {m : NvMemory} (b k : Nat) (h : m.wf = true) : (m.scramble b k).wf = true :=
  NvMemory.wf_writeMany _ _ h

@[simp] theorem unknownBytes_length (k n : Nat) : (unknownBytes k n).length = n := by simp [unknownBytes]

/-- A block that an abandoned write spoils keeps the canonical form. -/
theorem NvMemory.wf_spoil {m : NvMemory} (b k : Nat) (h : m.wf = true) : (m.spoil b k).wf = true :=
  NvMemory.wf_writeMany _ _ h

/-- A block write leaves the addresses outside the block alone. -/
theorem NvMemory.read_writeBlock_other {m : NvMemory} {b a : Nat} {data : List Byte} (h : m.wf = true)
    (hd : data.length = 15) (ha : a < 16 * b ∨ 16 * b + 16 ≤ a) : (m.writeBlock b data).read a = m.read a := by
  rw [NvMemory.writeBlock, NvMemory.read_writeMany _ _ _ h, if_neg]
  simp [hd]; omega

/-- A block left of unknown content leaves the addresses outside it alone. -/
theorem NvMemory.read_scramble_other {m : NvMemory} {b k a : Nat} (h : m.wf = true)
    (ha : a < 16 * b ∨ 16 * b + 16 ≤ a) : (m.scramble b k).read a = m.read a := by
  rw [NvMemory.scramble, NvMemory.read_writeMany _ _ _ h, if_neg]
  simp; omega

/-- A block that an abandoned write spoils leaves the addresses outside it alone. -/
theorem NvMemory.read_spoil_other {m : NvMemory} {b k a : Nat} (h : m.wf = true)
    (ha : a < 16 * b ∨ 16 * b + 16 ≤ a) : (m.spoil b k).read a = m.read a := by
  rw [NvMemory.spoil, NvMemory.read_writeMany _ _ _ h, if_neg]
  simp; omega

/-- Data with a check byte that is bad for them have a sum other than 0 mod 256. -/
theorem byteSum_badCheck (bs : List Byte) (x : Byte) : byteSum (bs ++ [badCheckByte bs x]) ≠ 0 := by
  have hsum : byteSum (bs ++ [badCheckByte bs x]) = byteOf (x.toNat % 255 + 1) := by
    simp only [byteSum, List.foldl_append, List.foldl_cons, List.foldl_nil, badCheckByte, checkByteOf]
    bv_omega
  have hx : x.toNat % 255 < 255 := Nat.mod_lt _ (by decide)
  rw [hsum, byteOf, ne_eq, ← BitVec.toNat_inj]
  simp; omega

/-- A block that an abandoned write spoils reads back the unknown bytes, the check bad (R176). -/
theorem NvMemory.check_spoil {m : NvMemory} (b k : Nat) (h : m.wf = true) : checkGood ((m.spoil b k).block b) = false := by
  have hblock : (m.spoil b k).block b =
      unknownBytes k 15 ++ [badCheckByte (unknownBytes k 15) (Config.unknownByte (k + 15))] := by
    refine List.ext_getElem (by simp [NvMemory.block]) fun j h₁ h₂ => ?_
    simp only [NvMemory.block, List.getElem_map, List.getElem_range, NvMemory.spoil, NvMemory.read_writeMany _ _ _ h]
    rw [if_pos (by simp at h₂ ⊢; omega), List.getD_eq_getElem?_getD, Nat.add_sub_cancel_left,
      List.getElem?_eq_getElem h₂, Option.getD_some]
  rw [hblock, checkGood, beq_eq_false_iff_ne]
  exact byteSum_badCheck _ _

/-- The memory after a power-on reset keeps its canonical form. -/
theorem Store.nvAtReset_wf {st : Store} (k : Nat) (h : st.nv.wf = true) : (st.nvAtReset k).wf = true := by
  unfold Store.nvAtReset
  split
  · dsimp only
    split
    · exact NvMemory.wf_scramble _ _ h
    · exact NvMemory.wf_spoil _ _ h
  · exact h

/-- A power-on reset touches the block whose write was in progress alone. -/
theorem Store.nvAtReset_read_other {st : Store} {i : Nat} {snap : List Byte} {serves : WriteFor} {n k a : Nat}
    (hop : st.op = some (.write i snap serves n)) (h : st.nv.wf = true)
    (ha : a < 16 * st.blockOf i ∨ 16 * st.blockOf i + 16 ≤ a) : (st.nvAtReset k).read a = st.nv.read a := by
  simp only [Store.nvAtReset, hop]
  split
  · exact NvMemory.read_scramble_other h ha
  · exact NvMemory.read_spoil_other h ha

/-- A power-on reset leaves the check of an abandoned block bad (R176). -/
theorem Store.nvAtReset_check {st : Store} {i : Nat} {snap : List Byte} {serves : WriteFor} {n k : Nat}
    (hop : st.op = some (.write i snap serves n)) (h : st.nv.wf = true)
    (hbad : checkGood (st.nv.block (st.blockOf i)) = false) :
    checkGood ((st.nvAtReset k).block (st.blockOf i)) = false := by
  simp only [Store.nvAtReset, hop, hbad, Bool.false_eq_true, if_false]
  exact NvMemory.check_spoil _ _ h

/-- A block write puts the data at the block's first addresses. -/
theorem NvMemory.read_writeBlock {m : NvMemory} {b j : Nat} {data : List Byte} (h : m.wf = true)
    (hj : j < data.length) : (m.writeBlock b data).read (16 * b + j) = data.getD j 0 := by
  rw [NvMemory.writeBlock, NvMemory.read_writeMany _ _ _ h, if_pos (by simp; omega)]
  simp [List.getD_eq_getElem?_getD, List.getElem?_append_left hj]

/-- Reset's memory is in canonical form. -/
theorem State.reset_nv_wf : State.reset.store.nv.wf = true := rfl

end Sys2Proof.Machine
end

