-- ==== Sys2Proof/Laws/Messages.lean ====
section
/-! SUPPORT. What the part puts on its outputs, once for each: the bytes of a sent message (R47, R192), the bits of a display
record (R193), the level of SND (R137); and where an order goes that the store places (R172). -/

namespace Sys2Proof.Machine

set_option Elab.async false

theorem byteSum_append_one (bs : List Byte) (x : Byte) : byteSum (bs ++ [x]) = byteSum bs + x := by
  simp [byteSum]

/-- The check byte makes the sum 0 mod 256. -/
theorem byteSum_checked (bs : List Byte) : byteSum (bs ++ [checkByteOf bs]) = 0 := by
  rw [byteSum_append_one, checkByteOf]
  exact BitVec.add_right_neg _

theorem Msg.frameItems_length (n : Nat) (m : Msg) : (m.frameItems n).length = m.data.length + 3 := by
  simp [Msg.frameItems]

theorem Msg.frame_length (n : Nat) (m : Msg) : (m.frame n).length = m.data.length + 4 := by
  simp [Msg.frame, Msg.frameItems_length]

theorem Msg.frame_take (n : Nat) (m : Msg) : (m.frame n).take (m.data.length + 3) = m.frameItems n := by
  rw [Msg.frame, ← Msg.frameItems_length n m, List.take_left]

theorem serialBits_length (bs : List Byte) : (serialBits bs).length = 8 * bs.length := by
  induction bs with
  | nil => rfl
  | cons b bs ih => simp [serialBits] at ih ⊢; omega

theorem muxBits_length (b : Byte) : (muxBits b).length = 10 := by simp [muxBits]

theorem LineStation.sentBits_length (l : LineStation) : l.sentBits.length = 10 * l.sent.length := by
  simp [LineStation.sentBits, List.length_flatMap, muxBits_length, Nat.mul_comm]

theorem State.sndHigh_silent {s : State} (h : s.snd = none) (n : Nat) : s.sndHigh n = false := by simp [State.sndHigh, h]

theorem State.sndHigh_tone {s : State} {tone : Nat} {loud : Bool} (h : s.snd = some (tone, loud)) (n : Nat) :
    s.sndHigh n = decide ((s.sound.toneCycle + n) % (2 * toneHalfPeriod tone) < toneHigh tone loud) := by
  simp [State.sndHigh, h]

/-- An order placed joins the list, joins an order that waits, or waits behind those that came before it. -/
theorem Store.place_cases (st : Store) (o : Order) :
    (st.hasRoom = true ∧ st.waiting.any st.canGoOn = false ∧ st.place o = { st with orders := st.orders ++ [o] }) ∨
    (∃ k, st.waiting.findIdx? (Waiting.sameRequest o) = some k ∧
      st.place o = { st with waiting := st.waiting.modify k (Waiting.mergeWith o) }) ∨
    st.place o = { st with waiting := st.waiting ++ [.order o] } := by
  unfold Store.place
  split
  · next h => simp only [Bool.and_eq_true, Bool.not_eq_true'] at h; exact .inl ⟨h.1, h.2, rfl⟩
  · split
    · next k h => exact .inr (.inl ⟨k, h, rfl⟩)
    · exact .inr (.inr rfl)

end Sys2Proof.Machine
end

