-- ==== Sys2Proof/WellFormed.lean ====
section
/-! DEFINITION. Which commands are well formed: what the operand types do not already say. A command that is not well
formed still has a meaning (the handler answers it BAD REQUEST by R189, the station counts a reception error by R60). -/

namespace Sys2Proof

/-- A gathered message began with a start bit, so it has at least one byte (R48), and WRITE BYTES carries 1 to 4 bytes
(Table 12-4). Every other operand is bounded by its type. -/
def Instr.wellFormed : Instr → Bool
  | .endGap bytes _ => !bytes.isEmpty
  | .writeBytes _ _ data => decide (1 ≤ data.length) && decide (data.length ≤ 4)
  | _ => true

end Sys2Proof
end

