-- ==== Sys2Proof/Laws/PerInstr.lean ====
section
/-! SUPPORT. What well-formedness gives of each command as syntax: a workshop request has a topic of 60h to 6Fh and fits
the eight data bytes of a message (Table 12-4), and a gathered message has a byte (R48). -/

namespace Sys2Proof.Laws.WellFormedBytes

set_option Elab.async false

open Sys2Proof

/-- A well-formed workshop request fits a message, and a well-formed gathered message is not empty. -/
def Statement (i : Instr) : Prop :=
  i.wellFormed = true →
    (∀ topic data, i.request = some (topic, data) → 0x60 ≤ topic ∧ topic ≤ 0x6F ∧ data.length ≤ 8) ∧
    (∀ bytes err, i = .endGap bytes err → bytes ≠ [])

/-- A command that is neither a workshop request nor a gathered message. -/
theorem of_none {i : Instr} (h : i.request = none) (h' : ∀ bytes err, i ≠ .endGap bytes err) : Statement i :=
  fun _ => ⟨fun _ _ e => (by rw [h] at e; cases e), fun _ _ e => absurd e (h' _ _)⟩

/-- A workshop request. -/
theorem of_request {i : Instr} {topic : Nat} {data : List Byte} (h : i.request = some (topic, data))
    (h' : ∀ bytes err, i ≠ .endGap bytes err) (ht : 0x60 ≤ topic ∧ topic ≤ 0x6F)
    (hd : i.wellFormed = true → data.length ≤ 8) : Statement i :=
  fun w => ⟨fun _ _ e => (by rw [h] at e; cases e; exact ⟨ht.1, ht.2, hd w⟩), fun _ _ e => absurd e (h' _ _)⟩

theorem powerOnReset : Statement .powerOnReset := of_none rfl nofun

theorem speedPulse (elapsed : Nat) : Statement (.speedPulse elapsed) := of_none rfl nofun

theorem halfSecondWindowClosure : Statement .halfSecondWindowClosure := of_none rfl nofun

theorem oneSecondTimer : Statement .oneSecondTimer := of_none rfl nofun

theorem keyPress (k : Key) : Statement (.keyPress k) := of_none rfl nofun

theorem keyRelease (k : Key) : Statement (.keyRelease k) := of_none rfl nofun

theorem clockSetHold : Statement .clockSetHold := of_none rfl nofun

theorem keyIdleTimerExpiry : Statement .keyIdleTimerExpiry := of_none rfl nofun

theorem tripResetHold : Statement .tripResetHold := of_none rfl nofun

theorem serviceStepHold : Statement .serviceStepHold := of_none rfl nofun

theorem serviceResetHold : Statement .serviceResetHold := of_none rfl nofun

theorem operationComplete : Statement .operationComplete := of_none rfl nofun

theorem freshnessTick : Statement .freshnessTick := of_none rfl nofun

theorem turnSignalCountTimeout : Statement .turnSignalCountTimeout := of_none rfl nofun

theorem initQuietReached : Statement .initQuietReached := of_none rfl nofun

theorem accessWaitReached : Statement .accessWaitReached := of_none rfl nofun

theorem clash (breakFirst : Bool) : Statement (.clash breakFirst) := of_none rfl nofun

theorem messageSent : Statement .messageSent := of_none rfl nofun

theorem breakRecognised : Statement .breakRecognised := of_none rfl nofun

theorem breakEnd (stillDriven : Bool) : Statement (.breakEnd stillDriven) := of_none rfl nofun

theorem lineStuck : Statement .lineStuck := of_none rfl nofun

theorem lineReleased : Statement .lineReleased := of_none rfl nofun

theorem endGap (bytes : List Byte) (framingError : Bool) : Statement (.endGap bytes framingError) := by
  intro w; refine ⟨nofun, ?_⟩
  rintro _ _ ⟨⟩ rfl; cases w

theorem silenceTimerExpiry : Statement .silenceTimerExpiry := of_none rfl nofun

theorem rate40hExpiry : Statement .rate40hExpiry := of_none rfl nofun

theorem rate41hExpiry : Statement .rate41hExpiry := of_none rfl nofun

theorem gaugeUpdate : Statement .gaugeUpdate := of_none rfl nofun

theorem parkCountExpiry (gauge : Fin 6) : Statement (.parkCountExpiry gauge) := of_none rfl nofun

theorem sweepTick : Statement .sweepTick := of_none rfl nofun

theorem sweepEnd : Statement .sweepEnd := of_none rfl nofun

theorem evaluation : Statement .evaluation := of_none rfl nofun

theorem arbiterTick : Statement .arbiterTick := of_none rfl nofun

theorem shownTimerExpiry : Statement .shownTimerExpiry := of_none rfl nofun

theorem reminderTimerExpiry (warning : Fin 32) : Statement (.reminderTimerExpiry warning) := of_none rfl nofun

theorem reviewTimerExpiry : Statement .reviewTimerExpiry := of_none rfl nofun

theorem rate43hExpiry : Statement .rate43hExpiry := of_none rfl nofun

theorem patternComplete (warning : Fin 32) : Statement (.patternComplete warning) := of_none rfl nofun

theorem serviceEdgeRequest (which : ServiceWarning) : Statement (.serviceEdgeRequest which) := of_none rfl nofun

theorem cadenceExpiry : Statement .cadenceExpiry := of_none rfl nofun

theorem clickTimerExpiry : Statement .clickTimerExpiry := of_none rfl nofun

theorem tickTimerExpiry : Statement .tickTimerExpiry := of_none rfl nofun

theorem flashCounterExpiry : Statement .flashCounterExpiry := of_none rfl nofun

theorem bulbCheckExpiry : Statement .bulbCheckExpiry := of_none rfl nofun

theorem displayTimerExpiry : Statement .displayTimerExpiry := of_none rfl nofun

theorem displayTransferEnd : Statement .displayTransferEnd := of_none rfl nofun

theorem blockReadEnd : Statement .blockReadEnd := of_none rfl nofun

theorem blockWriteReady : Statement .blockWriteReady := of_none rfl nofun

theorem blockWriteTimeout : Statement .blockWriteTimeout := of_none rfl nofun

theorem pwrGoodFall : Statement .pwrGoodFall := of_none rfl nofun

theorem pwrGoodRise : Statement .pwrGoodRise := of_none rfl nofun

theorem keyPositionChange (acc run : Bool) : Statement (.keyPositionChange acc run) := of_none rfl nofun

theorem wakeInputChange (high : Bool) : Statement (.wakeInputChange high) := of_none rfl nofun

theorem watchTimerExpiry : Statement .watchTimerExpiry := of_none rfl nofun

theorem holdupTimerExpiry : Statement .holdupTimerExpiry := of_none rfl nofun

theorem readBytes (block offset : Byte) : Statement (.readBytes block offset) :=
  of_request rfl nofun (by decide) fun _ => Nat.le_of_ble_eq_true rfl

theorem writeBytes (block offset : Byte) (data : List Byte) : Statement (.writeBytes block offset data) :=
  of_request rfl nofun (by decide) fun w => by
    have := (of_decide_eq_true (Bool.and_eq_true _ _ ▸ w).2 : data.length ≤ 4)
    simp only [List.length_cons]; omega

theorem fetch (block : Byte) : Statement (.fetch block) :=
  of_request rfl nofun (by decide) fun _ => Nat.le_of_ble_eq_true rfl

theorem fetchAndPin (block : Byte) : Statement (.fetchAndPin block) :=
  of_request rfl nofun (by decide) fun _ => Nat.le_of_ble_eq_true rfl

theorem unpin (block : Byte) : Statement (.unpin block) :=
  of_request rfl nofun (by decide) fun _ => Nat.le_of_ble_eq_true rfl

theorem writeback (block : Byte) : Statement (.writeback block) :=
  of_request rfl nofun (by decide) fun _ => Nat.le_of_ble_eq_true rfl

theorem writebackInvalidate (block : Byte) : Statement (.writebackInvalidate block) :=
  of_request rfl nofun (by decide) fun _ => Nat.le_of_ble_eq_true rfl

theorem invalidate (block : Byte) : Statement (.invalidate block) :=
  of_request rfl nofun (by decide) fun _ => Nat.le_of_ble_eq_true rfl

theorem verify (block : Byte) : Statement (.verify block) :=
  of_request rfl nofun (by decide) fun _ => Nat.le_of_ble_eq_true rfl

theorem indexWritebackInvalidate (set way : Byte) : Statement (.indexWritebackInvalidate set way) :=
  of_request rfl nofun (by decide) fun _ => Nat.le_of_ble_eq_true rfl

theorem setOdometer (value : BitVec 24) : Statement (.setOdometer value) :=
  of_request rfl nofun (by decide) fun _ => Nat.le_of_ble_eq_true rfl

theorem close : Statement .close :=
  of_request rfl nofun (by decide) fun _ => Nat.le_of_ble_eq_true rfl

theorem serviceReset (item : Byte) : Statement (.serviceReset item) :=
  of_request rfl nofun (by decide) fun _ => Nat.le_of_ble_eq_true rfl

theorem acknowledgeWarning (warning : Byte) : Statement (.acknowledgeWarning warning) :=
  of_request rfl nofun (by decide) fun _ => Nat.le_of_ble_eq_true rfl

theorem readStatus (selector index : Byte) : Statement (.readStatus selector index) :=
  of_request rfl nofun (by decide) fun _ => Nat.le_of_ble_eq_true rfl

theorem gaugeTest : Statement .gaugeTest :=
  of_request rfl nofun (by decide) fun _ => Nat.le_of_ble_eq_true rfl

theorem lineDriven : Statement .lineDriven := of_none rfl nofun

theorem lineReleasedAfterBreak : Statement .lineReleasedAfterBreak := of_none rfl nofun

end Sys2Proof.Laws.WellFormedBytes
end

