-- ==== Sys2Proof/Laws/StoreReads.lean ====
section
/-! SUPPORT. What an UPDATE and the other changes of one cache line give when the lines are read back: a read of the updated
block gives the new bytes, a read of every other block gives what it gave before (R164, R168). -/

namespace Sys2Proof.Machine

set_option Elab.async false

/-! ### Bytes -/

theorem byteAt_splice_of_lt {bs new : List Byte} {o i : Nat} (h : i < o) (ho : o ≤ bs.length) :
    byteAt (splice bs o new) i = byteAt bs i := by
  unfold byteAt splice
  rw [List.getD_eq_getElem?_getD, List.getD_eq_getElem?_getD, List.append_assoc,
    List.getElem?_append_left (by simp; omega), List.getElem?_take_of_lt h]

theorem byteAt_splice_of_ge {bs new : List Byte} {o i : Nat} (h : o + new.length ≤ i) (ho : o ≤ bs.length) :
    byteAt (splice bs o new) i = byteAt bs i := by
  unfold byteAt splice
  rw [List.getD_eq_getElem?_getD, List.getD_eq_getElem?_getD,
    List.getElem?_append_right (by simp; omega), List.getElem?_drop]
  congr 3
  simp
  omega

theorem byteAt_splice_of_mem {bs new : List Byte} {o i : Nat} (h : o ≤ i) (hi : i < o + new.length)
    (ho : o ≤ bs.length) : byteAt (splice bs o new) i = byteAt new (i - o) := by
  unfold byteAt splice
  rw [List.getD_eq_getElem?_getD, List.getD_eq_getElem?_getD, List.append_assoc,
    List.getElem?_append_right (by simp; omega), List.getElem?_append_left (by simp; omega)]
  congr 3
  simp
  omega

theorem splice_length {bs new : List Byte} {o : Nat} (h : o + new.length ≤ bs.length) :
    (splice bs o new).length = bs.length := by
  simp [splice]; omega

@[simp] theorem bytes2_length (n : Nat) : (bytes2 n).length = 2 := rfl
@[simp] theorem bytes3_length (n : Nat) : (bytes3 n).length = 3 := rfl
@[simp] theorem signedBytes2_length (n : Int) : (signedBytes2 n).length = 2 := rfl

theorem wordAt_bytes2 {n : Nat} (h : n < 65536) : wordAt (bytes2 n) 0 = n := by
  simp [wordAt, byteAt, bytes2, byteOf]; omega

theorem tripleAt_bytes3 {n : Nat} (h : n < 16777216) : tripleAt (bytes3 n) 0 = n := by
  simp [tripleAt, wordAt, byteAt, bytes3, byteOf]; omega

theorem tripleAt_lt (bs : List Byte) (i : Nat) : tripleAt bs i < 16777216 := by
  unfold tripleAt wordAt byteAt
  have := (bs.getD i 0).isLt; have := (bs.getD (i + 1) 0).isLt; have := (bs.getD (i + 1 + 1) 0).isLt
  omega

/-- A three-byte field read where it has been put. -/
theorem tripleAt_splice_same {bs : List Byte} {o n : Nat} (h : n < 16777216) (ho : o ≤ bs.length) :
    tripleAt (splice bs o (bytes3 n)) o = n := by
  have e := tripleAt_bytes3 h
  unfold tripleAt wordAt at *
  rw [byteAt_splice_of_mem (by omega) (by simp) ho, byteAt_splice_of_mem (by omega) (by simp) ho,
    byteAt_splice_of_mem (by omega) (by simp) ho]
  simpa [Nat.add_assoc] using e

/-- A three-byte field read away from what has been put. -/
theorem tripleAt_splice_apart {bs new : List Byte} {o i : Nat} (h : i + 3 ≤ o ∨ o + new.length ≤ i)
    (ho : o ≤ bs.length) : tripleAt (splice bs o new) i = tripleAt bs i := by
  unfold tripleAt wordAt
  rcases h with h | h
  · rw [byteAt_splice_of_lt (by omega) ho, byteAt_splice_of_lt (by omega) ho, byteAt_splice_of_lt (by omega) ho]
  · rw [byteAt_splice_of_ge (by omega) ho, byteAt_splice_of_ge (by omega) ho, byteAt_splice_of_ge (by omega) ho]

/-- A two-byte field read away from what has been put. -/
theorem wordAt_splice_apart {bs new : List Byte} {o i : Nat} (h : i + 2 ≤ o ∨ o + new.length ≤ i)
    (ho : o ≤ bs.length) : wordAt (splice bs o new) i = wordAt bs i := by
  unfold wordAt
  rcases h with h | h
  · rw [byteAt_splice_of_lt (by omega) ho, byteAt_splice_of_lt (by omega) ho]
  · rw [byteAt_splice_of_ge (by omega) ho, byteAt_splice_of_ge (by omega) ho]

/-- A signed two-byte field read where it has been put. -/
theorem signedWordAt_splice_same {bs : List Byte} {o : Nat} {x : Int} (h : -32768 ≤ x) (h' : x ≤ 32767)
    (ho : o ≤ bs.length) : signedWordAt (splice bs o (signedBytes2 x)) o = x := by
  unfold signedWordAt wordAt signedBytes2
  rw [byteAt_splice_of_mem (by omega) (by simp) ho, byteAt_splice_of_mem (by omega) (by simp) ho]
  simp only [byteAt, bytes2, byteOf, signedOf, wrapSigned, Nat.sub_self, Nat.add_sub_cancel_left]
  simp
  split <;> omega

/-- A signed two-byte field read away from what has been put. -/
theorem signedWordAt_splice_apart {bs new : List Byte} {o i : Nat} (h : i + 2 ≤ o ∨ o + new.length ≤ i)
    (ho : o ≤ bs.length) : signedWordAt (splice bs o new) i = signedWordAt bs i := by
  unfold signedWordAt; rw [wordAt_splice_apart h ho]

/-! ### Lines -/

theorem findIdx?_modify {α : Type} (p : α → Bool) (f : α → α) (h : ∀ a, p (f a) = p a) (l : List α) (i : Nat) :
    (l.modify i f).findIdx? p = l.findIdx? p := by
  induction l generalizing i with
  | nil => cases i <;> rfl
  | cons a l ih =>
    cases i with
    | zero => simp [List.findIdx?_cons, h]
    | succ i => simp [List.findIdx?_cons, ih]

theorem modifyLine_line (st : Store) (i j : Nat) (f : CacheLine → CacheLine) (h : i < st.lines.length) :
    (st.modifyLine i f).line j = if i = j then f (st.line j) else st.line j := by
  unfold Store.line Store.modifyLine
  simp only [List.getD_eq_getElem?_getD, List.getElem?_modify]
  by_cases e : i = j
  · subst e; simp [h]
  · simp [e]

/-- A change of a line that keeps what it holds. -/
def KeepsHold (f : CacheLine → CacheLine) : Prop :=
  ∀ l, (f l).tag = l.tag ∧ ((f l).state == .invalid) = (l.state == .invalid) ∧ (f l).state.isPresent = l.state.isPresent

theorem KeepsHold.holds {f : CacheLine → CacheLine} (h : KeepsHold f) (b : Nat) (l : CacheLine) :
    (f l).holds b = l.holds b := by
  obtain ⟨h1, h2, _⟩ := h l
  simp only [CacheLine.holds, h1, bne, h2]

theorem keepsHold_recent (x : Bool) : KeepsHold fun l => { l with recent := x } := fun _ => ⟨rfl, rfl, rfl⟩

theorem keepsHold_updated (f : List Byte → List Byte) : KeepsHold (CacheLine.updated f) := fun l => by
  unfold CacheLine.updated
  split <;> simp_all [LineState.isPresent]

theorem find_modifyLine {f : CacheLine → CacheLine} (h : KeepsHold f) (st : Store) (i b : Nat) :
    (st.modifyLine i f).find b = st.find b := findIdx?_modify _ _ (h.holds b) _ _

theorem line_lt_of_find {st : Store} {b i : Nat} (h : st.find b = some i) : i < st.lines.length := by
  unfold Store.find at h
  exact (List.findIdx?_eq_some_iff_getElem.1 h).1

theorem line_of_find {st : Store} {b i : Nat} (h : st.find b = some i) :
    (st.line i).tag = some b ∧ (st.line i).state ≠ .invalid := by
  unfold Store.find at h
  obtain ⟨hi, hp, _⟩ := List.findIdx?_eq_some_iff_getElem.1 h
  simpa [Store.line, List.getD_eq_getElem?_getD, hi, CacheLine.holds] using hp

theorem presentLine_eq_some {st : Store} {b i : Nat} :
    st.presentLine b = some i ↔ st.find b = some i ∧ (st.line i).state.isPresent = true := by
  unfold Store.presentLine
  cases st.find b with
  | none => simp
  | some j =>
    by_cases e : (st.line j).state.isPresent <;> simp [e]
    · rintro rfl; exact e
    · rintro rfl; simpa using e

theorem find_isSome_of_line {st : Store} {b j : Nat} (ht : (st.line j).tag = some b) (hs : (st.line j).state ≠ .invalid) :
    ∃ i ≤ j, st.find b = some i := by
  have hj : j < st.lines.length := by
    by_contra h
    simp [Store.line, List.getD_eq_getElem?_getD, List.getElem?_eq_none (Nat.le_of_not_lt h), CacheLine.invalid] at ht
  have hp : CacheLine.holds b st.lines[j] = true := by
    simpa [Store.line, List.getD_eq_getElem?_getD, hj, CacheLine.holds] using And.intro ht hs
  unfold Store.find
  cases h : st.lines.findIdx? (CacheLine.holds b) with
  | none => exact absurd hp (by simpa using List.findIdx?_eq_none_iff.1 h _ (List.getElem_mem hj))
  | some i =>
    refine ⟨i, ?_, rfl⟩
    obtain ⟨_, _, hlt⟩ := List.findIdx?_eq_some_iff_getElem.1 h
    by_contra hij
    exact absurd hp (hlt j (by omega))

/-- A block kept pinned is present, in a pinned line, and that line is the one that holds it. -/
theorem Store.KeepsPinned.isPinned {st : Store} {b : Nat} (h : st.KeepsPinned b) :
    st.isPinned b = true ∧ st.present b = true := by
  obtain ⟨⟨j, hj, ht, hp, hs, hk⟩, -⟩ := h
  obtain ⟨i, hi, hf⟩ := find_isSome_of_line ht (by rintro e; simp [e] at hs)
  have hij : i = j := by
    by_contra hne
    exact hk i (by omega) hne (line_of_find hf).1
  subst hij
  refine ⟨by simp [Store.isPinned, hf, hp], ?_⟩
  have hpres : (st.line i).state.isPresent = true := by
    simp only [List.mem_cons, List.not_mem_nil, or_false] at hs
    rcases hs with e | e | e <;> rw [e] <;> rfl
  rw [Store.present, presentLine_eq_some.2 ⟨hf, hpres⟩]; rfl

theorem line_modifyLine_isPresent {f : CacheLine → CacheLine} (h : KeepsHold f) (st : Store) (i j : Nat) :
    ((st.modifyLine i f).line j).state.isPresent = (st.line j).state.isPresent := by
  by_cases hi : i < st.lines.length
  · rw [modifyLine_line _ _ _ _ hi]; split
    · exact (h _).2.2
    · rfl
  · have e : (st.modifyLine i f).lines = st.lines := List.modify_eq_self (by omega)
    simp [Store.line, e]

theorem presentLine_modifyLine {f : CacheLine → CacheLine} (h : KeepsHold f) (st : Store) (i b : Nat) :
    (st.modifyLine i f).presentLine b = st.presentLine b := by
  unfold Store.presentLine
  rw [find_modifyLine h]
  cases st.find b with
  | none => rfl
  | some j => simp [line_modifyLine_isPresent h]

theorem presentLine_touch (st : Store) (i b : Nat) : (st.touch i).presentLine b = st.presentLine b := by
  unfold Store.touch
  rw [presentLine_modifyLine (keepsHold_recent false), presentLine_modifyLine (keepsHold_recent true)]

theorem find_touch (st : Store) (i b : Nat) : (st.touch i).find b = st.find b := by
  unfold Store.touch
  rw [find_modifyLine (keepsHold_recent false), find_modifyLine (keepsHold_recent true)]

theorem findIdx?_modify_at {α : Type} (p : α → Bool) (f : α → α) (l : List α) (i : Nat)
    (h : ∀ a, l[i]? = some a → p (f a) = p a) : (l.modify i f).findIdx? p = l.findIdx? p := by
  induction l generalizing i with
  | nil => cases i <;> rfl
  | cons a l ih =>
    cases i with
    | zero => simp [List.findIdx?_cons, h a rfl]
    | succ i => simp [List.findIdx?_cons, ih i h]

/-- A change of one line that keeps what that line holds keeps every block where it is. -/
theorem reads_modifyLine_at {st : Store} {i : Nat} {f : CacheLine → CacheLine} (hi : i < st.lines.length)
    (ht : (f (st.line i)).tag = (st.line i).tag)
    (hv : ((f (st.line i)).state == .invalid) = ((st.line i).state == .invalid))
    (hp : (f (st.line i)).state.isPresent = (st.line i).state.isPresent) (b : Nat) :
    (st.modifyLine i f).find b = st.find b ∧ (st.modifyLine i f).presentLine b = st.presentLine b := by
  have hfind : (st.modifyLine i f).find b = st.find b := by
    refine findIdx?_modify_at _ _ _ _ fun a ha => ?_
    have e : a = st.line i := by simp [Store.line, List.getD_eq_getElem?_getD, ha]
    subst e
    simp only [CacheLine.holds, ht, bne, hv]
  refine ⟨hfind, ?_⟩
  unfold Store.presentLine
  rw [hfind]
  cases st.find b with
  | none => rfl
  | some j =>
    simp only [modifyLine_line _ _ _ _ hi]
    by_cases e : i = j
    · subst e; simp [hp]
    · simp [e]

/-- Such a change that also keeps the line's data keeps the data of every block. -/
theorem dataOf_modifyLine_at {st : Store} {i : Nat} {f : CacheLine → CacheLine} (hi : i < st.lines.length)
    (ht : (f (st.line i)).tag = (st.line i).tag)
    (hv : ((f (st.line i)).state == .invalid) = ((st.line i).state == .invalid))
    (hp : (f (st.line i)).state.isPresent = (st.line i).state.isPresent)
    (hd : (f (st.line i)).data = (st.line i).data) (b : Nat) : (st.modifyLine i f).dataOf b = st.dataOf b := by
  unfold Store.dataOf
  rw [(reads_modifyLine_at hi ht hv hp b).2]
  cases st.presentLine b with
  | none => rfl
  | some j =>
    simp only [modifyLine_line _ _ _ _ hi]
    by_cases e : i = j
    · subst e; simp [hd]
    · simp [e]

theorem line_modifyLine_data (st : Store) (i j : Nat) (x : Bool) :
    ((st.modifyLine i fun l => { l with recent := x }).line j).data = (st.line j).data := by
  by_cases hi : i < st.lines.length
  · rw [modifyLine_line _ _ _ _ hi]; split <;> rfl
  · have e : (st.modifyLine i fun l => { l with recent := x }).lines = st.lines := List.modify_eq_self (by omega)
    simp [Store.line, e]

theorem line_touch_data (st : Store) (i j : Nat) : ((st.touch i).line j).data = (st.line j).data := by
  unfold Store.touch
  rw [line_modifyLine_data, line_modifyLine_data]

theorem dataOf_touch (st : Store) (i b : Nat) : (st.touch i).dataOf b = st.dataOf b := by
  unfold Store.dataOf
  rw [presentLine_touch]
  cases st.presentLine b with
  | none => rfl
  | some j => simp [line_touch_data]

theorem present_touch (st : Store) (i b : Nat) : (st.touch i).present b = st.present b := by
  unfold Store.present; rw [presentLine_touch]

/-! ### UPDATE (R168) -/

theorem presentLine_update (st : Store) (b : Nat) (f) (c : Nat) : (st.update b f).presentLine c = st.presentLine c := by
  unfold Store.update
  cases st.presentLine b with
  | none => rfl
  | some i =>
    show ((st.modifyLine i (CacheLine.updated f)).touch i).presentLine c = st.presentLine c
    rw [presentLine_touch, presentLine_modifyLine (keepsHold_updated f)]

theorem present_update (st : Store) (b : Nat) (f) (c : Nat) : (st.update b f).present c = st.present c := by
  unfold Store.present; rw [presentLine_update]

theorem updated_data (f : List Byte → List Byte) (l : CacheLine) : (CacheLine.updated f l).data = f l.data := by
  unfold CacheLine.updated; split <;> rfl

/-- An UPDATE of a present block gives its new bytes. -/
theorem dataOf_update_same {st : Store} {b : Nat} (f) (h : st.present b = true) :
    (st.update b f).dataOf b = f (st.dataOf b) := by
  obtain ⟨i, hi⟩ := Option.isSome_iff_exists.1 h
  have hl := line_lt_of_find (presentLine_eq_some.1 hi).1
  unfold Store.dataOf
  rw [presentLine_update, hi]
  unfold Store.update
  rw [hi]
  show (((st.modifyLine i (CacheLine.updated f)).touch i).line i).data = f (st.line i).data
  rw [line_touch_data, modifyLine_line _ _ _ _ hl, if_pos rfl, updated_data]

/-- An UPDATE leaves the bytes of every other block. -/
theorem dataOf_update_ne {st : Store} {b c : Nat} (f) (h : c ≠ b) : (st.update b f).dataOf c = st.dataOf c := by
  unfold Store.dataOf
  rw [presentLine_update]
  cases hc : st.presentLine c with
  | none => rfl
  | some j =>
    simp only
    unfold Store.update
    cases hb : st.presentLine b with
    | none => rfl
    | some i =>
      have hne : i ≠ j := by
        rintro rfl
        have h1 := (line_of_find (presentLine_eq_some.1 hb).1).1
        have h2 := (line_of_find (presentLine_eq_some.1 hc).1).1
        rw [h1] at h2
        exact h (Option.some.inj h2).symm
      have hl := line_lt_of_find (presentLine_eq_some.1 hb).1
      show (((st.modifyLine i (CacheLine.updated f)).touch i).line j).data = (st.line j).data
      rw [line_touch_data, modifyLine_line _ _ _ _ hl, if_neg hne]

theorem holds_update_ne {st : Store} {b c : Nat} (f) (h : c ≠ b) (k : st.Holds c) : (st.update b f).Holds c :=
  ⟨by rw [present_update]; exact k.1, by rw [dataOf_update_ne f h]; exact k.2⟩

theorem holds_update_same {st : Store} {b : Nat} {f} (k : st.Holds b) (h : ∀ l : List Byte, l.length = 15 → (f l).length = 15) :
    (st.update b f).Holds b :=
  ⟨by rw [present_update]; exact k.1, by rw [dataOf_update_same f k.1]; exact h _ k.2⟩

/-- An UPDATE changes cache lines alone. -/
theorem update_rest (st : Store) (b : Nat) (f) :
    (st.update b f).orders = st.orders ∧ (st.update b f).op = st.op ∧ (st.update b f).waiting = st.waiting ∧
      (st.update b f).task = st.task ∧ (st.update b f).consecutiveFailures = st.consecutiveFailures ∧
      (st.update b f).nvFailures = st.nvFailures ∧ (st.update b f).nvFault = st.nvFault ∧
      (st.update b f).latch = st.latch ∧ (st.update b f).pwrGood = st.pwrGood ∧ (st.update b f).nv = st.nv := by
  unfold Store.update
  cases st.presentLine b with
  | none => exact ⟨rfl, rfl, rfl, rfl, rfl, rfl, rfl, rfl, rfl, rfl⟩
  | some i => exact ⟨rfl, rfl, rfl, rfl, rfl, rfl, rfl, rfl, rfl, rfl⟩

theorem atRest_update {st : Store} (h : st.AtRest) (b f) : (st.update b f).AtRest := by
  obtain ⟨h1, h2, h3, h4⟩ := h
  obtain ⟨k1, k2, k3, k4, _⟩ := update_rest st b f
  exact ⟨k1.trans h1, k2.trans h2, k3.trans h3, k4.trans h4⟩

/-! ### The store goes on -/

/-- A settled store stays as it is. -/
theorem settle_settled {st : Store} (h : st.Settled) (n : Nat) : st.settle n = (st, none) := by
  cases n with
  | zero => rfl
  | succ n => simp [Store.settle, h.1, h.2.1, h.2.2]

/-- A store at rest is settled. -/
theorem settled_atRest {st : Store} (h : st.AtRest) : st.Settled := by
  obtain ⟨h1, h2, h3, h4⟩ := h
  refine ⟨by simp [Store.taskOne, h4], by simp [Store.admitOne, h3], ?_⟩
  have : st.selected = none := by simp [Store.selected, h1]
  simp [Store.engineOne, h2, this]

/-- A block write's start keeps what is present, and every block's data (R165, R174). -/
theorem startWrite_reads {st : Store} {b i : Nat} (hi : st.presentLine b = some i) (x : WriteFor) (c : Nat) :
    (st.startWrite i x).presentLine c = st.presentLine c ∧ (st.startWrite i x).dataOf c = st.dataOf c := by
  obtain ⟨hf, hp⟩ := presentLine_eq_some.1 hi
  have hl := line_lt_of_find hf
  have hv : ((LineState.writing : LineState) == .invalid) = ((st.line i).state == .invalid) := by
    cases e : (st.line i).state <;> simp_all [LineState.isPresent]
  exact ⟨(reads_modifyLine_at (f := fun l => { l with state := .writing, redirty := false }) hl rfl hv
      (by rw [hp]; rfl) c).2,
    dataOf_modifyLine_at (f := fun l => { l with state := .writing, redirty := false }) hl rfl hv
      (by rw [hp]; rfl) rfl c⟩

theorem setStore_self (s : State) : s.setStore s.store = s := rfl

theorem settleStore_settled {s : State} (h : s.store.Settled) : s.settleStore = s := by
  unfold State.settleStore; rw [settle_settled h]; rfl

end Sys2Proof.Machine
end

