-- ==== Sys2Proof/Laws/StoreOrders.lean ====
section
/-! SUPPORT. What one order at an otherwise resting store does, and which lines are DIRTY after an UPDATE (R165, R169,
R172, R173). -/

namespace Sys2Proof.Machine

set_option Elab.async false

theorem place_atRest {st : Store} (h : st.AtRest) (o : Order) : st.place o = { st with orders := [o] } := by
  obtain ⟨h1, _, h3, _⟩ := h
  simp [Store.place, Store.hasRoom, h1, h3, Config.orderListSize]

/-- one SINGLE order at an otherwise resting store whose line is DIRTY: the write starts -/
theorem settle_single {st : Store} {b i : Nat} {w : Bool} (ho : st.orders = [.single b w none]) (hop : st.op = none) (hw : st.waiting = [])
    (ht : st.task = .none) (hg : st.pwrGood = true) (hf : st.nvFault = false) (hi : st.find b = some i) (hd : (st.line i).state = .dirty) (n : Nat) :
    st.settle (n + 2) = (st.startWrite i .single, none) := by
  have hs : st.selected = some 0 := by
    simp [Store.selected, ho, List.range, List.range.loop, Order.rank, Store.canStart, hg]
  have hst : st.startOrder 0 = st.startWrite i .single := by
    simp [Store.startOrder, ho, Store.singleWrites, hf, hi, hd]
  have h1 : st.taskOne = none := by simp [Store.taskOne, ht]
  have h2 : st.admitOne = none := by simp [Store.admitOne, hw]
  have h3 : st.engineOne = some (st.startWrite i .single) := by simp [Store.engineOne, hop, hs, hst]
  have k1 : (st.startWrite i .single).taskOne = none := by simp [Store.taskOne, Store.startWrite, Store.modifyLine, ht]
  have k2 : (st.startWrite i .single).admitOne = none := by simp [Store.admitOne, Store.startWrite, Store.modifyLine, hw]
  have k3 : (st.startWrite i .single).engineOne = none := by simp [Store.engineOne, Store.startWrite]
  rw [show n + 2 = (n + 1) + 1 from rfl, Store.settle, h1, h2, h3]
  exact settle_settled ⟨k1, k2, k3⟩ _

/-- the same order where no write can start -/
theorem settle_single_stopped {st : Store} {b i : Nat} {w : Bool} (ho : st.orders = [.single b w none]) (hop : st.op = none) (hw : st.waiting = [])
    (ht : st.task = .none) (hg : st.pwrGood = false ∨ st.nvFault = true) (hi : st.find b = some i) (hd : (st.line i).state = .dirty) (n : Nat) :
    st.settle (n + 2) = ((if st.nvFault then { st with orders := [] } else st), none) := by
  have h1 : st.taskOne = none := by simp [Store.taskOne, ht]
  have h2 : st.admitOne = none := by simp [Store.admitOne, hw]
  by_cases hf : st.nvFault = true
  · have hs : st.selected = some 0 := by
      simp [Store.selected, ho, List.range, List.range.loop, Order.rank, Store.canStart, Store.writesNext,
        Store.singleWrites, hf]
    have hst : st.startOrder 0 = { st with orders := [] } := by
      simp [Store.startOrder, ho, Store.singleWrites, hf, Store.endOrder]
    have h3 : st.engineOne = some { st with orders := [] } := by simp [Store.engineOne, hop, hs, hst]
    rw [show n + 2 = (n + 1) + 1 from rfl, Store.settle, h1, h2, h3, if_pos hf]
    exact settle_settled (settled_atRest (st := { st with orders := [] }) ⟨rfl, hop, hw, ht⟩) _
  · have hg' : st.pwrGood = false := by simpa [hf] using hg
    have hs : st.selected = none := by
      simp [Store.selected, ho, List.range, List.range.loop, Order.rank, Store.canStart, hg', Store.writesNext,
        Store.singleWrites, hf, hi, hd]
    have h3 : st.engineOne = none := by simp [Store.engineOne, hop, hs]
    rw [if_neg hf]
    exact settle_settled ⟨h1, h2, h3⟩ (n + 2)

theorem find_update (st : Store) (b : Nat) (f) (c : Nat) : (st.update b f).find c = st.find c := by
  unfold Store.update
  cases st.presentLine b with
  | none => rfl
  | some i =>
    show ((st.modifyLine i (CacheLine.updated f)).touch i).find c = st.find c
    rw [find_touch, find_modifyLine (keepsHold_updated f)]

theorem update_not_writing {st : Store} (h : ∀ i, (st.line i).state ≠ .writing) (b f i) : ((st.update b f).line i).state ≠ .writing := by
  unfold Store.update
  cases hb : st.presentLine b with
  | none => exact h i
  | some j =>
    have hl := line_lt_of_find (presentLine_eq_some.1 hb).1
    have hm : ∀ k, ((st.modifyLine j (CacheLine.updated f)).line k).state ≠ .writing := by
      intro k
      rw [modifyLine_line _ _ _ _ hl]; split
      · have := h k
        unfold CacheLine.updated; split <;> simp_all
      · exact h k
    have ht : ∀ (st : Store) (a k : Nat) (x : Bool), (∀ k, (st.line k).state ≠ .writing) → ((st.modifyLine a fun l => { l with recent := x }).line k).state ≠ .writing := by
      intro st a k x h
      by_cases ha : a < st.lines.length
      · rw [modifyLine_line _ _ _ _ ha]; split <;> exact h k
      · have e : (st.modifyLine a fun l => { l with recent := x }).lines = st.lines := List.modify_eq_self (by omega)
        simp only [Store.line, e]; exact h k
    show (((st.modifyLine j (CacheLine.updated f)).touch j).line i).state ≠ .writing
    exact ht _ _ _ _ (fun k => ht _ _ _ _ hm)

theorem noneWriting_line {st : Store} (h : st.NoneWriting) (i : Nat) : (st.line i).state ≠ .writing := by
  unfold Store.line
  rw [List.getD_eq_getElem?_getD]
  by_cases hi : i < st.lines.length
  · simpa [hi] using h _ (List.getElem_mem hi)
  · simp [hi, CacheLine.invalid]

/-- after an UPDATE the line of a block is DIRTY (when none is writing) -/
theorem update_dirty {st : Store} {b i : Nat} (h : ∀ i, (st.line i).state ≠ .writing) (f) (hi : st.presentLine b = some i) : ((st.update b f).line i).state = .dirty := by
  have hl := line_lt_of_find (presentLine_eq_some.1 hi).1
  have hp := (presentLine_eq_some.1 hi).2
  have hm : ((st.modifyLine i (CacheLine.updated f)).line i).state = .dirty := by
    rw [modifyLine_line _ _ _ _ hl, if_pos rfl]
    have := h i
    unfold CacheLine.updated
    cases e : (st.line i).state <;> simp_all [LineState.isPresent]
  have ht : ∀ (st : Store) (a : Nat) (x : Bool), (st.line i).state = .dirty → ((st.modifyLine a fun l => { l with recent := x }).line i).state = .dirty := by
    intro st a x h
    by_cases ha : a < st.lines.length
    · rw [modifyLine_line _ _ _ _ ha]; split <;> exact h
    · have e : (st.modifyLine a fun l => { l with recent := x }).lines = st.lines := List.modify_eq_self (by omega)
      simp only [Store.line, e]; exact h
  unfold Store.update
  rw [hi]
  exact ht _ _ _ (ht _ _ _ hm)

/-- an UPDATE of another block leaves a DIRTY line DIRTY -/
theorem update_keeps_dirty {st : Store} {b i : Nat} (f) (h : (st.line i).state = .dirty) : ((st.update b f).line i).state = .dirty := by
  have ht : ∀ (st : Store) (a : Nat) (x : Bool), (st.line i).state = .dirty → ((st.modifyLine a fun l => { l with recent := x }).line i).state = .dirty := by
    intro st a x h
    by_cases ha : a < st.lines.length
    · rw [modifyLine_line _ _ _ _ ha]; split <;> exact h
    · have e : (st.modifyLine a fun l => { l with recent := x }).lines = st.lines := List.modify_eq_self (by omega)
      simp only [Store.line, e]; exact h
  unfold Store.update
  cases hb : st.presentLine b with
  | none => exact h
  | some j =>
    have hl := line_lt_of_find (presentLine_eq_some.1 hb).1
    refine ht _ _ _ (ht _ _ _ ?_)
    rw [modifyLine_line _ _ _ _ hl]; split
    · simp [CacheLine.updated, h]
    · exact h

end Sys2Proof.Machine
end

