-- ==== Sys2Proof/Laws/Records.lean ====
section
/-! SUPPORT. The trip records after every operation on them, once for each: the record named reads as the operation says,
the two others read as before (R3, R12, R13, R28, R30, R32). -/

namespace Sys2Proof.Machine

set_option Elab.async false

/-! ### The fields of a record's 15 bytes -/

theorem byteAt_lt (bs : List Byte) (i : Nat) : byteAt bs i < 256 := (bs.getD i 0).isLt

theorem wordAt_splice_same {bs : List Byte} {o n : Nat} (h : n < 65536) (ho : o ≤ bs.length) :
    wordAt (splice bs o (bytes2 n)) o = n := by
  have e := wordAt_bytes2 h
  unfold wordAt at *
  rw [byteAt_splice_of_mem (by omega) (by simp) ho, byteAt_splice_of_mem (by omega) (by simp) ho]
  simpa using e

theorem byteAt_splice_one {bs : List Byte} {o n : Nat} (h : n < 256) (ho : o ≤ bs.length) :
    byteAt (splice bs o [byteOf n]) o = n := by
  rw [byteAt_splice_of_mem (by omega) (by simp) ho]
  simp [byteAt, byteOf, Nat.mod_eq_of_lt h]

theorem gainTotal_length {bs : List Byte} (h : bs.length = 15) {o : Nat} (ho : o ≤ 12) (d : Nat) :
    (gainTotal o d bs).length = 15 := by
  unfold gainTotal; rw [splice_length (by simp; omega), h]

theorem satAdd_trip_lt (a d : Nat) : satAdd tripTop a d < 16777216 := by unfold satAdd tripTop; omega

/-- A distance gain on the bytes. -/
theorem view_gainDistance {bs : List Byte} (h : bs.length = 15) (d : Nat) :
    viewOfBlock (gainTotal 0 d bs) =
      { viewOfBlock bs with distance := satAdd tripTop (viewOfBlock bs).distance d } := by
  unfold viewOfBlock gainTotal
  have hl : 0 ≤ bs.length := by omega
  rw [tripleAt_splice_same (satAdd_trip_lt _ _) hl, tripleAt_splice_apart (by simp) hl, tripleAt_splice_apart (by simp) hl,
    byteAt_splice_of_ge (by simp) hl, byteAt_splice_of_ge (by simp) hl, wordAt_splice_apart (by simp) hl,
    wordAt_splice_apart (by simp) hl]

/-- A fuel gain on the bytes. -/
theorem view_gainFuel {bs : List Byte} (h : bs.length = 15) (d : Nat) :
    viewOfBlock (gainTotal 3 d bs) = { viewOfBlock bs with fuel := satAdd tripTop (viewOfBlock bs).fuel d } := by
  unfold viewOfBlock gainTotal
  have hl : 3 ≤ bs.length := by omega
  rw [tripleAt_splice_same (satAdd_trip_lt _ _) hl, tripleAt_splice_apart (by simp) hl, tripleAt_splice_apart (by simp) hl,
    byteAt_splice_of_ge (by simp) hl, byteAt_splice_of_ge (by simp) hl, wordAt_splice_apart (by simp) hl,
    wordAt_splice_apart (by simp) hl]

/-- A time gain on the bytes. -/
theorem view_gainTime {bs : List Byte} (h : bs.length = 15) (d : Nat) :
    viewOfBlock (gainTotal 6 d bs) = { viewOfBlock bs with time := satAdd tripTop (viewOfBlock bs).time d } := by
  unfold viewOfBlock gainTotal
  have hl : 6 ≤ bs.length := by omega
  rw [tripleAt_splice_same (satAdd_trip_lt _ _) hl, tripleAt_splice_apart (by simp) hl, tripleAt_splice_apart (by simp) hl,
    byteAt_splice_of_ge (by simp) hl, byteAt_splice_of_ge (by simp) hl, wordAt_splice_apart (by simp) hl,
    wordAt_splice_apart (by simp) hl]

/-- A result as an arithmetic operation gives it: 0 to 65,534 (R20). -/
def Result.Given (x : Result) : Prop := x.value ≤ 65534

theorem Request.result_given (r : Request) : r.result.Given := by
  unfold Result.Given Request.result scaleDivide
  split
  · simp [Result.value]
  · split
    · simp [Result.value]
    · simp [Result.value]; omega

theorem storedValue_lt {x : Result} (h : x.Given) (k : Nat) : x.storedValue k < 65536 := by
  unfold Result.Given at h
  cases x with
  | valid v => simp [Result.value] at h; simp [Result.storedValue]; omega
  | saturated v => simp [Result.value] at h; simp [Result.storedValue]; omega
  | none => exact (Config.noneValue k).isLt

theorem storedResult_code (x : Result) (k : Nat) : storedResult (x.storedValue k) x.code = x := by
  cases x <;> rfl

theorem code_le (x : Result) : x.code ≤ 2 := by cases x <;> simp [Result.code]

/-- The bytes with another economy. -/
def putEconomy (x : Result) (k : Nat) (bs : List Byte) : List Byte :=
  splice (splice bs 10 (bytes2 (x.storedValue k))) 14 [byteOf (withEconomyCode (byteAt bs 14) x.code)]

/-- The bytes with another average speed. -/
def putAverage (x : Result) (k : Nat) (bs : List Byte) : List Byte :=
  splice (splice bs 12 (bytes2 (x.storedValue k))) 14 [byteOf (withAverageCode (byteAt bs 14) x.code)]

theorem putEconomy_length {bs : List Byte} (h : bs.length = 15) (x : Result) (k : Nat) : (putEconomy x k bs).length = 15 := by
  unfold putEconomy
  have h1 : (splice bs 10 (bytes2 (x.storedValue k))).length = 15 := by rw [splice_length (by simp; omega), h]
  rw [splice_length (by simp; omega), h1]

theorem putAverage_length {bs : List Byte} (h : bs.length = 15) (x : Result) (k : Nat) : (putAverage x k bs).length = 15 := by
  unfold putAverage
  have h1 : (splice bs 12 (bytes2 (x.storedValue k))).length = 15 := by rw [splice_length (by simp; omega), h]
  rw [splice_length (by simp; omega), h1]

/-- An economy written on the bytes. -/
theorem view_putEconomy {bs : List Byte} (h : bs.length = 15) {x : Result} (hx : x.Given) (k : Nat) :
    viewOfBlock (putEconomy x k bs) = { viewOfBlock bs with economy := x } := by
  have h1 : (splice bs 10 (bytes2 (x.storedValue k))).length = 15 := by rw [splice_length (by simp; omega), h]
  have h10 : 10 ≤ bs.length := by omega
  have h14 : 14 ≤ (splice bs 10 (bytes2 (x.storedValue k))).length := by omega
  have hc : withEconomyCode (byteAt bs 14) x.code < 256 := by
    have := byteAt_lt bs 14; have := code_le x; unfold withEconomyCode; omega
  have e1 : withEconomyCode (byteAt bs 14) x.code % 4 = x.code := by
    have := code_le x; unfold withEconomyCode; omega
  have e2 : withEconomyCode (byteAt bs 14) x.code / 4 % 4 = byteAt bs 14 / 4 % 4 := by
    have := code_le x; unfold withEconomyCode; omega
  unfold viewOfBlock putEconomy
  rw [tripleAt_splice_apart (by simp) h14, tripleAt_splice_apart (by simp) h10, tripleAt_splice_apart (by simp) h14,
    tripleAt_splice_apart (by simp) h10, tripleAt_splice_apart (by simp) h14, tripleAt_splice_apart (by simp) h10,
    byteAt_splice_of_lt (by omega) h14, byteAt_splice_of_lt (by omega) h10, wordAt_splice_apart (by simp) h14,
    wordAt_splice_same (storedValue_lt hx k) h10, byteAt_splice_one hc h14, wordAt_splice_apart (by simp) h14,
    wordAt_splice_apart (by simp) h10, e1, e2, storedResult_code]

/-- An average speed written on the bytes. -/
theorem view_putAverage {bs : List Byte} (h : bs.length = 15) {x : Result} (hx : x.Given) (k : Nat) :
    viewOfBlock (putAverage x k bs) = { viewOfBlock bs with average := x } := by
  have h1 : (splice bs 12 (bytes2 (x.storedValue k))).length = 15 := by rw [splice_length (by simp; omega), h]
  have h10 : 12 ≤ bs.length := by omega
  have h14 : 14 ≤ (splice bs 12 (bytes2 (x.storedValue k))).length := by omega
  have hc : withAverageCode (byteAt bs 14) x.code < 256 := by
    have := byteAt_lt bs 14; have := code_le x; unfold withAverageCode; omega
  have e1 : withAverageCode (byteAt bs 14) x.code % 4 = byteAt bs 14 % 4 := by
    have := code_le x; unfold withAverageCode; omega
  have e2 : withAverageCode (byteAt bs 14) x.code / 4 % 4 = x.code := by
    have := code_le x; unfold withAverageCode; omega
  unfold viewOfBlock putAverage
  rw [tripleAt_splice_apart (by simp) h14, tripleAt_splice_apart (by simp) h10, tripleAt_splice_apart (by simp) h14,
    tripleAt_splice_apart (by simp) h10, tripleAt_splice_apart (by simp) h14, tripleAt_splice_apart (by simp) h10,
    byteAt_splice_of_lt (by omega) h14, byteAt_splice_of_lt (by omega) h10, wordAt_splice_apart (by simp) h14,
    wordAt_splice_apart (by simp) h10, byteAt_splice_one hc h14, wordAt_splice_apart (by simp) h14,
    wordAt_splice_same (storedValue_lt hx k) h10, e1, e2, storedResult_code]

/-- The bytes of a record as a reset leaves them. -/
def clearRecord (k : Nat) (bs : List Byte) : List Byte :=
  (zeroRecord (byteAt bs 9 + 1) k).take 14 ++ [byteOf (byteAt bs 14 / 16 * 16 + 10)]

theorem clearRecord_length (k : Nat) (bs : List Byte) : (clearRecord k bs).length = 15 := rfl

/-- A reset on the bytes (R32). -/
theorem view_clearRecord (k : Nat) (bs : List Byte) :
    viewOfBlock (clearRecord k bs) =
      { distance := 0, fuel := 0, time := 0, generation := ((viewOfBlock bs).generation + 1) % 256, economy := .none,
        average := .none } := by
  have h14 := byteAt_lt bs 14
  have e : (byteOf (byteAt bs 14 / 16 * 16 + 10)).toNat = byteAt bs 14 / 16 * 16 + 10 := by simp [byteOf]; omega
  have e1 : (byteAt bs 14 / 16 * 16 + 10) % 4 = 2 := by omega
  have e2 : (byteAt bs 14 / 16 * 16 + 10) / 4 % 4 = 2 := by omega
  have hb : byteAt (clearRecord k bs) 14 = byteAt bs 14 / 16 * 16 + 10 := e
  have hg : byteAt (clearRecord k bs) 9 = (byteAt bs 9 + 1) % 256 := by show (byteOf _).toNat = _; simp [byteOf]
  have hz : ∀ i < 9, byteAt (clearRecord k bs) i = 0 := by
    intro i hi
    have : i = 0 ∨ i = 1 ∨ i = 2 ∨ i = 3 ∨ i = 4 ∨ i = 5 ∨ i = 6 ∨ i = 7 ∨ i = 8 := by omega
    rcases this with rfl | rfl | rfl | rfl | rfl | rfl | rfl | rfl | rfl <;> rfl
  have ht : ∀ i < 7, tripleAt (clearRecord k bs) i = 0 := fun i hi => by
    unfold tripleAt wordAt; rw [hz i (by omega), hz (i + 1) (by omega), hz (i + 1 + 1) (by omega)]
  unfold viewOfBlock
  rw [hb, e1, e2, hg, ht 0 (by omega), ht 3 (by omega), ht 6 (by omega)]
  simp [storedResult]

/-! ### The records of the state -/

theorem block_cases (r : TripRecord) (h : r ≠ .journey) : r.block = 1 ∨ r.block = 2 := by
  cases r
  · exact .inl rfl
  · exact .inr rfl
  · exact absurd rfl h

theorem block_inj {r j : TripRecord} (h : j ≠ r) : j.block ≠ r.block := by
  cases r <;> cases j <;> first | (exact absurd rfl h) | decide

theorem systemPresent_holds {st : Store} (h : st.SystemPresent) (r : TripRecord) : st.Holds r.block := by
  cases r
  · exact h.2.1
  · exact h.2.2
  · exact h.1

theorem systemPresent_update {st : Store} (h : st.SystemPresent) {b : Nat} {f : List Byte → List Byte}
    (hf : ∀ l : List Byte, l.length = 15 → (f l).length = 15) : (st.update b f).SystemPresent := by
  have k : ∀ c, st.Holds c → (st.update b f).Holds c := by
    intro c hc
    by_cases e : c = b
    · subst e; exact holds_update_same hc hf
    · exact holds_update_ne f e hc
  exact ⟨k 0 h.1, k 1 h.2.1, k 2 h.2.2⟩

theorem tripView_of_ne {r : TripRecord} (h : r ≠ .journey) (s : State) :
    s.tripView r = viewOfBlock (s.store.dataOf r.block) := by
  cases r
  · rfl
  · rfl
  · exact absurd rfl h

/-- An UPDATE of the block of trip A or B: that record reads as the bytes give it, the others as before. -/
theorem tripView_update {s : State} (hp : s.store.SystemPresent) {r : TripRecord} (hr : r ≠ .journey)
    (f : List Byte → List Byte) (j : TripRecord) :
    (s.update r.block f).tripView j =
      if j = r then viewOfBlock (f (s.store.dataOf r.block)) else s.tripView j := by
  by_cases e : j = r
  · subst e
    rw [if_pos rfl, tripView_of_ne hr]
    exact congrArg viewOfBlock (dataOf_update_same f (systemPresent_holds hp j).1)
  · rw [if_neg e]
    by_cases hj : j = .journey
    · subst hj; rfl
    · rw [tripView_of_ne hj, tripView_of_ne hj]
      exact congrArg viewOfBlock (dataOf_update_ne f (block_inj e))

/-- A distance gain of a record. -/
theorem tripView_addDistance {s : State} (hp : s.store.SystemPresent) (r : TripRecord) (d : Nat) (j : TripRecord) :
    (s.addDistance r d).tripView j =
      if j = r then { s.tripView r with distance := satAdd tripTop (s.tripView r).distance d } else s.tripView j := by
  cases r
  · refine (tripView_update hp (r := .a) (by decide) (gainTotal 0 d) j).trans ?_
    rw [view_gainDistance (systemPresent_holds hp .a).2]; rfl
  · refine (tripView_update hp (r := .b) (by decide) (gainTotal 0 d) j).trans ?_
    rw [view_gainDistance (systemPresent_holds hp .b).2]; rfl
  · cases j <;> rfl

/-- A fuel gain of a record. -/
theorem tripView_addFuel {s : State} (hp : s.store.SystemPresent) (r : TripRecord) (d : Nat) (j : TripRecord) :
    (s.addFuel r d).tripView j =
      if j = r then { s.tripView r with fuel := satAdd tripTop (s.tripView r).fuel d } else s.tripView j := by
  cases r
  · refine (tripView_update hp (r := .a) (by decide) (gainTotal 3 d) j).trans ?_
    rw [view_gainFuel (systemPresent_holds hp .a).2]; rfl
  · refine (tripView_update hp (r := .b) (by decide) (gainTotal 3 d) j).trans ?_
    rw [view_gainFuel (systemPresent_holds hp .b).2]; rfl
  · cases j <;> rfl

/-- A time gain of a record. -/
theorem tripView_addTime {s : State} (hp : s.store.SystemPresent) (r : TripRecord) (d : Nat) (j : TripRecord) :
    (s.addTime r d).tripView j =
      if j = r then { s.tripView r with time := satAdd tripTop (s.tripView r).time d } else s.tripView j := by
  cases r
  · refine (tripView_update hp (r := .a) (by decide) (gainTotal 6 d) j).trans ?_
    rw [view_gainTime (systemPresent_holds hp .a).2]; rfl
  · refine (tripView_update hp (r := .b) (by decide) (gainTotal 6 d) j).trans ?_
    rw [view_gainTime (systemPresent_holds hp .b).2]; rfl
  · cases j <;> rfl

/-- A record's economy written. -/
theorem tripView_setEconomy {s : State} (hp : s.store.SystemPresent) {x : Result} (hx : x.Given) (r j : TripRecord) :
    (s.setEconomy r x).tripView j = if j = r then { s.tripView r with economy := x } else s.tripView j := by
  cases r
  · refine (tripView_update hp (r := .a) (by decide) (putEconomy x s.freeIndex) j).trans ?_
    rw [view_putEconomy (systemPresent_holds hp .a).2 hx]; rfl
  · refine (tripView_update hp (r := .b) (by decide) (putEconomy x s.freeIndex) j).trans ?_
    rw [view_putEconomy (systemPresent_holds hp .b).2 hx]; rfl
  · cases j <;> rfl

/-- A record's average speed written. -/
theorem tripView_setAverage {s : State} (hp : s.store.SystemPresent) {x : Result} (hx : x.Given) (r j : TripRecord) :
    (s.setAverage r x).tripView j = if j = r then { s.tripView r with average := x } else s.tripView j := by
  cases r
  · refine (tripView_update hp (r := .a) (by decide) (putAverage x s.freeIndex) j).trans ?_
    rw [view_putAverage (systemPresent_holds hp .a).2 hx]; rfl
  · refine (tripView_update hp (r := .b) (by decide) (putAverage x s.freeIndex) j).trans ?_
    rw [view_putAverage (systemPresent_holds hp .b).2 hx]; rfl
  · cases j <;> rfl

/-- A reset of trip A or B. -/
theorem tripView_resetTrip {s : State} (hp : s.store.SystemPresent) {r : TripRecord} (hr : r ≠ .journey) (j : TripRecord) :
    (s.resetTrip r).tripView j =
      if j = r then
        { distance := 0, fuel := 0, time := 0, generation := ((s.tripView r).generation + 1) % 256, economy := .none,
          average := .none }
      else s.tripView j := by
  cases r
  · refine (tripView_update hp (r := .a) (by decide) (clearRecord s.freeIndex) j).trans ?_
    rw [view_clearRecord]; rfl
  · refine (tripView_update hp (r := .b) (by decide) (clearRecord s.freeIndex) j).trans ?_
    rw [view_clearRecord]; rfl
  · exact absurd rfl hr

/-! ### What record operations leave of the store -/

/-- A record operation keeps the system lines, the bytes of block 0, and a resting store. -/
def RecordStep (s t : State) : Prop :=
  (s.store.SystemPresent → t.store.SystemPresent) ∧ t.store.dataOf 0 = s.store.dataOf 0 ∧
    (s.store.AtRest → t.store.AtRest)

theorem RecordStep.refl (s : State) : RecordStep s s := ⟨id, rfl, id⟩

theorem RecordStep.trans {s t u : State} (h : RecordStep s t) (k : RecordStep t u) : RecordStep s u :=
  ⟨fun x => k.1 (h.1 x), k.2.1.trans h.2.1, fun x => k.2.2 (h.2.2 x)⟩

theorem RecordStep.of_store {s t : State} (h : t.store = s.store) : RecordStep s t :=
  ⟨fun x => h ▸ x, by rw [h], fun x => h ▸ x⟩

theorem update_recordStep (s : State) {r : TripRecord} (hr : r ≠ .journey) {f : List Byte → List Byte}
    (hf : ∀ l : List Byte, l.length = 15 → (f l).length = 15) : RecordStep s (s.update r.block f) :=
  ⟨fun h => systemPresent_update h hf,
    dataOf_update_ne f (by cases r <;> first | decide | exact absurd rfl hr), fun h => atRest_update h _ _⟩

theorem addDistance_recordStep (s : State) (r d) : RecordStep s (s.addDistance r d) := by
  cases r
  · exact update_recordStep s (r := .a) (by decide) fun l h => gainTotal_length h (by omega) d
  · exact update_recordStep s (r := .b) (by decide) fun l h => gainTotal_length h (by omega) d
  · exact .of_store rfl

theorem addFuel_recordStep (s : State) (r d) : RecordStep s (s.addFuel r d) := by
  cases r
  · exact update_recordStep s (r := .a) (by decide) fun l h => gainTotal_length h (by omega) d
  · exact update_recordStep s (r := .b) (by decide) fun l h => gainTotal_length h (by omega) d
  · exact .of_store rfl

theorem addTime_recordStep (s : State) (r d) : RecordStep s (s.addTime r d) := by
  cases r
  · exact update_recordStep s (r := .a) (by decide) fun l h => gainTotal_length h (by omega) d
  · exact update_recordStep s (r := .b) (by decide) fun l h => gainTotal_length h (by omega) d
  · exact .of_store rfl

theorem setEconomy_recordStep (s : State) (r x) : RecordStep s (s.setEconomy r x) := by
  cases r
  · exact update_recordStep s (r := .a) (by decide) fun l h => putEconomy_length h x _
  · exact update_recordStep s (r := .b) (by decide) fun l h => putEconomy_length h x _
  · exact .of_store rfl

theorem setAverage_recordStep (s : State) (r x) : RecordStep s (s.setAverage r x) := by
  cases r
  · exact update_recordStep s (r := .a) (by decide) fun l h => putAverage_length h x _
  · exact update_recordStep s (r := .b) (by decide) fun l h => putAverage_length h x _
  · exact .of_store rfl

theorem resetTrip_recordStep (s : State) (r) : RecordStep s (s.resetTrip r) := by
  cases r
  · exact update_recordStep s (r := .a) (by decide) fun l _ => clearRecord_length s.freeIndex l
  · exact update_recordStep s (r := .b) (by decide) fun l _ => clearRecord_length s.freeIndex l
  · exact RecordStep.refl s

end Sys2Proof.Machine
end

