-- ==== Sys2Proof/Tests/Slice0.lean ====
section
/-! SUPPORT. Small tests: what well-formedness refuses, the spec's own worked examples, and for each statement with
hypotheses a state and operands that meet them, clause by clause. -/

namespace Sys2Proof.Tests

set_option Elab.async false

open Sys2Proof Sys2Proof.Machine

/-! ### Well-formedness and the words of the table -/

theorem test_endGap_needs_a_byte : (Instr.endGap [] false).wellFormed = false := by decide
theorem test_writeBytes_needs_a_byte : (Instr.writeBytes 8 0 []).wellFormed = false := by decide
theorem test_writeBytes_takes_four : (Instr.writeBytes 8 0 [1, 2, 3, 4]).wellFormed = true := by decide
theorem test_writeBytes_refuses_five : (Instr.writeBytes 8 0 [1, 2, 3, 4, 5]).wellFormed = false := by decide
theorem test_no_word_spells_a_command : decodeTableWord 16 0x1234 = none := by decide

/-! ### Worked examples of the spec -/

/-- Table 2-2. -/
theorem test_scale_divide : [(111, 360, 40), (14812, 100, 12345), (12345, 360, 5400), (412, 100, 120), (20, 130, 40),
    (1, 1, 2), (0, 100, 730)].map (fun x => scaleDivide x.1 x.2.1 x.2.2) =
      [.valid 999, .valid 120, .valid 823, .valid 343, .valid 65, .valid 1, .valid 0] ∧
    scaleDivide 40000 100 50 = .saturated 65534 ∧ scaleDivide 412 100 0 = .none := by decide

/-- Table 5-8's examples. -/
theorem test_sweep_profile : [1, 30, 75, 76, 120, 150].map sweepAngle = [10, 306, 767, 756, 306, 0] := by decide

/-- Table 5-7. -/
theorem test_coil_levels : [0, 128, 250, 256, 400, 512, 640, 767].map coilLevels =
    [(0, 255), (180, 180), (255, 9), (255, 0), (162, -197), (0, -255), (-180, -180), (-255, -2)] := by decide

/-- The example of Chapter 12: station 2 sending 41h of class 2 with sequence 4, and Table 12-1's check byte. -/
theorem test_sent_message : let f := Msg.frame 2 ⟨2, .publication, 0x41, 4, [0, 0, 5, 0], false, false, 0, 0, .none⟩
    f.take 7 = [0x82, 0x41, 0x44, 0, 0, 5, 0] ∧ f.length = 8 ∧ byteSum f = 0 := by decide

/-- R53: station 2's staggers at attempts 1 to 5. -/
theorem test_staggers : [1, 2, 3, 4, 5].map (staggerOf 2) = [3, 5, 2, 4, 1] := by decide

/-- The worked speed of Chapter 5: 999 on the default speedometer gives 162 + 108. -/
theorem test_speedometer : (defaultGauges.getD 0 ⟨⟨[], []⟩, 0, 1⟩).curve.evaluate 999 = .request 399 108 400 162 ∧
    scaleDivide 399 108 400 = .valid 108 := by decide

/-- The damping example of Chapter 5: shift 2 from 3,200 toward 16 × 400. -/
theorem test_damping : dampingStep 2 400 3200 = 4000 ∧ dampingStep 2 400 4000 = 4600 ∧ dampingStep 2 400 4600 = 5050 ∧
    dampingStep 2 400 5050 = 5387 ∧ dampingStep 2 400 5387 = 5640 := by decide

/-- Table 6-3: threshold 158, hysteresis 3. -/
theorem test_comparison_examples :
    let r (l e g u : Bool) : RuleRecord := ⟨.builtIn .coolant, 158, 3, condOf l e g u, .always, 0, 0, false, 1⟩
    [(r false false true false).bar .clear, (r false false true false).bar .asserted, (r true true false false).bar .releasing,
      (r false true false false).bar .asserted, (r true false false true).bar .qualifying] = [158, 155, 161, 158, 158] := by
  decide

/-- The example of R153: item 0 with 400 km and 12 days is SOON; with −1,000 km it is OVERDUE. -/
theorem test_item_states : (defaultItems.map fun f => itemStateOf f 400 12).head? = some .soon ∧
    (defaultItems.map fun f => itemStateOf f (-1000) 12).head? = some .overdue := by decide

/-! ### States for the witnesses -/

/-- The state after a command. -/
def after (c : Instr) (s : State) : State :=
  match exec c s with
  | .next t => t
  | _ => s

theorem exec_after (c : Instr) (s : State) : exec c s = .next (after c s) := by
  obtain ⟨u, h, -⟩ := command_frame c s
  rw [after, h]

/-- A line of block `b` with 15 data bytes 0. -/
def lineOf (b : Nat) (x : LineState) (pin : Bool) : CacheLine := ⟨some b, x, List.replicate 15 0, false, pin, false⟩

/-- A store at rest: blocks 0 to 6 CLEAN, line 7 INVALID. -/
def restStore : Store :=
  { State.reset.store with
    orders := [], op := none
    lines := [lineOf 0 .clean true, lineOf 4 .clean false, lineOf 1 .clean true, lineOf 5 .clean false] ++
      [lineOf 2 .clean true, lineOf 6 .clean false, lineOf 3 .clean false, .invalid] }

/-- A timer that runs, or not. -/
def timed (b : Bool) (n : Nat) : Option Nat := if b then some n else none

/-- The part in an ignition state, its timers as that state has them, the store at rest. -/
def stateIn (x : Ign) : State :=
  let r := State.reset
  { r with
    ignition := { r.ignition with state := x, holdupTimer := timed (x == .holdup) 30 }
    counting := { r.counting with windowTimer := timed x.counts 50 }
    display := { r.display with timer := timed x.awake 10 }
    line := { r.line with state := .quiet, rate40 := timed x.counts 10, rate41 := timed x.awake 100 }
    topics := { r.topics with tick := timed x.awake 10 }
    gauges := { r.gauges with timer := timed x.awake 2 }
    rules := { r.rules with timer := timed x.awake 10 }
    arbiter :=
      { r.arbiter with
        tick := timed x.awake 10, rate43 := timed x.awake 200
        cautionOrder := r.formedOrder .caution, advisoryOrder := r.formedOrder .advisory }
    sound := { r.sound with flash := timed x.awake 25 }
    store := restStore }

/-- The part in RUN. -/
def driving : State := stateIn .run

/-- `driving` with other counting items. -/
def counts (f : Counting → Counting) : State := driving.setCounting (f driving.counting)

/-- `driving` with another store. -/
def stored (f : Store → Store) : State := driving.setStore (f restStore)

/-- `driving` with other line items. -/
def lined (f : LineStation → LineStation) : State := driving.setLine (f driving.line)

/-- `driving` with other keys. -/
def keyed (f : Keys → Keys) (p : Page) : State :=
  (driving.setKeys (f driving.keys)).setTrip { driving.trip with page := p }

/-- The state with warning `w` set. -/
def withWarning (s : State) (w : Nat) (v : Warning) : State :=
  s.setArbiter { s.arbiter with warnings := s.arbiter.warnings.set w v }

/-- `driving` with warning `w` SHOWN for `n` tenths of a second. -/
def showing (w n : Nat) (level : Bool) : State := withWarning driving w ⟨.shown, level, n, false, 0⟩

/-- A request of the arithmetic unit. -/
def asked (t : Target) : Request := ⟨t, 100, 360, 40, 0, 0, false⟩

/-- `driving` with a request in flight and others in the list. -/
def working (r : Request) (l : List Request) : State := driving.setArith ⟨l, some r, 0⟩

/-- A message of the queue. -/
def msg (cls topic : Nat) (started sending : Bool) : Msg := ⟨cls, .publication, topic, 0, [], started, sending, 0, 0, .none⟩

/-! ### Helpers -/

theorem ofNone {α : Type} {o : Option α} {p : α → Prop} (h : o = none) : ∀ x, o = some x → p x := by
  rintro x e
  rw [h] at e
  cases e

theorem ofSome {α : Type} {o : Option α} {a : α} {p : α → Prop} (h : o = some a) (k : p a) : ∀ x, o = some x → p x := by
  rintro x e
  rw [h] at e
  cases e
  exact k

theorem ofEach {α : Type} {q : List α} {p : Nat → α → Prop} (h : ∀ j (hj : j < q.length), p j q[j]) :
    ∀ j n, q[j]? = some n → p j n := by
  intro j n e
  obtain ⟨hj, rfl⟩ := List.getElem?_eq_some_iff.mp e
  exact h j hj

/-- The rotation orders as they are formed are complete. -/
theorem orders_formed (s : State) (h : s.arbiter.warnings.length = 32)
    (hc : s.arbiter.cautionOrder = s.formedOrder .caution) (ha : s.arbiter.advisoryOrder = s.formedOrder .advisory) :
    s.OrdersComplete :=
  ⟨h, fun w => by rw [hc]; simp [State.formedOrder], fun w => by rw [ha]; simp [State.formedOrder]⟩

/-- The conditions of `MostUrgentShown` at a warning and the next. -/
def urgent (s : State) : Bool :=
  decide (s.shownCount ≤ 1) &&
    (List.range 32).all (fun v => (List.range 32).all fun w =>
      !((s.warning v).state == .shown && (s.warning w).state == .pending) ||
        decide ((s.warningClass v).rank ≤ (s.warningClass w).rank)) &&
    ((List.range 32).any (fun v => (s.warning v).state == .shown) ||
      (List.range 32).all fun w => (s.warning w).state != .pending && (s.warning w).state != .held)

theorem urgent_of (s : State) (h : urgent s = true) : s.MostUrgentShown := by
  simp only [urgent, Bool.and_eq_true, decide_eq_true_eq, List.all_eq_true, List.mem_range, Bool.or_eq_true,
    Bool.not_eq_true', Bool.and_eq_false_iff, beq_eq_false_iff_ne, List.any_eq_true, beq_iff_eq, bne_iff_ne] at h
  obtain ⟨⟨h1, h2⟩, h3⟩ := h
  refine ⟨h1, fun v w hv hw hs hp => ?_, fun hn w hw => ?_⟩
  · rcases h2 v hv w hw with (k | k) | k
    · exact absurd hs k
    · exact absurd hp k
    · exact k
  · rcases h3 with ⟨v, hv, k⟩ | k
    · exact absurd k (hn v hv)
    · exact k w hw

/-! ### The queue and every command -/

theorem witness_StepRunsFrontCommand : (driving.setPending [.gaugeTest, .close]).pending = .gaugeTest :: [.close] := rfl

theorem witness_EmptyQueueLetsTimePass : driving.pending = [] ∧ driving.arith.inFlight = none ∧
    (working (asked .speed) []).pending = [] ∧ (working (asked .speed) []).arith.inFlight.isSome := by decide +kernel

theorem witness_PowerOnResetStartsLoad : driving.store.writing = false := by decide +kernel

theorem witness_HoldsEndWithThePage : let c := Instr.serviceEdgeRequest .soon
    let d := Instr.clickTimerExpiry
    (c.handlesKeys = false ∧ driving.KeepsIgnition c (after c driving) ∧ driving.warningPage = false ∧
      (after c driving).warningPage = true) ∧
    (d.handlesKeys = false ∧ driving.KeepsIgnition d (after d driving) ∧ (after d driving).warningPage = false) ∧
    (let s := showing 2 0 true; s.KeepsIgnition d (after d s) ∧ s.warningPage = true) ∧
    (∀ e ∈ [Instr.messageSent, .clash false, .breakRecognised, .blockReadEnd, .blockWriteReady, .keyPositionChange true true,
        .wakeInputChange true, .watchTimerExpiry, .holdupTimerExpiry],
      e.handlesKeys = false ∧ driving.KeepsIgnition e (after e driving)) ∧
    ∀ e s, exec e s = .next (after e s) := by
  unfold State.KeepsIgnition
  refine ⟨?_, ?_, ?_, ?_, exec_after⟩ <;> decide +kernel

theorem witness_ChangedItemsAreSent : let c := Instr.serviceEdgeRequest .soon
    let d := Instr.clickTimerExpiry
    let busy := driving.setDisplay { driving.display with transfer := some [] }
    (∀ x ∈ [c, d], x.drivesDisplay = false) ∧
    (let s := stateIn .sleep; s.ign.awake = false ∧ s.KeepsIgnition d (after d s)) ∧
    (driving.StaysAwake c (after c driving) ∧ driving.StaysAwake d (after d driving) ∧
      driving.display.timer.isSome = true ∧ driving.display.transfer = none ∧
      driving.recordItems = (after d driving).recordItems ∧ driving.recordItems ≠ (after c driving).recordItems) ∧
    (busy.StaysAwake c (after c busy) ∧ busy.display.timer.isSome = true ∧ busy.display.transfer.isSome = true ∧
      busy.recordItems ≠ (after c busy).recordItems) ∧
    (∀ x ∈ [(true, false), (false, false), (true, true)], let e := Instr.keyPositionChange x.1 x.2
      e.drivesDisplay = false ∧ driving.StaysAwake e (after e driving)) ∧
    ∀ e s, exec e s = .next (after e s) := by
  unfold State.StaysAwake State.KeepsIgnition
  have key (acc run : Bool) (p : Bool → Bool → Prop) (h : p acc run) :
      ∃ a r, Instr.keyPositionChange acc run = .keyPositionChange a r ∧ p a r := ⟨acc, run, rfl, h⟩
  refine ⟨by decide, by decide +kernel, ⟨?_, ?_, by decide +kernel⟩, ⟨?_, by decide +kernel⟩, fun x hx => ⟨rfl, ?_⟩, exec_after⟩
  · exact ⟨rfl, rfl, .inl (by decide +kernel)⟩
  · exact ⟨rfl, rfl, .inl (by decide +kernel)⟩
  · exact ⟨rfl, rfl, .inl (by decide +kernel)⟩
  · fin_cases hx
    · exact ⟨rfl, by decide +kernel, .inr (.inr (key _ _ _ (.inl rfl)))⟩
    · exact ⟨rfl, by decide +kernel, .inr (.inl (by decide +kernel))⟩
    · exact ⟨rfl, by decide +kernel, .inr (.inr (key _ _ _ (.inl rfl)))⟩

/-! ### Invariants -/

/-- A step of a state with a command in front. -/
theorem steps (c : Instr) (s : State) : ∃ t, step (s.setPending [c]) = .next t := ⟨_, exec_after c _⟩

theorem witness_StateStaysInBounds : (∃ t, step (driving.setPending [.gaugeUpdate]) = .next t) ∧
    (driving.setPending [.gaugeUpdate]).InBounds := by
  refine ⟨steps _ _, ?_⟩
  unfold State.InBounds LineStation.InBounds QueueBounded Msg.InRange OrdersBounded GaugesInRange Gauge.InRange ClockInRange
  decide +kernel

theorem witness_RequestsStayUnique :
    let s := (working (asked .speed) [asked (.economy .a)]).setPending [.operationComplete]
    (∃ t, step s = .next t) ∧ s.arith.Served := by
  refine ⟨steps _ _, ?_⟩
  unfold Arith.Served
  decide +kernel

/-- A handler WORKING on a gauge test, on a VERIFY, and REPLYING with its reply in the queue. -/
theorem witness_RequestsStayUnique_workshop :
    let handled (x : HandlerState) (s : State) : State := s.setHandler { s.handler with state := x }
    let reply : Msg := ⟨3, .reply, 0x70, 0, [0x62, 0], true, false, 0, 0, .own⟩
    ∀ s ∈ [handled .working (driving.setGauges { driving.gauges with sweep := some 10, testMark := true }),
        handled .working (stored fun st => { st with op := some (.readVerify 3), orders := [.verify 3], task := .verify 3 }),
        handled .replying (lined fun l => { l with queue := [reply] })],
      s.OneRequest ∧ ∀ c, ∃ t, step (s.setPending [c]) = .next t := by
  intro _ _ s hs
  refine ⟨?_, fun c => steps c s⟩
  fin_cases hs <;>
    exact ⟨by decide +kernel, by decide +kernel, fun h => absurd h (by decide +kernel), by decide +kernel,
      fun _ _ => by first | decide +kernel | contradiction⟩

theorem witness_TimersFollowIgnition : (∃ t, step (driving.setPending [.keyPositionChange false false]) = .next t) ∧
    ∀ x ∈ [Ign.sleep, .watch, .accessory, .run, .holdup], TimersFollow ((stateIn x).setPending [.keyPositionChange false false]) := by
  refine ⟨steps _ _, ?_⟩
  unfold TimersFollow
  decide +kernel

theorem witness_AtMostOneWarningShown : (∃ t, step ((showing 2 0 true).setPending [.arbiterTick]) = .next t) ∧
    ((showing 2 0 true).setPending [.arbiterTick]).shownCount = 1 := ⟨steps _ _, by decide +kernel⟩

theorem witness_LatchStaysSet : let s := (stored fun st => { st with latch := true }).setPending [.close]
    let u := stored fun st => { st with latch := true }
    (s.pending.head? ≠ some .powerOnReset ∧ s.store.latch = true ∧ ∃ t, step s = .next t) ∧
    u.pending.head? ≠ some .powerOnReset ∧ u.store.latch = true ∧ ∃ t, step u = .next t :=
  ⟨⟨by decide, rfl, steps _ _⟩, by decide, rfl, ⟨_, rfl⟩⟩

theorem driving_systemPinned : driving.store.SystemPinned := by
  intro b hb
  refine ⟨?_, fun _ h => absurd h List.not_mem_nil, by decide +revert, by decide +revert⟩
  interval_cases b <;> decide +kernel

theorem witness_LatchStaysSet_lines : let s := driving.setPending [.invalidate 1]
    s.pending.head? ≠ some .powerOnReset ∧ s.ign ≠ .load ∧ s.store.SystemPinned ∧ ∃ t, step s = .next t :=
  ⟨by decide, by decide, driving_systemPinned, steps _ _⟩

/-! ### Counting unit -/

theorem not_accepted {s : State} {x e : Nat} (h : s.counting.sinceAccepted = some x) (k : x + e < 100) :
    ¬s.AcceptsPulse e := fun a => absurd (a.2 x h) (by omega)

theorem witness_PulsesAreCounted :
    let s (n : Nat) (x : Option Nat) := counts fun c => { c with stepCount := n, sinceAccepted := x }
    ((s 38 (some 0)).AcceptsPulse 100 ∧ (s 38 none).AcceptsPulse 0 ∧ 38 + 1 < driving.cal.divisor ∧
      (s 38 none).store.Settled) ∧ ¬(s 38 (some 0)).AcceptsPulse 99 ∧ ¬(stateIn .accessory).AcceptsPulse 100 :=
  ⟨⟨⟨rfl, ofSome rfl (by decide)⟩, ⟨rfl, ofNone rfl⟩, by decide, ⟨rfl, rfl, rfl⟩⟩, not_accepted rfl (by decide),
    fun h => absurd h.1 (by decide)⟩

/-- A pulse away from a distance step, with the sub-counts and the odometer named. -/
def nearStep (odometerSub serviceSub odometer checkpoint : Nat) : State :=
  let s := counts fun c => { c with stepCount := 39, odometerSub := odometerSub, serviceSub := serviceSub, checkpoint := checkpoint }
  s.setStore { restStore with lines := restStore.lines.modify 0 fun l => { l with data := bytes3 odometer ++ List.replicate 12 0 } }

theorem near_accepts (a b c d e : Nat) : (nearStep a b c d).AcceptsPulse e := ⟨rfl, ofNone rfl⟩

theorem witness_DistanceStepCounts : let s := nearStep 8 98 0 100
    s.AcceptsPulse 100 ∧ s.cal.divisor ≤ s.counting.stepCount + 1 ∧ s.counting.odometerSub < 9 ∧
      s.counting.serviceSub < 99 ∧ s.store.AtRest ∧ s.store.SystemPresent := by
  refine ⟨near_accepts .., ?_⟩
  unfold Store.AtRest Store.SystemPresent Store.Holds
  decide +kernel

theorem witness_OdometerGains :
    (∀ x ∈ [(9999999, 100), (9999998, 2), (5, 1)],
      let s := nearStep 9 98 x.1 x.2
      s.cal.divisor ≤ s.counting.stepCount + 1 ∧ s.counting.odometerSub = 9 ∧ s.counting.serviceSub < 99 ∧
        s.store.AtRest ∧ s.store.NoneWriting ∧ s.store.SystemPresent ∧ s.store.odometerValue = x.1 ∧
        s.counting.checkpoint = x.2 ∧ s.store.pwrGood = true ∧ s.store.nvFault = false) ∧
    ∀ x y, (nearStep 9 98 x y).AcceptsPulse 100 := by
  refine ⟨?_, fun _ _ => near_accepts ..⟩
  unfold Store.AtRest Store.SystemPresent Store.Holds Store.NoneWriting
  decide +kernel

theorem witness_WindowCloses : let closed (c : Counting) := { c with hasClosed := true }
    let s := counts closed
    (stateIn .accessory).counting.windowTimer = none ∧
    (driving.counting.windowTimer.isSome = true ∧ driving.counting.hasClosed = false) ∧
    (s.counting.windowTimer.isSome = true ∧ s.counting.hasClosed = true ∧ s.arith.inFlight = none ∧ s.arith.list = []) ∧
    (let u := s.setArith (working (asked .speed) []).arith;
      u.counting.windowTimer.isSome = true ∧ u.counting.hasClosed = true ∧ u.arith.outstanding .speed = true) ∧
    (let u := s.setArith (working (asked .range) []).arith;
      u.counting.windowTimer.isSome = true ∧ u.counting.hasClosed = true ∧ u.arith.inFlight.isSome = true ∧
        u.arith.outstanding .speed = false) := by decide +kernel

theorem witness_SecondAdvancesClock :
    let late (c : Counting) := { c with hours := 23, minutes := 59, seconds := 59, dayCount := 65535, heldDays := 255 }
    let a := counts late
    let b := (stateIn .sleep).setCounting (late driving.counting)
    (ClockInRange a.counting ∧ a.counting.BeforeMidnight ∧ a.ign.awake = true) ∧
    (ClockInRange b.counting ∧ b.counting.BeforeMidnight ∧ b.ign.awake = false ∧ b.store.Settled) ∧
    (ClockInRange driving.counting ∧ ¬driving.counting.BeforeMidnight) := by
  unfold ClockInRange Counting.BeforeMidnight Store.Settled
  decide +kernel

theorem witness_TripTimeAdvances : ∀ x ∈ [Ign.run, .holdup, .sleep],
    let s := stateIn x
    s.ign = x ∧ s.store.AtRest ∧ s.store.SystemPresent ∧ ClockInRange s.counting ∧ ¬s.counting.BeforeMidnight := by
  unfold ClockInRange Counting.BeforeMidnight Store.AtRest Store.SystemPresent Store.Holds
  decide +kernel

theorem witness_FuelFilterMoves :
    let s (x : Freshness) (f raw : Option Nat) (speed n : Nat) : State :=
      (counts fun c => { c with fuel := f, rawFuel := raw, speed := speed, refuelTimer := n }).modifyEntry 2
        fun e => { e with state := x }
    (∀ n ∈ [8, 9], let t := s .fresh (some 100) (some 150) 19 n
      t.ign.awake = true ∧ (t.entry 2).state = .fresh ∧ t.counting.fuel = some 100 ∧ t.counting.rawFuel = some 150 ∧
        100 + t.cal.refuel ≤ 150 ∧ t.counting.speed < 20 ∧ t.counting.refuelTimer = n) ∧
    (let t := s .fresh (some 100) (some 150) 20 5;
      t.ign.awake = true ∧ (t.entry 2).state = .fresh ∧ ¬(100 + t.cal.refuel ≤ 150 ∧ t.counting.speed < 20)) ∧
    (let t := s .fresh (some 150) (some 100) 0 5;
      t.ign.awake = true ∧ (t.entry 2).state = .fresh ∧ ¬(150 + t.cal.refuel ≤ 100 ∧ t.counting.speed < 20)) ∧
    (stateIn .sleep).ign.awake = false ∧ ((s .stale (some 1) (some 2) 0 0).entry 2).state ≠ .fresh ∧
      (s .fresh none (some 2) 0 0).counting.fuel = none ∧ (s .fresh (some 1) none 0 0).counting.rawFuel = none := by
  decide +kernel

/-! ### Arithmetic unit -/

theorem witness_ScaleDivideRounds : ∀ x ∈ [(16777215, 65535, 16777215), (16777215, 65535, 1), (0, 65535, 1), (5, 0, 7), (9, 9, 0)],
    x.1 ≤ 16777215 ∧ x.2.1 ≤ 65535 ∧ x.2.2 ≤ 16777215 := by decide

theorem witness_CurveFollowsItsPoints : let c := (defaultGauges.getD 3 ⟨⟨[], []⟩, 0, 1⟩).curve
    c.xs.length = 9 ∧ c.ys.length = 9 ∧ c.ordered = true ∧ (∀ y ∈ c.ys, y ≤ 65534) ∧
    (0 : Int) ≤ (c.xs.getD 0 0 : Int) ∧ (c.xs.getD 8 0 : Int) ≤ 160 ∧
    ((c.xs.getD 4 0 : Int) ≤ 129 ∧ (129 : Int) < (c.xs.getD (4 + 1) 0 : Int) ∧ c.ys.getD (4 + 1) 0 = c.ys.getD 4 0) ∧
    ((c.xs.getD 0 0 : Int) ≤ 1 ∧ (1 : Int) < (c.xs.getD (0 + 1) 0 : Int) ∧ (c.xs.getD 0 0 : Int) < 1 ∧
      c.ys.getD 0 0 < c.ys.getD (0 + 1) 0) := by decide

theorem witness_CompletionHandsOver :
    let s := working (asked .inst) [asked .range, asked (.gauge 2), asked (.gauge 0)]
    driving.arith.inFlight = none ∧
    (s.arith.inFlight = some (asked .inst) ∧ (asked .inst).target ≠ .fuel ∧
      ((asked .inst).target = .speed → s.counting.notedPulses = none)) ∧
    (working (asked .speed) []).arith.list = [] ∧ s.arith.list[1]? = some (asked (.gauge 2)) ∧
    ∀ (j : Nat) (p : Request), s.arith.list[j]? = some p →
      (asked (.gauge 2)).target.rank < p.target.rank ∨ ((asked (.gauge 2)).target.rank = p.target.rank ∧ 1 ≤ j) :=
  ⟨rfl, ⟨rfl, by decide, by decide⟩, rfl, rfl, ofEach (by decide +kernel)⟩

theorem witness_ResultsReachTargets :
    (∀ x ∈ [Target.speed, .fuel, .inst, .range, .gauge 5],
      (working (asked x) []).arith.inFlight = some (asked x) ∧ (asked x).target = x) ∧
    (working (asked .fuel) []).counting.latestRaw = none ∧ 5 < (working (asked (.gauge 5)) []).gauges.gauges.length := by
  decide +kernel

theorem witness_ResultsReachTargets_noted : ∀ x ∈ [Ign.run, .accessory], let s := (stateIn x).setArith ⟨[], some (asked .speed), 0⟩
    let u := s.setCounting { s.counting with notedPulses := some 9 }
    u.arith.inFlight = some (asked .speed) ∧ u.counting.notedPulses = some 9 ∧ s.counting.notedPulses = none := by decide +kernel

theorem witness_RecordResultsNeedGeneration : ∀ k ∈ [TripRecord.a, .b, .journey], ∀ x ∈ [Target.economy k, .average k],
    ∀ g ∈ [0, 255], let r := { asked x with generation := g }
    let s := working r []
    s.arith.inFlight = some r ∧ s.store.SystemPresent ∧ (r.target = .economy k ∨ r.target = .average k) ∧
      (g = 0 → r.generation = (s.tripView k).generation) ∧ (g = 255 → r.generation ≠ (s.tripView k).generation) := by
  unfold Store.SystemPresent Store.Holds
  decide +kernel

theorem witness_TripPassAsks : ∀ x ∈ [Ign.run, .accessory], let s := stateIn x
    s.ign.keysAccepted = true ∧ s.store.AtRest ∧ s.store.SystemPresent ∧ ClockInRange s.counting ∧
      ¬s.counting.BeforeMidnight ∧ s.arith.Served := by
  unfold ClockInRange Counting.BeforeMidnight Store.AtRest Store.SystemPresent Store.Holds Arith.Served
  decide +kernel

/-! ### Keys and display port -/

/-- The keys with MODE, RESET or SET holding. -/
def held (k : Key) (h : Hold) (ks : Keys) : Keys := ks.put ⟨true, 0, true, false, h, 100⟩ k

theorem witness_PressesTurnPages :
    (∀ x ∈ [(Key.mode, Page.tripA), (.mode, .range), (.mode, .service), (.set, .tripA), (.set, .journey), (.set, .clock),
        (.set, .range), (.reset, .tripA), (.reset, .tripB), (.reset, .service), (.reset, .clock)],
      let s := keyed id x.2
      s.KeyReady x.1 ∧ s.store.Settled ∧ s.counting.clockSet = .normal ∧ x.1 ≠ .ack ∧
        (x.1 = .mode → s.trip.page = .clock → s.warningPage = true) ∧ s.warningPage = false ∧ s.trip.page = x.2) ∧
    ∀ k ∈ [Key.mode, .set, .reset], let s := (showing 2 0 true).setTrip { driving.trip with page := .clock }
      s.KeyReady k ∧ s.store.Settled ∧ s.counting.clockSet = .normal ∧ s.warningPage = true ∧ s.trip.page = .clock := by
  unfold State.KeyReady Store.Settled
  decide +kernel

theorem witness_ServicePageFetches :
    let s := (keyed id .clock).setService { driving.service with selected := some 7 }
    let t := s.setStore { restStore with lines := restStore.lines.set 5 .invalid }
    let down := keyed (held .mode .idle) .tripA
    let found := keyed (fun ks => ks.put ⟨true, 0, false, true, .idle, 0⟩ .mode) .tripA
    (s.KeyReady .mode ∧ s.counting.clockSet = .normal ∧ s.trip.page = .clock ∧ s.warningPage = false ∧
      s.store.Settled ∧ s.store.present (itemBlock 7) = true ∧ s.service.selected = some 7) ∧
    (t.KeyReady .mode ∧ t.counting.clockSet = .normal ∧ t.trip.page = .clock ∧ t.warningPage = false ∧
      t.service.selected = some 7 ∧ t.store.present (itemBlock 7) = false ∧ t.service.fetchMarks.length = 4) ∧
    (down.store.Settled ∧ (down.keys.get .mode).pressed = true) ∧
    (found.store.Settled ∧ (found.keys.get .mode).blocked = true) ∧
    (let u := stateIn .watch;
      u.store.Settled ∧ (u.keys.get .ack).pressed = false ∧ (u.keys.get .ack).blocked = false ∧
        u.ign.keysAccepted = false) := by
  unfold State.KeyReady Store.Settled
  decide +kernel

theorem witness_ClockIsSet :
    (keyed (held .set .clockSet) .clock).keys.set.hold = .clockSet ∧
    ∀ x ∈ [ClockSet.hourSet, .minuteSet],
      let s := counts fun c => { c with clockSet := x, keyIdle := some 1, hours := 23, minutes := 59 }
      s.counting.clockSet ≠ .normal ∧ s.counting.keyIdle.isSome = true ∧ s.store.Settled ∧ ClockInRange s.counting ∧
        ∀ k ∈ [Key.mode, .reset, .set], s.KeyReady k ∧ k ≠ .ack := by
  unfold State.KeyReady Store.Settled ClockInRange
  decide +kernel

theorem witness_TripResetClearsRecord : ∀ r ∈ [TripRecord.a, .b],
    let s := keyed (held .reset (.tripReset r)) .tripA
    s.keys.reset.hold = .tripReset r ∧ r ≠ .journey ∧ s.store.SystemPresent ∧ (s.store.presentLine r.block).isSome := by
  unfold Store.SystemPresent Store.Holds
  decide +kernel

theorem witness_ReleaseEndsHold : let s := keyed (held .mode (.serviceStep false)) .service
    ((s.keys.get .mode).pressed = true ∧ (s.keys.get .mode).hold = .serviceStep false) ∧
    ¬((s.keys.get .set).pressed = true ∧ (s.keys.get .set).hold = .serviceStep false) := by decide +kernel

theorem witness_SelectionSteps :
    let s (i : Nat) (h : Hold) (st : Store) : State :=
      ((keyed (fun ks => held .reset h (held .mode (.serviceStep false) ks)) .service).setService
        { driving.service with selected := some i }).setStore st
    let c := Instr.serviceStepHold
    let part := { restStore with lines := restStore.lines.set 1 .invalid }
    (∀ i ∈ [0, 1, 2, 3], (s i .idle restStore).keys.mode.hold = .serviceStep false ∧
      (s i .idle restStore).service.selected = some i ∧ (s i .idle restStore).itemActive i = true) ∧
    (∀ n, 1 < n → n < 2 → (s 1 .idle restStore).itemActive n = false) ∧
    (∀ n < 8, 3 < n → (s 3 .idle restStore).itemActive n = false) ∧
    ((after c (s 1 .idle part)).service.selected = some 2 ∧ (s 1 .idle part).store.present (itemBlock 2) = false ∧
      (s 1 .idle part).service.fetchMarks.length = 4) ∧
    ((s 1 .serviceReset restStore).keys.reset.hold = .serviceReset ∧
      (after c (s 1 .serviceReset restStore)).service.selected ≠ some 1) ∧
    ((∀ j < 8, restStore.present (itemBlock j) = true) ∧ restStore.Settled) := by
  unfold Store.Settled
  refine ⟨?_, ?_, ?_⟩
  · decide +kernel
  · intro n h k; omega
  · decide +kernel

theorem witness_ServiceResetRestoresIntervals :
    let s := ((keyed (held .reset .serviceReset) .service).setService { driving.service with selected := some 0 })
    let f := s.itemFigures 0
    0 < s.service.items.length ∧ s.itemActive 0 = true ∧ s.store.AtRest ∧ s.store.NoneWriting ∧ s.store.pwrGood = true ∧
      s.store.nvFault = false ∧ s.store.SystemPresent ∧ s.store.Holds (itemBlock 0) ∧ f.distanceInterval ≤ 32000 ∧
      f.dayInterval ≤ 32000 ∧ (f.distanceInterval ≠ 0 → f.aheadKm < f.distanceInterval) ∧
      (f.dayInterval ≠ 0 → f.aheadDays < f.dayInterval) ∧
      (s.keys.reset.hold = .serviceReset ∧ s.ign = .run ∧ s.counting.speed < 20 ∧ s.warningPage = false ∧
        s.trip.page = .service ∧ s.service.selected = some 0) ∧ s.TakesRequest := by
  unfold Store.AtRest Store.NoneWriting Store.SystemPresent Store.Holds State.TakesRequest LineStation.Open
  decide +kernel

theorem witness_DisplayPortSends : driving.ign.awake = true ∧ driving.display.timer.isSome = true ∧
    driving.display.transfer = none ∧
    ∀ b : Bool, let s := driving.setDisplay ⟨some [], none, b, some 1⟩
      s.ign.awake = true ∧ s.display.timer.isSome = true ∧ s.display.transfer.isSome = true ∧
        s.display.sendPending = b := by decide +kernel

/-! ### Line station and topic table -/

theorem witness_LineStatesFollowTable : driving.line.state ≠ .sending ∧ driving.line.state ≠ .breaking ∧
    (lined fun l => { l with state := .breaking }).line.state = .breaking := by decide +kernel

theorem witness_SendingTakesTheHead :
    let q := [msg 1 0x40 false false, msg 0 0x44 false false, msg 0 0x43 false false]
    let s := lined fun l => { l with queue := q }
    let own (n : Nat) : Msg := { msg 3 0x70 true true with answer := .own, attempts := n }
    let u (n : Nat) := lined fun l => { l with state := .sending, queue := [msg 1 0x40 false false, own n] }
    (s.line.state = .quiet ∧ s.ign.awake = true ∧ IsHead s.line.queue 1 (msg 0 0x44 false false)) ∧
    ∀ n ∈ [14, 15], (u n).line.state = .sending ∧ (u n).ign ≠ .holdup ∧ (u n).line.queue[1]? = some (own n) ∧
      (own n).sending = true ∧ (∀ j n', j < 1 → (u n).line.queue[j]? = some n' → n'.sending = false) ∧
      (own n).attempts = n := by
  refine ⟨⟨rfl, rfl, rfl, ?_, ?_⟩, ?_⟩
  · exact fun j n hj => ofEach (p := fun j n => j < 1 → n.topic ≠ 0x44) (by decide +kernel) j n |> fun h e => h e hj
  · exact fun j n e _ => ofEach (p := fun j n => 0 < n.cls ∨ (0 = n.cls ∧ 1 ≤ j)) (by decide +kernel) j n e
  · intro n hn
    refine ⟨rfl, show Ign.run ≠ .holdup by decide, rfl, rfl, fun j m hj e => ?_, rfl⟩
    obtain rfl : j = 0 := by omega
    cases e
    rfl

/-- A queue of twelve started messages of class `c`, the first of them being sent. -/
def fullQueue (c : Nat) : List Msg := msg 1 0x42 true true :: List.replicate 11 (msg c 0x41 true false)

theorem witness_PublicationsAreQueued :
    let s (q : List Msg) := lined fun l => { l with queue := q }
    (driving.line.rate40.isSome = true ∧ driving.line.Open 0x40) ∧
    (let q := [msg 1 0x40 true true, msg 1 0x40 false false];
      (s q).line.queue[1]? = some (msg 1 0x40 false false) ∧
      ∀ j n, j < 1 → (s q).line.queue[j]? = some n → n.topic = 0x40 → n.started = true) ∧
    ((s (fullQueue 1)).line.queue.length = 12 ∧ (∀ m ∈ (s (fullQueue 1)).line.queue, m.topic = 0x40 → m.started = true) ∧
      ∀ m ∈ (s (fullQueue 1)).line.queue, m.sending = false → m.cls ≤ 1) ∧
    ((s (fullQueue 2)).line.queue.length = 12 ∧ (∀ m ∈ (s (fullQueue 2)).line.queue, m.topic = 0x40 → m.started = true) ∧
      (s (fullQueue 2)).line.queue[1]? = some (msg 2 0x41 true false) ∧
      ∀ j n, (s (fullQueue 2)).line.queue[j]? = some n → n.sending = false → n.cls < 2 ∨ (n.cls = 2 ∧ 1 ≤ j)) ∧
    (driving.line.rate41.isSome = true ∧ driving.line.Open 0x41 ∧ driving.store.odometer = some (0, true) ∧
      (stored fun st => { st with lines := st.lines.set 0 .invalid }).store.odometer = none) ∧
    (driving.arbiter.rate43.isSome = true ∧ driving.line.Open 0x43 ∧ driving.arbiter.warnings.length = 32 ∧
      driving.shown = none ∧ (showing 2 0 true).shown = some 2) := by
  unfold LineStation.Open
  refine ⟨by decide +kernel, ⟨rfl, fun j m hj e => ?_⟩, by decide +kernel, ⟨by decide +kernel, by decide +kernel, rfl, ?_⟩,
    by decide +kernel, by decide +kernel⟩
  · obtain rfl : j = 0 := by omega
    cases e
    decide
  · exact ofEach (by decide +kernel)

/-- A message of a kind, source, topic, sequence and data, with its check byte. -/
def frame (kind source topic seq : Nat) (data : List Byte) : List Byte :=
  let body := [byteOf (16 * kind + source), byteOf topic, byteOf (16 * seq + data.length)] ++ data
  body ++ [checkByteOf body]

/-- `driving` while it gathers a message. -/
def gathering : State := lined fun l => { l with state := .receiving }

theorem witness_ReceptionChecksDecide :
    let s (x : Ign) : State := (stateIn x).setLine gathering.line
    let windows := windowZero :: gathering.cal.windows
    gathering.ign ≠ .load ∧
    ¬(driving.line.state = .receiving ∧ driving.line.awaitsRelease = false) ∧
    (gathering.line.state = .receiving ∧ gathering.line.awaitsRelease = false ∧ ¬ValidFrame [1, 2, 3] false ∧
      ¬ValidFrame (frame 0 3 0x11 0 [0, 0]) true) ∧
    ((s .load).ign = .load ∧ (s .load).line.state = .receiving ∧ ValidFrame (frame 0 3 0x11 0 [0, 0]) false) ∧
    (ValidFrame (frame 0 2 0x11 0 []) false ∧ frameSource (frame 0 2 0x11 0 []) = gathering.cal.station) ∧
    (let f := frame 0 4 0x11 0 [0, 0];
      ValidFrame f false ∧ frameSource f ≠ gathering.cal.station ∧ ∀ w ∈ windows, ¬w.LetsIn f) ∧
    (let f := frame 2 3 0x11 0 [0, 0, 0, 0, 0, 0, 0, 0];
      ValidFrame f false ∧ frameSource f ≠ gathering.cal.station ∧ (∃ w ∈ windows, w.LetsIn f) ∧ frameKind f ≠ 0 ∧
        frameKind f ≠ 1) := by
  unfold ValidFrame ListenWindow.LetsIn
  refine ⟨?_, ?_, ?_, ?_, ?_, ?_, ?_⟩ <;> decide +kernel

/-- A chauffeur's message with the rear warning bits. -/
def rearFrame : List Byte := frame 0 5 0x30 4 [0x03, 0x01, 0]

/-- `gathering` with entry 4 used for topic 50h and a window for it. -/
def gatheringMore : State :=
  (gathering.setCal { gathering.cal with windows := ⟨0x50, 0x50, none, true⟩ :: gathering.cal.windows }).modifyEntry 4
    fun e => { e with topic := 0x50, length := 1, limit := 5, used := true }

theorem witness_ArrivalsAreTaken :
    (∀ x ∈ [(1, frame 0 3 0x11 0 [0]), (1, frame 0 3 0x11 0 [0, 0]), (3, rearFrame), (4, frame 0 9 0x50 15 [7])],
      gatheringMore.Hears x.2 ∧ gatheringMore.EntryOf x.2 x.1) ∧
    frameLength (frame 0 3 0x11 0 [0]) ≠ (gatheringMore.entry 1).length ∧
    frameLength (frame 0 3 0x11 0 [0, 0]) = (gatheringMore.entry 1).length ∧
    (frameLength rearFrame = (gatheringMore.entry 3).length ∧ gatheringMore.arbiter.subs[0]? = some .none) ∧
    frameLength (frame 0 9 0x50 15 [7]) = (gatheringMore.entry 4).length := by
  unfold State.Hears State.EntryOf ValidFrame ListenWindow.LetsIn
  decide +kernel

theorem witness_FuelTotalsAreAdded :
    let s (ref : Option Nat) := gathering.setCounting { gathering.counting with fuelReference := ref }
    (∀ v ∈ [65535, 0, 1999], ∀ ref ∈ [none, some 65535, some 65534],
      let f := frame 0 3 0x11 0 (bytes2 v)
      (s ref).Hears f ∧ (s ref).EntryOf f 1) ∧
    (∀ ref ∈ [none, some 65535, some 65534], ((s ref).entry 1).length = 2 ∧ (s ref).store.SystemPresent ∧
      (s ref).counting.fuelReference = ref) ∧
    (∀ v ∈ [65535, 0, 1999], frameLength (frame 0 3 0x11 0 (bytes2 v)) = 2 ∧
      wordAt (frame 0 3 0x11 0 (bytes2 v)) 3 = v) ∧ 2000 < (1999 + 65536 - 65534) % 65536 ∧ (1999 + 65536 - 65535) % 65536 ≤ 2000 := by
  unfold State.Hears State.EntryOf ValidFrame ListenWindow.LetsIn Store.SystemPresent Store.Holds
  decide +kernel

theorem witness_EntriesAge :
    let s (x : Freshness) (age : Nat) (n : Nat) : State :=
      (((counts fun c => { c with turnActive := true, turnTicks := n }).modifyEntry 0
        fun e => { e with state := x, age := age }).modifyEntry 1 fun e => { e with state := x, age := age }).modifyGauge 1
          fun g => { g with state := .hold }
    (stateIn .sleep).topics.tick = none ∧
    (∀ x ∈ [(Freshness.empty, 0), (.fresh, 2), (.fresh, 1), (.stale, 1)], let t := s x.1 x.2 0
      t.topics.tick.isSome = true ∧ t.topics.entries.length = 16 ∧ (t.entry 0).used = true ∧
        (t.entry 0).state = x.1 ∧ (t.entry 0).age = x.2 ∧ (t.gauge 1).state = .hold) ∧
    (∀ n ∈ [8, 9], ∀ e < 16, let t := s .fresh 5 n
      ¬((t.entry e).used = true ∧ (t.entry e).state = .stale ∧ (t.entry e).age = 1) ∧ t.counting.turnActive = true ∧
        t.counting.turnTicks = n) ∧
    (driving.entry 4).used = false ∧ driving.counting.turnActive = false := by decide +kernel

/-! ### Gauges -/

theorem witness_DampingArrives : ∀ x ∈ [(0, 0), (767, 12272), (0, 12272), (767, 0)], x.1 ≤ 767 ∧ x.2 ≤ 12272 := by decide

/-- `driving` with gauge `i` in a state, and entries 0 and 2 FRESH or STALE with these data. -/
def gauged (i : Nat) (x : GaugeState) (evaluated : Option Nat) (park : Nat) (e : Freshness) : State :=
  ((driving.modifyGauge i fun g => { g with state := x, evaluated := evaluated, parkCount := park }).modifyEntry 0
    fun f => { f with state := e, data := [3, 232, 60, 90, 1] }).modifyEntry 2
      fun f => { f with state := e, data := [60, 200, 20, 0, 0] }

theorem witness_GaugesFollowInputs :
    let s := gauged 1
    driving.gauges.timer.isSome = true ∧ driving.gauges.gauges.length = 6 ∧
    (∀ n ∈ [0, 1, 2], ((s .parked none n .fresh).gauge 1).state = .parked ∧
      ((s .parked none n .fresh).gauge 1).parkCount = n) ∧
    ((s .sweep none 0 .fresh).gauge 1).state = .sweep ∧
    (∀ x ∈ [GaugeState.track, .hold, .rest], ((s x none 0 .lost).gauge 1).state = x ∧ (s x none 0 .lost).gaugeInput 1 = none ∧
      (s x none 0 .fresh).gaugeInput 1 = some ⟨1000, false⟩ ∧ (s x none 0 .stale).gaugeInput 1 = some ⟨1000, true⟩) ∧
    ((s .track (some 999) 0 .fresh).arith.outstanding (.gauge 1) = false ∧
      ((s .track (some 999) 0 .fresh).gauge 1).evaluated ≠ some 1000 ∧
      ((s .track (some 1000) 0 .stale).gauge 1).evaluated = some 1000) ∧
    (let u := gauged 3 .track none 0 .fresh;
      u.gaugeInput 3 = some ⟨60, false⟩ ∧ ∃ n k c y, (u.gaugeFigures 3).curve.evaluate 60 = .request n k c y) ∧
    (let u := gauged 0 .track none 0 .fresh;
      u.gaugeInput 0 = some ⟨0, false⟩ ∧ (u.gaugeFigures 0).curve.evaluate 0 = .direct 0) := by
  refine ⟨?_, ?_, ?_, ?_, ?_, ?_, ⟨?_, _, _, _, _, rfl⟩, ?_⟩ <;> decide +kernel

theorem witness_SweepMovesTogether :
    let s (p : Nat) (test : Bool) := driving.setGauges { driving.gauges with sweep := some p, testMark := test }
    (∀ p ∈ [0, 74, 75, 148, 149], (s p false).gauges.sweep = some p ∧ (s p false).gauges.testMark = false ∧
      (s p false).gauges.gauges.length = 6) ∧
    ((s 149 true).gauges.testMark = true ∧ (s 149 true).line.Open 0x70) ∧ driving.gauges.sweep = none ∧
    ((gauged 5 .parked none 1 .fresh).gauge 5).state = .parked ∧ 0 < ((gauged 5 .parked none 1 .fresh).gauge 5).parkCount := by
  unfold LineStation.Open
  decide +kernel

/-! ### Rules and warnings -/

theorem witness_EvaluationMovesSlots : driving.rules.timer.isSome = true ∧ driving.arbiter.warnings.length = 32 ∧
    driving.record 17 = none ∧ driving.record 1 = some (builtInRule 1 158 3 30 30) ∧
    driving.gate (builtInRule 1 158 3 30 30).gate = true ∧ driving.record 3 = some (builtInRule 3 0 0 10 0) ∧
    driving.gate (builtInRule 3 0 0 10 0).gate = false := by decide +kernel

theorem orders_of (s : State) (h : s.arbiter.warnings.length = 32)
    (hc : s.arbiter.cautionOrder = driving.arbiter.cautionOrder) (ha : s.arbiter.advisoryOrder = driving.arbiter.advisoryOrder)
    (k : s.cal.warnings = builtInDefaults.warnings) : s.OrdersComplete := by
  refine orders_formed s h (hc.trans ?_) (ha.trans ?_) <;>
    simp only [State.formedOrder, State.warningClass, State.warningFigures, k] <;> rfl

theorem witness_SelectionShowsTheMostUrgent :
    let s := showing 2 39 true
    s.OrdersComplete ∧ s.shownCount ≤ 1 ∧ s.ReachesArbiter .evaluation ∧ s.ReachesArbiter .arbiterTick ∧
      s.ReachesArbiter .shownTimerExpiry ∧ s.ReachesArbiter (.reminderTimerExpiry 31) ∧
      s.ReachesArbiter (.patternComplete 0) ∧ s.ReachesArbiter (.serviceEdgeRequest .due) ∧ s.ReachesArbiter (.keyPress .ack) :=
  ⟨orders_of _ rfl rfl rfl rfl, by decide +kernel, rfl, rfl, trivial, trivial, trivial, rfl, rfl, rfl, rfl⟩

/-- The conditions of `ServiceOrdered` at every two warnings. -/
def ordered (s : State) : Bool :=
  let serves (v : Nat) : Bool := decide ((s.warning v).state ∈ [.shown, .held])
  (List.range 32).all fun v => (List.range 32).all fun w => decide (v = w) || !serves v || !serves w ||
    decide ((s.warningClass v).rank ≠ (s.warningClass w).rank ∧
      ((s.warning v).state = .shown → (s.warningClass v).rank < (s.warningClass w).rank))

theorem ordered_of (s : State) (h : ordered s = true) : s.ServiceOrdered := by
  intro v w hv hw n sv sw
  simp only [ordered, List.all_eq_true, List.mem_range, Bool.or_eq_true, decide_eq_true_eq, Bool.not_eq_true',
    decide_eq_false_iff_not] at h
  rcases h v hv w hw with ((k | k) | k) | k
  exacts [absurd k n, absurd sv k, absurd sw k, k]

theorem witness_SelectionShowsTheMostUrgent_steps :
    let s := withWarning (showing 1 5 true) 2 ⟨.held, true, 0, false, 0⟩
    let u := s.setPending [.arbiterTick]
    s.ign ≠ .load ∧ s.OrdersComplete ∧ s.ServiceOrdered ∧ s.OrdersOnce ∧ s.shownCount = 1 ∧ (s.warning 2).state = .held ∧
      (∃ t, step s = .next t) ∧ u.OrdersComplete ∧ u.ServiceOrdered ∧ u.OrdersOnce ∧ ∃ t, step u = .next t := by
  unfold State.OrdersOnce
  refine ⟨?_, orders_of _ rfl rfl rfl rfl, ordered_of _ ?_, ?_, ?_, rfl, ⟨_, rfl⟩, orders_of _ rfl rfl rfl rfl, ordered_of _ ?_,
    ?_, steps _ _⟩ <;> decide +kernel

theorem witness_RequestsRaiseWarnings :
    let s := showing 2 0 true
    let off := s.setCal { s.cal with warnings := s.cal.warnings.map fun f => { f with enabled := false } }
    let quiet := withWarning driving 2 ⟨.silenced, true, 0, false, 1⟩
    (s.OrdersComplete ∧ s.MostUrgentShown ∧ s.ign.awake = true ∧ (s.warningFigures 27).enabled = true ∧
      (s.warning 27).state = .off ∧ s.line.Open 0x43 ∧ (s.warning 2).state = .shown) ∧
    (off.MostUrgentShown ∧ off.ign.awake = true ∧ (off.warningFigures 29).enabled = false) ∧
    (stateIn .sleep).OrdersComplete ∧ (stateIn .sleep).MostUrgentShown ∧ (stateIn .sleep).ign.awake = false ∧
    (quiet.OrdersComplete ∧ quiet.MostUrgentShown ∧ (quiet.warning 2).state = .silenced ∧
      0 < (quiet.warning 2).reminder) :=
  ⟨⟨orders_of _ rfl rfl rfl rfl, urgent_of _ (by decide +kernel), rfl, rfl, rfl, ⟨by decide, rfl⟩, rfl⟩,
    ⟨urgent_of _ (by decide +kernel), rfl, rfl⟩, orders_of _ rfl rfl rfl rfl, urgent_of _ (by decide +kernel), rfl,
    orders_of _ rfl rfl rfl rfl, urgent_of _ (by decide +kernel), rfl, by decide⟩

theorem witness_AcknowledgementsAreTaken :
    let s := showing 1 29 true
    let u := showing 1 30 false
    let v (n : Nat) (done : Bool) := withWarning driving 26 ⟨.shown, true, n, done, 0⟩
    (s.OrdersComplete ∧ s.MostUrgentShown ∧ s.KeyReady .ack ∧ (s.warning 1).state = .shown ∧
      s.counting.clockSet = .normal ∧ s.store.Settled ∧ s.warningClass 1 = .danger ∧ (s.warning 1).shownTimer < 30 ∧
      s.TakesRequest ∧ s.line.queue.length < 11 ∧ s.line.Open 0x43) ∧
    (u.OrdersComplete ∧ u.MostUrgentShown ∧ u.KeyReady .ack ∧ (u.warning 1).state = .shown ∧
      ¬(u.warningClass 1 = .danger ∧ (u.warning 1).shownTimer < 30)) ∧
    (driving.OrdersComplete ∧ driving.MostUrgentShown ∧ driving.TakesRequest ∧ (driving.warning 1).state = .off) ∧
    ∀ n ∈ [39, 40], ∀ done : Bool, (v n done).OrdersComplete ∧ (v n done).MostUrgentShown ∧
      ((v n done).warning 26).state = .shown ∧ (v n done).warningClass 26 = .information ∧
      ((v n done).warning 26).shownTimer = n ∧ ((v n done).warning 26).completed = done := by
  refine ⟨⟨orders_of _ rfl rfl rfl rfl, urgent_of _ (by decide +kernel), ⟨rfl, rfl, rfl⟩, rfl, rfl, ⟨rfl, rfl, rfl⟩, rfl,
    by decide, ⟨rfl, rfl, by decide, rfl⟩, by decide, by decide, rfl⟩, ⟨orders_of _ rfl rfl rfl rfl,
    urgent_of _ (by decide +kernel), ⟨rfl, rfl, rfl⟩, rfl, by decide⟩, ⟨orders_of _ rfl rfl rfl rfl,
    urgent_of _ (by decide +kernel), ⟨rfl, rfl, by decide, rfl⟩, rfl⟩, ?_⟩
  exact fun n _ done => ⟨orders_of _ rfl rfl rfl rfl, urgent_of _ (by revert n done; decide +kernel), rfl, rfl, rfl, rfl⟩

/-- A warning that the review comes to from the reviewed one `r`, if there is one. -/
def comesNext (s : State) (r : Option Nat) (v : Nat) : Bool :=
  (s.warning v).state == .silenced && match r with
    | none => true
    | some x => decide ((s.warningClass x).rank < (s.warningClass v).rank) || (s.warningClass x == s.warningClass v &&
        match s.warningClass v with
        | .caution => decide (s.arbiter.cautionOrder.idxOf x < s.arbiter.cautionOrder.idxOf v)
        | .advisory => decide (s.arbiter.advisoryOrder.idxOf x < s.arbiter.advisoryOrder.idxOf v)
        | .danger | .information => decide (x < v))

theorem comesNext_iff (s : State) (v : Nat) (hv : v < 32) :
    comesNext s (s.arbiter.review.map (·.warning)) v = true ↔ v < 32 ∧ (s.warning v).state = .silenced ∧
      ∀ r, s.arbiter.review = some r → s.ReviewedBefore r.warning v := by
  cases h : s.arbiter.review with
  | none => simp [comesNext, hv]
  | some r => cases k : s.warningClass v <;> simp [comesNext, State.ReviewedBefore, hv, k]

theorem goes_of (s : State) (w : Nat) (hw : w < 32) (h : comesNext s (s.arbiter.review.map (·.warning)) w = true)
    (k : ∀ v < 32, comesNext s (s.arbiter.review.map (·.warning)) v = true → v = w) : s.ReviewGoesTo w :=
  ⟨(comesNext_iff s w hw).mp h, fun v hv => .inl (k v hv.1 ((comesNext_iff s v hv.1).mpr hv))⟩

theorem goes_nowhere (s : State) (h : ∀ v < 32, comesNext s (s.arbiter.review.map (·.warning)) v = false) (v : Nat) :
    ¬s.ReviewGoesTo v := fun k => by simpa [h v k.1.1] using (comesNext_iff s v k.1.1).mpr k.1

/-- `driving` with warnings 1 and 3 SILENCED, or 3 alone, and a review at a warning. -/
def reviewing (both : Bool) (r : Option Nat) : State :=
  let s := withWarning driving 3 ⟨.silenced, true, 0, false, 9⟩
  let u := if both then withWarning s 1 ⟨.silenced, true, 0, false, 600⟩ else s
  u.setArbiter { u.arbiter with review := r.map fun w => ⟨w, 5⟩ }

theorem witness_AcknowledgementsAreTaken_review :
    (reviewing false none).ReviewGoesTo 3 ∧ (reviewing true (some 1)).ReviewGoesTo 3 ∧
      (∀ v, ¬(reviewing true (some 3)).ReviewGoesTo v) ∧ (∀ v, ¬driving.ReviewGoesTo v) ∧
      (∀ w ∈ [1, 3], ∀ r, (reviewing true (some w)).arbiter.review = some r →
        r.warning < 32 ∧ ((reviewing true (some w)).warning r.warning).state = .silenced) ∧
      ∀ u ∈ [driving, reviewing false none, reviewing true (some 1), reviewing true (some 3)], u.OrdersComplete ∧
        u.MostUrgentShown ∧ u.KeyReady .ack ∧ u.OrdersOnce ∧ u.counting.clockSet = .normal ∧ u.store.Settled ∧
        ∀ v < 32, (u.warning v).state ≠ .shown := by
  refine ⟨goes_of _ 3 (by decide) ?_ ?_, goes_of _ 3 (by decide) ?_ ?_, goes_nowhere _ ?_, goes_nowhere _ ?_,
    fun w hw => ?_, fun u hu => ?_⟩
  iterate 6 decide +kernel
  · fin_cases hw <;> exact ofSome rfl ⟨by decide, rfl⟩
  · unfold State.OrdersOnce State.KeyReady Store.Settled
    fin_cases hu <;> exact ⟨orders_of _ rfl rfl rfl rfl, urgent_of _ (by decide +kernel), by decide +kernel⟩

/-- `driving` with warning 30 active, these rear sub-warnings and the presented one. -/
def rear (x : WarningState) (subs : List SubState) (p : Option Nat) : State :=
  let s := withWarning driving 30 ⟨x, true, if x = .shown then 30 else 0, false, 0⟩
  s.setArbiter { s.arbiter with subs := subs ++ List.replicate (8 - subs.length) .none, presented := p }

theorem witness_AcknowledgementsAreTaken_thirty :
    let more := rear .shown [.none, .opened, .opened] (some 2)
    let last := rear .shown [.opened, .ackedLocal] (some 0)
    let waits := withWarning (rear .pending [.none, .opened, .opened] none) 1 ⟨.shown, true, 0, false, 0⟩
    let held := withWarning (rear .held [.opened] (some 0)) 1 ⟨.shown, true, 0, false, 0⟩
    (∀ s ∈ [more, last, waits, held], s.OrdersComplete ∧ s.MostUrgentShown ∧ (s.warning 30).level = true ∧ s.TakesRequest ∧
      s.arbiter.subs.length = 8 ∧ s.line.queue.length < 10) ∧
    (∀ s ∈ [more, last], (s.warning 30).state = .shown ∧ s.KeyReady .ack ∧
      ¬(s.warningClass 30 = .danger ∧ (s.warning 30).shownTimer < 30)) ∧
    (more.arbiter.presented = some 2 ∧ (more.arbiter.subs.set 2 .ackedLocal)[1]? = some .opened ∧
      (more.arbiter.subs.set 2 .ackedLocal)[0]? ≠ some .opened) ∧
    (last.arbiter.presented = some 0 ∧ .opened ∉ last.arbiter.subs.set 0 .ackedLocal) ∧
    ((waits.warning 30).state = .pending ∧ waits.arbiter.subs[1]? = some .opened ∧ ∀ j < 1, waits.arbiter.subs[j]? ≠ some .opened) ∧
    ((held.warning 30).state = .held ∧ held.arbiter.presented = some 0 ∧ .opened ∉ held.arbiter.subs.set 0 .ackedLocal) := by
  unfold State.TakesRequest LineStation.Open State.KeyReady
  refine ⟨fun s hs => ?_, ?_, ?_, ?_, ?_, ?_⟩
  · fin_cases hs <;> exact ⟨orders_of _ rfl rfl rfl rfl, urgent_of _ (by decide +kernel), by decide +kernel⟩
  all_goals decide +kernel

theorem witness_ArbiterTickCounts :
    let s := withWarning (showing 2 39 true) 3 ⟨.silenced, true, 0, false, 2⟩
    let u (n : Nat) := s.setArbiter { s.arbiter with review := some ⟨3, n⟩ }
    driving.arbiter.review = none ∧ s.arbiter.review = none ∧
    ∀ n ∈ [1, 2], (u n).arbiter.tick.isSome = true ∧ (u n).OrdersComplete ∧ (u n).MostUrgentShown ∧
      (∀ w < 32, ((u n).warning w).state = .silenced → ((u n).warning w).reminder ≠ 1) ∧
      (∀ w < 32, ((u n).warning w).state = .shown → (u n).warningClass w = .information →
        ((u n).warning w).completed = false) ∧ ((u n).warning 3).state = .silenced := by
  refine ⟨rfl, rfl, fun n hn => ⟨rfl, orders_of _ rfl rfl rfl rfl, urgent_of _ ?_, ?_, ?_, rfl⟩⟩ <;> revert n <;> decide +kernel

/-! ### Sound and lamps -/

/-- `driving` with a chime channel state, pattern, warning and repeat count. -/
def sounding (x : Channel) (p w n : Nat) : State :=
  let s := withWarning driving w ⟨.shown, true, 39, false, 0⟩
  s.setSound { s.sound with channel := x, playing := some ⟨p, w⟩, repeats := n, output := .chime }

theorem witness_SoundTimersAct :
    ((sounding .on 0 1 0).sound.channel = .on ∧ (sounding .on 0 1 0).current.offTime ≠ 0 ∧
      (sounding .off 0 1 254).sound.channel = .off ∧ (sounding .off 0 1 254).current.repeats = 0 ∧
      (sounding .off 0 1 254).sound.onIndex < 255) ∧
    (let s := sounding .off 1 2 4;
      s.OrdersComplete ∧ s.MostUrgentShown ∧ s.sound.channel = .off ∧ s.current.repeats ≠ 0 ∧
        s.sound.repeats + 1 = s.current.repeats ∧ s.sound.playing = some ⟨1, 2⟩ ∧ s.warningClass 2 ≠ .information) ∧
    (let s := sounding .off 3 26 1;
      s.OrdersComplete ∧ s.MostUrgentShown ∧ s.current.repeats ≠ 0 ∧ s.sound.repeats + 1 = s.current.repeats ∧
        s.sound.playing = some ⟨3, 26⟩ ∧ (s.warning 26).state = .shown ∧ s.warningClass 26 = .information ∧
        (s.warning 26).shownTimer < 40) ∧
    ((sounding .on 5 31 0).sound.channel = .on ∧ (sounding .on 5 31 0).current.offTime = 0 ∧
      (sounding .off 1 2 3).sound.repeats + 1 ≠ (sounding .off 1 2 3).current.repeats) ∧
    (driving.sound.channel = .idle ∧ (sounding .done 0 1 0).sound.channel = .done ∧
      (sounding .carry 0 1 0).sound.channel = .carry ∧ (sounding .carry 0 1 0).sound.playing = some ⟨0, 1⟩) ∧
    ((stateIn .sleep).ign.awake = false ∧
      (driving.setSound { driving.sound with bulbCheck := some 1 }).sound.bulbCheck.isSome = true ∧
      driving.ign.awake = true ∧ driving.sound.bulbCheck = none ∧ driving.cal.lamps[0]? = some .warning ∧
      (sounding .on 0 0 0).cal.lamps[0]? = some .warning ∧ ((sounding .on 0 0 0).warningFigures 0).lamp = some 0 ∧
      ((sounding .on 0 0 0).warning 0).state = .shown ∧
      ∀ w < 32, (driving.warningFigures w).lamp = some 0 → (driving.warning w).state ≠ .shown) := by
  refine ⟨by decide +kernel, ⟨orders_of _ rfl rfl rfl rfl, urgent_of _ (by decide +kernel), ?_⟩,
    ⟨orders_of _ rfl rfl rfl rfl, urgent_of _ (by decide +kernel), ?_⟩, by decide +kernel, by decide +kernel, by decide +kernel⟩ <;>
    decide +kernel

theorem witness_SoundTimersAct_output : driving.sound.output = .silent ∧
    (sounding .on 0 1 0).snd = some (7, true) ∧ (sounding .on 2 27 0).snd = some (2, false) ∧
    (driving.setSound { driving.sound with output := .click }).snd = some (7, false) := by decide +kernel

/-! ### Record store and load -/

/-- A resting store whose line 7 fills block `b`, with a workshop task; the block reads as 16 bytes `x`. -/
def fillingStore (b : Nat) (x : Byte) (task : Task) : Store :=
  { restStore with
    orders := [.fill b], op := some (.readFill b), task := task, lines := restStore.lines.set 7 (.filling b)
    nv := restStore.nv.writeMany (16 * b) (List.replicate 16 x) }

/-- The sum of 16 bytes `x` at block `b` of a filling store. -/
def checkSum (st : Store) (b : Nat) : Byte := byteSum ((List.range 16).map fun j => st.nv.read (16 * b + j))

theorem witness_BlockReadsEnd :
    (∀ x ∈ [Task.none, .fetch 7 true, .fetch 7 false, .read 7 11, .write 7 0 [1]],
      let s := driving.setStore (fillingStore 7 0 x)
      s.ign ≠ .load ∧ s.store.waiting = [] ∧ s.store.op = some (.readFill 7) ∧ s.store.orders = [.fill 7] ∧
        s.store.find 7 = some 7 ∧ (s.store.line 7).state = .filling ∧ s.store.task = x ∧ s.line.Open 0x70 ∧
        s.store.latch = false) ∧
    checkSum (fillingStore 7 0 .none) 7 = 0 ∧ checkSum (fillingStore 7 0x11 .none) 7 ≠ 0 ∧
    (∀ b ∈ [0, 63], let s := stored fun st => { st with op := some (.readVerify b), orders := [.verify b], task := .verify b }
      s.store.op = some (.readVerify b) ∧ s.store.orders = [.verify b] ∧ s.line.Open 0x70 ∧
        s.store.present b = decide (b = 0)) := by
  unfold LineStation.Open
  decide +kernel

/-- A resting store whose line 6, of block 3, is in a state and is to be written. -/
def writingStore (x : LineState) (redirty w : Bool) (op : Option EngineOp) : Store :=
  { restStore with
    orders := [.single 3 w none], op := op, task := if w then .writeback 3 else .none
    lines := restStore.lines.modify 6 fun l => { l with state := x, redirty := redirty } }

theorem witness_BlockWritesEnd :
    let op := some (EngineOp.write 6 (List.replicate 15 0) .single 4)
    (driving.store.writing = false ∧ driving.store.Settled) ∧
    (∀ redirty w : Bool, let s := driving.setStore (writingStore .writing redirty w op)
      s.ign ≠ .holdup ∧ s.store.nv.wf = true ∧ s.store.orders = [.single 3 w none] ∧ s.store.waiting = [] ∧
        s.store.task = (if w then .writeback 3 else .none) ∧ s.store.find 3 = some 6 ∧ s.line.Open 0x70 ∧
        s.store.op = op ∧ (s.store.line 6).state = .writing ∧ s.store.nvFault = false) ∧
    (let s := driving.setStore { writingStore .dirty false true none with pwrGood := false };
      s.store.op = none ∧ (s.store.line 6).state = .dirty ∧ s.store.nvFault = false ∧ s.store.nv.wf = true ∧
        s.store.find 3 = some 6 ∧ s.line.Open 0x70) := by
  unfold LineStation.Open Store.Settled
  decide +kernel

/-- The part in LOAD awaiting the fill of block `b` into line `i`, the block's 16 bytes all `x`. -/
def loading (b i : Nat) (x : Byte) : State :=
  let r := State.reset
  (r.setIgnition { r.ignition with load := { r.ignition.load with awaits := b } }).setStore
    { r.store with
      orders := [.fill b], op := some (.readFill b), lines := (List.replicate 8 .invalid).set i (.filling b)
      nv := r.store.nv.writeMany (16 * b) (List.replicate 16 x) }

theorem witness_LoadGoesOn :
    (∀ b ∈ [(7, 6), (62, 4), (63, 6), (0, 0), (0, 1), (1, 2), (2, 5), (5, 3), (6, 4)], ∀ x ∈ [(0 : Byte), 0x11],
      let s := loading b.1 b.2 x
      s.ign = .load ∧ s.ignition.load.awaits = b.1 ∧ s.store.op = some (.readFill b.1) ∧ s.store.orders = [.fill b.1] ∧
        s.store.waiting = [] ∧ s.store.task = .none ∧ s.store.find b.1 = some b.2 ∧
        (s.store.line b.2).state = .filling ∧ b.2 < s.store.lines.length) ∧
    checkSum (loading 7 6 0).store 7 = 0 ∧ checkSum (loading 7 6 0x11).store 7 ≠ 0 ∧
    checkSum (loading 0 0 0).store 0 = 0 ∧
    (tripleAt ((List.range 15).map fun j => (loading 0 0 0).store.nv.read (16 * 0 + j)) 0 ≤ 9999999 ∧
      byteAt ((List.range 15).map fun j => (loading 0 0 0).store.nv.read (16 * 0 + j)) 3 ≤ 1) := by decide +kernel

theorem witness_LoadGoesOn_sleep : let s := (loading 6 4 0).setCounting { State.reset.counting with heldDays := 3 }
    levelState s.ignition.run s.ignition.acc s.ignition.wake = .sleep ∧ s.arbiter.warnings.length = 32 ∧
      (after .blockReadEnd s).counting.heldDays = 0 ∧ (after .blockReadEnd s).ign = .sleep := by decide +kernel

/-! ### Ignition controller -/

theorem witness_IgnitionFollowsKey :
    (∀ x ∈ [(Ign.sleep, true, true), (.watch, true, false), (.accessory, true, true), (.run, true, false),
        (.run, false, false), (.holdup, true, true)],
      let s := stateIn x.1
      s.ign = x.1 ∧ (after (.keyPositionChange x.2.1 x.2.2) s).ign ≠ s.ign) ∧
    State.reset.ign = .load ∧ (after (.keyPositionChange true true) (stateIn .watch)).ign = .run ∧
    (after (.keyPositionChange false false) driving).ign = .holdup ∧
    (after (.keyPositionChange true false) driving).ign = .accessory := by decide +kernel

theorem witness_StandbyFollowsLevels :
    let watch (st : Store) : State :=
      let s := stateIn .watch
      (s.setIgnition { s.ignition with watchTimer := some 1 }).setStore st
    let m := msg 1 0x44 true true
    let sending := (stateIn .holdup).setLine { driving.line with state := .sending, queue := [m] }
    let last := (stateIn .holdup).setStore
      { restStore with
        orders := [.walk true 7], op := some (.write 7 [] .walk 1), lines := restStore.lines.set 7 (lineOf 7 .writing false) }
    (stateIn .sleep).ign = .sleep ∧ ¬(driving.ign = .watch ∧ driving.ignition.watchTimer.isSome = true) ∧
    ¬(driving.ign = .holdup ∧ driving.ignition.holdupTimer.isSome = true) ∧
    (∀ s ∈ [watch restStore, watch { restStore with lines := restStore.lines.modify 6 fun l => { l with state := .dirty } },
        stateIn .holdup, sending, last], levelState s.ignition.run s.ignition.acc s.ignition.wake = .sleep) ∧
    ((watch restStore).ign = .watch ∧ (watch restStore).ignition.watchTimer.isSome = true ∧
      (watch restStore).store.dirtyReported = false) ∧
    (let st := { restStore with lines := restStore.lines.modify 6 fun l => { l with state := .dirty } };
      (watch st).store.dirtyReported = true ∧ (watch st).store.Settled) ∧
    ((stateIn .holdup).ign = .holdup ∧ (stateIn .holdup).ignition.holdupTimer.isSome = true) ∧
    (sending.ign = .holdup ∧ sending.line.state = .sending ∧ sending.line.queue = [m] ∧ m.sending = true ∧
      sending.store.dirtyReported = false) ∧
    (last.ign = .holdup ∧ last.store.op = some (.write 7 [] .walk 1) ∧ last.store.orders = [.walk true 7] ∧
      last.store.waiting = [] ∧ last.store.task = .none ∧ (last.store.line 7).state = .writing ∧ (last.store.line 7).redirty = false ∧ last.line.queue = [] ∧
      ∀ j < 7, (last.store.line j).state ≠ .dirty ∧ (last.store.line j).state ≠ .writing) ∧
    ∀ j, 8 ≤ j → (last.store.line j).state ≠ .dirty ∧ (last.store.line j).state ≠ .writing := by
  unfold Store.Settled
  refine ⟨?_, ?_, ?_, ?_, ?_, ?_, ?_, ?_, ?_, fun j hj => ?_⟩
  · decide +kernel
  · decide +kernel
  · decide +kernel
  · decide +kernel
  · decide +kernel
  · decide +kernel
  · decide +kernel
  · decide +kernel
  · decide +kernel
  · have h : ∀ l : List CacheLine, l.length ≤ j → (l.getD j .invalid).state ≠ .dirty ∧ (l.getD j .invalid).state ≠ .writing := by
      intro l hl
      simp [List.getD, List.getElem?_eq_none hl, CacheLine.invalid]
    exact h _ hj

/-! ### Workshop requests -/

theorem witness_RequestsMeetTheHandler :
    let reply := msg 3 0x70 false false
    let busy (q : List Msg) : State :=
      ((lined fun l => { l with queue := q }).setHandler { state := .replying, topic := 0x60, unanswered := 255 })
    (∀ c ∈ [Instr.readBytes 64 0, .readBytes 0 12, .writeBytes 3 15 [1], .fetch 64, .setOdometer 10000000, .serviceReset 8,
      .acknowledgeWarning 32, .readStatus 12 0, .indexWritebackInvalidate 4 0], c.request.isSome = true ∧ ¬c.Permitted) ∧
    (∀ c ∈ [Instr.close, .gaugeTest, .unpin 3, .invalidate 3, .verify 3, .writeback 3, .writebackInvalidate 3, .fetchAndPin 3],
      c.request.isSome = true) ∧
    (stateIn .sleep).ign.awake = false ∧
    ((busy [reply]).ign.awake = true ∧ (busy [reply]).handler.state ≠ .idle ∧ reply ∈ (busy [reply]).line.queue ∧
      reply.topic = 0x70 ∧ reply.started = false) ∧
    ((busy []).ign.awake = true ∧ (busy []).handler.state ≠ .idle ∧ (busy []).line.Open 0x70) ∧ driving.TakesRequest := by
  refine ⟨fun c hc => ?_, ?_, ?_, ?_, ?_, ?_⟩
  · fin_cases hc <;> exact ⟨rfl, by unfold Instr.Permitted; decide⟩
  · decide
  · decide +kernel
  · decide +kernel
  · unfold LineStation.Open; decide +kernel
  · unfold State.TakesRequest LineStation.Open; decide +kernel

/-- `restStore` with the latch set or clear and the line of block 3 in a state and pinned or not. -/
def third (latch : Bool) (x : LineState) (pin : Bool) : State :=
  stored fun st => { st with latch := latch, lines := st.lines.set 6 (lineOf 3 x pin) }

theorem witness_BytesAreReadAndWritten :
    let free (s : State) (b i : Nat) : Prop := s.store.find b = none ∧ s.store.lines.length = 8 ∧
      (s.store.line i).state = .invalid ∧ (s.store.line i).pinned = false ∧
      (i = 2 * (b % 4) ∨ (i = 2 * (b % 4) + 1 ∧ (s.store.line (i - 1)).state ≠ .invalid))
    (∀ l : Bool, (third l .clean false).TakesRequest ∧ (third l .clean false).store.AtRest) ∧
    ((Instr.readBytes 0 0).Permitted ∧ (Instr.readBytes 63 11).Permitted ∧ (Instr.writeBytes 6 11 [1, 2, 3, 4]).Permitted ∧
      (Instr.writeBytes 63 14 [1]).Permitted) ∧
    (∀ b ≤ 6, driving.store.Holds b) ∧ free driving 63 7 ∧ driving.store.latch = false ∧
    ((third true .clean false).store.latch = true ∧ driving.service.items.length = 8 ∧
      (driving.store.presentLine 3 = some 6 ∧ (driving.store.line 6).state ≠ .writing)) := by
  unfold State.TakesRequest LineStation.Open Store.AtRest Store.Holds Instr.Permitted
  refine ⟨by decide +kernel, by decide, by decide +kernel, by decide +kernel, by decide +kernel, by decide +kernel⟩

theorem witness_FetchesAndPinsAreTaken :
    let full := stored fun st => { st with lines := (st.lines.set 7 (lineOf 7 .clean false)).modify 6 fun l => { l with recent := true } }
    let pinned := stored fun st => { st with lines := st.lines.set 7 (lineOf 7 .clean true) }
    (∀ s ∈ [driving, full, pinned], s.TakesRequest ∧ s.store.AtRest ∧ s.store.lines.length = 8) ∧
    (∀ b ≤ 6, driving.store.present b = true) ∧
    (driving.store.find 63 = none ∧ (driving.store.line 7).pinned = false ∧ (driving.store.line 7).state = .invalid ∧
      (driving.store.line 6).state ≠ .invalid ∧ ∀ j ∈ [6, 7], ¬(driving.store.line j).pinned = true) ∧
    (full.store.find 11 = none ∧ (full.store.line 7).pinned = false ∧ (full.store.line 7).state = .clean ∧
      (full.store.line 7).recent = false ∧ (full.store.line (otherWay 7)).state = .clean ∧
      (full.store.line (otherWay 7)).recent = true) ∧
    ((pinned.store.line 7).pinned = true ∧ (pinned.store.line 7).tag ≠ some 3 ∧ pinned.store.isPinned 3 = false ∧
      pinned.store.present 7 = true ∧ pinned.store.isPinned 7 = true) ∧ driving.store.present 63 = false := by
  unfold State.TakesRequest LineStation.Open Store.AtRest
  refine ⟨?_, ?_, ?_, ?_, ?_, ?_⟩ <;> decide +kernel

theorem witness_WritebacksAndRemovalsAreTaken :
    (∀ l : Bool, ∀ x ∈ [LineState.clean, .dirty], ∀ p : Bool, let s := third l x p
      s.TakesRequest ∧ s.store.AtRest ∧ s.store.NoneWriting ∧ s.store.pwrGood = true ∧ s.store.nvFault = false ∧
        s.store.find 3 = some 6 ∧ (s.store.line 6).state = x ∧ (s.store.line 6).pinned = p ∧ s.store.latch = l) ∧
    driving.store.find 63 = none ∧ driving.store.find 2 = some 4 := by
  unfold State.TakesRequest LineStation.Open Store.AtRest Store.NoneWriting
  refine ⟨?_, ?_⟩ <;> decide +kernel

theorem witness_OdometerLatchAndStatusRequests :
    let s := (nearStep 0 0 9999998 100)
    let swept := driving.setGauges { driving.gauges with sweep := some 149 }
    (s.TakesRequest ∧ s.store.AtRest ∧ s.store.latch = false ∧ s.store.odometerValue = 9999998 ∧ s.store.Holds 0 ∧
      s.store.NoneWriting ∧ s.store.pwrGood = true ∧ s.store.nvFault = false) ∧
    ((third true .clean false).TakesRequest ∧ (third true .clean false).store.latch = true) ∧
    (driving.store.line (2 * 3 + 1)).state = .invalid ∧
    ((Instr.readStatus 0 255).Permitted ∧ (Instr.readStatus 8 7).Permitted ∧ (Instr.readStatus 10 0).Permitted) ∧
    (swept.TakesRequest ∧ swept.store.AtRest ∧ swept.ign = .run ∧ swept.counting.speed < 20 ∧
      swept.gauges.sweep.isSome = true) ∧
    (driving.ign = .run ∧ driving.counting.speed < 20 ∧ driving.gauges.sweep = none) ∧
    (let u := counts fun c => { c with speed := 20 };
      u.TakesRequest ∧ ¬(u.ign = .run ∧ u.counting.speed < 20)) := by
  unfold State.TakesRequest LineStation.Open Store.AtRest Store.Holds Store.NoneWriting Instr.Permitted
  refine ⟨?_, ?_, ?_, ?_, ?_, ?_, ?_⟩ <;> decide +kernel

/-! ### Service items -/

theorem witness_CountdownLowersItems :
    let day := counts fun c => { c with hours := 23, minutes := 59, seconds := 59 }
    let km (sub n v : Nat) := nearStep sub 99 v n
    let part := day.setStore { restStore with lines := restStore.lines.set 6 .invalid }
    (∀ s ∈ [day, part], s.store.AtRest ∧ s.store.SystemPresent ∧ (∀ b ≤ 2, s.store.isPinned b = true) ∧ s.service.items.length = 8 ∧
      s.service.fetchMarks.length = 4 ∧ s.counting.BeforeMidnight ∧ s.ign.awake = true) ∧
    (∀ x ∈ [(9, 1, 5), (9, 2, 9999998), (9, 1, 9999999), (0, 100, 0)], let s := km x.1 x.2.1 x.2.2
      s.store.AtRest ∧ s.store.SystemPresent ∧ (∀ b ≤ 2, s.store.isPinned b = true) ∧ s.service.items.length = 8 ∧
      s.service.fetchMarks.length = 4 ∧ s.cal.divisor ≤ s.counting.stepCount + 1 ∧ 99 ≤ s.counting.serviceSub ∧ s.counting.odometerSub = x.1 ∧
      s.counting.checkpoint = x.2.1 ∧ s.store.odometerValue = x.2.2 ∧ s.store.NoneWriting ∧ s.store.pwrGood = true ∧
      s.store.nvFault = false) ∧
    (∀ sub n v, ∀ e ∈ [0, 100], (km sub n v).AcceptsPulse e) ∧
    (∀ s ∈ [day, km 9 1 5], ∀ b < 7, 3 ≤ b → s.store.Holds b) ∧ part.store.present (itemBlock 0) = false ∧
    (day.itemActive 0 = true ∧ (day.itemFigures 0).dayInterval ≠ 0 ∧ (day.itemFigures 0).distanceInterval ≠ 0) := by
  unfold Store.AtRest Store.SystemPresent Store.Holds Counting.BeforeMidnight Store.NoneWriting
  refine ⟨?_, ?_, fun _ _ _ e _ => near_accepts _ _ _ _ e, ?_, ?_, ?_⟩ <;> decide +kernel


/-! ### Single points of the rules -/

/-- R1: the operand of an edge alone is its time after the edge before; a tick adds none. -/
theorem test_tick_leaves_pulse_interval : ((counts fun c => { c with sinceAccepted := some 0 }).tickAll).counting.sinceAccepted =
    some 0 := by decide +kernel

/-- R39: a press at the third low sample, and a key found low at one sample is blocked. -/
theorem test_key_samples : (⟨true, 1, false, false, .idle, 0⟩ : KeyInput).sampleDue .ack = [] ∧
    (⟨true, 2, false, false, .idle, 0⟩ : KeyInput).sampleDue .ack = [.keyPress .ack] ∧
    (⟨true, 1, false, false, .idle, 0⟩ : KeyInput).forget.blocked = true := by decide

/-- R49, R50: the own break's end while another station drives; R55: 20 ms after a break recognised in SENDING. -/
theorem test_line_after_breaks :
    ({ driving.line with state := .breaking, driven := true } : LineStation).tick.lineDue = [.breakEnd true] ∧
    (after (.clash true) (lined fun l => { l with state := .sending, queue := [msg 1 0x40 true true] })).line.tick.tick.lineDue =
      [.lineStuck] := by decide +kernel

/-- R98: an update of the tick in which the sweep ends comes before that end. -/
theorem test_update_before_sweep_end : ({ driving.gauges with sweep := some 149, timer := some 1 } : Gauges).due =
    [.gaugeUpdate, .sweepTick] := by decide +kernel

/-- R114: without F the range has no value, whatever the last result. -/
theorem test_range_needs_fuel : (driving.setTrip { driving.trip with range := .valid 300 }).quantity .range = none := by
  decide +kernel

/-- R137: tone 1 at SOFT is high for 770 of its 6,154 cycles, an eighth rounded up (log entry 38). -/
theorem test_soft_tone : toneHigh 1 false = 770 ∧ toneHigh 0 true = 4000 ∧ toneHigh 7 false = 250 := by decide

/-- R169: a write-back of a CLEAN line is DONE with another block's order still waiting for PWR-GOOD. -/
theorem test_own_order_ends : let s := stored fun st => { st with orders := [.single 0 false none], pwrGood := false, lines := st.lines.set 0 (lineOf 0 .dirty true) }
    (after (.writeback 3) s).line.queue.map (·.data) = [[0x62, 0]] ∧
      (after (.writeback 3) s).store.orders = [.single 0 false none] := by decide +kernel

/-- R172: a FETCH that waits for room goes before a later order. -/
theorem test_earlier_fetch_first : let st := { restStore with waiting := [.fetch 7 false] }
    (st.place (.verify 0)).orders = [] ∧ (st.place (.verify 0)).waiting = [.fetch 7 false, .order (.verify 0)] := by
  decide +kernel

/-- R175: a SWEEP that has written line 7 leaves the list. -/
theorem test_walk_ends_at_eight : let s := stored fun st =>
      { st with
        orders := [.walk false 7, .fill 11], op := some (.write 7 [] .walk 1), lines := st.lines.set 7 (lineOf 7 .writing false) }
    (after .blockWriteReady s).store.orders = [.fill 11] := by decide +kernel

/-- R180: a new level of one input leaves the other's change in progress. -/
theorem test_other_input_settles : let s := driving.setIgnition { driving.ignition with pinAcc := true, accSamples := 3 }
    (after (.keyPositionChange false true) s).ignition.accSamples = 3 := by decide +kernel

/-- R193: at SLEEP the record being sent ends without the strobe, and the last whole one stays. -/
theorem test_no_strobe_at_sleep : let s := (stateIn .holdup).setDisplay ⟨some [1], some [2], false, some 1⟩
    (after .holdupTimerExpiry s).display = ⟨none, some [2], false, none⟩ := by decide +kernel
/-! ### Further clauses of the statements -/

theorem witness_ResultsReachTargets_newer : ∀ v ∈ [0, 10, 254], ∀ before : Bool,
    let r := { asked .fuel with afterReturn := before }
    let s := working r []
    let u := s.setCounting { s.counting with latestRaw := some v, requestRaw := some 50, returnPending := true }
    u.arith.inFlight = some r ∧ r.target = .fuel ∧ u.counting.latestRaw = some v ∧ u.counting.requestRaw ≠ some v ∧
      u.cal.tank.evaluate 0 = .direct 0 ∧ u.cal.tank.evaluate 10 = .request 10 50 20 0 := by decide +kernel

theorem witness_SelectionShowsTheMostUrgent_kept :
    let s := (showing 1 5 true).setPending [.endGap rearFrame false]
    (TimersFollow s ∧ s.Arbitrated ∧ ∃ t, step s = .next t) ∧
    (TimersFollow State.reset ∧ State.reset.Arbitrated ∧ State.reset.ign = .load ∧ ∃ t, step State.reset = .next t) := by
  refine ⟨⟨?_, ⟨rfl, urgent_of _ (by decide +kernel), fun _ => orders_of _ rfl rfl rfl rfl, ?_⟩, steps _ _⟩,
    ?_, ⟨rfl, urgent_of _ (by decide +kernel), fun h => absurd rfl h, ?_⟩, rfl, ⟨_, rfl⟩⟩
  · unfold TimersFollow
    decide +kernel
  · exact fun h => absurd h (by decide)
  · unfold TimersFollow
    decide +kernel
  · intro _
    decide +kernel

theorem witness_SoundTimersAct_mirror : ∀ x ∈ [Freshness.fresh, .stale, .lost],
    let s := driving.modifyEntry 2 fun e => { e with state := x, data := [60, 200, 20, 0, 2] }
    s.ign.awake = true ∧ s.sound.bulbCheck = none ∧ s.cal.lamps[13]? = some .turnLeft ∧
      s.cal.lamps[14]? = some .turnRight ∧ s.cal.lamps[15]? = some .highBeam ∧ s.cal.lamps[11]? = some .unused ∧
      s.lampOn 13 = decide (x ≠ .lost) ∧ s.lampOn 14 = false := by decide +kernel

/-- The body module's message with a raw tank value and the turn-signal flags. -/
def bodyFrame (raw flags : Nat) : List Byte := frame 0 4 0x20 7 [byteOf raw, 200, 20, 0, byteOf flags]

theorem witness_ArrivalsAreTaken_body :
    (∀ x ∈ [(0, 0), (10, 2), (10, 4), (255, 6)], let f := bodyFrame x.1 x.2
      gathering.Hears f ∧ gathering.EntryOf f 2 ∧ frameLength f = (gathering.entry 2).length ∧
        (gathering.entry 2).length = 5 ∧ byteAt f 3 = x.1 ∧ bitAt f 7 1 = x.2.testBit 1 ∧ bitAt f 7 2 = x.2.testBit 2) ∧
    gathering.counting.keptRaw = none ∧ gathering.arith.outstanding .fuel = false ∧
    gathering.cal.tank.evaluate 0 = .direct 0 ∧ gathering.cal.tank.evaluate 10 = .request 10 50 20 0 ∧
    (let s := gathering.setCounting { gathering.counting with keptRaw := some 10, returnPending := false };
      s.counting.keptRaw = some 10 ∧ s.counting.returnPending = false) ∧
    (gathering.setArith (working (asked .fuel) []).arith).arith.outstanding .fuel = true := by
  unfold State.Hears State.EntryOf ValidFrame ListenWindow.LetsIn
  refine ⟨?_, ?_, ?_, ?_, ?_, ?_, ?_⟩ <;> decide +kernel

/-- A part that gathers, with warning 30 in a state and these rear sub-warnings. -/
def rearGathering (x : WarningState) (subs : List SubState) (p : Option Nat) : State := (rear x subs p).setLine gathering.line

theorem witness_ArrivalsAreTaken_rear :
    let s := rearGathering .shown [.none, .opened, .ackedLocal] (some 1)
    let again := frame 0 5 0x30 4 [0x06, 0x00, 1]
    let next := frame 0 5 0x30 4 [0x01, 0x00, 0]
    (∀ f ∈ [again, next], s.Hears f ∧ s.EntryOf f 3 ∧ frameLength f = (s.entry 3).length) ∧
    ((s.entry 3).length = 3 ∧ s.arbiter.subs.length = 8 ∧ s.OrdersComplete ∧ s.MostUrgentShown ∧ s.line.queue.length < 10) ∧
    (s.arbiter.subs[2]? = some .ackedLocal ∧ bitAt again 3 2 = true ∧ bitAt again 4 2 = false ∧
      ∀ n < 8, s.arbiter.subs[n]? = some .ackedLocal → bitAt next 3 n = false) ∧
    ((s.warning 30).state = .shown ∧ (s.warningFigures 30).enabled = true ∧ s.arbiter.presented = some 1 ∧
      (after (.endGap again false) s).arbiter.subs[1]? = some .opened ∧
      (after (.endGap next false) s).arbiter.subs[1]? ≠ some .opened ∧
      (after (.endGap next false) s).arbiter.subs[0]? = some .opened) := by
  unfold State.Hears State.EntryOf ValidFrame ListenWindow.LetsIn
  refine ⟨by decide +kernel, ⟨by decide +kernel, by decide +kernel, orders_of _ rfl rfl rfl rfl, urgent_of _ ?_, ?_⟩, ?_, ?_⟩ <;>
    decide +kernel

theorem witness_EntriesAge_followers :
    let s := (((rear .shown [.opened] (some 0)).modifyEntry 2 fun e => { e with state := .stale, age := 1 }).modifyEntry 3
      fun e => { e with state := .stale, age := 1 }).modifyGauge 5 fun g => { g with state := .hold }
    s.topics.tick.isSome = true ∧ s.topics.entries.length = 16 ∧ s.gauges.gauges.length = 6 ∧ s.OrdersComplete ∧
      s.MostUrgentShown ∧ (s.warning 30).level = true ∧ (s.gauge 5).state = .hold ∧
      ∀ e ∈ [2, 3], (s.entry e).used = true ∧ (s.entry e).state = .stale ∧ (s.entry e).age = 1 := by
  refine ⟨?_, ?_, ?_, orders_of _ rfl rfl rfl rfl, urgent_of _ ?_, ?_⟩ <;> decide +kernel

theorem witness_PublicationsAreQueued_rearPage :
    let s (x : Freshness) (flags : Byte) := driving.modifyEntry 3 fun e => { e with state := x, data := [0, 0, flags] }
    (∀ x ∈ [Freshness.fresh, .stale], let u := s x 2
      u.store.AtRest ∧ ClockInRange u.counting ∧ ¬u.counting.BeforeMidnight ∧ u.ign.awake = true ∧
        (u.entry 3).used = true ∧ (u.entry 3).state ∈ [Freshness.fresh, .stale] ∧ bitAt (u.entry 3).data 2 1 = true ∧
        u.line.Open 0x42 ∧ (u.entry 2).length = 5) ∧
    (∀ x ∈ [(Freshness.lost, (2 : Byte)), (.fresh, 1)],
      ¬(((s x.1 x.2).entry 3).state ∈ [Freshness.fresh, .stale] ∧ bitAt ((s x.1 x.2).entry 3).data 2 1 = true)) := by
  unfold Store.AtRest ClockInRange Counting.BeforeMidnight LineStation.Open
  refine ⟨?_, ?_⟩ <;> decide +kernel

/-- A part whose store fills the service block 3, with these pending counts and waiting resets of its first item. -/
def fillingService (x : Byte) (km days : Nat) (chauffeur workshop : Bool) : State :=
  let item : ServiceItem := ⟨.ok, km, days, chauffeur, workshop⟩
  let s := driving.setService { driving.service with items := driving.service.items.set 0 item }
  s.setStore { fillingStore 3 x .none with lines := (restStore.lines.set 6 .invalid).set 7 (.filling 3) }

theorem witness_BlockReadsEnd_service :
    (∀ x ∈ [(0, 0, false, false), (255, 1, false, false), (1, 0, true, false), (0, 0, false, true)], ∀ fill ∈ [(0 : Byte), 0x11],
      let s := fillingService fill x.1 x.2.1 x.2.2.1 x.2.2.2
      s.ign ≠ .load ∧ s.store.waiting = [] ∧ s.store.op = some (.readFill 3) ∧ s.store.orders = [.fill 3] ∧
        s.store.find 3 = some 7 ∧ (s.store.line 7).state = .filling ∧ s.store.task = .none ∧ s.service.items.length = 8 ∧
        s.service.fetchMarks.length = 4 ∧ s.store.NoneWriting ∧ s.store.pwrGood = true ∧ s.store.nvFault = false ∧
        s.line.queue.length < 10 ∧ s.line.Open 0x70 ∧ (s.item 0).waitsWorkshop = x.2.2.2) ∧
    checkSum (fillingService 0 0 0 false false).store 3 = 0 ∧ checkSum (fillingService 0x11 0 0 false false).store 3 ≠ 0 ∧
    ∀ j < 8, let f := driving.itemFigures j
      f.distanceInterval ≤ 32000 ∧ f.dayInterval ≤ 32000 ∧ (f.distanceInterval ≠ 0 → f.aheadKm < f.distanceInterval) ∧
        (f.dayInterval ≠ 0 → f.aheadDays < f.dayInterval) := by
  unfold Store.NoneWriting LineStation.Open
  refine ⟨?_, ?_, ?_, ?_⟩ <;> decide +kernel

/-- An image of 57 blocks whose seven curves rise, or not, with a station number and a divisor. -/
def imageOf (station divisor : Byte) (rising : Bool) : List Byte :=
  let curve := ((List.range 9).map fun i => bytes2 (if rising then i else 9 - i)).flatten ++ List.replicate 18 0
  [station, divisor] ++ List.replicate 84 0 ++ curve ++ curve ++ curve ++ curve ++ curve ++ curve ++ curve ++ List.replicate 502 0

/-- `loading` block 63 after these bytes. -/
def imageLoading (bytes : List Byte) : State :=
  let s := loading 63 6 0
  s.setIgnition { s.ignition with load := { s.ignition.load with bytes := bytes } }

/-- An image whose seven curves rise, as its 57 blocks give it when the last of them reads 0. -/
def risingImage (station divisor : Byte) : List Byte := imageOf station divisor true ++ List.replicate 15 0

theorem rising_curves : ∀ m < 7, CurveInOrder (risingImage 0 9) (86 + 36 * m) := by
  unfold CurveInOrder
  decide +kernel

theorem witness_LoadGoesOn_image :
    (∀ x ∈ [((0 : Byte), (9 : Byte)), (15, 161), (14, 160)], let s := imageLoading (imageOf x.1 x.2 true)
      s.ignition.load.bad = false ∧ s.ign = .load ∧ s.ignition.load.awaits = 63) ∧
    checkSum (loading 63 6 0).store 63 = 0 ∧
    (List.range 15).map (fun j => (loading 63 6 0).store.nv.read (16 * 63 + j)) = List.replicate 15 0 ∧
    (∀ m < 7, CurveInOrder (risingImage 0 9) (86 + 36 * m)) ∧ (imageOf 0 9 true).length = 840 ∧
    (∀ x ∈ [((0 : Byte), (9 : Byte)), (15, 161), (14, 160)], byteAt (risingImage x.1 x.2) 0 = x.1.toNat ∧
      byteAt (risingImage x.1 x.2) 1 = x.2.toNat) ∧ ¬CurveInOrder (imageOf 2 40 false) 86 := by
  refine ⟨fun _ _ => ⟨rfl, rfl, rfl⟩, by decide +kernel, by decide +kernel, rising_curves, ?_, fun _ _ => ⟨rfl, rfl⟩, ?_⟩
  · simp only [imageOf, List.length_append, List.length_replicate, List.length_cons, List.length_nil]
    decide +kernel
  · unfold CurveInOrder
    decide +kernel


/-! ### Clauses that widen the statements -/

/-- R176: the check byte of a block whose write was abandoned is bad for the data beside it, whatever the free byte is. -/
theorem test_abandoned_check_is_bad : ∀ x ∈ [(0 : Byte), 1, 127, 254, 255],
    byteSum ([1, 2, 3] ++ [badCheckByte [1, 2, 3] x]) ≠ 0 := by decide

theorem witness_SendingTakesTheHead_bits :
    let s := lined fun l => { l with queue := [msg 1 0x40 false false] }
    let t := after .accessWaitReached s
    t.line.state = .sending ∧ t.line.sent.take 1 = [0x42] ∧ t.line.sentBits.length = 40 ∧
      t.line.sentBits.take 10 = [true, true, false, true, true, true, true, false, true, false] := by decide +kernel

theorem witness_ArrivalsAreTaken_engine : let f := frame 0 3 0x10 4 [1, 2, 3, 4, 5]
    gathering.Hears f ∧ gathering.EntryOf f 0 ∧ frameLength f = (gathering.entry 0).length := by
  unfold State.Hears State.EntryOf ValidFrame ListenWindow.LetsIn
  decide +kernel

/-- `driving` with EDGE slot 20 of warning 20, about to be asserted, and a LEVEL slot 21 of warning 21. -/
def ruled (level : Bool) (x : WarningState) : State :=
  let rule (edge : Bool) (w : Nat) : RuleRecord := ⟨.builtIn .speed, 0, 0, condOf true true true true, .always, 0, 0, edge, w⟩
  let second := if level then some (rule false 21) else none
  let s := driving.setCal { driving.cal with slots := (driving.cal.slots.set 20 (some (rule true 20))).set 21 second }
  withWarning (withWarning s 20 ⟨x, false, 0, false, 0⟩) 21 ⟨x, !level, 0, false, 0⟩

/-- R109, R119, R120: an EDGE slot asserted raises an OFF and a SILENCED warning, a withdrawn level request ends one. -/
theorem witness_EvaluationMovesSlots_requests :
    (∀ x ∈ [WarningState.off, .silenced], ∀ l : Bool, let s := ruled l x
      s.rules.timer.isSome = true ∧ s.arbiter.warnings.length = 32 ∧ s.shownCount ≤ 1 ∧ (s.warningFigures 20).enabled = true ∧
        (s.slot 20).state = .clear ∧ ((after .evaluation s).slot 20).state = .asserted ∧
        ((after .evaluation s).warning 20).state ∈ [WarningState.pending, .shown] ∧
        ((after .evaluation s).warning 21).level = l) ∧
    ∀ x ∈ [WarningState.off, .silenced], ∀ l : Bool, (ruled l x).OrdersComplete := by
  exact ⟨by decide +kernel, fun x _ l => orders_of _ (by cases l <;> rfl) (by cases l <;> rfl) (by cases l <;> rfl)
    (by cases l <;> rfl)⟩

/-- A resting store whose line 6, of block 3, is being written for a walk; lines 4 and 7 are DIRTY. -/
def walkingStore (h again : Bool) (p : Nat) (op : Bool) : Store :=
  { restStore with
    orders := [.walk h p]
    op := if op then some (.write 6 (List.replicate 15 1) (if again then .restarted else .walk) 1) else none
    lines := (((restStore.lines.modify 6 fun l => { l with state := if op then .writing else .clean }).modify 4
      fun l => { l with state := .dirty }).set 7 (lineOf 7 .dirty false)) }

theorem witness_BlockWritesEnd_walks :
    (∀ h again fault : Bool, ∀ p ∈ [0, 6], ∀ op : Bool, let s := driving.setStore { walkingStore h again p op with nvFault := fault }
      s.ign ≠ .holdup ∧ s.store.nv.wf = true ∧ s.store.orders = [.walk h p] ∧ s.store.waiting = [] ∧ s.store.task = .none ∧
        s.store.op = (if op then some (.write 6 (List.replicate 15 1) (if again then .restarted else .walk) 1) else none) ∧
        (op = true → (s.store.line 6).state = .writing) ∧ (s.store.line 6).tag = some 3) ∧
    (let s := driving.setStore (walkingStore false false 6 true);
      (after .blockWriteReady s).store.orders = [.walk false 7] ∧ (after .blockWriteTimeout s).store.orders = [.walk false 7]) ∧
    (let s := driving.setStore (walkingStore true true 0 true);
      (after .blockWriteReady s).store.orders = [.walk true 4]) := by
  refine ⟨?_, ?_, ?_⟩ <;> decide +kernel

/-- In LOAD block `b` fills line `i` and the next block `n` finds its set with a way free, block 0 pinned beside block 4. -/
theorem witness_LoadGoesOn_next :
    (∀ x ∈ [(0 : Byte), 0x11], ∀ q ∈ [(7, 6, 8), (62, 4, 63), (63, 6, 0), (0, 0, 1), (1, 3, 2), (5, 2, 6)],
      let s := loading q.1 q.2.1 x
      s.store.lines.length = 8 ∧ q.2.1 / 2 = q.1 % 4 ∧ s.store.find q.2.2 = none ∧
      (∀ j < 8, (s.store.line j).state ∈ [.invalid, .clean] ∨ j / 2 ≠ q.2.2 % 4) ∧
      (s.store.line (2 * (q.2.2 % 4) + 1)).pinned = false) ∧
    (let s := loading 3 6 0
      let t := s.setStore { s.store with lines := s.store.lines.set 0 (lineOf 0 .dirty true) }
      t.store.find 4 = none ∧ (t.store.line 0).pinned = true ∧ (t.store.line 1).pinned = false ∧
        (t.store.line 1).state = .invalid ∧ (after .blockReadEnd t).store.op = some (.readFill 4)) := by
  refine ⟨?_, ?_⟩ <;> decide +kernel

theorem witness_LoadGoesOn_service :
    (∀ b ∈ [(3, 7), (4, 0), (5, 2), (6, 4)], let s := loading b.1 b.2 0x11
      checkSum s.store b.1 ≠ 0 ∧ s.ign = .load ∧ s.ignition.load.awaits = b.1 ∧ s.store.find b.1 = some b.2 ∧
        b.2 < s.store.lines.length ∧ b.2 / 2 = b.1 % 4 ∧ s.counting.heldDays = 0) ∧
    (∀ j < 8, ∃ f, builtInDefaults.items[j]? = some f ∧ f.distanceInterval ≤ 32000 ∧ f.dayInterval ≤ 32000) ∧
    (∀ b ∈ [1, 2], ∀ x ∈ [(0 : Byte), 0x11], let s := loading b (2 * b + 1) x
      s.store.find b = some (2 * b + 1) ∧ ((after .blockReadEnd s).store.line (2 * b + 1)).pinned = true) := by
  refine ⟨by decide +kernel, fun j hj => ?_, by decide +kernel⟩
  interval_cases j <;> exact ⟨_, rfl, by decide, by decide⟩

/-- `loading` block 6 with the image and the records loaded, an entry defined twice and one with no length. -/
def lastLoading (x : Byte) (run : Bool) : State :=
  let s := loading 6 5 x
  let image := { builtInDefaults with
    entries := [⟨true, 0x50, 4, 0⟩, ⟨true, 0x50, 4, 9⟩, ⟨true, 0x51, 0, 9⟩, ⟨true, 0x10, 5, 9⟩] ++ builtInDefaults.entries.drop 4 }
  let lines := restStore.lines.set 5 (.filling 6)
  (s.setIgnition { s.ignition with run := run, load := { s.ignition.load with image := image } }).setStore
    { s.store with lines := lines }

theorem witness_LoadGoesOn_end : ∀ run : Bool, ∀ x ∈ [(0 : Byte), 0x11], let s := lastLoading x run
    s.ign = .load ∧ s.ignition.load.awaits = 6 ∧ s.store.op = some (.readFill 6) ∧ s.store.orders = [.fill 6] ∧
      s.store.waiting = [] ∧ s.store.task = .none ∧ s.store.find 6 = some 5 ∧ (s.store.line 5).state = .filling ∧
      s.topics.entries.length = 16 ∧ s.service.items.length = 8 ∧ s.counting.heldDays = 0 ∧
      s.arbiter.warnings = List.replicate 32 .off ∧
      (after .blockReadEnd s).ign = (if run then .run else .sleep) ∧
      ((List.range 4).map fun k => ((after .blockReadEnd s).entry (4 + k)).used) = [true, false, false, false] ∧
      ((after .blockReadEnd s).entry 4).limit = 1 := by decide +kernel

theorem witness_LoadGoesOn_pinned (x : Byte) (run : Bool) : (lastLoading x run).store.SystemPinned := by
  intro b hb
  refine ⟨?_, fun _ h => absurd h List.not_mem_nil, nofun, nofun⟩
  have hline : ∀ j, (lastLoading x run).store.line j = (restStore.lines.set 5 (.filling 6)).getD j .invalid := fun _ => rfl
  simp only [hline]
  interval_cases b <;> decide +kernel

theorem witness_LoadGoesOn_present : ∀ run : Bool, ∀ x ∈ [(0 : Byte), 0x11], ∀ c < 6, 3 ≤ c →
    (lastLoading x run).store.Holds c := by
  unfold Store.Holds
  decide +kernel

/-- A part in an ignition state whose item 0 is DUE and item 2 OVERDUE. -/
def dueIn (x : Ign) : State :=
  let s := stateIn x
  let item (y : ItemState) : ServiceItem := ⟨y, 0, 0, false, false⟩
  s.setService { s.service with items := (s.service.items.set 0 (item .due)).set 2 (item .overdue) }

/-- `stateIn` with line 6 DIRTY, and the port busy with a read, these orders in the list and these requests waiting. -/
def portIn (x : Ign) (os : List Order) (ws : List Waiting) (op : Option EngineOp) : State :=
  (stateIn x).setStore
    { restStore with
      orders := os, waiting := ws, op := op, lines := restStore.lines.modify 6 fun l => { l with state := .dirty } }

theorem witness_IgnitionFollowsKey_reminders : ∀ x ∈ [Ign.watch, .accessory, .holdup], let s := dueIn x
    s.arbiter.warnings.length = 32 ∧ (after (.keyPositionChange true true) s).ign = .run ∧ s.itemActive 0 = true ∧
      s.itemActive 2 = true ∧ (s.warningFigures 28).enabled = true ∧ (s.warningFigures 29).enabled = true ∧
      ((after (.keyPositionChange true true) s).warning 29).state ≠ .off := by decide +kernel

theorem witness_IgnitionFollowsKey_test :
    let s := (driving.setGauges { driving.gauges with sweep := some 10, testMark := true }).setHandler
      { state := .working, topic := 0x68, unanswered := 0 }
    s.gauges.testMark = true ∧ s.store.task = .none ∧ s.line.queue.length < 11 ∧ s.line.Open 0x70 ∧
      (after (.keyPositionChange false false) s).ign = .holdup := by
  unfold LineStation.Open
  decide +kernel

theorem witness_IgnitionFollowsKey_orders :
    let fills := [Order.fill 7, .fill 11, .fill 15, .fill 19]
    let busy := some (EngineOp.readFill 7)
    let walk := some (EngineOp.write 6 [] .walk 1)
    (∀ q ∈ [([Order.fill 7], ([] : List Waiting), busy), (fills, [], busy), (fills, [.order (.walk false 0)], busy),
        ([.walk false 6], [], walk), ([.walk true 6], [], walk)],
      (portIn .run q.1 q.2.1 q.2.2).store.Settled ∧ (portIn .run q.1 q.2.1 q.2.2).store.op.isSome = true ∧
      (after (.keyPositionChange true false) (portIn .run q.1 q.2.1 q.2.2)).ign = .accessory ∧
      (after (.keyPositionChange false false) (portIn .accessory q.1 q.2.1 q.2.2)).ign = .holdup ∧
      (after (.keyPositionChange true false) (portIn .holdup q.1 q.2.1 q.2.2)).ign = .accessory) ∧
    ((portIn .run [] [] none).store.AtRest ∧ (portIn .run [] [] none).store.pwrGood = true ∧
      (after (.keyPositionChange true false) (portIn .run [] [] none)).store.orders = [.walk false 6]) := by
  unfold Store.Settled Store.AtRest
  refine ⟨?_, ?_⟩ <;> decide +kernel

/-- The part asleep with its item 0 pending and block 3 absent. -/
def pendingAsleep (km : Nat) : State :=
  let s := stateIn .sleep
  (s.setService { s.service with items := s.service.items.set 0 ⟨.due, km, 0, false, false⟩ }).setStore
    { restStore with lines := restStore.lines.set 6 .invalid }

theorem witness_Wakes :
    (∀ km ∈ [0, 1], let s := pendingAsleep km
      s.ign = .sleep ∧ s.counting.heldDays = 0 ∧ s.display.timer = none ∧ s.display.transfer = none ∧ s.line.queue = [] ∧
        s.line.Open 0x43 ∧ s.store.AtRest ∧ s.service.fetchMarks.length = 4 ∧ itemBlock 0 = 3 ∧
        (s.item 0).pendingKm = km ∧ s.service.mark 3 = false ∧ s.store.find 3 = none) ∧
    (∀ x ∈ [(true, true, Ign.run), (true, false, .accessory), (false, true, .run), (false, false, .sleep)],
      (after (.keyPositionChange x.1 x.2.1) (pendingAsleep 1)).ign = x.2.2) ∧
    (after (.wakeInputChange true) (pendingAsleep 1)).ign = .watch ∧
    (after (.wakeInputChange false) (pendingAsleep 1)).ign = .sleep := by
  unfold LineStation.Open Store.AtRest
  refine ⟨?_, ?_, ?_, ?_⟩ <;> decide +kernel

theorem witness_RequestsMeetTheHandler_heard :
    let tester (topic : Nat) (data : List Byte) := frame 1 15 topic 4 data
    (∀ x ∈ [(0x60, [(0 : Byte), 0], Instr.readBytes 0 0), (0x68, [], .gaugeTest), (0x63, [0, 0, 1], .setOdometer 1)],
      let f := tester x.1 x.2.1
      gathering.Hears f ∧ frameKind f = 1 ∧ frameSource f = 15 ∧ frameTopic f = x.1 ∧ frameData f = x.2.1 ∧
        x.2.2.request = some (x.1, x.2.1)) ∧
    (∀ x ∈ [(0x69, []), (0x6F, [(1 : Byte)]), (0x68, [1]), (0x62, [8, 0])], let f := tester x.1 x.2
      gathering.Hears f ∧ frameKind f = 1 ∧ frameSource f = 15 ∧ frameTopic f = x.1 ∧ frameData f = x.2) ∧
    (gathering.setLine gathering.heardLine).TakesRequest ∧
    (let s := gathering.setHandler { state := .replying, topic := 0x60, unanswered := 255 };
      s.ign.awake = true ∧ s.handler.state ≠ .idle ∧ (s.setLine s.heardLine).line.Open 0x70) := by
  unfold State.Hears ValidFrame ListenWindow.LetsIn State.TakesRequest LineStation.Open
  refine ⟨?_, ?_, ?_, ?_⟩ <;> decide +kernel

theorem unknown_request (c : Instr) : c.request ≠ some (0x69, []) ∧ c.request ≠ some (0x68, [1]) := by
  constructor <;> intro h <;> cases c <;> cases h

theorem witness_FetchesAndPinsAreTaken_victims :
    let line (x : LineState) (pin recent : Bool) : CacheLine := { lineOf 7 x pin with recent := recent }
    let set3 (a b : CacheLine) (fault : Bool) := stored fun st =>
      { st with nvFault := fault, lines := (st.lines.set 6 { a with tag := some 3 }).set 7 b }
    (∀ s ∈ [set3 (line .clean false true) (line .dirty false false) false, set3 (line .clean true false) (line .dirty false true) false],
      s.TakesRequest ∧ s.store.AtRest ∧ s.store.lines.length = 8 ∧ s.store.find 11 = none ∧ (s.store.line 7).pinned = false ∧
        (s.store.line 7).state = .dirty ∧ s.store.nvFault = false ∧ s.store.find 7 = some 7 ∧ (s.store.line 7).tag = some 7 ∧
        ((s.store.line 6).pinned = true ∨ ((s.store.line 7).recent = false ∧ (s.store.line 6).recent = true))) ∧
    (let s := set3 (line .dirty false false) (line .dirty false false) true;
      s.TakesRequest ∧ s.store.AtRest ∧ s.store.find 11 = none ∧ s.store.nvFault = true ∧
        ∀ i ∈ [6, 7], (s.store.line i).state = .dirty ∧ (s.store.line i).pinned = false) ∧
    (let s := set3 (line .clean true false) (line .clean true false) false;
      s.TakesRequest ∧ s.store.AtRest ∧ s.store.find 11 = none ∧ ∀ i ∈ [6, 7], (s.store.line i).pinned = true) := by
  unfold State.TakesRequest LineStation.Open Store.AtRest
  refine ⟨?_, ?_, ?_⟩ <;> decide +kernel

theorem witness_FetchesAndPinsAreTaken_written : ∀ pin : Bool,
    let s := stored fun st =>
      { st with
        orders := [.single 7 false (some 11)], waiting := [.fetch 11 true], task := .fetch 11 pin
        op := some (.write 7 [] .single 1)
        lines := (st.lines.set 7 (lineOf 7 .writing false)).modify 6 fun l => { l with recent := true } }
    s.ign ≠ .holdup ∧ s.store.lines.length = 8 ∧ s.store.find 11 = none ∧ s.store.find 7 = some 7 ∧
      (s.store.line 7).tag = some 7 ∧ (s.store.line 7).state = .writing ∧ (s.store.line 7).pinned = false ∧
      (s.store.line 7).redirty = false ∧ 7 / 2 = 11 % 4 ∧ (s.store.line 7).recent = false ∧
      (s.store.line (otherWay 7)).recent = true ∧ (s.store.line (otherWay 7)).state = .clean := by decide +kernel

theorem witness_FetchesAndPinsAreTaken_unpinned :
    let s := stored fun st =>
      { st with waiting := [.fetch 11 false], lines := (st.lines.set 7 (lineOf 7 .clean true)).set 6 (lineOf 3 .clean true) }
    s.TakesRequest ∧ s.store.lines.length = 8 ∧ s.store.orders = [] ∧ s.store.op = none ∧ s.store.task = .none ∧
      s.store.find 11 = none ∧ s.store.find 7 = some 7 ∧ 7 / 2 = 11 % 4 ∧ (s.store.line 7).state = .clean ∧
      (s.store.line (otherWay 7)).pinned = true := by
  unfold State.TakesRequest LineStation.Open
  decide +kernel

theorem witness_ReadStatus_selectors : driving.TakesRequest ∧
    ∀ x ∈ [(0, 255), (1, 0), (2, 15), (3, 0), (4, 9), (5, 9), (6, 0), (7, 0), (8, 7), (9, 0), (10, 0), (11, 3)],
      (Instr.readStatus (byteOf x.1) (byteOf x.2)).Permitted := by
  unfold State.TakesRequest LineStation.Open Instr.Permitted
  refine ⟨?_, ?_⟩ <;> decide +kernel

/-- Table 12-5: entry E1 FRESH from station 3, and way 1 of set 3 with block 7 DIRTY and most recently used. -/
theorem test_status_bytes :
    (driving.modifyEntry 1 fun e => { e with state := .fresh, age := 9, lastSource := some 3 }).statusResult 2 1 =
      some [0x11, 0x03, 9, 3, 0xFF] ∧
    ((stored fun st => { st with lines := st.lines.set 7 { lineOf 7 .dirty false with recent := true } }).statusResult 11 3) =
      some [3, 1, 7, 0x22] := by decide +kernel

/-- R48: the byte 82h on MUX: a driven start bit, its bits from the least significant on with 0 driven, a released stop bit. -/
theorem test_mux_bits : muxBits 0x82 = [true, true, false, true, true, true, true, true, false, false] := by decide

/-- R10: the SET press that ends MINUTE-SET starts no hold (log entry 44). -/
theorem test_last_set_press :
    let s := (keyed id .clock).setCounting { driving.counting with clockSet := .minuteSet, keyIdle := some 9 }
    s.trip.page = .clock ∧ (after (.keyPress .set) s).keys.set.hold = .idle ∧
      (after (.keyPress .set) s).counting.clockSet = .normal := by decide +kernel

/-- R157: of two waiting resets of a block the lower item's comes first (log entry 45). -/
theorem test_lower_reset_first :
    let item (y : Bool) : ServiceItem := ⟨.ok, 0, 0, !y, y⟩
    let s := (fillingService 0 0 0 false false).setService
      { driving.service with items := (driving.service.items.set 0 (item true)).set 1 (item false) }
    (s.serviceFill 3 false).store.orders = [.fill 3, .single 3 true none, .single 3 false none] := by decide +kernel

theorem witness_PowerOnResetStartsLoad_write : ∀ x ∈ [(0 : Byte), 0x11],
    let s := stored fun st =>
      { st with
        nv := (fillingStore 3 x .none).nv, op := some (.write 6 [] .single 1)
        lines := st.lines.modify 6 fun l => { l with state := .writing } }
    s.store.op = some (.write 6 [] .single 1) ∧ (s.store.line 6).tag = some 3 ∧ s.store.nv.wf = true ∧
      (checkSum s.store 3 ≠ 0 ↔ x = 0x11) := by decide +kernel

/-- Every line of a store with a tag holds a block of its own set. -/
theorem sets_of (st : Store) (h : ∀ j < 8, (st.line j).tag.all (fun b => b % 4 == j / 2) = true) : st.InSets := by
  intro j hj b hb
  have k := h j hj
  rw [hb] at k
  exact (by simpa using k : b % 4 = j / 2).symm

theorem witness_StateStaysInBounds_sets : let s := driving.setPending [.fetch 63]
    s.store.InSets ∧ ∃ t, step s = .next t := ⟨sets_of _ (by decide +kernel), steps _ _⟩

/-- A part on the SERVICE page with RESET held and item `i` selected, the block of items 0 and 1 absent. -/
def resetting (i : Nat) : State :=
  ((keyed (held .reset .serviceReset) .service).setService { driving.service with selected := some i }).setStore
    { restStore with lines := restStore.lines.set 6 .invalid }

theorem witness_ServiceResetRestoresIntervals_waits :
    (∀ i < 2, let s := resetting i
      i < s.service.items.length ∧ s.store.AtRest ∧ s.itemActive i = true ∧ s.store.present (itemBlock i) = false ∧
        s.service.fetchMarks.length = 4 ∧ s.service.mark (itemBlock i) = false ∧ s.store.find (itemBlock i) = none ∧
        (s.keys.reset.hold = .serviceReset ∧ s.ign = .run ∧ s.counting.speed < 20 ∧ s.warningPage = false ∧
          s.trip.page = .service ∧ s.service.selected = some i) ∧ s.TakesRequest ∧
        (after (.serviceReset (byteOf i)) s).handler.state = .working) ∧
    ∀ i, 4 ≤ i → i < 8 → driving.itemActive i = false ∧ driving.TakesRequest ∧ driving.store.AtRest := by
  unfold Store.AtRest State.TakesRequest LineStation.Open
  refine ⟨by decide +kernel, fun i h k => ?_⟩
  interval_cases i <;> decide +kernel

/-- `driving` with INFORMATION warning 26 complete at its 39th tenth and warning 3 SILENCED in its last minute, under review. -/
def lastTick : State :=
  let s := withWarning (withWarning driving 26 ⟨.shown, true, 39, true, 0⟩) 3 ⟨.silenced, true, 0, false, 1⟩
  s.setArbiter { s.arbiter with review := some ⟨3, 5⟩ }

/-- R127, R128: both at one tick; the reminded CAUTION is SHOWN and ends the review. -/
theorem witness_ArbiterTickCounts_ends :
    lastTick.arbiter.tick.isSome = true ∧ lastTick.OrdersComplete ∧ lastTick.MostUrgentShown ∧
      ((lastTick.warning 3).state = .silenced ∧ (lastTick.warning 3).reminder = 1) ∧
      ((lastTick.warning 26).state = .shown ∧ lastTick.warningClass 26 = .information ∧
        (lastTick.warning 26).completed = true ∧ (lastTick.warning 26).shownTimer = 39) ∧
      ((after .arbiterTick lastTick).warning 3).state = .shown ∧
      ((after .arbiterTick lastTick).warning 26).state = .silenced ∧ (after .arbiterTick lastTick).arbiter.review = none :=
  ⟨rfl, orders_of _ rfl rfl rfl rfl, urgent_of _ (by decide +kernel), by decide +kernel, by decide +kernel, by decide +kernel,
    by decide +kernel, by decide +kernel⟩

theorem witness_BlockWritesEnd_holdup :
    (∀ h again : Bool, ((stateIn .holdup).setStore (walkingStore h again 0 true)).StaysUp 6) ∧
    (let s := (stateIn .holdup).setStore (writingStore .writing true false (some (.write 6 (List.replicate 15 0) .single 4)));
      s.ign = .holdup ∧ s.StaysUp 6) ∧
    (let s := ((stateIn .holdup).setStore (writingStore .writing false true
        (some (.write 6 (List.replicate 15 0) .single 4)))).setHandler { state := .working, topic := 0x62, unanswered := 0 };
      s.ign = .holdup ∧ s.line.queue = [] ∧ s.store.task = .writeback 3 ∧ s.line.Open 0x70 ∧
        (after .blockWriteReady s).ign = .holdup) := by
  unfold LineStation.Open
  exact ⟨fun _ _ _ => .inr (.inr ⟨4, by decide, by decide, .head _⟩), ⟨rfl, fun _ => .inr (.inl rfl)⟩,
    by decide +kernel⟩

theorem witness_IgnitionFollowsKey_odometer : ∀ x ∈ [Ign.accessory, .run], let s := stateIn x
    s.line.queue.length < 11 ∧ s.store.Settled ∧ (after (.keyPositionChange false false) s).ign = .holdup ∧
      (after (.keyPositionChange false false) s).line.queue.map (·.topic) = [0x41] := by
  unfold Store.Settled
  decide +kernel

/-- R182, R183: the last message discarded at its sixteenth clash, and a sleep that WAKE or the key ends at once. -/
theorem witness_StandbyFollowsLevels_wakes :
    let m := { msg 1 0x44 true true with attempts := 15 }
    let sending (wake acc : Bool) : State :=
      let s := (stateIn .holdup).setLine { driving.line with state := .sending, queue := [m] }
      s.setIgnition { s.ignition with wake := wake, acc := acc }
    (∀ wake acc : Bool, let s := sending wake acc
      s.ign = .holdup ∧ s.line.state = .sending ∧ s.line.queue = [m] ∧ m.sending = true ∧ 15 ≤ m.attempts ∧
        s.store.dirtyReported = false ∧ s.ignition.holdupTimer.isSome = true ∧
        (levelState s.ignition.run s.ignition.acc s.ignition.wake = .sleep ↔ wake = false ∧ acc = false)) ∧
    (after (.clash true) (sending false false)).ign = .sleep ∧ (after .breakRecognised (sending true false)).ign = .watch ∧
    (after .holdupTimerExpiry (sending true true)).ign = .accessory := by decide +kernel

theorem witness_WritebacksAndRemovalsAreTaken_system : ∀ n < 3,
    driving.store.find n = some (2 * n) ∧ (driving.store.line (2 * n)).state ≠ .invalid ∧ 2 * n = 2 * n + 0 ∧ n < 4 ∧
      (after (.indexWritebackInvalidate (byteOf n) 0) driving).line.queue.map (·.data) = [[0x62, 5]] := by decide +kernel

/-- R154, R156: a day with the block of items 0 and 1 absent and that of items 2 and 3 held, in which item 2 becomes SOON and item 3 DUE. -/
theorem witness_CountdownLowersItems_mixed :
    let day := counts fun c => { c with hours := 23, minutes := 59, seconds := 59 }
    let left := restStore.lines.modify 1 fun l => { l with data := [0, 0, 0, 61] ++ List.replicate 11 0 }
    let s := day.setStore { restStore with lines := left.set 6 .invalid }
    (s.store.AtRest ∧ s.store.SystemPresent ∧ (∀ b ≤ 2, s.store.isPinned b = true) ∧ s.service.items.length = 8 ∧
      s.service.fetchMarks.length = 4 ∧ s.counting.BeforeMidnight ∧ s.ign.awake = true ∧ s.arbiter.warnings.length = 32) ∧
    s.store.InSets ∧ driving.store.InSets ∧ (nearStep 9 99 5 1).store.InSets ∧
    (s.store.present (itemBlock 0) = false ∧ s.store.Holds (itemBlock 2) ∧ (s.item 2).state = .ok ∧
      ((after .oneSecondTimer s).item 2).state = .soon ∧ ((after .oneSecondTimer s).warning 27).state ≠ .off) := by
  unfold Store.AtRest Store.SystemPresent Store.Holds Counting.BeforeMidnight
  refine ⟨by decide +kernel, sets_of _ (by decide +kernel), sets_of _ (by decide +kernel), sets_of _ (by decide +kernel), ?_⟩
  decide +kernel

theorem witness_FetchesAndPinsAreTaken_holdup : let s := (stateIn .holdup).setLine { driving.line with queue := [msg 1 0x44 true false] }
    s.ign = .holdup ∧ s.StaysUp 7 := ⟨rfl, fun _ => .inl (by decide +kernel)⟩

/-- R153, R154: a WRITE BYTES of item 0's counts, and a fill, by which the item becomes OVERDUE and DUE, raise warnings 29 and 28. -/
theorem witness_item_changes_raise :
    (let s := after (.writeBytes 3 0 [0x83, 0]) driving;
      (s.item 0).state = .overdue ∧ (s.warning 29).state = .shown ∧ driving.arbiter.warnings.length = 32 ∧
        driving.ign.awake = true ∧ driving.service.items.length = 8) ∧
    (let t := after .blockReadEnd (fillingService 0 1 1 false false);
      (t.item 0).state = .due ∧ (t.warning 28).state = .shown) := by decide +kernel

/-- The built-in default image meets R185's check and the limits of Table 9-1 (log entry 51). -/
theorem test_default_limits : (defaultItems.map fun f => (f.distanceInterval, f.aheadKm, f.marginKm)).take 4 =
    [(15000, 1000, 1000), (30000, 2000, 2000), (0, 0, 1), (32000, 3000, 3000)] := by decide

/-- R11: ACK in clock setting, with a warning SHOWN and with none. -/
theorem witness_ClockIsSet_ack : ∀ x ∈ [ClockSet.hourSet, .minuteSet], ∀ s ∈ [driving, showing 2 30 true],
    let u := s.setCounting { s.counting with clockSet := x, keyIdle := some 1 }
    u.counting.clockSet ≠ .normal ∧ u.KeyReady .ack ∧ u.store.Settled ∧
      (after (.keyPress .ack) u).counting.keyIdle = some 1000 ∧ (after (.keyPress .ack) u).counting.clockSet = x := by
  unfold State.KeyReady Store.Settled
  decide +kernel

/-- R170: PINNED at once for a pinned line and a system line under write (log entry 52). -/
theorem test_pinned_while_writing :
    let s := stored fun st => { st with lines := (st.lines.set 6 (lineOf 3 .writing true)).set 0 (lineOf 0 .writing true) }
    ∀ c ∈ [Instr.invalidate 3, .invalidate 0, .writebackInvalidate 0, .indexWritebackInvalidate 0 0],
      (after c s).line.queue.map (·.data) = [[0x62, 5]] := by decide +kernel

end Sys2Proof.Tests
end

section
/-! SUPPORT. R16, the filter of fuel remaining: what it makes of F and the refuel timer in each of its cases, and that the
rest of the 1 s timer's work leaves both alone. Settles O19. -/

namespace Sys2Proof.Machine

/-! ### What R16 reads and writes of the counting unit -/

/-- The counts that R16 reads or moves are the same: F, F_raw, the refuel timer, and the speed behind STOPPED. -/
structure Counting.SameFuel (c d : Counting) : Prop where
  fuel : d.fuel = c.fuel
  rawFuel : d.rawFuel = c.rawFuel
  refuelTimer : d.refuelTimer = c.refuelTimer
  speed : d.speed = c.speed

theorem Counting.SameFuel.refl (c : Counting) : c.SameFuel c := ⟨rfl, rfl, rfl, rfl⟩

theorem Counting.SameFuel.of_eq {c d : Counting} (h : d = c) : c.SameFuel d := h ▸ refl c

theorem Counting.SameFuel.trans {c d e : Counting} (h : c.SameFuel d) (k : d.SameFuel e) : c.SameFuel e :=
  ⟨k.fuel.trans h.fuel, k.rawFuel.trans h.rawFuel, k.refuelTimer.trans h.refuelTimer, k.speed.trans h.speed⟩

theorem stopped_congr {s u : State} (h : s.counting.SameFuel u.counting) : u.stopped = s.stopped := by
  simp only [State.stopped, h.speed]

/-- The filter reads F, F_raw, the refuel timer, the speed, the ignition state, the topic table and the calibration alone. -/
theorem filterFuel_congr {s u : State} (hc : s.counting.SameFuel u.counting) (hi : u.ign = s.ign)
    (ht : u.topics = s.topics) (hk : u.cal = s.cal) : s.filterFuel.counting.SameFuel u.filterFuel.counting := by
  have he : u.entry 2 = s.entry 2 := by simp only [State.entry, ht]
  simp only [State.filterFuel, hi, he, hk, hc.fuel, hc.rawFuel, hc.refuelTimer, stopped_congr hc]
  split
  · split
    · split <;> exact ⟨rfl, rfl, rfl, hc.speed⟩
    · exact ⟨rfl, rfl, rfl, hc.speed⟩
  · exact ⟨rfl, rfl, rfl, hc.speed⟩

/-! ### The cases of the filter (R16) -/

section

variable {s : State} {f raw : Nat}

/-- The filter with F and F_raw values in an awake state and E2 FRESH: the refuel condition decides. -/
theorem filterFuel_fresh (ha : s.ign.awake = true) (he : (s.entry 2).state = .fresh) (hf : s.counting.fuel = some f)
    (hr : s.counting.rawFuel = some raw) :
    s.filterFuel.counting =
      if f + s.cal.refuel ≤ raw ∧ s.counting.speed < 20 then
        if 10 ≤ s.counting.refuelTimer + 1 then { s.counting with fuel := some raw, refuelTimer := 0 }
        else { s.counting with fuel := some (filterStep f raw), refuelTimer := s.counting.refuelTimer + 1 }
      else { s.counting with fuel := some (filterStep f raw), refuelTimer := 0 } := by
  simp only [State.filterFuel, ha, he, hf, hr, State.stopped, beq_self_eq_true, Bool.and_self, Bool.and_eq_true,
    decide_eq_true_eq]
  split
  · split <;> rfl
  · rfl

/-- The filter in every other case: F stays and the refuel timer returns to 0. -/
theorem filterFuel_resting (h : s.ign.awake = false ∨ (s.entry 2).state ≠ .fresh ∨ s.counting.fuel = none ∨
    s.counting.rawFuel = none) : s.filterFuel.counting = { s.counting with refuelTimer := 0 } := by
  unfold State.filterFuel
  dsimp only
  split
  next hd hf hr =>
    have hd' : s.ign.awake = true ∧ (s.entry 2).state = .fresh := by simpa using hd
    obtain ha | he | hn | hn := h
    · simp [ha] at hd'
    · exact absurd hd'.2 he
    · simp [hn] at hf
    · simp [hn] at hr
  next => rfl

end

/-! ### What the rest of the 1 s timer's work leaves of it -/

/-- The clock's second moves the time and the day count alone (R9). -/
theorem second_sameFuel (c : Counting) : c.SameFuel c.second.1 := by
  unfold Counting.second
  split
  · exact ⟨rfl, rfl, rfl, rfl⟩
  · split
    · exact ⟨rfl, rfl, rfl, rfl⟩
    · split <;> exact ⟨rfl, rfl, rfl, rfl⟩

/-- Midnight's "1 day", given or held, is no matter of the filter's (R9). -/
theorem clockSecond_sameFuel (s : State) : s.counting.SameFuel s.clockSecond.counting := by
  have hsecond := second_sameFuel s.counting
  unfold State.clockSecond
  dsimp only
  split
  · exact hsecond
  · split
    · exact hsecond.trans (.of_eq (countdown_kept _ false).counting)
    · exact hsecond.trans ⟨rfl, rfl, rfl, rfl⟩

theorem tripSecond_kept (s : State) : KeptBut [.store, .trip] s s.tripSecond :=
  KeptBut.ite (onTrips_kept (fun s r => addTime_kept s r 1) s) (KeptBut.refl _ _)

/-- A target of the pass, requested or set NONE in the trip block, is no matter of the counting unit's. -/
theorem passTarget_counting (s : State) (x : Target) (r : Option Request) (clear : State → Trip) :
    (s.passTarget x r fun s => s.setTrip (clear s)).counting = s.counting :=
  (passTarget_kept (bs := [.arith, .trip]) s x r ((setTrip_kept _ _).mono (by decide)) (by decide)).counting

/-- The pass returns the window to 0 and changes no other count (R34). -/
theorem tripPass_counting (s : State) :
    s.tripPass.counting = { s.counting with windowSteps := 0, windowFuel := 0 } := by
  unfold State.tripPass
  dsimp only
  rw [passTarget_counting, passTarget_counting, (onTrips_kept (passRecord_kept s) _).counting,
    State.setCounting_counting]

theorem passDue_sameFuel (s : State) : s.counting.SameFuel s.passDue.counting := by
  unfold State.passDue
  split
  · rw [tripPass_counting]; exact ⟨rfl, rfl, rfl, rfl⟩
  · exact .refl _

/-- The state that the filter meets within the 1 s timer's command. -/
def State.beforeFilter (s : State) : State :=
  (s.setCounting { s.counting with secondTimer := 100 }).clockSecond.tripSecond

theorem exec_oneSecondTimer (s : State) :
    exec .oneSecondTimer s =
      .next (State.present s s.beforeFilter.filterFuel.passDue.rearPageDue.settleStore) := rfl

theorem beforeFilter_kept (s : State) : KeptBut stepBlocks s s.beforeFilter :=
  ((setCounting_kept _ _).andThen (cs := stepBlocks) (clockSecond_kept _)).andThen (tripSecond_kept _)

theorem beforeFilter_sameFuel (s : State) : s.counting.SameFuel s.beforeFilter.counting := by
  have htimer : s.counting.SameFuel (s.setCounting { s.counting with secondTimer := 100 }).counting :=
    ⟨rfl, rfl, rfl, rfl⟩
  exact (htimer.trans (clockSecond_sameFuel _)).trans (.of_eq (tripSecond_kept _).counting)

/-- The 1 s timer leaves of F, F_raw, the refuel timer and the speed what the filter alone would: the clock, the trip time,
the pass and 42h touch none of them, and nothing else that the filter reads. -/
theorem oneSecondTimer_sameFuel (s : State) :
    ∃ t, exec .oneSecondTimer s = .next t ∧ s.filterFuel.counting.SameFuel t.counting := by
  refine ⟨_, exec_oneSecondTimer s, ?_⟩
  have hbefore := beforeFilter_kept s
  have hfilter := filterFuel_congr (beforeFilter_sameFuel s) hbefore.ign hbefore.topics hbefore.cal
  rw [State.present_counting, (settleStore_kept _).counting, (rearPageDue_kept _).counting]
  exact hfilter.trans (passDue_sameFuel _)

/-- Settles O19: the 1 s timer does to F what the filter alone does (`oneSecondTimer_sameFuel`), and the filter is R16 case by
case. -/
theorem fuelFilterMoves : Obligations.FuelFilterMoves := by
  refine ⟨rfl, fun s => ?_⟩
  obtain ⟨t, hexec, hsame⟩ := oneSecondTimer_sameFuel s
  refine ⟨t, hexec, fun f raw ha he hf hr => ?_, fun hrest => ?_⟩
  · have hfilter := filterFuel_fresh ha he hf hr
    refine ⟨?_, fun hraw hspeed htimer => ?_, fun hraw hspeed htimer => ?_, fun hno => ?_⟩
    · rw [hsame.rawFuel, hfilter]
      split
      · split <;> exact hr
      · exact hr
    · rw [hsame.fuel, hsame.refuelTimer, hfilter, if_pos ⟨hraw, hspeed⟩, if_pos (by omega)]
      exact ⟨rfl, rfl⟩
    · rw [hsame.fuel, hsame.refuelTimer, hfilter, if_pos ⟨hraw, hspeed⟩, if_neg (by omega)]
      exact ⟨rfl, rfl⟩
    · rw [hsame.fuel, hsame.refuelTimer, hfilter, if_neg hno]
      exact ⟨rfl, rfl⟩
  · rw [hsame.fuel, hsame.rawFuel, hsame.refuelTimer, filterFuel_resting hrest]
    exact ⟨rfl, rfl, rfl⟩

end Sys2Proof.Machine
end

section
/-! SUPPORT. R20, SCALE-DIVIDE: why the quotient that it forms is N × K ÷ C rounded half up, and the operation's outcome in
each case of Table 2-1. Settles O20. -/

namespace Sys2Proof.Machine

/-! ### The rounded quotient -/

/-- N × K ÷ C with half the divisor added first, as SCALE-DIVIDE forms it before it looks at the range. -/
def roundedQuotient (n k c : Nat) : Nat := (n * k + c / 2) / c

/-- Half up, from below: the quotient is at most N × K ÷ C + 1/2. -/
theorem roundedQuotient_le {n k c : Nat} : c * (2 * roundedQuotient n k c) ≤ 2 * (n * k) + c := by
  have hfloor : c * roundedQuotient n k c ≤ n * k + c / 2 := Nat.mul_div_le _ _
  rw [Nat.mul_left_comm c]
  omega

/-- Half up, from above: the next integer is more than N × K ÷ C + 1/2, so that a half goes up. For an odd divisor, whose
half R20 rounds down, no quotient lies halfway between two integers. -/
theorem lt_roundedQuotient_succ {n k c : Nat} (hc : 0 < c) :
    2 * (n * k) + c < c * (2 * roundedQuotient n k c + 2) := by
  have hnext : n * k + c / 2 < c * (roundedQuotient n k c + 1) := Nat.lt_mul_div_succ _ hc
  rw [show 2 * roundedQuotient n k c + 2 = 2 * (roundedQuotient n k c + 1) from rfl, Nat.mul_left_comm c]
  omega

/-- With N or K at 0 only the half divisor is left, and it holds no whole divisor. -/
theorem roundedQuotient_of_zero_factor {n k c : Nat} (hc : 0 < c) (h : n = 0 ∨ k = 0) : roundedQuotient n k c = 0 := by
  have hproduct : n * k = 0 := Nat.mul_eq_zero.mpr h
  rw [roundedQuotient, hproduct, Nat.zero_add]
  exact Nat.div_eq_of_lt (Nat.div_lt_self hc (by decide))

/-! ### The outcomes of Table 2-1 -/

theorem scaleDivide_zero_divisor (n k : Nat) : scaleDivide n k 0 = .none := rfl

theorem scaleDivide_of_pos {n k c : Nat} (hc : 0 < c) :
    scaleDivide n k c =
      if 65534 < roundedQuotient n k c then .saturated 65534 else .valid (roundedQuotient n k c) :=
  if_neg hc.ne'

theorem scaleDivide_saturated {n k c : Nat} (hc : 0 < c) (h : 65534 < roundedQuotient n k c) :
    scaleDivide n k c = .saturated 65534 := by
  rw [scaleDivide_of_pos hc, if_pos h]

theorem scaleDivide_valid {n k c : Nat} (hc : 0 < c) (h : roundedQuotient n k c ≤ 65534) :
    scaleDivide n k c = .valid (roundedQuotient n k c) := by
  rw [scaleDivide_of_pos hc, if_neg h.not_gt]

/-- Every outcome is that of a request with these operands, whatever its target. -/
theorem scaleDivide_given (n k c : Nat) : (scaleDivide n k c).Given :=
  Request.result_given ⟨.speed, n, k, c, 0, 0, false⟩

/-! ### The width of the intermediate values -/

/-- The largest N and K bound the product, and with the largest C the dividend, which 40 bits hold. -/
theorem dividend_bounds {n k c : Nat} (hn : n ≤ 16777215) (hk : k ≤ 65535) (hc : c ≤ 16777215) :
    n * k ≤ 1099494785025 ∧ n * k + c / 2 ≤ 1099503173632 ∧ 1099503173632 < 2 ^ 40 := by
  have hproduct : n * k ≤ 16777215 * 65535 := Nat.mul_le_mul hn hk
  omega

/-- Settles O20: the quotient of the statement is `roundedQuotient`, and Table 2-1 is read off it case by case. -/
theorem scaleDivideRounds : Obligations.ScaleDivideRounds := by
  intro n k c hn hk hc
  refine ⟨dividend_bounds hn hk hc, fun hzero => ?_, fun hpos => ?_, fun hpos hfactor => ?_, fun hvalue => ?_⟩
  · rw [hzero, scaleDivide_zero_divisor]
  · exact ⟨roundedQuotient n k c, roundedQuotient_le, lt_roundedQuotient_succ hpos, scaleDivide_saturated hpos,
      scaleDivide_valid hpos⟩
  · have hquotient := roundedQuotient_of_zero_factor hpos hfactor
    rw [scaleDivide_valid hpos (by omega), hquotient]
  · have hgiven : (scaleDivide n k c).value ≤ 65534 := scaleDivide_given n k c
    omega

end Sys2Proof.Machine
end

section
/-! SUPPORT. R94, the damping step: its three cases, the distance that it leaves to 16 times the target, and why that
distance is gone in at most as many updates as it counts sixteenths. Settles O41. -/

namespace Sys2Proof.Machine

/-! ### The length of the step -/

/-- |Δ| shifted right, but at least 1: what one damping step takes off a distance of Δ sixteenths (R94). -/
def dampingMove (shift gap : Nat) : Nat := max 1 (gap / 2 ^ shift)

theorem one_le_dampingMove (shift gap : Nat) : 1 ≤ dampingMove shift gap := le_max_left ..

/-- The step is never larger than |Δ|, so it cannot pass the target. -/
theorem dampingMove_le {shift gap : Nat} (h : 0 < gap) : dampingMove shift gap ≤ gap :=
  max_le h (Nat.div_le_self ..)

theorem le_dampingMove_zero (gap : Nat) : gap ≤ dampingMove 0 gap := by simp [dampingMove]

/-! ### The three cases of the step -/

section
variable {shift target filtered : Nat}

theorem dampingStep_arrived (h : filtered = 16 * target) : dampingStep shift target filtered = filtered := by
  simp [dampingStep, h]

theorem dampingStep_of_lt (h : filtered < 16 * target) :
    dampingStep shift target filtered = filtered + dampingMove shift (16 * target - filtered) := if_pos h

theorem dampingStep_of_gt (h : 16 * target < filtered) :
    dampingStep shift target filtered = filtered - dampingMove shift (filtered - 16 * target) := by
  simp [dampingStep, dampingMove, h, h.not_gt]

theorem dampingStep_le_target (h : filtered < 16 * target) : dampingStep shift target filtered ≤ 16 * target := by
  have hmove := dampingMove_le (shift := shift) (Nat.sub_pos_of_lt h)
  rw [dampingStep_of_lt h]
  omega

/-- From above the step is a subtraction that does not truncate, and it does not pass the target. -/
theorem dampingStep_add_move (h : 16 * target < filtered) :
    dampingStep shift target filtered + dampingMove shift (filtered - 16 * target) = filtered ∧
      16 * target ≤ dampingStep shift target filtered := by
  have hmove := dampingMove_le (shift := shift) (Nat.sub_pos_of_lt h)
  rw [dampingStep_of_gt h]
  omega

/-- The step stays between the filtered angle and the target, so a bound on both bounds it. -/
theorem dampingStep_le_max : dampingStep shift target filtered ≤ max filtered (16 * target) := by
  obtain h | h | h := lt_trichotomy filtered (16 * target)
  · exact (dampingStep_le_target h).trans (le_max_right ..)
  · exact (dampingStep_arrived h).le.trans (le_max_left ..)
  · obtain ⟨hstep, -⟩ := dampingStep_add_move (shift := shift) h
    exact (Nat.le.intro hstep).trans (le_max_left ..)

end

/-! ### The distance to the target -/

/-- From either side a step takes its length off the distance; at the target the distance is 0 and stays so. -/
theorem dist_dampingStep (shift target filtered : Nat) :
    (dampingStep shift target filtered).dist (16 * target) =
      filtered.dist (16 * target) - dampingMove shift (filtered.dist (16 * target)) := by
  obtain h | h | h := lt_trichotomy filtered (16 * target)
  · rw [Nat.dist_eq_sub_of_le h.le, Nat.dist_eq_sub_of_le (dampingStep_le_target h), dampingStep_of_lt h, Nat.sub_add_eq]
  · rw [dampingStep_arrived h, Nat.dist_eq_zero h, Nat.zero_sub]
  · obtain ⟨hstep, hreach⟩ := dampingStep_add_move (shift := shift) h
    rw [Nat.dist_eq_sub_of_le_right h.le, Nat.dist_eq_sub_of_le_right hreach]
    omega

/-- With a shift of 0 the step is as long as the distance. -/
theorem dampingStep_zero_shift (target filtered : Nat) : dampingStep 0 target filtered = 16 * target :=
  Nat.eq_of_dist_eq_zero (by rw [dist_dampingStep, Nat.sub_eq_zero_of_le (le_dampingMove_zero _)])

/-- Each update closes at least one sixteenth of a count. -/
theorem dist_iterate_dampingStep (shift target n filtered : Nat) :
    ((dampingStep shift target)^[n] filtered).dist (16 * target) ≤ filtered.dist (16 * target) - n := by
  induction n with
  | zero => exact le_rfl
  | succ n ih =>
    have hmove := one_le_dampingMove shift (((dampingStep shift target)^[n] filtered).dist (16 * target))
    rw [Function.iterate_succ_apply', dist_dampingStep]
    omega

theorem dampingStep_arrives (shift target filtered : Nat) :
    (dampingStep shift target)^[filtered.dist (16 * target)] filtered = 16 * target :=
  Nat.eq_of_dist_eq_zero (Nat.le_zero.mp
    ((dist_iterate_dampingStep shift target _ filtered).trans (Nat.sub_self _).le))

/-- Settles O41: the cases of R94 one by one, and the arrival after as many updates as the distance counts sixteenths. -/
theorem dampingArrives : Obligations.DampingArrives := by
  intro shift target filtered htarget hfiltered
  have hgoal : 16 * target ≤ 12272 := by omega
  have hdist : filtered.dist (16 * target) ≤ 12272 := by
    rw [Nat.dist]
    omega
  exact ⟨dampingStep_arrived, fun hbelow => ⟨dampingStep_of_lt hbelow, dampingStep_le_target hbelow⟩,
    dampingStep_add_move, dampingStep_le_max.trans (max_le hfiltered hgoal), dampingStep_zero_shift target filtered,
    _, hdist, dampingStep_arrives shift target filtered⟩

end Sys2Proof.Machine
end

section
/-! SUPPORT. The queue of commands, the power-on reset and what every command answers. Settles O1 to O5. -/

namespace Sys2Proof.Machine

/-- Settles O1: `step` by its own definition on a queue that is not empty. -/
theorem stepRunsFrontCommand : Obligations.StepRunsFrontCommand := by
  intro c rest s h
  simp only [step, h]

/-- Settles O5: the frame of every command leaves the queue of waiting commands out. -/
theorem everyCommandCompletes : Obligations.EveryCommandCompletes := by
  intro c s
  obtain ⟨u, hexec, hframe⟩ := command_frame c s
  exact ⟨_, hexec, by rw [State.present_pending, hframe.pending (blocks_pending c)]⟩

/-! ### The idle step -/

theorem mem_dueIf {b : Bool} {c d : Instr} : d ∈ dueIf b c ↔ b = true ∧ d = c := by
  cases b <;> simp [dueIf]

theorem timerEnds_iff {t : Option Nat} : timerEnds t = true ↔ ∃ n, t = some n ∧ n ≤ 1 := by
  cases t <;> simp [timerEnds]

/-- A mark of a hold is none of the commands that a key pin or the counting unit's timers bring. -/
theorem mem_markDue {x : KeyInput} {c : Instr} (h : c ∈ x.markDue) :
    c ∈ [Instr.clockSetHold, .tripResetHold, .serviceResetHold, .serviceStepHold] := by
  unfold KeyInput.markDue at h
  cases hh : x.hold <;> simp_all [Hold.mark, mem_dueIf]

theorem mem_sampleDue {k : Key} {x : KeyInput} {c : Instr} :
    c ∈ x.sampleDue k ↔
      3 ≤ samplesNow x.pinLow x.takenLow x.samples ∧ c = if x.pinLow then .keyPress k else .keyRelease k := by
  simp [KeyInput.sampleDue, mem_dueIf]

theorem three_le_samplesNow {pin level : Bool} {n : Nat} : 3 ≤ samplesNow pin level n ↔ pin ≠ level ∧ 2 ≤ n := by
  unfold samplesNow
  split <;> simp_all

theorem mem_due_flatMap_keys {ks : Keys} {c : Instr} :
    (c ∈ [Key.mode, .reset, .set, .ack].flatMap fun k => (ks.get k).sampleDue k) ↔
      ∃ k, c ∈ (ks.get k).sampleDue k := by
  simp only [List.mem_flatMap]
  exact ⟨fun ⟨k, _, h⟩ => ⟨k, h⟩, fun ⟨k, h⟩ => ⟨k, by cases k <;> simp, h⟩⟩

/-- The commands that a tick's statement speaks of: the counting unit's two periodic timers and the keys' samples. -/
def isTimedOrSampled : Instr → Bool
  | .oneSecondTimer | .halfSecondWindowClosure | .keyPress _ | .keyRelease _ => true
  | _ => false

theorem not_timed_line {l : LineStation} {c : Instr} (h : c ∈ l.timersDue ∨ c ∈ l.lineDue ∨ c ∈ l.sentDue) :
    isTimedOrSampled c = false := by
  rcases h with h | h | h
  · simp only [LineStation.timersDue, List.mem_append, mem_dueIf] at h
    rcases h with (⟨-, rfl⟩ | ⟨-, rfl⟩) | ⟨-, rfl⟩ <;> rfl
  · unfold LineStation.lineDue at h
    cases hs : l.state <;> simp only [hs, List.mem_append, mem_dueIf, List.not_mem_nil] at h
    case init => rcases h with ⟨-, rfl⟩ | ⟨-, rfl⟩ <;> rfl
    case breaking => rcases h with ⟨-, rfl⟩ | ⟨-, rfl⟩ <;> rfl
    case quiet => obtain ⟨-, rfl⟩ := h; rfl
    case receiving => obtain ⟨-, rfl⟩ := h; rfl
  · obtain ⟨-, rfl⟩ := mem_dueIf.mp h
    rfl

theorem not_timed_store {st : Store} {c : Instr} (h : c ∈ st.due) : isTimedOrSampled c = false := by
  unfold Store.due at h
  split at h <;> simp [mem_dueIf] at h
  · rw [h]; rfl
  · rw [h]; rfl
  · rw [h.2]; rfl

theorem not_timed_other {s : State} {c : Instr}
    (h : c ∈ s.sound.due ∨ c ∈ s.arbiter.due ∨ c ∈ s.topics.due ∨ c ∈ s.gauges.due ∨ c ∈ s.rules.due ∨
      c ∈ s.display.due ∨ c ∈ s.ignition.due) : isTimedOrSampled c = false := by
  simp only [Sound.due, Arbiter.due, Topics.due, Gauges.due, Rules.due, Display.due, Ignition.due, List.mem_append,
    mem_dueIf] at h
  rcases h with h | h | h | h | h | h | h
  · rcases h with (((h | h) | h) | h) | h <;> rw [h.2] <;> rfl
  · rcases h with h | h <;> rw [h.2] <;> rfl
  · rw [h.2]; rfl
  · rcases h with h | h <;> rw [h.2] <;> rfl
  · rw [h.2]; rfl
  · rcases h with h | h <;> rw [h.2] <;> rfl
  · rcases h with ((h | h) | h) | h <;> rw [h.2] <;> rfl

/-- Of these commands a tick brings those of the counting unit's timers and of the key samples alone. -/
theorem mem_due_iff {s : State} {c : Instr} (hc : isTimedOrSampled c = true) :
    c ∈ s.due ↔ c ∈ s.counting.due ∨ ∃ k, c ∈ (s.keys.get k).sampleDue k := by
  have hmark (x : KeyInput) (h : c ∈ x.markDue) : False := by
    have := mem_markDue h
    simp only [List.mem_cons, List.not_mem_nil, or_false] at this
    rcases this with rfl | rfl | rfl | rfl <;> cases hc
  have hno (h : isTimedOrSampled c = false) : False := by rw [hc] at h; cases h
  unfold State.due Keys.due
  simp only [List.mem_append, mem_due_flatMap_keys]
  constructor
  · rintro ((((((((((((h | h) | h) | h) | h) | h) | h) | h) | h) | h) | h) | h) | h)
    · exact (hno (not_timed_other (s := s) (by simp [h]))).elim
    · exact (hno (not_timed_other (s := s) (by simp [h]))).elim
    · exact .inl h
    · rcases h with (((h | h) | h) | h) | h
      · exact (hmark _ h).elim
      · exact (hmark _ h).elim
      · exact (hmark _ h).elim
      · exact (hmark _ h).elim
      · exact .inr h
    · exact (hno (not_timed_line (.inl h))).elim
    · exact (hno (not_timed_other (s := s) (by simp [h]))).elim
    · exact (hno (not_timed_other (s := s) (by simp [h]))).elim
    · exact (hno (not_timed_other (s := s) (by simp [h]))).elim
    · exact (hno (not_timed_other (s := s) (by simp [h]))).elim
    · exact (hno (not_timed_line (.inr (.inl h)))).elim
    · exact (hno (not_timed_store h)).elim
    · exact (hno (not_timed_line (.inr (.inr h)))).elim
    · exact (hno (not_timed_other (s := s) (by simp [h]))).elim
  · rintro (h | h) <;> simp [h]

theorem mem_countingDue {c : Counting} {i : Instr} :
    i ∈ c.due ↔ (c.secondTimer ≤ 1 ∧ i = .oneSecondTimer) ∨
      ((∃ n, c.windowTimer = some n ∧ n ≤ 1) ∧ i = .halfSecondWindowClosure) ∨
      ((∃ n, c.keyIdle = some n ∧ n ≤ 1) ∧ i = .keyIdleTimerExpiry) := by
  simp [Counting.due, mem_dueIf, timerEnds_iff]

/-- A sample brings a press of a key that is at rest, or a release of one that is not. -/
theorem keySample_due {s : State} (k : Key) :
    let x := s.keys.get k
    (Instr.keyPress k ∈ s.due ↔ x.pinLow = true ∧ x.pressed = false ∧ x.blocked = false ∧ 2 ≤ x.samples) ∧
      (Instr.keyRelease k ∈ s.due ↔ x.pinLow = false ∧ (x.pressed = true ∨ x.blocked = true) ∧ 2 ≤ x.samples) := by
  intro x
  have hpress : Instr.keyPress k ∈ s.due ↔ Instr.keyPress k ∈ x.sampleDue k := by
    rw [mem_due_iff rfl]
    simp only [mem_countingDue, mem_sampleDue]
    refine ⟨?_, fun h => .inr ⟨k, h⟩⟩
    rintro (h | ⟨k', h, hk⟩)
    · simp at h
    · split at hk <;> simp at hk
      subst hk
      simp_all [x]
  have hrelease : Instr.keyRelease k ∈ s.due ↔ Instr.keyRelease k ∈ x.sampleDue k := by
    rw [mem_due_iff rfl]
    simp only [mem_countingDue, mem_sampleDue]
    refine ⟨?_, fun h => .inr ⟨k, h⟩⟩
    rintro (h | ⟨k', h, hk⟩)
    · simp at h
    · split at hk <;> simp at hk
      subst hk
      simp_all [x]
  rw [hpress, hrelease, mem_sampleDue, mem_sampleDue, three_le_samplesNow, KeyInput.takenLow]
  cases x.pinLow <;> cases x.pressed <;> cases x.blocked <;> simp

/-- Settles O2: the idle step by its definition, and what the lists of expiries hold by `mem_due_iff`. -/
theorem emptyQueueLetsTimePass : Obligations.EmptyQueueLetsTimePass := by
  intro s hpending
  have hstep : step s = .next s.idle := by simp only [step, hpending]
  refine ⟨fun hflight => ?_, fun hnone => ⟨s.tickAll.setPending s.due, ?_, rfl, rfl, ?_, rfl, ?_, ?_, rfl, rfl, rfl, rfl,
    rfl, rfl⟩⟩
  · rw [hstep, State.idle, if_pos hflight]
  · rw [hstep, State.idle, hnone]
    rfl
  · rw [State.setPending_pending, mem_due_iff rfl]
    simp only [mem_countingDue, mem_sampleDue]
    refine ⟨?_, fun h => .inl (.inl ⟨h, trivial⟩)⟩
    rintro (h | ⟨k, -, h⟩)
    · simpa using h
    · split at h <;> cases h
  · rw [State.setPending_pending, mem_due_iff rfl]
    simp only [mem_countingDue, mem_sampleDue]
    refine ⟨?_, fun h => .inl (.inr (.inl ⟨h, trivial⟩))⟩
    rintro (h | ⟨k, -, h⟩)
    · simpa using h
    · split at h <;> cases h
  · exact keySample_due

/-! ### The state after reset -/

theorem reset_warning (w : Nat) : State.reset.warning w = .off := by
  unfold State.warning
  simp only [State.reset, List.getD_eq_getElem?_getD, List.getElem?_replicate]
  split <;> rfl

theorem reset_line (j : Nat) (hj : j ≠ 6) : (State.reset.store.line j).tag = none := by
  unfold Store.line
  simp only [State.reset, List.getD_eq_getElem?_getD]
  rcases Nat.lt_or_ge j 8 with h | h
  · interval_cases j <;> first | rfl | exact absurd rfl hj
  · rw [List.getElem?_eq_none (by simpa using h)]
    rfl

theorem reset_inSets : State.reset.store.InSets := by
  intro j _ b hb
  rcases eq_or_ne j 6 with rfl | hj
  · have : (State.reset.store.line 6).tag = some 7 := rfl
    rw [this] at hb
    cases hb
    rfl
  · rw [reset_line j hj] at hb
    cases hb

theorem reset_inBounds : State.reset.InBounds := by
  refine ⟨⟨⟨by decide, List.Pairwise.nil⟩, nofun, fun _ => rfl⟩, by unfold OrdersBounded; decide, ?_, ?_, State.reset_nv_wf⟩
  · intro g hg
    rw [List.eq_of_mem_replicate hg]
    exact ⟨Nat.zero_le _, Nat.zero_le _, Nat.zero_le _⟩
  · exact ⟨Nat.zero_le _, Nat.zero_le _, Nat.zero_le _, Nat.zero_le _, Nat.zero_le _⟩

theorem reset_shownCount : State.reset.shownCount = 0 := by decide

theorem reset_arbitrated : State.reset.Arbitrated := by
  refine ⟨rfl, ⟨reset_shownCount.le.trans (Nat.zero_le 1), ?_, ?_⟩, fun h => (h rfl).elim, fun _ w hw => ?_⟩
  · intro v w _ _ hv
    rw [reset_warning] at hv
    cases hv
  · intro _ w _
    rw [reset_warning]
    exact ⟨nofun, nofun⟩
  · rw [List.eq_of_mem_replicate hw]
    rfl

theorem reset_oneRequest : State.reset.OneRequest := by
  refine ⟨by decide, by decide, fun _ => rfl, by decide, ?_⟩
  intro b hb
  cases hb

theorem reset_timersFollow : TimersFollow State.reset := by
  unfold TimersFollow
  decide

/-- Settles O3: each invariant read off the fields of `State.reset`. -/
theorem resetMeetsInvariants : Obligations.ResetMeetsInvariants := by
  refine ⟨reset_inBounds, ⟨List.nodup_nil, fun _ => rfl⟩, reset_timersFollow, reset_shownCount, ?_,
    ⟨List.nodup_nil, List.nodup_nil⟩, reset_arbitrated, reset_oneRequest, reset_inSets⟩
  intro v w _ _ _ hv
  rw [reset_warning] at hv
  simp [Warning.off] at hv

/-! ### Power-on reset -/

theorem map_endHold_forget (ks : Keys) : (ks.map KeyInput.forget).map KeyInput.endHold = ks.map KeyInput.forget := rfl

theorem endServiceReset_forget (x : KeyInput) : x.forget.endServiceReset = x.forget := rfl

/-- The holds that a power-on reset would end are gone already, and no record is sent in LOAD. -/
theorem present_powerOn (s : State) : State.present s s.powerOn = s.powerOn := by
  have hholds : State.refreshHolds s s.powerOn = s.powerOn := by
    unfold State.refreshHolds
    split
    · rfl
    · split <;> rfl
  rw [State.present, hholds]
  rfl

theorem nvAtReset_of_idle {st : Store} (h : st.writing = false) (k : Nat) : st.nvAtReset k = st.nv := by
  unfold Store.nvAtReset
  unfold Store.writing at h
  split
  · next hop => simp [hop] at h
  · rfl

theorem blockOf_of_tag {st : Store} {i b : Nat} (h : (st.line i).tag = some b) : st.blockOf i = b := by
  simp [Store.blockOf, h]

/-- Settles O4: the fields of `State.powerOn`, and `Store.nvAtReset` for a write in progress. -/
theorem powerOnResetStartsLoad : Obligations.PowerOnResetStartsLoad := by
  intro s
  have hexec : exec .powerOnReset s = .next s.powerOn := congrArg Host.Outcome.next (present_powerOn s)
  refine ⟨s.powerOn, hexec, rfl, rfl, rfl, rfl, rfl, rfl, rfl, rfl, rfl, rfl, rfl, ?_, ?_, ⟨rfl, rfl, rfl, rfl, rfl, rfl, rfl⟩,
    rfl, rfl, rfl, rfl, rfl, rfl, rfl, rfl, rfl, rfl, rfl, rfl, rfl, rfl, rfl⟩
  · exact fun h => nvAtReset_of_idle h _
  · intro i b n snapshot serves hop htag hwf
    have hblock := blockOf_of_tag htag
    constructor
    · intro a ha
      exact Store.nvAtReset_read_other hop hwf (by rwa [hblock])
    · intro hbad
      have hcheck : checkGood (s.store.nv.block (s.store.blockOf i)) = false := by
        rw [hblock]
        exact beq_eq_false_iff_ne.mpr hbad
      have := Store.nvAtReset_check (k := s.freeIndex) hop hwf hcheck
      rw [hblock] at this
      exact beq_eq_false_iff_ne.mp this

end Sys2Proof.Machine
end

section
/-! SUPPORT. The ignition state that each operation of the ignition controller leaves, and what a command leaves alone that
keeps the ignition state. Settles O6 and O7. -/

namespace Sys2Proof.Machine

set_option Elab.async false

/-! ### The ignition state after each operation -/

theorem sleepEntry_ignition (s : State) :
    s.sleepEntry.ignition = { s.ignition with state := .sleep, watchTimer := none, holdupTimer := none } := by
  unfold State.sleepEntry
  simp only [State.setHandler_ignition, (storeSleep_kept _).ignition, State.setService_ignition, State.setSound_ignition,
    (arbiterSleep_kept _).ignition]
  rfl

/-- Everything that a wake does after the change of state leaves the ignition controller alone. -/
theorem wakeInto_ignition (s : State) (x : Ign) : (s.wakeInto x).ignition = { s.ignition with state := x } := by
  unfold State.wakeInto
  simp only [(settleStore_kept _).ignition, (deliverHeldDays_kept _).ignition, (enterAwake_kept _ _).ignition,
    (serviceWake_kept _).ignition, (startTimers_kept _).ignition, (arbiterWake_kept _).ignition,
    State.setHandler_ignition, State.setStore_ignition, State.setTopics_ignition, State.setLine_ignition,
    State.setTrip_ignition, (countingWake_kept _).ignition]
  rfl

/-- The state that the filtered inputs ask for is awake, or SLEEP; it is not LOAD, and not HOLDUP. -/
theorem asked_cases (i : Ignition) : i.asked = .sleep ∨ i.asked = .watch ∨ i.asked = .accessory ∨ i.asked = .run := by
  unfold Ignition.asked
  split
  · simp
  · simp
  · split <;> simp

theorem asked_ne_holdup (i : Ignition) : i.asked ≠ .holdup := by rcases asked_cases i with h | h | h | h <;> simp [h]

theorem asked_ne_load (i : Ignition) : i.asked ≠ .load := by rcases asked_cases i with h | h | h | h <;> simp [h]

theorem asked_eq_watch {i : Ignition} (h : i.asked = .watch) : i.wake = true := by
  unfold Ignition.asked at h
  split at h
  · cases h
  · cases h
  · split at h
    · assumption
    · cases h

theorem lookFromSleep_of_sleep {s : State} (h : s.ignition.asked = .sleep) : s.lookFromSleep = s := by
  simp only [State.lookFromSleep, h]

theorem lookFromSleep_of_ne {s : State} (h : s.ignition.asked ≠ .sleep) : s.lookFromSleep = s.wakeInto s.ignition.asked := by
  rcases asked_cases s.ignition with h' | h' | h' | h'
  · exact absurd h' h
  all_goals simp only [State.lookFromSleep, h']

theorem lookFromSleep_ign {s : State} (h : s.ign = .sleep) : s.lookFromSleep.ign = s.ignition.asked := by
  by_cases ha : s.ignition.asked = .sleep
  · rw [lookFromSleep_of_sleep ha, h, ha]
  · rw [lookFromSleep_of_ne ha, State.ign, wakeInto_ignition]

theorem sleepEntry_asked (s : State) : s.sleepEntry.ignition.asked = s.ignition.asked := by
  rw [sleepEntry_ignition]
  rfl

theorem enterSleep_ign (s : State) : s.enterSleep.ign = s.ignition.asked := by
  rw [State.enterSleep, lookFromSleep_ign (by rw [State.ign, sleepEntry_ignition]), sleepEntry_asked]

theorem runEntry_ign (s : State) : s.runEntry.ign = s.ign := (runEntry_kept s).ign

theorem toRun_ign (s : State) : s.toRun.ign = .run := by
  rw [State.toRun, runEntry_ign]
  rfl

theorem toAccessory_ign (s : State) : s.toAccessory.ign = .accessory := rfl

/-- What HOLDUP entry does before it looks at the exit condition. -/
def State.holdupEntered (s : State) : State :=
  let fromKey := s.ign.keysAccepted
  let s1 := (s.leave.goTo .holdup).setWatch none |>.setHoldup (some 30)
  let s2 := s1.setCounting s1.counting.holdupWindows.endSetting
  let s3 := (s2.setLine s2.line.holdupEntry).setStore s2.store.placeHoldup
  let s4 := if fromKey then s3.queueOdometer else s3
  s4.settleStore

theorem toHoldup_eq (s : State) : s.toHoldup = s.holdupEntered.holdupExit := rfl

theorem holdupEntered_ignition (s : State) :
    s.holdupEntered.ignition = { s.ignition with state := .holdup, watchTimer := none, holdupTimer := some 30 } := by
  unfold State.holdupEntered
  simp only [(settleStore_kept _).ignition]
  split
  · rw [(queueOdometer_kept _).ignition]
    simp only [State.setStore_ignition, State.setLine_ignition, State.setCounting_ignition]
    simp only [State.setHoldup, State.setWatch, State.goTo, State.setIgnition_ignition, State.setKeys_ignition,
      (leave_kept s).ignition]
  · simp only [State.setStore_ignition, State.setLine_ignition, State.setCounting_ignition]
    simp only [State.setHoldup, State.setWatch, State.goTo, State.setIgnition_ignition, State.setKeys_ignition,
      (leave_kept s).ignition]

/-- Outside the exit to SLEEP the HOLDUP exit does nothing; there the state is no longer HOLDUP. -/
theorem holdupExit_cases (s : State) :
    s.holdupExit = s ∨ (s.ign = .holdup ∧ s.holdupExit = s.enterSleep ∧ s.holdupExit.ign ≠ .holdup) := by
  unfold State.holdupExit
  split
  · next h => exact .inr ⟨h.1, rfl, by rw [enterSleep_ign]; exact asked_ne_holdup _⟩
  · exact .inl rfl

theorem loadDone_ign (s : State) : s.loadDone.ign ≠ .load := by
  unfold State.loadDone
  dsimp only
  split
  · rw [enterSleep_ign]; exact asked_ne_load _
  · rw [enterSleep_ign]; exact asked_ne_load _
  · rw [enterSleep_ign]; exact asked_ne_load _
  · rw [(deliverHeldDays_kept _).ign, (enterAwake_kept _ _).ign, (startTimers_kept _).ign]
    exact asked_ne_load _

/-! ### Changes among the awake states: the display, the trip computer, the service unit and the image stay -/

/-- What a change among the awake states may touch. -/
abbrev entryBlocks : List Block :=
  [.ignition, .counting, .keys, .line, .gauges, .arbiter, .sound, .store, .handler]

theorem toRun_entry (s : State) : KeptBut entryBlocks s s.toRun :=
  ((leave_kept s).andThen (cs := entryBlocks) (goTo_kept _ _)).trans ((runEntry_kept _).mono (by decide))

theorem toAccessory_entry (s : State) : KeptBut entryBlocks s s.toAccessory :=
  ((leave_kept s).andThen (cs := entryBlocks) (goTo_kept _ _)).trans
    ((setCounting_kept _ _).andThen (setLine_kept _ _))

theorem holdupEntered_entry (s : State) : KeptBut entryBlocks s s.holdupEntered := by
  unfold State.holdupEntered
  refine KeptBut.trans ?_ ((settleStore_kept _).mono (by decide))
  have hgo : KeptBut entryBlocks s (((s.leave.goTo .holdup).setWatch none).setHoldup (some 30)) :=
    ((leave_kept s).andThen (cs := entryBlocks) (goTo_kept _ _)).trans
      ((setWatch_kept _ _).andThen (setHoldup_kept _ _))
  have hset (x y z) := ((hgo.trans ((setCounting_kept _ x).mono (by decide))).trans
    ((setLine_kept _ y).mono (by decide))).trans ((setStore_kept _ z).mono (by decide))
  exact KeptBut.ite ((hset _ _ _).trans ((queueOdometer_kept _).mono (by decide))) (hset _ _ _)

/-- HOLDUP entry stays in HOLDUP, or falls asleep and goes where the inputs ask. -/
theorem toHoldup_cases (s : State) :
    s.toHoldup = s.holdupEntered ∨ s.toHoldup.ign = s.ignition.asked := by
  rw [toHoldup_eq]
  rcases holdupExit_cases s.holdupEntered with h | ⟨-, h, -⟩
  · exact .inl h
  · refine .inr ?_
    rw [h, enterSleep_ign, holdupEntered_ignition]
    rfl

theorem holdupEntered_ign (s : State) : s.holdupEntered.ign = .holdup := by rw [State.ign, holdupEntered_ignition]

/-! ### The service unit's selected item -/

theorem formQuietly_selected (s : State) (is : List Nat) : (s.formQuietly is).service.selected = s.service.selected := by
  unfold State.formQuietly
  induction is generalizing s with
  | nil => rfl
  | cons i is ih => rw [List.foldl_cons, ih]; rfl

theorem formItems_selected (s : State) (is : List Nat) : (s.formItems is).service.selected = s.service.selected := by
  unfold State.formItems
  rw [(KeptBut.foldl (fun s w => edgeRequest_kept s w) _ _).service, formQuietly_selected]

theorem fetchService_selected (s : State) (b : Nat) : (s.fetchService b).service.selected = s.service.selected := by
  unfold State.fetchService
  split <;> rfl

theorem countItem_selected (km : Bool) (s : State) (i : Nat) : (s.countItem km i).service.selected = s.service.selected := by
  unfold State.countItem
  split
  · split
    · rfl
    · rw [fetchService_selected]; rfl
  · rfl

theorem countItems_selected (km : Bool) (is : List Nat) (s : State) :
    (is.foldl (State.countItem km) s).service.selected = s.service.selected := by
  induction is generalizing s with
  | nil => rfl
  | cons i is ih => rw [List.foldl_cons, ih, countItem_selected]

theorem countdown_selected (s : State) (km : Bool) : (s.countdown km).service.selected = s.service.selected := by
  rw [State.countdown, formItems_selected, countItems_selected]

theorem applyReset_selected (s : State) (i : Nat) (w : Bool) :
    (s.applyReset i w).service.selected = s.service.selected := by
  unfold State.applyReset
  simp only [State.setStore_service, formItems_selected]
  rfl

theorem requestReset_selected (s : State) (i : Nat) (w : Bool) :
    (s.requestReset i w).service.selected = s.service.selected := by
  unfold State.requestReset
  split
  · exact applyReset_selected _ _ _
  · rw [fetchService_selected]; rfl

theorem applyPending_selected (s : State) (i : Nat) : (s.applyPending i).service.selected = s.service.selected := by
  unfold State.applyPending
  dsimp only
  split <;> rfl

theorem applyWaiting_selected (s : State) (i : Nat) : (s.applyWaiting i).service.selected = s.service.selected := by
  unfold State.applyWaiting
  dsimp only
  split
  · exact applyReset_selected _ _ _
  · rfl

theorem setMark_selected (s : State) (b : Nat) (x : Bool) : (s.setMark b x).service.selected = s.service.selected := rfl

theorem serviceFill_selected (s : State) (b : Nat) (bad : Bool) :
    (s.serviceFill b bad).service.selected = s.service.selected := by
  simp only [State.serviceFill, itemsOf, List.foldl_cons, List.foldl_nil, setMark_selected, formItems_selected,
    applyWaiting_selected, applyPending_selected]
  split
  · rw [(update_kept _ _ _).service]
  · rfl

theorem applyWrite_selected (s : State) (b o : Nat) (d : List Byte) :
    (s.applyWrite b o d).service.selected = s.service.selected := by
  unfold State.applyWrite
  dsimp only
  split
  · rw [(returnStatus_kept _ _ _).service]; rfl
  · rw [(returnStatus_kept _ _ _).service]
    split
    · rw [State.serviceWritten, formItems_selected]; rfl
    · rfl

theorem taskApplied_selected (s : State) (b : Nat) : (s.taskApplied b).service.selected = s.service.selected := by
  unfold State.taskApplied
  split
  · split
    · exact applyWrite_selected _ _ _ _
    · rfl
  · rfl

/-! ### A command that keeps the ignition state -/

/-- What a command that may change the ignition state touches while it does not. -/
abbrev calmBlocks : List Block :=
  [.ignition, .counting, .arith, .line, .topics, .gauges, .rules, .arbiter, .sound, .service, .store, .handler, .freeIndex]

/-- Nothing of the keys, the trip computer, the display and the image changes, and the selected item stays. -/
def Calm (s t : State) : Prop := KeptBut calmBlocks s t ∧ t.service.selected = s.service.selected

theorem Calm.of_kept {bs : List Block} {s t : State} (h : KeptBut bs s t) (hb : bs ⊆ calmBlocks := by decide)
    (hs : Block.service ∉ bs := by decide) : Calm s t := ⟨h.mono hb, by rw [h.service hs]⟩

theorem Calm.refl (s : State) : Calm s s := ⟨KeptBut.refl _ _, rfl⟩

theorem Calm.trans {s t u : State} (h : Calm s t) (k : Calm t u) : Calm s u := ⟨h.1.trans k.1, k.2.trans h.2⟩

/-- A HOLDUP exit that leaves the ignition state did nothing. -/
theorem holdupExit_of_ign {s : State} (h : s.holdupExit.ign = s.ign) : s.holdupExit = s := by
  rcases holdupExit_cases s with h' | ⟨hup, -, hne⟩
  · exact h'
  · exact absurd (h.trans hup) hne

theorem loadNext_calm (s : State) (b : Nat) : Calm s (s.loadNext b) :=
  .of_kept ((setIgnition_kept s _).andThen (cs := [.ignition, .store]) (setStore_kept _ _))

theorem loadFill_calm {s : State} (b : Nat) (d : List Byte) (bad : Bool)
    (h : (s.loadFill b d bad).ign = .load) : Calm s (s.loadFill b d bad) := by
  unfold State.loadFill at h ⊢
  split at h
  · rw [if_pos ‹_›]; exact .refl _
  rw [if_neg ‹_›]
  split at h
  · rw [if_pos ‹_›]
    exact .trans (.of_kept ((loadCalibration_kept s d bad).andThen (cs := [.ignition]) (checkImage_kept _))) (loadNext_calm _ _)
  rw [if_neg ‹_›]
  split at h
  · rw [if_pos ‹_›]
    exact .trans (.of_kept (loadCalibration_kept s d bad)) (loadNext_calm _ _)
  rw [if_neg ‹_›]
  split at h
  · rw [if_pos ‹_›]
    exact .trans (.of_kept (loadRecord_kept s b d bad)) (loadNext_calm _ _)
  · exact absurd h (loadDone_ign _)

theorem taskFilled_calm (s : State) (b d x) : Calm s (s.taskFilled b d x) := .of_kept (taskFilled_kept s b d x)

theorem fillEnd_calm {s : State} (b : Nat) (h : (s.fillEnd b).ign = s.ign) : Calm s (s.fillEnd b) := by
  unfold State.fillEnd at h ⊢
  dsimp only at h ⊢
  rw [(settleStore_kept _).ign, (taskApplied_kept _ _).ign] at h
  refine .trans (.trans ?_ ⟨(taskApplied_kept _ b).mono (by decide), taskApplied_selected _ _⟩)
    (.of_kept (settleStore_kept _))
  have hfilled {d x} : Calm s ((s.setStore (s.store.endFill b (s.pinAtFill b))).taskFilled b d x) :=
    .trans (.of_kept (setStore_kept _ _)) (taskFilled_calm _ _ _ _)
  split at h
  · next hload =>
    rw [if_pos hload]
    exact hfilled.trans (loadFill_calm _ _ _ (h.trans hload))
  · next hload =>
    rw [if_neg hload]
    split
    · exact hfilled.trans ⟨(serviceFill_kept _ _ _).mono (by decide), serviceFill_selected _ _ _⟩
    · exact hfilled

/-- Outside LOAD the end of a fill reaches no start-up load. -/
theorem fillEnd_calm_awake {s : State} (h : s.ign ≠ .load) (b : Nat) : Calm s (s.fillEnd b) := by
  refine fillEnd_calm b ?_
  unfold State.fillEnd
  dsimp only
  rw [(settleStore_kept _).ign, (taskApplied_kept _ _).ign, if_neg h]
  split
  · rw [(serviceFill_kept _ _ _).ign, (taskFilled_kept _ _ _ _).ign]; rfl
  · rw [(taskFilled_kept _ _ _ _).ign]; rfl

theorem readEnd_calm {s : State} (h : s.readEnd.ign = s.ign) : Calm s s.readEnd := by
  unfold State.readEnd at h ⊢
  split at h
  · exact fillEnd_calm _ h
  · exact .of_kept (verifyEnd_kept _ _)
  · exact .refl _

theorem writeDone_calm {s : State} (h : s.writeDone.ign = s.ign) : Calm s s.writeDone := by
  unfold State.writeDone at h ⊢
  have hkept := (setStore_kept s s.store.writeReady).andThen (cs := [.store, .line, .handler]) (settleStore_kept _)
  split
  · rw [if_pos ‹_›] at h
    rw [holdupExit_of_ign (h.trans hkept.ign.symm)]
    exact .of_kept hkept
  · exact .refl _

theorem holdupExit_calm {s t : State} (hkept : KeptBut [.line, .handler] s t) (h : t.holdupExit.ign = s.ign) :
    Calm s t.holdupExit := by
  rw [holdupExit_of_ign (h.trans hkept.ign.symm)]
  exact .of_kept hkept

theorem lookFromSleep_calm {s t : State} (hkept : KeptBut [.ignition] s t) (hs : s.ign = .sleep) (ht : t.ign = .sleep)
    (h : t.lookFromSleep.ign = s.ign) : Calm s t.lookFromSleep := by
  rw [lookFromSleep_of_sleep (by rw [← lookFromSleep_ign ht, h, hs])]
  exact .of_kept hkept

/-- Without IGN-ACC and IGN-RUN the inputs ask for WATCH or SLEEP. -/
theorem asked_of_off {i : Ignition} (h : i.position = .off) : i.asked = .watch ∨ i.asked = .sleep := by
  unfold Ignition.asked
  rw [h]
  dsimp only
  split <;> simp

theorem keyPosition_calm {s : State} {acc run : Bool} (h : (s.keyPosition acc run).ign = s.ign) :
    Calm s (s.keyPosition acc run) := by
  have hlevels := takeLevels_kept s acc run
  have hign : (s.takeLevels acc run).ign = s.ign := rfl
  have hnot {u : State} (hu : u.ign = .holdup ∨ u.ign = .watch ∨ u.ign = .sleep) (hk : s.ign.keysAccepted = true)
      (he : u.ign = s.ign) : False := by
    rw [← he] at hk
    rcases hu with hu | hu | hu <;> rw [hu] at hk <;> cases hk
  have hdown (hoff : (s.takeLevels acc run).ignition.position = .off) :
      (s.takeLevels acc run).toHoldup.ign = .holdup ∨ (s.takeLevels acc run).toHoldup.ign = .watch ∨
        (s.takeLevels acc run).toHoldup.ign = .sleep := by
    rcases toHoldup_cases (s.takeLevels acc run) with hh | hh
    · rw [hh]; exact .inl (holdupEntered_ign _)
    · rw [hh]; exact .inr (asked_of_off hoff)
  unfold State.keyPosition at h ⊢
  dsimp only at h ⊢
  split at h
  · exact .of_kept hlevels
  · next hs => exact lookFromSleep_calm hlevels hs (hign.trans hs) h
  · next hs _ => rw [(settleStore_kept _).ign, toRun_ign, hs] at h; cases h
  · next hs _ => rw [toAccessory_ign, hs] at h; cases h
  · exact .of_kept hlevels
  · next hs _ => rw [(settleStore_kept _).ign, toRun_ign, hs] at h; cases h
  · next hs hp => exact (hnot (hdown hp) (by rw [hs]; rfl) h).elim
  · exact .of_kept hlevels
  · next hs _ => rw [(settleStore_kept _).ign, (setStore_kept _ _).ign, toAccessory_ign, hs] at h; cases h
  · next hs hp => exact (hnot (hdown hp) (by rw [hs]; rfl) h).elim
  · exact .of_kept hlevels
  · next hs _ => rw [(settleStore_kept _).ign, toRun_ign, hs] at h; cases h
  · next hs _ => rw [(settleStore_kept _).ign, toAccessory_ign, hs] at h; cases h
  · exact .of_kept hlevels

theorem wakeInput_calm {s : State} {high : Bool} (h : (s.wakeInput high).ign = s.ign) : Calm s (s.wakeInput high) := by
  unfold State.wakeInput at h ⊢
  dsimp only at h ⊢
  have hset {i} : Calm s (s.setIgnition i) := .of_kept (setIgnition_kept _ _)
  have hwatch {i t} : Calm s ((s.setIgnition i).setWatch t) :=
    hset.trans (.of_kept (setWatch_kept _ _))
  split at h
  · next hs => exact lookFromSleep_calm (setIgnition_kept _ _) hs hs h
  · split
    · exact hwatch
    · split
      · exact hwatch
      · exact hset
  all_goals exact hset

theorem watchExpired_calm {s : State} (h : s.watchExpired.ign = s.ign) (hwake : s.ignition.wake = false) :
    Calm s s.watchExpired := by
  unfold State.watchExpired at h ⊢
  split
  · next hw =>
    rw [if_pos hw, hw.1] at h
    have hasked : s.ignition.asked ≠ .watch := fun ha => by rw [asked_eq_watch ha] at hwake; cases hwake
    split at h
    · rcases toHoldup_cases s with hh | hh
      · rw [hh, holdupEntered_ign] at h; cases h
      · exact absurd (hh.symm.trans h) hasked
    · rw [enterSleep_ign] at h; exact absurd h hasked
  · exact .refl _

theorem holdupExpired_calm {s : State} (h : s.holdupExpired.ign = s.ign) : Calm s s.holdupExpired := by
  unfold State.holdupExpired at h ⊢
  split
  · next hh => rw [if_pos hh, hh.1, enterSleep_ign] at h; exact absurd h (asked_ne_holdup _)
  · exact .refl _

/-- A command that may change the ignition state and leaves it touches no key, page, item or record. -/
theorem calm_of_keepsIgnition {c : Instr} {s t : State} (hc : c.movesIgnition = true) (hexec : exec c s = .next t)
    (h : s.KeepsIgnition c t) : ∃ u, t = State.present s u ∧ Calm s u := by
  obtain ⟨hign, hne, hwatch⟩ := h
  have hpres {u : State} (hu : exec c s = .next (State.present s u)) : t = State.present s u ∧ u.ign = s.ign := by
    have := hexec.symm.trans hu
    injection this with ht
    exact ⟨ht, by rw [← hign, ht, State.ign, State.ign, State.present_ignition]⟩
  cases c with
  | powerOnReset => exact absurd rfl hne
  | clash b =>
    obtain ⟨ht, hu⟩ := hpres (u := (s.clash b).holdupExit) rfl
    exact ⟨_, ht, holdupExit_calm (clash_kept s b) hu⟩
  | messageSent =>
    obtain ⟨ht, hu⟩ := hpres (u := s.messageSent.holdupExit) rfl
    exact ⟨_, ht, holdupExit_calm (messageSent_kept s) hu⟩
  | breakRecognised =>
    obtain ⟨ht, hu⟩ := hpres (u := if s.line.state = .sending then (s.clash true).holdupExit else s.setLine s.line.breakHeard) rfl
    refine ⟨_, ht, ?_⟩
    split
    · rw [if_pos ‹_›] at hu; exact holdupExit_calm (clash_kept s true) hu
    · exact .of_kept (setLine_kept _ _)
  | blockReadEnd =>
    obtain ⟨ht, hu⟩ := hpres (u := s.readEnd) rfl
    exact ⟨_, ht, readEnd_calm hu⟩
  | blockWriteReady =>
    obtain ⟨ht, hu⟩ := hpres (u := s.writeDone) rfl
    exact ⟨_, ht, writeDone_calm hu⟩
  | keyPositionChange acc run =>
    obtain ⟨ht, hu⟩ := hpres (u := s.keyPosition acc run) rfl
    exact ⟨_, ht, keyPosition_calm hu⟩
  | wakeInputChange high =>
    obtain ⟨ht, hu⟩ := hpres (u := s.wakeInput high) rfl
    exact ⟨_, ht, wakeInput_calm hu⟩
  | watchTimerExpiry =>
    obtain ⟨ht, hu⟩ := hpres (u := s.watchExpired) rfl
    exact ⟨_, ht, watchExpired_calm hu (hwatch rfl)⟩
  | holdupTimerExpiry =>
    obtain ⟨ht, hu⟩ := hpres (u := s.holdupExpired) rfl
    exact ⟨_, ht, holdupExpired_calm hu⟩
  | _ => cases hc

/-! ### The selected page and item -/

/-- The selected page and the selected item are the same. -/
structure SameChoice (s t : State) : Prop where
  page : t.trip.page = s.trip.page
  item : t.service.selected = s.service.selected

theorem SameChoice.refl (s : State) : SameChoice s s := ⟨rfl, rfl⟩

theorem SameChoice.ite {p : Prop} [Decidable p] {s t u : State} (h : SameChoice s t) (k : SameChoice s u) :
    SameChoice s (if p then t else u) := by split <;> assumption

theorem SameChoice.trans {s t u : State} (h : SameChoice s t) (k : SameChoice t u) : SameChoice s u :=
  ⟨k.page.trans h.page, k.item.trans h.item⟩

theorem SameChoice.of_kept {bs : List Block} {s t : State} (h : KeptBut bs s t) (hp : Block.trip ∉ bs := by decide)
    (hs : Block.service ∉ bs := by decide) : SameChoice s t := ⟨by rw [h.trip hp], by rw [h.service hs]⟩

theorem SameChoice.of_selected {bs : List Block} {s t : State} (h : KeptBut bs s t)
    (hs : t.service.selected = s.service.selected) (hp : Block.trip ∉ bs := by decide) : SameChoice s t :=
  ⟨by rw [h.trip hp], hs⟩

theorem setTrip_sameChoice (s : State) {x : Trip} (h : x.page = s.trip.page) : SameChoice s (s.setTrip x) := ⟨h, rfl⟩

theorem onTrips_sameChoice {f : State → TripRecord → State} (h : ∀ s r, SameChoice s (f s r)) (s : State) :
    SameChoice s (s.onTrips f) := ((h _ _).trans (h _ _)).trans (h _ _)

theorem addDistance_sameChoice (s : State) (r : TripRecord) (d : Nat) : SameChoice s (s.addDistance r d) := by
  cases r <;> exact ⟨rfl, rfl⟩

theorem addFuel_sameChoice (s : State) (r : TripRecord) (d : Nat) : SameChoice s (s.addFuel r d) := by
  cases r <;> exact ⟨rfl, rfl⟩

theorem addTime_sameChoice (s : State) (r : TripRecord) (d : Nat) : SameChoice s (s.addTime r d) := by
  cases r <;> exact ⟨rfl, rfl⟩

theorem setEconomy_sameChoice (s : State) (r : TripRecord) (x : Result) : SameChoice s (s.setEconomy r x) := by
  cases r <;> exact ⟨rfl, rfl⟩

theorem setAverage_sameChoice (s : State) (r : TripRecord) (x : Result) : SameChoice s (s.setAverage r x) := by
  cases r <;> exact ⟨rfl, rfl⟩

theorem countdown_sameChoice (s : State) (km : Bool) : SameChoice s (s.countdown km) :=
  .of_selected (countdown_kept s km) (countdown_selected s km)

theorem distanceStep_sameChoice (s : State) : SameChoice s s.distanceStep := by
  unfold State.distanceStep
  have h1 : SameChoice s ((s.setCounting s.counting.step).setStore { s.store with latch := true }) :=
    .trans (.of_kept (setCounting_kept _ _)) (.of_kept (setStore_kept _ _))
  have h2 : SameChoice s
      (if 9 ≤ s.counting.odometerSub then
        ((s.setCounting s.counting.step).setStore { s.store with latch := true }).gainOdometer
      else (s.setCounting s.counting.step).setStore { s.store with latch := true }) :=
    .ite (h1.trans (.of_kept (gainOdometer_kept _))) h1
  have h3 := h2.trans (onTrips_sameChoice (fun s r => addDistance_sameChoice s r 1) _)
  exact .ite (h3.trans (countdown_sameChoice _ _)) h3

theorem acceptPulse_sameChoice (s : State) : SameChoice s s.acceptPulse :=
  .ite (.trans (.of_kept (setCounting_kept _ _)) (distanceStep_sameChoice _)) (.of_kept (setCounting_kept _ _))

theorem clockSecond_sameChoice (s : State) : SameChoice s s.clockSecond := by
  unfold State.clockSecond
  dsimp only
  split
  · exact .of_kept (setCounting_kept _ _)
  · split
    · exact .trans (.of_kept (setCounting_kept _ _)) (countdown_sameChoice _ _)
    · exact .trans (.of_kept (setCounting_kept _ _)) (.of_kept (setCounting_kept _ _))

theorem passTarget_sameChoice (s : State) (t : Target) (r : Option Request) {clear : State → State}
    (h : SameChoice s (clear s)) : SameChoice s (s.passTarget t r clear) := by
  unfold State.passTarget
  split
  · exact .refl s
  · split
    · exact .of_kept (issue_kept _ _)
    · exact h

theorem passRecord_sameChoice (snapshot s : State) (r : TripRecord) : SameChoice s (snapshot.passRecord s r) := by
  unfold State.passRecord
  refine .trans (passTarget_sameChoice _ _ _ ?_) (passTarget_sameChoice _ _ _ ?_)
  · exact .ite (.refl _) (setEconomy_sameChoice _ _ _)
  · exact .ite (.refl _) (setAverage_sameChoice _ _ _)

theorem tripPass_sameChoice (s : State) : SameChoice s s.tripPass := by
  unfold State.tripPass
  dsimp only
  refine .trans (.trans (.trans (.of_kept (setCounting_kept _ _)) (onTrips_sameChoice (passRecord_sameChoice s) _))
    (passTarget_sameChoice _ _ _ ?_)) (passTarget_sameChoice _ _ _ ?_)
  · exact setTrip_sameChoice _ rfl
  · exact setTrip_sameChoice _ rfl

theorem oneSecond_sameChoice (s : State) :
    SameChoice s
      (s.setCounting { s.counting with secondTimer := 100 }).clockSecond.tripSecond.filterFuel.passDue.rearPageDue.settleStore := by
  refine .trans ?_ (.of_kept (settleStore_kept _))
  refine .trans ?_ (.of_kept (rearPageDue_kept _))
  refine .trans (t := State.filterFuel _) ?_ (by unfold State.passDue; split; exacts [tripPass_sameChoice _, .refl _])
  refine .trans ?_ (.of_kept (filterFuel_kept _))
  refine .trans (t := State.clockSecond _) ?_ (by
    unfold State.tripSecond
    split
    · exact onTrips_sameChoice (fun u r => addTime_sameChoice u r 1) _
    · exact .refl _)
  exact .trans (.of_kept (setCounting_kept _ _)) (clockSecond_sameChoice _)

theorem deliver_sameChoice (s : State) (r : Request) : SameChoice s (s.deliver r) := by
  have hrecord (t : TripRecord) (g : Nat) {w : State → State} (h : SameChoice s (w s)) :
      SameChoice s (s.takeRecord t g w) := by
    unfold State.takeRecord
    split
    · exact h
    · exact ⟨rfl, rfl⟩
  unfold State.deliver
  split
  · exact ⟨rfl, rfl⟩
  · exact .of_kept (takeSpeed_kept _ _)
  · exact .of_kept (takeFuel_kept _ _ _)
  · exact hrecord _ _ (setEconomy_sameChoice _ _ _)
  · exact hrecord _ _ (setAverage_sameChoice _ _ _)
  · exact ⟨rfl, rfl⟩
  · exact ⟨rfl, rfl⟩

theorem complete_sameChoice (s : State) : SameChoice s s.complete := by
  unfold State.complete
  split
  · exact (deliver_sameChoice _ _).trans (.of_kept (leaveUnit_kept _))
  · exact .refl s

theorem fuelArrival_sameChoice (s : State) : SameChoice s s.fuelArrival := by
  unfold State.fuelArrival
  split
  · exact ⟨rfl, rfl⟩
  · dsimp only
    split
    · exact ⟨rfl, rfl⟩
    · split
      · exact ⟨rfl, rfl⟩
      · exact .trans (onTrips_sameChoice (fun u r => addFuel_sameChoice u r _) _) (.of_kept (setCounting_kept _ _))

theorem cascadeArrival_quiet_sameChoice (s : State) : SameChoice s s.cascadeArrival.followQuietCabin :=
  .trans (.of_kept (cascadeArrival_kept s)) (.of_kept (followQuietCabin_kept _))

theorem tellArrival_sameChoice (s : State) (e : Nat) : SameChoice s (s.tellArrival e) := by
  unfold State.tellArrival
  split
  · exact fuelArrival_sameChoice s
  · exact .trans (.trans (.of_kept (tankArrival_kept s)) (.of_kept (turnArrival_kept _))) (.of_kept (turnTick_kept _))
  · exact cascadeArrival_quiet_sameChoice s
  · exact .refl s

theorem tellLost_sameChoice (s : State) (e : Nat) : SameChoice s (s.tellLost e) := by
  unfold State.tellLost
  split
  · exact .of_kept (gaugesLoseEngine_kept s)
  · exact ⟨rfl, rfl⟩
  · exact .trans (.trans (.of_kept (tankLost_kept s)) (.of_kept (gaugesLoseBody_kept _)))
      (.trans (.of_kept (setCounting_kept _ _)) (.of_kept (setSound_kept _ _)))
  · exact .trans (.of_kept (cascadeLost_kept s)) (.of_kept (followQuietCabin_kept _))
  · exact .refl s

theorem toEntry_sameChoice (s : State) (e a b : Nat) (d : List Byte) : SameChoice s (s.toEntry e a b d) := by
  unfold State.toEntry
  split
  · exact .trans (.of_kept (modifyEntry_kept _ _ _)) (tellArrival_sameChoice _ _)
  · exact ⟨rfl, rfl⟩

theorem foldl_sameChoice {α : Type} {f : State → α → State} (h : ∀ s a, SameChoice s (f s a)) (l : List α) (s : State) :
    SameChoice s (l.foldl f s) := by
  induction l generalizing s with
  | nil => exact .refl s
  | cons a l ih => exact (h s a).trans (ih _)

theorem freshness_sameChoice (s : State) : SameChoice s s.freshness := by
  unfold State.freshness
  refine .trans (.trans ?_ (foldl_sameChoice tellLost_sameChoice _ _)) (.of_kept (setCounting_kept _ _))
  exact .of_kept (setTopics_kept _ _)

/-! ### Workshop requests leave page and item -/

theorem badRequest_sameChoice (s : State) : SameChoice s s.badRequest := .of_kept (badRequest_kept s)

theorem applyWrite_sameChoice (s : State) (b o : Nat) (d : List Byte) : SameChoice s (s.applyWrite b o d) :=
  .of_selected (applyWrite_kept s b o d) (applyWrite_selected s b o d)

theorem requestWrite_sameChoice (s : State) (b o : Nat) (d : List Byte) : SameChoice s (s.requestWrite b o d) := by
  unfold State.requestWrite
  split
  · exact .of_kept (returnStatus_kept _ _ _)
  · split
    · exact (applyWrite_sameChoice _ _ _ _).trans (.of_kept (settleStore_kept _))
    · exact .trans (.of_kept (setStore_kept _ _)) (.of_kept (settleStore_kept _))

theorem requestServiceReset_sameChoice (s : State) (i : Nat) : SameChoice s (s.requestServiceReset i) := by
  unfold State.requestServiceReset
  split
  · exact .trans (.of_selected (requestReset_kept _ _ _) (requestReset_selected _ _ _)) (.of_kept (settleStore_kept _))
  · exact .of_kept (returnStatus_kept _ _ _)

theorem carryOut_sameChoice (s : State) (topic : Nat) (data : List Byte) : SameChoice s (s.carryOut topic data) := by
  have hbad := badRequest_sameChoice s
  have hchecked {p : Prop} [Decidable p] {u : State} (h : SameChoice s u) : SameChoice s (if p then u else s.badRequest) := by
    split
    · exact h
    · exact hbad
  have hread : SameChoice s (s.takeRead data) := by
    unfold State.takeRead
    split
    · exact hchecked (.of_kept (requestRead_kept _ _ _))
    · exact hbad
  have hwrite : SameChoice s (s.takeWrite data) := by
    unfold State.takeWrite
    split
    · exact hchecked (requestWrite_sameChoice _ _ _ _)
    · exact hbad
  have hrecord : SameChoice s (s.takeRecordOperation data) := by
    unfold State.takeRecordOperation
    split
    · exact hchecked (.of_kept (recordOperation_kept _ _ _))
    · exact hchecked (.of_kept (takeTask_kept _ _))
    · exact hbad
  have hempty {u : State} (h : SameChoice s u) : SameChoice s (s.takeEmpty u data) := by
    unfold State.takeEmpty
    split
    · exact h
    · exact hbad
  have hreset : SameChoice s (s.takeServiceReset data) := by
    unfold State.takeServiceReset
    split
    · exact hchecked (requestServiceReset_sameChoice _ _)
    · exact hbad
  have hack : SameChoice s (s.takeAck data) := by
    unfold State.takeAck
    split
    · exact hchecked (.of_kept (requestAck_kept _ _))
    · exact hbad
  have hstatus : SameChoice s (s.takeStatus data) := by
    unfold State.takeStatus
    split
    · exact .of_kept (requestStatus_kept _ _ _)
    · exact hbad
  unfold State.carryOut
  split
  · exact hread
  split
  · exact hwrite
  split
  · exact hrecord
  split
  · exact hchecked (.of_kept (takeTask_kept _ _))
  split
  · exact hempty (.of_kept (requestClose_kept _))
  split
  · exact hreset
  split
  · exact hack
  split
  · exact hstatus
  split
  · exact hempty (.of_kept (requestGaugeTest_kept _))
  · exact hbad

theorem workshopRequest_sameChoice (s : State) (topic : Nat) (data : List Byte) :
    SameChoice s (s.workshopRequest topic data) := by
  unfold State.workshopRequest
  split
  · exact .refl s
  split
  · exact .trans (.of_kept (setHandler_kept _ _)) (carryOut_sameChoice _ _ _)
  · exact .of_kept (answerBusy_kept _ _)

theorem handOn_sameChoice (s : State) (bs : List Byte) : SameChoice s (s.handOn bs) := by
  unfold State.handOn
  split
  · exact toEntry_sameChoice _ _ _ _ _
  · split
    · exact workshopRequest_sameChoice _ _ _
    · exact ⟨rfl, rfl⟩
  · exact ⟨rfl, rfl⟩

theorem endGap_sameChoice (s : State) (bs : List Byte) (f : Bool) : SameChoice s (s.endGap bs f) := by
  have hvalid (u : State) : SameChoice u (u.takeValid bs) := by
    unfold State.takeValid
    dsimp only
    split
    · exact .of_kept (heard_kept u)
    split
    · exact .trans (.of_kept (heard_kept u)) (.of_kept (setLine_kept _ _))
    split
    · exact .trans (.of_kept (heard_kept u)) (handOn_sameChoice _ _)
    · exact .of_kept (heard_kept u)
  unfold State.endGap
  dsimp only
  split
  · split
    · exact .trans (.of_kept (setLine_kept _ _)) (hvalid _)
    · exact .trans (.of_kept (setLine_kept _ _)) (.of_kept (setLine_kept _ _))
  · exact .refl s

/-! ### Holds and the display record after every command -/

/-- With page and selected item kept, the keys' holds end exactly when the WARNING page comes up. -/
theorem refreshHolds_keys {s u : State} (h : SameChoice s u) (hk : u.keys = s.keys) :
    (State.refreshHolds s u).keys =
      if s.warningPage = false ∧ u.warningPage = true then s.keys.map KeyInput.endHold else s.keys := by
  unfold State.refreshHolds
  cases hw : s.warningPage <;> cases hw' : u.warningPage <;> simp [h.page, h.item, hk]

theorem exec_inj {c : Instr} {s t u : State} (h : exec c s = .next t) (k : exec c s = .next u) : t = u := by
  have := h.symm.trans k
  injection this

/-- A workshop row is its request as it arrives at the handler. -/
theorem exec_of_request : ∀ {c : Instr} {topic : Nat} {data : List Byte}, c.request = some (topic, data) → ∀ s : State,
    exec c s = .next (State.present s (s.workshopRequest topic data))
  | .readBytes _ _, _, _, rfl, _ => rfl
  | .writeBytes _ _ _, _, _, rfl, _ => rfl
  | .fetch _, _, _, rfl, _ => rfl
  | .fetchAndPin _, _, _, rfl, _ => rfl
  | .unpin _, _, _, rfl, _ => rfl
  | .writeback _, _, _, rfl, _ => rfl
  | .writebackInvalidate _, _, _, rfl, _ => rfl
  | .invalidate _, _, _, rfl, _ => rfl
  | .verify _, _, _, rfl, _ => rfl
  | .indexWritebackInvalidate _ _, _, _, rfl, _ => rfl
  | .setOdometer _, _, _, rfl, _ => rfl
  | .close, _, _, rfl, _ => rfl
  | .serviceReset _, _, _, rfl, _ => rfl
  | .acknowledgeWarning _, _, _, rfl, _ => rfl
  | .readStatus _ _, _, _, rfl, _ => rfl
  | .gaugeTest, _, _, rfl, _ => rfl

/-- The rows that touch a trip record or a service item, besides those of keys, ignition and workshop. -/
theorem choice_rows {c : Instr} (hc : c.handlesKeys = false) (hm : c.movesIgnition = false) (hr : c.request = none)
    (hb : Block.trip ∈ c.blocks ∨ Block.service ∈ c.blocks) :
    (∃ e, c = .speedPulse e) ∨ c = .oneSecondTimer ∨ c = .operationComplete ∨ c = .freshnessTick ∨
      ∃ bs f, c = .endGap bs f := by
  cases c with
  | speedPulse e => exact .inl ⟨e, rfl⟩
  | oneSecondTimer => exact .inr (.inl rfl)
  | operationComplete => exact .inr (.inr (.inl rfl))
  | freshnessTick => exact .inr (.inr (.inr (.inl rfl)))
  | endGap bs f => exact .inr (.inr (.inr (.inr ⟨bs, f, rfl⟩)))
  | _ => first | exact absurd hb (of_decide_eq_false rfl) | (cases hm; done) | (cases hr; done) | cases hc

theorem sameChoice_exec {c : Instr} (hc : c.handlesKeys = false) (hm : c.movesIgnition = false) (s : State) :
    ∃ u, exec c s = .next (State.present s u) ∧ SameChoice s u := by
  by_cases hb : Block.trip ∈ c.blocks ∨ Block.service ∈ c.blocks
  · cases hr : c.request with
    | some r => exact ⟨_, exec_of_request hr s, workshopRequest_sameChoice _ _ _⟩
    | none =>
      rcases choice_rows hc hm hr hb with ⟨e, rfl⟩ | rfl | rfl | rfl | ⟨bs, f, rfl⟩
      · exact ⟨_, rfl, .ite (.trans (.trans (.of_kept (setCounting_kept _ _)) (acceptPulse_sameChoice _))
          (.of_kept (settleStore_kept _))) (.of_kept (setCounting_kept _ _))⟩
      · exact ⟨_, rfl, oneSecond_sameChoice s⟩
      · exact ⟨_, rfl, complete_sameChoice s⟩
      · exact ⟨_, rfl, .ite (freshness_sameChoice s) (.refl s)⟩
      · exact ⟨_, rfl, endGap_sameChoice s bs f⟩
  · obtain ⟨u, hu, hframe⟩ := command_frame c s
    exact ⟨u, hu, .of_kept hframe (fun h => hb (.inl h)) (fun h => hb (.inr h))⟩

/-- A command that is no key event and changes no ignition state leaves page, item and keys, the holds it ends apart. -/
theorem sameChoice_of_keepsIgnition {c : Instr} {s t : State} (hc : c.handlesKeys = false) (h : s.KeepsIgnition c t)
    (hexec : exec c s = .next t) :
    ∃ u, t = State.present s u ∧ SameChoice s u ∧ u.keys = s.keys := by
  cases hm : c.movesIgnition with
  | true =>
    obtain ⟨u, ht, hkept, hsel⟩ := calm_of_keepsIgnition hm hexec h
    exact ⟨u, ht, ⟨by rw [hkept.trip], hsel⟩, hkept.keys⟩
  | false =>
    obtain ⟨u, hu, hsame⟩ := sameChoice_exec hc hm s
    obtain ⟨v, hv, hframe⟩ := command_frame c s
    have hkeys : (State.present s u).keys = (State.present s v).keys := by rw [exec_inj hu hv]
    refine ⟨v, exec_inj hexec hv, ?_, hframe.keys (blocks_keys c hm hc)⟩
    have huv : State.present s u = State.present s v := exec_inj hu hv
    have htrip := congrArg State.trip huv
    have hservice := congrArg State.service huv
    rw [State.present_trip, State.present_trip] at htrip
    rw [State.present_service, State.present_service] at hservice
    exact ⟨by rw [← htrip]; exact hsame.page, by rw [← hservice]; exact hsame.item⟩

/-- Settles O6: page, item and keys stay (`sameChoice_of_keepsIgnition`), and the holds are those of `State.refreshHolds`. -/
theorem holdsEndWithThePage : Obligations.HoldsEndWithThePage := by
  intro c s t hc hign hexec
  obtain ⟨u, rfl, hsame, hkeys⟩ := sameChoice_of_keepsIgnition hc hign hexec
  have hpage : (State.present s u).warningPage = u.warningPage := warningPage_congr (State.present_arbiter s u)
  have hfinal : (State.present s u).keys = (State.refreshHolds s u).keys := by
    rw [State.present, State.refreshDisplay_keys]
  rw [hpage, hfinal, refreshHolds_keys hsame hkeys, State.present_trip, State.present_service]
  refine ⟨hsame.page, hsame.item, fun h h' => if_pos ⟨h, h'⟩, fun h => if_neg fun ⟨h1, h2⟩ => ?_⟩
  rcases h with h | h
  · rw [h1] at h; cases h
  · rw [h2] at h; cases h

/-! ### The record that a change of its items sends -/

theorem holdupExit_display {s t : State} (hkept : KeptBut [.line, .handler, .store] s t) (h : t.holdupExit.ign = .holdup) :
    t.holdupExit.display = s.display := by
  rcases holdupExit_cases t with h' | ⟨-, -, hne⟩
  · rw [h', hkept.display]
  · exact absurd h hne

theorem toHoldup_display {s : State} (h : s.toHoldup.ign = .holdup) : s.toHoldup.display = s.display := by
  rcases toHoldup_cases s with h' | h'
  · rw [h', (holdupEntered_entry s).display]
  · exact absurd (h'.symm.trans h) (asked_ne_holdup _)

theorem goes_up {s : State} {acc run : Bool} (h : acc = true ∨ run = true) :
    (s.takeLevels acc run).ignition.position ≠ .off := by
  show (if run then Position.run else if acc then .acc else .off) ≠ .off
  rcases h with rfl | rfl
  · cases run <;> simp
  · simp

/-- From an awake state the key brings the part to an awake state over no SLEEP entry: the display is left alone. -/
theorem keyPosition_display {s : State} {acc run : Bool} (hawake : s.ign.awake = true)
    (h : (s.keyPosition acc run).ign = .holdup ∨ acc = true ∨ run = true) :
    (s.keyPosition acc run).display = s.display := by
  have hup (hoff : (s.takeLevels acc run).ignition.position = .off) (h : (s.takeLevels acc run).toHoldup.ign = .holdup ∨ acc = true ∨ run = true) :
      (s.takeLevels acc run).toHoldup.display = s.display := by
    rcases h with h | h
    · rw [toHoldup_display h]; rfl
    · exact absurd hoff (goes_up h)
  unfold State.keyPosition at h ⊢
  dsimp only at h ⊢
  split at h
  · rfl
  · next hs => rw [hs] at hawake; cases hawake
  · rw [(settleStore_kept _).display, (toRun_entry _).display]; rfl
  · rw [(toAccessory_entry _).display]; rfl
  · rfl
  · rw [(settleStore_kept _).display, (toRun_entry _).display]; rfl
  · exact hup ‹_› h
  · rfl
  · rw [(settleStore_kept _).display, State.setStore_display, (toAccessory_entry _).display]; rfl
  · exact hup ‹_› h
  · rfl
  · rw [(settleStore_kept _).display, (toRun_entry _).display]; rfl
  · rw [(settleStore_kept _).display, (toAccessory_entry _).display]; rfl
  · rfl

theorem present_ign (s u : State) : (State.present s u).ign = u.ign := by
  rw [State.ign, State.present_ignition, State.ign]

/-- Where a command keeps the ignition state, or the part stays awake over it, the display is left to `State.present`. -/
theorem display_before_present {c : Instr} {s t : State} (hd : c.drivesDisplay = false) (hexec : exec c s = .next t)
    (h : s.KeepsIgnition c t ∨ s.StaysAwake c t) : ∃ u, t = State.present s u ∧ u.display = s.display := by
  cases hm : c.movesIgnition with
  | false =>
    obtain ⟨u, hu, hframe⟩ := command_frame c s
    exact ⟨u, exec_inj hexec hu, hframe.display (blocks_display c hm hd)⟩
  | true =>
    rcases h with hign | ⟨hawake, hawake', hign | hup⟩
    · obtain ⟨u, ht, hkept, -⟩ := calm_of_keepsIgnition hm hexec hign
      exact ⟨u, ht, hkept.display⟩
    · obtain ⟨u, ht, hkept, -⟩ := calm_of_keepsIgnition hm hexec hign
      exact ⟨u, ht, hkept.display⟩
    · have hother {u : State} (hk : ∀ acc run, c ≠ .keyPositionChange acc run) (hu : exec c s = .next (State.present s u)) :
          t = State.present s u ∧ u.ign = .holdup := by
        have ht := exec_inj hexec hu
        refine ⟨ht, ?_⟩
        rcases hup with h | ⟨acc, run, h, -⟩
        · rw [← present_ign s, ← ht, h]
        · exact absurd h (hk acc run)
      cases c with
      | powerOnReset =>
        have ht := exec_inj hexec (u := State.present s s.powerOn) rfl
        rw [ht, present_ign] at hawake'
        cases hawake'
      | clash b =>
        obtain ⟨ht, hu⟩ := hother (u := (s.clash b).holdupExit) nofun rfl
        exact ⟨_, ht, holdupExit_display ((clash_kept s b).mono (by decide)) hu⟩
      | messageSent =>
        obtain ⟨ht, hu⟩ := hother (u := s.messageSent.holdupExit) nofun rfl
        exact ⟨_, ht, holdupExit_display ((messageSent_kept s).mono (by decide)) hu⟩
      | breakRecognised =>
        obtain ⟨ht, hu⟩ := hother
          (u := if s.line.state = .sending then (s.clash true).holdupExit else s.setLine s.line.breakHeard) nofun rfl
        refine ⟨_, ht, ?_⟩
        split
        · rw [if_pos ‹_›] at hu; exact holdupExit_display ((clash_kept s true).mono (by decide)) hu
        · rfl
      | blockReadEnd =>
        obtain ⟨ht, hu⟩ := hother (u := s.readEnd) nofun rfl
        refine ⟨_, ht, ?_⟩
        unfold State.readEnd
        split
        · exact (fillEnd_calm_awake (fun hl => by rw [hl] at hawake; cases hawake) _).1.display
        · exact (verifyEnd_kept _ _).display
        · rfl
      | blockWriteReady =>
        obtain ⟨ht, hu⟩ := hother (u := s.writeDone) nofun rfl
        refine ⟨_, ht, ?_⟩
        unfold State.writeDone at hu ⊢
        split
        · rw [if_pos ‹_›] at hu
          exact holdupExit_display
            ((setStore_kept _ _).andThen (cs := [.line, .handler, .store]) (settleStore_kept _)) hu
        · rfl
      | keyPositionChange acc run =>
        have ht := exec_inj hexec (u := State.present s (s.keyPosition acc run)) rfl
        refine ⟨_, ht, keyPosition_display hawake ?_⟩
        rcases hup with h | ⟨acc', run', h, hkey⟩
        · rw [ht, present_ign] at h; exact .inl h
        · injection h with ha hr
          rw [ha, hr]
          exact .inr hkey
      | wakeInputChange high =>
        obtain ⟨ht, hu⟩ := hother (u := s.wakeInput high) nofun rfl
        refine ⟨_, ht, ?_⟩
        unfold State.wakeInput
        dsimp only
        split
        · next hs => rw [hs] at hawake; cases hawake
        · split
          · rfl
          · split <;> rfl
        all_goals rfl
      | watchTimerExpiry =>
        obtain ⟨ht, hu⟩ := hother (u := s.watchExpired) nofun rfl
        refine ⟨_, ht, ?_⟩
        unfold State.watchExpired at hu ⊢
        split
        · rw [if_pos ‹_›] at hu
          split at hu
          · rw [if_pos ‹_›]; exact toHoldup_display hu
          · rw [enterSleep_ign] at hu; exact absurd hu (asked_ne_holdup _)
        · rfl
      | holdupTimerExpiry =>
        obtain ⟨ht, hu⟩ := hother (u := s.holdupExpired) nofun rfl
        refine ⟨_, ht, ?_⟩
        unfold State.holdupExpired at hu ⊢
        split
        · rw [if_pos ‹_›, enterSleep_ign] at hu; exact absurd hu (asked_ne_holdup _)
        · rfl
      | _ => cases hm

theorem requestSend_idle {s : State} (h : s.display.transfer = none) :
    s.requestSend.display = { s.display with transfer := some s.displayRecord } := by
  simp only [State.requestSend, h]
  rfl

theorem requestSend_busy {s : State} (h : s.display.transfer.isSome = true) :
    s.requestSend.display = { s.display with sendPending := true } := by
  obtain ⟨r, hr⟩ := Option.isSome_iff_exists.mp h
  simp only [State.requestSend, hr]
  rfl

/-- Settles O7: the display reaches `State.present` as it was, and there `State.refreshDisplay` sends at a change alone. -/
theorem changedItemsAreSent : Obligations.ChangedItemsAreSent := by
  intro c s t hd hexec
  constructor
  · intro hasleep hign
    obtain ⟨u, rfl, hu⟩ := display_before_present hd hexec (.inl hign)
    have hasleep' : (State.refreshHolds s u).ign.awake = false := by
      rw [(refreshHolds_kept s u).ign, ← present_ign s, hign.1, hasleep]
    rw [State.present, State.refreshDisplay, if_pos (by rw [hasleep']; rfl), State.refreshHolds_display, hu]
  · intro hstays htimer
    obtain ⟨u, rfl, hu⟩ := display_before_present hd hexec (.inr hstays)
    have hawake : (State.refreshHolds s u).ign.awake = true := by
      rw [(refreshHolds_kept s u).ign, ← present_ign s, hstays.2.1]
    have hitems : (State.present s u).recordItems = (State.refreshHolds s u).recordItems :=
      recordItems_congr ((refreshDisplay_kept s _).mono (by decide))
    have hdisplay : (State.refreshHolds s u).display = s.display := (State.refreshHolds_display s u).trans hu
    have hpresent : (State.present s u).display =
        (if s.recordItems = (State.refreshHolds s u).recordItems then State.refreshHolds s u
          else (State.refreshHolds s u).requestSend).display := by
      obtain ⟨n, hn⟩ := Option.isSome_iff_exists.mp htimer
      rw [State.present, State.refreshDisplay, if_neg (by rw [hawake]; decide), if_neg (by rw [hdisplay, hn]; exact Bool.false_ne_true)]
    rw [hpresent, hitems]
    refine ⟨fun h => ?_, fun h hidle => ?_, fun h hbusy => ?_⟩
    · rw [if_pos h, hdisplay]
    · rw [if_neg h, requestSend_idle (by rw [hdisplay, hidle]), hdisplay]
      rfl
    · rw [if_neg h, requestSend_busy (by rw [hdisplay, hbusy]), hdisplay]

end Sys2Proof.Machine
end

section
/-! SUPPORT. What the operations of the record store do, as chains of a few kinds of elementary changes (`StoreMove`), and the
invariants of the store that each kind keeps: the length of the order list, the memory's canonical form, the sets of the
lines, the latch, the pinned system lines, and the one VERIFY order. -/

namespace Sys2Proof.Machine

set_option Elab.async false

/-! ### Elementary changes of the store -/

/-- The workshop's request in progress is one that removes block `b`. -/
def Task.Removes (t : Task) (b : Nat) : Prop := t = .invalidate b ∨ ∃ x, t = .writebackInvalidate b x

/-- The waiting request asks for a VERIFY order. -/
def Waiting.wantsVerify (w : Waiting) : Bool := w.order?.any Order.isVerify

/-- How many waiting requests ask for a VERIFY order. -/
def waitingVerifies (ws : List Waiting) : Nat := ws.countP Waiting.wantsVerify

/-- The store changes by one elementary change after another. With `t` the chain leaves the workshop's request in progress
alone, with `v` the number of VERIFY orders and a VERIFY in progress. -/
inductive StoreMove (t v : Prop) : Store → Store → Prop
  | refl (st : Store) : StoreMove t v st st
  | trans {a b c : Store} : StoreMove t v a b → StoreMove t v b c → StoreMove t v a c
  /-- A line keeps its block, its pin, and that it is present. -/
  | line (st : Store) (i : Nat) (f : CacheLine → CacheLine) (htag : (f (st.line i)).tag = (st.line i).tag)
      (hpin : (st.line i).pinned = true → (f (st.line i)).pinned = true)
      (hpresent : (st.line i).state.isPresent = true → (f (st.line i)).state.isPresent = true) :
      StoreMove t v st (st.modifyLine i f)
  /-- The pin of a line is set anew that holds no system block. -/
  | pin (st : Store) (i : Nat) (x : Bool) (h : ∀ b ≤ 2, (st.line i).tag ≠ some b) :
      StoreMove t v st (st.modifyLine i fun l => { l with pinned := x })
  /-- A line is emptied: no system line, unless the request in progress removes its block. -/
  | clear (st : Store) (i : Nat) (h : ∀ b ≤ 2, (st.line i).tag = some b → st.task.Removes b) :
      StoreMove t v st (st.modifyLine i fun l => { CacheLine.invalid with recent := l.recent })
  /-- Every FILLING line is emptied. -/
  | unfill (st : Store) :
      StoreMove t v st { st with
        lines := st.lines.map fun l => if l.state = .filling then { CacheLine.invalid with recent := l.recent } else l }
  | latch (st : Store) : StoreMove t v st { st with latch := true }
  | flags (st : Store) (failures nvFailures : Nat) (fault good : Bool) :
      StoreMove t v st { st with
        consecutiveFailures := failures, nvFailures := nvFailures, nvFault := fault, pwrGood := good }
  | memory (st : Store) (m : NvMemory) (h : st.nv.wf = true → m.wf = true) : StoreMove t v st { st with nv := m }
  | op (st : Store) (x : Option EngineOp)
      (h : ∀ b, x = some (.readVerify b) → st.op = some (.readVerify b) ∨ st.orders.any Order.isVerify = true) :
      StoreMove t v st { st with op := x }
  | addOrder (st : Store) (o : Order) (hroom : st.hasRoom = true) (h : v → o.isVerify = false) :
      StoreMove t v st { st with orders := st.orders ++ [o] }
  /-- The order list is written anew, no longer than it was. -/
  | orders (st : Store) (os : List Order) (hlength : os.length ≤ st.orders.length)
      (h : v → os.countP Order.isVerify = st.orders.countP Order.isVerify) :
      StoreMove t v st { st with orders := os }
  /-- The waiting requests are written anew; a new fetch is of an absent block. -/
  | waiting (st : Store) (ws : List Waiting)
      (hfetch : ∀ b x, .fetch b x ∈ ws → (∃ y, .fetch b y ∈ st.waiting) ∨ st.find b = none)
      (h : v → waitingVerifies ws = waitingVerifies st.waiting) :
      StoreMove t v st { st with waiting := ws }
  | accept (st : Store) (o : Order) (k : Nat) (hroom : st.hasRoom = true) (hk : st.waiting[k]? = some (.order o)) :
      StoreMove t v st { st with orders := st.orders ++ [o], waiting := st.waiting.eraseIdx k }
  | victim (st : Store) (b i k : Nat) (x : Bool) (hroom : st.hasRoom = true) (hk : st.waiting[k]? = some (.fetch b x))
      (hi : st.victim (setOf b) = some i) : StoreMove t v st (st.takeVictim b i k)
  /-- Another request is in progress; one that removes a system block only in place of another such. -/
  | task (st : Store) (x : Task) (ht : ¬t)
      (hv : v → ∀ b, st.task ≠ .verify b ∧ x ≠ .verify b) (h : ∀ b ≤ 2, x.Removes b → st.task.Removes b) :
      StoreMove t v st { st with task := x }

/-- A chain that leaves the request in progress and the VERIFY orders alone. -/
abbrev StoreCalm : Store → Store → Prop := StoreMove True True

/-- A chain that leaves the VERIFY orders and a VERIFY in progress alone. -/
abbrev StoreLoose : Store → Store → Prop := StoreMove False True

/-- Any chain of changes. -/
abbrev StoreReach : Store → Store → Prop := StoreMove False False

theorem StoreMove.mono {t v t' v' : Prop} {st st' : Store} (h : StoreMove t v st st') (ht : t' → t) (hv : v' → v) :
    StoreMove t' v' st st' := by
  induction h with
  | refl => exact .refl _
  | trans _ _ ih ih' => exact .trans ih ih'
  | line _ i f a b c => exact .line _ i f a b c
  | pin _ i x h => exact .pin _ i x h
  | clear _ i h => exact .clear _ i h
  | unfill => exact .unfill _
  | latch => exact .latch _
  | flags _ a b c d => exact .flags _ a b c d
  | memory _ m h => exact .memory _ m h
  | op _ x h => exact .op _ x h
  | addOrder _ o hr h => exact .addOrder _ o hr (h ∘ hv)
  | orders _ os hl h => exact .orders _ os hl (h ∘ hv)
  | waiting _ ws hf h => exact .waiting _ ws hf (h ∘ hv)
  | accept _ o k hr hk => exact .accept _ o k hr hk
  | victim _ b i k x hr hk hi => exact .victim _ b i k x hr hk hi
  | task _ x hs h h' => exact .task _ x (hs ∘ ht) (h ∘ hv) h'

theorem StoreCalm.loose {st st' : Store} (h : StoreCalm st st') : StoreLoose st st' := h.mono nofun id

theorem StoreLoose.reach {st st' : Store} (h : StoreLoose st st') : StoreReach st st' := h.mono id nofun

theorem StoreCalm.reach {st st' : Store} (h : StoreCalm st st') : StoreReach st st' := h.mono nofun nofun

/-! ### Reading a line after a change -/

theorem line_modifyLine (st : Store) (i j : Nat) (f : CacheLine → CacheLine) :
    (st.modifyLine i f).line j = if i = j ∧ i < st.lines.length then f (st.line j) else st.line j := by
  by_cases hi : i < st.lines.length
  · simp only [modifyLine_line st i j f hi, hi, and_true]
  · simp only [hi, and_false, if_false]
    unfold Store.line Store.modifyLine
    simp only [List.modify_eq_self (Nat.not_lt.mp hi)]

theorem line_tag_lt {st : Store} {j b : Nat} (h : (st.line j).tag = some b) : j < st.lines.length := by
  by_contra hj
  rw [Store.line, List.getD_eq_default _ _ (Nat.not_lt.mp hj)] at h
  cases h

theorem line_unfill (st : Store) (j : Nat) :
    ({ st with
        lines := st.lines.map fun l => if l.state = .filling then { CacheLine.invalid with recent := l.recent } else l } :
        Store).line j =
      if (st.line j).state = .filling then { CacheLine.invalid with recent := (st.line j).recent } else st.line j := by
  simp only [Store.line, List.getD_eq_getElem?_getD, List.getElem?_map]
  cases st.lines[j]? <;> rfl

/-- A victim is a way of its set, not pinned. -/
theorem victim_spec {st : Store} {set i : Nat} (h : st.victim set = some i) : i / 2 = set ∧ (st.line i).pinned = false := by
  have hpin {i : Nat} (he : st.eligible i = true) : (st.line i).pinned = false := by
    simp only [Store.eligible, Bool.and_eq_true, Bool.not_eq_true'] at he
    exact he.1
  unfold Store.victim at h
  dsimp only at h
  split at h
  · next hc => cases h; simp only [Bool.and_eq_true] at hc; exact ⟨by omega, hpin hc.1⟩
  split at h
  · next hc => cases h; simp only [Bool.and_eq_true] at hc; exact ⟨by omega, hpin hc.1⟩
  split at h
  · next hc => cases h; simp only [Bool.and_eq_true] at hc; exact ⟨by omega, hpin hc.1⟩
  split at h
  · next hc => cases h; exact ⟨by omega, hpin hc⟩
  · cases h

/-- Taking a victim places the order of its write, or empties the line for the fill. -/
theorem takeVictim_cases (st : Store) (b i k : Nat) :
    (∃ old, st.takeVictim b i k =
      { st with orders := st.orders ++ [.single old false (some b)], waiting := st.waiting.set k (.fetch b true) }) ∨
    st.takeVictim b i k =
      { st.modifyLine i (fun l => { CacheLine.filling b with recent := l.recent }) with
        orders := st.orders ++ [.fill b], waiting := st.waiting.eraseIdx k } := by
  unfold Store.takeVictim
  split
  · exact .inl ⟨_, rfl⟩
  · exact .inr rfl

theorem modifyLine_rest (st : Store) (i : Nat) (f : CacheLine → CacheLine) :
    (st.modifyLine i f).orders = st.orders ∧ (st.modifyLine i f).waiting = st.waiting ∧
      (st.modifyLine i f).task = st.task ∧ (st.modifyLine i f).nv = st.nv ∧ (st.modifyLine i f).latch = st.latch ∧
      (st.modifyLine i f).op = st.op := ⟨rfl, rfl, rfl, rfl, rfl, rfl⟩

/-! ### What every change keeps -/

theorem hasRoom_iff {st : Store} : st.hasRoom = true ↔ st.orders.length < 4 := decide_eq_true_iff

/-- R172: the order list holds no more than four orders. -/
theorem StoreMove.ordersBounded {t v : Prop} {st st' : Store} (h : StoreMove t v st st') :
    OrdersBounded st → OrdersBounded st' := by
  unfold OrdersBounded
  induction h with
  | trans _ _ ih ih' => exact fun h => ih' (ih h)
  | addOrder st o hroom _ =>
    intro _
    have := hasRoom_iff.mp hroom
    simp only [List.length_append, List.length_singleton]
    omega
  | orders st os hlength _ => exact hlength.trans
  | accept st o k hroom _ =>
    intro _
    have := hasRoom_iff.mp hroom
    simp only [List.length_append, List.length_singleton]
    omega
  | victim st b i k x hroom _ _ =>
    intro _
    have := hasRoom_iff.mp hroom
    rcases takeVictim_cases st b i k with ⟨old, h⟩ | h <;> rw [h] <;>
      simp only [List.length_append, List.length_singleton] <;> omega
  | _ => exact id

theorem StoreMove.nvWf {t v : Prop} {st st' : Store} (h : StoreMove t v st st') :
    st.nv.wf = true → st'.nv.wf = true := by
  induction h with
  | trans _ _ ih ih' => exact fun h => ih' (ih h)
  | memory st m hm => exact hm
  | victim st b i k x _ _ _ => rcases takeVictim_cases st b i k with ⟨old, h⟩ | h <;> rw [h] <;> exact id
  | _ => exact id

theorem StoreMove.latchSet {t v : Prop} {st st' : Store} (h : StoreMove t v st st') :
    st.latch = true → st'.latch = true := by
  induction h with
  | trans _ _ ih ih' => exact fun h => ih' (ih h)
  | latch => exact fun _ => rfl
  | victim st b i k x _ _ _ => rcases takeVictim_cases st b i k with ⟨old, h⟩ | h <;> rw [h] <;> exact id
  | _ => exact id

/-- R164: a change of one line keeps every block in its set, if what the line then holds is of the line's set. -/
theorem inSets_modifyLine {st : Store} {i : Nat} {f : CacheLine → CacheLine} (h : st.InSets)
    (hf : ∀ b, (f (st.line i)).tag = some b → (st.line i).tag = some b ∨ i / 2 = b % 4) :
    (st.modifyLine i f).InSets := by
  intro j hj b hb
  rw [line_modifyLine] at hb
  split at hb
  · next hij =>
    obtain ⟨rfl, -⟩ := hij
    rcases hf b hb with hold | hset
    · exact h i hj b hold
    · exact hset
  · exact h j hj b hb

theorem StoreMove.inSets {t v : Prop} {st st' : Store} (h : StoreMove t v st st') : st.InSets → st'.InSets := by
  induction h with
  | trans _ _ ih ih' => exact fun h => ih' (ih h)
  | line st i f htag _ _ => exact fun h => inSets_modifyLine h fun b hb => .inl (htag ▸ hb)
  | pin st i x _ => exact fun h => inSets_modifyLine h fun b hb => .inl hb
  | clear st i _ => exact fun h => inSets_modifyLine h fun b hb => by cases hb
  | unfill st =>
    intro h j hj b hb
    rw [line_unfill] at hb
    split at hb
    · cases hb
    · exact h j hj b hb
  | victim st b i k x _ _ hi =>
    intro h
    rcases takeVictim_cases st b i k with ⟨old, he⟩ | he <;> rw [he]
    · exact h
    · exact inSets_modifyLine h fun b' hb => .inr (by cases hb; exact (victim_spec hi).1)
  | _ => exact id

/-! ### The pinned system lines (R164) -/

/-- The line that pins block `b`: present, pinned, and alone in holding it. -/
def Store.PinsAt (st : Store) (b j : Nat) : Prop :=
  j < 8 ∧ (st.line j).tag = some b ∧ (st.line j).pinned = true ∧ (st.line j).state.isPresent = true ∧
    ∀ k < 8, k ≠ j → (st.line k).tag ≠ some b

theorem isPresent_iff {x : LineState} : x.isPresent = true ↔ x ∈ [.clean, .dirty, .writing] := by
  cases x <;> simp [LineState.isPresent]

theorem keepsPinned_iff {st : Store} {b : Nat} :
    st.KeepsPinned b ↔ (∃ j, st.PinsAt b j) ∧ (∀ x, .fetch b x ∉ st.waiting) ∧ ¬st.task.Removes b := by
  unfold Store.KeepsPinned Store.PinsAt Task.Removes
  simp only [isPresent_iff, not_or, not_exists]

theorem Store.PinsAt.find_ne {st : Store} {b j : Nat} (h : st.PinsAt b j) : st.find b ≠ none := by
  obtain ⟨-, htag, -, hpresent, -⟩ := h
  obtain ⟨i, -, hi⟩ := find_isSome_of_line htag (fun hs => by rw [hs] at hpresent; cases hpresent)
  rw [hi]
  exact nofun

/-- A change of one line keeps a pin, if the line of the pin stays present and pinned, and no other line takes the block. -/
theorem pinsAt_modifyLine {st : Store} {b j i : Nat} {f : CacheLine → CacheLine} (h : st.PinsAt b j)
    (hsame : i = j → (f (st.line j)).tag = some b ∧ (f (st.line j)).pinned = true ∧ (f (st.line j)).state.isPresent = true)
    (hother : i ≠ j → (f (st.line i)).tag = some b → (st.line i).tag = some b) : (st.modifyLine i f).PinsAt b j := by
  obtain ⟨hj, htag, hpin, hpresent, honly⟩ := h
  have hline : ((st.modifyLine i f).line j).tag = some b ∧ ((st.modifyLine i f).line j).pinned = true ∧
      ((st.modifyLine i f).line j).state.isPresent = true := by
    rw [line_modifyLine]
    split
    · next hij => exact hsame hij.1
    · exact ⟨htag, hpin, hpresent⟩
  refine ⟨hj, hline.1, hline.2.1, hline.2.2, fun k hk hkj hb => ?_⟩
  rw [line_modifyLine] at hb
  split at hb
  · next hik =>
    obtain ⟨rfl, -⟩ := hik
    exact honly i hk hkj (hother hkj hb)
  · exact honly k hk hkj hb

theorem StoreMove.systemPinned {t v : Prop} {st st' : Store} (h : StoreMove t v st st') :
    st.SystemPinned → st'.SystemPinned := by
  induction h with
  | trans _ _ ih ih' => exact fun h => ih' (ih h)
  | line st i f htag hpin hpresent =>
    intro h b hb
    obtain ⟨⟨j, hj⟩, hrest⟩ := keepsPinned_iff.mp (h b hb)
    refine keepsPinned_iff.mpr ⟨⟨j, pinsAt_modifyLine hj ?_ fun _ => (htag ▸ ·)⟩, hrest⟩
    rintro rfl
    obtain ⟨-, h1, h2, h3, -⟩ := hj
    exact ⟨htag.trans h1, hpin h2, hpresent h3⟩
  | pin st i x hno =>
    intro h b hb
    obtain ⟨⟨j, hj⟩, hrest⟩ := keepsPinned_iff.mp (h b hb)
    refine keepsPinned_iff.mpr ⟨⟨j, pinsAt_modifyLine hj ?_ fun _ => id⟩, hrest⟩
    rintro rfl
    exact absurd hj.2.1 (hno b hb)
  | clear st i hno =>
    intro h b hb
    obtain ⟨⟨j, hj⟩, hwait, htask⟩ := keepsPinned_iff.mp (h b hb)
    refine keepsPinned_iff.mpr ⟨⟨j, pinsAt_modifyLine hj ?_ fun _ => nofun⟩, hwait, htask⟩
    rintro rfl
    exact absurd (hno b hb hj.2.1) htask
  | unfill st =>
    intro h b hb
    obtain ⟨⟨j, hj, htag, hpin, hpresent, honly⟩, hrest⟩ := keepsPinned_iff.mp (h b hb)
    refine keepsPinned_iff.mpr ⟨⟨j, hj, ?_⟩, hrest⟩
    have hfill : (st.line j).state ≠ .filling := fun hs => by rw [hs] at hpresent; cases hpresent
    rw [line_unfill, if_neg hfill]
    refine ⟨htag, hpin, hpresent, fun k hk hkj => ?_⟩
    rw [line_unfill]
    split
    · exact nofun
    · exact honly k hk hkj
  | waiting st ws hfetch _ =>
    intro h b hb
    obtain ⟨⟨j, hj⟩, hwait, htask⟩ := keepsPinned_iff.mp (h b hb)
    refine keepsPinned_iff.mpr ⟨⟨j, hj⟩, fun x hx => ?_, htask⟩
    rcases hfetch b x hx with ⟨y, hy⟩ | hnone
    · exact hwait y hy
    · exact hj.find_ne hnone
  | accept st o k _ _ =>
    intro h b hb
    obtain ⟨hpin, hwait, htask⟩ := keepsPinned_iff.mp (h b hb)
    exact keepsPinned_iff.mpr ⟨hpin, fun x hx => hwait x (List.mem_of_mem_eraseIdx hx), htask⟩
  | victim st b' i k x _ hk hi =>
    intro h b hb
    obtain ⟨⟨j, hj⟩, hwait, htask⟩ := keepsPinned_iff.mp (h b hb)
    have hne : b' ≠ b := fun he => hwait x (he ▸ List.mem_of_getElem? hk)
    rcases takeVictim_cases st b' i k with ⟨old, he⟩ | he <;> rw [he]
    · refine keepsPinned_iff.mpr ⟨⟨j, hj⟩, fun y hy => ?_, htask⟩
      rcases List.mem_or_eq_of_mem_set hy with hy | hy
      · exact hwait y hy
      · injection hy with hy; exact hne hy.symm
    · have hpins : (st.modifyLine i fun l => { CacheLine.filling b' with recent := l.recent }).PinsAt b j := by
        refine pinsAt_modifyLine hj ?_ fun _ ht => ?_
        · rintro rfl
          have := (victim_spec hi).2
          rw [hj.2.2.1] at this
          cases this
        · injection ht with ht; exact absurd ht hne
      exact keepsPinned_iff.mpr ⟨⟨j, hpins⟩, fun y hy => hwait y (List.mem_of_mem_eraseIdx hy), htask⟩
  | task st x _ _ hx =>
    intro h b hb
    obtain ⟨hpin, hwait, htask⟩ := keepsPinned_iff.mp (h b hb)
    exact keepsPinned_iff.mpr ⟨hpin, hwait, fun hr => htask (hx b hb hr)⟩
  | _ => exact id

/-! ### The VERIFY order -/

/-- How many VERIFY orders are placed or wait. -/
def Store.verifyOrders (st : Store) : Nat := st.orders.countP Order.isVerify + waitingVerifies st.waiting

/-- A VERIFY read goes on only while its order is listed. -/
def Store.VerifyListed (st : Store) : Prop := ∀ b, st.op = some (.readVerify b) → st.orders.any Order.isVerify = true

theorem any_iff_countP_pos {α : Type} {p : α → Bool} {l : List α} : l.any p = true ↔ 0 < l.countP p := by
  simp [List.countP_pos_iff, List.any_eq_true]

theorem countP_eraseIdx_add {α : Type} (p : α → Bool) {l : List α} {k : Nat} {a : α} (h : l[k]? = some a) :
    (l.eraseIdx k).countP p + (if p a then 1 else 0) = l.countP p := by
  obtain ⟨hk, rfl⟩ := List.getElem?_eq_some_iff.mp h
  rw [← (List.getElem_cons_eraseIdx_perm hk).countP_eq p, List.countP_cons]

theorem countP_set_same {α : Type} (p : α → Bool) {l : List α} {k : Nat} {a b : α} (h : l[k]? = some a) (hp : p b = p a) :
    (l.set k b).countP p = l.countP p := by
  have hmap : (l.set k b).map p = l.map p := by
    rw [List.map_set, hp]
    refine List.ext_getElem? fun i => ?_
    rw [List.getElem?_set]
    split
    · next hki =>
      subst hki
      rw [List.getElem?_map, h]
      split
      · rfl
      · next hlt => rw [List.length_map] at hlt; rw [List.getElem?_eq_none (Nat.not_lt.mp hlt)] at h; cases h
    · rfl
  have hcount (l : List α) : l.countP p = (l.map p).countP id := by rw [List.countP_map]; rfl
  rw [hcount, hmap, ← hcount]

theorem verifyListed_of_countP {st st' : Store} (hop : st'.op = st.op)
    (h : st.orders.countP Order.isVerify ≤ st'.orders.countP Order.isVerify) : st.VerifyListed → st'.VerifyListed := by
  intro hl b hb
  exact any_iff_countP_pos.mpr ((any_iff_countP_pos.mp (hl b (hop ▸ hb))).trans_le h)

theorem countP_append_one (o : Order) (os : List Order) :
    (os ++ [o]).countP Order.isVerify = os.countP Order.isVerify + if o.isVerify then 1 else 0 := by
  rw [List.countP_append, List.countP_singleton]

/-- A chain keeps the number of VERIFY orders and a VERIFY in progress, and a VERIFY read stays listed. -/
theorem StoreLoose.verify {t : Prop} {st st' : Store} (h : StoreMove t True st st') :
    (∀ b, st'.task = .verify b ↔ st.task = .verify b) ∧ st'.verifyOrders = st.verifyOrders ∧
      (st.VerifyListed → st'.VerifyListed) := by
  induction h with
  | trans _ _ ih ih' => exact ⟨fun b => (ih'.1 b).trans (ih.1 b), ih'.2.1.trans ih.2.1, ih'.2.2 ∘ ih.2.2⟩
  | op st x h => exact ⟨fun _ => .rfl, rfl, fun hl b hb => (h b hb).elim (hl b) id⟩
  | addOrder st o _ ho =>
    have hcount := countP_append_one o st.orders
    rw [ho trivial] at hcount
    exact ⟨fun _ => .rfl, congrArg (· + _) hcount, verifyListed_of_countP rfl hcount.ge⟩
  | orders st os _ h => exact ⟨fun _ => .rfl, congrArg (· + _) (h trivial), verifyListed_of_countP rfl (h trivial).ge⟩
  | waiting st ws _ h => exact ⟨fun _ => .rfl, congrArg (_ + ·) (h trivial), id⟩
  | accept st o k _ hk =>
    have hcount := countP_append_one o st.orders
    have hwait : waitingVerifies (st.waiting.eraseIdx k) + (if o.isVerify then 1 else 0) = waitingVerifies st.waiting :=
      countP_eraseIdx_add Waiting.wantsVerify hk
    refine ⟨fun _ => .rfl, ?_, verifyListed_of_countP rfl (hcount ▸ Nat.le_add_right _ _)⟩
    calc (st.orders ++ [o]).countP Order.isVerify + waitingVerifies (st.waiting.eraseIdx k)
        = st.orders.countP Order.isVerify + (waitingVerifies (st.waiting.eraseIdx k) + if o.isVerify then 1 else 0) := by
          rw [hcount]; ac_rfl
      _ = st.verifyOrders := by rw [hwait]; rfl
  | victim st b i k x _ hk _ =>
    rcases takeVictim_cases st b i k with ⟨old, he⟩ | he <;> rw [he]
    · have hcount := countP_append_one (.single old false (some b)) st.orders
      have hwait := countP_set_same Waiting.wantsVerify (b := .fetch b true) hk rfl
      exact ⟨fun _ => .rfl, congrArg₂ (· + ·) hcount hwait, verifyListed_of_countP rfl hcount.ge⟩
    · have hcount := countP_append_one (.fill b) st.orders
      have hwait := countP_eraseIdx_add Waiting.wantsVerify hk
      exact ⟨fun _ => .rfl, congrArg₂ (· + ·) hcount hwait, verifyListed_of_countP rfl hcount.ge⟩
  | task st x _ hv _ =>
    exact ⟨fun b => ⟨fun h => absurd h (hv trivial b).2, fun h => absurd h (hv trivial b).1⟩, rfl, id⟩
  | _ => exact ⟨fun _ => .rfl, rfl, id⟩

/-- A chain that leaves the request in progress alone. -/
theorem StoreMove.sameTask {v : Prop} {st st' : Store} (h : StoreMove True v st st') : st'.task = st.task := by
  induction h with
  | trans _ _ ih ih' => exact ih'.trans ih
  | victim st b i k x _ _ _ => rcases takeVictim_cases st b i k with ⟨old, h⟩ | h <;> exact (congrArg Store.task h).trans rfl
  | task st x ht _ _ => exact absurd trivial ht
  | _ => rfl

end Sys2Proof.Machine
end

section
/-! SUPPORT. Every operation of the record store as a chain of elementary changes (`StoreMove`), and what the store's progress
after an event does with the workshop's request in progress. -/

namespace Sys2Proof.Machine

set_option Elab.async false

section
variable {t v : Prop}

/-! ### Lines -/

theorem move_recent (st : Store) (i : Nat) (x : Bool) : StoreMove t v st (st.modifyLine i fun l => { l with recent := x }) :=
  .line _ _ _ rfl id id

theorem move_touch (st : Store) (i : Nat) : StoreMove t v st (st.touch i) :=
  .trans (move_recent _ _ _) (move_recent _ _ _)

theorem updated_present (f : List Byte → List Byte) {l : CacheLine} (h : l.state.isPresent = true) :
    (CacheLine.updated f l).state.isPresent = true := by
  unfold CacheLine.updated
  split <;> first | rfl | exact h

theorem updated_tag (f : List Byte → List Byte) (l : CacheLine) :
    (CacheLine.updated f l).tag = l.tag ∧ (CacheLine.updated f l).pinned = l.pinned := by
  unfold CacheLine.updated
  split <;> exact ⟨rfl, rfl⟩

theorem move_update (st : Store) (b : Nat) (f : List Byte → List Byte) : StoreMove t v st (st.update b f) := by
  unfold Store.update
  split
  · exact .trans (.line _ _ _ (updated_tag f _).1 (fun h => (updated_tag f _).2.trans h) (updated_present f)) (move_touch _ _)
  · exact .refl _

theorem move_setPin {st : Store} {b : Nat} {x : Bool} (h : x = true ∨ 2 < b) : StoreMove t v st (st.setPin b x) := by
  unfold Store.setPin
  split
  · next i hi =>
    rcases h with rfl | h
    · exact .line _ _ _ rfl (fun _ => rfl) id
    · refine .pin _ _ _ fun c hc htag => ?_
      rw [(line_of_find hi).1] at htag
      injection htag with htag
      omega
  · exact .refl _

theorem move_invalidate {st : Store} {b : Nat} (h : b ≤ 2 → st.task.Removes b) : StoreMove t v st (st.invalidateBlock b) := by
  unfold Store.invalidateBlock
  split
  · next i hi =>
    refine .clear _ _ fun c hc htag => ?_
    rw [(line_of_find hi).1] at htag
    injection htag with htag
    subst htag
    exact h hc
  · exact .refl _

theorem move_startWrite {st : Store} {i : Nat} (x : WriteFor) : StoreMove t v st (st.startWrite i x) :=
  .trans (.line _ _ _ rfl id fun _ => rfl) (.op _ _ nofun)

/-! ### Fetches and orders -/

theorem move_fetch (st : Store) (b : Nat) : StoreMove t v st (st.fetch b) := by
  unfold Store.fetch
  split
  · split
    · exact .refl _
    · exact move_touch _ _
  · next hnone =>
    split
    · exact .refl _
    · refine .waiting _ _ (fun c x hx => ?_) fun _ => ?_
      · rcases List.mem_append.mp hx with hx | hx
        · exact .inl ⟨x, hx⟩
        · rw [List.mem_singleton] at hx
          injection hx with hc
          exact .inr (hc ▸ hnone)
      · simp [waitingVerifies, Waiting.wantsVerify, Waiting.order?]

theorem merge_isVerify (o o' : Order) : (o'.merge o).isVerify = o'.isVerify := by
  cases o' <;> cases o <;> rfl

theorem mergeWith_wantsVerify (o : Order) (w : Waiting) : (w.mergeWith o).wantsVerify = w.wantsVerify := by
  cases w with
  | fetch => rfl
  | order o' => exact merge_isVerify o o'

/-- The waiting requests after a change of one that keeps which fetches and VERIFY orders wait. -/
theorem move_modifyWaiting {st : Store} {k : Nat} {f : Waiting → Waiting}
    (hf : ∀ b x w, f w = .fetch b x → ∃ y, w = .fetch b y) (hv : ∀ w, (f w).wantsVerify = w.wantsVerify) :
    StoreMove t v st { st with waiting := st.waiting.modify k f } := by
  refine .waiting _ _ (fun b x hx => ?_) fun _ => ?_
  · obtain ⟨j, hj⟩ := List.mem_iff_getElem?.mp hx
    rw [List.getElem?_modify] at hj
    obtain ⟨w, hw, he⟩ := Option.map_eq_some_iff.mp hj
    split at he
    · obtain ⟨y, rfl⟩ := hf b x w he
      exact .inl ⟨y, List.mem_of_getElem? hw⟩
    · exact .inl ⟨x, he ▸ List.mem_of_getElem? hw⟩
  · have hcount (l : List Waiting) : waitingVerifies l = (l.map Waiting.wantsVerify).countP id := by
      rw [List.countP_map]; rfl
    rw [hcount, hcount]
    congr 1
    refine List.ext_getElem? fun j => ?_
    rw [List.getElem?_map, List.getElem?_map, List.getElem?_modify, Option.map_eq_map, Option.map_map]
    congr 1
    funext w
    simp only [Function.comp_apply]
    split
    · exact hv w
    · rfl

theorem move_mapWaiting {st : Store} {f : Waiting → Waiting}
    (hf : ∀ b x w, f w = .fetch b x → ∃ y, w = .fetch b y) (hv : ∀ w, (f w).wantsVerify = w.wantsVerify) :
    StoreMove t v st { st with waiting := st.waiting.map f } := by
  refine .waiting _ _ (fun b x hx => ?_) fun _ => ?_
  · obtain ⟨w, hw, he⟩ := List.mem_map.mp hx
    obtain ⟨y, rfl⟩ := hf b x w he
    exact .inl ⟨y, hw⟩
  · unfold waitingVerifies
    rw [List.countP_map]
    exact List.countP_congr fun w _ => by rw [Function.comp_apply, hv]

theorem move_place {st : Store} {o : Order} (h : v → o.isVerify = false) : StoreMove t v st (st.place o) := by
  unfold Store.place
  split
  · next hroom =>
    simp only [Bool.and_eq_true] at hroom
    exact .addOrder _ _ hroom.1 h
  · split
    · refine move_modifyWaiting (fun b x w hw => ?_) (mergeWith_wantsVerify o)
      cases w with
      | fetch b' y => injection hw with hb; exact ⟨y, hb ▸ rfl⟩
      | order o' => cases hw
    · refine .waiting _ _ (fun b x hx => ?_) fun hs => ?_
      · rcases List.mem_append.mp hx with hx | hx
        · exact .inl ⟨x, hx⟩
        · rw [List.mem_singleton] at hx
          cases hx
      · simp [waitingVerifies, Waiting.wantsVerify, Waiting.order?, h hs]

theorem move_writeback (st : Store) (b : Nat) (w : Bool) : StoreMove t v st (st.writeback b w) := move_place fun _ => rfl

theorem move_placeSweep (st : Store) : StoreMove t v st st.placeSweep := by
  unfold Store.placeSweep
  split
  · exact .refl _
  · exact move_place fun _ => rfl

theorem restart_readVerify {x : Option EngineOp} {b : Nat} (h : x.map EngineOp.restart = some (.readVerify b)) :
    x = some (.readVerify b) := by
  obtain ⟨o, rfl, ho⟩ := Option.map_eq_some_iff.mp h
  unfold EngineOp.restart at ho
  split at ho
  · cases ho
  · rw [ho]

theorem countP_eraseIdx_verify {os : List Order} {k : Nat} {o : Order} (hk : os[k]? = some o) (ho : o.isVerify = false) :
    (os.eraseIdx k).countP Order.isVerify = os.countP Order.isVerify := by
  have := countP_eraseIdx_add Order.isVerify hk
  rw [ho] at this
  exact this

theorem toHoldup_fetch {b : Nat} {x : Bool} {w : Waiting} (h : w.toHoldup = .fetch b x) : ∃ y, w = .fetch b y := by
  unfold Waiting.toHoldup at h
  split at h
  · cases h
  · exact ⟨x, h⟩

theorem toHoldup_wantsVerify (w : Waiting) : w.toHoldup.wantsVerify = w.wantsVerify := by
  cases w with
  | fetch => rfl
  | order o => cases o <;> rfl

theorem toSweep_fetch {b : Nat} {x : Bool} {w : Waiting} (h : w.toSweep = .fetch b x) : ∃ y, w = .fetch b y := by
  cases w with
  | fetch b' y => injection h with hb; exact ⟨y, hb ▸ rfl⟩
  | order o => cases h

theorem toSweep_wantsVerify (w : Waiting) : w.toSweep.wantsVerify = w.wantsVerify := by
  cases w with
  | fetch => rfl
  | order o => cases o <;> rfl

theorem isVerify_of_isSweep {o : Order} (h : o.isSweep = true) : o.isVerify = false := by cases o <;> first | rfl | cases h

/-- The order found first: where it stands, and that it is of the kind asked for. -/
theorem findIdx?_spec {α : Type} {p : α → Bool} {l : List α} {k : Nat} (h : l.findIdx? p = some k) :
    ∃ a, l[k]? = some a ∧ p a = true := by
  obtain ⟨hk, hp, -⟩ := List.findIdx?_eq_some_iff_getElem.mp h
  exact ⟨l[k], List.getElem?_eq_getElem hk, hp⟩

theorem move_placeHoldup (st : Store) : StoreMove t v st st.placeHoldup := by
  unfold Store.placeHoldup
  split
  · next k hk =>
    obtain ⟨o, hget, hsweep⟩ := findIdx?_spec hk
    have hlt : k < st.orders.length := (List.getElem?_eq_some_iff.mp hget).1
    have hcount : (st.orders.eraseIdx k ++ [Order.walk true 0]).countP Order.isVerify = st.orders.countP Order.isVerify := by
      rw [countP_append_one, countP_eraseIdx_verify hget (isVerify_of_isSweep hsweep)]
      rfl
    refine .trans (.op _ (st.op.map EngineOp.restart) fun b hb => .inl (restart_readVerify hb)) (.orders _ _ ?_ fun _ => hcount)
    rw [List.length_append, List.length_eraseIdx_of_lt hlt, List.length_singleton]
    exact (Nat.sub_add_cancel (Nat.one_le_of_lt hlt)).le
  · split
    · exact .refl _
    · split
      · exact move_mapWaiting (fun _ _ _ h => toHoldup_fetch h) toHoldup_wantsVerify
      · exact move_place fun _ => rfl

theorem move_turnHoldup (st : Store) : StoreMove t v st st.turnHoldup := by
  have hcount : (st.orders.map Order.toSweep).countP Order.isVerify = st.orders.countP Order.isVerify := by
    rw [List.countP_map]
    exact List.countP_congr fun o _ => by cases o <;> rfl
  exact .trans (.orders _ (st.orders.map Order.toSweep) (List.length_map _).le fun _ => hcount)
    (move_mapWaiting (fun _ _ _ h => toSweep_fetch h) toSweep_wantsVerify)

/-! ### The copy engine -/

theorem move_admitOne {st st' : Store} (h : st.admitOne = some st') : StoreMove t v st st' := by
  unfold Store.admitOne at h
  split at h
  · next k hk =>
    obtain ⟨w, hget, hgo⟩ := findIdx?_spec hk
    split at h
    · next b x hw =>
      rw [hw] at hget
      injection hget with hget
      subst hget
      obtain ⟨i, hi, rfl⟩ := Option.map_eq_some_iff.mp h
      simp only [Store.canGoOn, Bool.and_eq_true] at hgo
      exact .victim _ _ _ _ _ hgo.1.2 hw hi
    · next o hw =>
      rw [hw] at hget
      injection hget with hget
      subst hget
      injection h with h
      subst h
      exact .accept _ _ _ hgo hw
    · cases h
  · cases h

theorem victimWritten_fetch {f b : Nat} {x : Bool} {w : Waiting} (h : w.victimWritten f = .fetch b x) :
    ∃ y, w = .fetch b y := by
  cases w with
  | fetch b' y => injection h with hb; exact ⟨y, hb ▸ rfl⟩
  | order o => cases h

theorem victimWritten_wantsVerify (f : Nat) (w : Waiting) : (w.victimWritten f).wantsVerify = w.wantsVerify := by
  cases w <;> rfl

/-- The end of an order drops it, and wakes the fetch whose victim it wrote. -/
theorem move_endOrder {st : Store} {k : Nat} (h : v → ∀ o, st.orders[k]? = some o → o.isVerify = false) :
    StoreMove t v st (st.endOrder k) := by
  have herase : StoreMove t v st { st with orders := st.orders.eraseIdx k } := by
    refine .orders _ _ (List.length_eraseIdx_le _ _) fun hs => ?_
    cases hk : st.orders[k]? with
    | none => rw [List.eraseIdx_of_length_le (List.getElem?_eq_none_iff.mp hk)]
    | some o => exact countP_eraseIdx_verify hk (h hs o hk)
  unfold Store.endOrder
  dsimp only
  split
  · exact herase.trans (move_mapWaiting (fun _ _ _ h => victimWritten_fetch h) (victimWritten_wantsVerify _))
  · exact herase

theorem move_startOrder (st : Store) (k : Nat) : StoreMove t v st (st.startOrder k) := by
  have hend {o : Order} (hk : st.orders[k]? = some o) (ho : o.isVerify = false) : StoreMove t v st (st.endOrder k) :=
    move_endOrder fun _ o' hk' => by rw [hk] at hk'; injection hk' with hk'; rw [← hk', ho]
  unfold Store.startOrder
  split
  · exact .op _ _ nofun
  · next b hk =>
    exact .op _ _ fun _ _ => .inr (List.any_eq_true.mpr ⟨_, List.mem_of_getElem? hk, rfl⟩)
  · next b w v' hk =>
    split
    · split
      · exact move_startWrite _
      · exact hend hk rfl
    · exact hend hk rfl
  · next h p hk =>
    split
    · exact hend hk rfl
    · split
      · next i _ =>
        exact .trans (.orders _ _ (List.length_set ..).le fun _ => countP_set_same Order.isVerify (b := .walk h i) hk rfl)
          (move_startWrite _)
      · exact hend hk rfl
  · exact .refl _

theorem move_engineOne {st st' : Store} (h : st.engineOne = some st') : StoreMove t v st st' := by
  unfold Store.engineOne at h
  split at h
  · cases h
  · obtain ⟨k, -, rfl⟩ := Option.map_eq_some_iff.mp h
    exact move_startOrder _ _

theorem move_endKind {st : Store} {p : Order → Bool} (h : v → ∀ o, p o = true → o.isVerify = false) :
    StoreMove t v st (st.endKind p) := by
  unfold Store.endKind
  split
  · next k hk =>
    obtain ⟨o, hget, hp⟩ := findIdx?_spec hk
    exact move_endOrder fun hs o' hk' => by rw [hget] at hk'; injection hk' with hk'; exact hk' ▸ h hs o hp
  · exact .refl _

theorem countP_walk_served (i : Nat) (os : List Order) :
    ((os.map (Order.pastLine i)).filter fun o => !o.walked).countP Order.isVerify = os.countP Order.isVerify := by
  rw [List.countP_filter, List.countP_map]
  refine List.countP_congr fun o _ => ?_
  cases o <;> simp [Order.pastLine, Order.walked, Order.isVerify]

theorem move_writeServed (st : Store) (i : Nat) (x : WriteFor) : StoreMove t v st (st.writeServed i x) := by
  cases x with
  | single => exact move_endKind fun _ o ho => by cases o <;> first | rfl | cases ho
  | walk =>
    exact .orders _ _ ((List.length_filter_le _ _).trans (List.length_map _).le) fun _ => countP_walk_served i st.orders
  | restarted => exact .refl _

/-- The end of an order, and of a write, changes the lists of orders and waiting requests alone. -/
theorem endKind_eq (st : Store) (p : Order → Bool) : ∃ os ws, st.endKind p = { st with orders := os, waiting := ws } := by
  unfold Store.endKind Store.endOrder
  split
  · dsimp only
    split
    · exact ⟨_, _, rfl⟩
    · exact ⟨_, st.waiting, rfl⟩
  · exact ⟨st.orders, st.waiting, rfl⟩

theorem writeServed_eq (st : Store) (i : Nat) (x : WriteFor) :
    ∃ os ws, st.writeServed i x = { st with orders := os, waiting := ws } := by
  cases x with
  | single => exact endKind_eq st _
  | walk => exact ⟨_, st.waiting, rfl⟩
  | restarted => exact ⟨st.orders, st.waiting, rfl⟩

/-- A write that ends leaves its line present, serves its order and frees the engine; what it does to the memory keeps the
canonical form. -/
theorem move_writeEnded (st : Store) (i : Nat) (f : CacheLine → CacheLine) (x : WriteFor)
    (hf : ∀ l, (f l).tag = l.tag ∧ (f l).pinned = l.pinned ∧ (f l).state.isPresent = true)
    {m : NvMemory} (hm : st.nv.wf = true → m.wf = true) (a b : Nat) (c : Bool) :
    StoreMove t v st { (st.modifyLine i f).writeServed i x with
      op := none, consecutiveFailures := a, nvFailures := b, nvFault := c, nv := m } := by
  have hline : StoreMove t v st (st.modifyLine i f) :=
    .line _ _ _ (hf _).1 (fun h => (hf _).2.1.trans h) fun _ => (hf _).2.2
  have hserved := move_writeServed (t := t) (v := v) (st.modifyLine i f) i x
  obtain ⟨os, ws, heq⟩ := writeServed_eq (st.modifyLine i f) i x
  rw [heq] at hserved ⊢
  exact (hline.trans hserved).trans (.trans (.op _ none nofun) (.trans (.flags _ a b c _) (.memory _ m hm)))

theorem move_writeReady (st : Store) : StoreMove t v st st.writeReady := by
  unfold Store.writeReady
  split
  · next i snap serves n hop =>
    obtain ⟨os, ws, heq⟩ := writeServed_eq (st.modifyLine i CacheLine.written) i serves
    have := move_writeEnded (t := t) (v := v) st i CacheLine.written serves
      (fun l => ⟨rfl, rfl, by unfold CacheLine.written; split <;> rfl⟩)
      (m := st.nv.writeBlock (st.blockOf i) snap) (NvMemory.wf_writeBlock _ _) 0 st.nvFailures st.nvFault
    rw [heq] at this ⊢
    exact this
  · exact .refl _

theorem move_writeFailed (st : Store) (k : Nat) : StoreMove t v st (st.writeFailed k) := by
  unfold Store.writeFailed
  split
  · exact move_writeEnded st _ CacheLine.unwritten _ (fun l => ⟨rfl, rfl, rfl⟩) (NvMemory.wf_scramble _ _) _ _ _
  · exact .refl _

theorem move_abandonWrite (st : Store) (k : Nat) : StoreMove t v st (st.abandonWrite k) := by
  unfold Store.abandonWrite
  split
  · next i _ _ _ _ =>
    exact .trans (.line st i CacheLine.unwritten rfl id fun _ => rfl)
      (.trans (.op _ none nofun) (.memory _ _ (NvMemory.wf_spoil _ _)))
  · exact .refl _

theorem move_endFill (st : Store) (b : Nat) (pin : Bool) : StoreMove t v st (st.endFill b pin) := by
  unfold Store.endFill
  have hend : StoreMove t v st { st.endKind Order.isFill with op := none } :=
    .trans (move_endKind fun _ o ho => by cases o <;> first | rfl | cases ho) (.op _ none nofun)
  dsimp only
  split
  · refine .trans hend (.trans (.line _ _ _ rfl (fun h => ?_) fun _ => rfl) (move_touch _ _))
    simp only [h, Bool.true_or]
  · exact hend

/-! ### SLEEP, wake, and the progress after an event -/

theorem move_wake (st : Store) : StoreMove t v st st.wake := .flags _ 0 _ false _

theorem reach_sleep (st : Store) : StoreReach st st.sleep :=
  .trans (.unfill st) (.trans (.orders _ [] (Nat.zero_le _) nofun) (.trans (.op _ none nofun)
    (.trans (.waiting _ [] nofun nofun) (.task _ .none nofun nofun fun _ _ h => by
      rcases h with h | ⟨_, h⟩ <;> cases h))))

theorem none_not_removes (b : Nat) : ¬Task.Removes .none b := by
  rintro (h | ⟨_, h⟩) <;> cases h

/-- The request in progress ends, unless it is a VERIFY. -/
theorem loose_endTask {st : Store} (h : ∀ b, st.task ≠ .verify b) : StoreLoose st { st with task := .none } :=
  .task _ _ nofun (fun _ b => ⟨h b, nofun⟩) fun _ _ hr => absurd hr (none_not_removes _)

theorem loose_unmark (st : Store) : StoreLoose st { st with orders := st.orders.map Order.unmark } := by
  refine .orders _ _ (List.length_map _).le fun _ => ?_
  rw [List.countP_map]
  exact List.countP_congr fun o _ => by cases o <;> rfl

/-- A step of the request in progress: what it may do, that it ends with an answer and no request, and that it goes on else. -/
theorem taskOne_spec {st st' : Store} {r : Option Status} (h : st.taskOne = some (st', r)) :
    StoreLoose st st' ∧ st.task ≠ .none ∧ (∀ b, st.task ≠ .verify b) ∧ (r.isSome = true → st'.task = .none) ∧
      (r = none → st'.task ≠ .none) := by
  unfold Store.taskOne at h
  have hend {u : Store} {x : Status} (hu : StoreCalm st u) (hv : ∀ b, st.task ≠ .verify b)
      (he : some (({ u with task := Task.none } : Store), some x) = some (st', r)) :
      StoreLoose st st' ∧ (r.isSome = true → st'.task = .none) ∧ (r = none → st'.task ≠ .none) := by
    injection he with he
    injection he with h1 h2
    subst h1 h2
    exact ⟨hu.loose.trans (loose_endTask fun b => by rw [hu.sameTask]; exact hv b), fun _ => rfl, nofun⟩
  have hinvalidate {b : Nat} (hb : st.task.Removes b) : StoreCalm st (st.invalidateBlock b) := move_invalidate fun _ => hb
  dsimp only at h
  split at h
  · next b ht =>
    split at h
    · cases h
    · obtain ⟨h1, h2, h3⟩ := hend (.refl st) (by rw [ht]; exact nofun) h
      exact ⟨h1, by rw [ht]; exact nofun, by rw [ht]; exact nofun, h2, h3⟩
  · next b ht =>
    have hv : ∀ b, st.task ≠ .verify b := by rw [ht]; exact nofun
    split at h
    · cases h
    split at h
    · obtain ⟨h1, h2, h3⟩ := hend (.refl st) hv h
      exact ⟨h1, by rw [ht]; exact nofun, hv, h2, h3⟩
    · obtain ⟨h1, h2, h3⟩ := hend (hinvalidate (.inr ⟨_, ht⟩)) hv h
      exact ⟨h1, by rw [ht]; exact nofun, hv, h2, h3⟩
  · next b ht =>
    have hv : ∀ b, st.task ≠ .verify b := by rw [ht]; exact nofun
    split at h
    · cases h
    split at h
    · injection h with h
      injection h with h1 h2
      subst h1 h2
      have hplace := move_writeback (t := True) (v := True) st b true
      refine ⟨(StoreCalm.loose hplace).trans (.task _ _ nofun (fun _ c => ⟨?_, nofun⟩) fun c _ hc => ?_), by rw [ht]; exact nofun, hv,
        nofun, fun _ => nofun⟩
      · rw [hplace.sameTask]; exact hv c
      · rw [hplace.sameTask, ht]
        rcases hc with hc | ⟨x, hc⟩
        · cases hc
        · injection hc with hc; exact .inr ⟨false, by rw [hc]⟩
    · obtain ⟨h1, h2, h3⟩ := hend (hinvalidate (.inr ⟨_, ht⟩)) hv h
      exact ⟨h1, by rw [ht]; exact nofun, hv, h2, h3⟩
  · next b ht =>
    have hv : ∀ b, st.task ≠ .verify b := by rw [ht]; exact nofun
    split at h
    · cases h
    split at h
    · obtain ⟨h1, h2, h3⟩ := hend (.refl st) hv h
      exact ⟨h1, by rw [ht]; exact nofun, hv, h2, h3⟩
    · obtain ⟨h1, h2, h3⟩ := hend (hinvalidate (.inl ht)) hv h
      exact ⟨h1, by rw [ht]; exact nofun, hv, h2, h3⟩
  · next ht =>
    have hv : ∀ b, st.task ≠ .verify b := by rw [ht]; exact nofun
    split at h
    · cases h
    · injection h with h
      injection h with h1 h2
      subst h1 h2
      exact ⟨(loose_unmark st).trans (loose_endTask hv), by rw [ht]; exact nofun, hv, fun _ => rfl, nofun⟩
  all_goals cases h

/-- What the store's progress does with the workshop's request: it answers one that ends, and else leaves it going. -/
structure Settles (st st' : Store) (r : Option Status) : Prop where
  move : StoreLoose st st'
  goesOn : r = none → (st'.task = .none ↔ st.task = .none)
  ends : r.isSome = true → st.task ≠ .none ∧ (∀ b, st.task ≠ .verify b) ∧ st'.task = .none

theorem Settles.calm {a b c : Store} {r : Option Status} (h : StoreCalm a b) (k : Settles b c r) : Settles a c r where
  move := h.loose.trans k.move
  goesOn hr := by rw [k.goesOn hr, h.sameTask]
  ends hr := by rw [← h.sameTask]; exact k.ends hr

theorem settle_spec (n : Nat) (st : Store) : Settles st (st.settle n).1 (st.settle n).2 := by
  induction n generalizing st with
  | zero => exact ⟨.refl _, fun _ => .rfl, nofun⟩
  | succ n ih =>
    unfold Store.settle
    split
    · next st' r ht =>
      obtain ⟨hmove, hne, hv, hend, hgo⟩ := taskOne_spec ht
      have hrest := ih st'
      cases r with
      | none =>
        refine ⟨hmove.trans hrest.move, fun hr => ?_, fun hr => ⟨hne, hv, (hrest.ends hr).2.2⟩⟩
        rw [hrest.goesOn hr]
        exact iff_of_false (hgo rfl) hne
      | some x =>
        have hnone : (st'.settle n).2 = none := by
          cases hr : (st'.settle n).2 with
          | none => rfl
          | some y => exact absurd (hend rfl) (hrest.ends (by rw [hr]; rfl)).1
        exact ⟨hmove.trans hrest.move, nofun, fun _ => ⟨hne, hv, (hrest.goesOn hnone).mpr (hend rfl)⟩⟩
    · split
      · next st' ha => exact (ih st').calm (move_admitOne ha)
      · split
        · next st' he => exact (ih st').calm (move_engineOne he)
        · exact ⟨.refl _, fun _ => .rfl, nofun⟩

end
end Sys2Proof.Machine
end

section
/-! SUPPORT. What an operation that stays within one ignition state does to the bounds and timers of each block: one
relation per block, and `Blocks`, which has them all. -/
namespace Sys2Proof.Machine
set_option Elab.async false

/-! ### One relation per block -/

structure IgnitionOk (i j : Ignition) : Prop where
  state : j.state = i.state
  watch : j.watchTimer.isSome = i.watchTimer.isSome
  holdup : j.holdupTimer.isSome = i.holdupTimer.isSome

structure CountingOk (c d : Counting) : Prop where
  clock : ClockInRange c → ClockInRange d
  window : d.windowTimer.isSome = c.windowTimer.isSome

structure LineOk (x : Ign) (l m : LineStation) : Prop where
  bounds : l.InBounds → m.InBounds
  rate40 : m.rate40.isSome = l.rate40.isSome
  rate41 : m.rate41.isSome = l.rate41.isSome
  silence : m.silence.isSome → l.silence.isSome ∨ x = .run

structure GaugesOk (x : Ign) (u v : Gauges) : Prop where
  range : (∀ g ∈ u.gauges, g.InRange) → ∀ g ∈ v.gauges, g.InRange
  timer : v.timer.isSome = u.timer.isSome
  sweep : v.sweep.isSome → u.sweep.isSome ∨ x = .run

structure SoundOk (x : Ign) (u v : Sound) : Prop where
  flash : v.flash.isSome = u.flash.isSome
  bulb : v.bulbCheck.isSome → u.bulbCheck.isSome ∨ x = .run

structure ArbiterOk (a b : Arbiter) : Prop where
  tick : b.tick.isSome = a.tick.isSome
  rate43 : b.rate43.isSome = a.rate43.isSome

theorem IgnitionOk.refl (i : Ignition) : IgnitionOk i i := ⟨rfl, rfl, rfl⟩
theorem CountingOk.refl (c : Counting) : CountingOk c c := ⟨id, rfl⟩
theorem LineOk.refl (x : Ign) (l : LineStation) : LineOk x l l := ⟨id, rfl, rfl, .inl⟩
theorem GaugesOk.refl (x : Ign) (u : Gauges) : GaugesOk x u u := ⟨id, rfl, .inl⟩
theorem SoundOk.refl (x : Ign) (u : Sound) : SoundOk x u u := ⟨rfl, .inl⟩
theorem ArbiterOk.refl (a : Arbiter) : ArbiterOk a a := ⟨rfl, rfl⟩

theorem IgnitionOk.trans {i j k : Ignition} (h : IgnitionOk i j) (h' : IgnitionOk j k) : IgnitionOk i k :=
  ⟨h'.state.trans h.state, h'.watch.trans h.watch, h'.holdup.trans h.holdup⟩

theorem CountingOk.trans {c d e : Counting} (h : CountingOk c d) (h' : CountingOk d e) : CountingOk c e :=
  ⟨h'.clock ∘ h.clock, h'.window.trans h.window⟩

theorem LineOk.trans {x : Ign} {l m n : LineStation} (h : LineOk x l m) (h' : LineOk x m n) : LineOk x l n :=
  ⟨h'.bounds ∘ h.bounds, h'.rate40.trans h.rate40, h'.rate41.trans h.rate41,
    fun hn => (h'.silence hn).elim h.silence .inr⟩

theorem GaugesOk.trans {x : Ign} {u v w : Gauges} (h : GaugesOk x u v) (h' : GaugesOk x v w) : GaugesOk x u w :=
  ⟨h'.range ∘ h.range, h'.timer.trans h.timer, fun hn => (h'.sweep hn).elim h.sweep .inr⟩

theorem SoundOk.trans {x : Ign} {u v w : Sound} (h : SoundOk x u v) (h' : SoundOk x v w) : SoundOk x u w :=
  ⟨h'.flash.trans h.flash, fun hn => (h'.bulb hn).elim h.bulb .inr⟩

theorem ArbiterOk.trans {a b c : Arbiter} (h : ArbiterOk a b) (h' : ArbiterOk b c) : ArbiterOk a c :=
  ⟨h'.tick.trans h.tick, h'.rate43.trans h.rate43⟩

/-! ### All blocks -/

/-- The relations of all blocks: bounds stay, and within the ignition state so do the timers. -/
structure Blocks (s t : State) : Prop where
  ignition : IgnitionOk s.ignition t.ignition
  counting : CountingOk s.counting t.counting
  line : LineOk s.ign s.line t.line
  gauges : GaugesOk s.ign s.gauges t.gauges
  sound : SoundOk s.ign s.sound t.sound
  arbiter : ArbiterOk s.arbiter t.arbiter
  served : s.arith.Served → t.arith.Served
  store : StoreReach s.store t.store
  topics : t.topics.tick.isSome = s.topics.tick.isSome
  rules : t.rules.timer.isSome = s.rules.timer.isSome
  display : t.display.timer.isSome = s.display.timer.isSome

theorem Blocks.ign {s t : State} (h : Blocks s t) : t.ign = s.ign := h.ignition.state

theorem Blocks.refl (s : State) : Blocks s s :=
  ⟨.refl _, .refl _, .refl _ _, .refl _ _, .refl _ _, .refl _, id, .refl _, rfl, rfl, rfl⟩

theorem Blocks.trans {s t u : State} (h : Blocks s t) (k : Blocks t u) : Blocks s u where
  ignition := h.ignition.trans k.ignition
  counting := h.counting.trans k.counting
  line := h.line.trans (h.ign ▸ k.line)
  gauges := h.gauges.trans (h.ign ▸ k.gauges)
  sound := h.sound.trans (h.ign ▸ k.sound)
  arbiter := h.arbiter.trans k.arbiter
  served := k.served ∘ h.served
  store := h.store.trans k.store
  topics := k.topics.trans h.topics
  rules := k.rules.trans h.rules
  display := k.display.trans h.display

/-- The same with the later operation first, which then fixes the state between them. -/
theorem Blocks.after {s t u : State} (k : Blocks t u) (h : Blocks s t) : Blocks s u := h.trans k

theorem Blocks.ite {p : Prop} [Decidable p] {s t u : State} (h : Blocks s t) (k : Blocks s u) :
    Blocks s (if p then t else u) := by split <;> assumption

theorem Blocks.foldl {α : Type} {f : State → α → State} (h : ∀ s a, Blocks s (f s a)) (l : List α) (s : State) :
    Blocks s (l.foldl f s) := by
  induction l generalizing s with
  | nil => exact .refl s
  | cons a l ih => exact (h s a).trans (ih (f s a))

/-- From an operation's frame and what it does to the blocks that the frame leaves open. -/
theorem Blocks.of {bs : List Block} {s t : State} (k : KeptBut bs s t)
    (ignition : Block.ignition ∈ bs → IgnitionOk s.ignition t.ignition := by exact fun h => absurd h (by decide))
    (counting : Block.counting ∈ bs → CountingOk s.counting t.counting := by exact fun h => absurd h (by decide))
    (line : Block.line ∈ bs → LineOk s.ign s.line t.line := by exact fun h => absurd h (by decide))
    (gauges : Block.gauges ∈ bs → GaugesOk s.ign s.gauges t.gauges := by exact fun h => absurd h (by decide))
    (sound : Block.sound ∈ bs → SoundOk s.ign s.sound t.sound := by exact fun h => absurd h (by decide))
    (arbiter : Block.arbiter ∈ bs → ArbiterOk s.arbiter t.arbiter := by exact fun h => absurd h (by decide))
    (arith : Block.arith ∈ bs → s.arith.Served → t.arith.Served := by exact fun h => absurd h (by decide))
    (store : Block.store ∈ bs → StoreReach s.store t.store := by exact fun h => absurd h (by decide))
    (topics : Block.topics ∈ bs → t.topics.tick.isSome = s.topics.tick.isSome := by exact fun h => absurd h (by decide))
    (rules : Block.rules ∈ bs → t.rules.timer.isSome = s.rules.timer.isSome := by exact fun h => absurd h (by decide))
    (display : Block.display ∈ bs → t.display.timer.isSome = s.display.timer.isSome := by
      exact fun h => absurd h (by decide)) :
    Blocks s t where
  ignition := if hb : _ then ignition hb else k.ignition hb ▸ .refl _
  counting := if hb : _ then counting hb else k.counting hb ▸ .refl _
  line := if hb : _ then line hb else k.line hb ▸ .refl _ _
  gauges := if hb : _ then gauges hb else k.gauges hb ▸ .refl _ _
  sound := if hb : _ then sound hb else k.sound hb ▸ .refl _ _
  arbiter := if hb : _ then arbiter hb else k.arbiter hb ▸ .refl _
  served := if hb : _ then arith hb else k.arith hb ▸ id
  store := if hb : _ then store hb else k.store hb ▸ .refl _
  topics := if hb : _ then topics hb else by rw [k.topics hb]
  rules := if hb : _ then rules hb else by rw [k.rules hb]
  display := if hb : _ then display hb else by rw [k.display hb]

end Sys2Proof.Machine
end

section
/-! SUPPORT. The transmit queue, the arithmetic unit, the clock and the gauges keep their bounds: the facts of the units,
and the operations of each unit as `Blocks`. -/
namespace Sys2Proof.Machine
set_option Elab.async false

/-! ### The transmit queue -/

/-- Two messages of one topic, neither started: what the queue never holds. -/
def Msg.Clashes (a b : Msg) : Prop := a.started = false ∧ b.started = false ∧ a.topic = b.topic

theorem queueBounded_iff {q : List Msg} :
    QueueBounded q ↔ q.length ≤ 12 ∧ q.Pairwise fun a b => ¬a.Clashes b := Iff.rfl

theorem queueBounded_eraseIdx {q : List Msg} (h : QueueBounded q) (i : Nat) : QueueBounded (q.eraseIdx i) :=
  ⟨(List.length_eraseIdx_le _ _).trans h.1, h.2.sublist (List.eraseIdx_sublist _ _)⟩

/-- A change of one message that starts no clash. -/
theorem pairwise_modify {q : List Msg} {f : Msg → Msg} (i : Nat)
    (hf : ∀ m, (f m).started = false → m.started = false ∧ (f m).topic = m.topic)
    (h : q.Pairwise fun a b => ¬a.Clashes b) : (q.modify i f).Pairwise fun a b => ¬a.Clashes b := by
  rw [List.pairwise_iff_getElem] at h ⊢
  intro j k hj hk hjk ⟨hsj, hsk, htopic⟩
  have key : ∀ n (hn : n < (q.modify i f).length), ((q.modify i f)[n]).started = false →
      ∃ hn' : n < q.length, q[n].started = false ∧ ((q.modify i f)[n]).topic = q[n].topic := by
    intro n hn hs
    have hn' : n < q.length := by simpa using hn
    refine ⟨hn', ?_⟩
    rw [List.getElem_modify] at hs ⊢
    split at hs
    · rename_i hin
      simpa [hin] using hf _ hs
    · rename_i hin
      simp [hin, hs]
  obtain ⟨hj', hsj', htj⟩ := key j hj hsj
  obtain ⟨hk', hsk', htk⟩ := key k hk hsk
  exact h j k hj' hk' hjk ⟨hsj', hsk', by rw [← htj, ← htk, htopic]⟩

theorem queueBounded_modify {q : List Msg} {f : Msg → Msg} (h : QueueBounded q) (i : Nat)
    (hf : ∀ m, (f m).started = false → m.started = false ∧ (f m).topic = m.topic) : QueueBounded (q.modify i f) :=
  ⟨by simpa using h.1, pairwise_modify i hf h.2⟩

theorem mem_modify {α : Type} {q : List α} {f : α → α} {i : Nat} {x : α} (h : x ∈ q.modify i f) :
    x ∈ q ∨ ∃ y, q[i]? = some y ∧ x = f y := by
  obtain ⟨n, hn, hx⟩ := List.mem_iff_getElem.mp h
  have hn' : n < q.length := by simpa using hn
  rw [List.getElem_modify] at hx
  split at hx
  · rename_i hin
    subst hin
    exact .inr ⟨q[i], by simp [hn'], hx.symm⟩
  · exact .inl (hx ▸ List.getElem_mem _)

theorem inRange_modify {q : List Msg} {f : Msg → Msg} (i : Nat) (h : ∀ m ∈ q, m.InRange)
    (hf : ∀ m, q[i]? = some m → m.InRange → (f m).InRange) : ∀ m ∈ q.modify i f, m.InRange := by
  intro m hm
  rcases mem_modify hm with hm | ⟨y, hy, rfl⟩
  · exact h m hm
  · exact hf y hy (h y (List.mem_of_getElem? hy))

theorem queueBounded_append {q : List Msg} {m : Msg} (h : QueueBounded q) (hlen : q.length < 12)
    (hm : ∀ a ∈ q, ¬a.Clashes m) : QueueBounded (q ++ [m]) := by
  refine ⟨by simpa using hlen, List.pairwise_append.mpr ⟨h.2, List.pairwise_singleton _ _, ?_⟩⟩
  intro a ha b hb
  rw [List.mem_singleton.mp hb]
  exact hm a ha

/-! ### Blocks that a reply or a message touches -/

/-- The line after an operation that only changes its queue and sequence numbers. -/
theorem LineOk.of_queue {x : Ign} {l m : LineStation} (hb : l.InBounds → QueueBounded m.queue ∧ ∀ n ∈ m.queue, n.InRange)
    (hstate : m.state = l.state) (hsent : m.sent = l.sent) (h40 : m.rate40 = l.rate40) (h41 : m.rate41 = l.rate41)
    (hs : m.silence = l.silence) : LineOk x l m where
  bounds h := ⟨(hb h).1, (hb h).2, by rw [hstate, hsent]; exact h.2.2⟩
  rate40 := by rw [h40]
  rate41 := by rw [h41]
  silence h := .inl (by rw [← hs]; exact h)

/-- The line after an operation that leaves its queue: nothing is sent outside SENDING, and the timers stay. -/
theorem LineOk.of_state {x : Ign} {l m : LineStation} (hq : m.queue = l.queue)
    (hsent : (l.state ≠ .sending → l.sent = []) → m.state ≠ .sending → m.sent = [])
    (h40 : m.rate40.isSome = l.rate40.isSome) (h41 : m.rate41.isSome = l.rate41.isSome)
    (hs : m.silence.isSome → l.silence.isSome ∨ x = .run) : LineOk x l m where
  bounds h := by
    obtain ⟨hqueue, hrange, hidle⟩ := h
    exact ⟨hq ▸ hqueue, hq ▸ hrange, hsent hidle⟩
  rate40 := h40
  rate41 := h41
  silence := hs

/-- A message as it enters: not started. -/
structure Msg.Fresh (m : Msg) : Prop where
  range : m.InRange
  started : m.started = false

theorem coalesce_inRange {m n : Msg} (hm : m.InRange) (hn : n.InRange) : (m.coalesce n).InRange :=
  ⟨hm.1, hn.2.1, hm.2.2.1, hm.2.2.2.1, hn.2.2.2.2⟩

theorem placeFull_line {m : Msg} (hm : m.Fresh) (s : State) (hc : s.line.InBounds → ∀ a ∈ s.line.queue, ¬a.Clashes m) :
    LineOk s.ign s.line (s.placeFull m).line := by
  have hdrop : LineOk s.ign s.line s.line.drop := .of_queue (fun h => ⟨h.1, h.2.1⟩) rfl rfl rfl rfl rfl
  have hleft (u : State) (n : Msg) : (u.replyLeft n).line = u.line := (replyLeft_kept u n).line
  unfold State.placeFull
  dsimp only
  split
  · split
    · rename_i i hi
      rw [hleft]
      refine .of_queue (fun h => ?_) rfl rfl rfl rfl rfl
      have hlt : i < s.line.queue.length := (List.findIdx?_eq_some_iff_getElem.mp hi).1
      refine ⟨queueBounded_append (queueBounded_eraseIdx h.1 i) ?_
        (fun a ha => hc h a ((List.eraseIdx_sublist _ _).mem ha)), fun a ha => ?_⟩
      · have := h.1.1
        rw [List.length_eraseIdx_of_lt hlt]
        omega
      · rcases List.mem_append.mp ha with ha | ha
        · exact h.2.1 a ((List.eraseIdx_sublist _ _).mem ha)
        · exact List.mem_singleton.mp ha ▸ hm.range
    · rw [hleft]; exact hdrop
  · rw [hleft]; exact hdrop

theorem placeMsg_line {m : Msg} (hm : m.Fresh) (s : State) : LineOk s.ign s.line (s.placeMsg m).line := by
  unfold State.placeMsg
  dsimp only
  split
  · rename_i i hi
    rw [(busyReplaced_kept _ _ _).line]
    refine .of_queue (fun h => ⟨queueBounded_modify h.1 i fun n hn => ⟨hn, rfl⟩,
      inRange_modify i h.2.1 fun n _ hn => coalesce_inRange hm.range hn⟩) rfl rfl rfl rfl rfl
  · rename_i hnone
    have hc : ∀ a ∈ s.line.queue, ¬a.Clashes m := by
      intro a ha hclash
      have hno := List.findIdx?_eq_none_iff.mp hnone a ha
      obtain ⟨hsa, -, htopic⟩ := hclash
      simp [Msg.unstarted, hsa, htopic] at hno
    split
    · rename_i hlen
      refine .of_queue (fun h => ⟨queueBounded_append h.1 hlen hc, fun a ha => ?_⟩) rfl rfl rfl rfl rfl
      rcases List.mem_append.mp ha with ha | ha
      · exact h.2.1 a ha
      · exact List.mem_singleton.mp ha ▸ hm.range
    · exact placeFull_line hm s fun _ => hc

theorem get_advance_le (q : Sequences) {topic : Nat} (h : topic ∈ [0x40, 0x41, 0x42, 0x43, 0x44, 0x70]) :
    (q.advance topic).get topic ≤ 15 := by
  simp only [List.mem_cons, List.not_mem_nil, or_false] at h
  rcases h with rfl | rfl | rfl | rfl | rfl | rfl <;> simp only [Sequences.advance, Sequences.get] <;> omega

theorem queue_blocks (s : State) {topic cls : Nat} (kind : MsgKind) {data : List Byte} (answer : Answer)
    (ht : topic ∈ [0x40, 0x41, 0x42, 0x43, 0x44, 0x70] := by decide) (hc : cls ≤ 3 := by decide)
    (hd : data.length ≤ 8) : Blocks s (s.queue topic cls kind data answer) := by
  refine .of (queue_kept s topic cls kind data answer) (line := fun _ => ?_)
  have hseqs : LineOk s.ign s.line { s.line with seqs := s.line.seqs.advance topic } :=
    .of_queue (fun h => ⟨h.1, h.2.1⟩) rfl rfl rfl rfl rfl
  have hnew : Msg.Fresh (.entered cls kind topic ((s.line.seqs.advance topic).get topic) data answer) :=
    ⟨⟨hc, ht, get_advance_le _ ht, hd, Nat.zero_le _, Nat.zero_le _⟩, rfl⟩
  exact hseqs.trans (placeMsg_line hnew (s.setLine { s.line with seqs := s.line.seqs.advance topic }))

theorem returnStatus_blocks (s : State) (x : Status) {r : List Byte} (h : r.length ≤ 6) : Blocks s (s.returnStatus x r) :=
  .trans (.of (setHandler_kept s _)) (queue_blocks _ _ _ (hd := by simp; omega))

theorem answerBusy_blocks (s : State) (topic : Nat) : Blocks s (s.answerBusy topic) :=
  .ite (.of (unanswer_kept s)) (queue_blocks _ _ _ (hd := by simp))

theorem summary_length (s : State) : s.summary.length = 6 := by unfold State.summary; dsimp only; split <;> rfl

theorem queueSummary_blocks (s : State) : Blocks s s.queueSummary :=
  queue_blocks _ _ _ (hc := by split <;> decide) (hd := by rw [summary_length]; decide)

theorem queueCascade_blocks (s : State) : Blocks s s.queueCascade := queue_blocks _ _ _ (hd := by simp)

theorem queueSpeed_blocks (s : State) : Blocks s s.queueSpeed := queue_blocks _ _ _ (hd := by simp)

theorem queueOdometer_blocks (s : State) : Blocks s s.queueOdometer := queue_blocks _ _ _ (hd := by simp)

theorem rearPageDue_blocks (s : State) : Blocks s s.rearPageDue :=
  .ite (queue_blocks _ _ _ (hd := by simp [State.rearPage])) (.refl s)

theorem departSending_blocks (s : State) : Blocks s s.departSending := by
  refine .of (departSending_kept s) (line := fun _ => ?_)
  unfold State.departSending
  split
  · split
    · rw [(replyLeft_kept _ _).line]
      exact .of_queue (fun h => ⟨queueBounded_eraseIdx h.1 _, fun m hm => h.2.1 m ((List.eraseIdx_sublist _ _).mem hm)⟩)
        rfl rfl rfl rfl rfl
    · exact .refl _ _
  · exact .refl _ _

theorem setLine_blocks {s : State} {l : LineStation} (h : LineOk s.ign s.line l) : Blocks s (s.setLine l) :=
  .of (setLine_kept s l) (line := fun _ => h)

theorem messageSent_blocks (s : State) : Blocks s s.messageSent := by
  unfold State.messageSent
  exact .ite (.trans (departSending_blocks s) (setLine_blocks (.of_state rfl (fun _ _ => rfl) rfl rfl .inl))) (.refl s)

theorem staggerOf_le (a b : Nat) : staggerOf a b ≤ 5 := by unfold staggerOf; omega

theorem clashMessage_blocks (s : State) : Blocks s s.clashMessage := by
  refine .of (clashMessage_kept s) (line := fun _ => ?_)
  unfold State.clashMessage
  split
  · split
    · split
      · rw [(replyLeft_kept _ _).line]
        exact .of_queue (fun h => ⟨queueBounded_eraseIdx h.1 _, fun m hm => h.2.1 m ((List.eraseIdx_sublist _ _).mem hm)⟩)
          rfl rfl rfl rfl rfl
      · rename_i i _ m hm hattempts
        refine .of_queue (fun h => ⟨queueBounded_modify h.1 _ fun n hn => ⟨hn, rfl⟩,
          inRange_modify _ h.2.1 fun n hn hr => ?_⟩) rfl rfl rfl rfl rfl
        obtain ⟨hcls, htopic, hseq, hdata, -, -⟩ := hr
        rw [hm] at hn
        injection hn with hn
        refine ⟨hcls, htopic, hseq, hdata, ?_, staggerOf_le _ _⟩
        have : n.attempts + 1 < 16 := hn ▸ Nat.lt_of_not_le hattempts
        show n.attempts + 1 ≤ 15
        omega
    · exact .refl _ _
  · exact .refl _ _

theorem clash_blocks (s : State) (first : Bool) : Blocks s (s.clash first) := by
  unfold State.clash
  refine .ite (.trans (clashMessage_blocks s) (setLine_blocks ?_)) (.refl s)
  split <;> exact .of_state rfl (fun _ _ => rfl) rfl rfl .inl

theorem startSending_ok (x : Ign) (l : LineStation) (station : Nat) : LineOk x l (l.startSending station) := by
  unfold LineStation.startSending
  split
  · refine ⟨fun h => ⟨queueBounded_modify h.1 _ fun m hm => Bool.noConfusion hm,
      inRange_modify _ h.2.1 fun m _ hm => hm, fun hne => absurd rfl hne⟩, rfl, rfl, .inl⟩
  · exact .refl _ _

/-! ### Line events -/

section
variable (x : Ign) (l : LineStation)

theorem initQuiet_ok : LineOk x l l.initQuiet := by
  unfold LineStation.initQuiet
  split
  · rename_i h
    exact .of_state rfl (fun k _ => k (by rw [h]; decide)) rfl rfl .inl
  · exact .refl _ _

theorem breakHeard_ok : LineOk x l l.breakHeard := by
  unfold LineStation.breakHeard
  split
  · exact .of_state rfl id rfl rfl .inl
  · exact .refl _ _

theorem breakEnd_ok (still : Bool) : LineOk x l (l.breakEnd still) := by
  unfold LineStation.breakEnd
  split
  · rename_i h
    split <;> exact .of_state rfl (fun k _ => k (by rw [h]; decide)) rfl rfl .inl
  · exact .refl _ _

theorem goStuck_ok : LineOk x l l.goStuck := by
  unfold LineStation.goStuck
  split
  all_goals
    rename_i h
    first
    | exact .refl _ _
    | exact .of_state rfl (fun k _ => k (by rw [h]; decide)) rfl rfl .inl

theorem release_ok : LineOk x l l.release := by
  unfold LineStation.release
  dsimp only
  split
  · rename_i h
    exact .of_state rfl (fun k _ => k (by rw [h]; decide)) rfl rfl .inl
  all_goals exact .of_state rfl id rfl rfl .inl

theorem releaseAfterBreak_ok : LineOk x l l.releaseAfterBreak := by
  unfold LineStation.releaseAfterBreak
  split
  · rename_i h
    exact .of_state rfl (fun k _ => k (by rw [h.1]; decide)) rfl rfl .inl
  · exact .refl _ _

theorem drive_ok : LineOk x l l.drive := by
  unfold LineStation.drive
  dsimp only
  split
  · rename_i h
    exact .of_state rfl (fun k _ => k (by rw [h]; decide)) rfl rfl .inl
  all_goals exact .of_state rfl id rfl rfl .inl

end

end Sys2Proof.Machine
end

section
/-! SUPPORT. The operations of the counting unit, the arithmetic unit, the trip computer, the gauges and the store as
`Blocks`: none of them reaches the warning arbiter. -/
namespace Sys2Proof.Machine
set_option Elab.async false

/-! ### The request list -/

theorem outstanding_eq_false_iff {a : Arith} {t : Target} :
    a.outstanding t = false ↔ t ∉ a.requests.map (·.target) := by
  unfold Arith.outstanding Arith.requests
  rw [Bool.or_eq_false_iff, List.map_append, List.mem_append, not_or, and_comm]
  refine and_congr ?_ ?_
  · cases a.inFlight with
    | none => simp
    | some r => simp [eq_comm (a := t)]
  · simp

/-- The arbiter's choice: a request that stands where it says. -/
theorem nextRequest_lt {l : List Request} {i : Nat} (h : nextRequest l = some i) : i < l.length := by
  obtain ⟨k, -, hk⟩ := List.exists_of_findSome?_eq_some h
  exact (List.findIdx?_eq_some_iff_getElem.mp hk).1

theorem rank_le_three (t : Target) : t.rank ≤ 3 := by cases t <;> simp [Target.rank]

theorem nextRequest_isSome {l : List Request} (h : l ≠ []) : (nextRequest l).isSome = true := by
  obtain ⟨r, l', rfl⟩ := List.exists_cons_of_ne_nil h
  unfold nextRequest
  rw [List.findSome?_isSome_iff]
  refine ⟨r.target.rank, List.mem_range.mpr (Nat.lt_succ_of_le (rank_le_three _)), ?_⟩
  rw [List.findIdx?_isSome]
  simp

theorem handOver_of_some {a : Arith} (h : a.inFlight.isSome = true) : a.handOver = a := by
  unfold Arith.handOver
  rw [if_pos h]

/-- Handing over leaves the unit busy while requests wait, and takes none away. -/
theorem handOver_served {a : Arith} (h : (a.requests.map (·.target)).Nodup) : a.handOver.Served := by
  unfold Arith.handOver
  split
  · rename_i hs
    exact ⟨h, fun hn => by rw [hn] at hs; cases hs⟩
  · rename_i hs
    have hnone : a.inFlight = none := Option.not_isSome_iff_eq_none.mp hs
    split
    · rename_i i hi
      have hlt := nextRequest_lt hi
      have hperm : (a.list[i] :: a.list.eraseIdx i).Perm a.list := List.getElem_cons_eraseIdx_perm hlt
      have hget : a.list[i]? = some a.list[i] := List.getElem?_eq_getElem hlt
      refine ⟨?_, fun hn => ?_⟩
      · show ((a.list[i]?.toList ++ a.list.eraseIdx i).map (·.target)).Nodup
        rw [hget]
        refine ((hperm.map _).nodup_iff).mpr ?_
        simpa [Arith.requests, hnone] using h
      · have hn' : a.list[i]? = none := hn
        rw [hget] at hn'
        cases hn'
    · rename_i hi
      refine ⟨h, fun _ => ?_⟩
      by_contra hl
      have := nextRequest_isSome hl
      rw [hi] at this
      cases this

theorem issue_served {a : Arith} {r : Request} (ho : a.outstanding r.target = false) (h : a.Served) :
    ({ a with list := a.list ++ [r] }.handOver).Served := by
  refine handOver_served ?_
  have hnew := outstanding_eq_false_iff.mp ho
  obtain ⟨hnodup, -⟩ := h
  show ((a.inFlight.toList ++ (a.list ++ [r])).map (·.target)).Nodup
  rw [← List.append_assoc, List.map_append]
  refine List.nodup_append.mpr ⟨hnodup, by simp, ?_⟩
  intro t ht u hu htu
  rw [List.mem_map] at hu
  obtain ⟨q, hq, rfl⟩ := hu
  rw [List.mem_singleton.mp hq] at htu
  exact hnew (htu ▸ ht)

theorem issue_blocks {s : State} {r : Request} (h : s.arith.outstanding r.target = false) : Blocks s (s.issue r) :=
  .of (issue_kept s r) (arith := fun _ => issue_served h)

theorem clearReturn_requests (a : Arith) : a.clearReturn.requests.map (·.target) = a.requests.map (·.target) := by
  have hone : ∀ r : Request, (if r.target = Target.fuel then { r with afterReturn := false } else r).target = r.target := by
    intro r
    split <;> rfl
  unfold Arith.clearReturn Arith.requests
  simp only [List.map_append, List.map_map]
  congr 1
  · cases a.inFlight with
    | none => rfl
    | some r => simp [hone]
  · exact List.map_congr_left fun r _ => hone r

theorem clearReturn_served {a : Arith} (h : a.Served) : a.clearReturn.Served := by
  refine ⟨clearReturn_requests a ▸ h.1, fun hn => ?_⟩
  have hin : a.inFlight = none := by
    cases hi : a.inFlight with
    | none => rfl
    | some r => simp [Arith.clearReturn, hi] at hn
  simp [Arith.clearReturn, h.2 hin]

/-! ### The counting unit -/

theorem CountingOk.of_clock {c d : Counting} (hours : d.hours = c.hours) (minutes : d.minutes = c.minutes)
    (seconds : d.seconds = c.seconds) (days : d.dayCount = c.dayCount) (held : d.heldDays = c.heldDays)
    (window : d.windowTimer.isSome = c.windowTimer.isSome) : CountingOk c d :=
  ⟨fun h => by unfold ClockInRange at h ⊢; rw [hours, minutes, seconds, days, held]; exact h, window⟩

theorem setCounting_blocks {s : State} {c : Counting} (h : CountingOk s.counting c) : Blocks s (s.setCounting c) :=
  .of (setCounting_kept s c) (counting := fun _ => h)

theorem second_ok (c : Counting) : CountingOk c c.second.1 := by
  unfold Counting.second
  split
  · exact ⟨fun h => by unfold ClockInRange at *; dsimp only; omega, rfl⟩
  · split
    · exact ⟨fun h => by unfold ClockInRange at *; dsimp only; omega, rfl⟩
    · split
      · exact ⟨fun h => by unfold ClockInRange at *; dsimp only; omega, rfl⟩
      · exact ⟨fun h => by unfold ClockInRange satAdd at *; dsimp only; omega, rfl⟩

theorem endSetting_ok (c : Counting) : CountingOk c c.endSetting := by
  unfold Counting.endSetting
  split
  · exact .refl c
  · exact ⟨fun h => by unfold ClockInRange at *; dsimp only; omega, rfl⟩

theorem settingMode_ok (c : Counting) : CountingOk c c.settingMode := by
  unfold Counting.settingMode
  split
  · exact .refl c
  · exact ⟨fun h => by unfold ClockInRange at *; dsimp only; split <;> omega, rfl⟩
  · exact ⟨fun h => by unfold ClockInRange at *; dsimp only; split <;> omega, rfl⟩

theorem settingSet_ok (c : Counting) : CountingOk c c.settingSet := by
  unfold Counting.settingSet
  split
  · exact .refl c
  · exact .of_clock rfl rfl rfl rfl rfl rfl
  · exact endSetting_ok c

theorem restartIdle_ok (c : Counting) : CountingOk c c.restartIdle := by
  unfold Counting.restartIdle
  split
  · exact .refl c
  · exact .of_clock rfl rfl rfl rfl rfl rfl

theorem takeRaw_ok (c : Counting) (y : Nat) (b : Bool) : CountingOk c (c.takeRaw y b) := by
  unfold Counting.takeRaw
  split <;> exact .of_clock rfl rfl rfl rfl rfl rfl

theorem turnFreshness_ok (c : Counting) : CountingOk c c.turnFreshness := by
  unfold Counting.turnFreshness
  split
  · exact .refl c
  · split <;> exact .of_clock rfl rfl rfl rfl rfl rfl

/-! ### The store -/

theorem setStore_blocks {s : State} {st : Store} (h : StoreReach s.store st) : Blocks s (s.setStore st) :=
  .of (setStore_kept s st) (store := fun _ => h)

theorem update_blocks (s : State) (b : Nat) (f) : Blocks s (s.update b f) := setStore_blocks (move_update _ _ _)

theorem settleStore_blocks (s : State) : Blocks s s.settleStore := by
  have hmove := (settle_spec settleFuel s.store).move.reach
  unfold State.settleStore
  split
  · rename_i heq
    rw [heq] at hmove
    exact .trans (setStore_blocks hmove) (returnStatus_blocks _ _ (by decide))
  · rename_i heq
    rw [heq] at hmove
    exact setStore_blocks hmove

theorem onTrips_blocks {f : State → TripRecord → State} (h : ∀ s r, Blocks s (f s r)) (s : State) :
    Blocks s (s.onTrips f) := .trans (.trans (h _ _) (h _ _)) (h _ _)

theorem addDistance_blocks (s : State) (r : TripRecord) (d : Nat) : Blocks s (s.addDistance r d) := by
  cases r with
  | journey => exact .of (setTrip_kept s _)
  | _ => exact update_blocks _ _ _

theorem addFuel_blocks (s : State) (r : TripRecord) (d : Nat) : Blocks s (s.addFuel r d) := by
  cases r with
  | journey => exact .of (setTrip_kept s _)
  | _ => exact update_blocks _ _ _

theorem addTime_blocks (s : State) (r : TripRecord) (d : Nat) : Blocks s (s.addTime r d) := by
  cases r with
  | journey => exact .of (setTrip_kept s _)
  | _ => exact update_blocks _ _ _

theorem setEconomy_blocks (s : State) (r : TripRecord) (x : Result) : Blocks s (s.setEconomy r x) := by
  cases r with
  | journey => exact .of (setTrip_kept s _)
  | _ => exact .trans (update_blocks _ _ _) (.of (setFreeIndex_kept _ _))

theorem setAverage_blocks (s : State) (r : TripRecord) (x : Result) : Blocks s (s.setAverage r x) := by
  cases r with
  | journey => exact .of (setTrip_kept s _)
  | _ => exact .trans (update_blocks _ _ _) (.of (setFreeIndex_kept _ _))

theorem resetTrip_blocks (s : State) (r : TripRecord) : Blocks s (s.resetTrip r) := by
  cases r with
  | journey => exact .refl s
  | _ => exact .trans (update_blocks _ _ _) (.of (setFreeIndex_kept _ _))

theorem gainOdometer_blocks (s : State) : Blocks s s.gainOdometer := by
  unfold State.gainOdometer
  have hck (u : State) (n : Nat) : Blocks u (u.setCounting { u.counting with checkpoint := n }) :=
    setCounting_blocks (.of_clock rfl rfl rfl rfl rfl rfl)
  refine .ite (update_blocks _ _ _) (.ite ?_ ?_)
  · exact .trans (.trans (update_blocks s 0 _) (setStore_blocks (move_writeback _ _ _))) (hck _ _)
  · exact .trans (update_blocks s 0 _) (hck _ _)

/-! ### Windows, fuel and results -/

theorem closeWindow_blocks {s : State} (h : s.counting.windowTimer.isSome = true) : Blocks s s.closeWindow := by
  unfold State.closeWindow
  dsimp only
  have hclose : Blocks s (s.setCounting { s.counting with
      closedCount := s.counting.openCount, openCount := 0, hasClosed := true, windowTimer := some 50 }) :=
    setCounting_blocks (.of_clock rfl rfl rfl rfl rfl h.symm)
  split
  · exact hclose
  · split
    · exact .trans hclose (setCounting_blocks (.of_clock rfl rfl rfl rfl rfl rfl))
    · rename_i ho
      exact .trans hclose (issue_blocks (Bool.eq_false_iff.mpr ho))

theorem fuelArrival_blocks (s : State) : Blocks s s.fuelArrival := by
  unfold State.fuelArrival
  split
  · exact setCounting_blocks (.of_clock rfl rfl rfl rfl rfl rfl)
  · split
    · exact setCounting_blocks (.of_clock rfl rfl rfl rfl rfl rfl)
    · dsimp only
      split
      · exact setCounting_blocks (.of_clock rfl rfl rfl rfl rfl rfl)
      · refine .trans (onTrips_blocks (fun _ _ => addFuel_blocks _ _ _) s) (setCounting_blocks ?_)
        rw [(onTrips_kept (fun s r => addFuel_kept s r _) s).counting]
        exact .of_clock rfl rfl rfl rfl rfl rfl

theorem beginReturn_blocks (s : State) : Blocks s s.beginReturn :=
  .after (t := s.setCounting { s.counting with returnPending := true, fuel := none, latestRaw := none })
    (.of (setArith_kept _ _) (arith := fun _ => clearReturn_served)) (setCounting_blocks (.of_clock rfl rfl rfl rfl rfl rfl))

theorem tankLost_blocks (s : State) : Blocks s s.tankLost :=
  .trans (beginReturn_blocks s) (setCounting_blocks (.of_clock rfl rfl rfl rfl rfl rfl))

theorem evaluateTank_blocks {s : State} (v : Nat) {busy : Bool} (h : busy = false → s.arith.outstanding .fuel = false) :
    Blocks s (s.evaluateTank v busy) := by
  unfold State.evaluateTank
  split
  · exact setCounting_blocks (takeRaw_ok _ _ _)
  · split
    · exact .refl s
    · rename_i hb
      exact .after (issue_blocks (h (Bool.eq_false_iff.mpr hb))) (setCounting_blocks (.of_clock rfl rfl rfl rfl rfl rfl))

theorem tankArrival_blocks (s : State) : Blocks s s.tankArrival := by
  unfold State.tankArrival
  split
  · exact beginReturn_blocks s
  · dsimp only
    have hkept (v : Nat) : Blocks s (s.setCounting { s.counting with keptRaw := some v, latestRaw := some v }) :=
      setCounting_blocks (.of_clock rfl rfl rfl rfl rfl rfl)
    exact .ite (.trans (hkept _) (evaluateTank_blocks _ id)) (hkept _)

theorem filterFuel_ok (s : State) : CountingOk s.counting s.filterFuel.counting := by
  unfold State.filterFuel
  dsimp only
  split
  · split
    · split <;> exact .of_clock rfl rfl rfl rfl rfl rfl
    · exact .of_clock rfl rfl rfl rfl rfl rfl
  · exact .of_clock rfl rfl rfl rfl rfl rfl

theorem filterFuel_blocks (s : State) : Blocks s s.filterFuel := .of (filterFuel_kept s) (counting := fun _ => filterFuel_ok s)

theorem turnArrival_blocks (s : State) : Blocks s s.turnArrival :=
  .ite (setCounting_blocks (.of_clock rfl rfl rfl rfl rfl rfl)) (.refl s)

theorem passTarget_blocks {s : State} (t : Target) {r : Option Request} {clear : State → State}
    (ht : ∀ q, r = some q → q.target = t) (hc : Blocks s (clear s)) : Blocks s (s.passTarget t r clear) := by
  unfold State.passTarget
  split
  · exact .refl s
  · rename_i ho
    split
    · rename_i q
      exact issue_blocks (ht q rfl ▸ Bool.eq_false_iff.mpr ho)
    · exact hc

theorem economyRequest_target {r : TripRecord} {v : TripView} {q : Request} (h : economyRequest r v = some q) :
    q.target = .economy r := by
  unfold economyRequest at h
  split at h
  · injection h with h; rw [← h]; rfl
  · cases h

theorem averageRequest_target {r : TripRecord} {v : TripView} {q : Request} (h : averageRequest r v = some q) :
    q.target = .average r := by
  unfold averageRequest at h
  split at h
  · injection h with h; rw [← h]; rfl
  · cases h

theorem instRequest_target {s : State} {q : Request} (h : s.instRequest = some q) : q.target = .inst := by
  unfold State.instRequest at h
  split at h
  · injection h with h; rw [← h]; rfl
  · cases h

theorem rangeRequest_target {s : State} {q : Request} (h : s.rangeRequest = some q) : q.target = .range := by
  obtain ⟨f, -, rfl⟩ := Option.map_eq_some_iff.mp h
  rfl

theorem passRecord_blocks (snapshot s : State) (r : TripRecord) : Blocks s (snapshot.passRecord s r) := by
  unfold State.passRecord
  dsimp only
  refine .after (passTarget_blocks _ (fun _ h => averageRequest_target h) ?_)
    (passTarget_blocks _ (fun _ h => economyRequest_target h) ?_)
  · exact .ite (.refl _) (setAverage_blocks _ _ _)
  · exact .ite (.refl _) (setEconomy_blocks _ _ _)

theorem tripPass_blocks (s : State) : Blocks s s.tripPass := by
  unfold State.tripPass
  dsimp only
  refine .after (passTarget_blocks _ (fun _ h => rangeRequest_target h) (.of (setTrip_kept _ _)))
    (.after (passTarget_blocks _ (fun _ h => instRequest_target h) (.of (setTrip_kept _ _)))
      (.after (onTrips_blocks (fun _ _ => passRecord_blocks _ _ _) _) ?_))
  exact setCounting_blocks (.of_clock rfl rfl rfl rfl rfl rfl)

/-! ### The gauges -/

theorem GaugesOk.of_all {x : Ign} {u v : Gauges} (hg : (∀ g ∈ u.gauges, g.InRange) → ∀ g ∈ v.gauges, g.InRange)
    (timer : v.timer = u.timer) (sweep : v.sweep.isSome → u.sweep.isSome ∨ x = .run) : GaugesOk x u v :=
  ⟨hg, by rw [timer], sweep⟩

theorem inRange_map {l : List Gauge} {f : Gauge → Gauge} (hf : ∀ g, g.InRange → (f g).InRange) (h : ∀ g ∈ l, g.InRange) :
    ∀ g ∈ l.map f, g.InRange := by
  intro g hg
  obtain ⟨y, hy, rfl⟩ := List.mem_map.mp hg
  exact hf y (h y hy)

theorem setGauges_blocks {s : State} {u : Gauges} (h : GaugesOk s.ign s.gauges u) : Blocks s (s.setGauges u) :=
  .of (setGauges_kept s u) (gauges := fun _ => h)

theorem modifyGauge_blocks (s : State) (i : Nat) {f : Gauge → Gauge} (hf : ∀ g, g.InRange → (f g).InRange) :
    Blocks s (s.modifyGauge i f) := by
  refine setGauges_blocks (.of_all (fun h g hg => ?_) rfl .inl)
  rcases mem_modify hg with hg | ⟨y, hy, rfl⟩
  · exact h g hg
  · exact hf y (h y (List.mem_of_getElem? hy))

theorem setTarget_inRange (y : Nat) {g : Gauge} (h : g.InRange) : (g.setTarget y).InRange :=
  ⟨Nat.min_le_left _ _, h.2⟩

theorem rest_inRange {g : Gauge} (h : g.InRange) : g.rest.InRange := by
  unfold Gauge.rest
  split
  · exact h
  · exact ⟨Nat.zero_le _, h.2⟩

theorem follow_inRange (r : Option Reading) {g : Gauge} (h : g.InRange) : (g.follow r).InRange := by
  unfold Gauge.follow
  split
  · exact h
  · exact h
  · exact rest_inRange h

theorem notice_inRange {g : Gauge} (h : g.InRange) : g.notice.InRange := by
  unfold Gauge.notice
  split
  · exact rest_inRange h
  · exact rest_inRange h
  all_goals exact h

theorem deliver_inRange (y : Nat) {g : Gauge} (h : g.InRange) : (g.deliver y).InRange := by
  unfold Gauge.deliver
  split
  · exact setTarget_inRange y h
  · exact setTarget_inRange y h
  all_goals exact h

theorem slewStep_le {limit goal a n : Nat} (hg : goal ≤ n) (ha : a ≤ n) : slewStep limit goal a ≤ n := by
  unfold slewStep
  split
  · exact hg
  · split <;> omega

theorem approach_inRange (f : GaugeFigures) {g : Gauge} (h : g.InRange) : (g.approach f).InRange := by
  obtain ⟨htarget, hfiltered, hcommanded⟩ := h
  have hdamp : dampingStep f.shift g.target g.filtered ≤ 12272 := dampingStep_le_max.trans (by omega)
  exact ⟨htarget, hdamp, slewStep_le (by show (_ + 8) / 16 ≤ 767; omega) hcommanded⟩

theorem park_inRange (f : GaugeFigures) {g : Gauge} (h : g.InRange) : (g.park f).InRange := by
  unfold Gauge.park
  split
  · exact h
  · have hslew : slewStep f.slew 0 g.commanded ≤ 767 := slewStep_le (Nat.zero_le _) h.2.2
    exact ⟨h.1, by show 16 * _ ≤ 12272; omega, hslew⟩

theorem sweepAngle_le (p : Nat) : sweepAngle p ≤ 767 := by unfold sweepAngle; split <;> omega

theorem evaluateGauge_blocks {s : State} {i : Nat} (v : Int) (h : s.arith.outstanding (.gauge i) = false) :
    Blocks s (s.evaluateGauge i v) := by
  unfold State.evaluateGauge
  split
  · exact modifyGauge_blocks s i fun g hg => setTarget_inRange _ (g := { g with evaluated := some v.toNat }) hg
  · exact .after (issue_blocks h) (modifyGauge_blocks s i fun g hg => hg)

theorem gaugeAsks_outstanding {s : State} {i : Nat} {r : Reading} (h : s.gaugeAsks i r = true) :
    s.arith.outstanding (.gauge i) = false := by
  unfold State.gaugeAsks at h
  rw [Bool.and_eq_true, Bool.not_eq_true'] at h
  exact h.1

theorem trackGauge_blocks (s : State) (i : Nat) : Blocks s (s.trackGauge i) := by
  unfold State.trackGauge
  dsimp only
  refine .trans ?_ (modifyGauge_blocks _ i fun g => approach_inRange _)
  refine .trans (modifyGauge_blocks s i fun g => follow_inRange (s.gaugeInput i)) ?_
  split
  · split
    · rename_i h
      exact evaluateGauge_blocks _ (gaugeAsks_outstanding h)
    · exact .refl _
  · exact .refl _

theorem updateGauge_blocks (s : State) (i : Nat) : Blocks s (s.updateGauge i) := by
  unfold State.updateGauge
  split
  · exact modifyGauge_blocks s i fun g => park_inRange _
  · exact .refl s
  all_goals exact trackGauge_blocks s i

theorem updateGauges_blocks (s : State) : Blocks s s.updateGauges := .foldl updateGauge_blocks _ s

theorem tellTest_blocks (s : State) (x : Status) : Blocks s (s.tellTest x) :=
  .ite (.after (returnStatus_blocks _ _ (Nat.zero_le _)) (setGauges_blocks (.of_all id rfl .inl))) (.refl s)

theorem endSweep_blocks (s : State) : Blocks s s.endSweep := by
  unfold State.endSweep
  refine .after (tellTest_blocks _ _) (setGauges_blocks (.of_all (fun h g hg => ?_) rfl nofun))
  obtain ⟨i, hi, rfl⟩ := List.mem_mapIdx.mp hg
  exact follow_inRange _ ⟨Nat.zero_le _, Nat.zero_le _, Nat.zero_le _⟩

theorem sweepStep_blocks (s : State) : Blocks s s.sweepStep := by
  unfold State.sweepStep
  split
  · rename_i p hp
    refine .ite (endSweep_blocks s) (setGauges_blocks (.of_all (inRange_map fun g hg => ?_) rfl fun _ => ?_))
    · have := sweepAngle_le (p + 1)
      exact ⟨hg.1, by show 16 * _ ≤ 12272; omega, this⟩
    · rw [hp]
      exact .inl rfl
  · exact .refl s

theorem startSweep_inRange (l : List Gauge) : ∀ g ∈ l.map Gauge.startSweep, g.InRange := by
  intro g hg
  obtain ⟨y, -, rfl⟩ := List.mem_map.mp hg
  exact ⟨Nat.zero_le _, Nat.zero_le _, Nat.zero_le _⟩

theorem test_ok {x : Ign} (h : x = .run) (u : Gauges) : GaugesOk x u u.test := by
  unfold Gauges.test
  split
  · exact .of_all id rfl .inl
  · exact .of_all (fun _ => startSweep_inRange _) rfl fun _ => .inr h

theorem requestGaugeTest_blocks (s : State) : Blocks s s.requestGaugeTest := by
  unfold State.requestGaugeTest
  split
  · rename_i h
    rw [Bool.and_eq_true, decide_eq_true_eq] at h
    exact setGauges_blocks (test_ok h.1 _)
  · exact returnStatus_blocks _ _ (by decide)

theorem gaugesLoseEngine_blocks (s : State) : Blocks s s.gaugesLoseEngine :=
  .trans (.trans (modifyGauge_blocks _ _ fun _ => notice_inRange) (modifyGauge_blocks _ _ fun _ => notice_inRange))
    (modifyGauge_blocks _ _ fun _ => notice_inRange)

theorem gaugesLoseBody_blocks (s : State) : Blocks s s.gaugesLoseBody := modifyGauge_blocks _ _ fun _ => notice_inRange

theorem parkGauges_blocks (s : State) : Blocks s s.parkGauges := by
  unfold State.parkGauges
  refine .after (tellTest_blocks _ _) (setGauges_blocks (.of_all (inRange_map fun g hg => ?_) rfl nofun))
  exact ⟨Nat.zero_le _, hg.2⟩

/-! ### Completions -/

/-- The unit while its result is delivered: the operation in flight is still there, and no target waits twice. -/
structure Arith.Delivers (a b : Arith) (t : Target) : Prop where
  inFlight : b.inFlight = a.inFlight
  list : b.list = a.list ∨ ∃ q : Request, q.target = t ∧ b.list = a.list ++ [q]

theorem issue_delivers {s : State} {r : Request} (h : s.arith.inFlight.isSome = true) :
    s.arith.Delivers (s.issue r).arith r.target := by
  have heq : (s.issue r).arith = { s.arith with list := s.arith.list ++ [r] } := handOver_of_some h
  exact ⟨by rw [heq], .inr ⟨r, rfl, by rw [heq]⟩⟩

theorem delivers_of_eq {a b : Arith} {t : Target} (h : b.list = a.list) (k : b.inFlight = a.inFlight) : a.Delivers b t :=
  ⟨k, .inl h⟩

theorem takeSpeed_delivers {s : State} (h : s.arith.inFlight.isSome = true) (x : Result) :
    s.arith.Delivers (s.takeSpeed x).arith .speed := by
  unfold State.takeSpeed
  dsimp only
  split
  · exact issue_delivers (s := s.setCounting _) h
  · exact delivers_of_eq rfl rfl

theorem takeFuel_delivers {s : State} (h : s.arith.inFlight.isSome = true) (y : Nat) (b : Bool) :
    s.arith.Delivers (s.takeFuel y b).arith .fuel := by
  unfold State.takeFuel
  dsimp only
  split
  · split
    · exact delivers_of_eq rfl rfl
    · unfold State.evaluateTank
      split
      · exact delivers_of_eq rfl rfl
      · rw [if_neg Bool.false_ne_true]
        exact issue_delivers (s := (s.setCounting _).setCounting _) h
  · exact delivers_of_eq rfl rfl

theorem takeRecord_delivers {s : State} (r : TripRecord) (g : Nat) {write : State → State} (t : Target)
    (h : (write s).arith = s.arith) : s.arith.Delivers (s.takeRecord r g write).arith t := by
  unfold State.takeRecord
  split
  · rw [h]
    exact delivers_of_eq rfl rfl
  · exact delivers_of_eq rfl rfl

theorem deliver_delivers {s : State} {r : Request} (h : s.arith.inFlight.isSome = true) :
    s.arith.Delivers (s.deliver r).arith r.target := by
  unfold State.deliver
  split <;> rename_i htarget <;> rw [htarget]
  · exact delivers_of_eq rfl rfl
  · exact takeSpeed_delivers h _
  · exact takeFuel_delivers h _ _
  · exact takeRecord_delivers _ _ _ ((setEconomy_kept _ _ _).arith)
  · exact takeRecord_delivers _ _ _ ((setAverage_kept _ _ _).arith)
  · exact delivers_of_eq rfl rfl
  · exact delivers_of_eq rfl rfl

/-- A completion: the target delivered to may be asked for again, and the unit is handed over. -/
theorem complete_served {s : State} (h : s.arith.Served) : s.complete.arith.Served := by
  unfold State.complete
  split
  · rename_i r hr
    obtain ⟨hin, hlist⟩ := deliver_delivers (r := r) (by rw [hr]; rfl : s.arith.inFlight.isSome = true)
    refine handOver_served ?_
    have hnodup : ((r :: s.arith.list).map (·.target)).Nodup := by
      have := h.1
      unfold Arith.requests at this
      rwa [hr] at this
    obtain ⟨hnot, hrest⟩ := List.nodup_cons.mp hnodup
    show ((s.deliver r).arith.list.map (·.target)).Nodup
    rcases hlist with hlist | ⟨q, hq, hlist⟩
    · rw [hlist]; exact hrest
    · rw [hlist, List.map_append]
      refine List.nodup_append.mpr ⟨hrest, by simp, ?_⟩
      intro t ht u hu htu
      simp only [List.map_cons, List.map_nil, List.mem_singleton] at hu
      exact hnot (List.mem_map.mp ht |>.elim fun r' hr' => List.mem_map.mpr ⟨r', hr'.1, by rw [hr'.2, htu, hu, hq]⟩)
  · exact h

theorem takeSpeed_counting (s : State) (x : Result) : CountingOk s.counting (s.takeSpeed x).counting := by
  unfold State.takeSpeed
  dsimp only
  split <;> exact .of_clock rfl rfl rfl rfl rfl rfl

theorem evaluateTank_counting (s : State) (v : Nat) (b : Bool) : CountingOk s.counting (s.evaluateTank v b).counting := by
  unfold State.evaluateTank
  split
  · exact takeRaw_ok _ _ _
  · split
    · exact .refl _
    · exact .of_clock rfl rfl rfl rfl rfl rfl

theorem takeFuel_counting (s : State) (y : Nat) (b : Bool) : CountingOk s.counting (s.takeFuel y b).counting := by
  unfold State.takeFuel
  dsimp only
  split
  · split
    · exact takeRaw_ok _ _ _
    · exact .trans (takeRaw_ok _ y b) (evaluateTank_counting (s.setCounting _) _ _)
  · exact takeRaw_ok _ _ _

/-- What a delivery does to the blocks besides the request list. -/
structure Delivery (s t : State) : Prop where
  counting : CountingOk s.counting t.counting
  gauges : GaugesOk s.ign s.gauges t.gauges
  store : StoreReach s.store t.store

theorem Delivery.of_blocks {s t : State} (h : Blocks s t) : Delivery s t := ⟨h.counting, h.gauges, h.store⟩

theorem takeRecord_delivery {s : State} (r : TripRecord) (g : Nat) {write : State → State} (h : Blocks s (write s)) :
    Delivery s (s.takeRecord r g write) := by
  unfold State.takeRecord
  split
  · exact .of_blocks h
  · exact ⟨.refl _, .refl _ _, .refl _⟩

theorem deliver_delivery (s : State) (r : Request) : Delivery s (s.deliver r) := by
  unfold State.deliver
  split
  · exact .of_blocks (modifyGauge_blocks _ _ fun g hg => deliver_inRange _ hg)
  · exact ⟨takeSpeed_counting _ _, (takeSpeed_kept s _).gauges ▸ .refl _ _, (takeSpeed_kept s _).store ▸ .refl _⟩
  · exact ⟨takeFuel_counting _ _ _, (takeFuel_kept s _ _).gauges ▸ .refl _ _, (takeFuel_kept s _ _).store ▸ .refl _⟩
  · exact takeRecord_delivery _ _ (setEconomy_blocks _ _ _)
  · exact takeRecord_delivery _ _ (setAverage_blocks _ _ _)
  · exact ⟨.refl _, .refl _ _, .refl _⟩
  · exact ⟨.refl _, .refl _ _, .refl _⟩

theorem complete_blocks (s : State) : Blocks s s.complete := by
  have hdelivery : Delivery s s.complete := by
    unfold State.complete
    split
    · obtain ⟨hc, hg, hst⟩ := deliver_delivery s ‹_›
      exact ⟨hc, hg, hst⟩
    · exact ⟨.refl _, .refl _ _, .refl _⟩
  exact .of (complete_kept s) (arith := fun _ => complete_served) (counting := fun _ => hdelivery.counting)
    (gauges := fun _ => hdelivery.gauges) (store := fun _ => hdelivery.store)

end Sys2Proof.Machine
end

section
/-! SUPPORT. The warning arbiter: what its events do to the warnings' states. An event's own changes put no warning in
service (`InnerRings`); the selection that follows shows the most urgent one (`select_mostUrgent`); what an event then
leaves is a `Rings`. -/
namespace Sys2Proof.Machine
set_option Elab.async false

/-! ### Reads of the warnings -/

theorem warning_modifyWarning (s : State) (w v : Nat) (f : Warning → Warning) :
    (s.modifyWarning w f).warning v =
      if v = w ∧ w < s.arbiter.warnings.length then f (s.warning v) else s.warning v := by
  show (s.arbiter.warnings.modify w f).getD v .off = _
  unfold State.warning
  simp only [List.getD_eq_getElem?_getD]
  by_cases hv : w = v
  · subst hv
    by_cases hw : w < s.arbiter.warnings.length
    · simp [hw]
    · simp [hw]
  · rw [List.getElem?_modify_ne _ _ hv, if_neg fun h => hv h.1.symm]

theorem warning_lt {s : State} {w : Nat} (h : (s.warning w).state ≠ .off) : w < s.arbiter.warnings.length := by
  by_contra hw
  exact h (by unfold State.warning; rw [List.getD_eq_default _ _ (Nat.le_of_not_lt hw)]; rfl)

theorem warning_of_lt {s : State} {w : Nat} (h : w < s.arbiter.warnings.length) : s.warning w = s.arbiter.warnings[w] := by
  unfold State.warning
  exact List.getD_eq_getElem _ _ h

theorem warning_mem {s : State} {w : Nat} (h : w < s.arbiter.warnings.length) : s.warning w ∈ s.arbiter.warnings :=
  warning_of_lt h ▸ List.getElem_mem h

/-- A filter of at most one member: two places that pass it are one. -/
theorem filter_length_le_one_iff {α : Type} {p : α → Bool} {l : List α} :
    (l.filter p).length ≤ 1 ↔
      ∀ (i j : Nat) (hi : i < l.length) (hj : j < l.length), p l[i] = true → p l[j] = true → i = j := by
  induction l with
  | nil => simp
  | cons a l ih =>
    constructor
    · intro h i j hi hj pi pj
      by_cases pa : p a = true
      · have hnone : ∀ x ∈ l, p x ≠ true := by
          rw [List.filter_cons_of_pos pa] at h
          have : l.filter p = [] := List.length_eq_zero_iff.mp (by simpa using h)
          exact List.filter_eq_nil_iff.mp this
        cases i with
        | succ i => exact absurd pi (hnone _ (List.getElem_mem (Nat.lt_of_succ_lt_succ hi)))
        | zero =>
          cases j with
          | succ j => exact absurd pj (hnone _ (List.getElem_mem (Nat.lt_of_succ_lt_succ hj)))
          | zero => rfl
      · rw [List.filter_cons_of_neg pa] at h
        cases i with
        | zero => exact absurd pi pa
        | succ i =>
          cases j with
          | zero => exact absurd pj pa
          | succ j => exact congrArg _ (ih.mp h i j (Nat.lt_of_succ_lt_succ hi) (Nat.lt_of_succ_lt_succ hj) pi pj)
    · intro h
      have htail : (l.filter p).length ≤ 1 :=
        ih.mpr fun i j hi hj pi pj => Nat.succ_inj.mp
          (h (i + 1) (j + 1) (Nat.succ_lt_succ hi) (Nat.succ_lt_succ hj) pi pj)
      by_cases pa : p a = true
      · rw [List.filter_cons_of_pos pa]
        have : l.filter p = [] := by
          rw [List.filter_eq_nil_iff]
          intro x hx px
          obtain ⟨j, hj, rfl⟩ := List.mem_iff_getElem.mp hx
          exact absurd (h 0 (j + 1) (Nat.succ_pos _) (Nat.succ_lt_succ hj) pa px) (Nat.succ_ne_zero j).symm
        simp [this]
      · rw [List.filter_cons_of_neg pa]
        exact htail

theorem shownCount_le_one_iff {s : State} :
    s.shownCount ≤ 1 ↔ ∀ v w, (s.warning v).state = .shown → (s.warning w).state = .shown → v = w := by
  unfold State.shownCount
  rw [filter_length_le_one_iff]
  constructor
  · intro h v w hv hw
    have hv' := warning_lt (s := s) (w := v) (by rw [hv]; decide)
    have hw' := warning_lt (s := s) (w := w) (by rw [hw]; decide)
    rw [warning_of_lt hv'] at hv
    rw [warning_of_lt hw'] at hw
    exact h v w hv' hw' (by simp [hv]) (by simp [hw])
  · intro h i j hi hj pi pj
    refine h i j ?_ ?_
    · rw [warning_of_lt hi]; simpa using pi
    · rw [warning_of_lt hj]; simpa using pj

theorem shown_eq_some_iff {s : State} {w : Nat} :
    s.shown = some w ↔ (s.warning w).state = .shown ∧ ∀ v < w, (s.warning v).state ≠ .shown := by
  unfold State.shown
  rw [List.findIdx?_eq_some_iff_getElem]
  constructor
  · rintro ⟨hw, hs, hno⟩
    refine ⟨by rw [warning_of_lt hw]; simpa using hs, fun v hv => ?_⟩
    rw [warning_of_lt (hv.trans hw)]
    simpa using hno v hv
  · rintro ⟨hs, hno⟩
    have hw := warning_lt (s := s) (w := w) (by rw [hs]; decide)
    rw [warning_of_lt hw] at hs
    refine ⟨hw, by simp [hs], fun v hv => ?_⟩
    have := hno v hv
    rw [warning_of_lt (hv.trans hw)] at this
    simpa using this

theorem shown_eq_none_iff {s : State} : s.shown = none ↔ ∀ w, (s.warning w).state ≠ .shown := by
  unfold State.shown
  rw [List.findIdx?_eq_none_iff]
  constructor
  · intro h w hw
    have hlt := warning_lt (s := s) (w := w) (by rw [hw]; decide)
    have := h _ (warning_mem hlt)
    rw [hw] at this
    cases this
  · intro h x hx
    obtain ⟨w, hw, rfl⟩ := List.mem_iff_getElem.mp hx
    have := h w
    rw [warning_of_lt hw] at this
    simpa using this

theorem shown_isSome_iff {s : State} : s.shown.isSome = true ↔ ∃ w, (s.warning w).state = .shown := by
  rw [← not_iff_not, Bool.not_eq_true, Option.isSome_eq_false_iff, Option.isNone_iff_eq_none, shown_eq_none_iff]
  simp

/-- The one SHOWN warning. -/
theorem shown_of_state {s : State} {w : Nat} (hone : s.shownCount ≤ 1) (h : (s.warning w).state = .shown) :
    s.shown = some w :=
  shown_eq_some_iff.mpr ⟨h, fun _ hv hs => absurd (shownCount_le_one_iff.mp hone _ _ hs h) hv.ne⟩

theorem warningClass_of_cal {s t : State} (h : t.cal = s.cal) (w : Nat) : t.warningClass w = s.warningClass w := by
  unfold State.warningClass State.warningFigures
  rw [h]

theorem warningFigures_of_cal {s t : State} (h : t.cal = s.cal) (w : Nat) : t.warningFigures w = s.warningFigures w := by
  unfold State.warningFigures
  rw [h]

theorem warning_of_warnings {s t : State} (h : t.arbiter.warnings = s.arbiter.warnings) (w : Nat) :
    t.warning w = s.warning w := by
  unfold State.warning
  rw [h]

/-! ### The changes of an event, before the selection -/

/-- What an arbiter event does by itself: no warning enters SHOWN or HELD, and the orders go on listing their class. -/
structure InnerRings (s t : State) : Prop where
  cal : t.cal = s.cal
  length : t.arbiter.warnings.length = s.arbiter.warnings.length
  fewer : ∀ w, (t.warning w).state.inService = true → (t.warning w).state = (s.warning w).state
  caution : ∀ w, w ∈ t.arbiter.cautionOrder ↔ w ∈ s.arbiter.cautionOrder
  advisory : ∀ w, w ∈ t.arbiter.advisoryOrder ↔ w ∈ s.arbiter.advisoryOrder
  once : s.OrdersOnce → t.OrdersOnce

theorem InnerRings.refl (s : State) : InnerRings s s := ⟨rfl, rfl, fun _ _ => rfl, fun _ => .rfl, fun _ => .rfl, id⟩

theorem InnerRings.trans {s t u : State} (h : InnerRings s t) (k : InnerRings t u) : InnerRings s u where
  cal := k.cal.trans h.cal
  length := k.length.trans h.length
  fewer w hw := by
    have hut := k.fewer w hw
    exact hut.trans (h.fewer w (hut ▸ hw))
  caution w := (k.caution w).trans (h.caution w)
  advisory w := (k.advisory w).trans (h.advisory w)
  once := k.once ∘ h.once

/-- Warnings and orders as they are. -/
theorem InnerRings.of_same {s t : State} (cal : t.cal = s.cal) (warnings : t.arbiter.warnings = s.arbiter.warnings)
    (caution : t.arbiter.cautionOrder = s.arbiter.cautionOrder)
    (advisory : t.arbiter.advisoryOrder = s.arbiter.advisoryOrder) : InnerRings s t where
  cal := cal
  length := by rw [warnings]
  fewer w _ := by rw [warning_of_warnings warnings]
  caution w := by rw [caution]
  advisory w := by rw [advisory]
  once h := by unfold State.OrdersOnce; rw [caution, advisory]; exact h

theorem InnerRings.of_kept {bs : List Block} {s t : State} (k : KeptBut bs s t)
    (ha : Block.arbiter ∉ bs := by decide) (hc : Block.cal ∉ bs := by decide) : InnerRings s t :=
  .of_same (k.cal hc) (by rw [k.arbiter ha]) (by rw [k.arbiter ha]) (by rw [k.arbiter ha])

theorem InnerRings.complete {s t : State} (h : InnerRings s t) (hs : s.OrdersComplete) : t.OrdersComplete := by
  obtain ⟨hlen, hcaution, hadvisory⟩ := hs
  refine ⟨h.length.trans hlen, fun w => ?_, fun w => ?_⟩
  · rw [h.caution, hcaution, warningClass_of_cal h.cal]
  · rw [h.advisory, hadvisory, warningClass_of_cal h.cal]

theorem InnerRings.shownCount {s t : State} (h : InnerRings s t) (hs : s.shownCount ≤ 1) : t.shownCount ≤ 1 := by
  rw [shownCount_le_one_iff] at hs ⊢
  intro v w hv hw
  refine hs v w ?_ ?_
  · rw [← h.fewer v (by rw [hv]; rfl), hv]
  · rw [← h.fewer w (by rw [hw]; rfl), hw]

theorem inService_iff {x : WarningState} : x.inService = true ↔ x ∈ [WarningState.shown, .held] := by
  cases x <;> simp [WarningState.inService]

theorem InnerRings.ordered {s t : State} (h : InnerRings s t) (hs : s.ServiceOrdered) : t.ServiceOrdered := by
  intro v w hv hw hne sv sw
  have ev := h.fewer v (inService_iff.mpr sv)
  have ew := h.fewer w (inService_iff.mpr sw)
  rw [warningClass_of_cal h.cal, warningClass_of_cal h.cal, ev]
  exact hs v w hv hw hne (ev ▸ sv) (ew ▸ sw)

/-- An event's own changes, in all blocks. -/
structure Inner (s t : State) : Prop where
  blocks : Blocks s t
  rings : InnerRings s t

theorem Inner.refl (s : State) : Inner s s := ⟨.refl s, .refl s⟩
theorem Inner.trans {s t u : State} (h : Inner s t) (k : Inner t u) : Inner s u :=
  ⟨h.blocks.trans k.blocks, h.rings.trans k.rings⟩
theorem Inner.after {s t u : State} (k : Inner t u) (h : Inner s t) : Inner s u := h.trans k

theorem Inner.ite {p : Prop} [Decidable p] {s t u : State} (h : Inner s t) (k : Inner s u) :
    Inner s (if p then t else u) := by split <;> assumption

theorem Inner.foldl {α : Type} {f : State → α → State} (h : ∀ s a, Inner s (f s a)) (l : List α) (s : State) :
    Inner s (l.foldl f s) := by
  induction l generalizing s with
  | nil => exact .refl s
  | cons a l ih => exact (h s a).trans (ih (f s a))

theorem Blocks.inner {bs : List Block} {s t : State} (h : Blocks s t) (k : KeptBut bs s t)
    (ha : Block.arbiter ∉ bs := by decide) (hc : Block.cal ∉ bs := by decide) : Inner s t := ⟨h, .of_kept k ha hc⟩

/-- A change of the arbiter's other fields. -/
theorem setArbiter_inner {s : State} {a : Arbiter} (warnings : a.warnings = s.arbiter.warnings)
    (caution : a.cautionOrder = s.arbiter.cautionOrder) (advisory : a.advisoryOrder = s.arbiter.advisoryOrder)
    (tick : a.tick.isSome = s.arbiter.tick.isSome) (rate43 : a.rate43.isSome = s.arbiter.rate43.isSome) :
    Inner s (s.setArbiter a) :=
  ⟨.of (setArbiter_kept s a) (arbiter := fun _ => ⟨tick, rate43⟩), .of_same rfl warnings caution advisory⟩

theorem modifyWarning_inner (s : State) (w : Nat) {f : Warning → Warning}
    (hf : ∀ x, (f x).state.inService = true → (f x).state = x.state) : Inner s (s.modifyWarning w f) where
  blocks := .of (modifyWarning_kept s w f) (arbiter := fun _ => ⟨rfl, rfl⟩)
  rings :=
    { cal := rfl, length := List.length_modify _ _ _, caution := fun _ => .rfl, advisory := fun _ => .rfl, once := id
      fewer := fun v => by
        rw [warning_modifyWarning]
        split
        · exact hf _
        · exact fun _ => rfl }

theorem goTo_state (x : WarningState) (v : Warning) : (v.goTo x).state = x := rfl

theorem takeLevel_state (e b : Bool) (x : Warning) :
    (x.takeLevel e b).state.inService = true → (x.takeLevel e b).state = x.state := by
  unfold Warning.takeLevel
  split
  · split
    · nofun
    · exact fun _ => rfl
  · split
    · nofun
    · exact fun _ => rfl

theorem takeLevel_inner (s : State) (w : Nat) (b : Bool) : Inner s (s.takeLevel w b) :=
  modifyWarning_inner s w (takeLevel_state _ _)

theorem takeEdge_inner (s : State) (w : Nat) : Inner s (s.takeEdge w) :=
  modifyWarning_inner s w fun x => by
    unfold Warning.takeEdge
    split
    · nofun
    · exact fun _ => rfl

theorem acknowledged_state (c : WarnClass) (x : Warning) : (x.acknowledged c).state.inService = false := by
  unfold Warning.acknowledged
  split <;> rfl

theorem mem_moveLast {w v : Nat} {l : List Nat} : v ∈ moveLast w l ↔ v ∈ l := by
  unfold moveLast
  split
  · rename_i h
    have hw : w ∈ l := by simpa using h
    rw [List.mem_append, List.mem_filter, List.mem_singleton]
    constructor
    · rintro (⟨hv, -⟩ | rfl)
      · exact hv
      · exact hw
    · intro hv
      by_cases hvw : v = w
      · exact .inr hvw
      · exact .inl ⟨hv, by simpa using hvw⟩
  · rfl

theorem nodup_moveLast {w : Nat} {l : List Nat} (h : l.Nodup) : (moveLast w l).Nodup := by
  unfold moveLast
  split
  · refine List.nodup_append.mpr ⟨h.filter _, by simp, ?_⟩
    rintro a ha b hb rfl
    rw [List.mem_singleton.mp hb] at ha
    simp at ha
  · exact h

theorem rotate_inner (s : State) (w : Nat) : Inner s (s.rotate w) := by
  refine ⟨.of (rotate_kept s w) (arbiter := fun _ => ?_), ?_⟩
  · unfold State.rotate
    split <;> exact ⟨rfl, rfl⟩
  · unfold State.rotate
    split
    · exact ⟨rfl, rfl, fun _ _ => rfl, fun _ => mem_moveLast, fun _ => .rfl, fun h => ⟨nodup_moveLast h.1, h.2⟩⟩
    · exact ⟨rfl, rfl, fun _ _ => rfl, fun _ => .rfl, fun _ => mem_moveLast, fun h => ⟨h.1, nodup_moveLast h.2⟩⟩
    all_goals exact .refl s

theorem acknowledge_inner (s : State) (w : Nat) : Inner s (s.acknowledge w) := by
  have hack : Inner s (s.modifyWarning w (Warning.acknowledged (s.warningClass w))) :=
    modifyWarning_inner s w fun x h => by rw [acknowledged_state] at h; cases h
  exact .ite (hack.trans (rotate_inner _ _)) hack

theorem queueCascade_inner (s : State) : Inner s s.queueCascade := (queueCascade_blocks s).inner (queueCascade_kept s)

theorem startPattern_ok (x : Ign) (s : State) (p : Playing) : SoundOk x s.sound (s.startPattern p).sound := ⟨rfl, .inl⟩

theorem shownNotice_ok (x : Ign) (s : State) (w : Nat) : SoundOk x s.sound (s.shownNotice w).sound := by
  unfold State.shownNotice
  dsimp only
  split
  · exact ⟨rfl, .inl⟩
  · split <;> exact ⟨rfl, .inl⟩

theorem shownNotice_blocks (s : State) (w : Nat) : Blocks s (s.shownNotice w) :=
  .of (shownNotice_kept s w) (sound := fun _ => shownNotice_ok _ s w)

theorem syncChime_blocks (s : State) : Blocks s s.syncChime := by
  refine .of (syncChime_kept s) (sound := fun _ => ?_)
  unfold State.syncChime
  split
  · exact ⟨rfl, .inl⟩
  · split <;> exact ⟨rfl, .inl⟩

theorem noneShown_blocks (s : State) : Blocks s s.noneShown := .of (noneShown_kept s) (sound := fun _ => ⟨rfl, .inl⟩)

theorem presentNext_inner (s : State) : Inner s s.presentNext := by
  have hnext : Inner s (s.setArbiter { s.arbiter with presented := lowestOpen s.arbiter.subs }) :=
    setArbiter_inner rfl rfl rfl rfl rfl
  refine .ite (.after ((shownNotice_blocks _ _).inner (shownNotice_kept _ _)) (hnext.trans ?_)) hnext
  exact modifyWarning_inner _ _ fun _ _ => rfl

theorem acknowledgeSub_inner (s : State) (n : Nat) : Inner s (s.acknowledgeSub n) := by
  unfold State.acknowledgeSub
  dsimp only
  have hsub : Inner s (s.setArbiter { s.arbiter with subs := s.arbiter.subs.set n .ackedLocal }).queueCascade :=
    .after (queueCascade_inner _) (setArbiter_inner rfl rfl rfl rfl rfl)
  have hoff := hsub.trans (takeLevel_inner _ 30 false)
  exact .ite (.ite (hsub.trans (presentNext_inner _)) hsub) (.ite (hoff.trans (rotate_inner _ _)) hoff)

theorem acknowledgeCascade_inner (s : State) : Inner s s.acknowledgeCascade := by
  unfold State.acknowledgeCascade
  dsimp only
  split
  · exact acknowledgeSub_inner s _
  · exact .refl s

theorem acknowledgeAny_inner (s : State) (w : Nat) : Inner s (s.acknowledgeAny w) :=
  .ite (acknowledgeCascade_inner s) (acknowledge_inner s w)

theorem reviewStep_inner (s : State) : Inner s s.reviewStep := setArbiter_inner rfl rfl rfl rfl rfl

theorem endReview_inner (s : State) : Inner s s.endReview := setArbiter_inner rfl rfl rfl rfl rfl

theorem endStaleReview_inner (s : State) : Inner s s.endStaleReview := by
  unfold State.endStaleReview
  split
  · exact .ite (.refl s) (setArbiter_inner rfl rfl rfl rfl rfl)
  · exact .refl s

theorem dropPresented_inner (s : State) : Inner s s.dropPresented := .ite (.refl s) (setArbiter_inner rfl rfl rfl rfl rfl)

theorem shownTimerDone_inner (s : State) (w : Nat) : Inner s (s.shownTimerDone w) := by
  have hdone : Inner s (s.modifyWarning w fun v => { v with shownTimer := 40 }) := modifyWarning_inner s w fun _ _ => rfl
  exact .ite (hdone.trans (acknowledge_inner _ _)) hdone

theorem shownTick_inner (s : State) : Inner s s.shownTick := by
  unfold State.shownTick
  split
  · exact .ite (shownTimerDone_inner s _) (modifyWarning_inner s _ fun _ _ => rfl)
  · exact .refl s

theorem shownExpired_inner (s : State) : Inner s s.shownExpired := by
  unfold State.shownExpired
  split
  · exact .ite (shownTimerDone_inner s _) (.refl s)
  · exact .refl s

theorem reminderTick_state (x : Warning) : x.reminderTick.state.inService = true → x.reminderTick.state = x.state := by
  unfold Warning.reminderTick
  split
  · split
    · nofun
    · exact fun _ => rfl
  · exact fun _ => rfl

theorem reminderDone_state (x : Warning) : x.reminderDone.state.inService = true → x.reminderDone.state = x.state := by
  unfold Warning.reminderDone
  split
  · nofun
  · exact fun _ => rfl

theorem warning_map (s : State) (f : Warning → Warning) (hf : f .off = .off) (w : Nat) :
    (s.setArbiter { s.arbiter with warnings := s.arbiter.warnings.map f }).warning w = f (s.warning w) := by
  show (s.arbiter.warnings.map f).getD w .off = f (s.arbiter.warnings.getD w .off)
  rw [List.getD_eq_getElem?_getD, List.getD_eq_getElem?_getD, List.getElem?_map]
  cases s.arbiter.warnings[w]? with
  | none => exact hf.symm
  | some x => rfl

theorem reminders_inner (s : State) :
    Inner s (s.setArbiter { s.arbiter with warnings := s.arbiter.warnings.map Warning.reminderTick }) where
  blocks := .of (setArbiter_kept s _) (arbiter := fun _ => ⟨rfl, rfl⟩)
  rings :=
    { cal := rfl, length := List.length_map _, caution := fun _ => .rfl, advisory := fun _ => .rfl, once := id
      fewer := fun w => by rw [warning_map s _ rfl]; exact reminderTick_state _ }

theorem reviewTick_inner (s : State) : Inner s s.reviewTick := by
  unfold State.reviewTick
  split
  · exact .ite (endReview_inner s) (setArbiter_inner rfl rfl rfl rfl rfl)
  · exact .refl s

theorem followPresented_inner (s : State) : Inner s s.followPresented := by
  unfold State.followPresented
  split
  · split
    · exact .ite (.refl s) (presentNext_inner s)
    · exact presentNext_inner s
  · exact .refl s

/-! ### The selection -/

theorem enterShown_warning (s : State) (w v : Nat) :
    (s.enterShown w).warning v =
      if v = w ∧ w < s.arbiter.warnings.length then
        { s.warning v with state := .shown, shownTimer := 0, completed := false, reminder := 0 }
      else s.warning v := by
  unfold State.enterShown
  rw [warning_of_warnings (congrArg Arbiter.warnings (shownNotice_kept _ w).arbiter)]
  exact warning_modifyWarning s w v _

theorem enterShown_rest (s : State) (w : Nat) :
    (s.enterShown w).arbiter.warnings.length = s.arbiter.warnings.length ∧
      (s.enterShown w).arbiter.cautionOrder = s.arbiter.cautionOrder ∧
      (s.enterShown w).arbiter.advisoryOrder = s.arbiter.advisoryOrder := by
  unfold State.enterShown
  rw [(shownNotice_kept _ w).arbiter]
  exact ⟨List.length_modify _ _ _, rfl, rfl⟩

/-- The orders of all classes list the warnings of their class. -/
theorem mem_classOrder {s : State} (h : s.OrdersComplete) {c : WarnClass} {w : Nat} :
    w ∈ s.classOrder c ↔ w < 32 ∧ s.warningClass w = c := by
  obtain ⟨-, hcaution, hadvisory⟩ := h
  cases c with
  | caution => exact hcaution w
  | advisory => exact hadvisory w
  | _ => simp [State.classOrder]

theorem firstOf_some {s : State} {x : WarningState} {c : WarnClass} {w : Nat} (hc : s.OrdersComplete)
    (h : s.firstOf x c = some w) : w < 32 ∧ s.warningClass w = c ∧ (s.warning w).state = x := by
  obtain ⟨hw, hclass⟩ := (mem_classOrder hc).mp (List.mem_of_find?_eq_some h)
  exact ⟨hw, hclass, by simpa using List.find?_some h⟩

theorem firstOf_none {s : State} {x : WarningState} {c : WarnClass} (hc : s.OrdersComplete)
    (h : s.firstOf x c = none) {w : Nat} (hw : w < 32) (hclass : s.warningClass w = c) : (s.warning w).state ≠ x := by
  have := List.find?_eq_none.mp h w ((mem_classOrder hc).mpr ⟨hw, hclass⟩)
  simpa using this

theorem findSome_allClasses {f : WarnClass → Option Nat} {w : Nat} (h : allClasses.findSome? f = some w) :
    ∃ c, f c = some w ∧ ∀ d, d.rank < c.rank → f d = none := by
  simp only [allClasses, List.findSome?_cons, List.findSome?_nil] at h
  cases h0 : f .danger with
  | some a => rw [h0] at h; exact ⟨.danger, h0.trans h, fun d hd => by cases d <;> simp [WarnClass.rank] at hd⟩
  | none =>
    rw [h0] at h
    cases h1 : f .caution with
    | some a => rw [h1] at h; exact ⟨.caution, h1.trans h, fun d hd => by cases d <;> simp_all [WarnClass.rank]⟩
    | none =>
      rw [h1] at h
      cases h2 : f .advisory with
      | some a => rw [h2] at h; exact ⟨.advisory, h2.trans h, fun d hd => by cases d <;> simp_all [WarnClass.rank]⟩
      | none =>
        rw [h2] at h
        cases h3 : f .information with
        | some a =>
          rw [h3] at h
          exact ⟨.information, h3.trans h, fun d hd => by cases d <;> simp_all [WarnClass.rank]⟩
        | none => rw [h3] at h; cases h

theorem findSome_allClasses_none {f : WarnClass → Option Nat} (h : allClasses.findSome? f = none) (c : WarnClass) :
    f c = none :=
  List.findSome?_eq_none_iff.mp h c (by cases c <;> simp [allClasses])

theorem rank_inj {c d : WarnClass} (h : c.rank = d.rank) : c = d := by cases c <;> cases d <;> first | rfl | cases h

/-- Whom the arbiter shows when none is: the most urgent, of one class a HELD warning first. -/
theorem candidate_some {s : State} (hc : s.OrdersComplete) {w : Nat} (h : s.candidate = some w) :
    w < 32 ∧ ((s.warning w).state = .held ∨ (s.warning w).state = .pending) ∧
      (∀ v < 32, (s.warning v).state = .held ∨ (s.warning v).state = .pending →
        (s.warningClass w).rank ≤ (s.warningClass v).rank) ∧
      ((s.warning w).state = .pending → ∀ v < 32, (s.warning v).state = .held →
        (s.warningClass w).rank < (s.warningClass v).rank) := by
  obtain ⟨c, hfirst, hno⟩ := findSome_allClasses h
  have habove : ∀ v < 32, (s.warning v).state = .held ∨ (s.warning v).state = .pending →
      c.rank ≤ (s.warningClass v).rank := by
    intro v hv hstate
    by_contra hlt
    have hnone := hno _ (Nat.lt_of_not_le hlt)
    rw [Option.or_eq_none_iff] at hnone
    rcases hstate with hs | hs
    · exact firstOf_none hc hnone.1 hv rfl hs
    · exact firstOf_none hc hnone.2 hv rfl hs
  rw [Option.or_eq_some_iff] at hfirst
  rcases hfirst with hheld | ⟨hnone, hpending⟩
  · obtain ⟨hw, hclass, hstate⟩ := firstOf_some hc hheld
    exact ⟨hw, .inl hstate, hclass ▸ habove, fun hp => by rw [hstate] at hp; cases hp⟩
  · obtain ⟨hw, hclass, hstate⟩ := firstOf_some hc hpending
    refine ⟨hw, .inr hstate, hclass ▸ habove, fun _ v hv hs => ?_⟩
    refine Nat.lt_of_le_of_ne (hclass ▸ habove v hv (.inl hs)) fun heq => ?_
    exact firstOf_none hc hnone hv (by rw [← hclass]; exact (rank_inj heq).symm) hs

theorem candidate_none {s : State} (hc : s.OrdersComplete) (h : s.candidate = none) {w : Nat} (hw : w < 32) :
    (s.warning w).state ≠ .held ∧ (s.warning w).state ≠ .pending := by
  have := findSome_allClasses_none h (s.warningClass w)
  rw [Option.or_eq_none_iff] at this
  exact ⟨firstOf_none hc this.1 hw rfl, firstOf_none hc this.2 hw rfl⟩

theorem findSome_filter {α β : Type} (p : α → Bool) (f : α → Option β) (l : List α) :
    (l.filter p).findSome? f = l.findSome? fun a => if p a = true then f a else none := by
  induction l with
  | nil => rfl
  | cons a l ih =>
    by_cases ha : p a = true
    · rw [List.filter_cons_of_pos ha, List.findSome?_cons, List.findSome?_cons, if_pos ha, ih]
    · rw [List.filter_cons_of_neg ha, List.findSome?_cons, if_neg ha, ih]

theorem findSome_above {f : WarnClass → Option Nat} {c : WarnClass} {w : Nat}
    (h : (allClasses.filter fun d => decide (d.rank < c.rank)).findSome? f = some w) :
    ∃ d, d.rank < c.rank ∧ f d = some w ∧ ∀ e, e.rank < d.rank → f e = none := by
  have hwhole : allClasses.findSome? (fun d => if d.rank < c.rank then f d else none) = some w := by
    rw [← h, findSome_filter]
    simp only [decide_eq_true_eq]
  obtain ⟨d, hd, hno⟩ := findSome_allClasses hwhole
  split at hd
  · rename_i hlt
    refine ⟨d, hlt, hd, fun e he => ?_⟩
    have := hno e he
    rwa [if_pos (he.trans hlt)] at this
  · cases hd

theorem preemptor_some {s : State} (hc : s.OrdersComplete) {c : WarnClass} {w : Nat} (h : s.preemptor c = some w) :
    w < 32 ∧ (s.warning w).state = .pending ∧ (s.warningClass w).rank < c.rank ∧
      ∀ v < 32, (s.warning v).state = .pending → (s.warningClass w).rank ≤ (s.warningClass v).rank := by
  obtain ⟨d, hlt, hd, hno⟩ := findSome_above h
  obtain ⟨hw, hclass, hstate⟩ := firstOf_some hc hd
  refine ⟨hw, hstate, hclass ▸ hlt, fun v hv hs => ?_⟩
  by_contra hnle
  exact firstOf_none hc (hno _ (hclass ▸ Nat.lt_of_not_le hnle)) hv rfl hs

theorem preemptor_none {s : State} (hc : s.OrdersComplete) {c : WarnClass} (h : s.preemptor c = none) {w : Nat}
    (hw : w < 32) (hs : (s.warning w).state = .pending) : c.rank ≤ (s.warningClass w).rank := by
  by_contra hlt
  have hmem : s.warningClass w ∈ allClasses.filter fun d => decide (d.rank < c.rank) := by
    rw [List.mem_filter]
    exact ⟨by cases s.warningClass w <;> simp [allClasses], by simpa using hlt⟩
  exact firstOf_none hc (List.findSome?_eq_none_iff.mp h _ hmem) hw rfl hs

/-- The selection, case by case. -/
theorem select_cases (s : State) :
    (s.select = s ∧ s.shown = none ∧ s.candidate = none) ∨
    (∃ w, s.shown = none ∧ s.candidate = some w ∧ s.select = s.enterShown w) ∨
    (∃ v, s.shown = some v ∧ s.preemptor (s.warningClass v) = none ∧ s.select = s) ∨
    ∃ v w, s.shown = some v ∧ s.preemptor (s.warningClass v) = some w ∧
      s.select = (s.modifyWarning v fun x => { x with state := .held }).enterShown w := by
  unfold State.select
  cases hs : s.shown with
  | none =>
    cases hc : s.candidate with
    | none => exact .inl ⟨rfl, rfl, rfl⟩
    | some w => exact .inr (.inl ⟨w, rfl, rfl, rfl⟩)
  | some v =>
    cases hp : s.preemptor (s.warningClass v) with
    | none => exact .inr (.inr (.inl ⟨v, rfl, hp, by simp only [hp]⟩))
    | some w => exact .inr (.inr (.inr ⟨v, w, rfl, hp, by simp only [hp]⟩))

/-- The states of the warnings after a warning has preempted the SHOWN one. -/
theorem preempted_state (s : State) {v w u : Nat} (hv : v < s.arbiter.warnings.length) (hw : w < s.arbiter.warnings.length) :
    (((s.modifyWarning v fun x => { x with state := .held }).enterShown w).warning u).state =
      if u = w then .shown else if u = v then .held else (s.warning u).state := by
  have hlen : (s.modifyWarning v fun x => { x with state := .held }).arbiter.warnings.length = s.arbiter.warnings.length :=
    List.length_modify _ _ _
  rw [enterShown_warning, hlen]
  by_cases huw : u = w
  · rw [if_pos ⟨huw, hw⟩, if_pos huw]
  · rw [if_neg fun h => huw h.1, if_neg huw, warning_modifyWarning]
    by_cases huv : u = v
    · rw [if_pos ⟨huv, hv⟩, if_pos huv]
    · rw [if_neg fun h => huv h.1, if_neg huv]

theorem entered_state (s : State) {w u : Nat} (hw : w < s.arbiter.warnings.length) :
    ((s.enterShown w).warning u).state = if u = w then .shown else (s.warning u).state := by
  rw [enterShown_warning]
  by_cases huw : u = w
  · rw [if_pos ⟨huw, hw⟩, if_pos huw]
  · rw [if_neg fun h => huw h.1, if_neg huw]

theorem select_kept_rest (s : State) :
    s.select.arbiter.warnings.length = s.arbiter.warnings.length ∧
      s.select.arbiter.cautionOrder = s.arbiter.cautionOrder ∧
      s.select.arbiter.advisoryOrder = s.arbiter.advisoryOrder := by
  rcases select_cases s with ⟨h, -, -⟩ | ⟨w, -, -, h⟩ | ⟨v, -, -, h⟩ | ⟨v, w, -, -, h⟩
  · rw [h]; exact ⟨rfl, rfl, rfl⟩
  · rw [h]; exact enterShown_rest s w
  · rw [h]; exact ⟨rfl, rfl, rfl⟩
  · rw [h]
    obtain ⟨hlen, hcaution, hadvisory⟩ := enterShown_rest (s.modifyWarning v fun x => { x with state := .held }) w
    exact ⟨hlen.trans (List.length_modify _ _ _), hcaution, hadvisory⟩

theorem select_shownCount {s : State} (h : s.shownCount ≤ 1) : s.select.shownCount ≤ 1 := by
  rw [shownCount_le_one_iff]
  rcases select_cases s with ⟨hsel, -, -⟩ | ⟨w, hnone, -, hsel⟩ | ⟨v, -, -, hsel⟩ | ⟨v, w, hshown, -, hsel⟩
  · rw [hsel]; exact shownCount_le_one_iff.mp h
  · have hno := shown_eq_none_iff.mp hnone
    have key : ∀ u, (s.select.warning u).state = .shown → u = w := by
      intro u hu
      rw [hsel, enterShown_warning] at hu
      by_contra hne
      rw [if_neg fun k => hne k.1] at hu
      exact hno u hu
    exact fun a b ha hb => (key a ha).trans (key b hb).symm
  · rw [hsel]; exact shownCount_le_one_iff.mp h
  · obtain ⟨hvs, -⟩ := shown_eq_some_iff.mp hshown
    have hlt := warning_lt (s := s) (w := v) (by rw [hvs]; decide)
    have key : ∀ u, (s.select.warning u).state = .shown → u = w := by
      intro u hu
      rw [hsel, enterShown_warning] at hu
      by_contra hne
      rw [if_neg fun k => hne k.1, warning_modifyWarning] at hu
      by_cases huv : u = v
      · rw [if_pos ⟨huv, hlt⟩] at hu; cases hu
      · rw [if_neg fun k => huv k.1] at hu
        exact huv (shownCount_le_one_iff.mp h u v hu hvs)
    exact fun a b ha hb => (key a ha).trans (key b hb).symm

/-- The selection shows the most urgent warning. -/
theorem select_mostUrgent {s : State} (hc : s.OrdersComplete) (hone : s.shownCount ≤ 1) : s.select.MostUrgentShown := by
  refine ⟨select_shownCount hone, ?_⟩
  have hclass : ∀ w, s.select.warningClass w = s.warningClass w := warningClass_of_cal (select_kept s).cal
  have hlen : ∀ w < 32, w < s.arbiter.warnings.length := fun w hw => by rw [hc.1]; exact hw
  simp only [hclass]
  rcases select_cases s with ⟨hsel, hnone, hcand⟩ | ⟨w, hnone, hcand, hsel⟩ | ⟨v, hshown, hpre, hsel⟩ |
    ⟨v, w, hshown, hpre, hsel⟩
  · rw [hsel]
    have hno := shown_eq_none_iff.mp hnone
    refine ⟨fun a _ _ _ ha => absurd ha (hno a), fun _ b hb => ?_⟩
    exact ⟨(candidate_none hc hcand hb).2, (candidate_none hc hcand hb).1⟩
  · obtain ⟨hw, -, hmost, -⟩ := candidate_some hc hcand
    have hno := shown_eq_none_iff.mp hnone
    rw [hsel]
    refine ⟨fun a b ha hb sa sb => ?_, fun hn => absurd ?_ (hn w hw)⟩
    · rw [entered_state s (hlen w hw)] at sa sb
      have haw : a = w := by
        by_contra hne
        rw [if_neg hne] at sa
        exact hno a sa
      rw [haw]
      split at sb
      · cases sb
      · exact hmost b hb (.inr sb)
    · rw [entered_state s (hlen w hw), if_pos rfl]
  · rw [hsel]
    obtain ⟨hvs, -⟩ := shown_eq_some_iff.mp hshown
    have hv : v < 32 := by
      have := warning_lt (s := s) (w := v) (by rw [hvs]; decide)
      rwa [hc.1] at this
    refine ⟨fun a b ha hb sa sb => ?_, fun hn => absurd hvs (hn v hv)⟩
    rw [shownCount_le_one_iff.mp hone a v sa hvs]
    exact preemptor_none hc hpre hb sb
  · obtain ⟨hw, hws, hlt, hmost⟩ := preemptor_some hc hpre
    obtain ⟨hvs, -⟩ := shown_eq_some_iff.mp hshown
    have hv := warning_lt (s := s) (w := v) (by rw [hvs]; decide)
    rw [hsel]
    refine ⟨fun a b ha hb sa sb => ?_, fun hn => absurd ?_ (hn w hw)⟩
    · rw [preempted_state s hv (hlen w hw)] at sa sb
      have haw : a = w := by
        by_contra hne
        rw [if_neg hne] at sa
        split at sa
        · cases sa
        · rename_i hav
          exact hav (shownCount_le_one_iff.mp hone a v sa hvs)
      rw [haw]
      split at sb
      · cases sb
      · split at sb
        · cases sb
        · exact hmost b hb sb
    · rw [preempted_state s hv (hlen w hw), if_pos rfl]

/-- The selection puts no two warnings of one class in service. -/
theorem select_ordered {s : State} (hc : s.OrdersComplete) (hs : s.ServiceOrdered) : s.select.ServiceOrdered := by
  have hclass : ∀ w, s.select.warningClass w = s.warningClass w := warningClass_of_cal (select_kept s).cal
  have hlen : ∀ w < 32, w < s.arbiter.warnings.length := fun w hw => by rw [hc.1]; exact hw
  unfold State.ServiceOrdered
  simp only [hclass]
  rcases select_cases s with ⟨hsel, -, -⟩ | ⟨w, hnone, hcand, hsel⟩ | ⟨v, -, -, hsel⟩ | ⟨v, w, hshown, hpre, hsel⟩
  · rw [hsel]; exact hs
  · obtain ⟨hw, hstate, hmost, hfirst⟩ := candidate_some hc hcand
    have hno := shown_eq_none_iff.mp hnone
    have hbelow : ∀ b < 32, b ≠ w → (s.warning b).state = .held → (s.warningClass w).rank < (s.warningClass b).rank := by
      intro b hb hbw hbs
      rcases hstate with hws | hws
      · refine Nat.lt_of_le_of_ne (hmost b hb (.inl hbs)) ?_
        exact (hs w b hw hb hbw.symm (by simp [hws]) (by simp [hbs])).1
      · exact hfirst hws b hb hbs
    have hheld : ∀ b, b ≠ w → (s.select.warning b).state ∈ [WarningState.shown, .held] → (s.warning b).state = .held := by
      intro b hbw hbs
      rw [hsel, entered_state s (hlen w hw), if_neg hbw] at hbs
      simpa [hno b] using hbs
    rw [hsel] at hheld ⊢
    intro a b ha hb hab sa sb
    by_cases haw : a = w
    · have hb' := hbelow b hb (fun k => hab (haw.trans k.symm)) (hheld b (fun k => hab (haw.trans k.symm)) sb)
      rw [haw]
      exact ⟨hb'.ne, fun _ => hb'⟩
    · have ha' := hheld a haw sa
      have hna : ((s.enterShown w).warning a).state ≠ .shown := by
        rw [entered_state s (hlen w hw), if_neg haw, ha']
        decide
      refine ⟨?_, fun k => absurd k hna⟩
      by_cases hbw : b = w
      · rw [hbw]; exact (hbelow a ha haw ha').ne'
      · exact (hs a b ha hb hab (by simp [ha']) (by simp [hheld b hbw sb])).1
  · rw [hsel]; exact hs
  · obtain ⟨hw, hws, hlt, -⟩ := preemptor_some hc hpre
    obtain ⟨hvs, -⟩ := shown_eq_some_iff.mp hshown
    have hvlen := warning_lt (s := s) (w := v) (by rw [hvs]; decide)
    have hv : v < 32 := by rwa [hc.1] at hvlen
    have hserved : ∀ b, b ≠ w → (s.select.warning b).state ∈ [WarningState.shown, .held] →
        (s.warning b).state ∈ [WarningState.shown, .held] ∧ (s.select.warning b).state ≠ .shown := by
      intro b hbw hbs
      rw [hsel, preempted_state s hvlen (hlen w hw), if_neg hbw] at hbs ⊢
      by_cases hbv : b = v
      · rw [if_pos hbv, hbv, hvs]
        exact ⟨by simp, by decide⟩
      · rw [if_neg hbv] at hbs ⊢
        refine ⟨hbs, fun k => ?_⟩
        have hvb := (hs v b hv · (Ne.symm hbv) (by simp [hvs]) (by simp [k]))
        have hb : b < 32 := by
          have := warning_lt (s := s) (w := b) (by rw [k]; decide)
          rwa [hc.1] at this
        have hbv' := (hs b v hb hv hbv (by simp [k]) (by simp [hvs])).2 k
        exact absurd ((hvb hb).2 hvs) (Nat.lt_asymm hbv')
    have hbelow : ∀ b < 32, (s.warning b).state ∈ [WarningState.shown, .held] →
        (s.warningClass w).rank < (s.warningClass b).rank := by
      intro b hb hbs
      by_cases hbv : b = v
      · rw [hbv]; exact hlt
      · exact hlt.trans ((hs v b hv hb (Ne.symm hbv) (by simp [hvs]) hbs).2 hvs)
    rw [hsel] at hserved ⊢
    intro a b ha hb hab sa sb
    by_cases haw : a = w
    · have hb' := hbelow b hb (hserved b (fun k => hab (haw.trans k.symm)) sb).1
      rw [haw]
      exact ⟨hb'.ne, fun _ => hb'⟩
    · obtain ⟨ha', hna⟩ := hserved a haw sa
      refine ⟨?_, fun k => absurd k hna⟩
      by_cases hbw : b = w
      · rw [hbw]; exact (hbelow a ha ha').ne'
      · exact (hs a b ha hb hab ha' (hserved b hbw sb).1).1

end Sys2Proof.Machine
end

section
/-! SUPPORT. What an operation leaves of all invariants while the part stays in its ignition state: `Steady`, with the
walk through every operation that reaches the warning arbiter, up to the commands. -/
namespace Sys2Proof.Machine
set_option Elab.async false

/-! ### The arbiter after a whole event -/

/-- What a finished arbiter event, and every other operation, leaves of the arbiter's invariants. -/
structure Rings (s t : State) : Prop where
  cal : t.cal = s.cal
  length : s.arbiter.warnings.length = 32 → t.arbiter.warnings.length = 32
  complete : s.OrdersComplete → t.OrdersComplete
  once : s.OrdersOnce → t.OrdersOnce
  shown : s.shownCount ≤ 1 → t.shownCount ≤ 1
  ordered : s.OrdersComplete → s.ServiceOrdered → t.ServiceOrdered
  urgent : s.OrdersComplete → s.MostUrgentShown → t.MostUrgentShown

theorem Rings.refl (s : State) : Rings s s := ⟨rfl, id, id, id, id, fun _ => id, fun _ => id⟩

theorem Rings.trans {s t u : State} (h : Rings s t) (k : Rings t u) : Rings s u where
  cal := k.cal.trans h.cal
  length := k.length ∘ h.length
  complete := k.complete ∘ h.complete
  once := k.once ∘ h.once
  shown := k.shown ∘ h.shown
  ordered hc hs := k.ordered (h.complete hc) (h.ordered hc hs)
  urgent hc hs := k.urgent (h.complete hc) (h.urgent hc hs)

theorem mostUrgent_of_warnings {s t : State} (cal : t.cal = s.cal) (warnings : t.arbiter.warnings = s.arbiter.warnings)
    (h : s.MostUrgentShown) : t.MostUrgentShown := by
  unfold State.MostUrgentShown State.shownCount at *
  simp only [warning_of_warnings warnings, warningClass_of_cal cal, warnings]
  exact h

theorem Rings.of_same {s t : State} (cal : t.cal = s.cal) (warnings : t.arbiter.warnings = s.arbiter.warnings)
    (caution : t.arbiter.cautionOrder = s.arbiter.cautionOrder)
    (advisory : t.arbiter.advisoryOrder = s.arbiter.advisoryOrder) : Rings s t :=
  let inner : InnerRings s t := .of_same cal warnings caution advisory
  ⟨cal, inner.length.trans, inner.complete, inner.once, inner.shownCount, fun _ => inner.ordered,
    fun _ => mostUrgent_of_warnings cal warnings⟩

theorem Rings.of_kept {bs : List Block} {s t : State} (k : KeptBut bs s t)
    (ha : Block.arbiter ∉ bs := by decide) (hc : Block.cal ∉ bs := by decide) : Rings s t :=
  .of_same (k.cal hc) (by rw [k.arbiter ha]) (by rw [k.arbiter ha]) (by rw [k.arbiter ha])

/-- The selection after an event's own changes. -/
theorem InnerRings.select {s t : State} (h : InnerRings s t) : Rings s t.select := by
  obtain ⟨hlen, hcaution, hadvisory⟩ := select_kept_rest t
  have hcal : t.select.cal = t.cal := (select_kept t).cal
  refine ⟨hcal.trans h.cal, fun k => hlen.trans (h.length.trans k), fun hc => ?_, fun ho => ?_,
    fun k => select_shownCount (h.shownCount k), fun hc hs => select_ordered (h.complete hc) (h.ordered hs),
    fun hc hs => select_mostUrgent (h.complete hc) (h.shownCount hs.1)⟩
  · obtain ⟨k, kc, ka⟩ := h.complete hc
    unfold State.OrdersComplete
    rw [hlen, hcaution, hadvisory]
    simp only [warningClass_of_cal hcal]
    exact ⟨k, kc, ka⟩
  · unfold State.OrdersOnce
    rw [hcaution, hadvisory]
    exact h.once ho

/-! ### All blocks -/

/-- What an operation within one ignition state leaves of all invariants. -/
structure Steady (s t : State) : Prop where
  blocks : Blocks s t
  rings : Rings s t

theorem Steady.refl (s : State) : Steady s s := ⟨.refl s, .refl s⟩
theorem Steady.trans {s t u : State} (h : Steady s t) (k : Steady t u) : Steady s u :=
  ⟨h.blocks.trans k.blocks, h.rings.trans k.rings⟩
theorem Steady.after {s t u : State} (k : Steady t u) (h : Steady s t) : Steady s u := h.trans k

theorem Steady.ite {p : Prop} [Decidable p] {s t u : State} (h : Steady s t) (k : Steady s u) :
    Steady s (if p then t else u) := by split <;> assumption

theorem Steady.dite {p : Prop} [Decidable p] {s t u : State} (h : p → Steady s t) (k : ¬p → Steady s u) :
    Steady s (if p then t else u) := by
  split
  · exact h ‹_›
  · exact k ‹_›

theorem Steady.foldl {α : Type} {f : State → α → State} (h : ∀ s a, Steady s (f s a)) (l : List α) (s : State) :
    Steady s (l.foldl f s) := by
  induction l generalizing s with
  | nil => exact .refl s
  | cons a l ih => exact (h s a).trans (ih (f s a))

theorem Blocks.steady {bs : List Block} {s t : State} (h : Blocks s t) (k : KeptBut bs s t)
    (ha : Block.arbiter ∉ bs := by decide) (hc : Block.cal ∉ bs := by decide) : Steady s t := ⟨h, .of_kept k ha hc⟩

/-- Blocks without a bound and without a timer. -/
theorem Steady.of_kept {bs : List Block} {s t : State} (k : KeptBut bs s t)
    (hb : bs ⊆ [.trip, .keys, .freeIndex, .service, .handler, .pending] := by decide) : Steady s t := by
  have hout : ∀ b, b ∉ [Block.trip, .keys, .freeIndex, .service, .handler, .pending] → b ∉ bs := fun b h hm => h (hb hm)
  refine Blocks.steady (.of (k.mono hb)) (k.mono hb)

theorem Steady.of_same {s t : State} (b : Blocks s t) (cal : t.cal = s.cal)
    (warnings : t.arbiter.warnings = s.arbiter.warnings) (caution : t.arbiter.cautionOrder = s.arbiter.cautionOrder)
    (advisory : t.arbiter.advisoryOrder = s.arbiter.advisoryOrder) : Steady s t :=
  ⟨b, .of_same cal warnings caution advisory⟩

/-- A change of the arbiter's fields besides warnings and orders. -/
theorem setArbiter_steady {s : State} {a : Arbiter} (warnings : a.warnings = s.arbiter.warnings)
    (caution : a.cautionOrder = s.arbiter.cautionOrder) (advisory : a.advisoryOrder = s.arbiter.advisoryOrder)
    (tick : a.tick.isSome = s.arbiter.tick.isSome) (rate43 : a.rate43.isSome = s.arbiter.rate43.isSome) :
    Steady s (s.setArbiter a) :=
  .of_same (.of (setArbiter_kept s a) (arbiter := fun _ => ⟨tick, rate43⟩)) rfl warnings caution advisory

/-! ### Arbiter events -/

theorem enterShown_blocks (s : State) (w : Nat) : Blocks s (s.enterShown w) := by
  unfold State.enterShown
  refine .after (shownNotice_blocks _ _) (.of ((modifyWarning_kept s w _).trans (setArbiter_kept _ _)) (arbiter := fun _ => ?_))
  exact ⟨rfl, rfl⟩

theorem select_blocks (s : State) : Blocks s s.select := by
  rcases select_cases s with ⟨h, -, -⟩ | ⟨w, -, -, h⟩ | ⟨v, -, -, h⟩ | ⟨v, w, -, -, h⟩
  · rw [h]; exact .refl s
  · rw [h]; exact enterShown_blocks s w
  · rw [h]; exact .refl s
  · rw [h]
    exact .trans (.of (modifyWarning_kept s v _) (arbiter := fun _ => ⟨rfl, rfl⟩)) (enterShown_blocks _ w)

/-- What follows the selection in an arbiter event. -/
def State.afterSelect (s0 s1 : State) : State :=
  let s2 := if s0.shown.isSome && s1.shown.isNone then s1.noneShown else s1
  let s3 := s2.endStaleReview.syncChime
  if s3.summary = s0.summary then s3 else s3.queueSummary

theorem arbiterEvent_eq (s : State) (f : State → State) :
    s.arbiterEvent f = State.afterSelect s (f s).dropPresented.select := rfl

theorem endStaleReview_steady (s : State) : Steady s s.endStaleReview := by
  unfold State.endStaleReview
  split
  · exact .ite (.refl s) (setArbiter_steady rfl rfl rfl rfl rfl)
  · exact .refl s

theorem syncChime_steady (s : State) : Steady s s.syncChime := (syncChime_blocks s).steady (syncChime_kept s)
theorem noneShown_steady (s : State) : Steady s s.noneShown := (noneShown_blocks s).steady (noneShown_kept s)
theorem queueSummary_steady (s : State) : Steady s s.queueSummary := (queueSummary_blocks s).steady (queueSummary_kept s)

theorem afterSelect_steady (s0 s1 : State) : Steady s1 (State.afterSelect s0 s1) := by
  have hchime : Steady s1
      (if s0.shown.isSome && s1.shown.isNone then s1.noneShown else s1).endStaleReview.syncChime :=
    ((Steady.ite (noneShown_steady s1) (.refl s1)).trans (endStaleReview_steady _)).trans (syncChime_steady _)
  exact .ite hchime (hchime.trans (queueSummary_steady _))

theorem arbiterEvent_steady {s : State} {f : State → State} (h : Inner s (f s)) : Steady s (s.arbiterEvent f) := by
  rw [arbiterEvent_eq]
  have hdrop := h.trans (dropPresented_inner _)
  exact .trans ⟨hdrop.blocks.trans (select_blocks _), hdrop.rings.select⟩ (afterSelect_steady _ _)

theorem arbiterEvent_mostUrgent {s : State} {f : State → State} (h : Inner s (f s)) (hc : s.OrdersComplete)
    (hone : s.shownCount ≤ 1) : (s.arbiterEvent f).MostUrgentShown := by
  rw [arbiterEvent_eq]
  have hdrop := (h.trans (dropPresented_inner _)).rings
  have hafter := (afterSelect_steady s (f s).dropPresented.select).rings
  exact hafter.urgent (hdrop.select.complete hc) (select_mostUrgent (hdrop.complete hc) (hdrop.shownCount hone))

theorem edgeRequest_steady (s : State) (w : Nat) : Steady s (s.edgeRequest w) :=
  .ite (arbiterEvent_steady (takeEdge_inner s w)) (.refl s)

theorem requestSet_inner (s : State) (level edge : Nat → Bool) :
    Inner s (((List.range 32).filter ruleFed).foldl
      (fun s w => let s := s.takeLevel w (level w); if edge w then s.takeEdge w else s) s) :=
  .foldl (fun s w => .ite ((takeLevel_inner s w _).trans (takeEdge_inner _ w)) (takeLevel_inner s w _)) _ s

theorem requestSet_steady (s : State) (level edge : Nat → Bool) : Steady s (s.requestSet level edge) :=
  arbiterEvent_steady (requestSet_inner s level edge)

theorem ackPress_inner (s : State) :
    Inner s (match s.shown with
      | some w => if s.guarded w then s else s.acknowledgeAny w
      | none => s.reviewStep) := by
  split
  · exact .ite (.refl s) (acknowledgeAny_inner s _)
  · exact reviewStep_inner s

theorem ackPress_steady (s : State) : Steady s s.ackPress := arbiterEvent_steady (ackPress_inner s)

theorem specificAck_steady (s : State) (w : Nat) : Steady s (s.specificAck w).1 := by
  unfold State.specificAck
  split
  · show Steady s (s.arbiterEvent fun s => s.acknowledgeAny w)
    exact arbiterEvent_steady (acknowledgeAny_inner s w)
  · exact .refl s

theorem patternDone_inner (s : State) (w : Nat) :
    Inner s (if s.shown = some w ∧ s.warningClass w = .information then
      if 40 ≤ (s.warning w).shownTimer then s.acknowledge w
      else s.modifyWarning w fun v => { v with completed := true }
    else s) :=
  .ite (.ite (acknowledge_inner s w) (modifyWarning_inner s w fun _ _ => rfl)) (.refl s)

theorem patternDone_steady (s : State) (w : Nat) : Steady s (s.patternDone w) := arbiterEvent_steady (patternDone_inner s w)

theorem endOff_ok (x : Ign) (s : State) : SoundOk x s.sound s.endOff.1.sound := by
  unfold State.endOff
  dsimp only
  split <;> exact ⟨rfl, .inl⟩

theorem cadenceEnd_blocks (s : State) : Blocks s s.cadenceEnd.1 := by
  refine .of (cadenceEnd_kept s) (sound := fun _ => ?_)
  unfold State.cadenceEnd
  split
  · dsimp only
    split
    · exact .trans (v := { s.sound with channel := .off, cadence := s.current.offTime }) ⟨rfl, .inl⟩ (endOff_ok _ (s.setSound _))
    · exact ⟨rfl, .inl⟩
  · exact endOff_ok _ s
  · split <;> exact ⟨rfl, .inl⟩
  · exact .refl _ _
  · exact .refl _ _

theorem reportDone_steady (s : State) : Steady s (State.reportDone s.cadenceEnd) := by
  have hend : Steady s s.cadenceEnd.1 := (cadenceEnd_blocks s).steady (cadenceEnd_kept s)
  unfold State.reportDone
  split
  · exact (hend.trans (syncChime_steady _)).trans (patternDone_steady _ _)
  · exact hend.trans (syncChime_steady _)

theorem arbiterTicked_inner (s : State) :
    Inner s ((s.setArbiter { s.arbiter with
      warnings := s.arbiter.warnings.map Warning.reminderTick }).reviewTick.shownTick) :=
  .after (shownTick_inner _) (.after (reviewTick_inner _) (reminders_inner s))

theorem arbiterTicked_steady (s : State) : Steady s s.arbiterTicked := arbiterEvent_steady (arbiterTicked_inner s)

theorem cascadeArrival_steady (s : State) : Steady s s.cascadeArrival := by
  unfold State.cascadeArrival
  refine arbiterEvent_steady ?_
  dsimp only
  refine .after (followPresented_inner _) (.after (takeLevel_inner _ _ _) ?_)
  have hsub {l : List SubState} : Inner s (s.setArbiter { s.arbiter with subs := l }) :=
    setArbiter_inner rfl rfl rfl rfl rfl
  exact .ite (hsub.trans (queueCascade_inner _)) hsub

theorem cascadeLost_steady (s : State) : Steady s s.cascadeLost :=
  arbiterEvent_steady (.after (takeLevel_inner _ _ _) (setArbiter_inner rfl rfl rfl rfl rfl))

theorem evaluateRules_steady (s : State) : Steady s s.evaluateRules :=
  .after (requestSet_steady _ _ _) (Blocks.steady (.of (setRules_kept s _) (rules := fun _ => rfl)) (setRules_kept s _))

/-! ### The service unit -/

theorem formItems_steady (s : State) (is : List Nat) : Steady s (s.formItems is) :=
  .trans (.of_kept (formQuietly_kept s is)) (.foldl edgeRequest_steady _ _)

theorem serviceReminders_steady (s : State) : Steady s s.serviceReminders := .foldl edgeRequest_steady _ s

theorem setStore_steady {s : State} {st : Store} (h : StoreReach s.store st) : Steady s (s.setStore st) :=
  (setStore_blocks h).steady (setStore_kept s st)

theorem update_steady (s : State) (b : Nat) (f) : Steady s (s.update b f) := setStore_steady (move_update _ _ _)

theorem settleStore_steady (s : State) : Steady s s.settleStore := (settleStore_blocks s).steady (settleStore_kept s)

theorem fetchService_steady (s : State) (b : Nat) : Steady s (s.fetchService b) :=
  .ite (.refl s) (.trans (setStore_steady (move_fetch _ _)) (.of_kept (setMark_kept _ _ _)))

theorem countItem_steady (km : Bool) (s : State) (i : Nat) : Steady s (State.countItem km s i) :=
  .ite (.ite (update_steady _ _ _) (.trans (.of_kept (modifyItem_kept s i _)) (fetchService_steady _ _))) (.refl s)

theorem countdown_steady (s : State) (km : Bool) : Steady s (s.countdown km) :=
  .trans (.foldl (countItem_steady km) _ s) (formItems_steady _ _)

theorem applyReset_steady (s : State) (i : Nat) (w : Bool) : Steady s (s.applyReset i w) := by
  unfold State.applyReset
  dsimp only
  refine .trans (.trans (.trans (update_steady s _ _) (.of_kept (modifyItem_kept _ i _))) (formItems_steady _ _))
    (setStore_steady ?_)
  split
  · exact (move_writeback _ _ _).trans (.task _ .placing nofun nofun fun _ _ h => by rcases h with h | ⟨_, h⟩ <;> cases h)
  · exact move_writeback _ _ _

theorem requestReset_steady (s : State) (i : Nat) (w : Bool) : Steady s (s.requestReset i w) :=
  .ite (applyReset_steady s i w) (.trans (.of_kept (modifyItem_kept s i _)) (fetchService_steady _ _))

theorem applyPending_steady (s : State) (i : Nat) : Steady s (s.applyPending i) :=
  .ite (.refl s) (.trans (update_steady s _ _) (.of_kept (modifyItem_kept _ i _)))

theorem applyWaiting_steady (s : State) (i : Nat) : Steady s (s.applyWaiting i) :=
  .ite (applyReset_steady s i _) (.refl s)

theorem serviceFill_steady (s : State) (b : Nat) (bad : Bool) : Steady s (s.serviceFill b bad) := by
  unfold State.serviceFill
  dsimp only
  refine .trans (.trans (.trans (.trans (.ite (update_steady s b _) (.refl s)) (.foldl applyPending_steady _ _))
    (.foldl applyWaiting_steady _ _)) (formItems_steady _ _)) (.of_kept (setMark_kept _ _ _))

theorem serviceWritten_steady (s : State) (b : Nat) : Steady s (s.serviceWritten b) := formItems_steady s _

theorem fetchSelected_steady (s : State) : Steady s s.fetchSelected := by
  unfold State.fetchSelected
  split
  · exact .ite (.refl s) (fetchService_steady s _)
  · exact .refl s

theorem stepSelection_steady (s : State) : Steady s s.stepSelection := by
  unfold State.stepSelection
  split
  · exact .refl s
  · dsimp only
    exact .ite (.of_kept (setService_kept s _)) (.trans (.of_kept (setService_kept s _)) (fetchSelected_steady _))

theorem serviceWake_steady (s : State) : Steady s s.serviceWake :=
  .foldl (fun s b => .ite (fetchService_steady s b) (.refl s)) _ s

theorem setCounting_steady {s : State} {c : Counting} (h : CountingOk s.counting c) : Steady s (s.setCounting c) :=
  (setCounting_blocks h).steady (setCounting_kept s c)

theorem heldDays_ok (c : Counting) {n : Nat} (h : n ≤ 255) : CountingOk c { c with heldDays := n } :=
  ⟨fun k => by unfold ClockInRange at *; dsimp only; omega, rfl⟩

theorem deliverHeldDays_steady (s : State) : Steady s s.deliverHeldDays :=
  .trans (setCounting_steady (heldDays_ok _ (Nat.zero_le _))) (.foldl (fun s _ => countdown_steady s false) _ _)

/-! ### The counting unit -/

theorem onTrips_steady {f : State → TripRecord → State} (h : ∀ s r, Steady s (f s r)) (s : State) :
    Steady s (s.onTrips f) := .trans (.trans (h _ _) (h _ _)) (h _ _)

theorem addDistance_steady (s : State) (r : TripRecord) (d : Nat) : Steady s (s.addDistance r d) :=
  (addDistance_blocks s r d).steady (addDistance_kept s r d)

theorem distanceStep_steady (s : State) : Steady s s.distanceStep := by
  unfold State.distanceStep
  dsimp only
  have h1 : Steady s ((s.setCounting s.counting.step).setStore { s.store with latch := true }) :=
    .after (setStore_steady (.latch _)) (setCounting_steady (.of_clock rfl rfl rfl rfl rfl rfl))
  have h2 := h1.trans (Steady.ite (p := 9 ≤ s.counting.odometerSub) ((gainOdometer_blocks _).steady (gainOdometer_kept _)) (.refl _))
  have h3 := h2.trans (onTrips_steady (fun s r => addDistance_steady s r 1) _)
  exact .ite (h3.trans (countdown_steady _ _)) h3

theorem acceptPulse_steady (s : State) : Steady s s.acceptPulse := by
  unfold State.acceptPulse
  dsimp only
  refine .ite (.after (distanceStep_steady _) ?_) ?_
  all_goals exact setCounting_steady (.of_clock rfl rfl rfl rfl rfl rfl)

theorem clockSecond_steady (s : State) : Steady s s.clockSecond := by
  unfold State.clockSecond
  dsimp only
  have h1 : Steady s (s.setCounting s.counting.second.1) := setCounting_steady (second_ok _)
  exact .ite h1 (.ite (h1.trans (countdown_steady _ _))
    (h1.trans (setCounting_steady (heldDays_ok _ (Nat.min_le_left _ _)))))

theorem tripSecond_steady (s : State) : Steady s s.tripSecond :=
  .ite (onTrips_steady (fun s r => (addTime_blocks s r 1).steady (addTime_kept s r 1)) s) (.refl s)

theorem passDue_steady (s : State) : Steady s s.passDue :=
  .ite ((tripPass_blocks s).steady (tripPass_kept s)) (.refl s)

theorem oneSecond_steady (s : State) :
    Steady s (s.setCounting { s.counting with
      secondTimer := 100 }).clockSecond.tripSecond.filterFuel.passDue.rearPageDue.settleStore :=
  .after (settleStore_steady _) (.after ((rearPageDue_blocks _).steady (rearPageDue_kept _)) (.after (passDue_steady _)
    (.after ((filterFuel_blocks _).steady (filterFuel_kept _)) (.after (tripSecond_steady _)
      (.after (clockSecond_steady _) (setCounting_steady (.of_clock rfl rfl rfl rfl rfl rfl)))))))

/-! ### The topic table -/

theorem setSound_steady {s : State} {u : Sound} (h : SoundOk s.ign s.sound u) : Steady s (s.setSound u) :=
  Blocks.steady (.of (setSound_kept s u) (sound := fun _ => h)) (setSound_kept s u)

theorem followQuietCabin_steady (s : State) : Steady s s.followQuietCabin :=
  .after (syncChime_steady _) (setSound_steady ⟨rfl, .inl⟩)

theorem tick_ok (x : Ign) (u : Sound) : SoundOk x u u.tick := by
  unfold Sound.tick
  split <;> exact ⟨rfl, .inl⟩

theorem click_ok (x : Ign) (u : Sound) : SoundOk x u u.click := by
  unfold Sound.click
  split <;> exact ⟨rfl, .inl⟩

theorem turnTick_steady (s : State) : Steady s s.turnTick := by
  refine setSound_steady ?_
  split
  · exact .trans (v := { s.sound with lastLeft := s.turnLeft, lastRight := s.turnRight }) ⟨rfl, .inl⟩ (tick_ok _ _)
  · exact ⟨rfl, .inl⟩

theorem tellArrival_steady (s : State) (e : Nat) : Steady s (s.tellArrival e) := by
  unfold State.tellArrival
  split
  · exact (fuelArrival_blocks s).steady (fuelArrival_kept s)
  · exact .after (turnTick_steady _) (.after ((turnArrival_blocks _).steady (turnArrival_kept _))
      ((tankArrival_blocks s).steady (tankArrival_kept s)))
  · exact .trans (cascadeArrival_steady s) (followQuietCabin_steady _)
  · exact .refl s

theorem tellLost_steady (s : State) (e : Nat) : Steady s (s.tellLost e) := by
  unfold State.tellLost
  split
  · exact (gaugesLoseEngine_blocks s).steady (gaugesLoseEngine_kept s)
  · exact setCounting_steady (.of_clock rfl rfl rfl rfl rfl rfl)
  · refine .after (setSound_steady ⟨rfl, .inl⟩) (.after (setCounting_steady (.of_clock rfl rfl rfl rfl rfl rfl)) ?_)
    exact .after ((gaugesLoseBody_blocks _).steady (gaugesLoseBody_kept _)) ((tankLost_blocks s).steady (tankLost_kept s))
  · exact .trans (cascadeLost_steady s) (followQuietCabin_steady _)
  · exact .refl s

theorem setTopics_steady {s : State} {x : Topics} (h : x.tick.isSome = s.topics.tick.isSome) : Steady s (s.setTopics x) :=
  Blocks.steady (.of (setTopics_kept s x) (topics := fun _ => h)) (setTopics_kept s x)

theorem toEntry_steady (s : State) (e a b : Nat) (d : List Byte) : Steady s (s.toEntry e a b d) :=
  .ite (.after (tellArrival_steady _ _) (setTopics_steady rfl)) (setTopics_steady rfl)

theorem freshness_steady {s : State} (h : s.topics.tick.isSome = true) : Steady s s.freshness := by
  unfold State.freshness
  dsimp only
  exact .after (setCounting_steady (turnFreshness_ok _)) (.after (.foldl tellLost_steady _ _) (setTopics_steady h.symm))

/-! ### Keys -/

theorem selectPage_steady (s : State) (p : Page) : Steady s (s.selectPage p) :=
  .ite (.trans (.of_kept (setTrip_kept s _)) (fetchSelected_steady _)) (.of_kept (setTrip_kept s _))

theorem pageMode_steady (s : State) : Steady s s.pageMode :=
  .ite (.refl s) (.ite (.of_kept (setHold_kept s _ _)) (selectPage_steady s _))

theorem takePress_steady (s : State) (k : Key) : Steady s (s.takePress k) := by
  unfold State.takePress
  dsimp only
  have h1 : Steady s (s.setCounting s.counting.restartIdle) := setCounting_steady (restartIdle_ok _)
  split
  · exact h1.trans (ackPress_steady _)
  · exact .ite (h1.trans (setCounting_steady (settingMode_ok _))) (h1.trans (pageMode_steady _))
  · exact .ite (h1.trans (setCounting_steady (settingSet_ok _))) (h1.trans (.of_kept (pageSet_kept _)))
  · exact .ite h1 (h1.trans (.of_kept (pageReset_kept _)))

theorem pressKey_steady (s : State) (k : Key) : Steady s (s.pressKey k) := by
  unfold State.pressKey
  dsimp only
  refine .ite (.of_kept (putKey_kept s k _)) (.ite (.after (takePress_steady _ k) ?_) (.of_kept (putKey_kept s k _)))
  exact .after (setSound_steady (click_ok _ _)) (.of_kept (putKey_kept s k _))

theorem releaseKey_steady (s : State) (k : Key) : Steady s (s.releaseKey k) :=
  .ite (.after (selectPage_steady _ _) (.of_kept (putKey_kept s k _))) (.of_kept (putKey_kept s k _))

theorem clockSetMark_steady (s : State) : Steady s s.clockSetMark := by
  unfold State.clockSetMark
  split
  · exact .trans (.of_kept (setHold_kept s _ _)) (setCounting_steady (.of_clock rfl rfl rfl rfl rfl rfl))
  · exact .refl s

theorem tripResetMark_steady (s : State) : Steady s s.tripResetMark := by
  unfold State.tripResetMark
  split
  · exact .trans (.of_kept (setHold_kept s _ _)) ((resetTrip_blocks _ _).steady (resetTrip_kept _ _))
  · exact .refl s

theorem serviceStepMark_steady (s : State) : Steady s s.serviceStepMark := by
  unfold State.serviceStepMark
  split
  · exact .trans (.of_kept (putKey_kept s _ _)) (stepSelection_steady _)
  · exact .refl s

theorem serviceResetMark_steady (s : State) : Steady s s.serviceResetMark := by
  unfold State.serviceResetMark
  split
  · dsimp only
    split
    · exact .ite (.trans (.of_kept (setHold_kept s _ _)) (requestReset_steady _ _ _)) (.of_kept (setHold_kept s _ _))
    · exact .of_kept (setHold_kept s _ _)
  · exact .refl s

/-! ### The workshop handler -/

theorem returnStatus_steady (s : State) (x : Status) {r : List Byte} (h : r.length ≤ 6) : Steady s (s.returnStatus x r) :=
  (returnStatus_blocks s x h).steady (returnStatus_kept s x r)

theorem reply_steady (s : State) (x : Status) : Steady s (s.returnStatus x []) := returnStatus_steady s x (Nat.zero_le _)

theorem badRequest_steady (s : State) : Steady s s.badRequest := reply_steady s _

theorem takeTask_steady {s : State} {r : Store × Option Status} (h : StoreReach s.store r.1) : Steady s (s.takeTask r) := by
  obtain ⟨st, x⟩ := r
  cases x with
  | none => exact .trans (setStore_steady h) (settleStore_steady _)
  | some x => exact .trans (.trans (setStore_steady h) (reply_steady _ x)) (settleStore_steady _)

/-- Whether a task takes a line away when it ends. -/
def Task.isRemoval : Task → Bool
  | .invalidate _ | .writebackInvalidate _ _ => true
  | _ => false

theorem not_removes_of_isRemoval {k : Task} (h : k.isRemoval = false) (b : Nat) : ¬k.Removes b := by
  rintro (rfl | ⟨x, rfl⟩) <;> cases h

/-- A task that removes no system line may be set at any time. -/
theorem reach_setTask {st : Store} {k : Task} (h : ∀ b ≤ 2, ¬k.Removes b) : StoreReach st { st with task := k } :=
  .task st k nofun nofun fun b hb hr => absurd hr (h b hb)

theorem reach_setCalmTask {st : Store} {k : Task} (h : k.isRemoval = false := by rfl) :
    StoreReach st { st with task := k } := reach_setTask fun b _ => not_removes_of_isRemoval h b

theorem reach_taskFetch (st : Store) (b : Nat) : StoreReach st (st.taskFetch b).1 := by
  unfold Store.taskFetch
  split
  · exact move_fetch st b
  · exact (move_fetch st b).trans reach_setCalmTask

theorem reach_taskFetchPin (st : Store) (b : Nat) : StoreReach st (st.taskFetchPin b).1 := by
  unfold Store.taskFetchPin
  split
  · exact move_fetch st b
  · split
    · exact .refl st
    · split
      · exact (move_fetch st b).trans (move_setPin (.inl rfl))
      · exact (move_fetch st b).trans reach_setCalmTask

theorem two_lt_of_not_system {b : Nat} (h : systemBlock b ≠ true) : 2 < b := by
  unfold systemBlock at h
  simpa using h

theorem reach_taskUnpin (st : Store) (b : Nat) : StoreReach st (st.taskUnpin b).1 := by
  unfold Store.taskUnpin
  split
  · exact .refl st
  · rename_i h
    split
    · exact move_setPin (.inr (two_lt_of_not_system h))
    · exact .refl st

theorem reach_taskWriteback (st : Store) (b : Nat) : StoreReach st (st.taskWriteback b).1 :=
  (move_writeback st b true).trans reach_setCalmTask

theorem reach_taskWritebackInvalidate (st : Store) (b : Nat) : StoreReach st (st.taskWritebackInvalidate b).1 := by
  unfold Store.taskWritebackInvalidate
  split
  · exact .refl st
  · rename_i h
    split
    · exact .refl st
    · refine reach_setTask fun c hc hr => ?_
      have := two_lt_of_not_system h
      rcases hr with hr | ⟨x, hr⟩ <;> injection hr
      omega

theorem reach_taskInvalidate (st : Store) (b : Nat) : StoreReach st (st.taskInvalidate b).1 := by
  unfold Store.taskInvalidate
  split
  · exact .refl st
  · split
    · exact .refl st
    · rename_i h
      refine reach_setTask fun c hc hr => ?_
      have := two_lt_of_not_system (b := b) fun k => h (by rw [k]; rfl)
      rcases hr with hr | ⟨x, hr⟩
      · injection hr; omega
      · cases hr

theorem reach_taskIndex (st : Store) (x y : Nat) : StoreReach st (st.taskIndex x y).1 := by
  unfold Store.taskIndex
  dsimp only
  split
  · exact .refl st
  · exact reach_taskWritebackInvalidate st _
  · exact .refl st

theorem reach_taskVerify (st : Store) (b : Nat) : StoreReach st (st.taskVerify b).1 :=
  (move_place nofun).trans reach_setCalmTask

theorem reach_taskSetOdometer (st : Store) (v : Nat) : StoreReach st (st.taskSetOdometer v).1 := by
  unfold Store.taskSetOdometer
  split
  · exact .refl st
  · split
    · exact .refl st
    · exact ((move_update st 0 _).trans (move_writeback _ _ _)).trans
        reach_setCalmTask

theorem recordOperation_steady (s : State) (op b : Nat) : Steady s (s.recordOperation op b) := by
  unfold State.recordOperation
  split
  · exact takeTask_steady (reach_taskFetch _ _)
  · exact takeTask_steady (reach_taskFetchPin _ _)
  · exact takeTask_steady (reach_taskUnpin _ _)
  · exact takeTask_steady (reach_taskWriteback _ _)
  · exact takeTask_steady (reach_taskWritebackInvalidate _ _)
  · exact takeTask_steady (reach_taskInvalidate _ _)
  · exact takeTask_steady (reach_taskVerify _ _)

theorem readResult_length (d : List Byte) (o x : Nat) : (readResult d o x).length ≤ 6 := by simp [readResult]

theorem requestRead_steady (s : State) (b o : Nat) : Steady s (s.requestRead b o) := by
  refine .ite ?_ ?_
  · exact .trans (.trans (setStore_steady (move_fetch _ _)) (returnStatus_steady _ _ (readResult_length _ _ _)))
      (settleStore_steady _)
  · exact .trans (setStore_steady ((move_fetch _ _).trans reach_setCalmTask))
      (settleStore_steady _)

theorem endTask_steady (s : State) : Steady s (s.setStore { s.store with task := .none }) :=
  setStore_steady reach_setCalmTask

theorem applyWrite_steady (s : State) (b o : Nat) (d : List Byte) : Steady s (s.applyWrite b o d) := by
  unfold State.applyWrite
  dsimp only
  refine .ite ((endTask_steady s).trans (reply_steady _ _)) (.after (reply_steady _ _) ?_)
  have h1 := (endTask_steady s).trans (update_steady (s.setStore { s.store with task := .none }) b fun bs => splice bs o d)
  exact .ite (h1.trans (serviceWritten_steady _ _)) h1

theorem requestWrite_steady (s : State) (b o : Nat) (d : List Byte) : Steady s (s.requestWrite b o d) := by
  refine .ite (reply_steady s _) (.ite ((applyWrite_steady s b o d).trans (settleStore_steady _)) ?_)
  exact .trans (setStore_steady ((move_fetch _ _).trans reach_setCalmTask))
    (settleStore_steady _)

theorem requestServiceReset_steady (s : State) (i : Nat) : Steady s (s.requestServiceReset i) :=
  .ite ((requestReset_steady s i true).trans (settleStore_steady _)) (reply_steady s _)

theorem requestAck_steady (s : State) (w : Nat) : Steady s (s.requestAck w) :=
  (specificAck_steady s w).trans (reply_steady _ _)

theorem statusResult_length {s : State} {x y : Nat} {r : List Byte} (h : s.statusResult x y = some r) : r.length ≤ 6 := by
  unfold State.statusResult at h
  dsimp only at h
  split at h
  all_goals
    try split at h
    all_goals first
      | cases h
        done
      | (injection h with h
         subst h
         simp [Entry.statusBytes, CacheLine.statusBytes, State.warningStates, bytes6])

theorem requestStatus_steady (s : State) (x y : Nat) : Steady s (s.requestStatus x y) := by
  unfold State.requestStatus
  split
  · rename_i r hr
    exact returnStatus_steady _ _ (statusResult_length hr)
  · exact badRequest_steady s

theorem requestClose_steady (s : State) : Steady s s.requestClose :=
  .trans (setStore_steady (.latch _)) (reply_steady _ _)

theorem requestGaugeTest_steady (s : State) : Steady s s.requestGaugeTest :=
  (requestGaugeTest_blocks s).steady (requestGaugeTest_kept s)

end Sys2Proof.Machine
end

section
/-! SUPPORT. Every command that keeps the ignition state is `Steady`; and what a change of the ignition state keeps of
the bounds (`Keeps`) and of the arbiter (`Rings`). -/
namespace Sys2Proof.Machine
set_option Elab.async false

/-! ### Workshop and line -/

theorem takeEmpty_steady {s u : State} (h : Steady s u) (d : List Byte) : Steady s (s.takeEmpty u d) := by
  unfold State.takeEmpty
  split
  · exact h
  · exact badRequest_steady s

theorem takeRead_steady (s : State) (d : List Byte) : Steady s (s.takeRead d) := by
  unfold State.takeRead
  split
  · exact .ite (requestRead_steady s _ _) (badRequest_steady s)
  · exact badRequest_steady s

theorem takeWrite_steady (s : State) (d : List Byte) : Steady s (s.takeWrite d) := by
  unfold State.takeWrite
  split
  · exact .ite (requestWrite_steady s _ _ _) (badRequest_steady s)
  · exact badRequest_steady s

theorem takeRecordOperation_steady (s : State) (d : List Byte) : Steady s (s.takeRecordOperation d) := by
  unfold State.takeRecordOperation
  split
  · exact .ite (recordOperation_steady s _ _) (badRequest_steady s)
  · exact .ite (takeTask_steady (reach_taskIndex _ _ _)) (badRequest_steady s)
  · exact badRequest_steady s

theorem takeOdometer_steady (s : State) (d : List Byte) : Steady s (s.takeOdometer d) :=
  .ite (takeTask_steady (reach_taskSetOdometer _ _)) (badRequest_steady s)

theorem takeServiceReset_steady (s : State) (d : List Byte) : Steady s (s.takeServiceReset d) := by
  unfold State.takeServiceReset
  split
  · exact .ite (requestServiceReset_steady s _) (badRequest_steady s)
  · exact badRequest_steady s

theorem takeAck_steady (s : State) (d : List Byte) : Steady s (s.takeAck d) := by
  unfold State.takeAck
  split
  · exact .ite (requestAck_steady s _) (badRequest_steady s)
  · exact badRequest_steady s

theorem takeStatus_steady (s : State) (d : List Byte) : Steady s (s.takeStatus d) := by
  unfold State.takeStatus
  split
  · exact requestStatus_steady s _ _
  · exact badRequest_steady s

theorem carryOut_steady (s : State) (topic : Nat) (d : List Byte) : Steady s (s.carryOut topic d) :=
  .ite (takeRead_steady s d) (.ite (takeWrite_steady s d) (.ite (takeRecordOperation_steady s d)
    (.ite (takeOdometer_steady s d) (.ite (takeEmpty_steady (requestClose_steady s) d) (.ite (takeServiceReset_steady s d)
      (.ite (takeAck_steady s d) (.ite (takeStatus_steady s d)
        (.ite (takeEmpty_steady (requestGaugeTest_steady s) d) (badRequest_steady s)))))))))

theorem workshopRequest_steady (s : State) (topic : Nat) (d : List Byte) : Steady s (s.workshopRequest topic d) :=
  .ite (.refl s) (.ite (.after (carryOut_steady _ _ _) (.of_kept (setHandler_kept s _)))
    ((answerBusy_blocks s topic).steady (answerBusy_kept s topic)))

theorem setLine_steady {s : State} {l : LineStation} (h : LineOk s.ign s.line l) : Steady s (s.setLine l) :=
  (setLine_blocks h).steady (setLine_kept s l)

/-- A change of counters and faults of the line station. -/
theorem counters_steady {s : State} {l : LineStation} (hq : l.queue = s.line.queue) (hstate : l.state = s.line.state)
    (hsent : l.sent = s.line.sent) (h40 : l.rate40 = s.line.rate40) (h41 : l.rate41 = s.line.rate41)
    (hs : l.silence = s.line.silence) : Steady s (s.setLine l) :=
  setLine_steady (.of_queue (fun h => ⟨hq ▸ h.1, hq ▸ h.2.1⟩) hstate hsent h40 h41 hs)

theorem handOn_steady (s : State) (bs : List Byte) : Steady s (s.handOn bs) := by
  unfold State.handOn
  split
  · exact toEntry_steady s _ _ _ _
  · exact .ite (workshopRequest_steady s _ _) (counters_steady rfl rfl rfl rfl rfl rfl)
  · exact counters_steady rfl rfl rfl rfl rfl rfl

theorem heard_steady (s : State) : Steady s s.heard := by
  refine setLine_steady (.of_state rfl id rfl rfl fun h => ?_)
  by_cases hrun : s.ign = .run
  · exact .inr hrun
  · rw [if_neg hrun] at h
    exact .inl h

theorem takeValid_steady (s : State) (bs : List Byte) : Steady s (s.takeValid bs) := by
  unfold State.takeValid
  dsimp only
  exact .ite (heard_steady s) (.ite (.after (counters_steady rfl rfl rfl rfl rfl rfl) (heard_steady s))
    (.ite ((heard_steady s).trans (handOn_steady _ bs)) (heard_steady s)))

theorem endGap_steady (s : State) (bs : List Byte) (f : Bool) : Steady s (s.endGap bs f) := by
  refine .dite (fun h => ?_) fun _ => .refl s
  have hgap : Steady s (s.setLine { s.line with state := .quiet, quiet := 2, driven := false, drivenTime := 0 }) :=
    setLine_steady (.of_state rfl (fun k _ => k (by rw [h.1]; decide)) rfl rfl .inl)
  exact .ite (hgap.trans (takeValid_steady _ bs)) (.after (counters_steady rfl rfl rfl rfl rfl rfl) hgap)

theorem messageSent_steady (s : State) : Steady s s.messageSent := (messageSent_blocks s).steady (messageSent_kept s)

theorem clash_steady (s : State) (b : Bool) : Steady s (s.clash b) := (clash_blocks s b).steady (clash_kept s b)

/-! ### The store's operations -/

theorem taskFilled_steady (s : State) (b : Nat) (d : List Byte) (x : Bool) : Steady s (s.taskFilled b d x) := by
  unfold State.taskFilled
  dsimp only
  split
  · exact .ite ((endTask_steady s).trans (reply_steady _ _)) (.refl s)
  · exact .ite ((endTask_steady s).trans (returnStatus_steady _ _ (readResult_length _ _ _))) (.refl s)
  · exact .refl s

theorem taskApplied_steady (s : State) (b : Nat) : Steady s (s.taskApplied b) := by
  unfold State.taskApplied
  split
  · exact .ite (applyWrite_steady s _ _ _) (.refl s)
  · exact .refl s

theorem verifyEnd_steady (s : State) (b : Nat) : Steady s (s.verifyEnd b) := by
  refine .after (settleStore_steady _) (.after (reply_steady _ _) (setStore_steady ?_))
  exact ((move_endKind nofun).trans (.op _ none nofun)).trans reach_setCalmTask

theorem writeTimedOut_steady (s : State) : Steady s s.writeTimedOut :=
  .ite (.after (settleStore_steady _) (.after (.of_kept (setFreeIndex_kept _ _)) (setStore_steady (move_writeFailed _ _))))
    (.refl s)

theorem pwrFall_steady (s : State) : Steady s s.pwrFall :=
  .after (settleStore_steady _) (.after (.of_kept (setFreeIndex_kept _ _))
    (setStore_steady ((move_abandonWrite s.store s.freeIndex).trans (.flags _ _ _ _ false))))

theorem pwrRise_steady (s : State) : Steady s s.pwrRise :=
  .after (settleStore_steady _) (setStore_steady (.flags _ _ _ _ true))

/-! ### Every command that keeps the ignition state -/

theorem setGauges_steady {s : State} {u : Gauges} (h : GaugesOk s.ign s.gauges u) : Steady s (s.setGauges u) :=
  (setGauges_blocks h).steady (setGauges_kept s u)

theorem setRules_steady {s : State} {r : Rules} (h : r.timer.isSome = s.rules.timer.isSome) : Steady s (s.setRules r) :=
  Blocks.steady (.of (setRules_kept s r) (rules := fun _ => h)) (setRules_kept s r)

theorem evaluation_steady (s : State) :
    Steady s (if s.rules.timer.isSome then (s.setRules { s.rules with timer := some 10 }).evaluateRules else s) :=
  .dite (fun h => .after (evaluateRules_steady _)
    (setRules_steady h.symm)) fun _ => .refl s

theorem arbiterTick_steady (s : State) :
    Steady s (if s.arbiter.tick.isSome then (s.setArbiter { s.arbiter with tick := some 10 }).arbiterTicked else s) :=
  .dite (fun h => .after (arbiterTicked_steady _) (setArbiter_steady rfl rfl rfl h.symm rfl)) fun _ => .refl s

theorem rate43_steady (s : State) :
    Steady s (if s.arbiter.rate43.isSome then (s.setArbiter { s.arbiter with rate43 := some 200 }).queueSummary else s) :=
  .dite (fun h => .after (queueSummary_steady _) (setArbiter_steady rfl rfl rfl rfl h.symm)) fun _ => .refl s

theorem rate40_steady (s : State) :
    Steady s (if s.line.rate40.isSome then (s.setLine { s.line with rate40 := some 10 }).queueSpeed else s) :=
  .dite (fun h => .after ((queueSpeed_blocks _).steady (queueSpeed_kept _))
    (setLine_steady (.of_state rfl id h.symm rfl .inl))) fun _ => .refl s

theorem rate41_steady (s : State) :
    Steady s (if s.line.rate41.isSome then (s.setLine { s.line with rate41 := some 100 }).queueOdometer else s) :=
  .dite (fun h => .after ((queueOdometer_blocks _).steady (queueOdometer_kept _))
    (setLine_steady (.of_state rfl id rfl h.symm .inl))) fun _ => .refl s

theorem gaugeUpdate_steady (s : State) :
    Steady s (if s.gauges.timer.isSome then (s.setGauges { s.gauges with timer := some 2 }).updateGauges else s) :=
  .dite (fun h => .after ((updateGauges_blocks _).steady (updateGauges_kept _))
    (setGauges_steady ⟨id, h.symm, .inl⟩)) fun _ => .refl s

theorem requestSend_timer (s : State) : s.requestSend.display.timer = s.display.timer := by
  unfold State.requestSend
  split <;> rfl

theorem display_steady {s t : State} (k : KeptBut [.display] s t) (h : t.display.timer.isSome = s.display.timer.isSome) :
    Steady s t := Blocks.steady (.of k (display := fun _ => h)) k

theorem requestSend_steady (s : State) : Steady s s.requestSend := display_steady (requestSend_kept s) (by rw [requestSend_timer])

theorem endTransfer_steady (s : State) : Steady s s.endTransfer := by
  unfold State.endTransfer
  split
  · exact .refl s
  · have hend (d : Display) (h : d.timer = s.display.timer) : Steady s (s.setDisplay d) :=
      display_steady (setDisplay_kept s d) (by rw [← h]; rfl)
    dsimp only
    exact .ite (.after (requestSend_steady _) (hend _ rfl)) (hend _ rfl)

theorem displayTimer_steady (s : State) :
    Steady s (if s.display.timer.isSome then (s.setDisplay { s.display with timer := some 10 }).requestSend else s) :=
  .dite (fun h => .after (requestSend_steady _) (display_steady (setDisplay_kept s _) h.symm)) fun _ => .refl s

theorem speedPulse_steady (s : State) (e : Nat) :
    Steady s (if s.ign.counts && (s.setCounting (s.counting.later e)).counting.edgeAccepted then
      (s.setCounting (s.counting.later e)).acceptPulse.settleStore else s.setCounting (s.counting.later e)) := by
  have h1 : Steady s (s.setCounting (s.counting.later e)) := setCounting_steady (.of_clock rfl rfl rfl rfl rfl rfl)
  exact .ite ((h1.trans (acceptPulse_steady _)).trans (settleStore_steady _)) h1

theorem reminderExpiry_inner (s : State) (w : Nat) : Inner s (s.modifyWarning w Warning.reminderDone) :=
  modifyWarning_inner s w reminderDone_state

/-- The commands of counting, keys, display and topics, as they stand before the display record is sent. -/
theorem steady_exec_counting {c : Instr} (hc : c ∈ [Instr.halfSecondWindowClosure, .oneSecondTimer, .operationComplete,
    .freshnessTick, .turnSignalCountTimeout, .clockSetHold, .keyIdleTimerExpiry, .tripResetHold, .serviceStepHold,
    .serviceResetHold, .displayTimerExpiry, .displayTransferEnd]) (s : State) :
    ∃ u, exec c s = .next (State.present s u) ∧ Steady s u := by
  simp only [List.mem_cons, List.not_mem_nil, or_false] at hc
  rcases hc with rfl | rfl | rfl | rfl | rfl | rfl | rfl | rfl | rfl | rfl | rfl | rfl
  · exact ⟨_, rfl, .dite (fun h => (closeWindow_blocks h).steady (closeWindow_kept s)) fun _ => .refl s⟩
  · exact ⟨_, rfl, oneSecond_steady s⟩
  · exact ⟨_, rfl, (complete_blocks s).steady (complete_kept s)⟩
  · exact ⟨_, rfl, .dite freshness_steady fun _ => .refl s⟩
  · exact ⟨_, rfl, .ite (setCounting_steady (.of_clock rfl rfl rfl rfl rfl rfl)) (.refl s)⟩
  · exact ⟨_, rfl, clockSetMark_steady s⟩
  · exact ⟨_, rfl, .ite (setCounting_steady (endSetting_ok _)) (.refl s)⟩
  · exact ⟨_, rfl, tripResetMark_steady s⟩
  · exact ⟨_, rfl, (serviceStepMark_steady s).trans (settleStore_steady _)⟩
  · exact ⟨_, rfl, (serviceResetMark_steady s).trans (settleStore_steady _)⟩
  · exact ⟨_, rfl, displayTimer_steady s⟩
  · exact ⟨_, rfl, endTransfer_steady s⟩

/-- The commands of line and gauges without a parameter. -/
theorem steady_exec_line {c : Instr} (hc : c ∈ [Instr.initQuietReached, .accessWaitReached, .lineStuck, .lineReleased,
    .silenceTimerExpiry, .rate40hExpiry, .rate41hExpiry, .lineDriven, .lineReleasedAfterBreak, .gaugeUpdate, .sweepTick,
    .sweepEnd]) (s : State) :
    ∃ u, exec c s = .next (State.present s u) ∧ Steady s u := by
  simp only [List.mem_cons, List.not_mem_nil, or_false] at hc
  rcases hc with rfl | rfl | rfl | rfl | rfl | rfl | rfl | rfl | rfl | rfl | rfl | rfl
  · exact ⟨_, rfl, setLine_steady (initQuiet_ok _ _)⟩
  · exact ⟨_, rfl, .ite (setLine_steady (startSending_ok _ _ _)) (.refl s)⟩
  · exact ⟨_, rfl, setLine_steady (goStuck_ok _ _)⟩
  · exact ⟨_, rfl, setLine_steady (release_ok _ _)⟩
  · exact ⟨_, rfl, .ite (setLine_steady (.of_state rfl id rfl rfl nofun)) (.refl s)⟩
  · exact ⟨_, rfl, rate40_steady s⟩
  · exact ⟨_, rfl, rate41_steady s⟩
  · exact ⟨_, rfl, setLine_steady (drive_ok _ _)⟩
  · exact ⟨_, rfl, setLine_steady (releaseAfterBreak_ok _ _)⟩
  · exact ⟨_, rfl, gaugeUpdate_steady s⟩
  · exact ⟨_, rfl, (sweepStep_blocks s).steady (sweepStep_kept s)⟩
  · exact ⟨_, rfl, .ite ((endSweep_blocks s).steady (endSweep_kept s)) (.refl s)⟩

/-- The commands of rules, warnings, sound and store without a parameter. -/
theorem steady_exec_warning {c : Instr} (hc : c ∈ [Instr.evaluation, .arbiterTick, .shownTimerExpiry, .reviewTimerExpiry,
    .rate43hExpiry, .cadenceExpiry, .clickTimerExpiry, .tickTimerExpiry, .flashCounterExpiry, .bulbCheckExpiry,
    .blockWriteTimeout, .pwrGoodFall, .pwrGoodRise]) (s : State) :
    ∃ u, exec c s = .next (State.present s u) ∧ Steady s u := by
  simp only [List.mem_cons, List.not_mem_nil, or_false] at hc
  rcases hc with rfl | rfl | rfl | rfl | rfl | rfl | rfl | rfl | rfl | rfl | rfl | rfl | rfl
  · exact ⟨_, rfl, evaluation_steady s⟩
  · exact ⟨_, rfl, arbiterTick_steady s⟩
  · exact ⟨_, rfl, arbiterEvent_steady (shownExpired_inner s)⟩
  · exact ⟨_, rfl, setArbiter_steady rfl rfl rfl rfl rfl⟩
  · exact ⟨_, rfl, rate43_steady s⟩
  · exact ⟨_, rfl, reportDone_steady s⟩
  · refine ⟨_, rfl, setSound_steady ?_⟩
    unfold Sound.endClick
    split <;> exact ⟨rfl, .inl⟩
  · refine ⟨_, rfl, setSound_steady ?_⟩
    unfold Sound.endTick
    split <;> exact ⟨rfl, .inl⟩
  · exact ⟨_, rfl, .dite (fun h => setSound_steady ⟨h.symm, .inl⟩) fun _ => .refl s⟩
  · exact ⟨_, rfl, setSound_steady ⟨rfl, nofun⟩⟩
  · exact ⟨_, rfl, writeTimedOut_steady s⟩
  · exact ⟨_, rfl, pwrFall_steady s⟩
  · exact ⟨_, rfl, pwrRise_steady s⟩

/-- A command that is no workshop request and moves no ignition state is one of those above, or has a parameter. -/
theorem steady_exec {c : Instr} (hm : c.movesIgnition = false) (s : State) :
    ∃ u, exec c s = .next (State.present s u) ∧ Steady s u := by
  cases hr : c.request with
  | some r => exact ⟨_, exec_of_request hr s, workshopRequest_steady _ _ _⟩
  | none =>
    cases c with
    | speedPulse e => exact ⟨_, rfl, speedPulse_steady s e⟩
    | keyPress k => exact ⟨_, rfl, (pressKey_steady s k).trans (settleStore_steady _)⟩
    | keyRelease k => exact ⟨_, rfl, releaseKey_steady s k⟩
    | breakEnd b => exact ⟨_, rfl, setLine_steady (breakEnd_ok _ _ _)⟩
    | endGap bs f => exact ⟨_, rfl, endGap_steady s bs f⟩
    | parkCountExpiry g =>
      exact ⟨_, rfl, .ite ((modifyGauge_blocks s _ (f := Gauge.endPark) fun _ h => h).steady (modifyGauge_kept s _ _)) (.refl s)⟩
    | reminderTimerExpiry w => exact ⟨_, rfl, arbiterEvent_steady (reminderExpiry_inner s w)⟩
    | patternComplete w => exact ⟨_, rfl, patternDone_steady s w⟩
    | serviceEdgeRequest w => exact ⟨_, rfl, edgeRequest_steady s _⟩
    | halfSecondWindowClosure | oneSecondTimer | operationComplete | freshnessTick | turnSignalCountTimeout |
      clockSetHold | keyIdleTimerExpiry | tripResetHold | serviceStepHold | serviceResetHold |
      displayTimerExpiry | displayTransferEnd =>
      exact steady_exec_counting (by simp) s
    | initQuietReached | accessWaitReached | lineStuck | lineReleased | silenceTimerExpiry | rate40hExpiry |
      rate41hExpiry | lineDriven | lineReleasedAfterBreak | gaugeUpdate | sweepTick | sweepEnd =>
      exact steady_exec_line (by simp) s
    | evaluation | arbiterTick | shownTimerExpiry | reviewTimerExpiry | rate43hExpiry | cadenceExpiry |
      clickTimerExpiry | tickTimerExpiry | flashCounterExpiry | bulbCheckExpiry | blockWriteTimeout |
      pwrGoodFall | pwrGoodRise =>
      exact steady_exec_warning (by simp) s
    | _ => first | (cases hm; done) | cases hr

end Sys2Proof.Machine
end

section
/-! SUPPORT. What a change of the ignition state keeps of the bounds and of the arbiter: `Bounded`, and `Moves`, which has
the arbiter's invariants too. -/
namespace Sys2Proof.Machine
set_option Elab.async false

/-! ### The relations -/

/-- The bounds of every block stay. -/
structure Bounded (s t : State) : Prop where
  clock : ClockInRange s.counting → ClockInRange t.counting
  line : s.line.InBounds → t.line.InBounds
  gauges : GaugesInRange s → GaugesInRange t
  served : s.arith.Served → t.arith.Served
  store : StoreReach s.store t.store

/-- The bounds and the arbiter's invariants stay. -/
structure Moves (s t : State) : Prop where
  bounds : Bounded s t
  rings : Rings s t

theorem Bounded.refl (s : State) : Bounded s s := ⟨id, id, id, id, .refl _⟩

theorem Bounded.trans {s t u : State} (h : Bounded s t) (k : Bounded t u) : Bounded s u :=
  ⟨k.clock ∘ h.clock, k.line ∘ h.line, k.gauges ∘ h.gauges, k.served ∘ h.served, h.store.trans k.store⟩

theorem Blocks.bounded {s t : State} (h : Blocks s t) : Bounded s t :=
  ⟨h.counting.clock, h.line.bounds, h.gauges.range, h.served, h.store⟩

/-- From an operation's frame and what it does to the bounded blocks. -/
theorem Bounded.of {bs : List Block} {s t : State} (k : KeptBut bs s t)
    (counting : Block.counting ∈ bs → ClockInRange s.counting → ClockInRange t.counting := by
      exact fun h => absurd h (by decide))
    (line : Block.line ∈ bs → s.line.InBounds → t.line.InBounds := by exact fun h => absurd h (by decide))
    (gauges : Block.gauges ∈ bs → GaugesInRange s → GaugesInRange t := by exact fun h => absurd h (by decide))
    (arith : Block.arith ∈ bs → s.arith.Served → t.arith.Served := by exact fun h => absurd h (by decide))
    (store : Block.store ∈ bs → StoreReach s.store t.store := by exact fun h => absurd h (by decide)) : Bounded s t where
  clock := if hb : _ then counting hb else k.counting hb ▸ id
  line := if hb : _ then line hb else k.line hb ▸ id
  gauges := if hb : _ then gauges hb else by unfold GaugesInRange; rw [k.gauges hb]; exact id
  served := if hb : _ then arith hb else k.arith hb ▸ id
  store := if hb : _ then store hb else k.store hb ▸ .refl _

theorem Moves.refl (s : State) : Moves s s := ⟨.refl s, .refl s⟩
theorem Moves.trans {s t u : State} (h : Moves s t) (k : Moves t u) : Moves s u :=
  ⟨h.bounds.trans k.bounds, h.rings.trans k.rings⟩
theorem Moves.after {s t u : State} (k : Moves t u) (h : Moves s t) : Moves s u := h.trans k
theorem Moves.ite {p : Prop} [Decidable p] {s t u : State} (h : Moves s t) (k : Moves s u) :
    Moves s (if p then t else u) := by split <;> assumption

theorem Steady.moves {s t : State} (h : Steady s t) : Moves s t := ⟨h.blocks.bounded, h.rings⟩

theorem Bounded.moves {bs : List Block} {s t : State} (h : Bounded s t) (k : KeptBut bs s t)
    (ha : Block.arbiter ∉ bs := by decide) (hc : Block.cal ∉ bs := by decide) : Moves s t := ⟨h, .of_kept k ha hc⟩

/-! ### Changes of single blocks -/

theorem setLine_moves {s : State} {l : LineStation} (h : s.line.InBounds → l.InBounds) : Moves s (s.setLine l) :=
  (Bounded.of (setLine_kept s l) (line := fun _ => h)).moves (setLine_kept s l)

theorem setGauges_moves {s : State} {u : Gauges} (h : (∀ g ∈ s.gauges.gauges, g.InRange) → ∀ g ∈ u.gauges, g.InRange) :
    Moves s (s.setGauges u) :=
  (Bounded.of (setGauges_kept s u) (gauges := fun _ => h)).moves (setGauges_kept s u)

theorem setCounting_moves {s : State} {c : Counting} (h : ClockInRange s.counting → ClockInRange c) :
    Moves s (s.setCounting c) :=
  (Bounded.of (setCounting_kept s c) (counting := fun _ => h)).moves (setCounting_kept s c)

/-- A change of blocks without a bound. -/
theorem Moves.of_kept {bs : List Block} {s t : State} (k : KeptBut bs s t)
    (hb : bs ⊆ [.ignition, .keys, .trip, .display, .topics, .rules, .sound, .service, .handler, .freeIndex, .pending] := by
      decide) : Moves s t :=
  have k' := k.mono hb
  (Bounded.of k').moves k'

theorem setArbiter_moves {s : State} {a : Arbiter} (warnings : a.warnings = s.arbiter.warnings)
    (caution : a.cautionOrder = s.arbiter.cautionOrder) (advisory : a.advisoryOrder = s.arbiter.advisoryOrder) :
    Moves s (s.setArbiter a) :=
  ⟨.of (setArbiter_kept s a), .of_same rfl warnings caution advisory⟩

theorem inBounds_of_queue {l m : LineStation} (hq : m.queue = l.queue) (hs : m.sent = [] ∨ m.state = l.state ∧ m.sent = l.sent)
    (h : l.InBounds) : m.InBounds := by
  obtain ⟨hqueue, hrange, hsent⟩ := h
  refine ⟨hq ▸ hqueue, hq ▸ hrange, fun hm => ?_⟩
  rcases hs with hs | ⟨hstate, hs⟩
  · exact hs
  · rw [hs]
    exact hsent (hstate ▸ hm)

/-! ### The arbiter's occasions -/

theorem arbiterClear_warning (s : State) (w : Nat) : s.arbiterClear.warning w = .off := by
  unfold State.warning
  rw [show s.arbiterClear.arbiter.warnings = List.replicate 32 .off from by
    unfold State.arbiterClear
    rw [(syncChime_kept _).arbiter, (noneShown_kept _).arbiter]
    rfl]
  simp only [List.getD_eq_getElem?_getD, List.getElem?_replicate]
  split <;> rfl

theorem arbiterClear_arbiter (s : State) : s.arbiterClear.arbiter =
    { s.arbiter with warnings := List.replicate 32 .off, review := none, presented := none } := by
  unfold State.arbiterClear
  rw [(syncChime_kept _).arbiter, (noneShown_kept _).arbiter]
  rfl

theorem shownCount_off {s : State} (h : ∀ w ∈ s.arbiter.warnings, w.state = .off) : s.shownCount = 0 := by
  unfold State.shownCount
  rw [List.length_eq_zero_iff, List.filter_eq_nil_iff]
  intro w hw
  rw [h w hw]
  decide

theorem mostUrgent_off {s : State} (h : ∀ w, (s.warning w).state = .off) (hc : s.shownCount = 0) : s.MostUrgentShown := by
  refine ⟨hc.le.trans (Nat.zero_le 1), fun v w _ _ hv => ?_, fun _ w _ => ?_⟩
  · rw [h v] at hv
    cases hv
  · rw [h w]
    exact ⟨nofun, nofun⟩

theorem arbiterClear_moves (s : State) : Moves s s.arbiterClear := by
  have ha := arbiterClear_arbiter s
  have hcal : s.arbiterClear.cal = s.cal := (arbiterClear_kept s).cal
  have hoff (w : Nat) : (s.arbiterClear.warning w).state = .off := by rw [arbiterClear_warning]; rfl
  have hcount : s.arbiterClear.shownCount = 0 := by
    apply shownCount_off
    rw [ha]
    intro w hw
    rw [List.eq_of_mem_replicate hw]
    rfl
  refine ⟨.of (arbiterClear_kept s), hcal, fun _ => by rw [ha]; rfl, fun ⟨_, hcaution, hadvisory⟩ => ?_, fun h => ?_,
    fun _ => hcount.le.trans (Nat.zero_le 1), fun _ _ => ?_, fun _ _ => mostUrgent_off hoff hcount⟩
  · unfold State.OrdersComplete
    rw [ha]
    simp only [warningClass_of_cal hcal]
    exact ⟨rfl, hcaution, hadvisory⟩
  · unfold State.OrdersOnce
    rw [ha]
    exact h
  · intro v w _ _ _ hv
    rw [hoff v] at hv
    simp at hv

theorem arbiterSleep_moves (s : State) : Moves s s.arbiterSleep :=
  .after (setArbiter_moves rfl rfl rfl) (arbiterClear_moves s)

theorem arbiterWake_moves (s : State) : Moves s s.arbiterWake :=
  .after (setArbiter_moves rfl rfl rfl) (arbiterClear_moves s)

theorem arbiterStart_moves (s : State) : Moves s s.arbiterStart :=
  .after (queueSummary_steady _).moves (setArbiter_moves rfl rfl rfl)

/-! ### SLEEP entry and wake -/

theorem goTo_moves (s : State) (x : Ign) : Moves s (s.goTo x) := .of_kept (goTo_kept s x)

theorem setStore_moves {s : State} {st : Store} (h : StoreReach s.store st) : Moves s (s.setStore st) :=
  (setStore_steady h).moves

theorem storeSleep_moves (s : State) : Moves s s.storeSleep :=
  .after (.of_kept (setFreeIndex_kept _ _)) (setStore_moves ((move_abandonWrite _ _).trans (reach_sleep _)))

theorem served_sleep (a : Arith) : a.sleep.Served := ⟨List.nodup_nil, fun _ => rfl⟩

theorem clock_of_fields {c d : Counting} (h : d.hours = c.hours ∧ d.minutes = c.minutes ∧ d.seconds = c.seconds ∧
    d.dayCount = c.dayCount ∧ d.heldDays = c.heldDays) (hc : ClockInRange c) : ClockInRange d := by
  obtain ⟨h1, h2, h3, h4, h5⟩ := h
  unfold ClockInRange at *
  rwa [h1, h2, h3, h4, h5]

theorem sleepGauges_inRange {u : Gauges} (h : ∀ g ∈ u.gauges, g.InRange) : ∀ g ∈ u.sleep.gauges, g.InRange := by
  intro g hg
  obtain ⟨g', hg', rfl⟩ := List.mem_map.mp hg
  exact h g' hg'

theorem off_inRange : ∀ g ∈ List.replicate 6 Gauge.off, g.InRange := by
  intro g hg
  rw [List.eq_of_mem_replicate hg]
  exact ⟨Nat.zero_le _, Nat.zero_le _, Nat.zero_le _⟩

theorem setArith_moves {s : State} {a : Arith} (h : s.arith.Served → a.Served) : Moves s (s.setArith a) :=
  (Bounded.of (setArith_kept s a) (arith := fun _ => h)).moves (setArith_kept s a)

theorem stopWindows_clock (c : Counting) (h : ClockInRange c) : ClockInRange c.stopWindows := h
theorem endSetting_clock (c : Counting) (h : ClockInRange c) : ClockInRange c.endSetting :=
  (endSetting_ok c).clock h

theorem setIgnition_moves (s : State) (i : Ignition) : Moves s (s.setIgnition i) := .of_kept (setIgnition_kept s i)

theorem sleepEntry_moves (s : State) : Moves s s.sleepEntry := by
  unfold State.sleepEntry
  refine .after (.of_kept (setHandler_kept _ _)) (.after (storeSleep_moves _) ?_)
  refine .after (.of_kept (setService_kept _ _)) (.after (.of_kept (setSound_kept _ _)) (.after (arbiterSleep_moves _) ?_))
  refine .after (.of_kept (setRules_kept _ _)) (.after (setGauges_moves sleepGauges_inRange) ?_)
  refine .after (.of_kept (setTopics_kept _ _)) (.after (setLine_moves fun _ => ?_) ?_)
  · exact ⟨⟨Nat.zero_le _, List.Pairwise.nil⟩, nofun, fun _ => rfl⟩
  refine .after (.of_kept (setDisplay_kept _ _)) (.after (setArith_moves fun _ => served_sleep _) ?_)
  refine .after (setCounting_moves fun h => endSetting_clock _ h) ?_
  exact .after (setIgnition_moves _ _) (.after (setIgnition_moves _ _) (goTo_moves s _))

theorem countingWake_moves (s : State) : Moves s s.countingWake := setCounting_moves id

theorem startTimers_moves (s : State) : Moves s s.startTimers := by
  unfold State.startTimers
  refine .after (arbiterStart_moves _) (.after (.of_kept (setSound_kept _ _)) ?_)
  refine .after (.of_kept (setRules_kept _ _)) (.after (setGauges_moves fun _ => off_inRange) ?_)
  exact .after (.of_kept (setTopics_kept _ _)) (setLine_moves (inBounds_of_queue rfl (.inr ⟨rfl, rfl⟩)))

/-- A RUN entry but for its reminders: the clocks, the sweep, the bulb check and the line's timers start. -/
def State.runStarted (s : State) : State :=
  let s1 := (s.setCounting s.counting.startWindows).setGauges (s.gauges.startSweep false)
  (s1.setSound s1.sound.startBulbCheck).setLine s1.line.runEntry

theorem runEntry_eq (s : State) : s.runEntry = s.runStarted.serviceReminders := rfl

theorem runStarted_moves (s : State) : Moves s s.runStarted := by
  unfold State.runStarted
  refine .after (setLine_moves (inBounds_of_queue rfl (.inr ⟨rfl, rfl⟩))) (.after (.of_kept (setSound_kept _ _)) ?_)
  exact .after (setGauges_moves fun _ => startSweep_inRange _) (setCounting_moves id)

theorem runEntry_moves (s : State) : Moves s s.runEntry := (runStarted_moves s).trans (serviceReminders_steady _).moves

theorem enterAwake_moves (s : State) (x : Ign) : Moves s (s.enterAwake x) := .ite (runEntry_moves s) (.refl s)

theorem wakeInto_moves (s : State) (x : Ign) : Moves s (s.wakeInto x) := by
  unfold State.wakeInto
  refine .after (settleStore_steady _).moves (.after (deliverHeldDays_steady _).moves (.after (enterAwake_moves _ _) ?_))
  refine .after (serviceWake_steady _).moves (.after (startTimers_moves _) (.after (arbiterWake_moves _) ?_))
  refine .after (.of_kept (setHandler_kept _ _)) (.after (setStore_moves (move_wake _)) ?_)
  refine .after (.of_kept (setTopics_kept _ _)) (.after (setLine_moves (inBounds_of_queue rfl (.inl rfl))) ?_)
  exact .after (.of_kept (setTrip_kept _ _)) (.after (countingWake_moves _) (goTo_moves s x))

theorem lookFromSleep_moves (s : State) : Moves s s.lookFromSleep := by
  rcases eq_or_ne s.ignition.asked .sleep with h | h
  · rw [lookFromSleep_of_sleep h]
    exact .refl s
  · rw [lookFromSleep_of_ne h]
    exact wakeInto_moves s _

theorem enterSleep_moves (s : State) : Moves s s.enterSleep := (sleepEntry_moves s).trans (lookFromSleep_moves _)

/-! ### Changes among the awake states -/

theorem endReview_steady (s : State) : Steady s s.endReview := setArbiter_steady rfl rfl rfl rfl rfl

theorem leave_steady (s : State) : Steady s s.leave := by
  unfold State.leave
  split
  · refine .after (endReview_steady _) (.after (setLine_steady (.of_state rfl id rfl rfl nofun)) (.after (setSound_steady ?_) ?_))
    · exact ⟨rfl, nofun⟩
    · exact (parkGauges_blocks s).steady (parkGauges_kept s)
  · exact endReview_steady s
  all_goals exact .refl s

theorem toRun_moves (s : State) : Moves s s.toRun :=
  ((leave_steady s).moves.trans (goTo_moves _ _)).trans (runEntry_moves _)

theorem toAccessory_moves (s : State) : Moves s s.toAccessory :=
  .after (setLine_moves (inBounds_of_queue rfl (.inr ⟨rfl, rfl⟩))) (.after (setCounting_moves id)
    ((leave_steady s).moves.trans (goTo_moves _ _)))

theorem holdupWindows_clock (c : Counting) (h : ClockInRange c) : ClockInRange c.holdupWindows := by
  unfold Counting.holdupWindows
  split <;> exact h

/-- HOLDUP entry up to its 41h. -/
def State.holdupBegun (s : State) : State :=
  let s1 := (s.leave.goTo .holdup).setWatch none |>.setHoldup (some 30)
  let s2 := s1.setCounting s1.counting.holdupWindows.endSetting
  (s2.setLine s2.line.holdupEntry).setStore s2.store.placeHoldup

theorem holdupEntered_eq (s : State) : s.holdupEntered =
    (if s.ign.keysAccepted then s.holdupBegun.queueOdometer else s.holdupBegun).settleStore := rfl

theorem queueOdometer_steady (s : State) : Steady s s.queueOdometer := (queueOdometer_blocks s).steady (queueOdometer_kept s)

theorem holdupBegun_moves (s : State) : Moves s s.holdupBegun := by
  unfold State.holdupBegun
  refine .after (setStore_moves (move_placeHoldup _)) (.after (setLine_moves (inBounds_of_queue rfl (.inr ⟨rfl, rfl⟩))) ?_)
  refine .after (setCounting_moves fun h => endSetting_clock _ (holdupWindows_clock _ h)) ?_
  exact .after (setIgnition_moves _ _) (.after (setIgnition_moves _ _) ((leave_steady s).moves.trans (goTo_moves _ _)))

theorem holdupEntered_moves (s : State) : Moves s s.holdupEntered := by
  rw [holdupEntered_eq]
  exact .after (settleStore_steady _).moves
    (.ite ((holdupBegun_moves s).trans (queueOdometer_steady _).moves) (holdupBegun_moves s))

theorem holdupExit_moves (s : State) : Moves s s.holdupExit := .ite (enterSleep_moves s) (.refl s)

theorem toHoldup_moves (s : State) : Moves s s.toHoldup := (holdupEntered_moves s).trans (holdupExit_moves _)

theorem endHoldup_moves (s : State) : Moves s s.endHoldup :=
  .after (setStore_moves (move_turnHoldup _)) (setIgnition_moves _ _)

theorem keyPosition_moves (s : State) (acc run : Bool) : Moves s (s.keyPosition acc run) := by
  have h : Moves s (s.takeLevels acc run) := setIgnition_moves s _
  have hsettle {u : State} (k : Moves s u) : Moves s u.settleStore := k.trans (settleStore_steady u).moves
  have hend := h.trans (endHoldup_moves _)
  unfold State.keyPosition
  dsimp only
  split
  · exact h
  · exact h.trans (lookFromSleep_moves _)
  · exact hsettle (.after (toRun_moves _) (.after (setIgnition_moves _ _) h))
  · exact .after (toAccessory_moves _) (.after (setIgnition_moves _ _) h)
  · exact h
  · exact hsettle (h.trans (toRun_moves _))
  · exact h.trans (toHoldup_moves _)
  · exact h
  · exact hsettle (.after (setStore_moves (move_placeSweep _)) (h.trans (toAccessory_moves _)))
  · exact h.trans (toHoldup_moves _)
  · exact h
  · exact hsettle (hend.trans (toRun_moves _))
  · exact hsettle (hend.trans (toAccessory_moves _))
  · exact h

theorem wakeInput_moves (s : State) (high : Bool) : Moves s (s.wakeInput high) := by
  unfold State.wakeInput
  dsimp only
  split
  · exact .after (lookFromSleep_moves _) (setIgnition_moves s _)
  · exact .ite (.after (setIgnition_moves _ _) (setIgnition_moves s _))
      (.ite (.after (setIgnition_moves _ _) (setIgnition_moves s _)) (setIgnition_moves s _))
  all_goals exact setIgnition_moves s _

theorem watchExpired_moves (s : State) : Moves s s.watchExpired :=
  .ite (.ite (toHoldup_moves s) (enterSleep_moves s)) (.refl s)

theorem holdupExpired_moves (s : State) : Moves s s.holdupExpired := .ite (enterSleep_moves s) (.refl s)

/-! ### Ends of block operations -/

theorem writeDone_moves (s : State) : Moves s s.writeDone :=
  .ite (.after (holdupExit_moves _) (.after (settleStore_steady _).moves (setStore_moves (move_writeReady _)))) (.refl s)

theorem setIgnition_steady {s : State} {i : Ignition} (h : IgnitionOk s.ignition i) : Steady s (s.setIgnition i) :=
  Blocks.steady (.of (setIgnition_kept s i) (ignition := fun _ => h)) (setIgnition_kept s i)

theorem loadNext_steady (s : State) (b : Nat) : Steady s (s.loadNext b) :=
  .after (setStore_steady (move_fetch _ _)) (setIgnition_steady (s := s) ⟨rfl, rfl, rfl⟩)

theorem checkImage_steady (s : State) : Steady s s.checkImage :=
  .ite (setIgnition_steady ⟨rfl, rfl, rfl⟩) (setIgnition_steady ⟨rfl, rfl, rfl⟩)

theorem loadCalibration_steady (s : State) (d : List Byte) (x : Bool) : Steady s (s.loadCalibration d x) :=
  setIgnition_steady ⟨rfl, rfl, rfl⟩

theorem loadRecord_steady (s : State) (b : Nat) (d : List Byte) (x : Bool) : Steady s (s.loadRecord b d x) := by
  unfold State.loadRecord
  exact .ite (.ite (.refl s) (update_steady s _ _)) (.ite (.refl s)
    (.ite (.after (.of_kept (setFreeIndex_kept _ _)) (update_steady s _ _)) (update_steady s _ _)))

/-- The end of LOAD up to the first look at the ignition inputs. -/
def State.imageTaken (s : State) : State := (s.setCal s.ignition.load.image).takeDefinitions.formOrders

theorem imageTaken_kept (s : State) : KeptBut [.cal, .topics, .arbiter] s s.imageTaken :=
  ((setCal_kept _ _).andThen (cs := [.cal, .topics]) (takeDefinitions_kept _)).andThen (formOrders_kept _)

/-- The change of state that ends LOAD. -/
def State.loadLeft (s : State) : State :=
  match s.ignition.asked with
  | .sleep | .load | .holdup => s.deliverHeldDays.enterSleep
  | x => ((s.goTo x).startTimers.enterAwake x).deliverHeldDays

theorem loadDone_eq (s : State) : s.loadDone = s.imageTaken.serviceLoaded.loadLeft := rfl

theorem loadLeft_of_sleep {s : State} (h : s.ignition.asked = .sleep) : s.loadLeft = s.deliverHeldDays.enterSleep := by
  simp only [State.loadLeft, h]

theorem loadLeft_of_ne {s : State} (h : s.ignition.asked ≠ .sleep) :
    s.loadLeft = ((s.goTo s.ignition.asked).startTimers.enterAwake s.ignition.asked).deliverHeldDays := by
  unfold State.loadLeft
  rcases asked_cases s.ignition with k | k | k | k
  · exact absurd k h
  all_goals simp only [k]

theorem loadLeft_moves (s : State) : Moves s s.loadLeft := by
  rcases eq_or_ne s.ignition.asked .sleep with h | h
  · rw [loadLeft_of_sleep h]
    exact (deliverHeldDays_steady s).moves.trans (enterSleep_moves _)
  · rw [loadLeft_of_ne h]
    exact (((goTo_moves s _).trans (startTimers_moves _)).trans (enterAwake_moves _ _)).trans (deliverHeldDays_steady _).moves

theorem imageTaken_bounded (s : State) : Bounded s s.imageTaken := .of (imageTaken_kept s)

theorem imageTaken_shownCount (s : State) : s.imageTaken.shownCount = s.shownCount := rfl

theorem serviceLoaded_moves (s : State) : Moves s s.serviceLoaded := .of_kept (serviceLoaded_kept s)

theorem loadDone_bounded (s : State) : Bounded s s.loadDone :=
  ((imageTaken_bounded s).trans (serviceLoaded_moves _).bounds).trans (loadLeft_moves _).bounds

theorem loadDone_shown {s : State} (h : s.shownCount ≤ 1) : s.loadDone.shownCount ≤ 1 :=
  (loadLeft_moves _).rings.shown ((serviceLoaded_moves _).rings.shown h)

theorem loadFill_cases (s : State) (b : Nat) (d : List Byte) (x : Bool) :
    Steady s (s.loadFill b d x) ∨ s.loadFill b d x = (s.loadRecord b d x).loadDone := by
  unfold State.loadFill
  by_cases h1 : b ≠ s.ignition.load.awaits
  · rw [if_pos h1]
    exact .inl (.refl s)
  by_cases h2 : 63 ≤ b
  · rw [if_neg h1, if_pos h2]
    exact .inl (((loadCalibration_steady s d x).trans (checkImage_steady _)).trans (loadNext_steady _ _))
  by_cases h3 : 7 ≤ b
  · rw [if_neg h1, if_neg h2, if_pos h3]
    exact .inl ((loadCalibration_steady s d x).trans (loadNext_steady _ _))
  by_cases h4 : b < 6
  · rw [if_neg h1, if_neg h2, if_neg h3, if_pos h4]
    exact .inl ((loadRecord_steady s b d x).trans (loadNext_steady _ _))
  · rw [if_neg h1, if_neg h2, if_neg h3, if_neg h4]
    exact .inr rfl

theorem loadFill_bounded (s : State) (b : Nat) (d : List Byte) (x : Bool) : Bounded s (s.loadFill b d x) := by
  rcases loadFill_cases s b d x with h | h
  · exact h.moves.bounds
  · rw [h]
    exact (loadRecord_steady s b d x).moves.bounds.trans (loadDone_bounded _)

theorem loadFill_shown {s : State} (b : Nat) (d : List Byte) (x : Bool) (h : s.shownCount ≤ 1) :
    (s.loadFill b d x).shownCount ≤ 1 := by
  rcases loadFill_cases s b d x with k | k
  · exact k.rings.shown h
  · rw [k]
    exact loadDone_shown ((loadRecord_steady s b d x).rings.shown h)

/-- A fill's line is taken before the load, or the service unit, sees the block. -/
def State.fillTaken (s : State) (b : Nat) : State :=
  (s.setStore (s.store.endFill b (s.pinAtFill b))).taskFilled b ((s.store.nv.block b).take 15)
    (!checkGood (s.store.nv.block b))

theorem fillTaken_steady (s : State) (b : Nat) : Steady s (s.fillTaken b) :=
  (setStore_steady (move_endFill _ _ _)).trans (taskFilled_steady _ _ _ _)

theorem fillEnd_eq (s : State) (b : Nat) : s.fillEnd b =
    ((if s.ign = .load then (s.fillTaken b).loadFill b ((s.store.nv.block b).take 15) (!checkGood (s.store.nv.block b))
      else if serviceBlock b then (s.fillTaken b).serviceFill b (!checkGood (s.store.nv.block b))
      else s.fillTaken b).taskApplied b).settleStore := rfl

theorem fillEnd_of_load {s : State} (h : s.ign = .load) (b : Nat) : s.fillEnd b =
    (((s.fillTaken b).loadFill b ((s.store.nv.block b).take 15) (!checkGood (s.store.nv.block b))).taskApplied b).settleStore := by
  rw [fillEnd_eq, if_pos h]

theorem fillEnd_steady {s : State} (h : s.ign ≠ .load) (b : Nat) : Steady s (s.fillEnd b) := by
  rw [fillEnd_eq, if_neg h]
  exact .after (settleStore_steady _) (.after (taskApplied_steady _ _)
    (.ite ((fillTaken_steady s b).trans (serviceFill_steady _ _ _)) (fillTaken_steady s b)))

theorem fillEnd_bounded (s : State) (b : Nat) : Bounded s (s.fillEnd b) := by
  by_cases h : s.ign = .load
  · rw [fillEnd_of_load h]
    exact (((fillTaken_steady s b).moves.bounds.trans (loadFill_bounded _ _ _ _)).trans
      (taskApplied_steady _ _).moves.bounds).trans (settleStore_steady _).moves.bounds
  · exact (fillEnd_steady h b).moves.bounds

theorem fillEnd_shown {s : State} (b : Nat) (hs : s.shownCount ≤ 1) : (s.fillEnd b).shownCount ≤ 1 := by
  by_cases h : s.ign = .load
  · rw [fillEnd_of_load h]
    exact (settleStore_steady _).rings.shown ((taskApplied_steady _ _).rings.shown
      (loadFill_shown _ _ _ ((fillTaken_steady s b).rings.shown hs)))
  · exact (fillEnd_steady h b).rings.shown hs

/-- Outside LOAD a block read ends within the ignition state. -/
theorem readEnd_steady {s : State} (h : s.ign ≠ .load) : Steady s s.readEnd := by
  unfold State.readEnd
  split
  · exact fillEnd_steady h _
  · exact verifyEnd_steady s _
  · exact .refl s

theorem readEnd_bounded (s : State) : Bounded s s.readEnd := by
  unfold State.readEnd
  split
  · exact fillEnd_bounded s _
  · exact (verifyEnd_steady s _).moves.bounds
  · exact .refl s

theorem readEnd_shown {s : State} (h : s.shownCount ≤ 1) : s.readEnd.shownCount ≤ 1 := by
  unfold State.readEnd
  split
  · exact fillEnd_shown _ h
  · exact (verifyEnd_steady s _).rings.shown h
  · exact h

/-! ### Every command -/

/-- Every command but the power-on reset and the end of a block read moves on within the invariants. -/
theorem moves_exec {c : Instr} (h : c ≠ .powerOnReset) (hr : c ≠ .blockReadEnd) (s : State) :
    ∃ u, exec c s = .next (State.present s u) ∧ Moves s u := by
  cases hm : c.movesIgnition with
  | false =>
    obtain ⟨u, hexec, hu⟩ := steady_exec hm s
    exact ⟨u, hexec, hu.moves⟩
  | true =>
    cases c with
    | powerOnReset => exact absurd rfl h
    | blockReadEnd => exact absurd rfl hr
    | keyPositionChange a r => exact ⟨_, rfl, keyPosition_moves s a r⟩
    | wakeInputChange x => exact ⟨_, rfl, wakeInput_moves s x⟩
    | watchTimerExpiry => exact ⟨_, rfl, watchExpired_moves s⟩
    | holdupTimerExpiry => exact ⟨_, rfl, holdupExpired_moves s⟩
    | messageSent => exact ⟨_, rfl, (messageSent_steady s).moves.trans (holdupExit_moves _)⟩
    | clash x => exact ⟨_, rfl, (clash_steady s x).moves.trans (holdupExit_moves _)⟩
    | breakRecognised =>
      exact ⟨_, rfl, .ite ((clash_steady s true).moves.trans (holdupExit_moves _)) (setLine_steady (breakHeard_ok _ _)).moves⟩
    | blockWriteReady => exact ⟨_, rfl, writeDone_moves s⟩
    | _ => cases hm

theorem Moves.present {s u : State} (h : Moves s u) : Moves s (State.present s u) :=
  h.trans (.of_kept (present_kept s u))

/-- What every command but the power-on reset keeps of the bounds and of the warnings SHOWN. -/
theorem bounded_exec {c : Instr} (h : c ≠ .powerOnReset) (s t : State) (hexec : exec c s = .next t) :
    Bounded s t ∧ (s.shownCount ≤ 1 → t.shownCount ≤ 1) := by
  by_cases hr : c = .blockReadEnd
  · subst hr
    obtain rfl : State.present s s.readEnd = t := Host.Outcome.next.inj hexec
    have hp : Moves s.readEnd (State.present s s.readEnd) := .of_kept (present_kept _ _)
    exact ⟨(readEnd_bounded s).trans hp.bounds, fun hs => hp.rings.shown (readEnd_shown hs)⟩
  · obtain ⟨u, hu, k⟩ := moves_exec h hr s
    obtain rfl := exec_inj hexec hu
    exact ⟨k.present.bounds, k.present.rings.shown⟩

end Sys2Proof.Machine
end

section
/-! SUPPORT. The idle step and the power-on reset, and the invariants that the whole walk gives. Settles O8, O11 and O12. -/
namespace Sys2Proof.Machine
set_option Elab.async false

/-- A step runs the front command, or nothing waits and the part idles. -/
theorem step_cases {s t : State} (h : step s = .next t) :
    (∃ c rest, s.pending = c :: rest ∧ exec c (s.setPending rest) = .next t) ∨ s.pending = [] ∧ s.idle = t := by
  unfold step at h
  split at h
  · next c rest hp => exact .inl ⟨c, rest, hp, h⟩
  · next hp => exact .inr ⟨hp, Host.Outcome.next.inj h⟩

theorem setPending_steady (s : State) (cs : List Instr) : Steady s (s.setPending cs) := .of_kept (setPending_kept s cs)

theorem timerDown_isSome (t : Option Nat) : (timerDown t).isSome = t.isSome := Option.isSome_map

theorem ignition_tick_ok (i : Ignition) : IgnitionOk i i.tick := by
  refine ⟨rfl, ?_, ?_⟩
  all_goals
    simp only [Ignition.tick]
    split
    · exact timerDown_isSome _
    · rfl

theorem tickedOp_readVerify {x : Option EngineOp} {b : Nat} (h : x.map EngineOp.tick = some (.readVerify b)) :
    x = some (.readVerify b) := by
  obtain ⟨o, rfl, ho⟩ := Option.map_eq_some_iff.mp h
  cases o with
  | readFill c => cases ho
  | readVerify c => rw [← ho]; rfl
  | write i d w k => cases ho

theorem line_tick_ok (x : Ign) (l : LineStation) : LineOk x l l.tick :=
  ⟨id, timerDown_isSome _, timerDown_isSome _, fun h => .inl (timerDown_isSome l.silence ▸ h)⟩

/-- A base tick counts timers down and stops or starts none. -/
theorem tickAll_steady (s : State) : Steady s s.tickAll := by
  unfold State.tickAll
  refine .after (setStore_steady (.op _ _ fun b hb => .inl (tickedOp_readVerify hb))) ?_
  refine .after (setSound_steady ⟨timerDown_isSome _, fun h => .inl (timerDown_isSome _ ▸ h)⟩) ?_
  refine .after (setArbiter_steady rfl rfl rfl (timerDown_isSome _) (timerDown_isSome _)) ?_
  refine .after (setRules_steady (timerDown_isSome _)) ?_
  refine .after (setGauges_steady ⟨id, timerDown_isSome _, .inl⟩) ?_
  refine .after (setTopics_steady (timerDown_isSome _)) ?_
  refine .after (setLine_steady (line_tick_ok _ _)) ?_
  refine .after (display_steady (setDisplay_kept _ _) (timerDown_isSome _)) (.after (.of_kept (setKeys_kept _ _)) ?_)
  exact .after (setCounting_steady ⟨id, timerDown_isSome _⟩) (setIgnition_steady (ignition_tick_ok _))

theorem idle_steady (s : State) : Steady s s.idle :=
  .ite (setPending_steady s _) ((tickAll_steady s).trans (setPending_steady _ _))

theorem exec_powerOn (s : State) : exec .powerOnReset s = .next s.powerOn := congrArg Host.Outcome.next (present_powerOn s)

theorem powerOn_inBounds {s : State} (h : s.InBounds) : s.powerOn.InBounds := by
  obtain ⟨hline, horders, hgauges, hclock, -⟩ := reset_inBounds
  obtain ⟨-, -, -, -, hnv⟩ := h
  exact ⟨hline, horders, hgauges, hclock, Store.nvAtReset_wf _ hnv⟩

theorem Bounded.inBounds {s t : State} (h : Bounded s t) (hs : s.InBounds) : t.InBounds := by
  obtain ⟨hline, horders, hgauges, hclock, hnv⟩ := hs
  exact ⟨h.line hline, h.store.ordersBounded horders, h.gauges hgauges, h.clock hclock, h.store.nvWf hnv⟩

/-- A step is a power-on reset, or moves within the bounds and shows no further warning. -/
theorem step_bounded {s t : State} (h : step s = .next t) :
    (s.pending.head? = some .powerOnReset ∧ ∃ u, Bounded s u ∧ t = u.powerOn) ∨
      Bounded s t ∧ (s.shownCount ≤ 1 → t.shownCount ≤ 1) := by
  rcases step_cases h with ⟨c, rest, hp, hexec⟩ | ⟨-, rfl⟩
  · have hq := setPending_steady s rest
    by_cases hc : c = .powerOnReset
    · subst hc
      exact .inl ⟨by rw [hp]; rfl, _, hq.moves.bounds, (exec_inj hexec (exec_powerOn _))⟩
    · obtain ⟨hb, hshown⟩ := bounded_exec hc _ _ hexec
      exact .inr ⟨hq.moves.bounds.trans hb, hshown ∘ hq.rings.shown⟩
  · exact .inr ⟨(idle_steady s).moves.bounds, (idle_steady s).rings.shown⟩

/-- Settles O8: `Bounded` for every command and the idle step, the state after reset for POWER_ON_RESET. -/
theorem stateStaysInBounds : Obligations.StateStaysInBounds := by
  refine ⟨fun s t hs h => ?_, fun s t hs h => ?_⟩
  · rcases step_bounded h with ⟨-, u, hu, rfl⟩ | ⟨hb, -⟩
    · exact powerOn_inBounds (hu.inBounds hs)
    · exact hb.inBounds hs
  · rcases step_bounded h with ⟨-, u, -, rfl⟩ | ⟨hb, -⟩
    · exact reset_inSets
    · exact hb.store.inSets hs

/-- Settles O11. -/
theorem atMostOneWarningShown : Obligations.AtMostOneWarningShown := by
  intro s t hs h
  rcases step_bounded h with ⟨-, u, -, rfl⟩ | ⟨-, hshown⟩
  · exact reset_shownCount.le.trans (Nat.zero_le 1)
  · exact hshown hs

/-- Settles O12: no elementary change of the store opens the latch, or empties or unpins a system line. -/
theorem latchStaysSet : Obligations.LatchStaysSet := by
  refine ⟨fun s t hp hs h => ?_, fun s t hp _ hs h => ?_⟩
  all_goals
    rcases step_bounded h with ⟨hreset, -⟩ | ⟨hb, -⟩
    · exact absurd hreset hp
  · exact hb.store.latchSet hs
  · exact hb.store.systemPinned hs

end Sys2Proof.Machine
end

section
/-! SUPPORT. Each timer runs in its own ignition states alone: what every change of the ignition state does to the timers.
Settles O10. -/
namespace Sys2Proof.Machine
set_option Elab.async false

/-! ### The timers by kind -/

/-- The periodic timers run (`b`), or none of them does; the display port's is started only at the end of a command. -/
structure Periodic (s : State) (b : Bool) : Prop where
  display : s.display.timer.isSome = true → b = true
  rate41 : s.line.rate41.isSome = b
  topics : s.topics.tick.isSome = b
  gauges : s.gauges.timer.isSome = b
  rules : s.rules.timer.isSome = b
  tick : s.arbiter.tick.isSome = b
  rate43 : s.arbiter.rate43.isSome = b
  flash : s.sound.flash.isSome = b

/-- The timers of pulses and 40h run (`b`), or neither does. -/
structure Counts (s : State) (b : Bool) : Prop where
  window : s.counting.windowTimer.isSome = b
  rate40 : s.line.rate40.isSome = b

/-- What runs in RUN alone is stopped. -/
structure RunOver (s : State) : Prop where
  silence : s.line.silence = none
  bulb : s.sound.bulbCheck = none
  sweep : s.gauges.sweep = none

/-- What runs in RUN alone runs in no other state. -/
structure RunOnly (s : State) (x : Ign) : Prop where
  silence : s.line.silence.isSome = true → x = .run
  bulb : s.sound.bulbCheck.isSome = true → x = .run
  sweep : s.gauges.sweep.isSome = true → x = .run

/-- `TimersFollow`, but for the display port's timer. -/
structure Timed (s : State) : Prop where
  periodic : Periodic s s.ign.awake
  counts : Counts s s.ign.counts
  run : RunOnly s s.ign
  watch : s.ignition.watchTimer.isSome = true → s.ign = .watch
  holdup : s.ignition.holdupTimer.isSome = (s.ign == .holdup)

theorem isSome_imp_false {α : Type} {o : Option α} {p : Prop} (h : o.isSome = true → p) (hp : ¬p) : o = none :=
  Option.isNone_iff_eq_none.mp (by cases o with | none => rfl | some a => exact absurd (h rfl) hp)

theorem RunOver.only {s : State} (h : RunOver s) (x : Ign) : RunOnly s x :=
  ⟨fun k => by simp [h.silence] at k, fun k => by simp [h.bulb] at k, fun k => by simp [h.sweep] at k⟩

theorem RunOnly.over {s : State} {x : Ign} (h : RunOnly s x) (hx : x ≠ .run) : RunOver s :=
  ⟨isSome_imp_false h.silence hx, isSome_imp_false h.bulb hx, isSome_imp_false h.sweep hx⟩

theorem RunOnly.run (s : State) : RunOnly s .run := ⟨fun _ => rfl, fun _ => rfl, fun _ => rfl⟩

theorem Timed.of_follow {s : State} (h : TimersFollow s) : Timed s := by
  obtain ⟨⟨h1, h2, h3, h4, h5, h6, h7, h8⟩, ⟨h9, h10⟩, h11, h12, h13, h14, h15⟩ := h
  exact ⟨⟨fun k => h1.symm.trans k, h2, h3, h4, h5, h6, h7, h8⟩, ⟨h9, h10⟩, ⟨h11, h12, h13⟩, h14, h15⟩

theorem Timed.follow {s : State} (h : Timed s) (hd : s.display.timer.isSome = s.ign.awake) : TimersFollow s := by
  obtain ⟨⟨-, h2, h3, h4, h5, h6, h7, h8⟩, ⟨h9, h10⟩, ⟨h11, h12, h13⟩, h14, h15⟩ := h
  exact ⟨⟨hd, h2, h3, h4, h5, h6, h7, h8⟩, ⟨h9, h10⟩, h11, h12, h13, h14, h15⟩

/-! ### Within one ignition state -/

theorem Blocks.periodic {s t : State} (h : Blocks s t) {b : Bool} (k : Periodic s b) : Periodic t b :=
  ⟨fun d => k.display (h.display ▸ d), h.line.rate41.trans k.rate41, h.topics.trans k.topics, h.gauges.timer.trans k.gauges,
    h.rules.trans k.rules, h.arbiter.tick.trans k.tick, h.arbiter.rate43.trans k.rate43, h.sound.flash.trans k.flash⟩

theorem Blocks.counts {s t : State} (h : Blocks s t) {b : Bool} (k : Counts s b) : Counts t b :=
  ⟨h.counting.window.trans k.window, h.line.rate40.trans k.rate40⟩

theorem Blocks.runOnly {s t : State} (h : Blocks s t) (k : RunOnly s s.ign) : RunOnly t s.ign :=
  ⟨fun d => (h.line.silence d).elim k.silence id, fun d => (h.sound.bulb d).elim k.bulb id,
    fun d => (h.gauges.sweep d).elim k.sweep id⟩

theorem Blocks.timed {s t : State} (h : Blocks s t) (k : Timed s) : Timed t := by
  refine ⟨?_, ?_, ?_, ?_, ?_⟩
  all_goals rw [h.ign]
  · exact h.periodic k.periodic
  · exact h.counts k.counts
  · exact h.runOnly k.run
  · exact fun d => k.watch (h.ignition.watch ▸ d)
  · exact h.ignition.holdup.trans k.holdup

theorem Steady.timed {s t : State} (h : Steady s t) : Timed s → Timed t := h.blocks.timed

/-! ### SLEEP entry -/

theorem sleepEntry_blocks_eq (s : State) :
    s.sleepEntry.counting = s.counting.stopWindows.forgetNoted.endSetting ∧ s.sleepEntry.arith = s.arith.sleep ∧
    s.sleepEntry.display = s.display.sleep ∧ s.sleepEntry.line = s.line.sleep ∧
    s.sleepEntry.topics = { s.topics with tick := none } ∧ s.sleepEntry.gauges = s.gauges.sleep ∧
    s.sleepEntry.rules = s.rules.sleep ∧ s.sleepEntry.service = s.service.sleep := by
  unfold State.sleepEntry
  simp only [State.setHandler_counting, State.setHandler_arith, State.setHandler_display, State.setHandler_line,
    State.setHandler_topics, State.setHandler_gauges, State.setHandler_rules, State.setHandler_service,
    (storeSleep_kept _).counting, (storeSleep_kept _).arith, (storeSleep_kept _).display, (storeSleep_kept _).line,
    (storeSleep_kept _).topics, (storeSleep_kept _).gauges, (storeSleep_kept _).rules, (storeSleep_kept _).service,
    State.setService_counting, State.setService_arith, State.setService_display, State.setService_line,
    State.setService_topics, State.setService_gauges, State.setService_rules, State.setService_service,
    State.setSound_counting, State.setSound_arith, State.setSound_display, State.setSound_line,
    State.setSound_topics, State.setSound_gauges, State.setSound_rules,
    (arbiterSleep_kept _).counting, (arbiterSleep_kept _).arith, (arbiterSleep_kept _).display,
    (arbiterSleep_kept _).line, (arbiterSleep_kept _).topics, (arbiterSleep_kept _).gauges, (arbiterSleep_kept _).rules,
    (arbiterSleep_kept _).service]
  exact ⟨rfl, rfl, rfl, rfl, rfl, rfl, rfl, rfl⟩

theorem sleepEntry_arbiter (s : State) : s.sleepEntry.arbiter =
    { s.arbiter with warnings := List.replicate 32 .off, review := none, presented := none, tick := none, rate43 := none } := by
  unfold State.sleepEntry
  simp only [State.setHandler_arbiter, (storeSleep_kept _).arbiter, State.setService_arbiter, State.setSound_arbiter,
    State.arbiterSleep, State.setArbiter_arbiter, arbiterClear_arbiter]
  rfl

/-- Whatever the arbiter did to the channel, SLEEP entry silences it. -/
theorem clear_sound_sleep (s : State) : s.arbiterClear.sound.sleep = s.sound.sleep := by
  unfold State.arbiterClear State.syncChime
  split
  · rfl
  · split <;> rfl

theorem sleepEntry_sound (s : State) : s.sleepEntry.sound = s.sound.sleep := by
  unfold State.sleepEntry
  simp only [State.setHandler_sound, (storeSleep_kept _).sound, State.setService_sound, State.setSound_sound]
  exact clear_sound_sleep _

theorem sleepEntry_timed (s : State) : Timed s.sleepEntry := by
  obtain ⟨hcounting, -, hdisplay, hline, htopics, hgauges, hrules, -⟩ := sleepEntry_blocks_eq s
  have hign : s.sleepEntry.ign = .sleep := by rw [State.ign, sleepEntry_ignition]
  refine ⟨⟨?_, ?_, ?_, ?_, ?_, ?_, ?_, ?_⟩, ⟨?_, ?_⟩, RunOver.only ⟨?_, ?_, ?_⟩ _, ?_, ?_⟩
  · rw [hdisplay]; nofun
  · rw [hline, hign]; rfl
  · rw [htopics, hign]; rfl
  · rw [hgauges, hign]; rfl
  · rw [hrules, hign]; rfl
  · rw [sleepEntry_arbiter, hign]; rfl
  · rw [sleepEntry_arbiter, hign]; rfl
  · rw [sleepEntry_sound, hign]; rfl
  · rw [hcounting, hign, (endSetting_ok _).window]; rfl
  · rw [hline, hign]; rfl
  · rw [hline]; rfl
  · rw [sleepEntry_sound]; rfl
  · rw [hgauges]; rfl
  · rw [sleepEntry_ignition]; nofun
  · rw [sleepEntry_ignition, hign]; rfl

/-! ### Wake and the entries to the awake states -/

theorem queueSummary_blocks_eq (s : State) : s.queueSummary.arbiter = s.arbiter := (queueSummary_kept s).arbiter

/-- The start of the periodic timers but for the 43h that goes with it. -/
def State.timersStarted (s : State) : State :=
  let s1 := (s.setLine s.line.start41).setTopics { s.topics with tick := some 10 }
  let s2 := (s1.setGauges s1.gauges.wake).setRules s1.rules.wake
  let s3 := s2.setSound s2.sound.wake
  s3.setArbiter { s3.arbiter with tick := some 10, rate43 := some 200 }

theorem startTimers_eq (s : State) : s.startTimers = s.timersStarted.queueSummary := by
  unfold State.startTimers State.arbiterStart
  rfl

theorem startTimers_periodic (s : State) : Periodic s.startTimers true := by
  have h : Periodic s.timersStarted true := ⟨fun _ => rfl, rfl, rfl, rfl, rfl, rfl, rfl, rfl⟩
  exact (queueSummary_blocks s.timersStarted).periodic h

theorem startTimers_counts {s : State} {b : Bool} (h : Counts s b) : Counts s.startTimers b := by
  have h : Counts s.timersStarted b := ⟨h.window, h.rate40⟩
  exact (queueSummary_blocks s.timersStarted).counts h

theorem startTimers_runOnly {s : State} (h : s.line.silence.isSome = true → s.ign = .run) : RunOnly s.startTimers s.ign := by
  have hline : s.timersStarted.line.silence = s.line.silence := rfl
  have hbulb : s.timersStarted.sound.bulbCheck = none := rfl
  have hsweep : s.timersStarted.gauges.sweep = none := rfl
  have hign : s.timersStarted.ign = s.ign := by
    unfold State.ign State.timersStarted
    simp only [State.setArbiter_ignition, State.setSound_ignition, State.setRules_ignition, State.setGauges_ignition,
      State.setTopics_ignition, State.setLine_ignition]
  have hrun : RunOnly s.timersStarted s.ign :=
    ⟨by rw [hline]; exact h, by rw [hbulb]; exact fun k => absurd k (by decide),
      by rw [hsweep]; exact fun k => absurd k (by decide)⟩
  rw [← hign] at hrun ⊢
  rw [startTimers_eq]
  exact (queueSummary_blocks s.timersStarted).runOnly hrun

theorem startTimers_ignition (s : State) : s.startTimers.ignition = s.ignition := (startTimers_kept s).ignition

theorem runStarted_counts (s : State) : Counts s.runStarted true := ⟨rfl, rfl⟩

theorem runStarted_periodic {s : State} {b : Bool} (h : Periodic s b) : Periodic s.runStarted b :=
  ⟨h.display, h.rate41, h.topics, h.gauges, h.rules, h.tick, h.rate43, h.flash⟩

/-- A RUN entry of a part whose periodic timers run. -/
theorem runEntry_timed {s : State} (hx : s.ign = .run) (hp : Periodic s true) (hw : s.ignition.watchTimer = none)
    (hh : s.ignition.holdupTimer = none) : Timed s.runEntry := by
  rw [runEntry_eq]
  refine (serviceReminders_steady _).timed ⟨?_, ?_, ?_, ?_, ?_⟩
  · rw [show s.runStarted.ign = .run from hx]; exact runStarted_periodic hp
  · rw [show s.runStarted.ign = .run from hx]; exact runStarted_counts s
  · rw [show s.runStarted.ign = .run from hx]; exact RunOnly.run _
  · rw [show s.runStarted.ignition = s.ignition from rfl, hw]; nofun
  · rw [show s.runStarted.ignition = s.ignition from rfl, hh, show s.runStarted.ign = .run from hx]; rfl

/-- The entry to an awake state from one in which the pulses' timers stand still. -/
theorem enterAwake_timed {s : State} {x : Ign} (hign : s.ign = x) (hx : x = .watch ∨ x = .accessory ∨ x = .run)
    (hp : Periodic s true) (hc : Counts s false) (hr : RunOnly s x) (hw : s.ignition.watchTimer = none)
    (hh : s.ignition.holdupTimer = none) : Timed (s.enterAwake x) := by
  unfold State.enterAwake
  split
  · next h => exact runEntry_timed (hign.trans h) hp hw hh
  · next h =>
    refine ⟨?_, ?_, ?_, ?_, ?_⟩
    all_goals try rw [hign]
    · rcases hx with rfl | rfl | rfl
      exacts [hp, hp, hp]
    · rcases hx with rfl | rfl | rfl
      exacts [hc, hc, absurd rfl h]
    · exact hr
    · rw [hw]; nofun
    · rw [hh]
      rcases hx with rfl | rfl | rfl <;> rfl

/-- A wake up to the start of the periodic timers. -/
def State.wakeBegun (s : State) (x : Ign) : State :=
  let s1 := (s.goTo x).countingWake
  let s2 := (s1.setTrip s1.trip.wake).setLine s1.line.wake
  let s3 := (s2.setTopics s2.topics.wake).setStore s2.store.wake
  (s3.setHandler { s3.handler with state := .idle }).arbiterWake

theorem wakeInto_eq (s : State) (x : Ign) : s.wakeInto x =
    ((((s.wakeBegun x).startTimers.serviceWake).enterAwake x).deliverHeldDays).settleStore := rfl

theorem wakeBegun_counting (s : State) (x : Ign) : (s.wakeBegun x).counting = (s.goTo x).countingWake.counting :=
  (arbiterWake_kept _).counting

theorem wakeBegun_line (s : State) (x : Ign) : (s.wakeBegun x).line = s.line.wake := (arbiterWake_kept _).line

theorem wakeBegun_ignition (s : State) (x : Ign) : (s.wakeBegun x).ignition = { s.ignition with state := x } :=
  (arbiterWake_kept _).ignition

theorem wakeInto_timed {s : State} {x : Ign} (hx : x = .watch ∨ x = .accessory ∨ x = .run)
    (hw : s.ignition.watchTimer = none) (hh : s.ignition.holdupTimer = none) : Timed (s.wakeInto x) := by
  have hcounts : Counts (s.wakeBegun x) false :=
    ⟨by rw [wakeBegun_counting]; rfl, by rw [wakeBegun_line]; rfl⟩
  have hsilence : (s.wakeBegun x).line.silence = none := by rw [wakeBegun_line]; rfl
  have hign : (s.wakeBegun x).ign = x := by rw [State.ign, wakeBegun_ignition]
  have hservice := (serviceWake_steady (s.wakeBegun x).startTimers).blocks
  have hignition : (s.wakeBegun x).startTimers.serviceWake.ignition = { s.ignition with state := x } := by
    rw [(serviceWake_kept _).ignition, startTimers_ignition, wakeBegun_ignition]
  have hstart : (s.wakeBegun x).startTimers.ign = x := by rw [State.ign, startTimers_ignition, wakeBegun_ignition]
  have hrun : RunOnly (s.wakeBegun x).startTimers x := by
    have := startTimers_runOnly (s := s.wakeBegun x) (by rw [hsilence]; nofun)
    rwa [hign] at this
  rw [wakeInto_eq]
  refine (settleStore_steady _).timed ((deliverHeldDays_steady _).timed (enterAwake_timed ?_ hx ?_ ?_ ?_ ?_ ?_))
  · rw [State.ign, hignition]
  · exact hservice.periodic (startTimers_periodic _)
  · exact hservice.counts (startTimers_counts hcounts)
  · have := hservice.runOnly (hstart.symm ▸ hrun)
    rwa [hstart] at this
  · rw [hignition]; exact hw
  · rw [hignition]; exact hh

theorem asked_awake {i : Ignition} (h : i.asked ≠ .sleep) : i.asked = .watch ∨ i.asked = .accessory ∨ i.asked = .run :=
  (asked_cases i).resolve_left h

theorem Timed.noHoldup {s : State} (h : Timed s) (hx : s.ign ≠ .holdup) : s.ignition.holdupTimer = none := by
  have := h.holdup
  rw [beq_false_of_ne hx] at this
  exact Option.isSome_eq_false_iff.mp this |> Option.isNone_iff_eq_none.mp

theorem Timed.noWatch {s : State} (h : Timed s) (hx : s.ign ≠ .watch) : s.ignition.watchTimer = none :=
  isSome_imp_false h.watch hx

theorem lookFromSleep_timed {s : State} (hs : s.ign = .sleep) (h : Timed s) : Timed s.lookFromSleep := by
  rcases eq_or_ne s.ignition.asked .sleep with k | k
  · rw [lookFromSleep_of_sleep k]
    exact h
  · rw [lookFromSleep_of_ne k]
    exact wakeInto_timed (asked_awake k) (h.noWatch (by rw [hs]; nofun)) (h.noHoldup (by rw [hs]; nofun))

theorem sleepEntry_ign (s : State) : s.sleepEntry.ign = .sleep := by rw [State.ign, sleepEntry_ignition]

theorem enterSleep_timed (s : State) : Timed s.enterSleep := lookFromSleep_timed (sleepEntry_ign s) (sleepEntry_timed s)

theorem holdupExit_timed {s : State} (h : Timed s) : Timed s.holdupExit := by
  unfold State.holdupExit
  split
  · exact enterSleep_timed s
  · exact h

/-! ### Changes among the awake states -/

/-- Leaving RUN stops what runs in RUN alone. -/
theorem leave_runOver {s : State} (h : Timed s) : RunOver s.leave := by
  have hstay (hx : s.ign ≠ .run) : RunOver s := h.run.over hx
  unfold State.leave
  split
  · refine ⟨rfl, rfl, ?_⟩
    refine isSome_imp_false (p := False) (fun d => ?_) id
    change s.parkGauges.gauges.sweep.isSome = true at d
    unfold State.parkGauges State.tellTest at d
    split at d
    · rw [(returnStatus_kept _ _ _).gauges] at d
      cases d
    · cases d
  · next hx =>
    obtain ⟨h1, h2, h3⟩ := hstay (by rw [hx]; nofun)
    exact ⟨h1, h2, h3⟩
  all_goals next hx => exact hstay (by rw [hx]; nofun)

theorem leave_ignition (s : State) : s.leave.ignition = s.ignition := (leave_kept s).ignition

theorem leave_periodic {s : State} (h : Timed s) : Periodic s.leave s.ign.awake := (leave_steady s).blocks.periodic h.periodic

theorem toRun_timed {s : State} (h : Periodic s.leave true) (hw : s.ignition.watchTimer = none)
    (hh : s.ignition.holdupTimer = none) : Timed s.toRun := by
  refine runEntry_timed rfl ⟨h.display, h.rate41, h.topics, h.gauges, h.rules, h.tick, h.rate43, h.flash⟩ ?_ ?_
  · show s.leave.ignition.watchTimer = none
    rw [leave_ignition, hw]
  · show s.leave.ignition.holdupTimer = none
    rw [leave_ignition, hh]

theorem toAccessory_timed {s : State} (h : Periodic s.leave true) (hr : RunOver s.leave)
    (hw : s.ignition.watchTimer = none) (hh : s.ignition.holdupTimer = none) : Timed s.toAccessory := by
  refine ⟨⟨h.display, h.rate41, h.topics, h.gauges, h.rules, h.tick, h.rate43, h.flash⟩, ⟨rfl, rfl⟩,
    RunOver.only (s := s.toAccessory) ⟨hr.silence, hr.bulb, hr.sweep⟩ _, ?_, ?_⟩
  · show s.leave.ignition.watchTimer.isSome = true → _
    rw [leave_ignition, hw]; nofun
  · show s.leave.ignition.holdupTimer.isSome = _
    rw [leave_ignition, hh]; rfl

theorem holdupBegun_timed {s : State} (h : Periodic s.leave true) (hr : RunOver s.leave) : Timed s.holdupBegun := by
  refine ⟨⟨h.display, h.rate41, h.topics, h.gauges, h.rules, h.tick, h.rate43, h.flash⟩, ⟨?_, rfl⟩,
    RunOver.only (s := s.holdupBegun) ⟨hr.silence, hr.bulb, hr.sweep⟩ _, nofun, rfl⟩
  show s.leave.counting.holdupWindows.endSetting.windowTimer.isSome = true
  rw [(endSetting_ok _).window]
  unfold Counting.holdupWindows
  split
  · assumption
  · rfl

theorem toHoldup_timed {s : State} (h : Periodic s.leave true) (hr : RunOver s.leave) : Timed s.toHoldup := by
  rw [toHoldup_eq, holdupEntered_eq]
  refine holdupExit_timed ((settleStore_steady _).timed ?_)
  split
  · exact (queueOdometer_steady _).timed (holdupBegun_timed h hr)
  · exact holdupBegun_timed h hr

theorem takeLevels_steady (s : State) (acc run : Bool) : Steady s (s.takeLevels acc run) :=
  setIgnition_steady ⟨rfl, rfl, rfl⟩

/-- An awake part that is ready to leave its state: what each entry asks of the timers. -/
structure Leaves (s : State) : Prop where
  awake : s.ign.awake = true
  periodic : Periodic s.leave true
  runOver : RunOver s.leave
  watch : s.ignition.watchTimer = none
  holdup : s.ignition.holdupTimer = none

theorem Timed.leaves {s : State} (h : Timed s) (hx : s.ign = .accessory ∨ s.ign = .run) : Leaves s := by
  have hawake : s.ign.awake = true := by rcases hx with hx | hx <;> rw [hx] <;> rfl
  refine ⟨hawake, hawake ▸ leave_periodic h, leave_runOver h, h.noWatch ?_, h.noHoldup ?_⟩
  all_goals rcases hx with hx | hx <;> rw [hx] <;> nofun

/-- Outside ACCESSORY and RUN leaving the state does nothing. -/
theorem leave_of_watch {s : State} (h : s.ign = .watch ∨ s.ign = .holdup) : s.leave = s := by
  unfold State.leave
  rcases h with h | h <;> rw [h]

theorem Timed.leaves_watch {s : State} (h : Timed s) (hx : s.ign = .watch) : Leaves (s.setWatch none) := by
  have hleave : (s.setWatch none).leave = s.setWatch none := leave_of_watch (.inl hx)
  have hp := h.periodic
  have hr := h.run.over (by rw [hx]; nofun)
  rw [hx] at hp
  refine ⟨?_, ?_, ?_, rfl, h.noHoldup (by rw [hx]; nofun)⟩
  · show s.ign.awake = true
    rw [hx]; rfl
  · rw [hleave]
    exact ⟨hp.display, hp.rate41, hp.topics, hp.gauges, hp.rules, hp.tick, hp.rate43, hp.flash⟩
  · rw [hleave]
    exact ⟨hr.silence, hr.bulb, hr.sweep⟩

theorem Timed.leaves_holdup {s : State} (h : Timed s) (hx : s.ign = .holdup) : Leaves s.endHoldup := by
  have hleave : s.endHoldup.leave = s.endHoldup := leave_of_watch (.inr hx)
  have hp := h.periodic
  have hr := h.run.over (by rw [hx]; nofun)
  rw [hx] at hp
  refine ⟨?_, ?_, ?_, h.noWatch (by rw [hx]; nofun), rfl⟩
  · show s.ign.awake = true
    rw [hx]; rfl
  · rw [hleave]
    exact ⟨hp.display, hp.rate41, hp.topics, hp.gauges, hp.rules, hp.tick, hp.rate43, hp.flash⟩
  · rw [hleave]
    exact ⟨hr.silence, hr.bulb, hr.sweep⟩

theorem Leaves.toRun {s : State} (h : Leaves s) : Timed s.toRun := toRun_timed h.periodic h.watch h.holdup
theorem Leaves.toAccessory {s : State} (h : Leaves s) : Timed s.toAccessory := toAccessory_timed h.periodic h.runOver h.watch h.holdup
theorem Leaves.toHoldup {s : State} (h : Leaves s) : Timed s.toHoldup := toHoldup_timed h.periodic h.runOver

theorem keyPosition_timed {s : State} (acc run : Bool) (h : Timed s) : Timed (s.keyPosition acc run) := by
  have h1 : Timed (s.takeLevels acc run) := (takeLevels_steady s acc run).timed h
  have hsettle {u : State} (k : Timed u) : Timed u.settleStore := (settleStore_steady u).timed k
  unfold State.keyPosition
  dsimp only
  split
  · exact h1
  · next hx => exact lookFromSleep_timed hx h1
  · next hx _ => exact hsettle (h1.leaves_watch hx).toRun
  · next hx _ => exact (h1.leaves_watch hx).toAccessory
  · exact h1
  · next hx _ => exact hsettle (h1.leaves (.inl hx)).toRun
  · next hx _ => exact (h1.leaves (.inl hx)).toHoldup
  · exact h1
  · next hx _ =>
    exact hsettle ((setStore_steady (move_placeSweep _)).timed (h1.leaves (.inr hx)).toAccessory)
  · next hx _ => exact (h1.leaves (.inr hx)).toHoldup
  · exact h1
  · next hx _ => exact hsettle (h1.leaves_holdup hx).toRun
  · next hx _ => exact hsettle (h1.leaves_holdup hx).toAccessory
  · exact h1

/-- A watch timer set or stopped in WATCH. -/
theorem setWatch_timed {s : State} (x : Option Nat) (hx : s.ign = .watch) (h : Timed s) : Timed (s.setWatch x) := by
  obtain ⟨hp, hc, hr, -, hh⟩ := h
  exact ⟨⟨hp.display, hp.rate41, hp.topics, hp.gauges, hp.rules, hp.tick, hp.rate43, hp.flash⟩, ⟨hc.window, hc.rate40⟩,
    ⟨hr.silence, hr.bulb, hr.sweep⟩, fun _ => hx, hh⟩

theorem wakeInput_timed {s : State} (high : Bool) (h : Timed s) : Timed (s.wakeInput high) := by
  have h1 := (setIgnition_steady (s := s) (i := { s.ignition with
    wake := high, pinWake := if high = s.ignition.wake then s.ignition.pinWake else high
    wakeSamples := if high = s.ignition.wake then s.ignition.wakeSamples else 0 }) ⟨rfl, rfl, rfl⟩).timed h
  unfold State.wakeInput
  dsimp only
  split
  · next hx => exact lookFromSleep_timed hx h1
  · next hx =>
    split
    · exact setWatch_timed _ hx h1
    · split
      · exact setWatch_timed _ hx h1
      · exact h1
  all_goals exact h1

theorem watchExpired_timed {s : State} (h : Timed s) : Timed s.watchExpired := by
  unfold State.watchExpired
  split
  · next hx =>
    have hp := h.periodic
    rw [hx.1] at hp
    have hleave := leave_of_watch (.inl hx.1)
    split
    · refine toHoldup_timed ?_ ?_
      · rw [hleave]; exact hp
      · rw [hleave]; exact h.run.over (by rw [hx.1]; nofun)
    · exact enterSleep_timed s
  · exact h

theorem holdupExpired_timed {s : State} (h : Timed s) : Timed s.holdupExpired := by
  unfold State.holdupExpired
  split
  · exact enterSleep_timed s
  · exact h

/-! ### Ends of block operations -/

theorem writeDone_timed {s : State} (h : Timed s) : Timed s.writeDone := by
  unfold State.writeDone
  split
  · exact holdupExit_timed ((settleStore_steady _).timed ((setStore_steady (move_writeReady _)).timed h))
  · exact h

theorem imageTaken_timed {s : State} (h : Timed s) : Timed s.imageTaken := by
  obtain ⟨hp, hc, hr, hw, hh⟩ := h
  exact ⟨⟨hp.display, hp.rate41, hp.topics, hp.gauges, hp.rules, hp.tick, hp.rate43, hp.flash⟩, ⟨hc.window, hc.rate40⟩,
    ⟨hr.silence, hr.bulb, hr.sweep⟩, hw, hh⟩

theorem serviceLoaded_steady (s : State) : Steady s s.serviceLoaded := .of_kept (serviceLoaded_kept s)

theorem loadLeft_timed {s : State} (hx : s.ign = .load) (h : Timed s) : Timed s.loadLeft := by
  rcases eq_or_ne s.ignition.asked .sleep with k | k
  · rw [loadLeft_of_sleep k]
    exact enterSleep_timed _
  · rw [loadLeft_of_ne k]
    have hc := h.counts
    have hr := h.run.over (by rw [hx]; nofun)
    rw [hx] at hc
    have hign := startTimers_ignition (s.goTo s.ignition.asked)
    have hcounts : Counts (s.goTo s.ignition.asked) false := ⟨hc.window, hc.rate40⟩
    have hrun : RunOnly (s.goTo s.ignition.asked).startTimers s.ignition.asked := by
      refine startTimers_runOnly (s := s.goTo s.ignition.asked) ?_
      show s.line.silence.isSome = true → _
      rw [hr.silence]
      nofun
    refine (deliverHeldDays_steady _).timed (enterAwake_timed ?_ (asked_awake k) (startTimers_periodic _)
      (startTimers_counts hcounts) hrun ?_ ?_)
    · rw [State.ign, hign]
      rfl
    · rw [hign]
      exact h.noWatch (by rw [hx]; nofun)
    · rw [hign]
      exact h.noHoldup (by rw [hx]; nofun)

theorem loadFill_timed {s : State} (b : Nat) (d : List Byte) (x : Bool) (hx : s.ign = .load) (h : Timed s) :
    Timed (s.loadFill b d x) := by
  rcases loadFill_cases s b d x with k | k
  · exact k.timed h
  · rw [k, loadDone_eq]
    have hrecord := loadRecord_steady s b d x
    have hign : (s.loadRecord b d x).imageTaken.serviceLoaded.ign = .load := by
      rw [(serviceLoaded_kept _).ign, (imageTaken_kept _).ign, hrecord.blocks.ign, hx]
    exact loadLeft_timed hign ((serviceLoaded_steady _).timed (imageTaken_timed (hrecord.timed h)))

theorem fillEnd_timed {s : State} (b : Nat) (h : Timed s) : Timed (s.fillEnd b) := by
  by_cases hx : s.ign = .load
  · rw [fillEnd_of_load hx]
    have htaken := fillTaken_steady s b
    exact (settleStore_steady _).timed ((taskApplied_steady _ _).timed
      (loadFill_timed _ _ _ (htaken.blocks.ign.trans hx) (htaken.timed h)))
  · exact (fillEnd_steady hx b).timed h

theorem readEnd_timed {s : State} (h : Timed s) : Timed s.readEnd := by
  unfold State.readEnd
  split
  · exact fillEnd_timed _ h
  · exact (verifyEnd_steady s _).timed h
  · exact h

/-! ### Every command -/

theorem timed_exec {c : Instr} (hc : c ≠ .powerOnReset) {s : State} (h : Timed s) :
    ∃ u, exec c s = .next (State.present s u) ∧ Timed u := by
  cases hm : c.movesIgnition with
  | false =>
    obtain ⟨u, hexec, hu⟩ := steady_exec hm s
    exact ⟨u, hexec, hu.timed h⟩
  | true =>
    cases c with
    | powerOnReset => exact absurd rfl hc
    | blockReadEnd => exact ⟨_, rfl, readEnd_timed h⟩
    | keyPositionChange a r => exact ⟨_, rfl, keyPosition_timed a r h⟩
    | wakeInputChange x => exact ⟨_, rfl, wakeInput_timed x h⟩
    | watchTimerExpiry => exact ⟨_, rfl, watchExpired_timed h⟩
    | holdupTimerExpiry => exact ⟨_, rfl, holdupExpired_timed h⟩
    | messageSent => exact ⟨_, rfl, holdupExit_timed ((messageSent_steady s).timed h)⟩
    | clash x => exact ⟨_, rfl, holdupExit_timed ((clash_steady s x).timed h)⟩
    | breakRecognised =>
      refine ⟨_, rfl, ?_⟩
      split
      · exact holdupExit_timed ((clash_steady s true).timed h)
      · exact (setLine_steady (breakHeard_ok _ _)).timed h
    | blockWriteReady => exact ⟨_, rfl, writeDone_timed h⟩
    | _ => cases hm

/-- The record that a command sends starts the port's timer if it does not run yet. -/
theorem refreshDisplay_timer {s u : State} (h : u.display.timer.isSome = true → u.ign.awake = true) :
    (State.refreshDisplay s u).display.timer.isSome = u.ign.awake := by
  unfold State.refreshDisplay
  cases hw : u.ign.awake with
  | false =>
    cases hd : u.display.timer.isSome with
    | false => exact hd
    | true => exact absurd (h hd) (by rw [hw]; decide)
  | true =>
    simp only [Bool.not_true, Bool.false_eq_true, if_false]
    cases hd : u.display.timer with
    | none => exact (congrArg Option.isSome (requestSend_timer _)).trans rfl
    | some n =>
      simp only [Option.isNone_some, Bool.false_eq_true, if_false]
      split
      · rw [hd]; rfl
      · rw [requestSend_timer, hd]; rfl

theorem refreshHolds_kept' (s u : State) : KeptBut [.keys] u (State.refreshHolds s u) := by
  unfold State.refreshHolds
  exact .ite (setKeys_kept _ _) (.ite (setKeys_kept _ _) (.refl _ _))

theorem present_follow {s u : State} (h : Timed u) : TimersFollow (State.present s u) := by
  have hkeys := refreshHolds_kept' s u
  have hk : Timed (State.refreshHolds s u) := Steady.timed (.of_kept hkeys) h
  have hd := refreshDisplay_timer (s := s) hk.periodic.display
  have hign : (State.present s u).ign = (State.refreshHolds s u).ign := (present_ign s u).trans hkeys.ign.symm
  refine Timed.follow ⟨⟨fun k => ?_, ?_, ?_, ?_, ?_, ?_, ?_, ?_⟩, ⟨?_, ?_⟩, ⟨?_, ?_, ?_⟩, ?_, ?_⟩ (hd.trans (congrArg _ hign.symm))
  · rw [hign, ← hd]; exact k
  all_goals
    simp only [present_ign, State.present_line, State.present_topics, State.present_gauges, State.present_rules,
      State.present_arbiter, State.present_sound, State.present_counting, State.present_ignition]
  · exact h.periodic.rate41
  · exact h.periodic.topics
  · exact h.periodic.gauges
  · exact h.periodic.rules
  · exact h.periodic.tick
  · exact h.periodic.rate43
  · exact h.periodic.flash
  · exact h.counts.window
  · exact h.counts.rate40
  · exact h.run.silence
  · exact h.run.bulb
  · exact h.run.sweep
  · exact h.watch
  · exact h.holdup

theorem powerOn_follow (s : State) : TimersFollow s.powerOn := reset_timersFollow

/-- Settles O10: `Timed` is kept by every command's own meaning, and the record that it sends starts the port's timer. -/
theorem timersFollowIgnition : Obligations.TimersFollowIgnition := by
  intro s t hs h
  rcases step_cases h with ⟨c, rest, -, hexec⟩ | ⟨-, rfl⟩
  · have hq : Timed (s.setPending rest) := (setPending_steady s rest).timed (.of_follow hs)
    by_cases hc : c = .powerOnReset
    · subst hc
      obtain rfl := exec_inj hexec (exec_powerOn _)
      exact powerOn_follow _
    · obtain ⟨u, hu, k⟩ := timed_exec hc hq
      obtain rfl := exec_inj hexec hu
      exact present_follow k
  · have hsteady := idle_steady s
    refine Timed.follow (hsteady.timed (.of_follow hs)) ?_
    rw [hsteady.blocks.display, hsteady.blocks.ign]
    exact hs.1.1

end Sys2Proof.Machine
end

section
/-! SUPPORT. The workshop handler's one request: what an operation leaves of it (`Hands`), and what an answer needs
(`Answerable`). -/
namespace Sys2Proof.Machine
set_option Elab.async false

/-! ### Counting the requests carried -/

def LineStation.owns (l : LineStation) : Nat := l.queue.countP fun m => m.answer == .own
def Service.waits (v : Service) : Nat := v.items.countP fun x => x.waitsWorkshop

/-- How many requests the gauges, the store and the service items carry for the workshop. -/
def State.works (s : State) : Nat :=
  (if s.gauges.testMark then 1 else 0) + (if s.store.task = .none then 0 else 1) + s.service.waits

theorem oneRequest_iff (s : State) : s.OneRequest ↔
    s.works ≤ (if s.handler.state = .working then 1 else 0) ∧ s.line.owns ≤ (if s.handler.state = .replying then 1 else 0) ∧
      (s.ign.awake = false → s.handler.state = .idle) ∧
      s.store.verifyOrders ≤ (match s.store.task with | .verify _ => 1 | _ => 0) ∧ s.store.VerifyListed := Iff.rfl

theorem verifyBound_of_not {t : Task} (h : ∀ b, t ≠ .verify b) : (match t with | .verify _ => 1 | _ => 0) = 0 := by
  cases t with
  | verify b => exact absurd rfl (h b)
  | _ => rfl

theorem countP_modify_le {α : Type} {p : α → Bool} {f : α → α} (l : List α) (i : Nat)
    (h : ∀ a, p (f a) = true → p a = true) : (l.modify i f).countP p ≤ l.countP p := by
  induction l generalizing i with
  | nil => simp
  | cons a l ih =>
    cases i with
    | zero =>
      rw [List.modify_zero_cons, List.countP_cons, List.countP_cons]
      have := h a
      cases hf : p (f a) <;> simp_all
    | succ i =>
      rw [List.modify_succ_cons, List.countP_cons, List.countP_cons]
      exact Nat.add_le_add_right (ih i) _

/-! ### The relation -/

/-- The handler and the replies in the queue stay, or a reply of the handler's own has left and the handler is IDLE. -/
def Sent (l : LineStation) (h : Handler) (l' : LineStation) (h' : Handler) : Prop :=
  (h'.state = h.state ∧ l'.owns ≤ l.owns) ∨ (h'.state = .idle ∧ l'.owns < l.owns)

/-- The operation carries nothing for the workshop and answers nothing. -/
structure Hands (s t : State) : Prop where
  awake : t.ign.awake = false → s.ign.awake = false
  mark : t.gauges.testMark = true → s.gauges.testMark = true
  waits : t.service.waits ≤ s.service.waits
  sent : Sent s.line s.handler t.line t.handler
  store : StoreLoose s.store t.store
  task : t.store.task = .none ↔ s.store.task = .none

/-- The handler has a request that nothing carries: it may be answered, or carried from now on. -/
structure Answerable (s : State) : Prop where
  one : s.OneRequest
  working : s.handler.state = .working
  works : s.works = 0

theorem Sent.refl (l : LineStation) (h : Handler) : Sent l h l h := .inl ⟨rfl, Nat.le_refl _⟩

theorem Sent.trans {l l' l'' : LineStation} {h h' h'' : Handler} (k : Sent l h l' h') (k' : Sent l' h' l'' h'') :
    Sent l h l'' h'' := by
  rcases k with ⟨k1, k2⟩ | ⟨k1, k2⟩ <;> rcases k' with ⟨k3, k4⟩ | ⟨k3, k4⟩
  · exact .inl ⟨k3.trans k1, k4.trans k2⟩
  · exact .inr ⟨k3, k4.trans_le k2⟩
  · exact .inr ⟨k3.trans k1, k4.trans_lt k2⟩
  · exact .inr ⟨k3, k4.trans k2⟩

theorem Hands.refl (s : State) : Hands s s := ⟨id, id, Nat.le_refl _, .refl _ _, .refl _, .rfl⟩
theorem Hands.trans {s t u : State} (h : Hands s t) (k : Hands t u) : Hands s u :=
  ⟨h.awake ∘ k.awake, h.mark ∘ k.mark, k.waits.trans h.waits, h.sent.trans k.sent, h.store.trans k.store, k.task.trans h.task⟩
theorem Hands.after {s t u : State} (k : Hands t u) (h : Hands s t) : Hands s u := h.trans k

theorem Hands.ite {p : Prop} [Decidable p] {s t u : State} (h : Hands s t) (k : Hands s u) :
    Hands s (if p then t else u) := by split <;> assumption

theorem Hands.foldl {α : Type} {f : State → α → State} (h : ∀ s a, Hands s (f s a)) (l : List α) (s : State) :
    Hands s (l.foldl f s) := by
  induction l generalizing s with
  | nil => exact .refl s
  | cons a l ih => exact (h s a).trans (ih (f s a))

/-- From an operation's frame and what it does to the blocks that carry requests. -/
theorem Hands.of {bs : List Block} {s t : State} (k : KeptBut bs s t)
    (ignition : Block.ignition ∈ bs → (t.ign.awake = false → s.ign.awake = false) := by exact fun h => absurd h (by decide))
    (gauges : Block.gauges ∈ bs → (t.gauges.testMark = true → s.gauges.testMark = true) := by
      exact fun h => absurd h (by decide))
    (service : Block.service ∈ bs → t.service.waits ≤ s.service.waits := by exact fun h => absurd h (by decide))
    (line : Block.line ∈ bs ∨ Block.handler ∈ bs → Sent s.line s.handler t.line t.handler := by
      exact fun h => absurd h (by decide))
    (store : Block.store ∈ bs → StoreCalm s.store t.store := by exact fun h => absurd h (by decide)) : Hands s t where
  awake := if hb : _ then ignition hb else k.ign hb ▸ id
  mark := if hb : _ then gauges hb else k.gauges hb ▸ id
  waits := if hb : _ then service hb else (k.service hb ▸ Nat.le_refl _)
  sent :=
    if hb : _ then line hb
    else by
      obtain ⟨hl, hh⟩ := not_or.mp hb
      rw [k.line hl, k.handler hh]
      exact .refl _ _
  store := if hb : _ then (store hb).loose else k.store hb ▸ .refl _
  task := if hb : _ then by rw [(store hb).sameTask] else by rw [k.store hb]

/-- An operation that leaves the blocks that carry requests alone. -/
theorem Hands.of_kept {bs : List Block} {s t : State} (k : KeptBut bs s t)
    (hb : bs ⊆ [.counting, .arith, .trip, .keys, .display, .topics, .rules, .arbiter, .sound, .freeIndex, .pending] := by
      decide) : Hands s t := .of (k.mono hb)

theorem setStore_hands {s : State} {st : Store} (h : StoreCalm s.store st) : Hands s (s.setStore st) :=
  .of (setStore_kept s st) (store := fun _ => h)

theorem setLine_hands {s : State} {l : LineStation} (h : l.owns ≤ s.line.owns) : Hands s (s.setLine l) :=
  .of (setLine_kept s l) (line := fun _ => .inl ⟨rfl, h⟩)

theorem setGauges_hands {s : State} {u : Gauges} (h : u.testMark = true → s.gauges.testMark = true) : Hands s (s.setGauges u) :=
  .of (setGauges_kept s u) (gauges := fun _ => h)

theorem setService_hands {s : State} {v : Service} (h : v.waits ≤ s.service.waits) : Hands s (s.setService v) :=
  .of (setService_kept s v) (service := fun _ => h)

theorem modifyItem_hands (s : State) (i : Nat) {f : ServiceItem → ServiceItem}
    (h : ∀ x, (f x).waitsWorkshop = true → x.waitsWorkshop = true) : Hands s (s.modifyItem i f) :=
  setService_hands (countP_modify_le _ i h)

theorem modifyGauge_hands (s : State) (g : Nat) (f : Gauge → Gauge) : Hands s (s.modifyGauge g f) := setGauges_hands id

theorem update_hands (s : State) (b : Nat) (f) : Hands s (s.update b f) := setStore_hands (move_update _ _ _)

/-! ### What it keeps -/

theorem Hands.works {s t : State} (h : Hands s t) : t.works ≤ s.works := by
  have h1 : (if t.gauges.testMark then 1 else 0) ≤ (if s.gauges.testMark then 1 else 0 : Nat) := by
    have := h.mark
    cases ht : t.gauges.testMark <;> cases hs : s.gauges.testMark <;> simp_all
  have h2 : (if t.store.task = .none then 0 else 1 : Nat) = if s.store.task = .none then 0 else 1 := by simp only [h.task]
  have h3 := h.waits
  unfold State.works
  omega

theorem StoreLoose.bound {st st' : Store} (h : StoreLoose st st')
    (k : st.verifyOrders ≤ (match st.task with | .verify _ => 1 | _ => 0)) :
    st'.verifyOrders ≤ (match st'.task with | .verify _ => 1 | _ => 0) := by
  obtain ⟨htask, horders, -⟩ := StoreLoose.verify h
  rw [horders]
  by_cases hv : ∃ b, st.task = .verify b
  · obtain ⟨b, hb⟩ := hv
    rw [(htask b).mpr hb]
    rwa [hb] at k
  · have hn : ∀ b, st.task ≠ .verify b := fun b hb => hv ⟨b, hb⟩
    rw [verifyBound_of_not hn] at k
    exact k.trans (Nat.zero_le _)

theorem Hands.one {s t : State} (h : Hands s t) (k : s.OneRequest) : t.OneRequest := by
  obtain ⟨kworks, kowns, kidle, kverify, klisted⟩ := (oneRequest_iff s).mp k
  have hworks := h.works
  refine (oneRequest_iff t).mpr ⟨?_, ?_, ?_, h.store.bound kverify, (StoreLoose.verify h.store).2.2 klisted⟩
  all_goals rcases h.sent with ⟨hh, ho⟩ | ⟨hh, ho⟩
  · rw [hh]; omega
  · rw [hh]
    split at kowns
    · next hs => rw [hs] at kworks; simpa using hworks.trans kworks
    · omega
  · rw [hh]; omega
  · rw [hh]
    have : s.line.owns ≤ 1 := kowns.trans (by split <;> omega)
    simp only [reduceCtorEq, if_false]
    omega
  · rw [hh]; exact fun ha => kidle (h.awake ha)
  · exact fun _ => hh

theorem OneRequest.owns_of_ne {s : State} (k : s.OneRequest) (h : s.handler.state ≠ .replying) : s.line.owns = 0 := by
  obtain ⟨-, kowns, -⟩ := (oneRequest_iff s).mp k
  rw [if_neg h] at kowns
  omega

theorem Hands.answerable {s t : State} (h : Hands s t) (k : Answerable s) : Answerable t := by
  have howns := OneRequest.owns_of_ne k.one (by rw [k.working]; nofun)
  refine ⟨h.one k.one, ?_, Nat.le_zero.mp (k.works ▸ h.works)⟩
  rcases h.sent with ⟨hh, -⟩ | ⟨-, ho⟩
  · exact hh.trans k.working
  · omega

/-! ### The queue -/

theorem replyLeft_state (s : State) (m : Msg) :
    (s.replyLeft m).line = s.line ∧
      (s.replyLeft m).handler.state = if m.answer = .own then .idle else s.handler.state := by
  unfold State.replyLeft
  split <;> exact ⟨rfl, rfl⟩

theorem busyReplaced_state (s : State) (old new : Msg) :
    (s.busyReplaced old new).line = s.line ∧ (s.busyReplaced old new).handler.state = s.handler.state := by
  unfold State.busyReplaced
  split <;> exact ⟨rfl, rfl⟩

/-- How many replies of the handler's own leave with a message. -/
def Msg.own (m : Msg) : Nat := if m.answer == .own then 1 else 0

theorem owns_eraseIdx {q : List Msg} {i : Nat} {m : Msg} (h : q[i]? = some m) :
    (q.eraseIdx i).countP (fun m => m.answer == .own) + m.own = q.countP fun m => m.answer == .own :=
  countP_eraseIdx_add _ h

theorem owns_append (q : List Msg) (m : Msg) :
    (q ++ [m]).countP (fun m => m.answer == .own) = (q.countP fun m => m.answer == .own) + m.own := by
  rw [List.countP_append, List.countP_singleton]
  rfl

/-- A message that leaves the queue, another placed behind it or not. -/
theorem left_sent {l l' : LineStation} {s : State} {m : Msg} {h : Handler} (hs : s.line = l') (hh : s.handler = h)
    (ho : l'.owns + m.own = l.owns) : Sent l h (s.replyLeft m).line (s.replyLeft m).handler := by
  obtain ⟨hline, hstate⟩ := replyLeft_state s m
  rw [hline, hs]
  by_cases hown : m.answer = .own
  · rw [if_pos hown] at hstate
    have : m.own = 1 := by unfold Msg.own; rw [hown]; rfl
    exact .inr ⟨hstate, by omega⟩
  · rw [if_neg hown, hh] at hstate
    exact .inl ⟨hstate, by omega⟩

theorem placeFull_sent (s : State) (m : Msg) (hm : m.own = 0) : Sent s.line s.handler (s.placeFull m).line (s.placeFull m).handler := by
  have hdrop : Sent s.line s.handler ((s.setLine s.line.drop).replyLeft m).line ((s.setLine s.line.drop).replyLeft m).handler :=
    left_sent rfl rfl (by rw [hm]; rfl)
  unfold State.placeFull
  dsimp only
  split
  · split
    · next i hi =>
      obtain ⟨hlt, -⟩ := List.findIdx?_eq_some_iff_getElem.mp hi
      have hget : s.line.queue[i]? = some (s.line.queue.getD i m) := by
        rw [List.getD_eq_getElem?_getD, List.getElem?_eq_getElem hlt]
        rfl
      refine left_sent rfl rfl ?_
      show (s.line.queue.eraseIdx i ++ [m]).countP _ + _ = _
      rw [owns_append, hm]
      exact owns_eraseIdx hget
    · exact hdrop
  · exact hdrop

theorem placeMsg_sent (s : State) (m : Msg) (hm : m.own = 0) : Sent s.line s.handler (s.placeMsg m).line (s.placeMsg m).handler := by
  unfold State.placeMsg
  dsimp only
  split
  · next i _ =>
    obtain ⟨hline, hstate⟩ := busyReplaced_state (s.setLine { s.line with queue := s.line.queue.modify i m.coalesce })
      (s.line.queue.getD i m) m
    rw [hline]
    refine .inl ⟨hstate, countP_modify_le _ i fun a ha => ?_⟩
    rw [Msg.own] at hm
    have : (m.answer == .own) = true := ha
    rw [this] at hm
    simp at hm
  · split
    · refine .inl ⟨rfl, ?_⟩
      show (s.line.queue ++ [m]).countP _ ≤ _
      rw [owns_append, hm]
      exact Nat.le_refl _
    · exact placeFull_sent s m hm

theorem queue_hands (s : State) (topic cls : Nat) (kind : MsgKind) (data : List Byte) {answer : Answer}
    (h : answer ≠ .own := by nofun) : Hands s (s.queue topic cls kind data answer) := by
  refine .of (queue_kept s topic cls kind data answer) (line := fun _ => ?_)
  unfold State.queue
  refine Sent.trans (l' := { s.line with seqs := s.line.seqs.advance topic }) (h' := s.handler) (.inl ⟨rfl, Nat.le_refl _⟩) ?_
  refine placeMsg_sent _ _ ?_
  unfold Msg.own
  rw [beq_eq_false_iff_ne.mpr h]
  rfl

theorem publish_hands (s : State) (topic cls : Nat) (data : List Byte) : Hands s (s.publish topic cls data) :=
  queue_hands s topic cls .publication data

theorem answerBusy_hands (s : State) (topic : Nat) : Hands s (s.answerBusy topic) :=
  .ite (.of (unanswer_kept s) (line := fun _ => .inl ⟨rfl, Nat.le_refl _⟩)) (queue_hands s _ _ _ _)

theorem departSending_hands (s : State) : Hands s s.departSending := by
  refine .of (departSending_kept s) (line := fun _ => ?_)
  unfold State.departSending
  split
  · split
    · next m hm => exact left_sent rfl rfl (owns_eraseIdx hm)
    · exact .refl _ _
  · exact .refl _ _

theorem messageSent_hands (s : State) : Hands s s.messageSent :=
  .ite (.after (setLine_hands (Nat.le_refl _)) (departSending_hands s)) (.refl s)

theorem clashMessage_hands (s : State) : Hands s s.clashMessage := by
  refine .of (clashMessage_kept s) (line := fun _ => ?_)
  unfold State.clashMessage
  split
  · split
    · next m hm =>
      split
      · exact left_sent rfl rfl (owns_eraseIdx hm)
      · exact .inl ⟨rfl, countP_modify_le _ _ fun _ h => h⟩
    · exact .refl _ _
  · exact .refl _ _

theorem clash_hands (s : State) (first : Bool) : Hands s (s.clash first) := by
  unfold State.clash
  refine .ite (.trans (clashMessage_hands s) (setLine_hands ?_)) (.refl s)
  split <;> exact Nat.le_refl _

/-! ### Answers -/

theorem countP_modify_le_succ {α : Type} (p : α → Bool) (f : α → α) (l : List α) (i : Nat) :
    (l.modify i f).countP p ≤ l.countP p + 1 := by
  induction l generalizing i with
  | nil => simp
  | cons a l ih =>
    cases i with
    | zero =>
      rw [List.modify_zero_cons, List.countP_cons, List.countP_cons]
      split <;> omega
    | succ i =>
      rw [List.modify_succ_cons, List.countP_cons, List.countP_cons]
      have := ih i
      omega

theorem own_eq_zero {q : List Msg} {i : Nat} {m : Msg} (h : q[i]? = some m)
    (hq : (q.countP fun m => m.answer == .own) = 0) : m.own = 0 := by
  have := owns_eraseIdx h
  omega

theorem own_le (m : Msg) : m.own ≤ 1 := by unfold Msg.own; split <;> omega

/-- The queue holds no reply of the handler's own, or one while the handler is REPLYING. -/
def State.ReplyKept (s : State) : Prop := s.line.owns ≤ if s.handler.state = .replying then 1 else 0

theorem replyKept_of_none {s : State} (h : s.line.owns = 0) : s.ReplyKept := h.le.trans (Nat.zero_le _)

theorem replyKept_of_replying {s : State} (h : s.line.owns ≤ 1) (hs : s.handler.state = .replying) : s.ReplyKept := by
  unfold State.ReplyKept
  rwa [if_pos hs]

/-- A message placed in a queue without a reply of the handler's own, by a handler that is REPLYING. -/
theorem placeMsg_own {s : State} (howns : s.line.owns = 0) (hstate : s.handler.state = .replying) (m : Msg) :
    (s.placeMsg m).ReplyKept := by
  have hdrop : ((s.setLine s.line.drop).replyLeft m).ReplyKept :=
    replyKept_of_none (by rw [(replyLeft_state _ m).1]; exact howns)
  have hzero : s.line.queue.countP (fun m => m.answer == .own) = 0 := howns
  have hown := own_le m
  unfold State.placeMsg
  dsimp only
  split
  · obtain ⟨hline, hkeeps⟩ := busyReplaced_state _ _ m
    refine replyKept_of_replying ?_ (hkeeps.trans hstate)
    rw [hline]
    exact (countP_modify_le_succ _ _ _ _).trans (by rw [hzero])
  split
  · refine replyKept_of_replying ?_ hstate
    show (s.line.queue ++ [m]).countP _ ≤ 1
    rw [owns_append, hzero]
    omega
  unfold State.placeFull
  dsimp only
  split
  · split
    · next i hi =>
      obtain ⟨hlt, -⟩ := List.findIdx?_eq_some_iff_getElem.mp hi
      have hget : s.line.queue[i]? = some (s.line.queue.getD i m) := by
        rw [List.getD_eq_getElem?_getD, List.getElem?_eq_getElem hlt]
        rfl
      have hold := own_eq_zero hget hzero
      have hnot : (s.line.queue.getD i m).answer ≠ .own := by
        intro ho
        rw [Msg.own, ho] at hold
        cases hold
      obtain ⟨hline, hkeeps⟩ := replyLeft_state _ (s.line.queue.getD i m)
      rw [if_neg hnot] at hkeeps
      refine replyKept_of_replying ?_ (hkeeps.trans hstate)
      rw [hline]
      show (s.line.queue.eraseIdx i ++ [m]).countP _ ≤ 1
      have herase := owns_eraseIdx hget
      rw [owns_append]
      omega
    · exact hdrop
  · exact hdrop

/-- An answer ends the request: the reply is queued, or the handler is IDLE at once. -/
theorem returnStatus_one {s : State} (h : Answerable s) (x : Status) (r : List Byte) : (s.returnStatus x r).OneRequest := by
  obtain ⟨hone, hworking, hworks⟩ := h
  have howns := OneRequest.owns_of_ne hone (by rw [hworking]; nofun)
  obtain ⟨-, -, hidle, hverify, hlisted⟩ := (oneRequest_iff s).mp hone
  have hkept := returnStatus_kept s x r
  have hawake : s.ign.awake ≠ false := fun ha => by have := hidle ha; rw [hworking] at this; cases this
  suffices hend : (s.returnStatus x r).ReplyKept by
    refine (oneRequest_iff _).mpr ⟨?_, hend, fun ha => absurd (hkept.ign (by decide) ▸ ha) hawake, ?_, ?_⟩
    · unfold State.works at *
      rw [hkept.gauges, hkept.store, hkept.service]
      omega
    · rw [hkept.store]; exact hverify
    · rw [hkept.store]; exact hlisted
  exact placeMsg_own (s := (s.setHandler { s.handler with state := .replying }).setLine
    { s.line with seqs := s.line.seqs.advance 0x70 }) howns rfl _

end Sys2Proof.Machine
end

section
/-! SUPPORT. The workshop's affairs through every operation of the arbiter, the service unit, counting, topics and keys. -/
namespace Sys2Proof.Machine
set_option Elab.async false

/-! ### Arbiter and rules -/

theorem queueSummary_hands (s : State) : Hands s s.queueSummary := publish_hands s _ _ _
theorem queueCascade_hands (s : State) : Hands s s.queueCascade := publish_hands s _ _ _

theorem arbiterEvent_hands {s : State} {f : State → State} (h : Hands s (f s)) : Hands s (s.arbiterEvent f) := by
  unfold State.arbiterEvent
  dsimp only
  have h1 : Hands s (f s).dropPresented.select :=
    (h.trans (.of_kept (dropPresented_kept _))).trans (.of_kept (select_kept _))
  have h2 := Hands.ite (p := (s.shown.isSome && (f s).dropPresented.select.shown.isNone) = true)
    (h1.trans (.of_kept (noneShown_kept _))) h1
  have h3 := (h2.trans (.of_kept (endStaleReview_kept _))).trans (.of_kept (syncChime_kept _))
  exact .ite h3 (h3.trans (queueSummary_hands _))

theorem edgeRequest_hands (s : State) (w : Nat) : Hands s (s.edgeRequest w) :=
  .ite (arbiterEvent_hands (.of_kept (takeEdge_kept s w))) (.refl s)

theorem requestSet_hands (s : State) (level edge : Nat → Bool) : Hands s (s.requestSet level edge) :=
  arbiterEvent_hands (.foldl (fun s w => .ite ((Hands.of_kept (takeLevel_kept s w _)).trans (.of_kept (takeEdge_kept _ w)))
    (.of_kept (takeLevel_kept s w _))) _ s)

theorem acknowledgeSub_hands (s : State) (n : Nat) : Hands s (s.acknowledgeSub n) := by
  unfold State.acknowledgeSub
  dsimp only
  have h1 : Hands s (s.setArbiter { s.arbiter with subs := s.arbiter.subs.set n .ackedLocal }).queueCascade :=
    .after (queueCascade_hands _) (.of_kept (setArbiter_kept s _))
  exact .ite (.ite (h1.trans (.of_kept (presentNext_kept _))) h1)
    (.ite ((h1.trans (.of_kept (takeLevel_kept _ _ _))).trans (.of_kept (rotate_kept _ _)))
      (h1.trans (.of_kept (takeLevel_kept _ _ _))))

theorem acknowledgeAny_hands (s : State) (w : Nat) : Hands s (s.acknowledgeAny w) := by
  refine .ite ?_ (.of_kept (acknowledge_kept s w))
  unfold State.acknowledgeCascade
  dsimp only
  split
  · exact acknowledgeSub_hands s _
  · exact .refl s

theorem ackPress_hands (s : State) : Hands s s.ackPress := by
  refine arbiterEvent_hands ?_
  split
  · exact .ite (.refl s) (acknowledgeAny_hands s _)
  · exact .of_kept (reviewStep_kept s)

theorem specificAck_hands (s : State) (w : Nat) : Hands s (s.specificAck w).1 := by
  unfold State.specificAck
  split
  · show Hands s (s.arbiterEvent fun s => s.acknowledgeAny w)
    exact arbiterEvent_hands (acknowledgeAny_hands s w)
  · exact .refl s

theorem patternDone_hands (s : State) (w : Nat) : Hands s (s.patternDone w) :=
  arbiterEvent_hands (.ite (.ite (.of_kept (acknowledge_kept s w)) (.of_kept (modifyWarning_kept s w _))) (.refl s))

theorem cadence_hands (s : State) : Hands s (State.reportDone s.cadenceEnd) := by
  have h : Hands s s.cadenceEnd.1.syncChime := (Hands.of_kept (cadenceEnd_kept s)).trans (.of_kept (syncChime_kept _))
  unfold State.reportDone
  split
  · exact h.trans (patternDone_hands _ _)
  · exact h

theorem arbiterTicked_hands (s : State) : Hands s s.arbiterTicked :=
  arbiterEvent_hands (.after (.of_kept (shownTick_kept _)) (.after (.of_kept (reviewTick_kept _)) (.of_kept (setArbiter_kept s _))))

theorem cascadeArrival_hands (s : State) : Hands s s.cascadeArrival := by
  unfold State.cascadeArrival
  refine arbiterEvent_hands (.after (.of_kept (followPresented_kept _)) (.after (.of_kept (takeLevel_kept _ _ _)) ?_))
  have hsub {l : List SubState} : Hands s (s.setArbiter { s.arbiter with subs := l }) := .of_kept (setArbiter_kept s _)
  exact .ite (hsub.trans (queueCascade_hands _)) hsub

theorem cascadeLost_hands (s : State) : Hands s s.cascadeLost :=
  arbiterEvent_hands (.after (.of_kept (takeLevel_kept _ _ _)) (.of_kept (setArbiter_kept s _)))

theorem evaluateRules_hands (s : State) : Hands s s.evaluateRules :=
  .after (requestSet_hands _ _ _) (.of_kept (setRules_kept s _))

/-! ### Service unit -/

theorem waits_of_map {v v' : Service} (h : v'.items.map (·.waitsWorkshop) = v.items.map (·.waitsWorkshop)) :
    v'.waits = v.waits := by
  have hcount (v : Service) : v.waits = (v.items.map (·.waitsWorkshop)).countP id := by
    rw [List.countP_map]
    rfl
  rw [hcount, hcount, h]

theorem formItem_waits (s : State) (i : Nat) : (s.formQuietly [i]).service.waits ≤ s.service.waits := by
  refine countP_modify_le _ i fun x h => h

theorem formQuietly_hands (s : State) (is : List Nat) : Hands s (s.formQuietly is) :=
  .foldl (f := fun s i => s.modifyItem i fun x => { x with state := s.newItemState i })
    (fun s i => modifyItem_hands s i fun _ h => h) is s

theorem formItems_hands (s : State) (is : List Nat) : Hands s (s.formItems is) :=
  .trans (formQuietly_hands s is) (.foldl edgeRequest_hands _ _)

theorem serviceReminders_hands (s : State) : Hands s s.serviceReminders := .foldl edgeRequest_hands _ s

theorem setMark_hands (s : State) (b : Nat) (x : Bool) : Hands s (s.setMark b x) := setService_hands (Nat.le_refl _)

theorem fetchService_hands (s : State) (b : Nat) : Hands s (s.fetchService b) :=
  .ite (.refl s) (.trans (setStore_hands (move_fetch _ _)) (setMark_hands _ _ _))

theorem countItem_hands (km : Bool) (s : State) (i : Nat) : Hands s (State.countItem km s i) :=
  .ite (.ite (update_hands _ _ _) (.trans (modifyItem_hands s i fun x h => by
    unfold ServiceItem.pend at h
    split at h <;> exact h) (fetchService_hands _ _))) (.refl s)

theorem countdown_hands (s : State) (km : Bool) : Hands s (s.countdown km) :=
  .trans (.foldl (countItem_hands km) _ s) (formItems_hands _ _)

/-- A reset that the chauffeur asked for. -/
theorem applyReset_hands (s : State) (i : Nat) : Hands s (s.applyReset i false) := by
  unfold State.applyReset
  dsimp only
  exact .trans (.trans (.trans (update_hands s _ _) (modifyItem_hands _ i fun _ h => by cases h)) (formItems_hands _ _))
    (setStore_hands (move_writeback _ _ _))

theorem requestReset_hands (s : State) (i : Nat) : Hands s (s.requestReset i false) :=
  .ite (applyReset_hands s i) (.trans (modifyItem_hands s i fun x h => by simpa using h) (fetchService_hands _ _))

theorem applyPending_hands (s : State) (i : Nat) : Hands s (s.applyPending i) :=
  .ite (.refl s) (.trans (update_hands s _ _) (modifyItem_hands _ i fun _ h => h))

theorem fetchSelected_hands (s : State) : Hands s s.fetchSelected := by
  unfold State.fetchSelected
  split
  · exact .ite (.refl s) (fetchService_hands s _)
  · exact .refl s

theorem stepSelection_hands (s : State) : Hands s s.stepSelection := by
  unfold State.stepSelection
  split
  · exact .refl s
  · dsimp only
    exact .ite (setService_hands (Nat.le_refl _)) (.after (fetchSelected_hands _) (setService_hands (Nat.le_refl _)))

theorem serviceWake_hands (s : State) : Hands s s.serviceWake :=
  .foldl (fun s b => .ite (fetchService_hands s b) (.refl s)) _ s

theorem deliverHeldDays_hands (s : State) : Hands s s.deliverHeldDays :=
  .after (.foldl (fun s _ => countdown_hands s false) _ _) (.of_kept (setCounting_kept s _))

/-! ### Counting and trips -/

theorem onTrips_hands {f : State → TripRecord → State} (h : ∀ s r, Hands s (f s r)) (s : State) : Hands s (s.onTrips f) :=
  .trans (.trans (h _ _) (h _ _)) (h _ _)

theorem addDistance_hands (s : State) (r : TripRecord) (d : Nat) : Hands s (s.addDistance r d) := by
  cases r with
  | journey => exact .of_kept (setTrip_kept s _)
  | _ => exact update_hands s _ _

theorem addFuel_hands (s : State) (r : TripRecord) (d : Nat) : Hands s (s.addFuel r d) := by
  cases r with
  | journey => exact .of_kept (setTrip_kept s _)
  | _ => exact update_hands s _ _

theorem addTime_hands (s : State) (r : TripRecord) (d : Nat) : Hands s (s.addTime r d) := by
  cases r with
  | journey => exact .of_kept (setTrip_kept s _)
  | _ => exact update_hands s _ _

theorem setEconomy_hands (s : State) (r : TripRecord) (x : Result) : Hands s (s.setEconomy r x) := by
  cases r with
  | journey => exact .of_kept (setTrip_kept s _)
  | _ => exact .after (.of_kept (setFreeIndex_kept _ _)) (update_hands s _ _)

theorem setAverage_hands (s : State) (r : TripRecord) (x : Result) : Hands s (s.setAverage r x) := by
  cases r with
  | journey => exact .of_kept (setTrip_kept s _)
  | _ => exact .after (.of_kept (setFreeIndex_kept _ _)) (update_hands s _ _)

theorem gainOdometer_hands (s : State) : Hands s s.gainOdometer := by
  unfold State.gainOdometer
  refine .ite (update_hands s _ _) ?_
  dsimp only
  exact .ite (.after (.of_kept (setCounting_kept _ _)) (.after (setStore_hands (move_writeback _ _ _)) (update_hands s _ _)))
    (.after (.of_kept (setCounting_kept _ _)) (update_hands s _ _))

theorem distanceStep_hands (s : State) : Hands s s.distanceStep := by
  unfold State.distanceStep
  dsimp only
  have h1 : Hands s ((s.setCounting s.counting.step).setStore { s.store with latch := true }) :=
    .after (setStore_hands (.latch _)) (.of_kept (setCounting_kept s _))
  have h2 := h1.trans (Hands.ite (p := 9 ≤ s.counting.odometerSub) (gainOdometer_hands _) (.refl _))
  have h3 := h2.trans (onTrips_hands (fun s r => addDistance_hands s r 1) _)
  exact .ite (h3.trans (countdown_hands _ _)) h3

theorem acceptPulse_hands (s : State) : Hands s s.acceptPulse := by
  unfold State.acceptPulse
  dsimp only
  refine .ite (.after (distanceStep_hands _) ?_) ?_
  all_goals exact .of_kept (setCounting_kept s _)

theorem clockSecond_hands (s : State) : Hands s s.clockSecond := by
  unfold State.clockSecond
  dsimp only
  have h1 : Hands s (s.setCounting s.counting.second.1) := .of_kept (setCounting_kept s _)
  exact .ite h1 (.ite (h1.trans (countdown_hands _ _)) (h1.trans (.of_kept (setCounting_kept _ _))))

theorem tripSecond_hands (s : State) : Hands s s.tripSecond := .ite (onTrips_hands (fun s r => addTime_hands s r 1) s) (.refl s)

theorem passTarget_hands {s : State} {clear : State → State} (t : Target) (r : Option Request) (hc : Hands s (clear s)) :
    Hands s (s.passTarget t r clear) := by
  unfold State.passTarget
  split
  · exact .refl s
  · split
    · exact .of_kept (issue_kept s _)
    · exact hc

theorem passRecord_hands (snapshot s : State) (r : TripRecord) : Hands s (snapshot.passRecord s r) := by
  unfold State.passRecord
  dsimp only
  refine .after (passTarget_hands _ _ ?_) (passTarget_hands _ _ ?_)
  · exact .ite (.refl _) (setAverage_hands _ _ _)
  · exact .ite (.refl _) (setEconomy_hands _ _ _)

theorem tripPass_hands (s : State) : Hands s s.tripPass := by
  unfold State.tripPass
  dsimp only
  refine .after (passTarget_hands _ _ (.of_kept (setTrip_kept _ _))) (.after (passTarget_hands _ _ (.of_kept (setTrip_kept _ _)))
    (.after (passRecord_hands _ _ _) (.after (passRecord_hands _ _ _) (.after (passRecord_hands _ _ _) ?_))))
  exact .of_kept (setCounting_kept s _)

theorem rearPageDue_hands (s : State) : Hands s s.rearPageDue := .ite (publish_hands s _ _ _) (.refl s)

theorem oneSecond_hands (s : State) : Hands s (s.setCounting { s.counting with
    secondTimer := 100 }).clockSecond.tripSecond.filterFuel.passDue.rearPageDue :=
  .after (rearPageDue_hands _) (.after (.ite (tripPass_hands _) (.refl _)) (.after (.of_kept (filterFuel_kept _))
    (.after (tripSecond_hands _) (.after (clockSecond_hands _) (.of_kept (setCounting_kept s _))))))

theorem takeRecord_hands (s : State) (t : TripRecord) (g : Nat) {f : State → State} (h : Hands s (f s)) :
    Hands s (s.takeRecord t g f) := .ite h (.of_kept (setArith_kept s _))

theorem deliver_hands (s : State) (r : Request) : Hands s (s.deliver r) := by
  unfold State.deliver
  split
  · exact modifyGauge_hands s _ _
  · exact .of_kept (takeSpeed_kept s _)
  · exact .of_kept (takeFuel_kept s _ _)
  · exact takeRecord_hands s _ _ (setEconomy_hands s _ _)
  · exact takeRecord_hands s _ _ (setAverage_hands s _ _)
  · exact .of_kept (setTrip_kept s _)
  · exact .of_kept (setTrip_kept s _)

theorem complete_hands (s : State) : Hands s s.complete := by
  unfold State.complete
  split
  · exact (deliver_hands s _).trans (.of_kept (leaveUnit_kept _))
  · exact .refl s

theorem fuelArrival_hands (s : State) : Hands s s.fuelArrival := by
  unfold State.fuelArrival
  split
  · exact .of_kept (setCounting_kept s _)
  · dsimp only
    split
    · exact .of_kept (setCounting_kept s _)
    · exact .ite (.of_kept (setCounting_kept s _))
        (.after (.of_kept (setCounting_kept _ _)) (onTrips_hands (fun s r => addFuel_hands s r _) s))

/-! ### Topics -/

theorem tellArrival_hands (s : State) (e : Nat) : Hands s (s.tellArrival e) := by
  unfold State.tellArrival
  split
  · exact fuelArrival_hands s
  · exact .after (.of_kept (turnTick_kept _)) (.after (.of_kept (turnArrival_kept _)) (.of_kept (tankArrival_kept s)))
  · exact (cascadeArrival_hands s).trans (.of_kept (followQuietCabin_kept _))
  · exact .refl s

theorem gaugesLoseEngine_hands (s : State) : Hands s s.gaugesLoseEngine :=
  .trans (.trans (modifyGauge_hands s _ _) (modifyGauge_hands _ _ _)) (modifyGauge_hands _ _ _)

theorem tellLost_hands (s : State) (e : Nat) : Hands s (s.tellLost e) := by
  unfold State.tellLost
  split
  · exact gaugesLoseEngine_hands s
  · exact .of_kept (setCounting_kept s _)
  · exact .after (.of_kept (setSound_kept _ _)) (.after (.of_kept (setCounting_kept _ _)) (.after (modifyGauge_hands _ _ _)
      (.of_kept (tankLost_kept s))))
  · exact (cascadeLost_hands s).trans (.of_kept (followQuietCabin_kept _))
  · exact .refl s

theorem toEntry_hands (s : State) (e a b : Nat) (d : List Byte) : Hands s (s.toEntry e a b d) :=
  .ite (.after (tellArrival_hands _ _) (.of_kept (setTopics_kept s _))) (.of_kept (setTopics_kept s _))

theorem freshness_hands (s : State) : Hands s s.freshness := by
  unfold State.freshness
  dsimp only
  exact .after (.of_kept (setCounting_kept _ _)) (.after (.foldl tellLost_hands _ _) (.of_kept (setTopics_kept s _)))

/-! ### Keys -/

theorem selectPage_hands (s : State) (p : Page) : Hands s (s.selectPage p) :=
  .ite (.trans (.of_kept (setTrip_kept s _)) (fetchSelected_hands _)) (.of_kept (setTrip_kept s _))

theorem pageMode_hands (s : State) : Hands s s.pageMode :=
  .ite (.refl s) (.ite (.of_kept (setHold_kept s _ _)) (selectPage_hands s _))

theorem takePress_hands (s : State) (k : Key) : Hands s (s.takePress k) := by
  unfold State.takePress
  dsimp only
  have h1 : Hands s (s.setCounting s.counting.restartIdle) := .of_kept (setCounting_kept s _)
  split
  · exact h1.trans (ackPress_hands _)
  · exact .ite (h1.trans (.of_kept (setCounting_kept _ _))) (h1.trans (pageMode_hands _))
  · exact .ite (h1.trans (.of_kept (setCounting_kept _ _))) (h1.trans (.of_kept (pageSet_kept _)))
  · exact .ite h1 (h1.trans (.of_kept (pageReset_kept _)))

theorem pressKey_hands (s : State) (k : Key) : Hands s (s.pressKey k) := by
  unfold State.pressKey
  dsimp only
  refine .ite (.of_kept (putKey_kept s k _)) (.ite (.after (takePress_hands _ k) ?_) (.of_kept (putKey_kept s k _)))
  exact .after (.of_kept (setSound_kept _ _)) (.of_kept (putKey_kept s k _))

theorem releaseKey_hands (s : State) (k : Key) : Hands s (s.releaseKey k) :=
  .ite (.after (selectPage_hands _ _) (.of_kept (putKey_kept s k _))) (.of_kept (putKey_kept s k _))

theorem clockSetMark_hands (s : State) : Hands s s.clockSetMark := .of_kept (clockSetMark_kept s)

theorem resetTrip_hands (s : State) (r : TripRecord) : Hands s (s.resetTrip r) := by
  cases r with
  | journey => exact .refl s
  | _ => exact .after (.of_kept (setFreeIndex_kept _ _)) (update_hands s _ _)

theorem tripResetMark_hands (s : State) : Hands s s.tripResetMark := by
  unfold State.tripResetMark
  split
  · exact .after (resetTrip_hands _ _) (.of_kept (setHold_kept s _ _))
  · exact .refl s

theorem serviceStepMark_hands (s : State) : Hands s s.serviceStepMark := by
  unfold State.serviceStepMark
  split
  · exact .trans (.of_kept (putKey_kept s _ _)) (stepSelection_hands _)
  · exact .refl s

theorem serviceResetMark_hands (s : State) : Hands s s.serviceResetMark := by
  unfold State.serviceResetMark
  split
  · dsimp only
    split
    · exact .ite (.trans (.of_kept (setHold_kept s _ _)) (requestReset_hands _ _)) (.of_kept (setHold_kept s _ _))
    · exact .of_kept (setHold_kept s _ _)
  · exact .refl s

end Sys2Proof.Machine
end

section
/-! SUPPORT. The workshop's one request through the operations that carry or answer it, and through every step.
Settles O9. -/
namespace Sys2Proof.Machine
set_option Elab.async false

/-! ### The store's progress -/

theorem OneRequest.task_ne {s : State} (h : s.OneRequest) (ht : s.store.task ≠ .none) :
    s.handler.state = .working ∧ s.works = 1 := by
  obtain ⟨hworks, -⟩ := (oneRequest_iff s).mp h
  have : 1 ≤ s.works := by
    unfold State.works
    rw [if_neg ht]
    omega
  split at hworks
  · next hw => exact ⟨hw, by omega⟩
  · omega

/-- A request in progress ends: its answer is due. -/
theorem Answerable.of_ended {s : State} (h : s.OneRequest) {st : Store} (hmove : StoreLoose s.store st)
    (ht : s.store.task ≠ .none) (he : st.task = .none) : Answerable (s.setStore st) := by
  obtain ⟨hworking, hworks⟩ := OneRequest.task_ne h ht
  obtain ⟨-, howns, hidle, hverify, hlisted⟩ := (oneRequest_iff s).mp h
  have hzero : (s.setStore st).works = 0 := by
    unfold State.works at *
    rw [if_neg ht] at hworks
    rw [State.setStore_store, if_pos he, State.setStore_gauges, State.setStore_service]
    omega
  refine ⟨(oneRequest_iff _).mpr ⟨by rw [hzero]; exact Nat.zero_le _, howns, hidle, hmove.bound hverify, ?_⟩, hworking, hzero⟩
  exact (StoreLoose.verify hmove).2.2 hlisted

theorem settleStore_cases (s : State) :
    (∃ x, s.settleStore = (s.setStore (s.store.settle settleFuel).1).returnStatus x [] ∧
      (s.store.settle settleFuel).2 = some x) ∨
    s.settleStore = s.setStore (s.store.settle settleFuel).1 ∧ (s.store.settle settleFuel).2 = none := by
  unfold State.settleStore
  split
  · next h => exact .inl ⟨_, by rw [h], by rw [h]⟩
  · next h => exact .inr ⟨by rw [h], by rw [h]⟩

theorem setStore_loose_hands {s : State} {st : Store} (h : StoreLoose s.store st)
    (ht : st.task = .none ↔ s.store.task = .none) : Hands s (s.setStore st) where
  awake := id
  mark := id
  waits := Nat.le_refl _
  sent := .refl _ _
  store := h
  task := ht

theorem settleStore_one {s : State} (h : s.OneRequest) : s.settleStore.OneRequest := by
  obtain ⟨hmove, hgo, hends⟩ := settle_spec settleFuel s.store
  rcases settleStore_cases s with ⟨x, he, hx⟩ | ⟨he, hx⟩
  · obtain ⟨ht, -, hn⟩ := hends (by rw [hx]; rfl)
    rw [he]
    exact returnStatus_one (.of_ended h hmove ht hn) _ _
  · rw [he]
    exact (setStore_loose_hands hmove (hgo hx)).one h

/-- Without a request in progress the store's progress answers none. -/
theorem settleStore_hands {s : State} (h : s.store.task = .none) : Hands s s.settleStore := by
  obtain ⟨hmove, hgo, hends⟩ := settle_spec settleFuel s.store
  rcases settleStore_cases s with ⟨x, -, hx⟩ | ⟨he, hx⟩
  · exact absurd h (hends (by rw [hx]; rfl)).1
  · rw [he]
    exact setStore_loose_hands hmove (hgo hx)

/-! ### The gauge test -/

theorem tellTest_one {s : State} (h : s.OneRequest) (x : Status) : (s.tellTest x).OneRequest := by
  unfold State.tellTest
  split
  · next hm =>
    have hclear : Hands s (s.setGauges { s.gauges with testMark := false }) := setGauges_hands nofun
    have hone := hclear.one h
    obtain ⟨hworks, -⟩ := (oneRequest_iff s).mp h
    have hpos : 1 ≤ s.works := by
      unfold State.works
      rw [if_pos hm]
      omega
    have hworking : s.handler.state = .working := by
      by_contra hn
      rw [if_neg hn] at hworks
      omega
    rw [if_pos hworking] at hworks
    refine returnStatus_one ⟨hone, hworking, ?_⟩ _ _
    have hworks' : 1 + (if s.store.task = .none then 0 else 1) + s.service.waits ≤ 1 := by
      unfold State.works at hworks
      rwa [if_pos hm] at hworks
    show 0 + (if s.store.task = .none then 0 else 1) + s.service.waits = 0
    omega
  · exact h

theorem sweepGauges_hands (s : State) (gs : List Gauge) (p : Option Nat) :
    Hands s (s.setGauges { s.gauges with gauges := gs, sweep := p }) := setGauges_hands (u := { s.gauges with gauges := gs, sweep := p }) id

theorem endSweep_one {s : State} (h : s.OneRequest) : s.endSweep.OneRequest :=
  tellTest_one ((sweepGauges_hands s _ _).one h) _

theorem sweepStep_one {s : State} (h : s.OneRequest) : s.sweepStep.OneRequest := by
  unfold State.sweepStep
  split
  · split
    · exact endSweep_one h
    · exact (sweepGauges_hands s _ _).one h
  · exact h

theorem parkGauges_one {s : State} (h : s.OneRequest) : s.parkGauges.OneRequest :=
  tellTest_one ((sweepGauges_hands s _ _).one h) _

/-! ### Requests that begin -/

/-- A request that the store takes: answered at once, or in progress with at most its own VERIFY order. -/
structure Takes (st : Store) (r : Store × Option Status) : Prop where
  answered : r.2.isSome = true → StoreCalm st r.1
  begun : r.2 = none → st.task = .none → r.1.task ≠ .none ∧ (st.VerifyListed → r.1.VerifyListed) ∧
    r.1.verifyOrders ≤ st.verifyOrders + (match r.1.task with | .verify _ => 1 | _ => 0)

theorem Takes.of_calm {st st' : Store} (h : StoreCalm st st') (x : Status) : Takes st (st', some x) := ⟨fun _ => h, nofun⟩

/-- A request other than VERIFY begins after a chain that leaves VERIFY orders alone. -/
theorem Takes.of_task {st st' : Store} (h : StoreCalm st st') {k : Task} (hk : k ≠ .none := by nofun) :
    Takes st ({ st' with task := k }, none) := by
  obtain ⟨-, horders, hlisted⟩ := StoreLoose.verify h
  exact ⟨nofun, fun _ _ => ⟨hk, hlisted, by rw [show ({ st' with task := k } : Store).verifyOrders = st.verifyOrders from horders]; omega⟩⟩

theorem takes_fetch (st : Store) (b : Nat) : Takes st (st.taskFetch b) := by
  unfold Store.taskFetch
  split
  · exact .of_calm (move_fetch st b) _
  · exact .of_task (move_fetch st b)

theorem takes_fetchPin (st : Store) (b : Nat) : Takes st (st.taskFetchPin b) := by
  unfold Store.taskFetchPin
  split
  · exact .of_calm (move_fetch st b) _
  split
  · exact .of_calm (.refl st) _
  split
  · exact .of_calm ((move_fetch st b).trans (move_setPin (.inl rfl))) _
  · exact .of_task (move_fetch st b)

theorem takes_unpin (st : Store) (b : Nat) : Takes st (st.taskUnpin b) := by
  unfold Store.taskUnpin
  split
  · exact .of_calm (.refl st) _
  · next h =>
    split
    · exact .of_calm (move_setPin (.inr (two_lt_of_not_system h))) _
    · exact .of_calm (.refl st) _

theorem takes_writeback (st : Store) (b : Nat) : Takes st (st.taskWriteback b) := .of_task (move_writeback st b true)

theorem takes_writebackInvalidate (st : Store) (b : Nat) : Takes st (st.taskWritebackInvalidate b) := by
  unfold Store.taskWritebackInvalidate
  split
  · exact .of_calm (.refl st) _
  split
  · exact .of_calm (.refl st) _
  · exact .of_task (.refl st)

theorem takes_invalidate (st : Store) (b : Nat) : Takes st (st.taskInvalidate b) := by
  unfold Store.taskInvalidate
  split
  · exact .of_calm (.refl st) _
  split
  · exact .of_calm (.refl st) _
  · exact .of_task (.refl st)

theorem takes_index (st : Store) (x y : Nat) : Takes st (st.taskIndex x y) := by
  unfold Store.taskIndex
  dsimp only
  split
  · exact .of_calm (.refl st) _
  · exact takes_writebackInvalidate st _
  · exact .of_calm (.refl st) _

theorem takes_setOdometer (st : Store) (v : Nat) : Takes st (st.taskSetOdometer v) := by
  unfold Store.taskSetOdometer
  split
  · exact .of_calm (.refl st) _
  split
  · exact .of_calm (.refl st) _
  · exact .of_task ((move_update st 0 _).trans (move_writeback _ _ _))

theorem place_verifyOrders (st : Store) (o : Order) :
    (st.place o).verifyOrders ≤ st.verifyOrders + 1 ∧ (st.VerifyListed → (st.place o).VerifyListed) := by
  unfold Store.place
  split
  · have hcount := countP_append_one o st.orders
    have hle : (st.orders ++ [o]).countP Order.isVerify ≤ st.orders.countP Order.isVerify + 1 := by
      rw [hcount]
      split <;> omega
    refine ⟨?_, verifyListed_of_countP rfl (hcount ▸ Nat.le_add_right _ _)⟩
    calc (st.orders ++ [o]).countP Order.isVerify + waitingVerifies st.waiting
        ≤ st.orders.countP Order.isVerify + 1 + waitingVerifies st.waiting := Nat.add_le_add_right hle _
      _ = st.verifyOrders + 1 := by unfold Store.verifyOrders; omega
  split
  · next k _ =>
    refine ⟨?_, id⟩
    have : waitingVerifies (st.waiting.modify k (Waiting.mergeWith o)) ≤ waitingVerifies st.waiting :=
      countP_modify_le _ k fun w hw => by rwa [mergeWith_wantsVerify] at hw
    exact (Nat.add_le_add_left this _).trans (Nat.le_succ _)
  · refine ⟨?_, id⟩
    have : waitingVerifies (st.waiting ++ [.order o]) ≤ waitingVerifies st.waiting + 1 := by
      unfold waitingVerifies
      rw [List.countP_append, List.countP_singleton]
      split <;> omega
    exact Nat.add_le_add_left this _

theorem takes_verify (st : Store) (b : Nat) : Takes st (st.taskVerify b) :=
  ⟨nofun, fun _ _ => ⟨nofun, (place_verifyOrders st _).2, (place_verifyOrders st _).1⟩⟩

theorem Answerable.task {s : State} (h : Answerable s) : s.store.task = .none := by
  by_contra hn
  have := (OneRequest.task_ne h.one hn).2
  rw [h.works] at this
  cases this

/-- A request in progress is carried by the store alone. -/
theorem begun_one {s : State} (h : Answerable s) {st : Store} (ht : st.task ≠ .none)
    (hl : s.store.VerifyListed → st.VerifyListed)
    (hv : st.verifyOrders ≤ s.store.verifyOrders + (match st.task with | .verify _ => 1 | _ => 0)) :
    (s.setStore st).OneRequest := by
  have hnone := h.task
  obtain ⟨hone, hworking, hworks⟩ := h
  obtain ⟨-, howns, hidle, hverify, hlisted⟩ := (oneRequest_iff s).mp hone
  rw [hnone] at hverify
  refine (oneRequest_iff _).mpr ⟨?_, howns, hidle, hv.trans ?_, hl hlisted⟩
  · show (s.setStore st).works ≤ if s.handler.state = .working then 1 else 0
    rw [if_pos hworking]
    unfold State.works at *
    rw [State.setStore_store, if_neg ht, State.setStore_gauges, State.setStore_service]
    omega
  · have : s.store.verifyOrders = 0 := Nat.le_zero.mp hverify
    rw [this, Nat.zero_add]
    exact Nat.le_refl _

theorem takeTask_one {s : State} (h : Answerable s) {r : Store × Option Status} (hr : Takes s.store r) : (s.takeTask r).OneRequest := by
  obtain ⟨st, x⟩ := r
  cases x with
  | some x => exact settleStore_one (returnStatus_one ((setStore_hands (hr.answered rfl)).answerable h) x [])
  | none =>
    obtain ⟨ht, hl, hv⟩ := hr.begun rfl h.task
    exact settleStore_one (begun_one h ht hl hv)

theorem recordOperation_one {s : State} (h : Answerable s) (op b : Nat) : (s.recordOperation op b).OneRequest := by
  unfold State.recordOperation
  split
  · exact takeTask_one h (takes_fetch _ _)
  · exact takeTask_one h (takes_fetchPin _ _)
  · exact takeTask_one h (takes_unpin _ _)
  · exact takeTask_one h (takes_writeback _ _)
  · exact takeTask_one h (takes_writebackInvalidate _ _)
  · exact takeTask_one h (takes_invalidate _ _)
  · exact takeTask_one h (takes_verify _ _)

/-- A request begins that waits for a fill. -/
theorem begun_fetch_one {s : State} (h : Answerable s) (b : Nat) {k : Task} (hk : k ≠ .none := by nofun) :
    (s.setStore { s.store.fetch b with task := k }).settleStore.OneRequest := by
  obtain ⟨ht, hl, hv⟩ := (Takes.of_task (k := k) (move_fetch s.store b) hk).begun rfl h.task
  exact settleStore_one (begun_one h ht hl hv)

theorem requestRead_one {s : State} (h : Answerable s) (b o : Nat) : (s.requestRead b o).OneRequest := by
  unfold State.requestRead
  split
  · exact settleStore_one (returnStatus_one ((setStore_hands (move_fetch _ _)).answerable h) _ _)
  · exact begun_fetch_one h b

theorem serviceWritten_hands (s : State) (b : Nat) : Hands s (s.serviceWritten b) := formItems_hands s _

/-- A write of a block that is present, taken up by the handler or resumed after the block's fill. -/
theorem applyWrite_one {s : State} (h : Answerable (s.setStore { s.store with task := .none })) (b o : Nat) (d : List Byte) :
    (s.applyWrite b o d).OneRequest := by
  unfold State.applyWrite
  dsimp only
  have h1 := (update_hands _ b fun bs => splice bs o d).answerable h
  split
  · exact returnStatus_one h _ _
  · split
    · exact returnStatus_one ((serviceWritten_hands _ _).answerable h1) _ _
    · exact returnStatus_one h1 _ _

theorem Answerable.noTask {s : State} (h : Answerable s) : Answerable (s.setStore { s.store with task := .none }) := by
  rw [show (s.setStore { s.store with task := .none }) = s from by rw [← h.task]; rfl]
  exact h

theorem requestWrite_one {s : State} (h : Answerable s) (b o : Nat) (d : List Byte) : (s.requestWrite b o d).OneRequest := by
  unfold State.requestWrite
  split
  · exact returnStatus_one h _ _
  split
  · exact settleStore_one (applyWrite_one h.noTask _ _ _)
  · exact begun_fetch_one h b

/-! ### Service resets of the workshop -/

/-- An item's reset, up to the write-back of its block. -/
def State.resetItem (s : State) (i : Nat) : State :=
  (s.update (itemBlock i) (resetField (s.itemFigures i) s.store.odometerValue i)).modifyItem i fun x =>
    { x with pendingKm := 0, pendingDays := 0, waitsChauffeur := false, waitsWorkshop := false }

theorem resetItem_hands (s : State) (i : Nat) : Hands s (s.resetItem i) :=
  .trans (update_hands s _ _) (modifyItem_hands _ i fun _ h => by cases h)

theorem applyReset_one {s : State} {i : Nat} (h : Answerable (s.resetItem i)) : (s.applyReset i true).OneRequest := by
  have h3 := (formItems_hands _ [i]).answerable h
  obtain ⟨ht, hl, hv⟩ := (Takes.of_task (k := .placing) (move_writeback _ (itemBlock i) true)).begun rfl h3.task
  exact begun_one h3 ht hl hv

theorem countP_modify_lt {α : Type} {p : α → Bool} {f : α → α} {l : List α} {i : Nat} {a : α} (h : l[i]? = some a)
    (hp : p a = true) (hf : p (f a) = false) : (l.modify i f).countP p + 1 = l.countP p := by
  induction l generalizing i with
  | nil => simp at h
  | cons b l ih =>
    cases i with
    | zero =>
      obtain rfl : b = a := by simpa using h
      rw [List.modify_zero_cons, List.countP_cons, List.countP_cons, hp, hf]
      rfl
    | succ i =>
      rw [List.modify_succ_cons, List.countP_cons, List.countP_cons, ← ih (by simpa using h)]
      omega

theorem item_get {s : State} {i : Nat} (h : (s.item i).waitsWorkshop = true) : s.service.items[i]? = some (s.item i) := by
  unfold State.item at *
  rw [List.getD_eq_getElem?_getD] at *
  cases hi : s.service.items[i]? with
  | none => rw [hi] at h; cases h
  | some x => rfl

/-- A reset that waits for the workshop is the one request: with it taken off, nothing carries it. -/
theorem resetItem_answerable {s : State} {i : Nat} (h : s.OneRequest) (hi : (s.item i).waitsWorkshop = true) :
    Answerable (s.resetItem i) := by
  have hone := (resetItem_hands s i).one h
  have hcount : (s.resetItem i).service.waits + 1 = s.service.waits :=
    countP_modify_lt (p := fun x : ServiceItem => x.waitsWorkshop) (item_get hi) hi rfl
  have hkept : KeptBut [.store, .service] s (s.resetItem i) := (update_kept s _ _).andThen (modifyItem_kept _ i _)
  have htask := (resetItem_hands s i).task
  have hworks : (s.resetItem i).works + 1 = s.works := by
    unfold State.works
    simp only [hkept.gauges, htask]
    omega
  obtain ⟨hbound, -⟩ := (oneRequest_iff s).mp h
  have hworking : s.handler.state = .working := by
    by_contra hn
    rw [if_neg hn] at hbound
    omega
  rw [if_pos hworking] at hbound
  exact ⟨hone, by rw [hkept.handler]; exact hworking, by omega⟩

theorem requestReset_one {s : State} (h : Answerable s) (i : Nat) : (s.requestReset i true).OneRequest := by
  unfold State.requestReset
  split
  · exact applyReset_one ((resetItem_hands s i).answerable h)
  · refine (fetchService_hands _ _).one ?_
    obtain ⟨hone, hworking, hworks⟩ := h
    obtain ⟨-, howns, hidle, hverify, hlisted⟩ := (oneRequest_iff s).mp hone
    refine (oneRequest_iff _).mpr ⟨?_, howns, hidle, hverify, hlisted⟩
    have hcount := countP_modify_le_succ (fun x : ServiceItem => x.waitsWorkshop)
      (fun x => { x with waitsChauffeur := x.waitsChauffeur || !true, waitsWorkshop := x.waitsWorkshop || true }) s.service.items i
    show (s.modifyItem i _).works ≤ if s.handler.state = .working then 1 else 0
    rw [if_pos hworking]
    calc (if s.gauges.testMark then 1 else 0) + (if s.store.task = .none then 0 else 1) +
          (s.service.items.modify i _).countP (fun x => x.waitsWorkshop)
        ≤ (if s.gauges.testMark then 1 else 0) + (if s.store.task = .none then 0 else 1) + (s.service.waits + 1) :=
          Nat.add_le_add_left hcount _
      _ = s.works + 1 := by unfold State.works; omega
      _ = 1 := by rw [hworks]

theorem applyWaiting_one {s : State} (h : s.OneRequest) (i : Nat) : (s.applyWaiting i).OneRequest := by
  unfold State.applyWaiting
  dsimp only
  split
  · cases hw : (s.item i).waitsWorkshop with
    | true => exact applyReset_one (resetItem_answerable h hw)
    | false => exact (applyReset_hands s i).one h
  · exact h

theorem foldl_one {α : Type} {f : State → α → State} (h : ∀ s a, s.OneRequest → (f s a).OneRequest) (l : List α) {s : State}
    (hs : s.OneRequest) : (l.foldl f s).OneRequest := by
  induction l generalizing s with
  | nil => exact hs
  | cons a l ih => exact ih (h s a hs)

theorem serviceFill_one {s : State} (h : s.OneRequest) (b : Nat) (bad : Bool) : (s.serviceFill b bad).OneRequest := by
  unfold State.serviceFill
  dsimp only
  refine (setMark_hands _ _ _).one ((formItems_hands _ _).one (foldl_one (fun s i hs => applyWaiting_one hs i) _ ?_))
  exact ((Hands.ite (update_hands s b _) (.refl s)).trans (.foldl applyPending_hands _ _)).one h

theorem requestServiceReset_one {s : State} (h : Answerable s) (i : Nat) : (s.requestServiceReset i).OneRequest := by
  unfold State.requestServiceReset
  split
  · exact settleStore_one (requestReset_one h i)
  · exact returnStatus_one h _ _

/-! ### The handler -/

theorem requestGaugeTest_one {s : State} (h : Answerable s) : s.requestGaugeTest.OneRequest := by
  unfold State.requestGaugeTest
  split
  · obtain ⟨hone, hworking, hworks⟩ := h
    obtain ⟨-, howns, hidle, hverify, hlisted⟩ := (oneRequest_iff s).mp hone
    refine (oneRequest_iff _).mpr ⟨?_, howns, hidle, hverify, hlisted⟩
    show (s.setGauges s.gauges.test).works ≤ if s.handler.state = .working then 1 else 0
    rw [if_pos hworking]
    unfold State.works at *
    rw [State.setGauges_store, State.setGauges_service]
    split <;> omega
  · exact returnStatus_one h _ _

theorem badRequest_one {s : State} (h : Answerable s) : s.badRequest.OneRequest := returnStatus_one h _ _

theorem requestStatus_one {s : State} (h : Answerable s) (x y : Nat) : (s.requestStatus x y).OneRequest := by
  unfold State.requestStatus
  split
  · exact returnStatus_one h _ _
  · exact badRequest_one h

theorem takeEmpty_one {s u : State} (h : Answerable s) (hu : u.OneRequest) (d : List Byte) : (s.takeEmpty u d).OneRequest := by
  unfold State.takeEmpty
  split
  · exact hu
  · exact badRequest_one h

theorem one_ite {p : Prop} [Decidable p] {s t : State} (h : s.OneRequest) (k : t.OneRequest) :
    (if p then s else t).OneRequest := by split <;> assumption

theorem takeRead_one {s : State} (h : Answerable s) (d : List Byte) : (s.takeRead d).OneRequest := by
  unfold State.takeRead
  split
  · exact one_ite (requestRead_one h _ _) (badRequest_one h)
  · exact badRequest_one h

theorem takeWrite_one {s : State} (h : Answerable s) (d : List Byte) : (s.takeWrite d).OneRequest := by
  unfold State.takeWrite
  split
  · exact one_ite (requestWrite_one h _ _ _) (badRequest_one h)
  · exact badRequest_one h

theorem takeRecordOperation_one {s : State} (h : Answerable s) (d : List Byte) : (s.takeRecordOperation d).OneRequest := by
  unfold State.takeRecordOperation
  split
  · exact one_ite (recordOperation_one h _ _) (badRequest_one h)
  · exact one_ite (takeTask_one h (takes_index _ _ _)) (badRequest_one h)
  · exact badRequest_one h

theorem takeServiceReset_one {s : State} (h : Answerable s) (d : List Byte) : (s.takeServiceReset d).OneRequest := by
  unfold State.takeServiceReset
  split
  · exact one_ite (requestServiceReset_one h _) (badRequest_one h)
  · exact badRequest_one h

theorem takeAck_one {s : State} (h : Answerable s) (d : List Byte) : (s.takeAck d).OneRequest := by
  unfold State.takeAck
  split
  · exact one_ite (returnStatus_one ((specificAck_hands s _).answerable h) _ _) (badRequest_one h)
  · exact badRequest_one h

theorem takeStatus_one {s : State} (h : Answerable s) (d : List Byte) : (s.takeStatus d).OneRequest := by
  unfold State.takeStatus
  split
  · exact requestStatus_one h _ _
  · exact badRequest_one h

theorem requestClose_one {s : State} (h : Answerable s) : s.requestClose.OneRequest :=
  returnStatus_one ((setStore_hands (.latch _)).answerable h) _ _

theorem carryOut_one {s : State} (h : Answerable s) (topic : Nat) (d : List Byte) : (s.carryOut topic d).OneRequest :=
  one_ite (takeRead_one h d) (one_ite (takeWrite_one h d) (one_ite (takeRecordOperation_one h d)
    (one_ite (one_ite (takeTask_one h (takes_setOdometer _ _)) (badRequest_one h))
      (one_ite (takeEmpty_one h (requestClose_one h) d) (one_ite (takeServiceReset_one h d) (one_ite (takeAck_one h d)
        (one_ite (takeStatus_one h d) (one_ite (takeEmpty_one h (requestGaugeTest_one h) d) (badRequest_one h)))))))))

theorem workshopRequest_one {s : State} (h : s.OneRequest) (topic : Nat) (d : List Byte) : (s.workshopRequest topic d).OneRequest := by
  unfold State.workshopRequest
  split
  · exact h
  · next hawake =>
    split
    · next hidle =>
      obtain ⟨hworks, howns, -, hverify, hlisted⟩ := (oneRequest_iff s).mp h
      have hzero : s.works = 0 := Nat.le_zero.mp (hworks.trans (by rw [hidle]; exact Nat.le_refl _))
      have hnone : s.line.owns = 0 := Nat.le_zero.mp (howns.trans (by rw [hidle]; exact Nat.le_refl _))
      have htaken : (s.setHandler { s.handler with state := .working, topic := topic }).OneRequest := by
        refine (oneRequest_iff _).mpr ⟨hzero.le.trans (Nat.zero_le _), hnone.le.trans (Nat.zero_le _), fun ha => ?_, hverify, hlisted⟩
        rw [State.ign, State.setHandler_ignition] at ha
        exact absurd (by rw [State.ign, ha]; rfl) hawake
      exact carryOut_one ⟨htaken, rfl, hzero⟩ topic d
    · exact (answerBusy_hands s topic).one h

end Sys2Proof.Machine
end

section
/-! SUPPORT. The workshop's one request through changes of the ignition state and every command. Settles O9. -/
namespace Sys2Proof.Machine
set_option Elab.async false

/-! ### Ends of block operations -/

theorem endTask_answerable {s : State} (h : s.OneRequest) (ht : s.store.task ≠ .none) (hv : ∀ b, s.store.task ≠ .verify b) :
    Answerable (s.setStore { s.store with task := .none }) :=
  .of_ended h (loose_endTask hv) ht rfl

theorem taskFilled_one {s : State} (h : s.OneRequest) (b : Nat) (d : List Byte) (x : Bool) : (s.taskFilled b d x).OneRequest := by
  unfold State.taskFilled
  dsimp only
  split
  · next ht => exact one_ite (returnStatus_one (endTask_answerable h (by rw [ht]; nofun) (by rw [ht]; nofun)) _ _) h
  · next ht => exact one_ite (returnStatus_one (endTask_answerable h (by rw [ht]; nofun) (by rw [ht]; nofun)) _ _) h
  · exact h

theorem taskApplied_one {s : State} (h : s.OneRequest) (b : Nat) : (s.taskApplied b).OneRequest := by
  unfold State.taskApplied
  split
  · next ht => exact one_ite (applyWrite_one (endTask_answerable h (by rw [ht]; nofun) (by rw [ht]; nofun)) _ _ _) h
  · exact h

/-- The end of a VERIFY read takes its one order off. -/
theorem endVerify_orders {st : Store} {b : Nat} (hop : st.op = some (.readVerify b)) (hl : st.VerifyListed)
    (hv : st.verifyOrders ≤ 1) : (st.endKind Order.isVerify).verifyOrders = 0 := by
  have hany := hl b hop
  unfold Store.endKind
  split
  · next k hk =>
    obtain ⟨o, hget, ho⟩ := findIdx?_spec hk
    have herase := countP_eraseIdx_add Order.isVerify hget
    rw [if_pos ho] at herase
    have hwait : waitingVerifies (st.waiting.map (Waiting.victimWritten 0)) = waitingVerifies st.waiting := by
      unfold waitingVerifies
      rw [List.countP_map]
      exact List.countP_congr fun w _ => by rw [Function.comp_apply, victimWritten_wantsVerify]
    have hend : (st.endOrder k).orders = st.orders.eraseIdx k ∧ (st.endOrder k).waiting = st.waiting := by
      unfold Store.endOrder
      rw [hget]
      cases o with
      | verify c => exact ⟨rfl, rfl⟩
      | _ => cases ho
    unfold Store.verifyOrders at *
    rw [hend.1, hend.2]
    omega
  · next hnone =>
    rw [List.findIdx?_eq_none_iff] at hnone
    obtain ⟨o, hmem, ho⟩ := List.any_eq_true.mp hany
    exact absurd ho (by rw [hnone o hmem]; decide)

theorem verifyEnd_one {s : State} (h : s.OneRequest) {b : Nat} (hop : s.store.op = some (.readVerify b)) (c : Nat) :
    (s.verifyEnd c).OneRequest := by
  obtain ⟨-, howns, hidle, hverify, hlisted⟩ := (oneRequest_iff s).mp h
  have htask : ∃ c, s.store.task = .verify c := by
    by_contra hn
    rw [verifyBound_of_not fun c hc => hn ⟨c, hc⟩] at hverify
    have hpos := any_iff_countP_pos.mp (hlisted b hop)
    unfold Store.verifyOrders at hverify
    omega
  obtain ⟨d, hd⟩ := htask
  have ht : s.store.task ≠ .none := by rw [hd]; nofun
  obtain ⟨hworking, hworks⟩ := OneRequest.task_ne h ht
  rw [hd] at hverify
  have horders := endVerify_orders hop hlisted hverify
  unfold State.verifyEnd
  refine settleStore_one (returnStatus_one ?_ _ _)
  have hzero : (s.setStore { s.store.endKind Order.isVerify with op := none, task := .none }).works = 0 := by
    unfold State.works at *
    rw [if_neg ht] at hworks
    rw [State.setStore_store, if_pos rfl, State.setStore_gauges, State.setStore_service]
    omega
  refine ⟨(oneRequest_iff _).mpr ⟨hzero.le.trans (Nat.zero_le _), howns, hidle, ?_, nofun⟩, hworking, hzero⟩
  exact horders.le.trans (Nat.zero_le _)

theorem setIgnition_hands {s : State} {i : Ignition} (h : i.state = s.ign) : Hands s (s.setIgnition i) :=
  .of (setIgnition_kept s i) (ignition := fun _ k => by
    rw [State.ign, State.setIgnition_ignition, h] at k
    exact k)

theorem loadNext_hands (s : State) (b : Nat) : Hands s (s.loadNext b) :=
  .after (setStore_hands (move_fetch _ _)) (setIgnition_hands rfl)

theorem checkImage_hands (s : State) : Hands s s.checkImage := .ite (setIgnition_hands rfl) (setIgnition_hands rfl)

theorem loadRecord_hands (s : State) (b : Nat) (d : List Byte) (x : Bool) : Hands s (s.loadRecord b d x) := by
  unfold State.loadRecord
  exact .ite (.ite (.refl s) (update_hands s _ _)) (.ite (.refl s)
    (.ite (.after (.of_kept (setFreeIndex_kept _ _)) (update_hands s _ _)) (update_hands s _ _)))

/-! ### SLEEP entry and wake -/

theorem sleepEntry_store (s : State) : s.sleepEntry.store = (s.store.abandonWrite s.freeIndex).sleep := by
  unfold State.sleepEntry State.storeSleep
  simp only [State.setHandler_store, State.setFreeIndex_store, State.setStore_store, State.setService_store, State.setSound_store,
    State.setService_freeIndex, State.setSound_freeIndex, (arbiterSleep_kept _).store, (arbiterSleep_kept _).freeIndex]
  rfl

theorem sleep_waits (v : Service) : v.sleep.waits = 0 := by
  unfold Service.waits Service.sleep
  rw [List.countP_map]
  exact List.countP_eq_zero.mpr fun x _ => by simp

theorem sleepEntry_one (s : State) : s.sleepEntry.OneRequest := by
  obtain ⟨-, -, -, hline, -, hgauges, -, hservice⟩ := sleepEntry_blocks_eq s
  have hstore := sleepEntry_store s
  have hhandler : s.sleepEntry.handler.state = .idle := rfl
  have hworks : s.sleepEntry.works = 0 := by
    unfold State.works
    rw [hgauges, hstore, hservice, sleep_waits]
    rfl
  have howns : s.sleepEntry.line.owns = 0 := by rw [hline]; rfl
  refine (oneRequest_iff _).mpr ⟨hworks.le.trans (Nat.zero_le _), howns.le.trans (Nat.zero_le _), fun _ => hhandler, ?_, ?_⟩
  · rw [hstore]; exact Nat.zero_le _
  · rw [hstore]; nofun

theorem startTimers_hands (s : State) : Hands s s.startTimers := by
  rw [startTimers_eq]
  refine .after (queueSummary_hands _) ?_
  unfold State.timersStarted
  refine .after (.of_kept (setArbiter_kept _ _)) (.after (.of_kept (setSound_kept _ _)) (.after (.of_kept (setRules_kept _ _)) ?_))
  exact .after (setGauges_hands nofun) (.after (.of_kept (setTopics_kept _ _)) (setLine_hands (Nat.le_refl _)))

theorem runEntry_hands (s : State) : Hands s s.runEntry := by
  rw [runEntry_eq]
  refine .after (serviceReminders_hands _) ?_
  unfold State.runStarted
  refine .after (setLine_hands (Nat.le_refl _)) (.after (.of_kept (setSound_kept _ _)) ?_)
  exact .after (setGauges_hands nofun) (.of_kept (setCounting_kept s _))

theorem enterAwake_hands (s : State) (x : Ign) : Hands s (s.enterAwake x) := .ite (runEntry_hands s) (.refl s)

theorem goTo_hands (s : State) {x : Ign} (hx : x.awake = true) : Hands s (s.goTo x) :=
  .of (goTo_kept s x) (ignition := fun _ h => by
    have : x.awake = false := h
    rw [hx] at this
    cases this)

theorem wakeInto_one {s : State} {x : Ign} (hx : x.awake = true) (hs : s.ign.awake = false) (h : s.OneRequest) :
    (s.wakeInto x).OneRequest := by
  obtain ⟨-, -, hidle, -⟩ := (oneRequest_iff s).mp h
  rw [wakeInto_eq]
  refine settleStore_one ((deliverHeldDays_hands _).one ((enterAwake_hands _ x).one ((serviceWake_hands _).one
    ((startTimers_hands _).one ?_))))
  unfold State.wakeBegun
  refine Hands.one (s := s) (.after (.of_kept (arbiterWake_kept _)) (.after (.of (setHandler_kept _ _) (line := fun _ => ?_)) ?_)) h
  · exact .inl ⟨(hidle hs).symm, Nat.le_refl _⟩
  · refine .after (setStore_hands (move_wake _)) (.after (.of_kept (setTopics_kept _ _)) ?_)
    exact .after (setLine_hands (Nat.le_refl _)) (.after (.of_kept (setTrip_kept _ _))
      (.after (.of_kept (countingWake_kept _)) (goTo_hands s hx)))

theorem asked_awake_of_ne {i : Ignition} (h : i.asked ≠ .sleep) : i.asked.awake = true := by
  rcases asked_awake h with k | k | k <;> rw [k] <;> rfl

theorem lookFromSleep_one {s : State} (hs : s.ign = .sleep) (h : s.OneRequest) : s.lookFromSleep.OneRequest := by
  rcases eq_or_ne s.ignition.asked .sleep with k | k
  · rw [lookFromSleep_of_sleep k]
    exact h
  · rw [lookFromSleep_of_ne k]
    exact wakeInto_one (asked_awake_of_ne k) (by rw [hs]; rfl) h

theorem enterSleep_one (s : State) : s.enterSleep.OneRequest := lookFromSleep_one (sleepEntry_ign s) (sleepEntry_one s)

theorem holdupExit_one {s : State} (h : s.OneRequest) : s.holdupExit.OneRequest := one_ite (enterSleep_one s) h

/-! ### Changes among the awake states -/

theorem leave_one {s : State} (h : s.OneRequest) : s.leave.OneRequest := by
  unfold State.leave
  split
  · refine Hands.one (.after (.of_kept (endReview_kept _)) (.after (setLine_hands (Nat.le_refl _)) (.of_kept (setSound_kept _ _))))
      (parkGauges_one h)
  · exact (Hands.of_kept (endReview_kept s)).one h
  all_goals exact h

theorem toRun_one {s : State} (h : s.OneRequest) : s.toRun.OneRequest :=
  (runEntry_hands _).one ((goTo_hands _ rfl).one (leave_one h))

theorem toAccessory_one {s : State} (h : s.OneRequest) : s.toAccessory.OneRequest :=
  (setLine_hands (s := (s.leave.goTo .accessory).setCounting _) (Nat.le_refl _)).one ((Hands.of_kept (setCounting_kept _ _)).one
    ((goTo_hands _ rfl).one (leave_one h)))

theorem toHoldup_one {s : State} (h : s.OneRequest) : s.toHoldup.OneRequest := by
  rw [toHoldup_eq, holdupEntered_eq]
  have hgo := (goTo_hands s.leave (x := .holdup) rfl).one (leave_one h)
  have hbegun : s.holdupBegun.OneRequest := by
    unfold State.holdupBegun
    refine Hands.one (.after (setStore_hands (move_placeHoldup _)) (.after (setLine_hands (Nat.le_refl _))
      (.after (.of_kept (setCounting_kept _ _)) (.after (setIgnition_hands rfl) (setIgnition_hands rfl))))) hgo
  exact holdupExit_one (settleStore_one (one_ite ((publish_hands _ _ _ _).one hbegun) hbegun))

theorem endHoldup_one {s : State} (h : s.OneRequest) : s.endHoldup.OneRequest :=
  (Hands.after (setStore_hands (move_turnHoldup _)) (setIgnition_hands (s := s) rfl)).one h

theorem keyPosition_one {s : State} (acc run : Bool) (h : s.OneRequest) : (s.keyPosition acc run).OneRequest := by
  have h1 : (s.takeLevels acc run).OneRequest := (setIgnition_hands rfl).one h
  have hwatch : ((s.takeLevels acc run).setWatch none).OneRequest := (setIgnition_hands rfl).one h1
  unfold State.keyPosition
  dsimp only
  split
  · exact h1
  · next hx => exact lookFromSleep_one hx h1
  · exact settleStore_one (toRun_one hwatch)
  · exact toAccessory_one hwatch
  · exact h1
  · exact settleStore_one (toRun_one h1)
  · exact toHoldup_one h1
  · exact h1
  · exact settleStore_one ((setStore_hands (move_placeSweep _)).one (toAccessory_one h1))
  · exact toHoldup_one h1
  · exact h1
  · exact settleStore_one (toRun_one (endHoldup_one h1))
  · exact settleStore_one (toAccessory_one (endHoldup_one h1))
  · exact h1

theorem wakeInput_one {s : State} (high : Bool) (h : s.OneRequest) : (s.wakeInput high).OneRequest := by
  have h1 := (setIgnition_hands (s := s) (i := { s.ignition with
    wake := high, pinWake := if high = s.ignition.wake then s.ignition.pinWake else high
    wakeSamples := if high = s.ignition.wake then s.ignition.wakeSamples else 0 }) rfl).one h
  unfold State.wakeInput
  dsimp only
  split
  · next hx => exact lookFromSleep_one hx h1
  · exact one_ite ((setIgnition_hands rfl).one h1) (one_ite ((setIgnition_hands rfl).one h1) h1)
  all_goals exact h1

/-! ### Ends of block operations, through LOAD -/

theorem imageTaken_hands (s : State) : Hands s s.imageTaken := by
  refine .of (imageTaken_kept s)

theorem serviceLoaded_hands (s : State) : Hands s s.serviceLoaded :=
  .after (setService_hands (Nat.le_refl _)) (formQuietly_hands s _)

theorem loadLeft_one {s : State} (h : s.OneRequest) : s.loadLeft.OneRequest := by
  rcases eq_or_ne s.ignition.asked .sleep with k | k
  · rw [loadLeft_of_sleep k]
    exact enterSleep_one _
  · rw [loadLeft_of_ne k]
    exact (deliverHeldDays_hands _).one ((enterAwake_hands _ _).one ((startTimers_hands _).one
      ((goTo_hands s (asked_awake_of_ne k)).one h)))

theorem loadFill_one {s : State} (h : s.OneRequest) (b : Nat) (d : List Byte) (x : Bool) : (s.loadFill b d x).OneRequest := by
  have hcal : Hands s (s.loadCalibration d x) := setIgnition_hands rfl
  unfold State.loadFill
  refine one_ite h (one_ite ((hcal.trans (checkImage_hands _)).trans (loadNext_hands _ _) |>.one h)
    (one_ite ((hcal.trans (loadNext_hands _ _)).one h) (one_ite (((loadRecord_hands s b d x).trans (loadNext_hands _ _)).one h) ?_)))
  rw [loadDone_eq]
  exact loadLeft_one (((loadRecord_hands s b d x).trans (imageTaken_hands _)).trans (serviceLoaded_hands _) |>.one h)

theorem fillTaken_one {s : State} (h : s.OneRequest) (b : Nat) : (s.fillTaken b).OneRequest :=
  taskFilled_one ((setStore_hands (move_endFill _ _ _)).one h) _ _ _

theorem fillEnd_one {s : State} (h : s.OneRequest) (b : Nat) : (s.fillEnd b).OneRequest := by
  rw [fillEnd_eq]
  have htaken := fillTaken_one h b
  exact settleStore_one (taskApplied_one (one_ite (loadFill_one htaken _ _ _) (one_ite (serviceFill_one htaken _ _) htaken)) _)

theorem readEnd_one {s : State} (h : s.OneRequest) : s.readEnd.OneRequest := by
  unfold State.readEnd
  split
  · exact fillEnd_one h _
  · next hop => exact verifyEnd_one h hop _
  · exact h

/-! ### Line and gauges -/

theorem handOn_one {s : State} (h : s.OneRequest) (bs : List Byte) : (s.handOn bs).OneRequest := by
  have hline : (s.setLine s.line.leaveUnclaimed).OneRequest := (setLine_hands (Nat.le_refl _)).one h
  unfold State.handOn
  split
  · exact (toEntry_hands s _ _ _ _).one h
  · exact one_ite (workshopRequest_one h _ _) hline
  · exact hline

theorem takeValid_one {s : State} (h : s.OneRequest) (bs : List Byte) : (s.takeValid bs).OneRequest := by
  have hheard : s.heard.OneRequest := (setLine_hands (Nat.le_refl _)).one h
  unfold State.takeValid
  exact one_ite hheard (one_ite ((setLine_hands (Nat.le_refl _)).one hheard) (one_ite (handOn_one hheard bs) hheard))

theorem endGap_one {s : State} (h : s.OneRequest) (bs : List Byte) (f : Bool) : (s.endGap bs f).OneRequest := by
  have hgap : (s.setLine { s.line with state := .quiet, quiet := 2, driven := false, drivenTime := 0 }).OneRequest :=
    (setLine_hands (Nat.le_refl _)).one h
  unfold State.endGap
  exact one_ite (one_ite (takeValid_one hgap bs) ((setLine_hands (Nat.le_refl _)).one hgap)) h

theorem startSending_owns (l : LineStation) (station : Nat) : (l.startSending station).owns ≤ l.owns := by
  unfold LineStation.startSending
  split
  · exact countP_modify_le _ _ fun _ h => h
  · exact Nat.le_refl _

theorem lineEvents_owns (l : LineStation) :
    l.initQuiet.owns = l.owns ∧ l.breakHeard.owns = l.owns ∧ (∀ x, (l.breakEnd x).owns = l.owns) ∧ l.goStuck.owns = l.owns ∧
      l.release.owns = l.owns ∧ l.releaseAfterBreak.owns = l.owns ∧ l.drive.owns = l.owns := by
  refine ⟨?_, ?_, fun x => ?_, ?_, ?_, ?_, ?_⟩
  · unfold LineStation.initQuiet; split <;> rfl
  · unfold LineStation.breakHeard; split <;> rfl
  · unfold LineStation.breakEnd
    split
    · split <;> rfl
    · rfl
  · unfold LineStation.goStuck; split <;> rfl
  · unfold LineStation.release; dsimp only; split <;> rfl
  · unfold LineStation.releaseAfterBreak; split <;> rfl
  · unfold LineStation.drive; dsimp only; split <;> rfl

theorem evaluateGauge_hands (s : State) (i : Nat) (v : Int) : Hands s (s.evaluateGauge i v) := by
  unfold State.evaluateGauge
  split
  · exact modifyGauge_hands s _ _
  · exact .after (.of_kept (issue_kept _ _)) (modifyGauge_hands s _ _)

theorem trackGauge_hands (s : State) (i : Nat) : Hands s (s.trackGauge i) := by
  unfold State.trackGauge
  dsimp only
  refine .after (modifyGauge_hands _ _ _) ?_
  split
  · exact .ite ((modifyGauge_hands s i _).trans (evaluateGauge_hands _ _ _)) (modifyGauge_hands s i _)
  · exact modifyGauge_hands s i _

theorem updateGauge_hands (s : State) (i : Nat) : Hands s (s.updateGauge i) := by
  unfold State.updateGauge
  split
  · exact modifyGauge_hands s _ _
  · exact .refl s
  all_goals exact trackGauge_hands s i

/-! ### Every command -/

/-- A command whose frame holds none of the blocks that carry requests. -/
theorem one_of_frame {c : Instr} (hc : c.blocks ⊆ [.counting, .arith, .trip, .keys, .display, .topics, .rules, .arbiter, .sound,
    .freeIndex, .pending]) {s : State} (h : s.OneRequest) : ∃ u, exec c s = .next (State.present s u) ∧ u.OneRequest := by
  obtain ⟨u, hexec, hkept⟩ := command_frame c s
  exact ⟨u, hexec, (Hands.of_kept hkept hc).one h⟩

theorem one_exec_line {c : Instr} (hc : c ∈ [Instr.initQuietReached, .accessWaitReached, .lineStuck, .lineReleased,
    .silenceTimerExpiry, .rate40hExpiry, .rate41hExpiry, .lineDriven, .lineReleasedAfterBreak, .breakEnd true, .breakEnd false])
    {s : State} (h : s.OneRequest) : ∃ u, exec c s = .next (State.present s u) ∧ u.OneRequest := by
  obtain ⟨e1, -, e3, e4, e5, e6, e7⟩ := lineEvents_owns s.line
  have hline {l : LineStation} (hl : l.owns ≤ s.line.owns) : (s.setLine l).OneRequest := (setLine_hands hl).one h
  simp only [List.mem_cons, List.not_mem_nil, or_false] at hc
  rcases hc with rfl | rfl | rfl | rfl | rfl | rfl | rfl | rfl | rfl | rfl | rfl
  · exact ⟨_, rfl, hline e1.le⟩
  · exact ⟨_, rfl, one_ite (hline (startSending_owns _ _)) h⟩
  · exact ⟨_, rfl, hline e4.le⟩
  · exact ⟨_, rfl, hline e5.le⟩
  · exact ⟨_, rfl, one_ite (hline (Nat.le_refl _)) h⟩
  · exact ⟨_, rfl, one_ite ((publish_hands _ _ _ _).one (hline (Nat.le_refl _))) h⟩
  · exact ⟨_, rfl, one_ite ((publish_hands _ _ _ _).one (hline (Nat.le_refl _))) h⟩
  · exact ⟨_, rfl, hline e7.le⟩
  · exact ⟨_, rfl, hline e6.le⟩
  · exact ⟨_, rfl, hline (e3 true).le⟩
  · exact ⟨_, rfl, hline (e3 false).le⟩

theorem shownExpiry_hands (s : State) : Hands s (s.arbiterEvent State.shownExpired) := by
  refine arbiterEvent_hands ?_
  unfold State.shownExpired
  split
  · exact .ite (.of_kept (shownTimerDone_kept _ _)) (.refl s)
  · exact .refl s

theorem one_exec_unit {c : Instr} (hc : c ∈ [Instr.oneSecondTimer, .tripResetHold, .serviceStepHold, .serviceResetHold,
    .operationComplete, .freshnessTick, .gaugeUpdate, .sweepTick, .sweepEnd, .evaluation, .arbiterTick, .shownTimerExpiry,
    .rate43hExpiry, .cadenceExpiry]) {s : State} (h : s.OneRequest) :
    ∃ u, exec c s = .next (State.present s u) ∧ u.OneRequest := by
  simp only [List.mem_cons, List.not_mem_nil, or_false] at hc
  rcases hc with rfl | rfl | rfl | rfl | rfl | rfl | rfl | rfl | rfl | rfl | rfl | rfl | rfl | rfl
  · exact ⟨_, rfl, settleStore_one ((oneSecond_hands s).one h)⟩
  · exact ⟨_, rfl, (tripResetMark_hands s).one h⟩
  · exact ⟨_, rfl, settleStore_one ((serviceStepMark_hands s).one h)⟩
  · exact ⟨_, rfl, settleStore_one ((serviceResetMark_hands s).one h)⟩
  · exact ⟨_, rfl, (complete_hands s).one h⟩
  · exact ⟨_, rfl, one_ite ((freshness_hands s).one h) h⟩
  · exact ⟨_, rfl, one_ite ((Hands.after (.foldl updateGauge_hands _ _)
      (setGauges_hands (s := s) (u := { s.gauges with timer := some 2 }) id)).one h) h⟩
  · exact ⟨_, rfl, sweepStep_one h⟩
  · exact ⟨_, rfl, one_ite (endSweep_one h) h⟩
  · exact ⟨_, rfl, one_ite ((Hands.after (evaluateRules_hands _) (.of_kept (setRules_kept s _))).one h) h⟩
  · exact ⟨_, rfl, one_ite ((Hands.after (arbiterTicked_hands _) (.of_kept (setArbiter_kept s _))).one h) h⟩
  · exact ⟨_, rfl, (shownExpiry_hands s).one h⟩
  · exact ⟨_, rfl, one_ite ((Hands.after (queueSummary_hands _) (.of_kept (setArbiter_kept s _))).one h) h⟩
  · exact ⟨_, rfl, (cadence_hands s).one h⟩

theorem one_exec_store {c : Instr} (hc : c ∈ [Instr.blockReadEnd, .blockWriteReady, .blockWriteTimeout, .pwrGoodFall,
    .pwrGoodRise, .watchTimerExpiry, .holdupTimerExpiry, .messageSent, .breakRecognised]) {s : State} (h : s.OneRequest) :
    ∃ u, exec c s = .next (State.present s u) ∧ u.OneRequest := by
  simp only [List.mem_cons, List.not_mem_nil, or_false] at hc
  rcases hc with rfl | rfl | rfl | rfl | rfl | rfl | rfl | rfl | rfl
  · exact ⟨_, rfl, readEnd_one h⟩
  · exact ⟨_, rfl, one_ite (holdupExit_one (settleStore_one ((setStore_hands (move_writeReady _)).one h))) h⟩
  · exact ⟨_, rfl, one_ite (settleStore_one ((Hands.after (.of_kept (setFreeIndex_kept _ _))
      (setStore_hands (move_writeFailed _ _))).one h)) h⟩
  · exact ⟨_, rfl, settleStore_one ((Hands.after (.of_kept (setFreeIndex_kept _ _))
      (setStore_hands ((move_abandonWrite s.store s.freeIndex).trans (.flags _ _ _ _ false)))).one h)⟩
  · exact ⟨_, rfl, settleStore_one ((setStore_hands (.flags s.store _ _ _ true)).one h)⟩
  · exact ⟨_, rfl, one_ite (one_ite (toHoldup_one h) (enterSleep_one s)) h⟩
  · exact ⟨_, rfl, one_ite (enterSleep_one s) h⟩
  · exact ⟨_, rfl, holdupExit_one ((messageSent_hands s).one h)⟩
  · exact ⟨_, rfl, one_ite (holdupExit_one ((clash_hands s true).one h))
      ((setLine_hands (lineEvents_owns s.line).2.1.le).one h)⟩

theorem reminder_hands (s : State) (w : Nat) : Hands s (s.arbiterEvent fun s => s.modifyWarning w Warning.reminderDone) :=
  arbiterEvent_hands (.of_kept (modifyWarning_kept s w _))

theorem speedPulse_one {s : State} (e : Nat) (h : s.OneRequest) : ∃ u, exec (.speedPulse e) s = .next (State.present s u) ∧ u.OneRequest := by
  have hlater : (s.setCounting (s.counting.later e)).OneRequest := (Hands.of_kept (setCounting_kept s _)).one h
  exact ⟨_, rfl, one_ite (settleStore_one ((acceptPulse_hands _).one hlater)) hlater⟩

theorem one_exec {c : Instr} (hc : c ≠ .powerOnReset) {s : State} (h : s.OneRequest) :
    ∃ u, exec c s = .next (State.present s u) ∧ u.OneRequest := by
  cases hr : c.request with
  | some r => exact ⟨_, exec_of_request hr s, workshopRequest_one h _ _⟩
  | none =>
    cases c with
    | powerOnReset => exact absurd rfl hc
    | speedPulse e => exact speedPulse_one e h
    | keyPress k => exact ⟨_, rfl, settleStore_one ((pressKey_hands s k).one h)⟩
    | keyRelease k => exact ⟨_, rfl, (releaseKey_hands s k).one h⟩
    | breakEnd b => cases b <;> exact one_exec_line (by simp) h
    | endGap bs f => exact ⟨_, rfl, endGap_one h bs f⟩
    | parkCountExpiry g => exact ⟨_, rfl, one_ite ((modifyGauge_hands s _ _).one h) h⟩
    | reminderTimerExpiry w => exact ⟨_, rfl, (reminder_hands s w).one h⟩
    | patternComplete w => exact ⟨_, rfl, (patternDone_hands s w).one h⟩
    | serviceEdgeRequest w => exact ⟨_, rfl, (edgeRequest_hands s _).one h⟩
    | clash x => exact ⟨_, rfl, holdupExit_one ((clash_hands s x).one h)⟩
    | keyPositionChange a r => exact ⟨_, rfl, keyPosition_one a r h⟩
    | wakeInputChange x => exact ⟨_, rfl, wakeInput_one x h⟩
    | initQuietReached | accessWaitReached | lineStuck | lineReleased | silenceTimerExpiry | rate40hExpiry | rate41hExpiry
      | lineDriven | lineReleasedAfterBreak =>
      exact one_exec_line (by simp) h
    | oneSecondTimer | tripResetHold | serviceStepHold | serviceResetHold | operationComplete | freshnessTick | gaugeUpdate
      | sweepTick | sweepEnd | evaluation | arbiterTick | shownTimerExpiry | rate43hExpiry | cadenceExpiry =>
      exact one_exec_unit (by simp) h
    | blockReadEnd | blockWriteReady | blockWriteTimeout | pwrGoodFall | pwrGoodRise | watchTimerExpiry | holdupTimerExpiry
      | messageSent | breakRecognised =>
      exact one_exec_store (by simp) h
    | halfSecondWindowClosure | clockSetHold | keyIdleTimerExpiry | turnSignalCountTimeout | reviewTimerExpiry
      | clickTimerExpiry | tickTimerExpiry | flashCounterExpiry | bulbCheckExpiry | displayTimerExpiry | displayTransferEnd =>
      exact one_of_frame (by decide) h
    | _ => cases hr

theorem tickAll_hands (s : State) : Hands s s.tickAll := by
  unfold State.tickAll
  refine .after (setStore_hands (.op _ _ fun b hb => .inl (tickedOp_readVerify hb))) (.after (.of_kept (setSound_kept _ _)) ?_)
  refine .after (.of_kept (setArbiter_kept _ _)) (.after (.of_kept (setRules_kept _ _)) (.after (setGauges_hands id) ?_))
  refine .after (.of_kept (setTopics_kept _ _)) (.after (setLine_hands (Nat.le_refl _)) (.after (.of_kept (setDisplay_kept _ _)) ?_))
  exact .after (.of_kept (setKeys_kept _ _)) (.after (.of_kept (setCounting_kept _ _)) (setIgnition_hands rfl))

theorem idle_one {s : State} (h : s.OneRequest) : s.idle.OneRequest :=
  one_ite ((Hands.of_kept (setPending_kept s _)).one h) (((tickAll_hands s).trans (.of_kept (setPending_kept _ _))).one h)

theorem powerOn_one (s : State) : s.powerOn.OneRequest := reset_oneRequest

/-- Settles O9: `Bounded` for the arithmetic targets, `Hands` and the answers for the workshop's request. -/
theorem requestsStayUnique : Obligations.RequestsStayUnique := by
  refine ⟨fun s t hs h => ?_, fun s t hs h => ?_⟩
  · rcases step_bounded h with ⟨-, u, -, rfl⟩ | ⟨hb, -⟩
    · exact ⟨List.nodup_nil, fun _ => rfl⟩
    · exact hb.served hs
  · rcases step_cases h with ⟨c, rest, -, hexec⟩ | ⟨-, rfl⟩
    · have hq : (s.setPending rest).OneRequest := (Hands.of_kept (setPending_kept s rest)).one hs
      by_cases hc : c = .powerOnReset
      · subst hc
        obtain rfl := exec_inj hexec (exec_powerOn _)
        exact powerOn_one _
      · obtain ⟨u, hu, k⟩ := one_exec hc hq
        obtain rfl := exec_inj hexec hu
        exact (Hands.of_kept (present_kept _ u)).one k
    · exact idle_one hs

end Sys2Proof.Machine
end

section
/-! SUPPORT. The most urgent warning stays SHOWN at every step, LOAD and its end included. Settles O45. -/
namespace Sys2Proof.Machine
set_option Elab.async false

/-! ### Events that leave the most urgent warning SHOWN -/

theorem present_mostUrgent {s u : State} (hc : u.OrdersComplete) (h : u.MostUrgentShown) : (State.present s u).MostUrgentShown :=
  (Rings.of_kept (present_kept s u)).urgent hc h

/-- A command that is an arbiter event, changes of blocks outside the arbiter before and after it left aside. -/
theorem event_mostUrgent {s0 s1 s2 : State} {f : State → State} (hc : s0.OrdersComplete) (hone : s0.shownCount ≤ 1)
    (h1 : Rings s0 s1) (h : Inner s1 (f s1)) (h2 : Rings (s1.arbiterEvent f) s2) : (State.present s0 s2).MostUrgentShown := by
  have hc1 := h1.complete hc
  have hevent := arbiterEvent_mostUrgent h hc1 (h1.shown hone)
  have hce := (arbiterEvent_steady h).rings.complete hc1
  exact present_mostUrgent (h2.complete hce) (h2.urgent hce hevent)

theorem shownExpired_event (s : State) : Inner s s.shownExpired := shownExpired_inner s

theorem ackPress_mostUrgent {s : State} (hc : s.OrdersComplete) (hone : s.shownCount ≤ 1) (hk : s.KeyReady .ack) :
    (State.present s (s.pressKey .ack).settleStore).MostUrgentShown := by
  obtain ⟨haccepted, hpressed, hblocked⟩ := hk
  have htaken : (s.keys.get .ack).takenLow = false := by
    unfold KeyInput.takenLow
    rw [hpressed, hblocked]
    rfl
  have hpress : s.pressKey .ack =
      (((s.putKey .ack { (s.keys.get .ack).goLow with pressed := true, hold := .idle, holdTicks := 0 }).click).setCounting
        s.counting.restartIdle).ackPress := by
    unfold State.pressKey
    dsimp only
    rw [if_neg (by rw [htaken]; decide), if_pos haccepted]
    rfl
  rw [hpress]
  refine event_mostUrgent hc hone ?_ (ackPress_inner _) (settleStore_steady _).rings
  exact ((Rings.of_kept (putKey_kept s _ _)).trans (.of_kept (click_kept _))).trans (.of_kept (setCounting_kept _ _))

/-! ### LOAD: every warning is OFF -/

def State.AllOff (s : State) : Prop := ∀ w ∈ s.arbiter.warnings, w.state = .off

theorem State.AllOff.warning {s : State} (h : s.AllOff) (w : Nat) : (s.warning w).state = .off := by
  unfold State.warning
  rw [List.getD_eq_getElem?_getD]
  cases hw : s.arbiter.warnings[w]? with
  | none => rfl
  | some x => exact h x (List.mem_of_getElem? hw)

theorem State.AllOff.of_warnings {s t : State} (h : s.AllOff) (ht : t.arbiter.warnings = s.arbiter.warnings) : t.AllOff := by
  unfold State.AllOff
  rwa [ht]

theorem State.AllOff.of_kept {bs : List Block} {s t : State} (h : s.AllOff) (k : KeptBut bs s t)
    (hb : Block.arbiter ∉ bs := by decide) : t.AllOff := h.of_warnings (by rw [k.arbiter hb])

theorem State.AllOff.shown {s : State} (h : s.AllOff) : s.shown = none :=
  shown_eq_none_iff.mpr fun w hw => by rw [h.warning w] at hw; cases hw

theorem State.AllOff.firstOf {s : State} (h : s.AllOff) {x : WarningState} (hx : x ≠ .off) (c : WarnClass) : s.firstOf x c = none := by
  unfold State.firstOf
  refine List.find?_eq_none.mpr fun w _ => ?_
  rw [h.warning w]
  cases x <;> first | exact absurd rfl hx | decide

theorem State.AllOff.candidate {s : State} (h : s.AllOff) : s.candidate = none := by
  unfold State.candidate
  refine List.findSome?_eq_none_iff.mpr fun c _ => ?_
  rw [h.firstOf (by nofun), h.firstOf (by nofun)]
  rfl

theorem State.AllOff.select {s : State} (h : s.AllOff) : s.select = s := by
  unfold State.select
  rw [h.shown, h.candidate]

theorem State.AllOff.ite {p : Prop} [Decidable p] {s t : State} (h : s.AllOff) (k : t.AllOff) : (if p then s else t).AllOff := by
  split <;> assumption

theorem State.AllOff.endStaleReview {s : State} (h : s.AllOff) : s.endStaleReview.AllOff := by
  unfold State.endStaleReview
  split
  · exact .ite h (h.of_warnings rfl)
  · exact h

/-- An event that leaves every warning OFF shows none. -/
theorem State.AllOff.arbiterEvent {s : State} {f : State → State} (h : (f s).AllOff) : (s.arbiterEvent f).AllOff := by
  have hdrop : (f s).dropPresented.AllOff := by
    unfold State.dropPresented
    split
    · exact h
    · exact h.of_warnings rfl
  rw [arbiterEvent_eq, hdrop.select]
  have hnone := hdrop.of_kept (noneShown_kept _)
  have hite : (if s.shown.isSome && (f s).dropPresented.shown.isNone then (f s).dropPresented.noneShown
      else (f s).dropPresented).AllOff := .ite hnone hdrop
  have hchime := hite.endStaleReview.of_kept (syncChime_kept _)
  unfold State.afterSelect
  exact .ite hchime (hchime.of_kept (queueSummary_kept _))

theorem edgeRequest_asleep {s : State} (h : s.ign.awake = false) (w : Nat) : s.edgeRequest w = s := by
  unfold State.edgeRequest
  rw [h]
  rfl

theorem formItems_asleep {s : State} (h : s.ign.awake = false) (is : List Nat) : s.formItems is = s.formQuietly is := by
  unfold State.formItems
  have hign : (s.formQuietly is).ign.awake = false := by rw [(formQuietly_kept s is).ign]; exact h
  generalize s.formQuietly is = t at hign
  induction is.filterMap fun i => edgeFor (s.item i).state (s.newItemState i) with
  | nil => rfl
  | cons w ws ih => rw [List.foldl_cons, edgeRequest_asleep hign, ih]

theorem State.AllOff.shownExpiry {s : State} (h : s.AllOff) : (s.arbiterEvent State.shownExpired).AllOff := by
  refine .arbiterEvent ?_
  unfold State.shownExpired
  rw [h.shown]
  exact h

theorem State.AllOff.reminder {s : State} (h : s.AllOff) (w : Nat) :
    (s.arbiterEvent fun s => s.modifyWarning w Warning.reminderDone).AllOff := by
  refine .arbiterEvent fun x hx => ?_
  rcases mem_modify hx with hx | ⟨y, hy, rfl⟩
  · exact h x hx
  · have hoff := h y (List.mem_of_getElem? hy)
    unfold Warning.reminderDone
    rw [if_neg (by rw [hoff]; rintro ⟨h, -⟩; cases h)]
    exact hoff

theorem State.AllOff.patternDone {s : State} (h : s.AllOff) (w : Nat) : (s.patternDone w).AllOff := by
  refine .arbiterEvent ?_
  rw [if_neg (by rw [h.shown]; rintro ⟨h, -⟩; cases h)]
  exact h

theorem State.AllOff.cadence {s : State} (h : s.AllOff) : (State.reportDone s.cadenceEnd).AllOff := by
  have hend := (h.of_kept (cadenceEnd_kept s)).of_kept (syncChime_kept _)
  unfold State.reportDone
  split
  · exact hend.patternDone _
  · exact hend

/-! ### Commands in LOAD -/

/-- LOAD with every warning OFF, as a step finds and leaves it. -/
structure Loading (s : State) : Prop where
  ign : s.ign = .load
  off : s.AllOff
  length : s.arbiter.warnings.length = 32

theorem Loading.of_kept {bs : List Block} {s t : State} (h : Loading s) (k : KeptBut bs s t)
    (ha : Block.arbiter ∉ bs := by decide) (hi : Block.ignition ∉ bs := by decide) : Loading t :=
  ⟨(k.ign hi).trans h.ign, h.off.of_kept k ha, by rw [k.arbiter ha]; exact h.length⟩

theorem Loading.asleep {s : State} (h : Loading s) : s.ign.awake = false := by rw [h.ign]; rfl

theorem Loading.ite {p : Prop} [Decidable p] {s t : State} (h : Loading s) (k : Loading t) : Loading (if p then s else t) := by
  split <;> assumption

theorem Loading.dead {p : Prop} [Decidable p] {s t : State} (h : Loading s) (k : ¬p) : Loading (if p then t else s) := by
  rw [if_neg k]
  exact h

theorem Loading.setIgnition {s : State} (h : Loading s) {i : Ignition} (hi : i.state = s.ignition.state) :
    Loading (s.setIgnition i) := ⟨hi.trans h.ign, h.off.of_warnings rfl, h.length⟩

/-- An arbiter event in LOAD. -/
theorem Loading.event {s t : State} (h : Loading s) (k : Steady s t) (ht : t.AllOff) : Loading t :=
  ⟨k.blocks.ign.trans h.ign, ht, k.rings.length h.length⟩

theorem Loading.clockSecond {s : State} (h : Loading s) : Loading s.clockSecond := by
  unfold State.clockSecond
  dsimp only
  rw [if_neg (by rw [h.asleep]; decide : ¬s.ign.awake = true)]
  exact .ite (h.of_kept (setCounting_kept s _)) ((h.of_kept (setCounting_kept s _)).of_kept (setCounting_kept _ _))

theorem Loading.tripSecond {s : State} (h : Loading s) : Loading s.tripSecond :=
  .dead h (by rw [h.ign]; nofun)

theorem Loading.oneSecond {s : State} (h : Loading s) : Loading (s.setCounting { s.counting with
    secondTimer := 100 }).clockSecond.tripSecond.filterFuel.passDue.rearPageDue.settleStore := by
  have h1 := (h.of_kept (setCounting_kept s { s.counting with secondTimer := 100 })).clockSecond.tripSecond
  have h2 := h1.of_kept (filterFuel_kept _)
  have h3 : Loading (State.passDue _) := .dead h2 (by rw [h2.ign]; decide)
  exact (Loading.dead h3 (by rw [h3.asleep]; simp)).of_kept (settleStore_kept _)

theorem Loading.pressKey {s : State} (h : Loading s) (k : Key) : Loading (s.pressKey k) := by
  unfold State.pressKey
  dsimp only
  rw [if_neg (by rw [h.ign]; decide : ¬s.ign.keysAccepted = true)]
  exact .ite (h.of_kept (putKey_kept s k _)) (h.of_kept (putKey_kept s k _))

theorem Loading.speedPulse {s : State} (h : Loading s) (e : Nat) :
    Loading (if s.ign.counts && (s.setCounting (s.counting.later e)).counting.edgeAccepted then
      (s.setCounting (s.counting.later e)).acceptPulse.settleStore else s.setCounting (s.counting.later e)) :=
  .dead (h.of_kept (setCounting_kept s _)) (by rw [h.ign]; simp [Ign.counts])

theorem Loading.serviceReset {s : State} (h : Loading s) : Loading s.serviceResetMark.settleStore := by
  have hhold := h.of_kept (setHold_kept s .reset .idle)
  refine Loading.of_kept ?_ (settleStore_kept _)
  unfold State.serviceResetMark
  split
  · dsimp only
    split
    · rw [if_neg (by rw [h.ign]; simp)]
      exact hhold
    · exact hhold
  · exact h

theorem Loading.serviceStep {s : State} (h : Loading s) : Loading s.serviceStepMark.settleStore := by
  refine Loading.of_kept ?_ (settleStore_kept _)
  unfold State.serviceStepMark
  split
  · exact (h.of_kept (putKey_kept s _ _)).of_kept (stepSelection_kept _)
  · exact h

theorem Loading.endGap {s : State} (h : Loading s) (bs : List Byte) (f : Bool) : Loading (s.endGap bs f) := by
  have hgap : Loading (s.setLine { s.line with state := .quiet, quiet := 2, driven := false, drivenTime := 0 }) :=
    h.of_kept (setLine_kept s _)
  unfold State.endGap
  refine .ite (.ite ?_ (hgap.of_kept (setLine_kept _ _))) h
  unfold State.takeValid
  dsimp only
  rw [if_pos hgap.ign]
  exact hgap.of_kept (setLine_kept _ _)

theorem Loading.workshopRequest {s : State} (h : Loading s) (topic : Nat) (d : List Byte) : Loading (s.workshopRequest topic d) := by
  unfold State.workshopRequest
  rw [h.asleep]
  exact h

theorem Loading.holdupExit {s : State} (h : Loading s) : Loading s.holdupExit :=
  .dead h (by rw [h.ign]; rintro ⟨k, -⟩; cases k)

theorem Loading.wakeInput {s : State} (h : Loading s) (high : Bool) : Loading (s.wakeInput high) := by
  unfold State.wakeInput
  simp only [h.ign]
  exact h.setIgnition rfl

theorem Loading.keyPosition {s : State} (h : Loading s) (acc run : Bool) : Loading (s.keyPosition acc run) := by
  unfold State.keyPosition
  simp only [h.ign]
  exact h.setIgnition rfl

/-- A command whose frame leaves the arbiter and the ignition state alone. -/
theorem loading_of_frame {c : Instr} (ha : Block.arbiter ∉ c.blocks) (hi : Block.ignition ∉ c.blocks) {s : State} (h : Loading s) :
    ∃ u, exec c s = .next (State.present s u) ∧ Loading u := by
  obtain ⟨u, hexec, hkept⟩ := command_frame c s
  exact ⟨u, hexec, h.of_kept hkept ha hi⟩

theorem loading_exec {c : Instr} (hc : c ≠ .powerOnReset) (hr : c ≠ .blockReadEnd) {s : State} (ht : Timed s) (h : Loading s) :
    ∃ u, exec c s = .next (State.present s u) ∧ Loading u := by
  have hstopped : s.topics.tick.isSome = false ∧ s.rules.timer.isSome = false ∧ s.arbiter.tick.isSome = false ∧
      s.arbiter.rate43.isSome = false := by
    obtain ⟨-, -, htopics, -, hrules, htick, hrate, -⟩ := ht.periodic
    rw [h.asleep] at htopics hrules htick hrate
    exact ⟨htopics, hrules, htick, hrate⟩
  obtain ⟨htopics, hrules, htick, hrate⟩ := hstopped
  cases hq : c.request with
  | some r => exact ⟨_, exec_of_request hq s, h.workshopRequest _ _⟩
  | none =>
    cases c with
    | powerOnReset => exact absurd rfl hc
    | blockReadEnd => exact absurd rfl hr
    | speedPulse e => exact ⟨_, rfl, h.speedPulse e⟩
    | oneSecondTimer => exact ⟨_, rfl, h.oneSecond⟩
    | keyPress k => exact ⟨_, rfl, (h.pressKey k).of_kept (settleStore_kept _)⟩
    | serviceStepHold => exact ⟨_, rfl, h.serviceStep⟩
    | serviceResetHold => exact ⟨_, rfl, h.serviceReset⟩
    | freshnessTick => exact ⟨_, rfl, .dead h (by rw [htopics]; decide)⟩
    | evaluation => exact ⟨_, rfl, .dead h (by rw [hrules]; decide)⟩
    | arbiterTick => exact ⟨_, rfl, .dead h (by rw [htick]; decide)⟩
    | rate43hExpiry => exact ⟨_, rfl, .dead h (by rw [hrate]; decide)⟩
    | endGap bs f => exact ⟨_, rfl, h.endGap bs f⟩
    | shownTimerExpiry => exact ⟨_, rfl, h.event (arbiterEvent_steady (shownExpired_inner s)) h.off.shownExpiry⟩
    | reminderTimerExpiry w =>
      exact ⟨_, rfl, h.event (arbiterEvent_steady (reminderExpiry_inner s w)) (h.off.reminder w)⟩
    | reviewTimerExpiry => exact ⟨_, rfl, h.ign, h.off.of_warnings rfl, h.length⟩
    | patternComplete w => exact ⟨_, rfl, h.event (patternDone_steady s w) (h.off.patternDone w)⟩
    | serviceEdgeRequest w => exact ⟨_, rfl, by rw [edgeRequest_asleep h.asleep]; exact h⟩
    | cadenceExpiry => exact ⟨_, rfl, h.event (reportDone_steady s) h.off.cadence⟩
    | messageSent => exact ⟨_, rfl, (h.of_kept (messageSent_kept s)).holdupExit⟩
    | clash x => exact ⟨_, rfl, (h.of_kept (clash_kept s x)).holdupExit⟩
    | breakRecognised => exact ⟨_, rfl, .ite (h.of_kept (clash_kept s true)).holdupExit (h.of_kept (setLine_kept s _))⟩
    | blockWriteReady =>
      exact ⟨_, rfl, .ite ((h.of_kept (setStore_kept s _)).of_kept (settleStore_kept _)).holdupExit h⟩
    | keyPositionChange a r => exact ⟨_, rfl, h.keyPosition a r⟩
    | wakeInputChange x => exact ⟨_, rfl, h.wakeInput x⟩
    | watchTimerExpiry => exact ⟨_, rfl, .dead h (by rw [h.ign]; rintro ⟨k, -⟩; cases k)⟩
    | holdupTimerExpiry => exact ⟨_, rfl, .dead h (by rw [h.ign]; rintro ⟨k, -⟩; cases k)⟩
    | halfSecondWindowClosure | keyRelease _ | clockSetHold | keyIdleTimerExpiry | tripResetHold | operationComplete
      | turnSignalCountTimeout | initQuietReached | accessWaitReached | breakEnd _ | lineStuck | lineReleased
      | silenceTimerExpiry | rate40hExpiry | rate41hExpiry | gaugeUpdate | parkCountExpiry _ | sweepTick | sweepEnd
      | clickTimerExpiry | tickTimerExpiry | flashCounterExpiry | bulbCheckExpiry | displayTimerExpiry | displayTransferEnd
      | blockWriteTimeout | pwrGoodFall | pwrGoodRise | lineDriven | lineReleasedAfterBreak =>
      exact loading_of_frame (by simp [Instr.blocks]) (by simp [Instr.blocks]) h
    | _ => cases hq

/-! ### The end of LOAD -/

theorem mem_formedOrder {s : State} {c : WarnClass} {w : Nat} : w ∈ s.formedOrder c ↔ w < 32 ∧ s.warningClass w = c := by
  simp [State.formedOrder]

theorem imageTaken_complete {s : State} (h : s.arbiter.warnings.length = 32) : s.imageTaken.OrdersComplete :=
  ⟨h, fun _ => mem_formedOrder, fun _ => mem_formedOrder⟩

theorem allOff_mostUrgent {s : State} (h : s.AllOff) : s.MostUrgentShown :=
  mostUrgent_off h.warning (shownCount_off h)

/-- Outside LOAD: the arbiter's invariant that `Arbitrated` asks for there. -/
structure Arbitrates (s : State) : Prop where
  ign : s.ign ≠ .load
  complete : s.OrdersComplete
  urgent : s.MostUrgentShown

theorem Rings.arbitrates {s t : State} (h : Rings s t) (hi : t.ign ≠ .load) (hc : s.OrdersComplete) (hs : s.MostUrgentShown) :
    Arbitrates t := ⟨hi, h.complete hc, h.urgent hc hs⟩

theorem Steady.arbitrates {s t : State} (h : Steady s t) (hs : Arbitrates s) : Arbitrates t :=
  h.rings.arbitrates (by rw [h.blocks.ign]; exact hs.ign) hs.complete hs.urgent

theorem Arbitrates.arbitrated {s : State} (h : Arbitrates s) : s.Arbitrated :=
  ⟨h.complete.1, h.urgent, fun _ => h.complete, fun k => absurd k h.ign⟩

theorem Loading.arbitrated {s : State} (h : Loading s) : s.Arbitrated :=
  ⟨h.length, allOff_mostUrgent h.off, fun k => absurd h.ign k, fun _ => h.off⟩

theorem loadDone_arbitrates {s : State} (hl : s.arbiter.warnings.length = 32) (h : s.AllOff) : Arbitrates s.loadDone := by
  have hign := loadDone_ign s
  rw [loadDone_eq] at *
  have hcomplete := imageTaken_complete hl
  have hurgent : s.imageTaken.MostUrgentShown := allOff_mostUrgent (h.of_warnings rfl)
  have hservice := (serviceLoaded_moves s.imageTaken).rings
  exact (loadLeft_moves _).rings.arbitrates hign (hservice.complete hcomplete) (hservice.urgent hcomplete hurgent)

theorem loadFill_loading {s : State} (b : Nat) (d : List Byte) (x : Bool) (h : Loading s) :
    Loading (s.loadFill b d x) ∨ Arbitrates (s.loadFill b d x) := by
  have hcal : Loading (s.loadCalibration d x) := h.setIgnition rfl
  have hrecord : Loading (s.loadRecord b d x) := h.of_kept (loadRecord_kept s b d x)
  have hnext {u : State} (k : Loading u) (b : Nat) : Loading (u.loadNext b) :=
    Loading.of_kept (k.setIgnition (i := { u.ignition with load := { u.ignition.load with awaits := b } }) rfl) (setStore_kept _ _)
  have hcheck : Loading (s.loadCalibration d x).checkImage := .ite (hcal.setIgnition rfl) (hcal.setIgnition rfl)
  unfold State.loadFill
  split
  · exact .inl h
  split
  · exact .inl (hnext hcheck _)
  split
  · exact .inl (hnext hcal _)
  split
  · exact .inl (hnext hrecord _)
  · exact .inr (loadDone_arbitrates hrecord.length hrecord.off)

theorem Loading.applyWrite {s : State} (h : Loading s) (b o : Nat) (d : List Byte) : Loading (s.applyWrite b o d) := by
  have h0 := h.of_kept (setStore_kept s { s.store with task := .none })
  have h1 := h0.of_kept (update_kept _ b fun bs => splice bs o d)
  unfold State.applyWrite
  dsimp only
  refine .ite (h0.of_kept (returnStatus_kept _ _ _)) (Loading.of_kept ?_ (returnStatus_kept _ _ _))
  refine .ite ?_ h1
  unfold State.serviceWritten
  rw [formItems_asleep h1.asleep]
  exact h1.of_kept (formQuietly_kept _ _)

theorem Loading.taskApplied {s : State} (h : Loading s) (b : Nat) : Loading (s.taskApplied b) := by
  unfold State.taskApplied
  split
  · exact .ite (h.applyWrite _ _ _) h
  · exact h

theorem fillTaken_kept (s : State) (b : Nat) : KeptBut [.store, .line, .handler] s (s.fillTaken b) :=
  (setStore_kept _ _).andThen (taskFilled_kept _ _ _ _)

theorem readEnd_loading {s : State} (h : Loading s) :
    Loading s.readEnd ∨ Arbitrates s.readEnd := by
  unfold State.readEnd
  split
  · next b _ =>
    rw [fillEnd_of_load h.ign]
    have htaken := h.of_kept (fillTaken_kept s b)
    rcases loadFill_loading b ((s.store.nv.block b).take 15) (!checkGood (s.store.nv.block b)) htaken with k | k
    · exact .inl ((k.taskApplied b).of_kept (settleStore_kept _))
    · exact .inr ((settleStore_steady _).arbitrates ((taskApplied_steady _ b).arbitrates k))
  · exact .inl (h.of_kept (verifyEnd_kept s _))
  · exact .inl h

/-! ### No command but the power-on reset leads into LOAD -/

theorem holdupExit_ne_load {s : State} (h : s.ign ≠ .load) : s.holdupExit.ign ≠ .load := by
  rcases holdupExit_cases s with k | ⟨-, k, -⟩
  · rwa [k]
  · rw [k, enterSleep_ign]
    exact asked_ne_load _

theorem toHoldup_ne_load (s : State) : s.toHoldup.ign ≠ .load := by
  rw [toHoldup_eq]
  exact holdupExit_ne_load (by rw [holdupEntered_ign]; nofun)

theorem toRun_ne_load (s : State) : s.toRun.ign ≠ .load := by rw [toRun_ign]; nofun
theorem toAccessory_ne_load (s : State) : s.toAccessory.ign ≠ .load := by rw [toAccessory_ign]; nofun

theorem settleStore_ne_load {s : State} (h : s.ign ≠ .load) : s.settleStore.ign ≠ .load := by
  rwa [(settleStore_kept s).ign]

theorem lookFromSleep_ne_load {s : State} (h : s.ign = .sleep) : s.lookFromSleep.ign ≠ .load := by
  rw [lookFromSleep_ign h]
  exact asked_ne_load _

theorem keyPosition_ne_load {s : State} (acc run : Bool) (h : s.ign ≠ .load) : (s.keyPosition acc run).ign ≠ .load := by
  have h1 : (s.takeLevels acc run).ign ≠ .load := h
  unfold State.keyPosition
  dsimp only
  split
  · exact h1
  · next hx => exact lookFromSleep_ne_load hx
  · exact settleStore_ne_load (toRun_ne_load _)
  · exact toAccessory_ne_load _
  · exact h1
  · exact settleStore_ne_load (toRun_ne_load _)
  · exact toHoldup_ne_load _
  · exact h1
  · exact settleStore_ne_load (toAccessory_ne_load _)
  · exact toHoldup_ne_load _
  · exact h1
  · exact settleStore_ne_load (toRun_ne_load _)
  · exact settleStore_ne_load (toAccessory_ne_load _)
  · exact h1

theorem enterSleep_ne_load (s : State) : s.enterSleep.ign ≠ .load := by rw [enterSleep_ign]; exact asked_ne_load _

theorem wakeInput_ne_load {s : State} (high : Bool) (h : s.ign ≠ .load) : (s.wakeInput high).ign ≠ .load := by
  unfold State.wakeInput
  dsimp only
  split
  · next hx => exact lookFromSleep_ne_load hx
  · split
    · exact h
    · split <;> exact h
  all_goals exact h

theorem ite_ne_load {p : Prop} [Decidable p] {s t : State} (h : s.ign ≠ .load) (k : t.ign ≠ .load) :
    (if p then s else t).ign ≠ .load := by split <;> assumption

/-- Outside LOAD every command but the power-on reset moves within the invariants, and stays outside. -/
theorem arbitrates_exec {c : Instr} (hc : c ≠ .powerOnReset) {s : State} (h : s.ign ≠ .load) :
    ∃ u, exec c s = .next (State.present s u) ∧ Rings s u ∧ u.ign ≠ .load := by
  cases hm : c.movesIgnition with
  | false =>
    obtain ⟨u, hexec, hu⟩ := steady_exec hm s
    exact ⟨u, hexec, hu.rings, by rw [hu.blocks.ign]; exact h⟩
  | true =>
    have hsent := (messageSent_kept s).ign
    cases c with
    | powerOnReset => exact absurd rfl hc
    | blockReadEnd => exact ⟨_, rfl, (readEnd_steady h).rings, by rw [(readEnd_steady h).blocks.ign]; exact h⟩
    | keyPositionChange a r => exact ⟨_, rfl, (keyPosition_moves s a r).rings, keyPosition_ne_load a r h⟩
    | wakeInputChange x => exact ⟨_, rfl, (wakeInput_moves s x).rings, wakeInput_ne_load x h⟩
    | watchTimerExpiry =>
      exact ⟨_, rfl, (watchExpired_moves s).rings, ite_ne_load (ite_ne_load (toHoldup_ne_load s) (enterSleep_ne_load s)) h⟩
    | holdupTimerExpiry => exact ⟨_, rfl, (holdupExpired_moves s).rings, ite_ne_load (enterSleep_ne_load s) h⟩
    | messageSent =>
      exact ⟨_, rfl, ((messageSent_steady s).moves.trans (holdupExit_moves _)).rings,
        holdupExit_ne_load (by rw [hsent]; exact h)⟩
    | clash x =>
      exact ⟨_, rfl, ((clash_steady s x).moves.trans (holdupExit_moves _)).rings,
        holdupExit_ne_load (by rw [(clash_kept s x).ign]; exact h)⟩
    | breakRecognised =>
      exact ⟨_, rfl, (Moves.ite ((clash_steady s true).moves.trans (holdupExit_moves _))
        (setLine_steady (breakHeard_ok _ _)).moves).rings,
        ite_ne_load (holdupExit_ne_load (by rw [(clash_kept s true).ign]; exact h)) h⟩
    | blockWriteReady =>
      exact ⟨_, rfl, (writeDone_moves s).rings, ite_ne_load (holdupExit_ne_load (settleStore_ne_load h)) h⟩
    | _ => cases hm

/-! ### The statement -/

theorem present_arbitrated {s u : State} (h : u.Arbitrated) : (State.present s u).Arbitrated := by
  obtain ⟨hl, hurgent, hcomplete, hoff⟩ := h
  have k := present_kept s u
  have hr := Rings.of_kept k
  have hign := present_ign s u
  refine ⟨hr.length hl, ?_, fun hi => hr.complete (hcomplete (hign ▸ hi)), fun hi => ?_⟩
  · exact mostUrgent_of_warnings k.cal (by rw [k.arbiter]) hurgent
  · rw [k.arbiter]
    exact hoff (hign ▸ hi)

theorem arbitrated_exec {c : Instr} (hc : c ≠ .powerOnReset) {s t : State} (ht : Timed s) (h : s.Arbitrated)
    (hexec : exec c s = .next t) : t.Arbitrated := by
  obtain ⟨hl, hurgent, hcomplete, hoff⟩ := h
  by_cases hload : s.ign = .load
  · have hloading : Loading s := ⟨hload, hoff hload, hl⟩
    by_cases hr : c = .blockReadEnd
    · subst hr
      obtain rfl : State.present s s.readEnd = t := Host.Outcome.next.inj hexec
      exact present_arbitrated ((readEnd_loading hloading).elim (·.arbitrated) (·.arbitrated))
    · obtain ⟨u, hu, k⟩ := loading_exec hc hr ht hloading
      obtain rfl := exec_inj hexec hu
      exact present_arbitrated k.arbitrated
  · obtain ⟨u, hu, hrings, hne⟩ := arbitrates_exec hc hload
    obtain rfl := exec_inj hexec hu
    exact present_arbitrated (hrings.arbitrates hne (hcomplete hload) hurgent).arbitrated

theorem tickAll_warnings (s : State) : s.tickAll.arbiter.warnings = s.arbiter.warnings := rfl

theorem idle_arbitrated {s : State} (h : s.Arbitrated) : s.idle.Arbitrated := by
  obtain ⟨hl, hurgent, hcomplete, hoff⟩ := h
  have hsteady := idle_steady s
  have hwarnings : s.idle.arbiter.warnings = s.arbiter.warnings := by
    unfold State.idle
    split <;> rfl
  refine ⟨hsteady.rings.length hl, mostUrgent_of_warnings hsteady.rings.cal hwarnings hurgent, fun hi => ?_, fun hi => ?_⟩
  · exact hsteady.rings.complete (hcomplete (hsteady.blocks.ign ▸ hi))
  · rw [hwarnings]
    exact hoff (hsteady.blocks.ign ▸ hi)

theorem setPending_arbitrated {s : State} (cs : List Instr) (h : s.Arbitrated) : (s.setPending cs).Arbitrated := h

theorem requestSet_mostUrgent {s0 s : State} (hc : s0.OrdersComplete) (hone : s0.shownCount ≤ 1) (h : Rings s0 s)
    (level edge : Nat → Bool) : (State.present s0 (s.requestSet level edge)).MostUrgentShown :=
  event_mostUrgent hc hone h (requestSet_inner s level edge) (.refl (s.requestSet level edge))

theorem evaluateRules_mostUrgent {s0 s : State} (hc : s0.OrdersComplete) (hone : s0.shownCount ≤ 1) (h : Rings s0 s) :
    (State.present s0 s.evaluateRules).MostUrgentShown :=
  requestSet_mostUrgent hc hone (h.trans (.of_kept (setRules_kept s _))) _ _

theorem arbiterTicked_mostUrgent {s0 s : State} (hc : s0.OrdersComplete) (hone : s0.shownCount ≤ 1) (h : Rings s0 s) :
    (State.present s0 s.arbiterTicked).MostUrgentShown :=
  event_mostUrgent hc hone h (arbiterTicked_inner s) (.refl s.arbiterTicked)

theorem edgeRequest_mostUrgent {s : State} (hc : s.OrdersComplete) (hone : s.shownCount ≤ 1) (h : s.ign.awake = true) (w : Nat) :
    (State.present s (s.edgeRequest w)).MostUrgentShown := by
  unfold State.edgeRequest
  rw [if_pos h]
  exact event_mostUrgent hc hone (.refl s) (takeEdge_inner s w) (.refl _)

theorem exec_of_guard {p : Prop} [Decidable p] {c : Instr} {s u : State} (h : p)
    (hexec : exec c s = .next (State.present s (if p then u else s))) : exec c s = .next (State.present s u) := by
  rwa [if_pos h] at hexec

/-- The seven commands that reach the arbiter are events of its own. -/
theorem reaches_mostUrgent {c : Instr} {s : State} (hc : s.OrdersComplete) (hone : s.shownCount ≤ 1) (h : s.ReachesArbiter c) :
    ∃ t, exec c s = .next t ∧ t.MostUrgentShown := by
  cases c with
  | evaluation =>
    have hr : Rings s (s.setRules { s.rules with timer := some 10 }) := .of_kept (setRules_kept s _)
    exact ⟨_, exec_of_guard (p := s.rules.timer.isSome = true) h rfl, evaluateRules_mostUrgent hc hone hr⟩
  | arbiterTick =>
    have hr : Rings s (s.setArbiter { s.arbiter with tick := some 10 }) := .of_same rfl rfl rfl rfl
    exact ⟨_, exec_of_guard (p := s.arbiter.tick.isSome = true) h rfl, arbiterTicked_mostUrgent hc hone hr⟩
  | shownTimerExpiry => exact ⟨_, rfl, event_mostUrgent hc hone (.refl s) (shownExpired_inner s) (.refl _)⟩
  | reminderTimerExpiry w => exact ⟨_, rfl, event_mostUrgent hc hone (.refl s) (reminderExpiry_inner s w) (.refl _)⟩
  | patternComplete w => exact ⟨_, rfl, event_mostUrgent hc hone (.refl s) (patternDone_inner s w) (.refl (s.patternDone w))⟩
  | serviceEdgeRequest w => exact ⟨_, rfl, edgeRequest_mostUrgent hc hone h _⟩
  | keyPress k =>
    cases k with
    | ack => exact ⟨_, rfl, ackPress_mostUrgent hc hone h⟩
    | _ => exact absurd h id
  | _ => exact absurd h id

theorem powerOn_arbitrated (s : State) : s.powerOn.Arbitrated := reset_arbitrated

theorem powerOn_ordered (s : State) : s.powerOn.ServiceOrdered := by
  intro v w _ _ _ hv
  have : s.powerOn.warning v = .off := reset_warning v
  rw [this] at hv
  simp [Warning.off] at hv

/-- Settles O45: the events of the arbiter, every command outside LOAD, and LOAD with its end. -/
theorem selectionShowsTheMostUrgent : Obligations.SelectionShowsTheMostUrgent := by
  refine ⟨fun c s hc hone h => reaches_mostUrgent hc hone h, fun s t ht hs h => ?_, fun s t hne hc hs h => ?_⟩
  · rcases step_cases h with ⟨c, rest, -, hexec⟩ | ⟨-, rfl⟩
    · by_cases hp : c = .powerOnReset
      · subst hp
        obtain rfl := exec_inj hexec (exec_powerOn _)
        exact powerOn_arbitrated _
      · exact arbitrated_exec hp ((setPending_steady s rest).timed (.of_follow ht)) (setPending_arbitrated rest hs) hexec
    · exact idle_arbitrated hs
  · rcases step_cases h with ⟨c, rest, -, hexec⟩ | ⟨-, rfl⟩
    · have hq := (setPending_steady s rest).rings
      by_cases hp : c = .powerOnReset
      · subst hp
        obtain rfl := exec_inj hexec (exec_powerOn _)
        exact ⟨powerOn_ordered _, fun _ => ⟨List.nodup_nil, List.nodup_nil⟩, fun k => absurd rfl k⟩
      · obtain ⟨u, hu, hrings, -⟩ := arbitrates_exec hp (s := s.setPending rest) hne
        obtain rfl := exec_inj hexec hu
        have hall := (hq.trans hrings).trans (.of_kept (present_kept (s.setPending rest) u))
        exact ⟨hall.ordered hc hs, hall.once, fun _ => hall.complete hc⟩
    · have hall := (idle_steady s).rings
      exact ⟨hall.ordered hc hs, hall.once, fun _ => hall.complete hc⟩

end Sys2Proof.Machine
end

section
/-! SUPPORT. The counting unit's edges, windows and clock. Settles O13, O16 and O17. -/
namespace Sys2Proof.Machine
set_option Elab.async false

theorem exec_next {c : Instr} {s u v : State} (h : exec c s = .next (State.present s u)) (k : u = v) :
    exec c s = .next (State.present s v) := k ▸ h

theorem settleStore_of_store {s u : State} (h : s.store.Settled) (k : u.store = s.store) : u.settleStore = u :=
  settleStore_settled (k ▸ h)

/-! ### Edges -/

theorem edgeAccepted_later (c : Counting) (e : Nat) :
    (c.later e).edgeAccepted = true ↔ ∀ x, c.sinceAccepted = some x → 100 ≤ x + e := by
  unfold Counting.edgeAccepted Counting.later
  cases hx : c.sinceAccepted with
  | none => simp
  | some t =>
    change decide (100 ≤ min 100 (t + e)) = true ↔ _
    simp only [decide_eq_true_eq, Option.some.injEq, forall_eq']
    omega

theorem acceptsPulse_iff (s : State) (e : Nat) :
    s.AcceptsPulse e ↔ (s.ign.counts && (s.counting.later e).edgeAccepted) = true := by
  rw [Bool.and_eq_true, edgeAccepted_later]
  rfl

def Counting.pulsed (c : Counting) : Counting :=
  { c with sinceAccepted := some 0, openCount := min 65535 (c.openCount + 1) }

theorem acceptPulse_later (s : State) (e : Nat) :
    (s.setCounting (s.counting.later e)).acceptPulse =
      if s.cal.divisor ≤ s.counting.stepCount + 1 then
        (s.setCounting { s.counting.pulsed with stepCount := 0 }).distanceStep
      else s.setCounting { s.counting.pulsed with stepCount := s.counting.stepCount + 1 } := rfl

theorem exec_speedPulse_accepted {s : State} {e : Nat} (h : s.AcceptsPulse e) :
    exec (.speedPulse e) s =
      .next (State.present s (s.setCounting (s.counting.later e)).acceptPulse.settleStore) :=
  exec_of_guard ((acceptsPulse_iff s e).mp h) (u := (s.setCounting (s.counting.later e)).acceptPulse.settleStore)
    (exec_next rfl (by rw [if_pos ((acceptsPulse_iff s e).mp h)]; exact if_pos ((acceptsPulse_iff s e).mp h)))

theorem exec_speedPulse_ignored {s : State} {e : Nat} (h : ¬s.AcceptsPulse e) :
    exec (.speedPulse e) s = .next (State.present s (s.setCounting (s.counting.later e))) :=
  exec_next rfl (if_neg (mt (acceptsPulse_iff s e).mpr h))

/-- Settles O13: below the divisor an accepted edge only counts, and another only lengthens the interval. -/
theorem pulsesAreCounted : Obligations.PulsesAreCounted := by
  refine fun e s => ⟨fun h hbelow hsettled => ?_, fun h => ?_⟩
  · have hcount : (s.setCounting (s.counting.later e)).acceptPulse =
        s.setCounting { s.counting.pulsed with stepCount := s.counting.stepCount + 1 } := by
      rw [acceptPulse_later, if_neg (Nat.not_le.mpr hbelow)]
    refine ⟨_, exec_speedPulse_accepted h, ?_⟩
    rw [hcount, settleStore_of_store hsettled (State.setCounting_store _ _)]
    exact ⟨present_frame (setCounting_kept s _), State.present_counting _ _⟩
  · exact ⟨_, exec_speedPulse_ignored h, present_frame (setCounting_kept s _), State.present_counting _ _⟩

/-! ### Windows -/

theorem exec_windowClosure {s : State} (h : s.counting.windowTimer.isSome = true) :
    exec .halfSecondWindowClosure s = .next (State.present s s.closeWindow) :=
  exec_next rfl (if_pos h)

def Counting.closed (c : Counting) : Counting :=
  { c with closedCount := c.openCount, openCount := 0, hasClosed := true, windowTimer := some 50 }

theorem closeWindow_eq (s : State) :
    s.closeWindow =
      if s.counting.hasClosed = false then s.setCounting s.counting.closed
      else if s.arith.outstanding .speed = true then
        s.setCounting { s.counting.closed with notedPulses := some (s.counting.closedCount + s.counting.openCount) }
      else (s.setCounting s.counting.closed).issue
        (speedRequest (s.counting.closedCount + s.counting.openCount) s.cal.divisor) := by
  unfold State.closeWindow
  dsimp only
  cases s.counting.hasClosed with
  | false => rfl
  | true => rfl

theorem issue_of_busy {s : State} (r : Request) (h : s.arith.inFlight.isSome = true) :
    (s.issue r).arith = { s.arith with list := s.arith.list ++ [r] } := by
  unfold State.issue Arith.handOver
  exact if_pos h

theorem nextRequest_single (r : Request) : nextRequest [r] = some 0 := by
  unfold nextRequest
  cases h : r.target <;> simp [h, Target.rank, List.findIdx?_cons, List.range_succ]

theorem issue_of_idle {s : State} (r : Request) (h : s.arith.inFlight = none) (hl : s.arith.list = []) :
    (s.issue r).arith = { s.arith with inFlight := some r } := by
  unfold State.issue Arith.handOver
  simp only [h, hl, List.nil_append, nextRequest_single, Option.isSome_none, State.setArith_arith]
  simp

theorem not_outstanding_of_empty {a : Arith} (t : Target) (h : a.inFlight = none) (hl : a.list = []) :
    a.outstanding t = false := by
  unfold Arith.outstanding
  rw [h, hl]
  rfl

/-- Settles O16, along the branches of a closure. -/
theorem windowCloses : Obligations.WindowCloses := by
  intro s
  refine ⟨fun h => ⟨_, exec_next rfl (if_neg (by rw [h]; nofun)), present_frame (.refl [] s)⟩, fun h => ⟨?_, ?_, ?_, ?_⟩⟩
  · intro hfirst
    refine ⟨_, exec_windowClosure h, ?_⟩
    rw [closeWindow_eq, if_pos hfirst]
    exact ⟨State.present_counting _ _, present_frame (setCounting_kept s _)⟩
  · intro hlater hout
    refine ⟨_, exec_windowClosure h, ?_⟩
    rw [closeWindow_eq, if_neg (by rw [hlater]; nofun), if_pos hout]
    exact ⟨State.present_counting _ _, present_frame (setCounting_kept s _)⟩
  all_goals have hframe (r : Request) : KeptBut [.counting, .arith] s ((s.setCounting s.counting.closed).issue r) :=
    (setCounting_kept _ _).andThen (issue_kept _ _)
  · intro hlater hbusy hout
    refine ⟨_, exec_windowClosure h, ?_⟩
    rw [closeWindow_eq, if_neg (by rw [hlater]; nofun), if_neg (by rw [hout]; nofun)]
    exact ⟨(State.present_counting _ _).trans (issue_kept _ _).counting,
      (State.present_arith _ _).trans (issue_of_busy (s := s.setCounting s.counting.closed) _ hbusy), present_frame (hframe _)⟩
  · intro hlater hidle hempty
    refine ⟨_, exec_windowClosure h, ?_⟩
    rw [closeWindow_eq, if_neg (by rw [hlater]; nofun),
      if_neg (by rw [not_outstanding_of_empty _ hidle hempty]; nofun)]
    exact ⟨(State.present_counting _ _).trans (issue_kept _ _).counting,
      (State.present_arith _ _).trans (issue_of_idle (s := s.setCounting s.counting.closed) _ hidle hempty),
      present_frame (hframe _)⟩

/-! ### The clock -/

/-- The seconds since midnight that the clock shows. -/
def Counting.dayTime (c : Counting) : Nat := (c.hours * 60 + c.minutes) * 60 + c.seconds

theorem second_spec {c : Counting} (h : ClockInRange c) :
    c.second.1.hours ≤ 23 ∧ c.second.1.minutes ≤ 59 ∧ c.second.1.seconds ≤ 59 ∧
      c.second.1.dayTime = (c.dayTime + 1) % 86400 ∧ c.second.1.secondTimer = c.secondTimer ∧
      c.second.1.dayCount = (if c.second.2 = true then min 65535 (c.dayCount + 1) else c.dayCount) ∧
      c.second.1.heldDays = c.heldDays ∧ (c.second.2 = true ↔ c.BeforeMidnight) := by
  obtain ⟨hh, hm, hs, hd⟩ := h
  unfold Counting.dayTime Counting.BeforeMidnight Counting.second satAdd
  split
  · exact ⟨hh, hm, by dsimp only; omega, by dsimp only; omega, rfl, rfl, rfl, by simp; omega⟩
  · split
    · exact ⟨hh, by dsimp only; omega, by simp, by dsimp only; omega, rfl, rfl, rfl, by simp; omega⟩
    · split
      · exact ⟨by dsimp only; omega, by simp, by simp, by dsimp only; omega, rfl, rfl, rfl, by simp; omega⟩
      · exact ⟨by simp, by simp, by simp, by dsimp only; omega, rfl, rfl, rfl, by simp; omega⟩

/-- What the clock shows, the held days and the 1 s timer. -/
structure Counting.SameClock (c d : Counting) : Prop where
  second : d.secondTimer = c.secondTimer
  hours : d.hours = c.hours
  minutes : d.minutes = c.minutes
  seconds : d.seconds = c.seconds
  days : d.dayCount = c.dayCount
  held : d.heldDays = c.heldDays

theorem Counting.SameClock.refl (c : Counting) : c.SameClock c := ⟨rfl, rfl, rfl, rfl, rfl, rfl⟩
theorem Counting.SameClock.of_eq {c d : Counting} (h : d = c) : c.SameClock d := h ▸ .refl c
theorem Counting.SameClock.trans {c d e : Counting} (h : c.SameClock d) (k : d.SameClock e) : c.SameClock e :=
  ⟨k.second.trans h.second, k.hours.trans h.hours, k.minutes.trans h.minutes, k.seconds.trans h.seconds,
    k.days.trans h.days, k.held.trans h.held⟩

theorem filterFuel_sameClock (s : State) : s.counting.SameClock s.filterFuel.counting := by
  unfold State.filterFuel
  dsimp only
  split
  · split
    · split <;> exact ⟨rfl, rfl, rfl, rfl, rfl, rfl⟩
    · exact ⟨rfl, rfl, rfl, rfl, rfl, rfl⟩
  · exact ⟨rfl, rfl, rfl, rfl, rfl, rfl⟩

theorem passDue_sameClock (s : State) : s.counting.SameClock s.passDue.counting := by
  unfold State.passDue
  split
  · rw [tripPass_counting]; exact ⟨rfl, rfl, rfl, rfl, rfl, rfl⟩
  · exact .refl _

/-- The rest of the 1 s timer's command leaves the clock as its second has left it. -/
theorem oneSecondTimer_sameClock (s : State) :
    (s.setCounting { s.counting with secondTimer := 100 }).clockSecond.counting.SameClock
      (State.present s s.beforeFilter.filterFuel.passDue.rearPageDue.settleStore).counting := by
  rw [State.present_counting, (settleStore_kept _).counting, (rearPageDue_kept _).counting]
  exact (Counting.SameClock.of_eq (tripSecond_kept _).counting).trans ((filterFuel_sameClock _).trans (passDue_sameClock _))

def Counting.holdDay (c : Counting) : Counting := { c with heldDays := min 255 (c.heldDays + 1) }

/-- The clock's second, as the 1 s timer's command takes it. -/
def State.second (s : State) : Counting × Bool := ({ s.counting with secondTimer := 100 } : Counting).second

theorem clockSecond_eq (s : State) :
    (s.setCounting { s.counting with secondTimer := 100 }).clockSecond =
      if s.second.2 = false then s.setCounting s.second.1
      else if s.ign.awake = true then (s.setCounting s.second.1).countdown false
      else s.setCounting s.second.1.holdDay := by
  unfold State.clockSecond
  dsimp only
  rw [show (s.setCounting { s.counting with secondTimer := 100 }).counting.second = s.second from rfl]
  cases s.second.2 with
  | false => rfl
  | true => rfl

theorem clockSecond_counting (s : State) :
    (s.setCounting { s.counting with secondTimer := 100 }).clockSecond.counting =
      { s.second.1 with
        heldDays := if s.second.2 = true ∧ s.ign.awake = false then min 255 (s.second.1.heldDays + 1)
          else s.second.1.heldDays } := by
  rw [clockSecond_eq]
  cases s.second.2 with
  | false => rfl
  | true =>
    cases hi : s.ign.awake with
    | false => rfl
    | true => exact (countdown_kept (s.setCounting s.second.1) false).counting

/-- Asleep the 1 s timer's command moves the counting unit alone. -/
theorem secondAsleep_kept {s : State} (h : s.ign.awake = false) :
    KeptBut [.counting] s s.beforeFilter.filterFuel.passDue.rearPageDue := by
  have hnotRun : s.ign ≠ .run := by intro k; rw [k] at h; cases h
  have hkeys : s.ign.keysAccepted = false := by cases hi : s.ign <;> rw [hi] at h <;> first | rfl | cases h
  have hclock : KeptBut [.counting] s (s.setCounting { s.counting with secondTimer := 100 }).clockSecond := by
    rw [clockSecond_eq, if_neg (by rw [h]; nofun : ¬s.ign.awake = true)]
    exact .ite (setCounting_kept _ _) (setCounting_kept _ _)
  have hbefore : KeptBut [.counting] s s.beforeFilter := by
    unfold State.beforeFilter State.tripSecond
    rwa [if_neg (by rw [hclock.ign]; exact hnotRun)]
  have hfilter := hbefore.trans (filterFuel_kept s.beforeFilter)
  have hpass : KeptBut [.counting] s s.beforeFilter.filterFuel.passDue := by
    unfold State.passDue
    rwa [if_neg (by rw [hfilter.ign, hkeys]; nofun)]
  unfold State.rearPageDue
  rwa [if_neg (by rw [hpass.ign, h]; nofun)]

theorem second_of_range {s : State} (h : ClockInRange s.counting) :
    s.second.1.hours ≤ 23 ∧ s.second.1.minutes ≤ 59 ∧ s.second.1.seconds ≤ 59 ∧
      s.second.1.dayTime = (s.counting.dayTime + 1) % 86400 ∧ s.second.1.secondTimer = 100 ∧
      s.second.1.dayCount = (if s.second.2 = true then min 65535 (s.counting.dayCount + 1) else s.counting.dayCount) ∧
      s.second.1.heldDays = s.counting.heldDays ∧ (s.second.2 = true ↔ s.counting.BeforeMidnight) :=
  second_spec (c := { s.counting with secondTimer := 100 }) h

/-- Settles O17: the second that the clock counts (`second_of_range`), which the rest of the command leaves alone. -/
theorem secondAdvancesClock : Obligations.SecondAdvancesClock := by
  intro s hrange
  refine ⟨_, exec_oneSecondTimer s, ?_⟩
  have hsame := oneSecondTimer_sameClock s
  rw [clockSecond_counting] at hsame
  obtain ⟨hhours, hminutes, hseconds, hday, htimer, hdays, hheld, hmidnight⟩ := second_of_range hrange
  refine ⟨hsame.second.trans htimer, hsame.hours.trans_le hhours, hsame.minutes.trans_le hminutes,
    hsame.seconds.trans_le hseconds, ?_, fun hno => ?_, fun hyes => ?_, fun hasleep hsettled => ?_⟩
  · rw [hsame.hours, hsame.minutes, hsame.seconds]
    exact hday
  · have hfalse : ¬s.second.2 = true := mt hmidnight.mp hno
    exact ⟨hsame.days.trans (hdays.trans (if_neg hfalse)), hsame.held.trans ((if_neg fun k => hfalse k.1).trans hheld)⟩
  · have htrue : s.second.2 = true := hmidnight.mpr hyes
    refine ⟨hsame.days.trans (hdays.trans (if_pos htrue)), fun hawake => ?_, fun hasleep => ?_⟩
    · exact hsame.held.trans ((if_neg fun k => by have := k.2.symm.trans hawake; cases this).trans hheld)
    · exact hsame.held.trans ((if_pos ⟨htrue, hasleep⟩).trans (by rw [hheld]))
  · have hkept := secondAsleep_kept hasleep
    rw [settleStore_of_store hsettled hkept.store]
    exact present_frame hkept

end Sys2Proof.Machine
end

section
/-! SUPPORT. Curves: the segment that a value lies in, and what its request delivers. Settles O21. -/
namespace Sys2Proof.Machine
set_option Elab.async false

theorem isChain_of_strictlyRising : ∀ l : List Nat, strictlyRising l = true → l.IsChain (· < ·)
  | [], _ => .nil
  | [_], _ => .singleton _
  | a :: b :: rest, h => by
    rw [strictlyRising, Bool.and_eq_true, decide_eq_true_eq] at h
    exact .cons_cons h.1 (isChain_of_strictlyRising (b :: rest) h.2)

section
variable {c : Curve} {x : Int}

theorem Curve.xs_lt (hl : c.xs.length = 9) (h : c.ordered = true) {i j : Nat} (hij : i < j) (hj : j ≤ 8) :
    c.xs.getD i 0 < c.xs.getD j 0 := by
  simp only [Curve.ordered, Bool.and_eq_true] at h
  obtain ⟨⟨⟨hrising, -⟩, -⟩, -⟩ := h
  have hpair := List.isChain_iff_pairwise.mp (isChain_of_strictlyRising c.xs hrising)
  rw [List.getD_eq_getElem _ _ (by omega), List.getD_eq_getElem _ _ (by omega)]
  exact List.pairwise_iff_getElem.mp hpair i j (by omega) (by omega) hij

theorem Curve.xs_le (hl : c.xs.length = 9) (h : c.ordered = true) {i j : Nat} (hij : i ≤ j) (hj : j ≤ 8) :
    c.xs.getD i 0 ≤ c.xs.getD j 0 := by
  rcases Nat.eq_or_lt_of_le hij with rfl | hlt
  · exact Nat.le_refl _
  · exact (Curve.xs_lt hl h hlt hj).le

theorem Curve.segment_eq (hl : c.xs.length = 9) (h : c.ordered = true) {i : Nat} (hi : i < 8)
    (hlow : (c.xs.getD i 0 : Int) ≤ x) (hhigh : x < (c.xs.getD (i + 1) 0 : Int)) : c.segment x = some i := by
  unfold Curve.segment firstIndex
  refine List.find?_range_eq_some.mpr ⟨by simpa using ⟨hlow, hhigh⟩, by simpa using hi, fun j hj => ?_⟩
  have hle : (c.xs.getD (j + 1) 0 : Int) ≤ c.xs.getD i 0 := by exact_mod_cast Curve.xs_le hl h (Nat.succ_le_of_lt hj) (by omega)
  simp only [Bool.not_eq_true', Bool.and_eq_false_iff, decide_eq_false_iff_not]
  exact .inr (by omega)

/-- Between its end points the curve takes the segment that the value lies in. -/
theorem Curve.evaluate_inside (hl : c.xs.length = 9) (h : c.ordered = true) {i : Nat} (hi : i < 8)
    (hlow : (c.xs.getD i 0 : Int) ≤ x) (hhigh : x < (c.xs.getD (i + 1) 0 : Int)) (hfirst : (c.xs.getD 0 0 : Int) < x) :
    c.evaluate x =
      if c.ys.getD (i + 1) 0 = c.ys.getD i 0 then .direct (c.ys.getD i 0)
      else .request (x.toNat - c.xs.getD i 0) (c.ys.getD (i + 1) 0 - c.ys.getD i 0)
        (c.xs.getD (i + 1) 0 - c.xs.getD i 0) (c.ys.getD i 0) := by
  have hlast : (c.xs.getD (i + 1) 0 : Int) ≤ c.xs.getD 8 0 := by exact_mod_cast Curve.xs_le hl h (by omega) (by omega)
  unfold Curve.evaluate
  rw [if_neg (by omega), if_neg (by omega), Curve.segment_eq hl h hi hlow hhigh]

end

/-- A quotient by a divisor above the dividend's first factor stays within the second. -/
theorem roundedQuotient_le_factor {n k c : Nat} (h : n < c) : roundedQuotient n k c ≤ k := by
  have hmul : n * k + k ≤ c * k := by
    rw [← Nat.succ_mul]
    exact Nat.mul_le_mul_right k h
  have : roundedQuotient n k c < k + 1 := by
    refine (Nat.div_lt_iff_lt_mul (Nat.zero_lt_of_lt h)).mpr ?_
    rw [Nat.succ_mul, Nat.mul_comm k c]
    omega
  omega

/-- Settles O21. -/
theorem curveFollowsItsPoints : Obligations.CurveFollowsItsPoints := by
  intro c x hxs hys hordered htop
  refine ⟨fun h => if_pos h, fun h => ?_, fun i hi hlow hhigh => ⟨fun hflat => ?_, fun hfirst hrise => ?_⟩⟩
  · have hends : (c.xs.getD 0 0 : Int) < c.xs.getD 8 0 := by exact_mod_cast Curve.xs_lt hxs hordered (by decide) (by decide)
    unfold Curve.evaluate
    rw [if_neg (by omega), if_pos h]
  · by_cases hfirst : (c.xs.getD 0 0 : Int) < x
    · rw [Curve.evaluate_inside hxs hordered hi hlow hhigh hfirst, if_pos hflat]
    · have hzero : i = 0 := by
        by_contra hne
        have : (c.xs.getD 0 0 : Int) < c.xs.getD i 0 := by
          exact_mod_cast Curve.xs_lt hxs hordered (Nat.pos_of_ne_zero hne) (by omega)
        omega
      subst hzero
      exact if_pos (by omega)
  · refine ⟨x.toNat - c.xs.getD i 0, by omega, ?_, ?_⟩
    · rw [Curve.evaluate_inside hxs hordered hi hlow hhigh hfirst, if_neg (by omega)]
    · have hpart : x.toNat - c.xs.getD i 0 < c.xs.getD (i + 1) 0 - c.xs.getD i 0 := by omega
      have hle := roundedQuotient_le_factor (k := c.ys.getD (i + 1) 0 - c.ys.getD i 0) hpart
      have hy : c.ys.getD (i + 1) 0 ≤ 65534 := by
        rw [List.getD_eq_getElem _ _ (by omega)]
        exact htop _ (List.getElem_mem _)
      exact ⟨_, scaleDivide_valid (Nat.zero_lt_of_lt hpart) (by omega), by omega⟩

end Sys2Proof.Machine
end

section
/-! SUPPORT. Completions of the arithmetic unit: the hand-over, and what each target takes. Settles O22, O23 and O24. -/
namespace Sys2Proof.Machine
set_option Elab.async false

theorem present_frame_choice {bs cs : List Block} {s u : State} (h : KeptBut bs s u) (c : SameChoice s u)
    (ha : Block.arbiter ∉ bs := by decide) (hc : bs ⊆ cs := by decide) (hd : [Block.display] ⊆ cs := by decide) :
    KeptBut cs s (State.present s u) :=
  present_frame_of h c.page (warningPage_congr (h.arbiter ha)) c.item hc hd

/-! ### The arbiter of the unit -/

theorem rank_le (t : Target) : t.rank ≤ 3 := by cases t <;> simp [Target.rank]

/-- The oldest request of the most urgent class is the next. -/
theorem nextRequest_eq {l : List Request} {i : Nat} {q : Request} (hq : l[i]? = some q)
    (hfirst : ∀ j p, l[j]? = some p → q.target.rank < p.target.rank ∨ (q.target.rank = p.target.rank ∧ i ≤ j)) :
    nextRequest l = some i := by
  have hlower : ∀ k < q.target.rank, (l.findIdx? fun r => r.target.rank == k) = none := by
    intro k hk
    refine List.findIdx?_eq_none_iff.mpr fun p hp => ?_
    obtain ⟨j, hj⟩ := List.getElem?_of_mem hp
    have := hfirst j p hj
    simp only [beq_eq_false_iff_ne]
    omega
  have hhere : (l.findIdx? fun r => r.target.rank == q.target.rank) = some i := by
    obtain ⟨hi, rfl⟩ := List.getElem?_eq_some_iff.mp hq
    refine List.findIdx?_eq_some_iff_getElem.mpr ⟨hi, by simp, fun j hj => ?_⟩
    have := hfirst j l[j] (List.getElem?_eq_getElem (by omega))
    rw [beq_iff_eq]
    omega
  have hrank := rank_le q.target
  unfold nextRequest
  rw [show List.range 4 = [0, 1, 2, 3] from rfl]
  generalize q.target.rank = k at *
  interval_cases k <;> simp [hlower, hhere]

theorem mem_handOver (a : Arith) (q : Request) : q ∈ a.handOver.requests ↔ q ∈ a.requests := by
  unfold Arith.handOver
  split
  · exact Iff.rfl
  · rename_i hidle
    have hnone : a.inFlight = none := by simpa using hidle
    cases hi : nextRequest a.list with
    | none => exact Iff.rfl
    | some i =>
      cases hr : a.list[i]? with
      | none =>
        have hsame : a.list.eraseIdx i = a.list := List.eraseIdx_of_length_le (List.getElem?_eq_none_iff.mp hr)
        simp [Arith.requests, hnone, hr, hsame]
      | some r =>
        obtain ⟨hlt, hget⟩ := List.getElem?_eq_some_iff.mp hr
        have hperm := (List.getElem_cons_eraseIdx_perm hlt).mem_iff (a := q)
        rw [hget] at hperm
        simpa [Arith.requests, hnone, hr] using hperm

theorem mem_issue_of_busy {s : State} {r q : Request} : q ∈ (s.issue r).arith.list → s.arith.inFlight.isSome = true →
    q ∈ s.arith.list ∨ q = r := fun h hb => by
  rw [issue_of_busy r hb] at h
  simpa using h

theorem mem_leaveUnit (s : State) (q : Request) : q ∈ s.leaveUnit.arith.requests ↔ q ∈ s.arith.list :=
  (mem_handOver { s.arith with inFlight := none } q).trans (by simp [Arith.requests])

theorem handOver_discarded (a : Arith) : a.handOver.discarded = a.discarded := by
  unfold Arith.handOver
  split
  · rfl
  · split <;> rfl

theorem complete_eq {s : State} {r : Request} (h : s.arith.inFlight = some r) : s.complete = (s.deliver r).leaveUnit := by
  unfold State.complete
  rw [h]

theorem exec_complete {s : State} {r : Request} (h : s.arith.inFlight = some r) :
    exec .operationComplete s = .next (State.present s (s.deliver r).leaveUnit) :=
  exec_next rfl (complete_eq h)

theorem takeRecord_list (s : State) (t : TripRecord) (g : Nat) {w : State → State} (h : (w s).arith = s.arith) :
    (s.takeRecord t g w).arith.list = s.arith.list := by
  unfold State.takeRecord
  split
  · rw [h]
  · rfl

/-- Every delivery but FUEL's, and SPEED's with a noted n, leaves the request list. -/
theorem deliver_list {s : State} {r : Request} (hf : r.target ≠ .fuel)
    (hs : r.target = .speed → s.counting.notedPulses = none) : (s.deliver r).arith.list = s.arith.list := by
  unfold State.deliver
  split
  next => rfl
  next ht =>
    unfold State.takeSpeed
    rw [hs ht]
    rfl
  next ht => exact absurd ht hf
  next => exact takeRecord_list _ _ _ (setEconomy_kept _ _ _).arith
  next => exact takeRecord_list _ _ _ (setAverage_kept _ _ _).arith
  next => rfl
  next => rfl

/-- Settles O22. -/
theorem completionHandsOver : Obligations.CompletionHandsOver := by
  refine fun s => ⟨fun hidle => ?_, fun r hr hfuel hspeed => ?_⟩
  · refine ⟨_, exec_next rfl (v := s) ?_, present_frame (.refl [] s)⟩
    unfold State.complete
    rw [hidle]
  · have hlist := deliver_list hfuel hspeed
    refine ⟨_, exec_complete hr, fun hempty => ?_, fun i q hq hfirst => ?_⟩
    all_goals
      rw [State.present_arith]
      unfold State.leaveUnit Arith.handOver
      rw [State.setArith_arith, if_neg (by simp), hlist]
    · rw [hempty]
      exact ⟨rfl, hlist.trans hempty⟩
    · rw [nextRequest_eq hq hfirst]
      exact ⟨hq, rfl⟩

/-! ### What the targets take -/

theorem leaveUnit_list_subset {s u : State} (h : ∀ q ∈ u.arith.list, q ∈ s.arith.list) :
    ∀ q ∈ (State.present s u.leaveUnit).arith.requests, q ∈ s.arith.list := fun q hq => by
  rw [State.present_arith, mem_leaveUnit] at hq
  exact h q hq

theorem completed_frame {bs cs : List Block} {s : State} {r : Request} (h : KeptBut bs s (s.deliver r))
    (ha : Block.arbiter ∉ bs := by decide) (hb : [Block.arith] ⊆ bs := by decide) (hc : bs ⊆ cs := by decide)
    (hd : [Block.display] ⊆ cs := by decide) : KeptBut cs s (State.present s (s.deliver r).leaveUnit) :=
  present_frame_choice (h.trans ((leaveUnit_kept _).mono hb))
    ((deliver_sameChoice s r).trans (.of_kept (leaveUnit_kept _))) ha hc hd

theorem takeSpeed_counting_eq (s : State) (x : Result) :
    (s.takeSpeed x).counting =
      { s.counting with speed := if s.ign.counts then x.value else s.counting.speed, notedPulses := none } := by
  unfold State.takeSpeed
  cases s.counting.notedPulses with
  | none => rfl
  | some n => exact (issue_kept (s.setCounting _) (speedRequest n s.cal.divisor)).counting

theorem takeSpeed_list {s : State} (x : Result) (h : s.arith.inFlight.isSome = true) :
    (s.takeSpeed x).arith.list =
      s.arith.list ++ (s.counting.notedPulses.map fun n => speedRequest n s.cal.divisor).toList := by
  unfold State.takeSpeed
  cases s.counting.notedPulses with
  | none => exact (List.append_nil _).symm
  | some n => exact congrArg Arith.list (issue_of_busy (s := s.setCounting _) (speedRequest n s.cal.divisor) h)

/-- A raw value that has come: F_raw takes it, and F with it if it is the value of a pending return. -/
def Counting.taken (c : Counting) (y : Nat) (ends : Bool) : Counting :=
  { c with
    rawFuel := some y, fuel := if ends && c.returnPending then some y else c.fuel
    returnPending := c.returnPending && !ends }

theorem takeRaw_eq (c : Counting) (y : Nat) (ends : Bool) : c.takeRaw y ends = c.taken y ends := by
  unfold Counting.takeRaw Counting.taken
  cases ends with
  | false => simp
  | true => cases h : c.returnPending <;> simp

theorem taken_true (c : Counting) (y : Nat) :
    c.taken y true =
      { c with rawFuel := some y, fuel := if c.returnPending then some y else c.fuel, returnPending := false } := by
  unfold Counting.taken
  simp

theorem takeFuel_latest {s : State} (y : Nat) (ends : Bool)
    (h : s.counting.latestRaw = none ∨ s.counting.latestRaw = s.counting.requestRaw) :
    s.takeFuel y ends = s.setCounting (s.counting.taken y ends) := by
  unfold State.takeFuel
  rw [takeRaw_eq]
  cases hv : s.counting.latestRaw with
  | none => rfl
  | some v =>
    have hsame : s.counting.requestRaw = some v := by
      rcases h with h | h
      · rw [hv] at h; cases h
      · rw [← h, hv]
    dsimp only
    rw [if_pos hsame]

theorem takeFuel_newer {s : State} (y : Nat) (ends : Bool) {v : Nat} (h : s.counting.latestRaw = some v)
    (hne : s.counting.requestRaw ≠ some v) :
    s.takeFuel y ends = (s.setCounting (s.counting.taken y ends)).evaluateTank v false := by
  unfold State.takeFuel
  rw [takeRaw_eq, h]
  dsimp only
  rw [if_neg hne]

theorem evaluateTank_direct {s : State} {raw z : Nat} {b : Bool} (h : s.cal.tank.evaluate raw = .direct z) :
    s.evaluateTank raw b = s.setCounting (s.counting.taken z true) := by
  unfold State.evaluateTank
  rw [h]
  exact congrArg s.setCounting (takeRaw_eq _ _ _)

/-- The FUEL request that a raw value asks for. -/
def State.fuelRequest (s : State) (n k c base : Nat) : Request :=
  { target := .fuel, n := n, k := k, c := c, base := base, generation := 0, afterReturn := s.counting.returnPending }

theorem evaluateTank_asks {s : State} {raw n k c base : Nat} (h : s.cal.tank.evaluate raw = .request n k c base) :
    s.evaluateTank raw false =
      (s.setCounting { s.counting with requestRaw := some raw }).issue (s.fuelRequest n k c base) := by
  unfold State.evaluateTank
  rw [h]
  rfl

/-! ### Gauges after a change of one -/

theorem gauge_modifyGauge_same {s : State} {g : Nat} (f : Gauge → Gauge) (h : g < s.gauges.gauges.length) :
    (s.modifyGauge g f).gauge g = f (s.gauge g) := by
  simp [State.gauge, State.modifyGauge, h]

theorem gauge_modifyGauge_ne {s : State} {g h : Nat} (f : Gauge → Gauge) (hne : h ≠ g) :
    (s.modifyGauge g f).gauge h = s.gauge h := by
  simp [State.gauge, State.modifyGauge, Ne.symm hne]

theorem deliver_eq (y : Nat) (g : Gauge) :
    g.deliver y = if g.state = .track ∨ g.state = .hold then { g with target := min 767 y } else g := by
  unfold Gauge.deliver
  cases h : g.state <;> simp [h, Gauge.setTarget, angleTop]

/-! ### Completions, target by target -/

section
variable {s : State} {r : Request}

theorem speed_completed (hr : s.arith.inFlight = some r) (h : r.target = .speed) :
    let t := State.present s (s.deliver r).leaveUnit
    t.counting = { s.counting with
      speed := if s.ign.counts then r.result.value else s.counting.speed, notedPulses := none } ∧
      (∀ n, s.counting.notedPulses = some n → speedRequest n s.cal.divisor ∈ t.arith.requests) ∧
      (s.counting.notedPulses = none → ∀ q ∈ t.arith.requests, q ∈ s.arith.list) ∧
      KeptBut [.counting, .arith, .display] s t := by
  have hdeliver : s.deliver r = s.takeSpeed r.result := by unfold State.deliver; rw [h]
  have hlist := takeSpeed_list (s := s) r.result (by rw [hr]; rfl)
  refine ⟨?_, fun n hn => ?_, fun hn => leaveUnit_list_subset fun q hq => ?_, ?_⟩
  · rw [State.present_counting, (leaveUnit_kept _).counting, hdeliver]
    exact takeSpeed_counting_eq _ _
  · rw [State.present_arith, mem_leaveUnit, hdeliver, hlist, hn]
    simp
  · rw [hdeliver, hlist, hn] at hq
    simpa using hq
  · exact completed_frame (by rw [hdeliver]; exact takeSpeed_kept _ _)

theorem fuel_completed (h : r.target = .fuel) : s.deliver r = s.takeFuel (r.base + r.result.value) r.afterReturn := by
  unfold State.deliver
  rw [h]

theorem fuel_frame (h : r.target = .fuel) :
    KeptBut [.counting, .arith, .display] s (State.present s (s.deliver r).leaveUnit) :=
  completed_frame (by rw [fuel_completed h]; exact takeFuel_kept _ _ _)

theorem fuel_counting (h : r.target = .fuel) :
    (State.present s (s.deliver r).leaveUnit).counting =
      (s.takeFuel (r.base + r.result.value) r.afterReturn).counting := by
  rw [State.present_counting, (leaveUnit_kept _).counting, fuel_completed h]

theorem fuel_reevaluated (hr : s.arith.inFlight = some r) (h : r.target = .fuel) {v : Nat}
    (hv : s.counting.latestRaw = some v) (hne : s.counting.requestRaw ≠ some v) :
    let t := State.present s (s.deliver r).leaveUnit
    let got := s.counting.taken (r.base + r.result.value) r.afterReturn
    (∀ z, s.cal.tank.evaluate v = .direct z →
      (∀ q ∈ t.arith.requests, q ∈ s.arith.list) ∧ t.counting = { got with
        rawFuel := some z, fuel := if got.returnPending then some z else got.fuel, returnPending := false }) ∧
    ∀ n k c base, s.cal.tank.evaluate v = .request n k c base → t.counting = { got with requestRaw := some v } ∧
      (s.setCounting got).fuelRequest n k c base ∈ t.arith.requests := by
  have hnew := takeFuel_newer (s := s) (r.base + r.result.value) r.afterReturn hv hne
  refine ⟨fun z hz => ?_, fun n k c base hreq => ?_⟩
  · rw [evaluateTank_direct (s := s.setCounting (s.counting.taken (r.base + r.result.value) r.afterReturn)) hz] at hnew
    refine ⟨leaveUnit_list_subset fun q hq => ?_, ?_⟩
    · rw [fuel_completed h, hnew] at hq
      exact hq
    · rw [fuel_counting h, hnew]
      exact taken_true _ z
  · rw [evaluateTank_asks (s := s.setCounting (s.counting.taken (r.base + r.result.value) r.afterReturn)) hreq] at hnew
    refine ⟨?_, ?_⟩
    · rw [fuel_counting h, hnew, (issue_kept _ _).counting]
      rfl
    · rw [State.present_arith, mem_leaveUnit, fuel_completed h, hnew, issue_of_busy _ (by rw [State.setCounting_arith, State.setCounting_arith, hr]; rfl)]
      simp

theorem gauge_completed {g : Nat} (h : r.target = .gauge g) (hg : g < s.gauges.gauges.length) :
    let t := State.present s (s.deliver r).leaveUnit
    t.gauge g = (if (s.gauge g).state = .track ∨ (s.gauge g).state = .hold then
      { s.gauge g with target := min 767 (r.base + r.result.value) } else s.gauge g) ∧
    (∀ h, h ≠ g → t.gauge h = s.gauge h) ∧ KeptBut [.gauges, .arith, .display] s t := by
  have hdeliver : s.deliver r = s.modifyGauge g (Gauge.deliver (r.base + r.result.value)) := by
    unfold State.deliver; rw [h]
  have hgauge (i : Nat) : (State.present s (s.deliver r).leaveUnit).gauge i =
      (s.modifyGauge g (Gauge.deliver (r.base + r.result.value))).gauge i := by
    unfold State.gauge
    rw [State.present_gauges, (leaveUnit_kept _).gauges, hdeliver]
  refine ⟨?_, fun i hi => ?_, ?_⟩
  · rw [hgauge, gauge_modifyGauge_same _ hg, deliver_eq]
  · rw [hgauge, gauge_modifyGauge_ne _ hi]
  · exact completed_frame (bs := [.gauges, .arith]) (by rw [hdeliver]; exact (modifyGauge_kept _ _ _).mono (by decide))

theorem trip_completed {x : Trip} (h : s.deliver r = s.setTrip x) :
    (State.present s (s.deliver r).leaveUnit).trip = x ∧
      KeptBut [.trip, .arith, .display] s (State.present s (s.deliver r).leaveUnit) := by
  refine ⟨?_, completed_frame (bs := [.trip, .arith]) (by rw [h]; exact (setTrip_kept _ _).mono (by decide))⟩
  rw [State.present_trip, (leaveUnit_kept _).trip, h]
  rfl

end

/-- Settles O23, target by target. -/
theorem resultsReachTargets : Obligations.ResultsReachTargets := by
  refine fun s r hr => ⟨_, exec_complete hr, speed_completed hr, fun h hlatest => ⟨?_, fuel_frame h⟩,
    fun h v hv hne => ⟨fuel_frame h, fuel_reevaluated hr h hv hne⟩, fun h => ?_, fun h => ?_, fun g h hg => gauge_completed h hg⟩
  · rw [fuel_counting h, takeFuel_latest _ _ hlatest]
    rfl
  · exact trip_completed (x := { s.trip with inst := r.result }) (by unfold State.deliver; rw [h])
  · exact trip_completed (x := { s.trip with range := r.result }) (by unfold State.deliver; rw [h])

/-! ### Results of a trip record -/

theorem tripView_congr {s u : State} (ht : u.trip = s.trip) (hs : u.store = s.store) (j : TripRecord) :
    u.tripView j = s.tripView j := by
  unfold State.tripView
  rw [ht, hs]

theorem takeRecord_own {s : State} {k : TripRecord} {g : Nat} (w : State → State) (h : g = (s.tripView k).generation) :
    s.takeRecord k g w = w s := if_pos h

theorem takeRecord_other {s : State} {k : TripRecord} {g : Nat} (w : State → State) (h : g ≠ (s.tripView k).generation) :
    s.takeRecord k g w = s.setArith { s.arith with discarded := min 255 (s.arith.discarded + 1) } := if_neg h

/-- A delivery to one record that writes only it. -/
theorem record_completed {s : State} {r : Request} {k : TripRecord} {w : State → State}
    (hdeliver : s.deliver r = s.takeRecord k r.generation w) (hw : KeptBut [.store, .trip, .freeIndex] s (w s)) :
    let t := State.present s (s.deliver r).leaveUnit
    KeptBut [.trip, .store, .arith, .freeIndex, .display] s t ∧
      (r.generation ≠ (s.tripView k).generation →
        (∀ j, t.tripView j = s.tripView j) ∧ t.arith.discarded = min 255 (s.arith.discarded + 1)) ∧
      (r.generation = (s.tripView k).generation →
        (∀ j, t.tripView j = (w s).tripView j) ∧ t.arith.discarded = s.arith.discarded) := by
  have hview (j : TripRecord) : (State.present s (s.deliver r).leaveUnit).tripView j = (s.deliver r).tripView j :=
    tripView_congr ((State.present_trip _ _).trans (leaveUnit_kept _).trip)
      ((State.present_store _ _).trans (leaveUnit_kept _).store) j
  have hdiscarded : (State.present s (s.deliver r).leaveUnit).arith.discarded = (s.deliver r).arith.discarded := by
    rw [State.present_arith]
    exact handOver_discarded _
  refine ⟨completed_frame (bs := [.trip, .store, .arith, .freeIndex]) ?_, fun hne => ?_, fun he => ?_⟩
  · rw [hdeliver]
    exact takeRecord_kept _ _ _ (hw.mono (by decide)) (by decide)
  · simp only [hview, hdiscarded]
    rw [hdeliver, takeRecord_other _ hne]
    exact ⟨fun j => tripView_congr rfl rfl j, rfl⟩
  · simp only [hview, hdiscarded]
    rw [hdeliver, takeRecord_own _ he]
    exact ⟨fun _ => rfl, by rw [hw.arith]⟩

/-- Settles O24. -/
theorem recordResultsNeedGeneration : Obligations.RecordResultsNeedGeneration := by
  intro s r k hr hp htarget
  refine ⟨_, exec_complete hr, ?_⟩
  rcases htarget with h | h
  · obtain ⟨hframe, hother, hown⟩ := record_completed (k := k) (w := fun s => s.setEconomy k r.result)
      (by unfold State.deliver; rw [h]) (setEconomy_kept s k r.result)
    have hview := tripView_setEconomy hp r.result_given k
    refine ⟨hframe, hother, fun he => ⟨fun j hj => ?_, (hown he).2, fun _ => ?_, fun h' => by rw [h] at h'; cases h'⟩⟩
    · rw [(hown he).1, hview, if_neg hj]
    · rw [(hown he).1, hview, if_pos rfl]
  · obtain ⟨hframe, hother, hown⟩ := record_completed (k := k) (w := fun s => s.setAverage k r.result)
      (by unfold State.deliver; rw [h]) (setAverage_kept s k r.result)
    have hview := tripView_setAverage hp r.result_given k
    refine ⟨hframe, hother, fun he => ⟨fun j hj => ?_, (hown he).2, (fun h' => by rw [h] at h'; cases h'), fun _ => ?_⟩⟩
    · rw [(hown he).1, hview, if_neg hj]
    · rw [(hown he).1, hview, if_pos rfl]

end Sys2Proof.Machine
end

section
/-! SUPPORT. The 1 s timer by day: the trip time and the trip pass. Settles O18 and O25. -/
namespace Sys2Proof.Machine
set_option Elab.async false

/-! ### The command by day -/

theorem clockSecond_of_day {s : State} (h : ClockInRange s.counting) (hm : ¬s.counting.BeforeMidnight) :
    (s.setCounting { s.counting with secondTimer := 100 }).clockSecond = s.setCounting s.second.1 := by
  obtain ⟨-, -, -, -, -, -, -, hmidnight⟩ := second_of_range h
  rw [clockSecond_eq, if_pos (by simpa using mt hmidnight.mp hm)]

theorem beforeFilter_of_day {s : State} (h : ClockInRange s.counting) (hm : ¬s.counting.BeforeMidnight) :
    s.beforeFilter = (s.setCounting s.second.1).tripSecond := by
  unfold State.beforeFilter
  rw [clockSecond_of_day h hm]

/-- The window counts, which neither the clock nor the filter moves. -/
structure Counting.SameWindow (c d : Counting) : Prop where
  steps : d.windowSteps = c.windowSteps
  fuel : d.windowFuel = c.windowFuel

theorem Counting.SameWindow.trans {c d e : Counting} (h : c.SameWindow d) (k : d.SameWindow e) : c.SameWindow e :=
  ⟨k.steps.trans h.steps, k.fuel.trans h.fuel⟩

theorem second_sameWindow (s : State) : s.counting.SameWindow s.second.1 := by
  unfold State.second Counting.second
  split
  · exact ⟨rfl, rfl⟩
  · split
    · exact ⟨rfl, rfl⟩
    · split <;> exact ⟨rfl, rfl⟩

theorem filterFuel_sameWindow (s : State) : s.counting.SameWindow s.filterFuel.counting := by
  unfold State.filterFuel
  dsimp only
  split
  · split
    · split <;> exact ⟨rfl, rfl⟩
    · exact ⟨rfl, rfl⟩
  · exact ⟨rfl, rfl⟩

/-! ### One operation on all three records -/

theorem onTrips_recordStep {f : State → TripRecord → State} (h : ∀ s r, RecordStep s (f s r)) (s : State) :
    RecordStep s (s.onTrips f) := ((h s .a).trans (h (f s .a) .b)).trans (h (f (f s .a) .b) .journey)

/-- What `f` does to the record it is given, it does to each of the three. -/
theorem tripView_onTrips {f : State → TripRecord → State} {g : TripView → TripView} {s : State}
    (hp : s.store.SystemPresent) (hstep : ∀ s r, RecordStep s (f s r))
    (hview : ∀ s : State, s.store.SystemPresent → ∀ r j : TripRecord,
      (f s r).tripView j = if j = r then g (s.tripView r) else s.tripView j) (r : TripRecord) :
    (s.onTrips f).tripView r = g (s.tripView r) := by
  have ha := (hstep s .a).1 hp
  have hb := (hstep (f s .a) .b).1 ha
  unfold State.onTrips
  rw [hview _ hb, hview _ ha, hview _ ha, hview _ hp, hview _ hp, hview _ hp]
  cases r <;> rfl

/-! ### The trip time -/

theorem tripSecond_recordStep (s : State) : RecordStep s s.tripSecond := by
  unfold State.tripSecond
  split
  · exact onTrips_recordStep (fun s r => addTime_recordStep s r 1) s
  · exact .refl s

theorem tripView_tripSecond {s : State} (hp : s.store.SystemPresent) (r : TripRecord) :
    s.tripSecond.tripView r =
      if s.ign = .run then { s.tripView r with time := min 16777215 ((s.tripView r).time + 1) } else s.tripView r := by
  unfold State.tripSecond
  split
  · exact tripView_onTrips (g := fun v => { v with time := min 16777215 (v.time + 1) }) hp
      (fun s r => addTime_recordStep s r 1) (fun s hs r j => tripView_addTime hs r 1 j) r
  · rfl

/-! ### Requests that the pass has put in the list -/

/-- Nothing waits while the unit is idle. -/
def Arith.Busy (a : Arith) : Prop := a.inFlight = none → a.list = []

theorem outstanding_iff (a : Arith) (t : Target) : a.outstanding t = true ↔ ∃ q ∈ a.requests, q.target = t := by
  unfold Arith.outstanding Arith.requests
  cases a.inFlight with
  | none => simp
  | some r => simp [or_comm]

theorem issue_requests {s : State} (h : s.arith.Busy) (r : Request) :
    (s.issue r).arith.requests = s.arith.requests ++ [r] ∧ (s.issue r).arith.Busy := by
  cases hi : s.arith.inFlight with
  | none =>
    rw [issue_of_idle r hi (h hi)]
    exact ⟨by simp [Arith.requests, hi, h hi], fun k => by cases k⟩
  | some q =>
    rw [issue_of_busy r (by rw [hi]; rfl)]
    exact ⟨by simp [Arith.requests, hi], fun k => by rw [hi] at k; cases k⟩

/-- From `s` to `u` the requests of `l` were asked for, each whose target was not outstanding, all of targets of `ts`. -/
structure Asked (s u : State) (ts : List Target) (l : List Request) : Prop where
  requests : u.arith.requests = s.arith.requests ++ l.filter fun q => !s.arith.outstanding q.target
  busy : u.arith.Busy
  targets : ∀ q ∈ l, q.target ∈ ts

theorem Asked.of_arith {s u : State} (h : u.arith = s.arith) (hb : s.arith.Busy) : Asked s u [] [] :=
  ⟨by simp [h], h ▸ hb, nofun⟩

theorem Asked.outstanding {s u : State} {ts : List Target} {l : List Request} (h : Asked s u ts l) {t : Target} (ht : t ∉ ts) :
    u.arith.outstanding t = s.arith.outstanding t := by
  rw [Bool.eq_iff_iff, outstanding_iff, outstanding_iff, h.requests]
  constructor
  · rintro ⟨q, hq, rfl⟩
    rcases List.mem_append.mp hq with hq | hq
    · exact ⟨q, hq, rfl⟩
    · exact absurd (h.targets q (List.mem_filter.mp hq).1) ht
  · rintro ⟨q, hq, rfl⟩
    exact ⟨q, List.mem_append_left _ hq, rfl⟩

theorem Asked.trans {s u v : State} {ts ts' : List Target} {l m : List Request} (h : Asked s u ts l) (k : Asked u v ts' m)
    (hd : ∀ t ∈ ts', t ∉ ts) : Asked s v (ts ++ ts') (l ++ m) := by
  refine ⟨?_, k.busy, fun q hq => ?_⟩
  · rw [k.requests, h.requests, List.filter_append, List.append_assoc]
    congr 2
    refine List.filter_congr fun q hq => ?_
    rw [h.outstanding (hd _ (k.targets q hq))]
  · rcases List.mem_append.mp hq with hq | hq
    · exact List.mem_append_left _ (h.targets q hq)
    · exact List.mem_append_right _ (k.targets q hq)

theorem passTarget_asked {s : State} {t : Target} {r : Option Request} {clear : State → State} (hb : s.arith.Busy)
    (hr : ∀ q, r = some q → q.target = t) (hc : (clear s).arith = s.arith) :
    Asked s (s.passTarget t r clear) [t] r.toList := by
  unfold State.passTarget
  cases ho : s.arith.outstanding t with
  | true =>
    refine ⟨?_, hb, fun q hq => by simp [hr q (Option.mem_toList.mp hq)]⟩
    rw [if_pos rfl, List.filter_eq_nil_iff.mpr, List.append_nil]
    intro q hq
    rw [hr q (Option.mem_toList.mp hq), ho]
    nofun
  | false =>
    rw [if_neg (by nofun)]
    cases r with
    | none => exact ⟨by simp [hc], by rw [hc]; exact hb, nofun⟩
    | some q =>
      have hq := hr q rfl
      refine ⟨?_, (issue_requests hb q).2, by simp [hq]⟩
      rw [(issue_requests hb q).1, Option.toList_some, List.filter_cons_of_pos (by rw [hq, ho]; rfl), List.filter_nil]

/-! ### The pass over one record -/

theorem passTarget_tripView {s : State} {t : Target} {r : Option Request} {clear : State → State} {p : Prop} [Decidable p]
    (hp : r = none ↔ p) (j : TripRecord) :
    (s.passTarget t r clear).tripView j =
      if s.arith.outstanding t = false ∧ p then (clear s).tripView j else s.tripView j := by
  unfold State.passTarget
  cases s.arith.outstanding t with
  | true => simp
  | false =>
    cases r with
    | none => simp [hp.mp rfl]
    | some q =>
      have : ¬p := fun k => by cases hp.mpr k
      simpa [this] using tripView_congr (issue_kept s q).trip (issue_kept s q).store j

theorem clearEconomy_tripView {s : State} (hp : s.store.SystemPresent) (r j : TripRecord) :
    (if (s.tripView r).economy = .none then s else s.setEconomy r .none).tripView j =
      if j = r then { s.tripView r with economy := .none } else s.tripView j := by
  split
  next h =>
    split
    next hj => rw [hj, ← h]
    next => rfl
  next => exact tripView_setEconomy hp (by simp [Result.Given, Result.value]) r j

theorem clearAverage_tripView {s : State} (hp : s.store.SystemPresent) (r j : TripRecord) :
    (if (s.tripView r).average = .none then s else s.setAverage r .none).tripView j =
      if j = r then { s.tripView r with average := .none } else s.tripView j := by
  split
  next h =>
    split
    next hj => rw [hj, ← h]
    next => rfl
  next => exact tripView_setAverage hp (by simp [Result.Given, Result.value]) r j

theorem passTarget_recordStep {s : State} {t : Target} {r : Option Request} {clear : State → State}
    (h : RecordStep s (clear s)) : RecordStep s (s.passTarget t r clear) := by
  unfold State.passTarget
  split
  · exact .refl s
  · split
    · exact .of_store (issue_kept _ _).store
    · exact h

/-- What the pass makes of a record: a target that is not outstanding and below its threshold becomes NONE. -/
def passedView (a : Arith) (r : TripRecord) (v : TripView) : TripView :=
  { v with
    economy := if a.outstanding (.economy r) = false ∧ v.distance < 50 then .none else v.economy
    average := if a.outstanding (.average r) = false ∧ v.time < 60 then .none else v.average }

def recordAsks (r : TripRecord) (v : TripView) : List Request :=
  (economyRequest r v).toList ++ (averageRequest r v).toList

theorem economyRequest_none (r : TripRecord) (v : TripView) : economyRequest r v = none ↔ v.distance < 50 := by
  unfold economyRequest
  split <;> simp <;> omega

theorem averageRequest_none (r : TripRecord) (v : TripView) : averageRequest r v = none ↔ v.time < 60 := by
  unfold averageRequest
  split <;> simp <;> omega

/-- The first half of the pass over one record. -/
def State.passEconomy (s : State) (r : TripRecord) (v : TripView) : State :=
  s.passTarget (.economy r) (economyRequest r v) fun s => if v.economy = .none then s else s.setEconomy r .none

theorem passRecord_eq (snap s : State) (r : TripRecord) :
    snap.passRecord s r =
      (s.passEconomy r (snap.tripView r)).passTarget (.average r) (averageRequest r (snap.tripView r)) fun s =>
        if (snap.tripView r).average = .none then s else s.setAverage r .none := rfl

theorem passEconomy_recordStep (s : State) (r : TripRecord) (v : TripView) : RecordStep s (s.passEconomy r v) := by
  refine passTarget_recordStep ?_
  split
  · exact .refl s
  · exact setEconomy_recordStep s r .none

theorem passEconomy_arith (s : State) (r : TripRecord) (v : TripView) :
    (if v.economy = .none then s else s.setEconomy r .none).arith = s.arith := by
  split
  · rfl
  · exact (setEconomy_kept s r .none).arith

theorem passAverage_arith (s : State) (r : TripRecord) (v : TripView) :
    (if v.average = .none then s else s.setAverage r .none).arith = s.arith := by
  split
  · rfl
  · exact (setAverage_kept s r .none).arith

section
variable {snap s : State} {r : TripRecord}

theorem passRecord_recordStep : RecordStep s (snap.passRecord s r) := by
  rw [passRecord_eq]
  refine (passEconomy_recordStep s r _).trans (passTarget_recordStep ?_)
  split
  · exact .refl _
  · exact setAverage_recordStep _ r .none

theorem passRecord_asked (hb : s.arith.Busy) :
    Asked s (snap.passRecord s r) [.economy r, .average r] (recordAsks r (snap.tripView r)) := by
  have h1 : Asked s (s.passEconomy r (snap.tripView r)) [.economy r] (economyRequest r (snap.tripView r)).toList :=
    passTarget_asked hb (fun q => economyRequest_target) (passEconomy_arith s r _)
  have h2 : Asked (s.passEconomy r (snap.tripView r)) (snap.passRecord s r) [.average r]
      (averageRequest r (snap.tripView r)).toList := by
    rw [passRecord_eq]
    exact passTarget_asked h1.busy (fun q => averageRequest_target) (passAverage_arith _ r _)
  exact h1.trans h2 (by simp)

theorem passRecord_tripView (hp : s.store.SystemPresent) (hb : s.arith.Busy) (hv : snap.tripView r = s.tripView r)
    (j : TripRecord) :
    (snap.passRecord s r).tripView j = if j = r then passedView s.arith r (s.tripView r) else s.tripView j := by
  have h1 : Asked s (s.passEconomy r (s.tripView r)) [.economy r] (economyRequest r (s.tripView r)).toList :=
    passTarget_asked hb (fun q => economyRequest_target) (passEconomy_arith s r _)
  have heconomy (j : TripRecord) : (s.passEconomy r (s.tripView r)).tripView j =
      if j = r ∧ s.arith.outstanding (.economy r) = false ∧ (s.tripView r).distance < 50 then
        { s.tripView r with economy := .none } else s.tripView j := by
    unfold State.passEconomy
    rw [passTarget_tripView (economyRequest_none r _), clearEconomy_tripView hp]
    by_cases hj : j = r <;> simp [hj]
  have haverage : (s.tripView r).average = ((s.passEconomy r (s.tripView r)).tripView r).average := by
    rw [heconomy]
    split <;> rfl
  rw [passRecord_eq, hv, passTarget_tripView (averageRequest_none r _), h1.outstanding (by simp), haverage,
    clearAverage_tripView ((passEconomy_recordStep s r _).1 hp), heconomy, heconomy]
  unfold passedView
  by_cases hj : j = r
  · subst hj
    by_cases he : s.arith.outstanding (.economy j) = false ∧ (s.tripView j).distance < 50 <;>
      by_cases ha : s.arith.outstanding (.average j) = false ∧ (s.tripView j).time < 60 <;> simp [he, ha]
  · simp [hj]

end

/-! ### The pass -/

theorem passedView_totals (a : Arith) (r : TripRecord) (v : TripView) :
    (passedView a r v).distance = v.distance ∧ (passedView a r v).fuel = v.fuel ∧ (passedView a r v).time = v.time ∧
      (passedView a r v).generation = v.generation := ⟨rfl, rfl, rfl, rfl⟩

/-- The pass over the three records. -/
def State.passRecords (s : State) : State :=
  (s.setCounting { s.counting with windowSteps := 0, windowFuel := 0 }).onTrips s.passRecord

/-- From `s` to `u` the records of `rs` were passed over, the targets of `ts` looked at, the requests of `l` asked for. -/
structure Passed (s u : State) (ts : List Target) (l : List Request) (rs : List TripRecord) : Prop where
  step : RecordStep s u
  asked : Asked s u ts l
  views : ∀ j, u.tripView j = if j ∈ rs then passedView s.arith j (s.tripView j) else s.tripView j

theorem Passed.record {s u : State} {ts : List Target} {l : List Request} {rs : List TripRecord} (h : Passed s u ts l rs)
    (hp : s.store.SystemPresent) (r : TripRecord) (hr : r ∉ rs) (he : .economy r ∉ ts) (ha : .average r ∉ ts) :
    Passed s (s.passRecord u r) (ts ++ [.economy r, .average r]) (l ++ recordAsks r (s.tripView r)) (r :: rs) := by
  have hview : s.tripView r = u.tripView r := by rw [h.views, if_neg hr]
  refine ⟨h.step.trans passRecord_recordStep, h.asked.trans (passRecord_asked h.asked.busy) ?_, fun j => ?_⟩
  · simpa using ⟨he, ha⟩
  · rw [passRecord_tripView (h.step.1 hp) h.asked.busy hview, ← hview, h.views]
    by_cases hj : j = r
    · subst hj
      unfold passedView
      rw [h.asked.outstanding he, h.asked.outstanding ha]
      simp
    · simp [hj]

theorem passRecords_spec {s : State} (hp : s.store.SystemPresent) (hb : s.arith.Busy) :
    Passed s s.passRecords [.economy .a, .average .a, .economy .b, .average .b, .economy .journey, .average .journey]
      (recordAsks .a (s.tripView .a) ++ recordAsks .b (s.tripView .b) ++ recordAsks .journey (s.tripView .journey))
      [.journey, .b, .a] := by
  have h0 : Passed s (s.setCounting { s.counting with windowSteps := 0, windowFuel := 0 }) [] [] [] :=
    ⟨.of_store rfl, .of_arith rfl hb, fun j => tripView_congr rfl rfl j⟩
  have ha := h0.record hp .a (by simp) (by simp) (by simp)
  have hb := ha.record hp .b (by simp) (by simp) (by simp)
  exact hb.record hp .journey (by simp) (by simp) (by simp)

/-- INST and RANGE, which the pass over the records leaves. -/
structure SameRates (s t : State) : Prop where
  inst : t.trip.inst = s.trip.inst
  range : t.trip.range = s.trip.range

theorem SameRates.of_trip {s t : State} (h : t.trip = s.trip) : SameRates s t := ⟨by rw [h], by rw [h]⟩
theorem SameRates.trans {s t u : State} (h : SameRates s t) (k : SameRates t u) : SameRates s u :=
  ⟨k.inst.trans h.inst, k.range.trans h.range⟩

theorem setEconomy_sameRates (s : State) (r : TripRecord) (x : Result) : SameRates s (s.setEconomy r x) := by
  cases r <;> exact ⟨rfl, rfl⟩

theorem setAverage_sameRates (s : State) (r : TripRecord) (x : Result) : SameRates s (s.setAverage r x) := by
  cases r <;> exact ⟨rfl, rfl⟩

theorem passTarget_sameRates {s : State} {t : Target} {r : Option Request} {clear : State → State}
    (h : SameRates s (clear s)) : SameRates s (s.passTarget t r clear) := by
  unfold State.passTarget
  split
  · exact .of_trip rfl
  · split
    · exact .of_trip (issue_kept _ _).trip
    · exact h

theorem passRecord_sameRates (snap s : State) (r : TripRecord) : SameRates s (snap.passRecord s r) := by
  unfold State.passRecord
  refine .trans (t := s.passEconomy r (snap.tripView r)) (passTarget_sameRates ?_) (passTarget_sameRates ?_)
  · split
    · exact .of_trip rfl
    · exact setEconomy_sameRates _ _ _
  · split
    · exact .of_trip rfl
    · exact setAverage_sameRates _ _ _

theorem onTrips_sameRates {f : State → TripRecord → State} (h : ∀ s r, SameRates s (f s r)) (s : State) :
    SameRates s (s.onTrips f) := ((h s .a).trans (h (f s .a) .b)).trans (h (f (f s .a) .b) .journey)

theorem passRecords_sameRates (s : State) : SameRates s s.passRecords :=
  .trans (.of_trip (setCounting_kept _ _).trip) (onTrips_sameRates (passRecord_sameRates s) _)

def State.passInst (s : State) (r : Option Request) : State :=
  s.passTarget .inst r fun s => s.setTrip { s.trip with inst := .none }

def State.passRange (s : State) (r : Option Request) : State :=
  s.passTarget .range r fun s => s.setTrip { s.trip with range := .none }

theorem tripPass_eq (s : State) : s.tripPass = (s.passRecords.passInst s.instRequest).passRange s.rangeRequest := rfl

theorem passInst_trip (s : State) (r : Option Request) {p : Prop} [Decidable p] (hp : r = none ↔ p) :
    (s.passInst r).trip = { s.trip with inst := if s.arith.outstanding .inst = false ∧ p then .none else s.trip.inst } := by
  unfold State.passInst State.passTarget
  cases s.arith.outstanding .inst with
  | true => simp
  | false =>
    cases r with
    | none => simp [hp.mp rfl]
    | some q =>
      have : ¬p := fun k => by cases hp.mpr k
      simpa [this] using (issue_kept s q).trip

theorem passRange_trip (s : State) (r : Option Request) {p : Prop} [Decidable p] (hp : r = none ↔ p) :
    (s.passRange r).trip =
      { s.trip with range := if s.arith.outstanding .range = false ∧ p then .none else s.trip.range } := by
  unfold State.passRange State.passTarget
  cases s.arith.outstanding .range with
  | true => simp
  | false =>
    cases r with
    | none => simp [hp.mp rfl]
    | some q =>
      have : ¬p := fun k => by cases hp.mpr k
      simpa [this] using (issue_kept s q).trip

/-- What the pass shows of a record is its totals and its own two results. -/
theorem tripView_setTrip {s : State} {x : Trip} (h : { s.trip with inst := x.inst, range := x.range } = x) (j : TripRecord) :
    (s.setTrip x).tripView j = s.tripView j := by
  rw [← h]
  cases j <;> rfl

theorem passInst_tripView (s : State) (r : Option Request) (j : TripRecord) : (s.passInst r).tripView j = s.tripView j := by
  unfold State.passInst State.passTarget
  split
  · rfl
  · split
    · exact tripView_congr (issue_kept s _).trip (issue_kept s _).store j
    · exact tripView_setTrip rfl j

theorem passRange_tripView (s : State) (r : Option Request) (j : TripRecord) : (s.passRange r).tripView j = s.tripView j := by
  unfold State.passRange State.passTarget
  split
  · rfl
  · split
    · exact tripView_congr (issue_kept s _).trip (issue_kept s _).store j
    · exact tripView_setTrip rfl j

theorem instRequest_none (s : State) : s.instRequest = none ↔ s.counting.windowSteps < 3 := by
  unfold State.instRequest
  split <;> simp <;> omega

theorem rangeRequest_none (s : State) : s.rangeRequest = none ↔ s.counting.fuel = none := by
  unfold State.rangeRequest
  cases s.counting.fuel <;> simp

theorem passInst_asked {s : State} (hb : s.arith.Busy) {r : Option Request} (hr : ∀ q, r = some q → q.target = .inst) :
    Asked s (s.passInst r) [.inst] r.toList := passTarget_asked hb hr rfl

theorem passRange_asked {s : State} (hb : s.arith.Busy) {r : Option Request} (hr : ∀ q, r = some q → q.target = .range) :
    Asked s (s.passRange r) [.range] r.toList := passTarget_asked hb hr rfl

theorem passInst_recordStep (s : State) (r : Option Request) : RecordStep s (s.passInst r) :=
  passTarget_recordStep (.of_store rfl)

theorem passRange_recordStep (s : State) (r : Option Request) : RecordStep s (s.passRange r) :=
  passTarget_recordStep (.of_store rfl)

/-- All that the pass asks for, in its order. -/
def State.passAsks (s : State) : List Request :=
  recordAsks .a (s.tripView .a) ++ recordAsks .b (s.tripView .b) ++ recordAsks .journey (s.tripView .journey) ++
    s.instRequest.toList ++ s.rangeRequest.toList

/-- The pass: its requests, the results that become NONE, and what it leaves. -/
theorem tripPass_spec {s : State} (hp : s.store.SystemPresent) (hb : s.arith.Busy) :
    RecordStep s s.tripPass ∧
      s.tripPass.arith.requests = s.arith.requests ++ s.passAsks.filter (fun q => !s.arith.outstanding q.target) ∧
      (∀ r, s.tripPass.tripView r = passedView s.arith r (s.tripView r)) ∧
      s.tripPass.trip.inst =
        (if s.arith.outstanding .inst = false ∧ s.counting.windowSteps < 3 then .none else s.trip.inst) ∧
      s.tripPass.trip.range =
        (if s.arith.outstanding .range = false ∧ s.counting.fuel = none then .none else s.trip.range) := by
  have hrecords := passRecords_spec hp hb
  have hinst := hrecords.asked.trans
    (passInst_asked hrecords.asked.busy fun q => instRequest_target (s := s)) (by simp)
  have hrange := hinst.trans (passRange_asked hinst.busy fun q => rangeRequest_target (s := s)) (by simp)
  have hrates := passRecords_sameRates s
  have houtInst := hrecords.asked.outstanding (t := .inst) (by simp)
  have houtRange : (s.passRecords.passInst s.instRequest).arith.outstanding .range = s.arith.outstanding .range :=
    hinst.outstanding (by simp)
  refine ⟨?_, ?_, fun r => ?_, ?_, ?_⟩
  · exact (hrecords.step.trans (passInst_recordStep _ _)).trans (passRange_recordStep _ _)
  · exact hrange.requests
  · rw [tripPass_eq, passRange_tripView, passInst_tripView, hrecords.views, if_pos (by cases r <;> simp)]
  · rw [tripPass_eq, passRange_trip _ _ (rangeRequest_none s), passInst_trip _ _ (instRequest_none s), houtInst, hrates.inst]
  · rw [tripPass_eq, passRange_trip _ _ (rangeRequest_none s), houtRange, passInst_trip _ _ (instRequest_none s),
      hrates.range]

end Sys2Proof.Machine
end

section
/-! SUPPORT. The 1 s timer by day, taken together. Settles O18 and O25. -/
namespace Sys2Proof.Machine
set_option Elab.async false

/-! ### What the pass leaves of the records, whatever waits for the unit -/

/-- The record views without their results. -/
def SameTotals (s u : State) : Prop :=
  ∀ j, (u.tripView j).distance = (s.tripView j).distance ∧ (u.tripView j).fuel = (s.tripView j).fuel ∧
    (u.tripView j).time = (s.tripView j).time ∧ (u.tripView j).generation = (s.tripView j).generation

theorem SameTotals.of_eq {s u : State} (h : ∀ j, u.tripView j = s.tripView j) : SameTotals s u := fun j => by
  rw [h]
  exact ⟨rfl, rfl, rfl, rfl⟩

theorem SameTotals.trans {s t u : State} (h : SameTotals s t) (k : SameTotals t u) : SameTotals s u := fun j => by
  obtain ⟨h1, h2, h3, h4⟩ := h j
  obtain ⟨k1, k2, k3, k4⟩ := k j
  exact ⟨k1.trans h1, k2.trans h2, k3.trans h3, k4.trans h4⟩

theorem passTarget_sameTotals {s : State} {t : Target} {r : Option Request} {clear : State → State}
    (h : SameTotals s (clear s)) : SameTotals s (s.passTarget t r clear) := by
  unfold State.passTarget
  split
  · exact .of_eq fun _ => rfl
  · split
    · exact .of_eq fun j => tripView_congr (issue_kept s _).trip (issue_kept s _).store j
    · exact h

theorem setEconomy_sameTotals {s : State} (hp : s.store.SystemPresent) (r : TripRecord) :
    SameTotals s (s.setEconomy r .none) := fun j => by
  rw [tripView_setEconomy hp (by simp [Result.Given, Result.value])]
  split
  next h => rw [h]; exact ⟨rfl, rfl, rfl, rfl⟩
  next => exact ⟨rfl, rfl, rfl, rfl⟩

theorem setAverage_sameTotals {s : State} (hp : s.store.SystemPresent) (r : TripRecord) :
    SameTotals s (s.setAverage r .none) := fun j => by
  rw [tripView_setAverage hp (by simp [Result.Given, Result.value])]
  split
  next h => rw [h]; exact ⟨rfl, rfl, rfl, rfl⟩
  next => exact ⟨rfl, rfl, rfl, rfl⟩

theorem passRecord_sameTotals {snap s : State} (hp : s.store.SystemPresent) (r : TripRecord) :
    SameTotals s (snap.passRecord s r) := by
  rw [passRecord_eq]
  refine .trans (t := s.passEconomy r (snap.tripView r)) (passTarget_sameTotals ?_) (passTarget_sameTotals ?_)
  · split
    · exact .of_eq fun _ => rfl
    · exact setEconomy_sameTotals hp r
  · split
    · exact .of_eq fun _ => rfl
    · exact setAverage_sameTotals ((passEconomy_recordStep s r _).1 hp) r

theorem passRecords_recordStep (s : State) : RecordStep s s.passRecords :=
  .trans (.of_store (setCounting_kept s _).store) (onTrips_recordStep (fun _ _ => passRecord_recordStep) _)

theorem tripPass_recordStep (s : State) : RecordStep s s.tripPass :=
  ((passRecords_recordStep s).trans (passInst_recordStep _ _)).trans (passRange_recordStep _ _)

theorem onTrips_sameTotals {f : State → TripRecord → State} (hstep : ∀ s r, RecordStep s (f s r))
    (h : ∀ s r, s.store.SystemPresent → SameTotals s (f s r)) {s : State} (hp : s.store.SystemPresent) :
    SameTotals s (s.onTrips f) := by
  have ha := (hstep s .a).1 hp
  exact ((h s .a hp).trans (h _ .b ha)).trans (h _ .journey ((hstep _ .b).1 ha))

theorem tripPass_sameTotals {s : State} (hp : s.store.SystemPresent) : SameTotals s s.tripPass := by
  have hrecords : SameTotals s s.passRecords :=
    .trans (.of_eq fun j => tripView_congr (setCounting_kept s _).trip (setCounting_kept s _).store j)
      (onTrips_sameTotals (fun _ _ => passRecord_recordStep) (fun _ r hs => passRecord_sameTotals hs r) hp)
  rw [tripPass_eq]
  exact (hrecords.trans (.of_eq fun j => passInst_tripView _ _ j)).trans (.of_eq fun j => passRange_tripView _ _ j)

theorem passDue_recordStep (s : State) : RecordStep s s.passDue := by
  unfold State.passDue
  split
  · exact tripPass_recordStep s
  · exact .refl s

theorem passDue_sameTotals {s : State} (hp : s.store.SystemPresent) : SameTotals s s.passDue := by
  unfold State.passDue
  split
  · exact tripPass_sameTotals hp
  · exact .of_eq fun _ => rfl

/-! ### The command by day -/

/-- The state that the trip pass meets within the 1 s timer's command. -/
def State.beforePass (s : State) : State := s.beforeFilter.filterFuel

section
variable {s : State}

theorem beforePass_kept (h : ClockInRange s.counting) (hm : ¬s.counting.BeforeMidnight) :
    KeptBut [.counting, .store, .trip] s s.beforePass := by
  unfold State.beforePass
  rw [beforeFilter_of_day h hm]
  exact ((setCounting_kept s _).andThen (cs := [.counting, .store, .trip]) (tripSecond_kept _)).andThen (filterFuel_kept _)

theorem beforePass_recordStep (h : ClockInRange s.counting) (hm : ¬s.counting.BeforeMidnight) :
    RecordStep s s.beforePass := by
  unfold State.beforePass
  rw [beforeFilter_of_day h hm]
  exact ((RecordStep.of_store (setCounting_kept s _).store).trans (tripSecond_recordStep _)).trans
    (.of_store (filterFuel_kept _).store)

theorem beforePass_tripView (h : ClockInRange s.counting) (hm : ¬s.counting.BeforeMidnight) (hp : s.store.SystemPresent)
    (r : TripRecord) :
    s.beforePass.tripView r =
      if s.ign = .run then { s.tripView r with time := min 16777215 ((s.tripView r).time + 1) } else s.tripView r := by
  unfold State.beforePass
  rw [tripView_congr (filterFuel_kept _).trip (filterFuel_kept _).store, beforeFilter_of_day h hm]
  exact tripView_tripSecond (s := s.setCounting s.second.1) hp r

theorem beforePass_sameWindow (h : ClockInRange s.counting) (hm : ¬s.counting.BeforeMidnight) :
    s.counting.SameWindow s.beforePass.counting := by
  unfold State.beforePass
  rw [beforeFilter_of_day h hm]
  have hfilter := filterFuel_sameWindow (s.setCounting s.second.1).tripSecond
  rw [(tripSecond_kept _).counting] at hfilter
  exact (second_sameWindow s).trans hfilter

theorem tripSecond_sameRates (s : State) : SameRates s s.tripSecond := by
  unfold State.tripSecond
  split
  · exact onTrips_sameRates (fun s r => by cases r <;> exact ⟨rfl, rfl⟩) s
  · exact .of_trip rfl

theorem beforePass_sameRates (h : ClockInRange s.counting) (hm : ¬s.counting.BeforeMidnight) :
    SameRates s s.beforePass := by
  unfold State.beforePass
  rw [beforeFilter_of_day h hm]
  exact ((SameRates.of_trip (setCounting_kept s _).trip).trans (tripSecond_sameRates _)).trans
    (.of_trip (filterFuel_kept _).trip)

/-- By day, with the store at rest, the command's end leaves the records, their requests and the counts to the pass. -/
theorem second_afterPass (hr : s.store.AtRest) (h : ClockInRange s.counting) (hm : ¬s.counting.BeforeMidnight) :
    let t := State.present s s.beforeFilter.filterFuel.passDue.rearPageDue.settleStore
    let u := s.beforePass.passDue
    t.counting = u.counting ∧ t.arith = u.arith ∧ t.trip = u.trip ∧ t.store = u.store ∧
      KeptBut [.counting, .arith, .trip, .store, .line, .handler, .freeIndex, .display] s t := by
  intro t u
  have hkept := beforePass_kept h hm
  have hbefore := beforePass_recordStep h hm
  have hpass : RecordStep s u := hbefore.trans (passDue_recordStep _)
  have hsettled : u.rearPageDue.settleStore = u.rearPageDue :=
    settleStore_of_store (settled_atRest (hpass.2.2 hr)) (rearPageDue_kept u).store
  have ht : t = State.present s u.rearPageDue := congrArg (State.present s) hsettled
  have hdue : KeptBut passBlocks s.beforePass u := KeptBut.ite (tripPass_kept _) (.refl _ _)
  have hall : KeptBut [.counting, .arith, .trip, .store, .line, .handler, .freeIndex] s u.rearPageDue :=
    (hkept.andThen (cs := [.counting, .arith, .trip, .store, .line, .handler, .freeIndex]) hdue).andThen (rearPageDue_kept u)
  have hchoice : SameChoice s u.rearPageDue := by rw [← hsettled]; exact oneSecond_sameChoice s
  rw [ht]
  exact ⟨(State.present_counting _ _).trans (rearPageDue_kept u).counting, (State.present_arith _ _).trans (rearPageDue_kept u).arith,
    (State.present_trip _ _).trans (rearPageDue_kept u).trip, (State.present_store _ _).trans (rearPageDue_kept u).store,
    present_frame_choice hall hchoice⟩

end

/-- Settles O18: the second of each record in RUN, which the pass and 42h leave. -/
theorem tripTimeAdvances : Obligations.TripTimeAdvances := by
  intro s hr hp h hm
  refine ⟨_, exec_oneSecondTimer s, ?_⟩
  obtain ⟨-, -, htrip, hstore, hframe⟩ := second_afterPass hr h hm
  have hbefore := beforePass_recordStep h hm
  have htotals := passDue_sameTotals (hbefore.1 hp)
  have hview := beforePass_tripView h hm hp
  simp only [tripView_congr htrip hstore]
  refine ⟨fun hrun r => ?_, fun hno r => ?_, fun r => ?_, ?_, hframe⟩
  · rw [(htotals r).2.2.1, hview, if_pos hrun]
  · rw [(htotals r).2.2.1, hview, if_neg hno]
  · obtain ⟨hdistance, hfuel, -, hgeneration⟩ := htotals r
    rw [hdistance, hfuel, hgeneration, hview]
    split <;> exact ⟨rfl, rfl, rfl⟩
  · rw [hstore, (passDue_recordStep _).2.1, hbefore.2.1]

/-! ### What the pass asks for, as the requirement lists it -/

theorem recordAsks_eq (r : TripRecord) (v : TripView) :
    recordAsks r v =
      (if 50 ≤ v.distance then [tripRequest (.economy r) v.fuel 100 v.distance v.generation] else []) ++
      (if 60 ≤ v.time then [tripRequest (.average r) v.distance 360 v.time v.generation] else []) := by
  unfold recordAsks economyRequest averageRequest
  split <;> split <;> rfl

theorem instRequest_list (s : State) :
    s.instRequest.toList =
      if 3 ≤ s.counting.windowSteps then [tripRequest .inst s.counting.windowFuel 100 s.counting.windowSteps 0] else [] := by
  unfold State.instRequest
  split <;> rfl

/-- RANGE's K reads JOURNEY's economy alike before the pass and after it: what the pass makes NONE is below 500 steps. -/
theorem rangeRequest_list {s u : State} (hd : u.trip.distance = s.trip.distance)
    (he : u.trip.economy = s.trip.economy ∨ (u.trip.economy = .none ∧ s.trip.distance < 500)) :
    s.rangeRequest.toList =
      match s.counting.fuel, u.trip.economy with
      | some f, .valid e => [tripRequest .range f 100 (if 500 ≤ u.trip.distance then e else s.cal.economy) 0]
      | some f, _ => [tripRequest .range f 100 s.cal.economy 0]
      | none, _ => [] := by
  unfold State.rangeRequest State.rangeEconomy
  rw [hd]
  cases s.counting.fuel with
  | none => rfl
  | some f =>
    rcases he with he | ⟨he, hlow⟩
    · rw [he]
      cases s.trip.economy <;> rfl
    · rw [he]
      cases s.trip.economy with
      | valid e =>
        dsimp only [Option.map_some]
        rw [if_neg (by omega)]
        rfl
      | saturated e => rfl
      | none => rfl

/-- Settles O25. -/
theorem tripPassAsks : Obligations.TripPassAsks := by
  intro s hkeys hr hp h hm hserved
  refine ⟨_, exec_oneSecondTimer s, ?_⟩
  obtain ⟨hcounting, harith, htrip, hstore, hframe⟩ := second_afterPass hr h hm
  have hkept := beforePass_kept h hm
  have hbefore := beforePass_recordStep h hm
  have hdue : s.beforePass.passDue = s.beforePass.tripPass := if_pos (by rw [hkept.ign]; exact hkeys)
  have hbusy : s.beforePass.arith.Busy := by rw [hkept.arith]; exact hserved.2
  obtain ⟨-, hrequests, hviews, hinst, hrange⟩ := tripPass_spec (hbefore.1 hp) hbusy
  rw [hdue] at hcounting harith htrip hstore
  have hview (r : TripRecord) :
      (State.present s s.beforeFilter.filterFuel.passDue.rearPageDue.settleStore).tripView r =
        passedView s.arith r (s.beforePass.tripView r) := by
    rw [tripView_congr htrip hstore, hviews, hkept.arith]
  have hresults (r : TripRecord) : (s.beforePass.tripView r).economy = (s.tripView r).economy ∧
      (s.beforePass.tripView r).average = (s.tripView r).average := by
    rw [beforePass_tripView h hm hp]
    split <;> exact ⟨rfl, rfl⟩
  have hwindow := beforePass_sameWindow h hm
  have hrates := beforePass_sameRates h hm
  have hfuel := congrArg Counting.fuel (hcounting.trans (tripPass_counting _))
  have hjourney := hview .journey
  have hrangeList := rangeRequest_list (s := s.beforePass)
    (u := State.present s s.beforeFilter.filterFuel.passDue.rearPageDue.settleStore)
    (congrArg TripView.distance hjourney) (by
      rw [show (State.present s s.beforeFilter.filterFuel.passDue.rearPageDue.settleStore).trip.economy =
        (passedView s.arith .journey (s.beforePass.tripView .journey)).economy from congrArg TripView.economy hjourney]
      unfold passedView
      dsimp only
      split
      next hlow => exact .inr ⟨rfl, Nat.lt_trans hlow.2 (by decide)⟩
      next => exact .inl rfl)
  refine ⟨congrArg Counting.windowSteps (hcounting.trans (tripPass_counting _)),
    congrArg Counting.windowFuel (hcounting.trans (tripPass_counting _)), ?_, fun r => ?_, ?_, ?_, hframe⟩
  · dsimp only
    rw [harith, hrequests, hkept.arith]
    unfold State.passAsks
    rw [hrangeList, recordAsks_eq, recordAsks_eq, recordAsks_eq, instRequest_list, hwindow.steps, hwindow.fuel, hview, hview, hview,
      hkept.cal, hfuel]
    rfl
  · rw [hview, ← (hresults r).1, ← (hresults r).2]
    exact ⟨rfl, rfl⟩
  · rw [htrip, hinst, hkept.arith, hwindow.steps, hrates.inst]
  · rw [htrip, hrange, hkept.arith, hfuel, hrates.range]

end Sys2Proof.Machine
end

section
/-! SUPPORT. The distance step and the odometer. Settles O14 and O15. -/
namespace Sys2Proof.Machine
set_option Elab.async false

/-! ### The step's own counts -/

/-- The counts of a pulse that brings the divider to D, before its step. -/
def Counting.stepping (c : Counting) : Counting := { c.pulsed with stepCount := 0 }

theorem acceptPulse_step {s : State} {e : Nat} (h : s.cal.divisor ≤ s.counting.stepCount + 1) :
    (s.setCounting (s.counting.later e)).acceptPulse = (s.setCounting s.counting.stepping).distanceStep := by
  rw [acceptPulse_later, if_pos h]
  rfl

/-- The state of a step after its counts and the latch, before the odometer. -/
def State.stepped (s : State) : State :=
  (s.setCounting s.counting.stepping.step).setStore { s.store with latch := true }

theorem stepped_kept (s : State) : KeptBut [.counting, .store] s s.stepped :=
  (setCounting_kept _ _).andThen (setStore_kept _ _)

def State.gainDistance (s : State) : State := s.onTrips fun s r => s.addDistance r 1

theorem gainDistance_kept (s : State) : KeptBut [.store, .trip] s s.gainDistance :=
  onTrips_kept (fun s r => addDistance_kept s r 1) s

theorem gainDistance_recordStep (s : State) : RecordStep s s.gainDistance :=
  onTrips_recordStep (fun s r => addDistance_recordStep s r 1) s

theorem tripView_gainDistance {s : State} (hp : s.store.SystemPresent) (r : TripRecord) :
    s.gainDistance.tripView r = { s.tripView r with distance := min 16777215 ((s.tripView r).distance + 1) } :=
  tripView_onTrips (g := fun v => { v with distance := min 16777215 (v.distance + 1) }) hp
    (fun s r => addDistance_recordStep s r 1) (fun _ hs r j => tripView_addDistance hs r 1 j) r

theorem gainDistance_store (s : State) :
    s.gainDistance.store = (s.store.update 1 (gainTotal 0 1)).update 2 (gainTotal 0 1) := rfl

theorem gainDistance_trip (s : State) :
    s.gainDistance.trip = { s.trip with distance := min 16777215 (s.trip.distance + 1) } := rfl

theorem distanceStep_eq (s : State) :
    (s.setCounting s.counting.stepping).distanceStep =
      if 99 ≤ s.counting.serviceSub then
        (if 9 ≤ s.counting.odometerSub then s.stepped.gainOdometer else s.stepped).gainDistance.countdown true
      else (if 9 ≤ s.counting.odometerSub then s.stepped.gainOdometer else s.stepped).gainDistance := rfl

theorem gainDistance_sameChoice (s : State) : SameChoice s s.gainDistance :=
  onTrips_sameChoice (fun s r => addDistance_sameChoice s r 1) s

/-- Settles O14: the counts of `stepped` and the records' distance. -/
theorem distanceStepCounts : Obligations.DistanceStepCounts := by
  intro e s haccept hdivider hodometer hservice hr hp
  have hstep : (s.setCounting (s.counting.later e)).acceptPulse = s.stepped.gainDistance := by
    rw [acceptPulse_step hdivider, distanceStep_eq, if_neg (by omega), if_neg (by omega)]
  have hrest : s.stepped.store.AtRest := hr
  have hsettle : s.stepped.gainDistance.settleStore = s.stepped.gainDistance :=
    settleStore_settled (settled_atRest ((gainDistance_recordStep _).2.2 hrest))
  refine ⟨_, exec_speedPulse_accepted haccept, ?_⟩
  rw [hstep, hsettle]
  refine ⟨?_, fun r => ?_, (State.present_store _ _).trans (gainDistance_store _), fun b h1 h2 => ?_,
    (State.present_trip _ _).trans (gainDistance_trip _), ?_⟩
  · rw [State.present_counting, (gainDistance_kept _).counting]
    change Counting.step s.counting.stepping = _
    unfold Counting.step
    rw [if_neg (show ¬9 ≤ s.counting.stepping.odometerSub from Nat.not_le.mpr hodometer),
      if_neg (show ¬99 ≤ s.counting.stepping.serviceSub from Nat.not_le.mpr hservice)]
    rfl
  · rw [tripView_congr (State.present_trip _ _) (State.present_store _ _), tripView_gainDistance (s := s.stepped) hp]
    rw [show s.stepped.tripView r = s.tripView r by cases r <;> rfl]
  · rw [State.present_store, gainDistance_store, dataOf_update_ne _ h2, dataOf_update_ne _ h1]
    rfl
  · exact present_frame_choice (bs := [.counting, .trip, .store])
      ((stepped_kept s).andThen (gainDistance_kept _))
      (.trans (.of_kept (stepped_kept s)) (gainDistance_sameChoice _))

/-! ### The odometer -/

theorem odometerTop_lt {v : Nat} (h : v < odometerTop) : v + 1 < 16777216 := by
  unfold odometerTop at h
  omega

theorem putOdometer_length {v : Nat} {bs : List Byte} (h : bs.length = 15) : (putOdometer v bs).length = 15 := by
  unfold putOdometer
  rw [splice_length (by simp [h]), h]

theorem putOdometer_state {v : Nat} {bs : List Byte} (h : bs.length = 15) : byteAt (putOdometer v bs) 3 = byteAt bs 3 :=
  byteAt_splice_of_ge (by simp) (by omega)

theorem putOdometer_value {v : Nat} {bs : List Byte} (hv : v < 16777216) (h : bs.length = 15) :
    tripleAt (putOdometer v bs) 0 = v := tripleAt_splice_same hv (by omega)

/-- What an increment leaves of block 0 and the others, and where it puts the checkpoint's order. -/
structure OdometerGain (s t : State) : Prop where
  kept : KeptBut [.counting, .store] s t
  present : t.store.SystemPresent
  others : ∀ b, b ≠ 0 → t.store.dataOf b = s.store.dataOf b
  reads : ∀ b, t.store.presentLine b = s.store.presentLine b
  state : byteAt (t.store.dataOf 0) 3 = byteAt (s.store.dataOf 0) 3
  value : t.store.odometerValue = s.store.odometerValue + if s.store.odometerValue < 9999999 then 1 else 0
  counting : t.counting = { s.counting with
    checkpoint := if s.store.odometerValue < 9999999 then
      (if s.counting.checkpoint ≤ 1 then 100 else s.counting.checkpoint - 1) else s.counting.checkpoint }
  latch : t.store.latch = s.store.latch
  drive : t.store.pwrGood = s.store.pwrGood ∧ t.store.nvFault = s.store.nvFault
  idle : s.store.AtRest → ¬(s.store.odometerValue < 9999999 ∧ s.counting.checkpoint ≤ 1) → t.store.AtRest
  ordered : s.store.AtRest → s.store.odometerValue < 9999999 → s.counting.checkpoint ≤ 1 →
    t.store.orders = [.single 0 false none] ∧ t.store.op = none ∧ t.store.waiting = [] ∧ t.store.task = .none
  dirty : (∀ i, (s.store.line i).state ≠ .writing) → ∀ i, s.store.presentLine 0 = some i → (t.store.line i).state = .dirty

theorem update_gain {s : State} (f : List Byte → List Byte) (hp : s.store.SystemPresent)
    (hf : ∀ l : List Byte, l.length = 15 → (f l).length = 15) :
    (s.update 0 f).store.SystemPresent ∧ (∀ b, b ≠ 0 → (s.update 0 f).store.dataOf b = s.store.dataOf b) ∧
      (s.update 0 f).store.dataOf 0 = f (s.store.dataOf 0) :=
  ⟨systemPresent_update hp hf, fun _ hb => dataOf_update_ne f hb, dataOf_update_same f hp.1.1⟩

theorem place_lines (st : Store) (o : Order) : (st.place o).lines = st.lines ∧ (st.place o).latch = st.latch ∧
    (st.place o).pwrGood = st.pwrGood ∧ (st.place o).nvFault = st.nvFault := by
  unfold Store.place
  split
  · exact ⟨rfl, rfl, rfl, rfl⟩
  · split <;> exact ⟨rfl, rfl, rfl, rfl⟩

theorem presentLine_of_lines {st u : Store} (h : u.lines = st.lines) (b : Nat) : u.presentLine b = st.presentLine b := by
  unfold Store.presentLine Store.find Store.line
  rw [h]

theorem dataOf_of_lines {st u : Store} (h : u.lines = st.lines) (b : Nat) : u.dataOf b = st.dataOf b := by
  unfold Store.dataOf Store.line
  rw [presentLine_of_lines h, h]

theorem line_of_lines {st u : Store} (h : u.lines = st.lines) (i : Nat) : u.line i = st.line i := by
  unfold Store.line
  rw [h]

theorem holds_of_lines {st u : Store} (h : u.lines = st.lines) {b : Nat} (k : st.Holds b) : u.Holds b :=
  ⟨by unfold Store.present; rw [presentLine_of_lines h]; exact k.1, by rw [dataOf_of_lines h]; exact k.2⟩

theorem systemPresent_of_lines {st u : Store} (h : u.lines = st.lines) (k : st.SystemPresent) : u.SystemPresent :=
  ⟨holds_of_lines h k.1, holds_of_lines h k.2.1, holds_of_lines h k.2.2⟩

theorem update_fields (st : Store) (b : Nat) (f : List Byte → List Byte) :
    (st.update b f).latch = st.latch ∧ (st.update b f).pwrGood = st.pwrGood ∧ (st.update b f).nvFault = st.nvFault := by
  unfold Store.update
  split
  · exact ⟨rfl, rfl, rfl⟩
  · exact ⟨rfl, rfl, rfl⟩

theorem odometerValue_of_data {st : Store} {d : List Byte} (h : st.dataOf 0 = d) : st.odometerValue = tripleAt d 0 :=
  congrArg (tripleAt · 0) h

theorem gainOdometer_spec {s : State} (hp : s.store.SystemPresent) : OdometerGain s s.gainOdometer := by
  have hkept := gainOdometer_kept s
  have hlength : (s.store.dataOf 0).length = 15 := hp.1.2
  unfold State.gainOdometer at hkept ⊢
  by_cases htop : odometerTop ≤ s.store.odometerValue
  · rw [if_pos htop] at hkept ⊢
    have hno : ¬s.store.odometerValue < 9999999 := by unfold odometerTop at htop; omega
    obtain ⟨hpresent, hothers, hdata⟩ := update_gain (s := s) id hp fun _ h => h
    exact
      { kept := hkept, present := hpresent, others := hothers
        reads := fun b => presentLine_update _ _ _ b
        state := by rw [hdata]; rfl
        value := by rw [if_neg hno, Nat.add_zero, odometerValue_of_data hdata]; rfl
        counting := by rw [if_neg hno]; rfl
        latch := (update_fields _ _ _).1
        drive := (update_fields _ _ _).2
        idle := fun hr _ => atRest_update hr _ _
        ordered := fun _ h => absurd h hno
        dirty := fun hw i hi => update_dirty hw _ hi }
  · have hlt : s.store.odometerValue < 9999999 := Nat.lt_of_not_le htop
    obtain ⟨hpresent, hothers, hdata⟩ := update_gain (s := s) (putOdometer (s.store.odometerValue + 1)) hp
      fun _ h => putOdometer_length h
    rw [if_neg htop] at hkept ⊢
    dsimp only at hkept ⊢
    have hvalue : (s.update 0 (putOdometer (s.store.odometerValue + 1))).store.odometerValue = s.store.odometerValue + 1 := by
      rw [odometerValue_of_data hdata, putOdometer_value (by omega) hlength]
    have hstate : byteAt ((s.update 0 (putOdometer (s.store.odometerValue + 1))).store.dataOf 0) 3 =
        byteAt (s.store.dataOf 0) 3 := by rw [hdata, putOdometer_state hlength]
    have hdirty (hw : ∀ i, (s.store.line i).state ≠ .writing) (i : Nat) (hi : s.store.presentLine 0 = some i) :=
      update_dirty hw (putOdometer (s.store.odometerValue + 1)) hi
    have hfields := update_fields s.store 0 (putOdometer (s.store.odometerValue + 1))
    have hreads := presentLine_update s.store 0 (putOdometer (s.store.odometerValue + 1))
    have hrest (hr : s.store.AtRest) := atRest_update hr 0 (putOdometer (s.store.odometerValue + 1))
    by_cases hc : s.counting.checkpoint ≤ 1
    · rw [if_pos hc] at hkept ⊢
      obtain ⟨hlines, hlatch, hgood, hfault⟩ :=
        place_lines (s.update 0 (putOdometer (s.store.odometerValue + 1))).store (.single 0 false none)
      exact
        { kept := hkept
          present := systemPresent_of_lines hlines hpresent
          others := fun b hb => (dataOf_of_lines hlines b).trans (hothers b hb)
          reads := fun b => (presentLine_of_lines hlines b).trans (hreads b)
          state := (congrArg (byteAt · 3) (dataOf_of_lines hlines 0)).trans hstate
          value := by rw [if_pos hlt]; exact (congrArg (tripleAt · 0) (dataOf_of_lines hlines 0)).trans hvalue
          counting := by rw [if_pos hlt, if_pos hc]; rfl
          latch := hlatch.trans hfields.1
          drive := ⟨hgood.trans hfields.2.1, hfault.trans hfields.2.2⟩
          idle := fun _ h => absurd ⟨hlt, hc⟩ h
          ordered := fun hr _ _ => by
            obtain ⟨-, hop, hwaiting, htask⟩ := hrest hr
            have hplace := place_atRest (hrest hr) (.single 0 false none)
            exact ⟨congrArg Store.orders hplace, (congrArg Store.op hplace).trans hop,
              (congrArg Store.waiting hplace).trans hwaiting, (congrArg Store.task hplace).trans htask⟩
          dirty := fun hw i hi => (congrArg CacheLine.state (line_of_lines hlines i)).trans (hdirty hw i hi) }
    · rw [if_neg hc] at hkept ⊢
      exact
        { kept := hkept, present := hpresent, others := hothers, reads := hreads, state := hstate
          value := by rw [if_pos hlt]; exact hvalue
          counting := by rw [if_pos hlt, if_neg hc]; rfl
          latch := hfields.1
          drive := hfields.2
          idle := fun hr _ => hrest hr
          ordered := fun _ _ h => absurd h hc
          dirty := hdirty }

/-- The checkpoint's write of block 0, begun or held up: it leaves what a read of any block gives. -/
theorem settle_checkpoint {st : Store} {i : Nat} (ho : st.orders = [.single 0 false none]) (hop : st.op = none)
    (hw : st.waiting = []) (ht : st.task = .none) (hi : st.presentLine 0 = some i) (hd : (st.line i).state = .dirty) :
    ∃ u, st.settle settleFuel = (u, none) ∧ (∀ c, u.presentLine c = st.presentLine c ∧ u.dataOf c = st.dataOf c) ∧
      (st.pwrGood = true → st.nvFault = false → u = st.startWrite i .single) := by
  have hfind := (presentLine_eq_some.mp hi).1
  by_cases hgo : st.pwrGood = true ∧ st.nvFault = false
  · exact ⟨_, settle_single ho hop hw ht hgo.1 hgo.2 hfind hd 62, startWrite_reads hi .single, fun _ _ => rfl⟩
  · have hstop : st.pwrGood = false ∨ st.nvFault = true := by
      cases hg : st.pwrGood with
      | false => exact .inl rfl
      | true =>
        cases hf : st.nvFault with
        | false => exact absurd ⟨hg, hf⟩ hgo
        | true => exact .inr rfl
    refine ⟨_, settle_single_stopped ho hop hw ht hstop hfind hd 62, fun c => ?_, fun hg hf => absurd ⟨hg, hf⟩ hgo⟩
    split
    · exact ⟨presentLine_of_lines rfl c, dataOf_of_lines rfl c⟩
    · exact ⟨rfl, rfl⟩

theorem settleStore_of_settle {s : State} {u : Store} (h : s.store.settle settleFuel = (u, none)) :
    s.settleStore = s.setStore u := by
  unfold State.settleStore
  rw [h]

theorem gainDistance_rest (s : State) :
    s.gainDistance.store.orders = s.store.orders ∧ s.gainDistance.store.op = s.store.op ∧
      s.gainDistance.store.waiting = s.store.waiting ∧ s.gainDistance.store.task = s.store.task ∧
      s.gainDistance.store.latch = s.store.latch ∧ s.gainDistance.store.pwrGood = s.store.pwrGood ∧
      s.gainDistance.store.nvFault = s.store.nvFault := by
  rw [gainDistance_store]
  obtain ⟨o1, p1, w1, t1, -⟩ := update_rest s.store 1 (gainTotal 0 1)
  obtain ⟨o2, p2, w2, t2, -⟩ := update_rest (s.store.update 1 (gainTotal 0 1)) 2 (gainTotal 0 1)
  obtain ⟨l1, g1, f1⟩ := update_fields s.store 1 (gainTotal 0 1)
  obtain ⟨l2, g2, f2⟩ := update_fields (s.store.update 1 (gainTotal 0 1)) 2 (gainTotal 0 1)
  exact ⟨o2.trans o1, p2.trans p1, w2.trans w1, t2.trans t1, l2.trans l1, g2.trans g1, f2.trans f1⟩

theorem gainDistance_presentLine (s : State) (b : Nat) : s.gainDistance.store.presentLine b = s.store.presentLine b := by
  rw [gainDistance_store, presentLine_update, presentLine_update]

theorem gainDistance_dirty {s : State} {i : Nat} (h : (s.store.line i).state = .dirty) :
    (s.gainDistance.store.line i).state = .dirty := by
  rw [gainDistance_store]
  exact update_keeps_dirty _ (update_keeps_dirty _ h)

theorem present_of_presentLine {st : Store} {b : Nat} (h : st.present b = true) : ∃ i, st.presentLine b = some i :=
  Option.isSome_iff_exists.mp h

theorem startWrite_writing {st : Store} {b i : Nat} (hi : st.presentLine b = some i) (x : WriteFor) :
    ((st.startWrite i x).line i).tag = some b ∧ ((st.startWrite i x).line i).state = .writing ∧
      (st.startWrite i x).op = some (.write i ((st.startWrite i x).dataOf b) x 4) := by
  have hfind := (presentLine_eq_some.mp hi).1
  have hline : (st.startWrite i x).line i = { st.line i with state := .writing, redirty := false } :=
    (modifyLine_line st i i _ (line_lt_of_find hfind)).trans (if_pos rfl)
  refine ⟨by rw [hline]; exact (line_of_find hfind).1, by rw [hline], ?_⟩
  rw [(startWrite_reads hi x b).2]
  unfold Store.startWrite Store.dataOf
  rw [hi]

/-- The store after a step that gained the odometer: settled, or about the checkpoint's write. -/
theorem gained_settles {s : State} (hr : s.store.AtRest) (hw : s.store.NoneWriting) (hp : s.store.SystemPresent) :
    ∃ u, s.stepped.gainOdometer.gainDistance.store.settle settleFuel = (u, none) ∧
      (∀ c, u.presentLine c = s.store.presentLine c ∧
        u.dataOf c = s.stepped.gainOdometer.gainDistance.store.dataOf c) ∧
      (¬(s.store.odometerValue < 9999999 ∧ s.counting.checkpoint ≤ 1) → u.AtRest) ∧
      (s.store.odometerValue < 9999999 → s.counting.checkpoint ≤ 1 → s.store.pwrGood = true → s.store.nvFault = false →
        u.orders = [.single 0 false none] ∧
        ∃ i, u.op = some (.write i (u.dataOf 0) .single 4) ∧ (u.line i).tag = some 0 ∧ (u.line i).state = .writing) := by
  have hgain := gainOdometer_spec (s := s.stepped) hp
  have hreads (c : Nat) : s.stepped.gainOdometer.gainDistance.store.presentLine c = s.store.presentLine c := by
    rw [gainDistance_presentLine, hgain.reads]
    exact presentLine_of_lines rfl c
  by_cases hcheck : s.store.odometerValue < 9999999 ∧ s.counting.checkpoint ≤ 1
  · obtain ⟨o1, p1, w1, t1, -, g1, f1⟩ := gainDistance_rest s.stepped.gainOdometer
    obtain ⟨o0, p0, w0, t0⟩ := hgain.ordered hr hcheck.1 hcheck.2
    obtain ⟨i, hi⟩ := present_of_presentLine hp.1.1
    have hline := (hreads 0).trans hi
    have hdirty := gainDistance_dirty (hgain.dirty (noneWriting_line hw) i hi)
    obtain ⟨u, hsettle, hsame, hgo⟩ :=
      settle_checkpoint (o1.trans o0) (p1.trans p0) (w1.trans w0) (t1.trans t0) hline hdirty
    refine ⟨u, hsettle, fun c => ⟨(hsame c).1.trans (hreads c), (hsame c).2⟩, fun h => absurd hcheck h, fun _ _ hg hf => ?_⟩
    rw [hgo (g1.trans (hgain.drive.1.trans hg)) (f1.trans (hgain.drive.2.trans hf))]
    obtain ⟨htag, hstate, hop⟩ := startWrite_writing hline .single
    exact ⟨o1.trans o0, i, hop, htag, hstate⟩
  · have hrest := (gainDistance_recordStep _).2.2 (hgain.idle hr hcheck)
    exact ⟨_, settle_settled (settled_atRest hrest) _, fun c => ⟨hreads c, rfl⟩, fun _ => hrest,
      fun h1 h2 => absurd ⟨h1, h2⟩ hcheck⟩

/-- Settles O15. -/
theorem odometerGains : Obligations.OdometerGains := by
  intro e s haccept hdivider hodometer hservice hr hw hp
  have hgain := gainOdometer_spec (s := s.stepped) hp
  have hstep : (s.setCounting (s.counting.later e)).acceptPulse = s.stepped.gainOdometer.gainDistance := by
    rw [acceptPulse_step hdivider, distanceStep_eq, if_neg (by omega), if_pos (by omega)]
  obtain ⟨u, hsettle, hsame, hidle, hwrite⟩ := gained_settles hr hw hp
  have hdata : u.dataOf 0 = s.stepped.gainOdometer.store.dataOf 0 := by
    rw [(hsame 0).2, (gainDistance_recordStep _).2.1]
  have hvalue : u.odometerValue = s.store.odometerValue + if s.store.odometerValue < 9999999 then 1 else 0 :=
    (odometerValue_of_data hdata).trans hgain.value
  refine ⟨_, exec_speedPulse_accepted haccept, ?_⟩
  rw [hstep, settleStore_of_settle hsettle]
  have hcounting : (State.present s (s.stepped.gainOdometer.gainDistance.setStore u)).counting =
      s.stepped.gainOdometer.counting := (State.present_counting _ _).trans (gainDistance_kept _).counting
  have hstore : (State.present s (s.stepped.gainOdometer.gainDistance.setStore u)).store = u := State.present_store _ _
  have hsub : s.stepped.counting.odometerSub = 0 := if_pos (hodometer.ge)
  rw [hcounting, hstore, hgain.counting]
  refine ⟨hsub, rfl, ?_, ?_, fun htop => ⟨?_, if_neg (Nat.not_lt.mpr htop)⟩, fun hlow => ?_, fun hlow hcheck => ⟨?_, ?_⟩,
    fun hlow hcheck hgood hfault => ⟨?_, ?_⟩, ?_⟩
  · rw [hdata, hgain.state]
    rfl
  · unfold Store.present
    rw [(hsame 0).1]
    exact hp.1.1
  · rw [hvalue, if_neg (Nat.not_lt.mpr htop), Nat.add_zero]
  · rw [hvalue, if_pos hlow]
  · exact (if_pos hlow).trans (if_neg (Nat.not_le.mpr hcheck))
  · exact hidle fun h => Nat.not_le.mpr hcheck h.2
  · exact (if_pos hlow).trans (if_pos hcheck.le)
  · exact hwrite hlow hcheck.le hgood hfault
  · exact present_frame_choice (bs := [.counting, .trip, .store])
      ((((stepped_kept s).andThen (cs := [.counting, .trip, .store]) hgain.kept).andThen (cs := [.counting, .trip, .store])
        (gainDistance_kept _)).andThen (setStore_kept _ _))
      (((SameChoice.of_kept (stepped_kept s)).trans (.of_kept hgain.kept)).trans
        ((gainDistance_sameChoice _).trans (.of_kept (setStore_kept _ _))))

end Sys2Proof.Machine
end

section
/-! SUPPORT. The line events at the station, state by state. Settles O34. -/
namespace Sys2Proof.Machine
set_option Elab.async false

/-- A command that gives the line block a new value and leaves the other blocks. -/
theorem exec_setLine {c : Instr} {s : State} {l l' : LineStation} (h : exec c s = .next (State.present s (s.setLine l')))
    (he : l' = l) : ∃ t, exec c s = .next t ∧ KeptBut [.line, .display] s t ∧ t.line = l :=
  ⟨_, h, present_frame (setLine_kept s l'), (State.present_line _ _).trans he⟩

theorem drive_eq (l : LineStation) :
    l.drive = { l with
      driven := true, drivenTime := if l.driven then l.drivenTime else 0
      state := if l.state = .quiet then .receiving else l.state
      awaitsRelease := if l.state = .quiet then false else l.awaitsRelease
      quiet := if l.state = .quiet ∨ l.state = .init then 0 else l.quiet } := by
  unfold LineStation.drive
  cases h : l.state <;> simp

theorem release_eq (l : LineStation) :
    l.release = { l with
      driven := false, drivenTime := 0
      state := if l.state = .stuck then .quiet else l.state
      stuck := if l.state = .stuck then false else l.stuck
      quiet := if l.state = .stuck ∨ l.state = .init then 0 else l.quiet } := by
  unfold LineStation.release
  cases h : l.state <;> simp

theorem goStuck_eq (l : LineStation) :
    l.goStuck = if l.state ∈ [.init, .receiving, .breaking] then
      { l with state := .stuck, stuck := true, awaitsRelease := false, sendBits := 0, driven := true } else l := by
  unfold LineStation.goStuck
  cases h : l.state <;> simp

theorem exec_breakRecognised {s : State} (h : s.line.state ≠ .sending) :
    exec .breakRecognised s = .next (State.present s (s.setLine s.line.breakHeard)) :=
  exec_next rfl (if_neg h)

theorem breakEnd_elsewhere {l : LineStation} (h : l.state ≠ .breaking) (b : Bool) : l.breakEnd b = l := if_neg h

theorem breakEnd_released {l : LineStation} (h : l.state = .breaking) :
    l.breakEnd false = { l with state := .quiet, quiet := 0, sendBits := 0, driven := false, drivenTime := 0 } := if_pos h

theorem breakEnd_driven {l : LineStation} (h : l.state = .breaking) :
    l.breakEnd true =
      { l with state := .receiving, awaitsRelease := true, sendBits := 0, driven := true, drivenTime := max 12 l.drivenTime } :=
  if_pos h

theorem silenceExpiry_eq (s : State) :
    (if s.line.silence.isSome then s.setLine { s.line with silent := true, silence := none } else s) =
      s.setLine (if s.line.silence.isSome then { s.line with silent := true, silence := none } else s.line) := by
  split <;> rfl

/-- Settles O34, event by event. -/
theorem lineStatesFollowTable : Obligations.LineStatesFollowTable := by
  refine fun s => ⟨exec_setLine rfl rfl, exec_setLine rfl (drive_eq _), fun h => exec_setLine (exec_breakRecognised h) rfl,
    fun still => ?_, exec_setLine rfl (goStuck_eq _), exec_setLine rfl (release_eq _), exec_setLine rfl rfl,
    exec_setLine (exec_next rfl (silenceExpiry_eq s)) rfl⟩
  obtain ⟨t, hexec, hkept, hline⟩ := exec_setLine (c := .breakEnd still) (s := s) rfl rfl
  refine ⟨t, hexec, hkept, fun h => ?_, fun h hstill => ?_, fun h hstill => ?_⟩
  · rw [hline, breakEnd_elsewhere h]
  · rw [hline, hstill, breakEnd_released h]
  · rw [hline, hstill, breakEnd_driven h]

end Sys2Proof.Machine
end

section
/-! SUPPORT. Reception: the checks, the windows and the way of a publication to its entry. Settles O37 and O39. -/
namespace Sys2Proof.Machine
set_option Elab.async false

/-! ### The checks and the windows -/

theorem frameValid_iff (bs : List Byte) (err : Bool) : frameValid bs err = true ↔ ValidFrame bs err := by
  simp [frameValid, ValidFrame, and_assoc]

theorem letsIn_iff (w : ListenWindow) (bs : List Byte) :
    w.admits (frameTopic bs) (frameSource bs) = true ↔ w.LetsIn bs := by
  unfold ListenWindow.admits ListenWindow.LetsIn
  cases hsource : w.source <;> simp [and_assoc]

theorem passes_iff (s : State) (bs : List Byte) :
    s.passes (frameTopic bs) (frameSource bs) = true ↔ ∃ w ∈ windowZero :: s.cal.windows, w.LetsIn bs := by
  unfold State.passes
  simp only [List.any_eq_true, letsIn_iff]

/-! ### The end gap, case by case -/

theorem endGap_elsewhere {s : State} (h : ¬(s.line.state = .receiving ∧ s.line.awaitsRelease = false))
    (bs : List Byte) (err : Bool) : s.endGap bs err = s := if_neg h

theorem endGap_invalid {s : State} (hr : s.line.state = .receiving) (ha : s.line.awaitsRelease = false)
    {bs : List Byte} {err : Bool} (hv : ¬ValidFrame bs err) :
    s.endGap bs err = s.setLine s.line.gapped.receptionError :=
  (if_pos ⟨hr, ha⟩).trans (if_neg fun h => hv ((frameValid_iff bs err).mp h))

theorem endGap_valid {s : State} (hr : s.line.state = .receiving) (ha : s.line.awaitsRelease = false)
    {bs : List Byte} {err : Bool} (hv : ValidFrame bs err) :
    s.endGap bs err = (s.setLine s.line.gapped).takeValid bs :=
  (if_pos ⟨hr, ha⟩).trans (if_pos ((frameValid_iff bs err).mpr hv))

/-- The state in which the line has heard a valid message, before anything is done with it. -/
def State.listened (s : State) : State := s.setLine s.heardLine

theorem takeValid_loading {s : State} (h : s.ign = .load) (bs : List Byte) :
    (s.setLine s.line.gapped).takeValid bs = s.listened := if_pos h

theorem takeValid_own {s : State} {bs : List Byte} (h : s.ign ≠ .load) (hown : frameSource bs = s.cal.station) :
    (s.setLine s.line.gapped).takeValid bs = s.setLine s.heardLine.conflictHeard := (if_neg h).trans (if_pos hown)

theorem takeValid_shut {s : State} {bs : List Byte} (h : s.ign ≠ .load) (hown : frameSource bs ≠ s.cal.station)
    (hshut : ¬∃ w ∈ windowZero :: s.cal.windows, w.LetsIn bs) :
    (s.setLine s.line.gapped).takeValid bs = s.listened :=
  (if_neg h).trans ((if_neg hown).trans (if_neg fun hp => hshut ((passes_iff s bs).mp hp)))

theorem takeValid_open {s : State} {bs : List Byte} (h : s.ign ≠ .load) (hown : frameSource bs ≠ s.cal.station)
    (hopen : ∃ w ∈ windowZero :: s.cal.windows, w.LetsIn bs) :
    (s.setLine s.line.gapped).takeValid bs = s.listened.handOn bs :=
  (if_neg h).trans ((if_neg hown).trans (if_pos ((passes_iff s bs).mpr hopen)))

/-- A message that the station passes on meets its consumer. -/
theorem endGap_hears {s : State} {bs : List Byte} (h : s.Hears bs) : s.endGap bs false = s.listened.handOn bs := by
  obtain ⟨hstate, hrelease, hvalid, hload, hown, hopen⟩ := h
  rw [endGap_valid hstate hrelease hvalid, takeValid_open hload hown hopen]

theorem listened_kept (s : State) : KeptBut [.line] s s.listened := setLine_kept _ _

/-! ### The consumer -/

theorem entryOf_eq_none {s : State} {topic : Nat}
    (h : ¬∃ e ∈ s.topics.entries, e.used = true ∧ e.topic = topic) : s.entryOf topic = none := by
  refine List.findIdx?_eq_none_iff.mpr fun e he => ?_
  rw [Bool.eq_false_iff]
  simp only [ne_eq, Bool.and_eq_true, beq_iff_eq]
  exact fun hu => h ⟨e, he, hu⟩

theorem entry_of_lt {s : State} {e : Nat} (h : e < s.topics.entries.length) : s.entry e = s.topics.entries[e] := by
  simp [State.entry, List.getElem?_eq_getElem h]

theorem entryOf_eq_some {s : State} {bs : List Byte} {e : Nat} (h : s.EntryOf bs e) :
    s.entryOf (frameTopic bs) = some e := by
  obtain ⟨-, hlt, hused, htopic, hfirst⟩ := h
  rw [entry_of_lt hlt] at hused htopic
  refine List.findIdx?_eq_some_iff_getElem.mpr ⟨hlt, by simp [hused, htopic], fun j hj => ?_⟩
  have := hfirst j hj
  rw [entry_of_lt (hj.trans hlt)] at this
  simpa using this

/-- A message without a consumer is unclaimed. -/
theorem handOn_unclaimed {s : State} {bs : List Byte}
    (hpublication : ¬(frameKind bs = 0 ∧ ∃ e ∈ s.topics.entries, e.used = true ∧ e.topic = frameTopic bs))
    (hrequest : ¬(frameKind bs = 1 ∧ 0x60 ≤ frameTopic bs ∧ frameTopic bs ≤ 0x6F ∧ frameSource bs = 15)) :
    s.handOn bs = s.setLine s.line.leaveUnclaimed := by
  unfold State.handOn
  split
  · rename_i e hkind he
    rw [entryOf_eq_none fun h => hpublication ⟨hkind, h⟩] at he
    cases he
  · rename_i hkind
    rw [if_neg fun h => hrequest ⟨hkind, h⟩]
  · rfl

theorem handOn_publication {s : State} {bs : List Byte} {e : Nat} (h : s.EntryOf bs e) :
    s.handOn bs = s.toEntry e (frameSource bs) (frameSeq bs) (frameData bs) := by
  unfold State.handOn
  rw [h.1, entryOf_eq_some h]
  rfl

/-- A publication that the station passes on goes to its entry. -/
theorem endGap_entry {s : State} {bs : List Byte} {e : Nat} (h : s.Hears bs) (he : s.EntryOf bs e) :
    s.endGap bs false = s.listened.toEntry e (frameSource bs) (frameSeq bs) (frameData bs) :=
  (endGap_hears h).trans (handOn_publication (s := s.listened) he)

/-- A command whose effect is on the line alone. -/
theorem exec_endGap_line {s : State} {bs : List Byte} {err : Bool} {l : LineStation}
    (h : s.endGap bs err = s.setLine l) :
    ∃ t, exec (.endGap bs err) s = .next t ∧ KeptBut [.line, .display] s t ∧ t.line = l :=
  exec_setLine (exec_next rfl h) rfl

/-- Settles O37: the checks in their order. -/
theorem receptionChecksDecide : Obligations.ReceptionChecksDecide := by
  intro s bs err
  refine ⟨fun h => ?_, fun hr ha => ⟨fun hv => ?_, fun hv => ?_⟩⟩
  · exact ⟨_, exec_next rfl (endGap_elsewhere h bs err), present_frame (.refl [] s)⟩
  · exact exec_endGap_line (endGap_invalid hr ha hv)
  · have htake := endGap_valid hr ha hv
    refine ⟨fun hload => ?_, fun hload hown => ?_, fun hload hown hshut => ?_, fun hload hown hopen hpub hreq => ?_⟩
    · exact exec_endGap_line (htake.trans (takeValid_loading hload bs))
    · exact exec_endGap_line (htake.trans (takeValid_own hload hown))
    · exact exec_endGap_line (htake.trans (takeValid_shut hload hown fun ⟨w, hw, h⟩ => hshut w hw h))
    · exact exec_endGap_line
        ((htake.trans (takeValid_open hload hown hopen)).trans (handOn_unclaimed (s := s.listened) hpub hreq))

/-! ### The bytes of a message -/

theorem byteAt_take {bs : List Byte} {n k : Nat} (h : k < n) : byteAt (bs.take n) k = byteAt bs k := by
  simp [byteAt, h]

theorem byteAt_drop (bs : List Byte) (n k : Nat) : byteAt (bs.drop n) k = byteAt bs (n + k) := by
  simp [byteAt]

theorem byteAt_frameData {bs : List Byte} {k : Nat} (h : k < frameLength bs) :
    byteAt (frameData bs) k = byteAt bs (3 + k) := by
  rw [frameData, byteAt_take h, byteAt_drop]

theorem bitAt_frameData {bs : List Byte} {k : Nat} (h : k < frameLength bs) (n : Nat) :
    bitAt (frameData bs) k n = bitAt bs (3 + k) n := by
  unfold bitAt
  rw [byteAt_frameData h]

theorem frameData_length {bs : List Byte} {err : Bool} (h : ValidFrame bs err) :
    (frameData bs).length = frameLength bs := by
  obtain ⟨-, -, -, -, -, -, -, hlength⟩ := h
  simp only [frameData, List.length_take, List.length_drop]
  omega

/-! ### Arrivals -/

theorem entry_modifyEntry_same {s : State} {e : Nat} (h : e < s.topics.entries.length) (f : Entry → Entry) :
    (s.modifyEntry e f).entry e = f (s.entry e) := by
  simp [State.entry, State.modifyEntry, List.getElem?_eq_getElem h]

theorem entry_modifyEntry_ne {s : State} {e d : Nat} (h : d ≠ e) (f : Entry → Entry) :
    (s.modifyEntry e f).entry d = s.entry d := by
  simp [State.entry, State.modifyEntry, h.symm]

/-- The state in which an entry has taken a message and nothing has followed yet. -/
def State.arrived (s : State) (bs : List Byte) (e : Nat) : State :=
  s.listened.modifyEntry e (Entry.arrive (frameSource bs) (frameSeq bs) (frameData bs))

theorem arrived_kept (s : State) (bs : List Byte) (e : Nat) : KeptBut [.line, .topics] s (s.arrived bs e) :=
  (listened_kept s).andThen (modifyEntry_kept _ _ _)

theorem arrived_line (s : State) (bs : List Byte) (e : Nat) : (s.arrived bs e).line = s.heardLine := rfl

theorem arrived_entry {s : State} {bs : List Byte} {e : Nat} (he : s.EntryOf bs e) :
    (s.arrived bs e).entry e = (s.entry e).arrive (frameSource bs) (frameSeq bs) (frameData bs) :=
  entry_modifyEntry_same (s := s.listened) he.2.1 _

theorem endGap_taken {s : State} {bs : List Byte} {e : Nat} (h : s.Hears bs) (he : s.EntryOf bs e)
    (hl : frameLength bs = (s.entry e).length) : s.endGap bs false = (s.arrived bs e).tellArrival e := by
  obtain ⟨-, -, hvalid, -⟩ := id h
  rw [endGap_entry h he]
  exact if_pos ((frameData_length hvalid).trans hl)

theorem endGap_rejected {s : State} {bs : List Byte} {e : Nat} (h : s.Hears bs) (he : s.EntryOf bs e)
    (hl : frameLength bs ≠ (s.entry e).length) : s.endGap bs false = s.listened.modifyEntry e Entry.reject := by
  obtain ⟨-, -, hvalid, -⟩ := id h
  rw [endGap_entry h he]
  exact if_neg fun hc => hl ((frameData_length hvalid).symm.trans hc)

/-! ### Fuel totals -/

/-- What E1 reads after its message. -/
theorem arrived_fuelTotal {s : State} {bs : List Byte} (he : s.EntryOf bs 1) (hl : (s.entry 1).length = 2)
    (hf : frameLength bs = 2) :
    (s.arrived bs 1).fuelTotal = if wordAt bs 3 = 65535 then none else some ⟨wordAt bs 3, false⟩ := by
  have hbits : wordAt (frameData bs) 0 = wordAt bs 3 := by
    unfold wordAt
    rw [byteAt_frameData (by omega), byteAt_frameData (by omega)]
  unfold State.fuelTotal
  rw [arrived_entry he]
  simp [Entry.field, Entry.arrive, Entry.readable, Entry.fieldBits, fieldBytes, noValueCode, he.2.2.1, hl, hbits]
  rfl

/-- The reference and the window fuel after a delta. -/
def Counting.rebased (c : Counting) (v : Nat) : Counting := { c with fuelReference := some v }

theorem fuelArrival_none {s : State} (h : s.fuelTotal = none) :
    s.fuelArrival = s.setCounting { s.counting with fuelReference := none } := by
  unfold State.fuelArrival
  rw [h]

theorem fuelArrival_first {s : State} {v : Nat} {held : Bool} (h : s.fuelTotal = some ⟨v, held⟩)
    (hr : s.counting.fuelReference = none) : s.fuelArrival = s.setCounting (s.counting.rebased v) := by
  unfold State.fuelArrival
  rw [h, hr]
  rfl

theorem fuelArrival_implausible {s : State} {v ref : Nat} {held : Bool} (h : s.fuelTotal = some ⟨v, held⟩)
    (hr : s.counting.fuelReference = some ref) (hd : 2000 < (v + 65536 - ref) % 65536) :
    s.fuelArrival = s.setCounting
      { s.counting.rebased v with implausible := min 255 (s.counting.implausible + 1) } := by
  unfold State.fuelArrival
  rw [h, hr]
  exact if_pos hd

theorem fuelArrival_plausible {s : State} {v ref : Nat} {held : Bool} (h : s.fuelTotal = some ⟨v, held⟩)
    (hr : s.counting.fuelReference = some ref) (hd : (v + 65536 - ref) % 65536 ≤ 2000) :
    s.fuelArrival = (s.onTrips fun s r => s.addFuel r ((v + 65536 - ref) % 65536)).setCounting
      { s.counting.rebased v with
        windowFuel := min 65535 (s.counting.windowFuel + (v + 65536 - ref) % 65536) } := by
  unfold State.fuelArrival
  rw [h, hr]
  exact if_neg (not_lt.mpr hd)

theorem tripView_setCounting (s : State) (c : Counting) (r : TripRecord) : (s.setCounting c).tripView r = s.tripView r :=
  tripView_congr (State.setCounting_trip _ _) (State.setCounting_store _ _) r

theorem tripView_addFuels {s : State} (hp : s.store.SystemPresent) (d : Nat) (r : TripRecord) :
    (s.onTrips fun s r => s.addFuel r d).tripView r =
      { s.tripView r with fuel := min 16777215 ((s.tripView r).fuel + d) } :=
  tripView_onTrips (g := fun v => { v with fuel := min 16777215 (v.fuel + d) }) hp
    (fun s r => addFuel_recordStep s r d) (fun _ hs r j => tripView_addFuel hs r d j) r

theorem tripView_present (s u : State) (r : TripRecord) : (State.present s u).tripView r = u.tripView r :=
  tripView_congr (State.present_trip _ _) (State.present_store _ _) r

/-- Settles O39: an arrival at E1 by its value and the reference. -/
theorem fuelTotalsAreAdded : Obligations.FuelTotalsAreAdded := by
  intro s bs h he hlength hframe hp
  have hstart := arrived_kept s bs 1
  have hview (r : TripRecord) : (s.arrived bs 1).tripView r = s.tripView r := tripView_congr hstart.trip hstart.store r
  have hcounting : (s.arrived bs 1).counting = s.counting := hstart.counting
  have htotal := arrived_fuelTotal he hlength hframe
  have hkept : KeptBut ([.line, .topics] ++ [.counting, .store, .trip]) s (s.arrived bs 1).fuelArrival :=
    hstart.andThen (fuelArrival_kept _)
  have hsame : SameChoice s (s.arrived bs 1).fuelArrival := .trans (.of_kept hstart) (fuelArrival_sameChoice _)
  refine ⟨_, exec_next rfl (endGap_taken h he (hframe.trans hlength.symm)), ?_, present_frame_choice hkept hsame,
    fun hv => ?_, fun hv hr => ?_, fun ref _ hv hr => ⟨fun hd => ?_, fun hd => ?_⟩⟩
  · rw [State.present_line]
    exact (fuelArrival_kept _).line
  all_goals
    simp only [tripView_present, State.present_counting]
    show (s.arrived bs 1).fuelArrival.counting = _ ∧ ∀ r, (s.arrived bs 1).fuelArrival.tripView r = _
  · rw [if_pos hv] at htotal
    rw [fuelArrival_none htotal]
    exact ⟨by rw [State.setCounting_counting, hcounting], fun r => (tripView_setCounting _ _ r).trans (hview r)⟩
  all_goals rw [if_neg hv] at htotal; rw [← hcounting] at hr
  · rw [fuelArrival_first htotal hr]
    exact ⟨by rw [State.setCounting_counting, hcounting]; rfl, fun r => (tripView_setCounting _ _ r).trans (hview r)⟩
  · rw [fuelArrival_implausible htotal hr hd]
    exact ⟨by rw [State.setCounting_counting, hcounting]; rfl, fun r => (tripView_setCounting _ _ r).trans (hview r)⟩
  · rw [fuelArrival_plausible htotal hr hd]
    refine ⟨by rw [State.setCounting_counting, hcounting]; rfl, fun r => (tripView_setCounting _ _ r).trans ?_⟩
    rw [tripView_addFuels (systemPresent_of_lines (by rw [hstart.store]) hp), hview]
end Sys2Proof.Machine
end

section
/-! SUPPORT. The keys: what a press, a release and a mark leave, and how the holds end. Settles O26 to O30. -/
namespace Sys2Proof.Machine
set_option Elab.async false

/-! ### Keys as a record of four -/

theorem get_put (ks : Keys) (x : KeyInput) (k : Key) : (ks.put x k).get k = x := by cases k <;> rfl

theorem get_put_ne (ks : Keys) (x : KeyInput) {k q : Key} (h : q ≠ k) : (ks.put x k).get q = ks.get q := by
  cases k <;> cases q <;> simp_all [Keys.put, Keys.get]

theorem put_put (ks : Keys) (x y : KeyInput) (k : Key) : (ks.put x k).put y k = ks.put y k := by cases k <;> rfl

theorem get_map (ks : Keys) (f : KeyInput → KeyInput) (k : Key) : (ks.map f).get k = f (ks.get k) := by cases k <;> rfl

/-! ### What is presented of the keys -/

theorem present_keys (s u : State) : (State.present s u).keys = (State.refreshHolds s u).keys :=
  (refreshDisplay_kept s _).keys

theorem present_keys_same {s u : State} (hp : u.trip.page = s.trip.page) (hw : u.warningPage = s.warningPage)
    (hs : u.service.selected = s.service.selected) : (State.present s u).keys = u.keys := by
  rw [present_keys, refreshHolds_same hp hw hs]

/-- The holds of all keys end with the page. -/
theorem present_keys_turned {s u : State} (hp : u.trip.page ≠ s.trip.page) :
    (State.present s u).keys = u.keys.map KeyInput.endHold := by
  rw [present_keys]
  unfold State.refreshHolds
  rw [if_pos (by simp [Ne.symm hp])]
  rfl

/-- A hold that is over stays over, whatever the page does. -/
theorem present_keys_released {s u : State} {k : Key} (h : ((u.keys.get k)).hold = .idle) :
    (State.present s u).keys.get k = u.keys.get k := by
  have hend : (u.keys.get k).endHold = u.keys.get k := by
    unfold KeyInput.endHold
    rw [← h]
  rw [present_keys]
  unfold State.refreshHolds
  split
  · exact (get_map _ _ _).trans hend
  · split
    · cases k
      case reset => exact if_neg (by rw [show u.keys.reset.hold = _ from h]; nofun)
      all_goals rfl
    · rfl

/-! ### A press -/

/-- The state in which an accepted press has clicked and its hold has begun. -/
def State.pressed (s : State) (k : Key) : State := (s.putKey k ((s.keys.get k).down .idle)).click

theorem pressed_kept (s : State) (k : Key) : KeptBut [.keys, .sound] s (s.pressed k) :=
  (setKeys_kept _ _).andThen (setSound_kept _ _)

theorem pressed_sound (s : State) (k : Key) : (s.pressed k).sound = s.sound.click := rfl

theorem click_eq (u : Sound) :
    u.click = if u.output = .chime then u else { u with output := .click, clickTimer := 2, tickTimer := 0 } := by
  unfold Sound.click
  cases h : u.output <;> simp

theorem pressKey_ready {s : State} {k : Key} (h : s.KeyReady k) : s.pressKey k = (s.pressed k).takePress k := by
  obtain ⟨haccepted, hup, hfree⟩ := h
  unfold State.pressKey
  rw [if_neg (by simp [KeyInput.takenLow, hup, hfree]), if_pos haccepted]
  rfl

theorem pressKey_taken {s : State} {k : Key} (h : (s.keys.get k).pressed = true ∨ (s.keys.get k).blocked = true) :
    s.pressKey k = s.putKey k { s.keys.get k with pinLow := true, samples := 0 } :=
  if_pos (by simpa [KeyInput.takenLow] using h)

theorem pressKey_shut {s : State} {k : Key} (hup : (s.keys.get k).pressed = false)
    (hfree : (s.keys.get k).blocked = false) (h : s.ign.keysAccepted = false) :
    s.pressKey k = s.putKey k ((s.keys.get k).down .idle) :=
  (if_neg (by simp [KeyInput.takenLow, hup, hfree])).trans (if_neg (by simp [h]))

/-- A press that leaves the store has nothing of it to settle. -/
theorem exec_keyPress {s v : State} {k : Key} (hs : s.store.Settled) (h : s.pressKey k = v) (hv : v.store = s.store) :
    exec (.keyPress k) s = .next (State.present s v) :=
  exec_next rfl ((congrArg State.settleStore h).trans (settleStore_of_store hs hv))

/-! ### Presses outside clock setting -/

/-- The hold that a press begins. -/
def State.pressHold (s : State) (k : Key) : Hold :=
  if s.warningPage then .idle
  else
    match k, s.trip.page with
    | .mode, .service => .serviceStep false
    | .reset, p => p.resetHold
    | .set, .clock => .clockSet
    | _, _ => .idle

/-- The page and view that a press leaves. -/
def State.pressTrip (s : State) (k : Key) : Trip :=
  if s.warningPage then s.trip
  else
    match k, s.trip.page with
    | .mode, .service => s.trip
    | .mode, p => { s.trip with page := p.next }
    | .set, .tripA | .set, .tripB | .set, .journey => { s.trip with view := s.trip.view.next }
    | _, _ => s.trip

/-- The state after a press that does no more than turn the page or the view. -/
def State.turned (s : State) (k : Key) : State :=
  ((s.pressed k).setKeys (s.keys.put ((s.keys.get k).down (s.pressHold k)) k)).setTrip (s.pressTrip k)

theorem turned_kept (s : State) (k : Key) : KeptBut ([.keys, .sound] ++ [.keys] ++ [.trip]) s (s.turned k) :=
  KeptBut.andThen (KeptBut.andThen (cs := [.keys, .sound] ++ [.keys]) (pressed_kept s k) (setKeys_kept _ _))
    (setTrip_kept _ _)

theorem takePress_normal {s : State} (h : s.counting.clockSet = .normal) (k : Key) :
    s.takePress k = match k with
      | .ack => s.ackPress
      | .mode => s.pageMode
      | .set => s.pageSet
      | .reset => s.pageReset := by
  have hidle : s.setCounting s.counting.restartIdle = s := by
    unfold Counting.restartIdle
    rw [if_pos h]
    rfl
  unfold State.takePress
  simp only [hidle, h]
  cases k <;> rfl

theorem pressed_warningPage (s : State) (k : Key) : (s.pressed k).warningPage = s.warningPage :=
  warningPage_congr (pressed_kept s k).arbiter

theorem pressed_setHold (s : State) (k : Key) (h : Hold) :
    (s.pressed k).setHold k h = (s.pressed k).setKeys (s.keys.put ((s.keys.get k).down h) k) := by
  cases k <;> rfl

theorem pageMode_pressed {s : State} (h : s.trip.page = .clock → s.warningPage = true) :
    (s.pressed .mode).pageMode = s.turned .mode := by
  unfold State.pageMode State.turned State.pressHold State.pressTrip
  rw [pressed_warningPage]
  cases hw : s.warningPage with
  | true => rfl
  | false =>
    rw [show (s.pressed .mode).trip = s.trip from rfl, pressed_setHold]
    cases hp : s.trip.page <;> simp_all <;> rfl

theorem pageReset_pressed (s : State) : (s.pressed .reset).pageReset = s.turned .reset := by
  unfold State.pageReset State.turned State.pressHold State.pressTrip
  rw [pressed_warningPage]
  cases hw : s.warningPage with
  | true => rfl
  | false =>
    rw [show (s.pressed .reset).trip = s.trip from rfl, pressed_setHold]
    cases hp : s.trip.page <;> rfl

theorem pageSet_pressed (s : State) : (s.pressed .set).pageSet = s.turned .set := by
  unfold State.pageSet State.turned State.pressHold State.pressTrip
  rw [pressed_warningPage]
  cases hw : s.warningPage with
  | true => rfl
  | false =>
    rw [show (s.pressed .set).trip = s.trip from rfl, pressed_setHold]
    cases hp : s.trip.page <;> simp [Page.isTrip] <;> rfl

theorem pressKey_turned {s : State} {k : Key} (h : s.KeyReady k) (hn : s.counting.clockSet = .normal) (hk : k ≠ .ack)
    (hm : k = .mode → s.trip.page = .clock → s.warningPage = true) : s.pressKey k = s.turned k := by
  rw [pressKey_ready h, takePress_normal (s := s.pressed k) hn]
  cases k with
  | ack => exact absurd rfl hk
  | mode => exact pageMode_pressed (hm rfl)
  | set => exact pageSet_pressed s
  | reset => exact pageReset_pressed s

theorem turned_keys {s : State} {k : Key} (h : (s.pressTrip k).page = s.trip.page) :
    (State.present s (s.turned k)).keys = s.keys.put ((s.keys.get k).down (s.pressHold k)) k :=
  present_keys_same h (warningPage_congr (turned_kept s k).arbiter) (congrArg _ (turned_kept s k).service)

theorem turned_keys_page {s : State} {k : Key} (h : (s.pressTrip k).page ≠ s.trip.page) :
    (State.present s (s.turned k)).keys = (s.keys.put ((s.keys.get k).down (s.pressHold k)) k).map KeyInput.endHold :=
  present_keys_turned h

theorem turned_frame (s : State) (k : Key) : KeptBut [.keys, .trip, .sound, .display] s (State.present s (s.turned k)) :=
  ((turned_kept s k).mono (by decide)).trans ((present_kept s (s.turned k)).mono (by decide))

/-- What a press leaves that turns no page. -/
theorem turned_of {s : State} {k : Key} {h : Hold} {tr : Trip} (hh : s.pressHold k = h) (ht : s.pressTrip k = tr)
    (hp : tr.page = s.trip.page) :
    (State.present s (s.turned k)).trip = tr ∧
      (State.present s (s.turned k)).keys = s.keys.put ((s.keys.get k).down h) k := by
  subst hh ht
  exact ⟨State.present_trip _ _, turned_keys hp⟩

theorem pressHold_warning {s : State} (k : Key) (h : s.warningPage = true) : s.pressHold k = .idle := if_pos h

theorem pressTrip_warning {s : State} (k : Key) (h : s.warningPage = true) : s.pressTrip k = s.trip := if_pos h

theorem next_page {p : Page} (h : p ≠ .service) : p.next ≠ p ∧ p.next.code = p.code + 1 := by
  cases p <;> simp_all [Page.next, Page.code]

/-- Settles O26: the press turns what its key turns on its page. -/
theorem pressesTurnPages : Obligations.PressesTurnPages := by
  intro s k hready hsettled hnormal hk hclock
  refine ⟨_, exec_keyPress hsettled (pressKey_turned hready hnormal hk hclock) rfl, ?_, turned_frame s k, ?_, fun hw =>
    ⟨?_, ?_, ?_, ?_, ?_, ?_⟩⟩
  · rw [State.present_sound]
    exact click_eq _
  · intro h
    rcases h with hw | ⟨hset, hp⟩ | ⟨hreset, hp⟩
    · exact turned_of (pressHold_warning k hw) (pressTrip_warning k hw) rfl
    all_goals
      subst k
      refine turned_of ?_ ?_ rfl
      · unfold State.pressHold
        cases h : s.trip.page <;> simp_all [Page.resetHold]
      · unfold State.pressTrip
        cases h : s.trip.page <;> simp_all
  · rintro rfl hp
    have hhold : s.pressHold .mode = .idle := by
      unfold State.pressHold
      cases h : s.trip.page <;> simp_all
    have htrip : s.pressTrip .mode = { s.trip with page := s.trip.page.next } := by
      unfold State.pressTrip
      cases h : s.trip.page <;> simp_all
    obtain ⟨hne, hcode⟩ := next_page hp
    have hpresent : (State.present s (s.turned .mode)).trip = { s.trip with page := s.trip.page.next } :=
      (State.present_trip _ _).trans htrip
    rw [hpresent, ← hhold]
    exact ⟨rfl, hcode, turned_keys_page (by rw [htrip]; exact hne)⟩
  · rintro rfl hp
    exact turned_of (by simp [State.pressHold, hw, hp]) (by simp [State.pressTrip, hp]) rfl
  · rintro rfl hp
    have hhold : s.pressHold .set = .idle := by
      unfold State.pressHold
      cases h : s.trip.page <;> simp_all
    have htrip : s.pressTrip .set = { s.trip with view := s.trip.view.next } := by
      unfold State.pressTrip
      cases h : s.trip.page <;> simp_all
    obtain ⟨hpresent, hkeys⟩ := turned_of hhold htrip rfl
    rw [hpresent, hkeys]
    exact ⟨rfl, by cases s.trip.view <;> rfl, rfl⟩
  · rintro rfl hp
    exact turned_of (by simp [State.pressHold, hw, hp]) (by simp [State.pressTrip, hp]) rfl
  · rintro rfl hp
    simp only [List.mem_cons, List.not_mem_nil, or_false] at hp
    rcases hp with hp | hp <;>
      exact turned_of (by simp [State.pressHold, hw, hp, Page.resetHold]) (by simp [State.pressTrip]) rfl
  · rintro rfl hp
    exact turned_of (by simp [State.pressHold, hw, hp, Page.resetHold]) (by simp [State.pressTrip]) rfl

/-! ### Presses that are not accepted -/

theorem putKey_present_keys (s : State) (k : Key) (x : KeyInput) :
    (State.present s (s.putKey k x)).keys = s.keys.put x k := present_keys_same rfl rfl rfl

theorem exec_putKey {s : State} {k : Key} {x : KeyInput} (hs : s.store.Settled) (h : s.pressKey k = s.putKey k x) :
    ∃ t, exec (.keyPress k) s = .next t ∧ t.keys = s.keys.put x k ∧ KeptBut [.keys, .display] s t :=
  ⟨_, exec_keyPress hs h rfl, putKey_present_keys s k x, present_frame (putKey_kept s k x)⟩

/-! ### What UPDATE does to its line -/

theorem line_recent (st : Store) (i j : Nat) (x : Bool) :
    ∃ y, (st.modifyLine i fun l => { l with recent := x }).line j = { st.line j with recent := y } := by
  by_cases hi : i < st.lines.length
  · rw [modifyLine_line _ _ _ _ hi]
    split
    · exact ⟨x, rfl⟩
    · exact ⟨_, rfl⟩
  · have e : (st.modifyLine i fun l => { l with recent := x }).lines = st.lines := List.modify_eq_self (by omega)
    exact ⟨(st.line j).recent, by simp only [Store.line, e]⟩

/-- Recency is all that a use of a line changes of the lines. -/
theorem line_touch (st : Store) (i j : Nat) : ∃ y, (st.touch i).line j = { st.line j with recent := y } := by
  obtain ⟨x, hx⟩ := line_recent st i j true
  obtain ⟨y, hy⟩ := line_recent (st.modifyLine i fun l => { l with recent := true }) (otherWay i) j false
  exact ⟨y, hy.trans (by rw [hx])⟩

theorem line_update_same {st : Store} {b i : Nat} (f : List Byte → List Byte) (h : st.presentLine b = some i) :
    ∃ y, (st.update b f).line i = { CacheLine.updated f (st.line i) with recent := y } := by
  have hlt := line_lt_of_find (presentLine_eq_some.1 h).1
  obtain ⟨y, hy⟩ := line_touch (st.modifyLine i (CacheLine.updated f)) i i
  unfold Store.update
  rw [h]
  exact ⟨y, hy.trans (by rw [modifyLine_line _ _ _ _ hlt, if_pos rfl])⟩

/-- An UPDATE leaves its line DIRTY, or marks it for a second write. -/
theorem updated_marks {l : CacheLine} (f : List Byte → List Byte) (h : l.state.isPresent = true) :
    (l.updated f).state = (if l.state = .writing then .writing else .dirty) ∧
      (l.updated f).redirty = (l.redirty || l.state == .writing) := by
  unfold CacheLine.updated
  cases hs : l.state <;> simp_all [LineState.isPresent]

/-! ### Marks and releases -/

theorem tripResetMark_eq {s : State} {r : TripRecord} (h : s.keys.reset.hold = .tripReset r) :
    s.tripResetMark = (s.setHold .reset .idle).resetTrip r := by
  unfold State.tripResetMark
  rw [h]

theorem resetTrip_line {s : State} {r : TripRecord} {i : Nat} (hr : r ≠ .journey)
    (hi : s.store.presentLine r.block = some i) :
    ((s.resetTrip r).store.line i).state = (if (s.store.line i).state = .writing then .writing else .dirty) ∧
      ((s.resetTrip r).store.line i).redirty = ((s.store.line i).redirty || (s.store.line i).state == .writing) := by
  obtain ⟨f, hf⟩ : ∃ f, (s.resetTrip r).store = s.store.update r.block f := by
    cases r
    · exact ⟨_, rfl⟩
    · exact ⟨_, rfl⟩
    · exact absurd rfl hr
  obtain ⟨y, hy⟩ := line_update_same f hi
  rw [hf, hy]
  exact updated_marks f (presentLine_eq_some.1 hi).2

/-- Settles O29: the mark of RESET is the record's reset, and ends the hold. -/
theorem tripResetClearsRecord : Obligations.TripResetClearsRecord := by
  intro s r hhold hr hp
  have hkept : KeptBut ([.keys] ++ [.store, .freeIndex]) s ((s.setHold .reset .idle).resetTrip r) :=
    (setHold_kept s .reset .idle).andThen (resetTrip_kept _ r)
  have hview := tripView_resetTrip (s := s.setHold .reset .idle) hp hr
  refine ⟨_, exec_next rfl (tripResetMark_eq hhold), ?_, fun q hq => ?_, ?_, fun i hi => ?_, ?_, present_frame hkept⟩
  · rw [tripView_present, hview, if_pos rfl]
    rfl
  · rw [tripView_present, hview, if_neg hq]
    rfl
  · rw [State.present_store]
    exact (resetTrip_recordStep (s.setHold .reset .idle) r).2.1
  · rw [State.present_store]
    exact resetTrip_line (s := s.setHold .reset .idle) hr hi
  · rw [present_keys_same (congrArg Trip.page hkept.trip) (warningPage_congr hkept.arbiter)
      (congrArg Service.selected hkept.service)]
    exact (resetTrip_kept _ r).keys

theorem releaseKey_selects {s : State} {k : Key} (h : (s.keys.get k).pressed = true ∧
    (s.keys.get k).hold = .serviceStep false) :
    s.releaseKey k = (s.putKey k .released).setTrip { s.trip with page := .tripA } :=
  if_pos (by simp [h.1, h.2])

theorem releaseKey_ends {s : State} {k : Key} (h : ¬((s.keys.get k).pressed = true ∧
    (s.keys.get k).hold = .serviceStep false)) : s.releaseKey k = s.putKey k .released :=
  if_neg (by simpa using h)

/-- Settles O30: a release and the page it selects. -/
theorem releaseEndsHold : Obligations.ReleaseEndsHold := by
  intro s k
  by_cases h : (s.keys.get k).pressed = true ∧ (s.keys.get k).hold = .serviceStep false
  · have hkey : ((s.putKey k .released).setTrip { s.trip with page := .tripA }).keys.get k = .released := get_put _ _ _
    have hreleased := (present_keys_released (s := s) (by rw [hkey]; rfl)).trans hkey
    refine ⟨_, exec_next rfl (releaseKey_selects h), ?_⟩
    rw [hreleased]
    exact ⟨rfl, rfl, rfl, rfl, rfl,
      (KeptBut.andThen (cs := [.keys, .trip, .display]) (putKey_kept s k _) (setTrip_kept _ _)).trans
        ((present_kept s _).mono (by decide)),
      fun _ => State.present_trip _ _, fun hn => absurd h hn⟩
  · refine ⟨_, exec_next rfl (releaseKey_ends h), ?_⟩
    rw [putKey_present_keys, get_put]
    exact ⟨rfl, rfl, rfl, rfl, rfl, present_frame (putKey_kept s k _), fun hn => absurd hn h,
      fun _ => ⟨State.present_trip _ _, fun q hq => get_put_ne _ _ hq⟩⟩

/-! ### Clock setting -/

/-- What a press other than ACK makes of the counting unit in the setting. -/
def Counting.setBy (c : Counting) : Key → Counting
  | .mode => c.restartIdle.settingMode
  | .set => c.restartIdle.settingSet
  | .reset | .ack => c.restartIdle

theorem pressKey_setting {s : State} {k : Key} (h : s.KeyReady k) (hs : s.counting.clockSet ≠ .normal) (hk : k ≠ .ack) :
    s.pressKey k = (s.pressed k).setCounting (s.counting.setBy k) := by
  rw [pressKey_ready h]
  unfold State.takePress
  have hsetting : ((s.pressed k).counting.clockSet != ClockSet.normal) = true := bne_iff_ne.mpr hs
  cases k with
  | ack => exact absurd rfl hk
  | mode => exact if_pos hsetting
  | set => exact if_pos hsetting
  | reset => exact if_pos hsetting

theorem restartIdle_setting {c : Counting} (h : c.clockSet ≠ .normal) : c.restartIdle = { c with keyIdle := some 1000 } :=
  if_neg h

theorem endSetting_setting {c : Counting} (h : c.clockSet ≠ .normal) :
    c.endSetting = { c with clockSet := .normal, seconds := 0, keyIdle := none } := if_neg h

theorem setBy_mode_hour {c : Counting} (h : c.clockSet = .hourSet) :
    c.setBy .mode = { c with hours := if c.hours < 23 then c.hours + 1 else 0, keyIdle := some 1000 } := by
  show c.restartIdle.settingMode = _
  rw [restartIdle_setting (by rw [h]; nofun)]
  simp only [Counting.settingMode, h]

theorem setBy_mode_minute {c : Counting} (h : c.clockSet = .minuteSet) :
    c.setBy .mode = { c with minutes := if c.minutes < 59 then c.minutes + 1 else 0, keyIdle := some 1000 } := by
  show c.restartIdle.settingMode = _
  rw [restartIdle_setting (by rw [h]; nofun)]
  simp only [Counting.settingMode, h]

theorem setBy_set_hour {c : Counting} (h : c.clockSet = .hourSet) :
    c.setBy .set = { c with clockSet := .minuteSet, keyIdle := some 1000 } := by
  show c.restartIdle.settingSet = _
  rw [restartIdle_setting (by rw [h]; nofun)]
  simp only [Counting.settingSet, h]

theorem setBy_set_minute {c : Counting} (h : c.clockSet = .minuteSet) :
    c.setBy .set = { c with clockSet := .normal, seconds := 0, keyIdle := none } := by
  show c.restartIdle.settingSet = _
  rw [restartIdle_setting (by rw [h]; nofun)]
  simp only [Counting.settingSet, h]
  exact endSetting_setting (by simp [h])

theorem carry_eq_mod {n top : Nat} (h : n ≤ top) : (if n < top then n + 1 else 0) = (n + 1) % (top + 1) := by
  split
  · rw [Nat.mod_eq_of_lt (by omega)]
  · rw [show n = top by omega, Nat.mod_self]

theorem clockSetMark_eq {s : State} (h : s.keys.set.hold = .clockSet) :
    s.clockSetMark = (s.setHold .set .idle).setCounting s.counting.enterSetting := by
  unfold State.clockSetMark
  rw [h]

/-- Entry by the mark of SET. -/
theorem exec_clockSetHold {s : State} (h : s.keys.set.hold = .clockSet) :
    ∃ t, exec .clockSetHold s = .next t ∧
      t.counting = { s.counting with clockSet := .hourSet, keyIdle := some 1000 } ∧ t.keys.set = s.keys.set.endHold ∧
      t.keys.mode = s.keys.mode ∧ t.keys.reset = s.keys.reset ∧ t.keys.ack = s.keys.ack ∧
      KeptBut [.counting, .keys, .display] s t := by
  refine ⟨_, exec_next rfl (clockSetMark_eq h), State.present_counting _ _, ?_⟩
  rw [present_keys_same (s := s) (u := (s.setHold .set .idle).setCounting s.counting.enterSetting) rfl rfl rfl]
  exact ⟨rfl, rfl, rfl, rfl,
    present_frame (KeptBut.andThen (cs := [.keys, .counting]) (setHold_kept s .set .idle) (setCounting_kept _ _))⟩

theorem exec_keyIdleTimerExpiry {s : State} (h : s.counting.clockSet ≠ .normal) (hi : s.counting.keyIdle.isSome = true) :
    ∃ t, exec .keyIdleTimerExpiry s = .next t ∧
      t.counting = { s.counting with clockSet := .normal, seconds := 0, keyIdle := none } ∧
      KeptBut [.counting, .display] s t :=
  ⟨_, exec_next rfl (if_pos hi), (State.present_counting _ _).trans (endSetting_setting h),
    present_frame (setCounting_kept _ _)⟩

/-- The state in which an ACK press has restarted the key-idle timer. -/
def State.ackBegins (s : State) : State := (s.pressed .ack).setCounting s.counting.restartIdle

theorem ackBegins_kept (s : State) : KeptBut [.keys, .sound, .counting] s s.ackBegins :=
  KeptBut.andThen (pressed_kept s .ack) (setCounting_kept _ _)

theorem pressKey_ack {s : State} (h : s.KeyReady .ack) : s.pressKey .ack = s.ackBegins.ackPress := pressKey_ready h

theorem ackPress_keys (s : State) : s.ackPress.keys = s.keys := (ackPress_kept s).keys

/-- ACK leaves the clock to itself. -/
theorem exec_keyPress_ack {s : State} (h : s.KeyReady .ack) :
    ∃ t, exec (.keyPress .ack) s = .next t ∧ t.counting = s.counting.restartIdle ∧
      (t.keys.get .ack).pressed = true ∧ (t.keys.get .ack).hold = .idle ∧
      KeptBut [.keys, .counting, .arbiter, .sound, .store, .line, .handler, .display] s t ∧
      (s.store.Settled → t.store = s.store) := by
  have hpress := (ackBegins_kept s).andThen (cs := [.keys, .sound, .counting, .arbiter, .line, .handler])
    (ackPress_kept s.ackBegins)
  have hkey : s.ackBegins.ackPress.settleStore.keys.get .ack = (s.keys.get .ack).down .idle := by
    rw [(settleStore_kept _).keys, (ackPress_kept _).keys]
    exact get_put s.keys _ .ack
  have hpresent := (present_keys_released (s := s) (by rw [hkey]; rfl)).trans hkey
  refine ⟨_, exec_next rfl (congrArg State.settleStore (pressKey_ack h)), ?_, ?_, ?_, ?_, fun hs => ?_⟩
  · rw [State.present_counting, (settleStore_kept _).counting, (ackPress_kept _).counting]
    rfl
  · rw [hpresent]
    rfl
  · rw [hpresent]
    rfl
  · exact ((hpress.mono (by decide)).trans ((settleStore_kept _).mono (by decide))).trans
      ((present_kept s _).mono (by decide))
  · rw [State.present_store, settleStore_of_store hs hpress.store, hpress.store]

/-- A press of another key in the setting. -/
theorem exec_keyPress_setting {s : State} {k : Key} (h : s.KeyReady k) (hs : s.store.Settled)
    (hn : s.counting.clockSet ≠ .normal) (hk : k ≠ .ack) :
    ∃ t, exec (.keyPress k) s = .next t ∧ t.counting = s.counting.setBy k ∧
      KeptBut [.counting, .keys, .sound, .display] s t ∧ t.keys = s.keys.put ((s.keys.get k).down .idle) k :=
  ⟨_, exec_keyPress hs (pressKey_setting h hn hk) rfl, State.present_counting _ _,
    present_frame (KeptBut.andThen (cs := [.keys, .sound, .counting]) (pressed_kept s k) (setCounting_kept _ _)),
    present_keys_same rfl rfl rfl⟩

/-- Settles O28: entry, the keys of the setting, and its end. -/
theorem clockIsSet : Obligations.ClockIsSet := by
  refine fun s => ⟨exec_clockSetHold, fun hn => ⟨exec_keyIdleTimerExpiry hn, fun hready => ?_, fun k hready hs hr hk => ?_⟩⟩
  · rw [← restartIdle_setting hn]
    exact exec_keyPress_ack hready
  · obtain ⟨hhours, hminutes, -⟩ := hr
    obtain ⟨t, hexec, hcounting, hframe, hkeys⟩ := exec_keyPress_setting hready hs hn hk
    refine ⟨t, hexec, hframe, hkeys, ?_, ?_, ?_, ?_, ?_⟩
    · rintro rfl
      exact hcounting.trans (restartIdle_setting hn)
    all_goals
      rintro rfl hset
      rw [hcounting]
    · rw [setBy_mode_hour hset, carry_eq_mod hhours]
    · rw [setBy_mode_minute hset, carry_eq_mod hminutes]
    · rw [setBy_set_hour hset]
    · rw [setBy_set_minute hset]
end Sys2Proof.Machine
end

section
/-! SUPPORT. The service page: the FETCH of the selected item's block, and the steps of the selection. Settles O27 and
O31. -/
namespace Sys2Proof.Machine
set_option Elab.async false

/-! ### The FETCH of a service block -/

theorem itemBlock_bounds {i : Nat} (h : i < 8) : 3 ≤ itemBlock i ∧ itemBlock i ≤ 6 := by
  unfold itemBlock
  omega

theorem mark_setMark_same {s : State} {b : Nat} (hl : s.service.fetchMarks.length = 4) (hb : 3 ≤ b) (hb' : b ≤ 6)
    (x : Bool) : (s.setMark b x).service.mark b = x := by
  simp [State.setMark, Service.mark, List.getD_eq_getElem?_getD, hl, show b - 3 < 4 by omega]

theorem mark_setMark_ne (s : State) {b c : Nat} (hb : 3 ≤ b) (hc : 3 ≤ c) (h : c ≠ b) (x : Bool) :
    (s.setMark b x).service.mark c = s.service.mark c := by
  simp [State.setMark, Service.mark, List.getD_eq_getElem?_getD, show b - 3 ≠ c - 3 by omega]

theorem fetchService_marked {s : State} {b : Nat} (h : s.service.mark b = true) : s.fetchService b = s := if_pos h

theorem fetchService_unmarked {s : State} {b : Nat} (h : s.service.mark b = false) :
    s.fetchService b = (s.setStore (s.store.fetch b)).setMark b true := if_neg (by simp [h])

theorem fetchService_mark {s : State} {b : Nat} (hl : s.service.fetchMarks.length = 4) (hb : 3 ≤ b) (hb' : b ≤ 6) :
    (s.fetchService b).service.mark b = true := by
  cases h : s.service.mark b with
  | true => rwa [fetchService_marked h]
  | false =>
    rw [fetchService_unmarked h]
    exact mark_setMark_same (s := s.setStore (s.store.fetch b)) hl hb hb' true

theorem fetchService_mark_ne (s : State) {b c : Nat} (hb : 3 ≤ b) (hc : 3 ≤ c) (h : c ≠ b) :
    (s.fetchService b).service.mark c = s.service.mark c := by
  cases hm : s.service.mark b with
  | true => rw [fetchService_marked hm]
  | false =>
    rw [fetchService_unmarked hm]
    exact mark_setMark_ne (s.setStore (s.store.fetch b)) hb hc h true

theorem fetchService_service (s : State) (b : Nat) :
    (s.fetchService b).service.selected = s.service.selected ∧ (s.fetchService b).service.items = s.service.items := by
  cases h : s.service.mark b with
  | true => rw [fetchService_marked h]; exact ⟨rfl, rfl⟩
  | false => rw [fetchService_unmarked h]; exact ⟨rfl, rfl⟩

theorem fetchSelected_service (s : State) :
    s.fetchSelected.service.selected = s.service.selected ∧ s.fetchSelected.service.items = s.service.items := by
  unfold State.fetchSelected
  split
  · split
    · exact ⟨rfl, rfl⟩
    · exact fetchService_service s _
  · exact ⟨rfl, rfl⟩

theorem fetchSelected_present {s : State} (h : ∀ i, s.service.selected = some i → s.store.present (itemBlock i) = true) :
    s.fetchSelected = s := by
  unfold State.fetchSelected
  split
  · exact if_pos (h _ ‹_›)
  · rfl

theorem fetchSelected_mark {s : State} {i : Nat} (h : i < 8) (hs : s.service.selected = some i)
    (hp : s.store.present (itemBlock i) = false) (hl : s.service.fetchMarks.length = 4) :
    s.fetchSelected.service.mark (itemBlock i) = true := by
  obtain ⟨hlow, hhigh⟩ := itemBlock_bounds h
  unfold State.fetchSelected
  rw [hs]
  dsimp only
  rw [if_neg (by simp [hp])]
  exact fetchService_mark hl hlow hhigh

/-! ### Entering the page -/

/-- The state after a press of MODE on the CLOCK page, before the store is settled. -/
def State.toService (s : State) : State := ((s.pressed .mode).setTrip { s.trip with page := .service }).fetchSelected

theorem pressKey_clock {s : State} (h : s.KeyReady .mode) (hn : s.counting.clockSet = .normal) (hp : s.trip.page = .clock)
    (hw : s.warningPage = false) : s.pressKey .mode = s.toService := by
  rw [pressKey_ready h, takePress_normal (s := s.pressed .mode) hn]
  dsimp only
  unfold State.pageMode
  rw [pressed_warningPage, hw, show (s.pressed .mode).trip = s.trip from rfl, hp]
  rfl

theorem toService_kept (s : State) : KeptBut [.keys, .sound, .trip, .service, .store] s s.toService :=
  KeptBut.andThen (KeptBut.andThen (cs := [.keys, .sound, .trip]) (pressed_kept s .mode) (setTrip_kept _ _))
    (fetchSelected_kept _)

theorem exec_keyPress_clock {s : State} (h : s.KeyReady .mode) (hn : s.counting.clockSet = .normal)
    (hp : s.trip.page = .clock) (hw : s.warningPage = false) :
    ∃ t, exec (.keyPress .mode) s = .next t ∧ t.trip = { s.trip with page := .service } ∧
      t.keys = (s.keys.put ((s.keys.get .mode).down .idle) .mode).map KeyInput.endHold ∧
      t.service.selected = s.service.selected ∧ t.service.items = s.service.items ∧
      (∀ i < 8, s.service.selected = some i → s.store.present (itemBlock i) = false →
        s.service.fetchMarks.length = 4 → t.service.mark (itemBlock i) = true) ∧
      ((∀ i, s.service.selected = some i → s.store.present (itemBlock i) = true) →
        s.store.Settled → KeptBut [.keys, .trip, .sound, .display] s t) ∧
      KeptBut [.keys, .trip, .sound, .service, .store, .line, .handler, .display] s t := by
  have htrip : s.toService.settleStore.trip = { s.trip with page := .service } :=
    (settleStore_kept _).trip.trans (fetchSelected_kept _).trip
  have hservice : s.toService.settleStore.service = s.toService.service := (settleStore_kept _).service
  have hkeys : s.toService.settleStore.keys = s.keys.put ((s.keys.get .mode).down .idle) .mode :=
    (settleStore_kept _).keys.trans (fetchSelected_kept _).keys
  refine ⟨_, exec_next rfl (congrArg State.settleStore (pressKey_clock h hn hp hw)), ?_, ?_, ?_, ?_,
    fun i hi hs hpresent hl => ?_, fun hpresent hsettled => ?_, ?_⟩
  · rw [State.present_trip, htrip]
  · rw [present_keys_turned (by rw [htrip, hp]; nofun), hkeys]
  · rw [State.present_service, hservice]
    exact (fetchSelected_service _).1
  · rw [State.present_service, hservice]
    exact (fetchSelected_service _).2
  · rw [State.present_service, hservice]
    exact fetchSelected_mark hi hs hpresent hl
  · have hstays : s.toService = (s.pressed .mode).setTrip { s.trip with page := .service } :=
      fetchSelected_present hpresent
    have hstore : s.toService.store = s.store := by rw [hstays]; rfl
    rw [settleStore_of_store hsettled hstore, hstays]
    exact (KeptBut.andThen (cs := [.keys, .trip, .sound, .display]) (pressed_kept s .mode) (setTrip_kept _ _)).trans
      ((present_kept s _).mono (by decide))
  · exact (((toService_kept s).mono (by decide)).trans ((settleStore_kept _).mono (by decide))).trans
      ((present_kept s _).mono (by decide))

/-- Settles O27: MODE on the CLOCK page, and presses that are not accepted. -/
theorem servicePageFetches : Obligations.ServicePageFetches :=
  fun _ => ⟨exec_keyPress_clock, fun _ hs h => exec_putKey hs (pressKey_taken h),
    fun _ hs hup hfree h => exec_putKey hs (pressKey_shut hup hfree h)⟩

/-! ### The steps of the selection -/

theorem itemAfter_next {s : State} {i j : Nat} (hj : j < 8) (hij : i < j) (ha : s.itemActive j = true)
    (hnone : ∀ n, i < n → n < j → s.itemActive n = false) : s.itemAfter i = some j := by
  have hfind : s.activeItems.find? (fun j => decide (i < j)) = some j := by
    rw [State.activeItems, List.find?_filter, List.find?_range_eq_some]
    refine ⟨by simp [ha, hij], by simpa using hj, fun n hn => ?_⟩
    by_cases h : i < n
    · simp [hnone n h hn]
    · simp [h]
  rw [State.itemAfter, hfind]
  rfl

theorem itemAfter_wraps {s : State} {i j : Nat} (hj : j < 8) (ha : s.itemActive j = true)
    (habove : ∀ n, i < n → n < 8 → s.itemActive n = false) (hbelow : ∀ n < j, s.itemActive n = false) :
    s.itemAfter i = some j := by
  have hnone : s.activeItems.find? (fun j => decide (i < j)) = none := by
    rw [State.activeItems, List.find?_filter, List.find?_range_eq_none]
    intro n hn
    by_cases h : i < n
    · simp [habove n h hn]
    · simp [h]
  have hhead : s.activeItems.head? = some j := by
    rw [State.activeItems, List.head?_filter, List.find?_range_eq_some]
    exact ⟨ha, by simpa using hj, fun n hn => by simp [hbelow n hn]⟩
  rw [State.itemAfter, hnone, hhead]
  rfl

theorem stepSelection_eq {s : State} {i : Nat} (h : s.service.selected = some i) :
    s.stepSelection = if s.itemAfter i = some i then s.setService { s.service with selected := s.itemAfter i }
      else (s.setService { s.service with selected := s.itemAfter i }).fetchSelected := by
  unfold State.stepSelection
  rw [h]
  rfl

theorem stepSelection_service {s : State} {i : Nat} (h : s.service.selected = some i) :
    s.stepSelection.service.selected = s.itemAfter i ∧ s.stepSelection.service.items = s.service.items := by
  rw [stepSelection_eq h]
  split
  · exact ⟨rfl, rfl⟩
  · exact fetchSelected_service _

theorem stepSelection_mark {s : State} {i j : Nat} (h : s.service.selected = some i) (hj : j < 8)
    (hs : s.itemAfter i = some j) (hne : j ≠ i) (hp : s.store.present (itemBlock j) = false)
    (hl : s.service.fetchMarks.length = 4) : s.stepSelection.service.mark (itemBlock j) = true := by
  rw [stepSelection_eq h, if_neg (by rw [hs]; exact fun hc => hne (Option.some.inj hc))]
  exact fetchSelected_mark hj hs hp hl

theorem itemAfter_lt {s : State} {i j : Nat} (h : s.itemAfter i = some j) : j < 8 := by
  have hmem : j ∈ s.activeItems := by
    unfold State.itemAfter at h
    rw [Option.or_eq_some_iff] at h
    rcases h with h | ⟨-, h⟩
    · exact List.mem_of_find?_eq_some h
    · exact List.mem_of_head? h
  simpa using (List.mem_filter.mp hmem).1

theorem stepSelection_present {s : State} {i : Nat} (h : s.service.selected = some i)
    (hp : ∀ j < 8, s.store.present (itemBlock j) = true) :
    s.stepSelection = s.setService { s.service with selected := s.itemAfter i } := by
  rw [stepSelection_eq h]
  split
  · rfl
  · exact fetchSelected_present fun j hj => hp j (itemAfter_lt hj)

/-- The state after the mark, before the store is settled. -/
def State.stepsOn (s : State) : State :=
  (s.putKey .mode { s.keys.mode with hold := .serviceStep true, holdTicks := 0 }).stepSelection

theorem serviceStepMark_eq {s : State} {b : Bool} (h : s.keys.mode.hold = .serviceStep b) :
    s.serviceStepMark = s.stepsOn := by
  unfold State.serviceStepMark
  rw [h]
  rfl

theorem stepsOn_kept (s : State) : KeptBut [.keys, .service, .store] s s.stepsOn :=
  KeptBut.andThen (putKey_kept s .mode _) (stepSelection_kept _)

/-- A change of the selected item ends a hold of RESET for its reset. -/
theorem present_keys_item {s u : State} (hp : u.trip.page = s.trip.page) (hw : u.warningPage = s.warningPage) :
    (State.present s u).keys =
      if u.service.selected = s.service.selected then u.keys
      else { u.keys with reset := u.keys.reset.endServiceReset } := by
  rw [present_keys]
  unfold State.refreshHolds
  rw [if_neg (by simp [hp, hw])]
  by_cases h : u.service.selected = s.service.selected
  · rw [if_neg (by simp [h]), if_pos h]
  · rw [if_pos (by simpa using Ne.symm h), if_neg h]
    rfl

theorem endServiceReset_other {x : KeyInput} (h : x.hold ≠ .serviceReset) : x.endServiceReset = x := if_neg h

theorem endServiceReset_ends {x : KeyInput} (h : x.hold = .serviceReset) : x.endServiceReset = x.endHold := if_pos h

/-- Settles O31: where the selection goes, and what hangs on it. -/
theorem selectionSteps : Obligations.SelectionSteps := by
  intro s b i hhold hselected hactive hi
  have hkept := ((stepsOn_kept s).mono (cs := [.keys, .service, .store, .line, .handler]) (by decide)).trans
    ((settleStore_kept _).mono (by decide))
  have hservice : s.stepsOn.settleStore.service = s.stepsOn.service := (settleStore_kept _).service
  obtain ⟨hgoes, hitems⟩ := stepSelection_service
    (s := s.putKey .mode { s.keys.mode with hold := .serviceStep true, holdTicks := 0 }) hselected
  have hgoes : s.stepsOn.service.selected = s.itemAfter i := hgoes
  have hkeys : (State.present s s.stepsOn.settleStore).keys =
      if s.stepsOn.service.selected = s.service.selected then s.stepsOn.keys
      else { s.stepsOn.keys with reset := s.stepsOn.keys.reset.endServiceReset } := by
    rw [present_keys_item (congrArg Trip.page hkept.trip) (warningPage_congr hkept.arbiter), hservice,
      (settleStore_kept _).keys]
  have hown : s.stepsOn.keys = s.keys.put { s.keys.mode with hold := .serviceStep true, holdTicks := 0 } .mode :=
    (stepSelection_kept _).keys
  refine ⟨_, exec_next rfl (congrArg State.settleStore (serviceStepMark_eq hhold)), ?_⟩
  rw [State.present_service, hservice, hkeys, hgoes, hown]
  refine ⟨fun j hj hij ha hnone => itemAfter_next hj hij ha hnone,
    fun habove j hj ha hbelow => itemAfter_wraps (by omega) ha habove hbelow,
    fun j hj hs hne hp hl => stepSelection_mark (s := s.putKey .mode _) hselected hj hs hne hp hl, hitems, ?_, ?_, ?_, ?_, ?_,
    ((hkept.mono (by decide)).trans ((present_kept s _).mono (by decide))), fun hp hs => ?_⟩
  · split <;> rfl
  · rintro (h | h)
    · split
      · rfl
      · exact endServiceReset_other h
    · rw [if_pos h]
      rfl
  · intro h hne
    rw [if_neg hne]
    exact endServiceReset_ends h
  · split <;> rfl
  · split <;> rfl
  · have hstep := stepSelection_present
      (s := s.putKey .mode { s.keys.mode with hold := .serviceStep true, holdTicks := 0 }) hselected hp
    have hstore : s.stepsOn.store = s.store := by unfold State.stepsOn; rw [hstep]; rfl
    have hstays : s.stepsOn.settleStore = s.stepsOn := settleStore_of_store hs hstore
    rw [State.present_store, State.present_line, State.present_handler, hstays]
    unfold State.stepsOn
    rw [hstep]
    exact ⟨rfl, rfl, rfl, rfl⟩
end Sys2Proof.Machine
end

section
/-! SUPPORT. A message that finds room in the queue; the sweep and the park of the gauges. Settles O43. -/
namespace Sys2Proof.Machine
set_option Elab.async false

/-! ### Messages with room in the queue -/

theorem open_findIdx {l : LineStation} {topic : Nat} (h : l.Open topic) :
    l.queue.findIdx? (Msg.unstarted topic) = none := by
  refine List.findIdx?_eq_none_iff.mpr fun m hm => ?_
  have := List.any_eq_false.mp h.2 m hm
  simpa using this

/-- With room, and no message of its topic waiting, a message enters at the end. -/
theorem queue_open {s : State} {topic cls : Nat} {kind : MsgKind} {data : List Byte} {answer : Answer}
    (h : s.line.Open topic) : s.queue topic cls kind data answer = s.setLine (s.line.enter topic cls kind data answer) := by
  unfold State.queue State.placeMsg
  dsimp only [State.setLine_line]
  rw [open_findIdx h]
  exact if_pos h.1

theorem returnStatus_open {s : State} {x : Status} {result : List Byte} (h : s.line.Open 0x70) :
    s.returnStatus x result = (s.setHandler { s.handler with state := .replying }).setLine
      (s.line.enter 0x70 3 .reply ([byteOf s.handler.topic, byteOf x.code] ++ result) .own) :=
  queue_open (s := s.setHandler { s.handler with state := .replying }) h

/-! ### Gauges -/

theorem coilsFollow (g : Gauge) : g.CoilsFollow := by
  unfold Gauge.CoilsFollow Gauge.coils
  refine ⟨fun h => if_neg (by simp [h]), fun h r hr => ⟨fun hc => ?_, fun hc => ?_, fun hc => ?_⟩⟩ <;>
    rw [if_pos h, hc] <;> unfold coilLevels
  · rw [Nat.mod_eq_of_lt hr, Nat.div_eq_of_lt hr]
    rfl
  · rw [show (256 + r) % 256 = r by omega, show (256 + r) / 256 = 1 by omega]
    rfl
  · rw [show (512 + r) % 256 = r by omega, show (512 + r) / 256 = 2 by omega]
    rfl

theorem gauge_of_lt {s : State} {i : Nat} (h : i < s.gauges.gauges.length) : s.gauge i = s.gauges.gauges[i] := by
  simp [State.gauge, List.getElem?_eq_getElem h]

/-- The state in which a gauge stands when the sweep has ended. -/
theorem endSweep_eq (r : Option Reading) (g : Gauge) :
    g.endSweep r =
      { state := r.elim .rest fun r => if r.held then .hold else .track
        evaluated := none, target := 0, filtered := 0, commanded := 0, parkCount := 0, driven := true } := by
  unfold Gauge.endSweep Gauge.follow
  rcases r with _ | ⟨v, _ | _⟩ <;> rfl

/-! ### The sweep -/

/-- The gauges as the end of the sweep leaves them. -/
def State.sweepEnded (s : State) : Gauges :=
  { s.gauges with gauges := s.gauges.gauges.mapIdx fun i g => g.endSweep (s.gaugeInput i), sweep := none }

theorem sweepEnded_gauge {s : State} (hl : s.gauges.gauges.length = 6) {i : Nat} (hi : i < 6) (u : State)
    (hu : u.gauges.gauges = s.sweepEnded.gauges) :
    u.gauge i =
      { state := (s.gaugeInput i).elim .rest fun r => if r.held then .hold else .track
        evaluated := none, target := 0, filtered := 0, commanded := 0, parkCount := 0, driven := true } := by
  rw [gauge_of_lt (by simp [hu, State.sweepEnded, hl, hi])]
  simp only [hu, State.sweepEnded, List.getElem_mapIdx]
  exact endSweep_eq _ _

theorem endSweep_untested {s : State} (h : s.gauges.testMark = false) : s.endSweep = s.setGauges s.sweepEnded :=
  if_neg (by simp [h])

theorem endSweep_tested {s : State} (h : s.gauges.testMark = true) :
    s.endSweep = (s.setGauges { s.sweepEnded with testMark := false }).returnStatus .done [] :=
  if_pos (show s.sweepEnded.testMark = true from h)

theorem endSweep_gauges (s : State) : s.endSweep.gauges = { s.sweepEnded with testMark := false } := by
  cases h : s.gauges.testMark with
  | false =>
    rw [endSweep_untested h]
    show s.sweepEnded = _
    unfold State.sweepEnded
    rw [← h]
  | true =>
    rw [endSweep_tested h]
    exact (returnStatus_kept _ _ _).gauges

/-- What the end of a sweep leaves, whichever command brings it. -/
theorem sweep_ends {c : Instr} {s : State} (hexec : exec c s = .next (State.present s s.endSweep))
    (hl : s.gauges.gauges.length = 6) :
    ∃ t, exec c s = .next t ∧ t.gauges.sweep = none ∧ t.gauges.testMark = false ∧
      (∀ i < 6, t.gauge i =
        { state := (s.gaugeInput i).elim .rest fun r => if r.held then .hold else .track
          evaluated := none, target := 0, filtered := 0, commanded := 0, parkCount := 0, driven := true }) ∧
      (s.gauges.testMark = false → KeptBut [.gauges, .display] s t) ∧
      (s.gauges.testMark = true → s.line.Open 0x70 →
        t.handler = { s.handler with state := .replying } ∧
        t.line = s.line.enter 0x70 3 .reply [byteOf s.handler.topic, 0] .own ∧
        KeptBut [.gauges, .line, .handler, .display] s t) := by
  have hgauges : (State.present s s.endSweep).gauges = { s.sweepEnded with testMark := false } :=
    (State.present_gauges _ _).trans (endSweep_gauges s)
  refine ⟨_, hexec, by rw [hgauges]; rfl, by rw [hgauges], fun i hi => sweepEnded_gauge hl hi _ (by rw [hgauges]),
    fun h => ?_, fun h hopen => ?_⟩
  · rw [endSweep_untested h]
    exact present_frame (setGauges_kept s _)
  · have hreply := returnStatus_open (s := s.setGauges { s.sweepEnded with testMark := false }) (x := .done)
      (result := []) hopen
    have hend := (endSweep_tested h).trans hreply
    refine ⟨?_, ?_, ?_⟩
    · rw [State.present_handler, hend]
      rfl
    · rw [State.present_line, hend]
      rfl
    · rw [endSweep_tested h]
      exact present_frame (KeptBut.andThen (cs := [.gauges, .line, .handler]) (setGauges_kept s _) (returnStatus_kept _ _ _))

theorem sweepStep_on {s : State} {p : Nat} (h : s.gauges.sweep = some p) (hp : p < 149) :
    s.sweepStep = s.setGauges
      { s.gauges with gauges := s.gauges.gauges.map (Gauge.sweepTo (p + 1)), sweep := some (p + 1) } := by
  unfold State.sweepStep
  rw [h]
  exact if_neg (by omega)

theorem sweepStep_end {s : State} {p : Nat} (h : s.gauges.sweep = some p) (hp : 149 ≤ p) : s.sweepStep = s.endSweep := by
  unfold State.sweepStep
  rw [h]
  exact if_pos (by omega)

theorem sweepStep_none {s : State} (h : s.gauges.sweep = none) : s.sweepStep = s := by
  unfold State.sweepStep
  rw [h]

theorem exec_parkCountExpiry {s : State} (i : Fin 6) (hl : s.gauges.gauges.length = 6) :
    ∃ t, exec (.parkCountExpiry i) s = .next t ∧ KeptBut [.gauges, .display] s t ∧
      (∀ j, j ≠ i.val → t.gauge j = s.gauge j) ∧
      t.gauge i = if (s.gauge i).state = .parked ∧ 0 < (s.gauge i).parkCount then
        { s.gauge i with parkCount := 0, driven := false } else s.gauge i := by
  by_cases h : (s.gauge i).state = .parked ∧ 0 < (s.gauge i).parkCount
  · refine ⟨_, exec_next rfl (if_pos h), present_frame (modifyGauge_kept s _ _), fun j hj => ?_, ?_⟩
    · unfold State.gauge
      rw [State.present_gauges]
      exact gauge_modifyGauge_ne Gauge.endPark hj
    · rw [if_pos h]
      unfold State.gauge
      rw [State.present_gauges]
      exact gauge_modifyGauge_same Gauge.endPark (by omega)
  · refine ⟨_, exec_next rfl (if_neg h), present_frame (.refl [] s), fun j _ => ?_, ?_⟩
    · unfold State.gauge
      rw [State.present_gauges]
    · rw [if_neg h]
      unfold State.gauge
      rw [State.present_gauges]

/-- Settles O43: the ticks, the end, and a park count's end. -/
theorem sweepMovesTogether : Obligations.SweepMovesTogether := by
  refine fun s => ⟨fun p h hp => ?_, fun p h hp hl => sweep_ends (exec_next rfl (sweepStep_end h hp)) hl,
    fun h hl => sweep_ends (exec_next rfl (if_pos h)) hl, fun h => ⟨?_, ?_⟩, fun i hl => exec_parkCountExpiry i hl⟩
  · refine ⟨_, exec_next rfl (sweepStep_on h hp), present_frame (setGauges_kept s _), ?_, fun i _ => coilsFollow _⟩
    rw [State.present_gauges]
    rfl
  · exact ⟨_, exec_next rfl (sweepStep_none h), present_frame (.refl [] s)⟩
  · exact ⟨_, exec_next rfl (if_neg (by simp [h])), present_frame (.refl [] s)⟩
end Sys2Proof.Machine
end

section
/-! SUPPORT. The gauges' inputs as the requirements read them, the coil table, and one update gauge by gauge. Settles
O42. -/
namespace Sys2Proof.Machine
set_option Elab.async false

/-! ### The coil table -/

theorem coilTable_values : ∀ p ∈ [((0 : Nat), (0 : Int)), (1, 2), (6, 9), (112, 162), (128, 180), (144, 197), (250, 255),
    (255, 255), (256, 255)], tab p.1 = p.2 := by decide

set_option maxRecDepth 4000 in
theorem coilTable_rises : ∀ i < 256, tab i ≤ tab (i + 1) ∧ tab (i + 1) ≤ tab i + 2 := by decide +kernel

theorem coilTable_length :
    ∀ i ≤ 256, 254 ^ 2 ≤ tab i ^ 2 + tab (256 - i) ^ 2 ∧ tab i ^ 2 + tab (256 - i) ^ 2 ≤ 256 ^ 2 := by
  have h : ∀ i < 257, 254 ^ 2 ≤ tab i ^ 2 + tab (256 - i) ^ 2 ∧ tab i ^ 2 + tab (256 - i) ^ 2 ≤ 256 ^ 2 := by
    decide +kernel
  exact fun i hi => h i (by omega)

/-! ### Fields of entries -/

theorem readable_iff (e : Entry) : e.readable = true ↔ e.HasData := by
  simp [Entry.readable, Entry.HasData]

theorem field_none {e : Entry} {offset : Nat} {wide signed : Bool}
    (h : ¬(e.HasData ∧ offset + fieldBytes wide ≤ e.length ∧ e.fieldBits offset wide ≠ noValueCode wide signed)) :
    e.field offset wide signed = none := by
  rw [← readable_iff] at h
  unfold Entry.field
  split
  · rfl
  · split
    · rfl
    · exact if_pos (by
        by_contra hb
        exact h ⟨by simp_all, by omega, hb⟩)

theorem field_some {e : Entry} {offset : Nat} {wide signed : Bool} (hd : e.HasData)
    (hl : offset + fieldBytes wide ≤ e.length) (hb : e.fieldBits offset wide ≠ noValueCode wide signed) :
    e.field offset wide signed = some
      ⟨if signed then signedOf (8 * fieldBytes wide) (e.fieldBits offset wide) else e.fieldBits offset wide,
        e.state == .stale⟩ := by
  unfold Entry.field
  dsimp only
  rw [if_neg (by simp [(readable_iff e).mpr hd]), if_neg (by omega), if_neg hb]

theorem fieldBits_eq (e : Entry) (offset : Nat) (wide : Bool) :
    e.fieldBits offset wide =
      if (if wide then 2 else 1) = 2 then 256 * byteAt e.data offset + byteAt e.data (offset + 1)
      else byteAt e.data offset := by
  cases wide
  · rfl
  · exact congrArg (· + byteAt e.data (offset + 1)) (Nat.mul_comm _ _)

theorem noValueCode_eq (wide signed : Bool) :
    noValueCode wide signed =
      if signed then (if (if wide then 2 else 1) = 2 then 32768 else 128)
      else 2 * (if (if wide then 2 else 1) = 2 then 32768 else 128) - 1 := by
  cases wide <;> cases signed <;> rfl

theorem signedOf_eq (wide : Bool) (n : Nat) :
    signedOf (8 * fieldBytes wide) n =
      if (if (if wide then 2 else 1) = 2 then 32768 else 128) ≤ n then
        (n : Int) - 2 * (if (if wide then 2 else 1) = 2 then 32768 else 128 : Nat) else n := by
  cases wide <;> simp only [signedOf, fieldBytes] <;> simp <;> split <;> split <;> omega

theorem beq_stale (x : Freshness) : (x == .stale) = decide (x = .stale) := by cases x <;> rfl

/-- A field of an entry reads as R79 gives. -/
theorem field_reads (e : Entry) (offset : Nat) (wide signed : Bool) :
    e.Reads offset (if wide then 2 else 1) signed (e.field offset wide signed) := by
  unfold Entry.Reads
  dsimp only
  have hbytes : fieldBytes wide = if wide then 2 else 1 := rfl
  rw [← fieldBits_eq, ← noValueCode_eq, ← hbytes]
  refine ⟨field_none, fun ⟨hd, hl, hb⟩ => ?_⟩
  rw [field_some hd hl hb, beq_stale]
  congr 2
  cases signed with
  | false => simp
  | true =>
    rw [if_pos rfl, signedOf_eq]
    simp [hbytes]

/-- The inputs of the gauges, as Table 5-1 gives them. -/
theorem gaugeInput_reads (s : State) {i : Nat} (hi : i < 6) : s.GaugeReads i (s.gaugeInput i) := by
  match i with
  | 0 => rfl
  | 1 => exact field_reads _ 0 true false
  | 2 =>
    show s.fuelReading = _
    unfold State.fuelReading
    rw [beq_stale]
    cases s.counting.fuel <;> rfl
  | 3 => exact field_reads _ 2 false false
  | 4 => exact field_reads _ 3 false false
  | 5 => exact field_reads _ 1 false false

/-! ### One step of the update -/

theorem mem_issue (s : State) (r q : Request) : q ∈ (s.issue r).arith.requests ↔ q ∈ s.arith.requests ∨ q = r := by
  unfold State.issue
  rw [State.setArith_arith, mem_handOver]
  simp only [Arith.requests, List.mem_append, List.mem_singleton, or_assoc]

/-- From `s` to `u` at most gauge `i` moved, and asked. -/
structure OneGauge (s u : State) (i : Nat) : Prop where
  kept : KeptBut [.gauges, .arith] s u
  length : u.gauges.gauges.length = s.gauges.gauges.length
  timer : u.gauges.timer = s.gauges.timer
  sweep : u.gauges.sweep = s.gauges.sweep
  testMark : u.gauges.testMark = s.gauges.testMark
  others : ∀ j, j ≠ i → u.gauge j = s.gauge j
  stays : ∀ q ∈ s.arith.requests, q ∈ u.arith.requests
  asks : ∀ q ∈ u.arith.requests, q ∈ s.arith.requests ∨ q.target = .gauge i

theorem OneGauge.refl (s : State) (i : Nat) : OneGauge s s i :=
  ⟨.refl _ s, rfl, rfl, rfl, rfl, fun _ _ => rfl, fun _ h => h, fun _ h => .inl h⟩

theorem OneGauge.trans {s u v : State} {i : Nat} (h : OneGauge s u i) (k : OneGauge u v i) : OneGauge s v i :=
  ⟨h.kept.trans k.kept, k.length.trans h.length, k.timer.trans h.timer, k.sweep.trans h.sweep,
    k.testMark.trans h.testMark, fun j hj => (k.others j hj).trans (h.others j hj), fun q hq => k.stays q (h.stays q hq),
    fun q hq => (k.asks q hq).elim (h.asks q) .inr⟩

theorem modifyGauge_one (s : State) (i : Nat) (f : Gauge → Gauge) : OneGauge s (s.modifyGauge i f) i :=
  ⟨(modifyGauge_kept s i f).mono (by decide), by simp [State.modifyGauge], rfl, rfl, rfl,
    fun _ hj => gauge_modifyGauge_ne f hj, fun _ h => h, fun _ h => .inl h⟩

theorem issue_one (s : State) {i : Nat} {r : Request} (h : r.target = .gauge i) : OneGauge s (s.issue r) i :=
  ⟨(issue_kept s r).mono (by decide), rfl, rfl, rfl, rfl, fun _ _ => rfl, fun q hq => (mem_issue s r q).mpr (.inl hq),
    fun q hq => ((mem_issue s r q).mp hq).imp_right fun e => by rw [e, h]⟩

theorem evaluateGauge_one (s : State) (i : Nat) (v : Int) : OneGauge s (s.evaluateGauge i v) i := by
  unfold State.evaluateGauge
  split
  · exact modifyGauge_one s i _
  · exact (modifyGauge_one s i _).trans (issue_one _ rfl)

theorem trackGauge_one (s : State) (i : Nat) : OneGauge s (s.trackGauge i) i := by
  unfold State.trackGauge
  refine .trans ?_ (modifyGauge_one _ i _)
  split
  · split
    · exact (modifyGauge_one s i _).trans (evaluateGauge_one _ i _)
    · exact modifyGauge_one s i _
  · exact modifyGauge_one s i _

theorem updateGauge_one (s : State) (i : Nat) : OneGauge s (s.updateGauge i) i := by
  unfold State.updateGauge
  split
  · exact modifyGauge_one s i _
  · exact .refl s i
  all_goals exact trackGauge_one s i

theorem OneGauge.outstanding {s u : State} {i j : Nat} (h : OneGauge s u i) (hj : j ≠ i) :
    u.arith.outstanding (.gauge j) = s.arith.outstanding (.gauge j) := by
  rw [Bool.eq_iff_iff, outstanding_iff, outstanding_iff]
  constructor
  · rintro ⟨q, hq, ht⟩
    rcases h.asks q hq with hs | hi
    · exact ⟨q, hs, ht⟩
    · rw [hi] at ht
      exact absurd (Target.gauge.inj ht).symm hj
  · rintro ⟨q, hq, ht⟩
    exact ⟨q, h.stays q hq, ht⟩

/-! ### What the update makes of a gauge -/

/-- A gauge in TRACK, HOLD or REST after its part of the update. -/
def State.GaugeTracks (s : State) (i : Nat) (g' : Gauge) (a : Arith) : Prop :=
  let g := s.gauge i
  let f := s.gaugeFigures i
  g'.filtered = dampingStep f.shift g'.target g.filtered ∧
  (∀ a, a = (g'.filtered + 8) / 16 →
    g'.commanded ≤ g.commanded + f.slew ∧ g.commanded ≤ g'.commanded + f.slew ∧
    (a ≤ g.commanded + f.slew → g.commanded ≤ a + f.slew → g'.commanded = a) ∧
    (g.commanded + f.slew < a → g'.commanded = g.commanded + f.slew) ∧
    (a + f.slew < g.commanded → g'.commanded + f.slew = g.commanded)) ∧
  g'.parkCount = g.parkCount ∧ g'.driven = g.driven ∧
  (s.gaugeInput i = none → g'.state = .rest ∧
    (g.state ≠ .rest → g'.target = 0 ∧ g'.evaluated = none) ∧
    (g.state = .rest → g'.target = g.target ∧ g'.evaluated = g.evaluated)) ∧
  ∀ (v : Nat) (held : Bool), s.gaugeInput i = some ⟨v, held⟩ →
    g'.state = (if held then .hold else .track) ∧
    let asks := s.arith.outstanding (.gauge i) = false ∧ (g.evaluated = none ∨ (held = false ∧ g.evaluated ≠ some v))
    (¬asks → g'.target = g.target ∧ g'.evaluated = g.evaluated) ∧
    (asks → g'.evaluated = some v ∧
      (∀ y, f.curve.evaluate v = .direct y → g'.target = min 767 y) ∧
      ∀ n k c base, f.curve.evaluate v = .request n k c base → g'.target = g.target ∧
        ({ target := .gauge i, n := n, k := k, c := c, base := base, generation := 0, afterReturn := false } : Request) ∈
          a.requests)

/-- A gauge after its part of the update, by the state it was in. -/
def State.GaugeMoves (s : State) (i : Nat) (g' : Gauge) (a : Arith) : Prop :=
  let g := s.gauge i
  let f := s.gaugeFigures i
  (g.state = .sweep → g' = g) ∧
  (g.state = .parked → g.parkCount = 0 → g' = g) ∧
  (g.state = .parked → 0 < g.parkCount → g' = { g with
    commanded := g.commanded - f.slew, filtered := 16 * (g.commanded - f.slew), parkCount := g.parkCount - 1
    driven := decide (1 < g.parkCount) }) ∧
  (g.state ∈ [.track, .hold, .rest] → s.GaugeTracks i g' a)

theorem slewStep_spec (limit goal a : Nat) :
    slewStep limit goal a ≤ a + limit ∧ a ≤ slewStep limit goal a + limit ∧
      (goal ≤ a + limit → a ≤ goal + limit → slewStep limit goal a = goal) ∧
      (a + limit < goal → slewStep limit goal a = a + limit) ∧
      (goal + limit < a → slewStep limit goal a + limit = a) := by
  unfold slewStep
  split
  · omega
  · split <;> omega

theorem slewStep_zero (limit a : Nat) : slewStep limit 0 a = a - limit := by
  unfold slewStep
  split
  · omega
  · split <;> omega

theorem park_counting {f : GaugeFigures} {g : Gauge} (h : 0 < g.parkCount) :
    g.park f = { g with
      commanded := g.commanded - f.slew, filtered := 16 * (g.commanded - f.slew), parkCount := g.parkCount - 1
      driven := decide (1 < g.parkCount) } := by
  unfold Gauge.park
  rw [if_neg (by omega), slewStep_zero]

theorem gaugeAsks_iff (s : State) (i v : Nat) (held : Bool) :
    s.gaugeAsks i ⟨v, held⟩ = true ↔ s.arith.outstanding (.gauge i) = false ∧
      ((s.gauge i).evaluated = none ∨ (held = false ∧ (s.gauge i).evaluated ≠ some v)) := by
  unfold State.gaugeAsks
  cases (s.gauge i).evaluated with
  | none => simp
  | some w => simp [eq_comm (a := v)]

/-- What the last part of a gauge's turn leaves, from the target, value and state it is given. -/
theorem approach_tracks {s : State} {i : Nat} {g₀ : Gauge} {a : Arith} (hf : g₀.filtered = (s.gauge i).filtered)
    (hc : g₀.commanded = (s.gauge i).commanded) (hp : g₀.parkCount = (s.gauge i).parkCount)
    (hd : g₀.driven = (s.gauge i).driven)
    (hnone : s.gaugeInput i = none → g₀.state = .rest ∧
      ((s.gauge i).state ≠ .rest → g₀.target = 0 ∧ g₀.evaluated = none) ∧
      ((s.gauge i).state = .rest → g₀.target = (s.gauge i).target ∧ g₀.evaluated = (s.gauge i).evaluated))
    (hsome : ∀ (v : Nat) (held : Bool), s.gaugeInput i = some ⟨v, held⟩ →
      g₀.state = (if held then .hold else .track) ∧
      (s.gaugeAsks i ⟨v, held⟩ = false → g₀.target = (s.gauge i).target ∧ g₀.evaluated = (s.gauge i).evaluated) ∧
      (s.gaugeAsks i ⟨v, held⟩ = true → g₀.evaluated = some v ∧
        (∀ y, (s.gaugeFigures i).curve.evaluate v = .direct y → g₀.target = min 767 y) ∧
        ∀ n k c base, (s.gaugeFigures i).curve.evaluate v = .request n k c base → g₀.target = (s.gauge i).target ∧
          ({ target := .gauge i, n := n, k := k, c := c, base := base, generation := 0, afterReturn := false } : Request) ∈
            a.requests)) : s.GaugeTracks i (g₀.approach (s.gaugeFigures i)) a := by
  refine ⟨?_, ?_, hp, hd, hnone, fun v held h => ?_⟩
  · rw [← hf]
    rfl
  · rintro _ rfl
    rw [← hc]
    exact slewStep_spec _ _ _
  · obtain ⟨hstate, hstill, hask⟩ := hsome v held h
    exact ⟨hstate, fun hn => hstill (by rwa [Bool.eq_false_iff, ne_eq, gaugeAsks_iff]),
      fun ha => hask ((gaugeAsks_iff s i v held).mpr ha)⟩

/-- The state in which gauge `i` has followed its input. -/
def State.follows (s : State) (i : Nat) : State := s.modifyGauge i (Gauge.follow (s.gaugeInput i))

theorem follows_gauge {s : State} {i : Nat} (hi : i < s.gauges.gauges.length) :
    (s.follows i).gauge i = (s.gauge i).follow (s.gaugeInput i) := gauge_modifyGauge_same _ hi

theorem follow_some (v : Int) (held : Bool) (g : Gauge) :
    g.follow (some ⟨v, held⟩) = { g with state := if held then .hold else .track } := by cases held <;> rfl

theorem follows_asks {s : State} {i : Nat} {v : Int} {held : Bool} (hi : i < s.gauges.gauges.length)
    (h : s.gaugeInput i = some ⟨v, held⟩) : (s.follows i).gaugeAsks i ⟨v, held⟩ = s.gaugeAsks i ⟨v, held⟩ := by
  unfold State.gaugeAsks
  rw [follows_gauge hi, h, follow_some]
  rfl

theorem trackGauge_none {s : State} {i : Nat} (h : s.gaugeInput i = none) :
    s.trackGauge i = (s.follows i).modifyGauge i (Gauge.approach (s.gaugeFigures i)) := by
  unfold State.trackGauge State.follows
  rw [h]

theorem trackGauge_some {s : State} {i : Nat} {r : Reading} (h : s.gaugeInput i = some r) :
    s.trackGauge i =
      (if (s.follows i).gaugeAsks i r then (s.follows i).evaluateGauge i r.value else s.follows i).modifyGauge i
        (Gauge.approach (s.gaugeFigures i)) := by
  unfold State.trackGauge State.follows
  rw [h]

theorem rest_spec (g : Gauge) :
    g.rest.state = .rest ∧ (g.state ≠ .rest → g.rest.target = 0 ∧ g.rest.evaluated = none) ∧
      (g.state = .rest → g.rest.target = g.target ∧ g.rest.evaluated = g.evaluated) ∧
      g.rest.filtered = g.filtered ∧ g.rest.commanded = g.commanded ∧ g.rest.parkCount = g.parkCount ∧
      g.rest.driven = g.driven := by
  unfold Gauge.rest
  by_cases h : g.state = .rest
  · simp [h]
  · simp [h]

/-- The evaluated gauge: its value noted, its target set or asked for. -/
theorem evaluateGauge_gauge {s : State} {i : Nat} (hi : i < s.gauges.gauges.length) (v : Int) :
    ((s.evaluateGauge i v).gauge i) = { s.gauge i with
      evaluated := some v.toNat
      target := match (s.gaugeFigures i).curve.evaluate v with
        | .direct y => min 767 y
        | .request .. => (s.gauge i).target } := by
  unfold State.evaluateGauge
  cases (s.gaugeFigures i).curve.evaluate v with
  | direct y => exact gauge_modifyGauge_same _ hi
  | request n k c base => exact gauge_modifyGauge_same _ hi

theorem evaluateGauge_request {s : State} {i : Nat} {v : Int} {n k c base : Nat}
    (h : (s.gaugeFigures i).curve.evaluate v = .request n k c base) :
    ({ target := .gauge i, n := n, k := k, c := c, base := base, generation := 0, afterReturn := false } : Request) ∈
      (s.evaluateGauge i v).arith.requests := by
  unfold State.evaluateGauge
  rw [h]
  exact (mem_issue _ _ _).mpr (.inr rfl)

theorem modifyGauge_gauge {s u : State} {i : Nat} (h : OneGauge s u i) (hi : i < s.gauges.gauges.length)
    (f : Gauge → Gauge) : (u.modifyGauge i f).gauge i = f (u.gauge i) :=
  gauge_modifyGauge_same f (h.length ▸ hi)

theorem follows_one (s : State) (i : Nat) : OneGauge s (s.follows i) i := modifyGauge_one s i _

theorem trackGauge_silent {s : State} {i : Nat} (hi : i < s.gauges.gauges.length) (h : s.gaugeInput i = none) :
    s.GaugeTracks i ((s.trackGauge i).gauge i) (s.trackGauge i).arith := by
  obtain ⟨hstate, hother, hrest, hf, hc, hp, hd⟩ := rest_spec (s.gauge i)
  have hg : (s.follows i).gauge i = (s.gauge i).rest := by
    rw [follows_gauge hi, h]
    rfl
  rw [trackGauge_none h, modifyGauge_gauge (follows_one s i) hi, hg]
  exact approach_tracks hf hc hp hd (fun _ => ⟨hstate, hother, hrest⟩) fun v held hv => by simp [h] at hv

theorem trackGauge_still {s : State} {i : Nat} {r : Reading} (hi : i < s.gauges.gauges.length)
    (h : s.gaugeInput i = some r) (ha : s.gaugeAsks i r = false) :
    s.GaugeTracks i ((s.trackGauge i).gauge i) (s.trackGauge i).arith := by
  obtain ⟨v, held⟩ := r
  have hg : (s.follows i).gauge i = { s.gauge i with state := if held then .hold else .track } := by
    rw [follows_gauge hi, h, follow_some]
  have he : s.trackGauge i = (s.follows i).modifyGauge i (Gauge.approach (s.gaugeFigures i)) := by
    rw [trackGauge_some h, follows_asks hi h, ha]
    rfl
  rw [he, modifyGauge_gauge (follows_one s i) hi, hg]
  refine approach_tracks rfl rfl rfl rfl (fun hn => by simp [h] at hn) fun w held' hw => ?_
  obtain ⟨rfl, rfl⟩ : v = (w : Int) ∧ held = held' := by simpa [h] using hw
  exact ⟨rfl, fun _ => ⟨rfl, rfl⟩, fun hasks => by rw [ha] at hasks; cases hasks⟩

theorem trackGauge_asking {s : State} {i : Nat} {r : Reading} (hi : i < s.gauges.gauges.length)
    (h : s.gaugeInput i = some r) (ha : s.gaugeAsks i r = true) :
    s.GaugeTracks i ((s.trackGauge i).gauge i) (s.trackGauge i).arith := by
  obtain ⟨v, held⟩ := r
  have hg : (s.follows i).gauge i = { s.gauge i with state := if held then .hold else .track } := by
    rw [follows_gauge hi, h, follow_some]
  have he : s.trackGauge i = ((s.follows i).evaluateGauge i v).modifyGauge i (Gauge.approach (s.gaugeFigures i)) := by
    rw [trackGauge_some h, follows_asks hi h, ha]
    rfl
  have hone := (follows_one s i).trans (evaluateGauge_one (s.follows i) i v)
  have heval := evaluateGauge_gauge (s := s.follows i) (i := i) ((follows_one s i).length ▸ hi) v
  rw [hg] at heval
  rw [he, modifyGauge_gauge hone hi, heval]
  refine approach_tracks rfl rfl rfl rfl (fun hn => by simp [h] at hn) fun w held' hw => ?_
  obtain ⟨rfl, rfl⟩ : v = (w : Int) ∧ held = held' := by simpa [h] using hw
  have hyes : s.gaugeAsks i ⟨(w : Int), held⟩ ≠ false := by rw [ha]; nofun
  refine ⟨rfl, fun hasks => absurd hasks hyes, fun _ => ⟨rfl, fun y hy => ?_, fun n k c base hq => ⟨?_, ?_⟩⟩⟩
  · show (match (s.gaugeFigures i).curve.evaluate w with | .direct y => min 767 y | .request .. => _) = _
    rw [hy]
  · show (match (s.gaugeFigures i).curve.evaluate w with | .direct y => min 767 y | .request .. => _) = _
    rw [hq]
  · exact evaluateGauge_request hq

theorem trackGauge_tracks {s : State} {i : Nat} (hi : i < s.gauges.gauges.length) :
    s.GaugeTracks i ((s.trackGauge i).gauge i) (s.trackGauge i).arith := by
  cases h : s.gaugeInput i with
  | none => exact trackGauge_silent hi h
  | some r =>
    cases ha : s.gaugeAsks i r with
    | false => exact trackGauge_still hi h ha
    | true => exact trackGauge_asking hi h ha

theorem updateGauge_moves {s : State} {i : Nat} (hi : i < s.gauges.gauges.length) :
    s.GaugeMoves i ((s.updateGauge i).gauge i) (s.updateGauge i).arith := by
  unfold State.updateGauge
  split
  case h_1 hstate =>
    rw [gauge_modifyGauge_same _ hi]
    refine ⟨fun h => ?_, fun _ hp => if_pos hp, fun _ hp => park_counting hp, fun h => ?_⟩
    · rw [hstate] at h
      cases h
    · rw [hstate] at h
      simp at h
  case h_2 hstate =>
    refine ⟨fun _ => rfl, fun h => ?_, fun h => ?_, fun h => ?_⟩ <;> rw [hstate] at h
    · cases h
    · cases h
    · simp at h
  all_goals
    rename_i hstate
    refine ⟨fun h => ?_, fun h => ?_, fun h => ?_, fun _ => trackGauge_tracks hi⟩ <;>
      rw [hstate] at h <;> cases h

/-! ### The whole update -/

theorem gaugeInput_congr {s u : State} (h : KeptBut [.gauges, .arith] s u) (i : Nat) : u.gaugeInput i = s.gaugeInput i := by
  unfold State.gaugeInput State.rpm State.fuelReading State.coolant State.oil State.battery State.entry
  rw [h.counting, h.topics]

theorem gaugeFigures_congr {s u : State} (h : u.cal = s.cal) (i : Nat) : u.gaugeFigures i = s.gaugeFigures i := by
  unfold State.gaugeFigures
  rw [h]

/-- What a gauge's turn does is told alike before and after the turns of others. -/
theorem State.GaugeMoves.of_other {s u : State} {i j : Nat} {g : Gauge} {a : Arith} (h : OneGauge s u j) (hj : i ≠ j)
    (k : u.GaugeMoves i g a) : s.GaugeMoves i g a := by
  unfold State.GaugeMoves State.GaugeTracks at k ⊢
  rwa [h.others i hj, gaugeFigures_congr h.kept.cal, gaugeInput_congr h.kept, h.outstanding hj] at k

theorem State.GaugeMoves.mono {s : State} {i : Nat} {g : Gauge} {a b : Arith} (h : ∀ q ∈ a.requests, q ∈ b.requests)
    (k : s.GaugeMoves i g a) : s.GaugeMoves i g b := by
  obtain ⟨hsweep, hstill, hparks, htracks⟩ := k
  refine ⟨hsweep, hstill, hparks, fun hs => ?_⟩
  obtain ⟨hf, hc, hp, hd, hnone, hsome⟩ := htracks hs
  refine ⟨hf, hc, hp, hd, hnone, fun v held hv => ?_⟩
  obtain ⟨hstate, hno, hyes⟩ := hsome v held hv
  refine ⟨hstate, hno, fun ha => ?_⟩
  obtain ⟨he, hdirect, hrequest⟩ := hyes ha
  exact ⟨he, hdirect, fun n k c base hq => ⟨(hrequest n k c base hq).1, h _ (hrequest n k c base hq).2⟩⟩

/-- The turns of the gauges of a list. -/
structure GaugesMoved (s u : State) (is : List Nat) : Prop where
  kept : KeptBut [.gauges, .arith] s u
  timer : u.gauges.timer = s.gauges.timer
  sweep : u.gauges.sweep = s.gauges.sweep
  testMark : u.gauges.testMark = s.gauges.testMark
  stays : ∀ q ∈ s.arith.requests, q ∈ u.arith.requests
  others : ∀ i, i ∉ is → u.gauge i = s.gauge i
  moves : ∀ i ∈ is, s.GaugeMoves i (u.gauge i) u.arith

theorem foldl_updateGauge (is : List Nat) : ∀ s : State, is.Nodup → (∀ i ∈ is, i < s.gauges.gauges.length) →
    GaugesMoved s (is.foldl State.updateGauge s) is := by
  induction is with
  | nil => exact fun s _ _ => ⟨.refl _ s, rfl, rfl, rfl, fun _ h => h, fun _ _ => rfl, nofun⟩
  | cons j is ih =>
    intro s hnodup hlength
    obtain ⟨hj, hnodup⟩ := List.nodup_cons.mp hnodup
    have hone := updateGauge_one s j
    have hrest := ih (s.updateGauge j) hnodup fun i hi => by
      rw [hone.length]
      exact hlength i (List.mem_cons_of_mem _ hi)
    rw [List.foldl_cons]
    refine ⟨hone.kept.trans hrest.kept, hrest.timer.trans hone.timer, hrest.sweep.trans hone.sweep,
      hrest.testMark.trans hone.testMark, fun q hq => hrest.stays q (hone.stays q hq), fun i hi => ?_, fun i hi => ?_⟩
    · obtain ⟨hne, hi⟩ : i ≠ j ∧ i ∉ is := by simpa using hi
      exact (hrest.others i hi).trans (hone.others i hne)
    · rcases List.mem_cons.mp hi with rfl | hi
      · rw [hrest.others i hj]
        exact (updateGauge_moves (hlength i hi)).mono hrest.stays
      · exact (hrest.moves i hi).of_other hone fun e => hj (e ▸ hi)

/-- The state in which the update's timer runs again. -/
def State.gaugeTimed (s : State) : State := s.setGauges { s.gauges with timer := some 2 }

/-- Settles O42: the coil table, the inputs, and the update gauge by gauge. -/
theorem gaugesFollowInputs : Obligations.GaugesFollowInputs := by
  refine ⟨⟨coilTable_values, coilTable_rises, coilTable_length⟩, fun s i hi => gaugeInput_reads s hi, fun s ht hl => ?_⟩
  have hmoved := foldl_updateGauge (List.range 6) s.gaugeTimed List.nodup_range fun i hi => by
    rw [show s.gaugeTimed.gauges.gauges.length = 6 from hl]
    exact List.mem_range.mp hi
  have hexec : exec .gaugeUpdate s = .next (State.present s s.gaugeTimed.updateGauges) := exec_next rfl (if_pos ht)
  refine ⟨_, hexec, present_frame (((setGauges_kept s _).mono (by decide)).trans hmoved.kept), ?_, ?_, ?_,
    fun i _ => coilsFollow _, fun i hi => ?_⟩
  · rw [State.present_gauges]
    exact hmoved.timer
  · rw [State.present_gauges]
    exact hmoved.sweep
  · rw [State.present_gauges]
    exact hmoved.testMark
  · have hgauge : (State.present s s.gaugeTimed.updateGauges).gauge i = s.gaugeTimed.updateGauges.gauge i := by
      unfold State.gauge
      rw [State.present_gauges]
    rw [hgauge, State.present_arith]
    exact hmoved.moves i (List.mem_range.mpr hi)
end Sys2Proof.Machine
end

section
/-! SUPPORT. Sending: the head of the queue, the bits of a frame, and what a sent or clashed message leaves. Settles
O35. -/
namespace Sys2Proof.Machine
set_option Elab.async false

/-! ### The head of the queue -/

theorem mem_take_iff {α : Type} {l : List α} {n : Nat} {a : α} : a ∈ l.take n ↔ ∃ k < n, l[k]? = some a := by
  simp only [List.mem_iff_getElem?, List.getElem?_take]
  constructor
  · rintro ⟨k, hk⟩
    split at hk
    · exact ⟨k, ‹_›, hk⟩
    · cases hk
  · rintro ⟨k, hk, ha⟩
    exact ⟨k, by rw [if_pos hk, ha]⟩

theorem eligibleAt_iff {q : List Msg} {i : Nat} {m : Msg} (h : q[i]? = some m) :
    eligibleAt q i = true ↔ ∀ k o, k < i → q[k]? = some o → o.topic ≠ m.topic := by
  unfold eligibleAt
  rw [h]
  simp only [List.all_eq_true, bne_iff_ne]
  constructor
  · intro hall k o hk ho
    exact hall o (mem_take_iff.mpr ⟨k, hk, ho⟩)
  · intro hall o ho
    obtain ⟨k, hk, ho⟩ := mem_take_iff.mp ho
    exact hall k o hk ho

/-- The candidates for sending of one class. -/
theorem candidate_iff (q : List Msg) (c i : Nat) :
    (eligibleAt q i && (q[i]?.map (·.cls)) == some c) = true ↔
      ∃ m, q[i]? = some m ∧ m.cls = c ∧ ∀ k o, k < i → q[k]? = some o → o.topic ≠ m.topic := by
  rw [Bool.and_eq_true, beq_iff_eq, Option.map_eq_some_iff]
  constructor
  · rintro ⟨he, m, hm, hc⟩
    exact ⟨m, hm, hc, (eligibleAt_iff hm).mp he⟩
  · rintro ⟨m, hm, hc, he⟩
    exact ⟨(eligibleAt_iff hm).mpr he, m, hm, hc⟩

theorem headIndex_eq {q : List Msg} {i : Nat} {m : Msg} (h : IsHead q i m) (hc : m.cls ≤ 3) : headIndex q = some i := by
  obtain ⟨hm, hfirst, hbest⟩ := h
  have hi : i < q.length := (List.getElem?_eq_some_iff.mp hm).1
  have hlower : ∀ c < m.cls, firstIndex q.length (fun i => eligibleAt q i && (q[i]?.map (·.cls)) == some c) = none := by
    intro c hcm
    refine List.find?_range_eq_none.mpr fun j _ => ?_
    rw [Bool.not_eq_true', Bool.eq_false_iff, ne_eq, candidate_iff]
    rintro ⟨n, hn, hnc, he⟩
    have := hbest j n hn he
    omega
  have hhere : firstIndex q.length (fun i => eligibleAt q i && (q[i]?.map (·.cls)) == some m.cls) = some i := by
    refine List.find?_range_eq_some.mpr ⟨(candidate_iff q _ i).mpr ⟨m, hm, rfl, hfirst⟩, by simpa using hi, fun j hj => ?_⟩
    rw [Bool.not_eq_true', Bool.eq_false_iff, ne_eq, candidate_iff]
    rintro ⟨n, hn, hnc, he⟩
    have := hbest j n hn he
    omega
  unfold headIndex
  rw [show List.range 4 = [0, 1, 2, 3] from rfl]
  generalize m.cls = c at *
  interval_cases c <;> simp [hlower, hhere]

/-! ### The bits of a list of bytes -/

/-- In a list of equal blocks the place of an item is told by its block and its place in the block. -/
theorem getElem?_flatMap_blocks {α β : Type} {f : α → List β} {n : Nat} (hf : ∀ a, (f a).length = n) (l : List α)
    {j k : Nat} (hk : k < n) : (l.flatMap f)[n * j + k]? = l[j]?.bind fun a => (f a)[k]? := by
  induction l generalizing j with
  | nil => simp
  | cons a l ih =>
    rw [List.flatMap_cons]
    cases j with
    | zero => simp [List.getElem?_append_left (l₁ := f a) (by rw [hf]; exact hk)]
    | succ j =>
      rw [List.getElem?_append_right (by rw [hf, Nat.mul_succ]; omega), hf,
        show n * (j + 1) + k - n = n * j + k by rw [Nat.mul_succ]; omega, ih]
      simp

theorem getElem?_muxBits (b : Byte) :
    (muxBits b)[0]? = some true ∧ (muxBits b)[9]? = some false ∧ ∀ k < 8, (muxBits b)[1 + k]? = some !(b.toNat.testBit k) := by
  refine ⟨rfl, rfl, fun k hk => ?_⟩
  unfold muxBits
  rw [Nat.add_comm, List.cons_append, List.getElem?_cons_succ, List.getElem?_append_left (by simpa using hk)]
  simp [hk]

theorem sentBits_get {l : LineStation} {j : Nat} (hj : j < l.sent.length) {k : Nat} (hk : k < 10) :
    l.sentBits[10 * j + k]? = (muxBits (l.sent[j]))[k]? := by
  unfold LineStation.sentBits
  rw [getElem?_flatMap_blocks muxBits_length l.sent hk, List.getElem?_eq_getElem hj]
  rfl

theorem byteAt_getElem {bs : List Byte} {j : Nat} (h : j < bs.length) : byteAt bs j = (bs[j]).toNat := by
  simp [byteAt, h]

/-- The bits of a byte on the line: start bit, the byte from its least significant bit, stop bit. -/
theorem sentBits_byte {l : LineStation} {j : Nat} (hj : j < l.sent.length) :
    l.sentBits[10 * j]? = some true ∧ l.sentBits[10 * j + 9]? = some false ∧
      ∀ k < 8, l.sentBits[10 * j + 1 + k]? = some !(bitAt l.sent j k) := by
  obtain ⟨hstart, hstop, hbits⟩ := getElem?_muxBits l.sent[j]
  refine ⟨(sentBits_get hj (k := 0) (by omega)).trans hstart, (sentBits_get hj (by omega)).trans hstop, fun k hk => ?_⟩
  rw [Nat.add_assoc, sentBits_get hj (by omega), hbits k hk, bitAt, byteAt_getElem hj]

/-! ### The start of a message -/

/-- The line once the message at `i` has been started. -/
def LineStation.started (l : LineStation) (i : Nat) (m : Msg) (station : Nat) : LineStation :=
  { l with
    state := .sending, quiet := 0, drivenTime := 0, sendBits := 10 * (m.data.length + 4), sent := m.frame station
    queue := l.queue.set i { m with started := true, sending := true } }

theorem modify_eq_set {α : Type} {l : List α} {i : Nat} {a : α} (h : l[i]? = some a) (f : α → α) :
    l.modify i f = l.set i (f a) := by
  rw [List.modify_eq_set_getElem?, h]
  rfl

theorem startSending_eq {l : LineStation} {i : Nat} {m : Msg} (h : IsHead l.queue i m) (hc : m.cls ≤ 3) (station : Nat) :
    l.startSending station = l.started i m station := by
  have hhead : l.head = some (i, m) := by
    unfold LineStation.head
    rw [headIndex_eq h hc]
    dsimp only
    rw [h.1]
    rfl
  unfold LineStation.startSending
  rw [hhead]
  dsimp only
  rw [modify_eq_set h.1]
  rfl

theorem started_sentBits (l : LineStation) (i : Nat) (m : Msg) (station : Nat) :
    (l.started i m station).sentBits.length = (l.started i m station).sendBits := by
  rw [LineStation.sentBits_length]
  exact congrArg (10 * ·) (Msg.frame_length station m)

/-- The line is driven as the bits sent so far tell. -/
theorem muxDriven_sending {l : LineStation} (h : l.state = .sending) (hl : l.sentBits.length = l.sendBits) (n : Nat) :
    { l with sendBits := l.sendBits - n }.muxDriven = l.sentBits.getD (min n l.sendBits) false := by
  unfold LineStation.muxDriven
  rw [show ({ l with sendBits := l.sendBits - n } : LineStation).state = .sending from h]
  show l.sentBits.getD (l.sentBits.length - (l.sendBits - n)) false = _
  rw [hl, show l.sendBits - (l.sendBits - n) = min n l.sendBits by omega]

theorem frameItems_eq (station : Nat) (m : Msg) :
    m.frameItems station =
      [byteOf (64 * m.cls + 16 * (if m.kind = .reply then 2 else 0) + station), byteOf m.topic,
        byteOf (16 * m.seq + m.data.length)] ++ m.data := by
  unfold Msg.frameItems
  cases m.kind <;> rfl

/-- Access in QUIET. -/
theorem exec_accessWaitReached {s : State} {i : Nat} {m : Msg} (hq : s.line.state = .quiet) (ha : s.ign.awake = true)
    (hh : IsHead s.line.queue i m) (hc : m.cls ≤ 3) :
    exec .accessWaitReached s = .next (State.present s (s.setLine (s.line.started i m s.cal.station))) :=
  exec_next rfl ((if_pos ⟨hq, ha⟩).trans (congrArg s.setLine (startSending_eq hh hc _)))

/-! ### The end of a message -/

theorem sendingIndex_eq {l : LineStation} {i : Nat} {m : Msg} (hm : l.queue[i]? = some m) (hs : m.sending = true)
    (hfirst : ∀ j n, j < i → l.queue[j]? = some n → n.sending = false) : l.sendingIndex = some i := by
  obtain ⟨hi, rfl⟩ := List.getElem?_eq_some_iff.mp hm
  refine List.findIdx?_eq_some_iff_getElem.mpr ⟨hi, hs, fun j hj => ?_⟩
  rw [hfirst j _ hj (List.getElem?_eq_getElem (hj.trans hi))]
  nofun

/-- The handler once a message has left the queue. -/
def State.handlerAfter (s : State) (m : Msg) : Handler :=
  if m.answer = .own then { s.handler with state := .idle } else s.handler

theorem replyLeft_eq (s : State) (m : Msg) : s.replyLeft m = s.setHandler (s.handlerAfter m) := by
  unfold State.replyLeft State.handlerAfter
  split <;> rfl

theorem holdupExit_elsewhere {s : State} (h : s.ign ≠ .holdup) : s.holdupExit = s := if_neg fun k => h k.1

/-- A command that gives the line and the handler new values and leaves the other blocks. -/
theorem exec_setLine_setHandler {c : Instr} {s : State} {l : LineStation} {x : Handler}
    (h : exec c s = .next (State.present s ((s.setHandler x).setLine l))) :
    ∃ t, exec c s = .next t ∧ KeptBut [.line, .handler, .display] s t ∧ t.handler = x ∧ t.line = l :=
  ⟨_, h, present_frame (KeptBut.andThen (cs := [.handler, .line]) (setHandler_kept s x) (setLine_kept _ l)),
    State.present_handler _ _, State.present_line _ _⟩

/-- The line once the message at `i` has been sent. -/
def LineStation.departed (l : LineStation) (i : Nat) : LineStation :=
  { l with state := .quiet, quiet := 0, sendBits := 0, sent := [], queue := l.queue.eraseIdx i }

theorem messageSent_eq {s : State} {i : Nat} {m : Msg} (hsend : s.line.state = .sending) (hm : s.line.queue[i]? = some m)
    (hi : s.line.sendingIndex = some i) :
    s.messageSent = (s.setHandler (s.handlerAfter m)).setLine (s.line.departed i) := by
  unfold State.messageSent
  rw [if_pos hsend]
  unfold State.departSending
  rw [hi]
  dsimp only
  rw [hm]
  dsimp only
  rw [replyLeft_eq]
  rfl

/-- The line as a clash leaves it, but for the queue. -/
def LineStation.met (l : LineStation) (first : Bool) : LineStation :=
  { l with
    clashes := min 65535 (l.clashes + 1), state := if first then .receiving else .breaking
    awaitsRelease := first || l.awaitsRelease, sendBits := if first then 0 else 12, sent := []
    driven := first || l.driven, drivenTime := if first then 10 else l.drivenTime }

theorem met_driven (l : LineStation) (first : Bool) : (l.met first).muxDriven = !first := by cases first <;> rfl

theorem clash_eq {s : State} (h : s.line.state = .sending) (first : Bool) :
    s.clash first = s.clashMessage.setLine (s.clashMessage.line.met first) := by
  unfold State.clash
  rw [if_pos h]
  cases first <;> rfl

theorem clash_again {s : State} {i : Nat} {m : Msg} (hsend : s.line.state = .sending) (hm : s.line.queue[i]? = some m)
    (hi : s.line.sendingIndex = some i) (ha : m.attempts < 15) (first : Bool) :
    s.clash first = s.setLine { s.line.met first with
      queue := s.line.queue.set i { m with
        sending := false, attempts := m.attempts + 1, stagger := s.cal.station * (m.attempts + 1) % 5 + 1 } } := by
  have hmessage : s.clashMessage =
      s.setLine { s.line with queue := s.line.queue.modify i (Msg.clashed s.cal.station) } := by
    unfold State.clashMessage
    rw [hi]
    dsimp only
    rw [hm]
    exact if_neg (by omega)
  rw [clash_eq hsend, hmessage, modify_eq_set hm]
  rfl

theorem clash_last {s : State} {i : Nat} {m : Msg} (hsend : s.line.state = .sending) (hm : s.line.queue[i]? = some m)
    (hi : s.line.sendingIndex = some i) (ha : 15 ≤ m.attempts) (first : Bool) :
    s.clash first = (s.setHandler (s.handlerAfter m)).setLine
      { s.line.met first with queue := s.line.queue.eraseIdx i, dropped := min 255 (s.line.dropped + 1) } := by
  have hmessage : s.clashMessage =
      (s.setLine ({ s.line with queue := s.line.queue.eraseIdx i }.drop)).replyLeft m := by
    unfold State.clashMessage
    rw [hi]
    dsimp only
    rw [hm]
    exact if_pos (by omega)
  rw [clash_eq hsend, hmessage, replyLeft_eq]
  rfl

theorem exec_messageSent {s u : State} (h : s.messageSent = u) (hu : u.ignition = s.ignition) (hs : s.ign ≠ .holdup) :
    exec .messageSent s = .next (State.present s u) := by
  refine exec_next rfl ?_
  rw [h]
  exact holdupExit_elsewhere (by rw [State.ign, hu]; exact hs)

theorem exec_clash {s u : State} {first : Bool} (h : s.clash first = u) (hu : u.ignition = s.ignition)
    (hs : s.ign ≠ .holdup) : exec (.clash first) s = .next (State.present s u) := by
  refine exec_next rfl ?_
  rw [h]
  exact holdupExit_elsewhere (by rw [State.ign, hu]; exact hs)

/-- Settles O35: access, the message sent, and the clash. -/
theorem sendingTakesTheHead : Obligations.SendingTakesTheHead := by
  refine fun s i m => ⟨fun hq ha hh hc => ?_, fun hsend hs hm hsending hfirst => ?_⟩
  · have hlength : (m.frame s.cal.station).length = m.data.length + 4 := Msg.frame_length _ m
    have hbits := started_sentBits s.line i m s.cal.station
    have hdriven := muxDriven_sending (l := s.line.started i m s.cal.station) rfl hbits
    refine ⟨_, m.frame s.cal.station, exec_accessWaitReached hq ha hh hc, present_frame (setLine_kept s _), hlength,
      byteSum_checked _, (Msg.frame_take _ m).trans (frameItems_eq _ m), State.present_line _ _, ?_⟩
    rw [State.present_line]
    show (s.line.started i m s.cal.station).muxDriven = true ∧ _
    refine ⟨?_, hbits, hdriven, fun j hj => sentBits_byte (l := s.line.started i m s.cal.station) hj⟩
    have hstart := (sentBits_byte (l := s.line.started i m s.cal.station) (j := 0)
      (by show 0 < (m.frame s.cal.station).length; omega)).1
    rw [show (s.line.started i m s.cal.station).muxDriven = _ from hdriven 0, Nat.zero_min,
      List.getD_eq_getElem?_getD, hstart]
    rfl
  · have hi := sendingIndex_eq hm hsending hfirst
    refine ⟨?_, fun first => ⟨met_driven _ _, fun ha => ?_, fun ha => ?_⟩, ?_⟩
    · obtain ⟨t, hexec, hkept, hhandler, hline⟩ :=
        exec_setLine_setHandler (exec_messageSent (messageSent_eq hsend hm hi) rfl hs)
      exact ⟨t, hexec, hkept, hhandler, hline, by rw [hline]; rfl⟩
    · exact exec_setLine (exec_clash (clash_again hsend hm hi ha first) rfl hs) rfl
    · exact exec_setLine_setHandler (exec_clash (clash_last hsend hm hi ha first) rfl hs)
    · exact (exec_next rfl (if_pos hsend)).trans rfl
end Sys2Proof.Machine
end

section
/-! SUPPORT. Publications: a message that finds the queue open, full, or one of its topic waiting; the items of 41h, 42h
and 43h. Settles O36. -/
namespace Sys2Proof.Machine
set_option Elab.async false

/-! ### Codes packed into bytes -/

theorem testBit_packCodes {w : Nat} {cs : List Nat} (h : ∀ c ∈ cs, c < 2 ^ w) (k : Nat) {j : Nat} (hj : j < w) :
    (packCodes w cs).testBit (w * k + j) = (cs.getD k 0).testBit j := by
  induction cs generalizing k with
  | nil => simp [packCodes]
  | cons c cs ih =>
    obtain ⟨hc, hcs⟩ := List.forall_mem_cons.mp h
    rw [packCodes, Nat.add_comm, Nat.testBit_two_pow_mul_add _ hc]
    cases k with
    | zero => simp [hj]
    | succ k =>
      rw [if_neg (by rw [Nat.mul_succ]; omega), show w * (k + 1) + j - w = w * k + j by rw [Nat.mul_succ]; omega,
        ih hcs]
      rfl

theorem flagNat_lt (b : Bool) : flagNat b < 2 ^ 1 := by cases b <;> decide

theorem testBit_flags (bs : List Bool) (k : Nat) : (packCodes 1 (bs.map flagNat)).testBit k = bs.getD k false := by
  have h := testBit_packCodes (w := 1) (cs := bs.map flagNat)
    (fun c hc => by obtain ⟨b, -, rfl⟩ := List.mem_map.mp hc; exact flagNat_lt b) k (j := 0) (by omega)
  rw [Nat.one_mul, Nat.add_zero] at h
  rw [h, List.getD_eq_getElem?_getD, List.getD_eq_getElem?_getD, List.getElem?_map]
  cases bs[k]? with
  | none => rfl
  | some b => cases b <;> rfl

theorem packCodes_lt {w : Nat} {cs : List Nat} (h : ∀ c ∈ cs, c < 2 ^ w) : packCodes w cs < 2 ^ (w * cs.length) := by
  induction cs with
  | nil => simp [packCodes]
  | cons c cs ih =>
    obtain ⟨hc, hcs⟩ := List.forall_mem_cons.mp h
    have := ih hcs
    rw [packCodes, List.length_cons, Nat.mul_succ, Nat.add_comm (w * cs.length), Nat.pow_add]
    calc c + 2 ^ w * packCodes w cs < 2 ^ w + 2 ^ w * packCodes w cs := by omega
      _ = 2 ^ w * (packCodes w cs + 1) := by ring
      _ ≤ 2 ^ w * 2 ^ (w * cs.length) := Nat.mul_le_mul_left _ this

theorem testBit_byteOf (n : Nat) {k : Nat} (h : k < 8) : (byteOf n).toNat.testBit k = n.testBit k := by
  rw [byteOf, BitVec.toNat_ofNat, Nat.testBit_mod_two_pow, decide_eq_true h, Bool.true_and]

theorem toNat_byteOf {n : Nat} (h : n < 256) : (byteOf n).toNat = n := by
  simp [byteOf, Nat.mod_eq_of_lt h]

/-! ### A message that does not find the queue open -/

/-- A waiting message of the topic takes the new items in place. -/
theorem queue_coalesce {s : State} {topic cls : Nat} {kind : MsgKind} {data : List Byte} {i : Nat} {m : Msg}
    (hm : s.line.queue[i]? = some m) (ht : m.topic = topic) (hs : m.started = false)
    (hfirst : ∀ j n, j < i → s.line.queue[j]? = some n → n.topic = topic → n.started = true) :
    s.queue topic cls kind data .none = s.setLine { s.line with
      seqs := s.line.seqs.advance topic
      queue := s.line.queue.set i { Msg.entered cls kind topic ((s.line.seqs.advance topic).get topic) data .none with
        started := m.started, sending := m.sending, attempts := m.attempts, stagger := m.stagger } } := by
  obtain ⟨hi, hget⟩ := List.getElem?_eq_some_iff.mp hm
  have hfind : s.line.queue.findIdx? (Msg.unstarted topic) = some i := by
    refine List.findIdx?_eq_some_iff_getElem.mpr ⟨hi, by simp [Msg.unstarted, hget, ht, hs], fun j hj => ?_⟩
    have := hfirst j _ hj (List.getElem?_eq_getElem (hj.trans hi))
    simpa [Msg.unstarted] using this
  unfold State.queue State.placeMsg
  dsimp only [State.setLine_line]
  rw [hfind]
  dsimp only
  rw [modify_eq_set hm]
  unfold State.busyReplaced
  rw [if_neg (by simp)]
  unfold Msg.coalesce Msg.entered
  rw [ht]
  rfl

/-- A full queue without a message of the topic waiting leaves the new message to the displacement. -/
theorem queue_full {s : State} {topic cls : Nat} {kind : MsgKind} {data : List Byte} {answer : Answer}
    (hl : s.line.queue.length = 12) (hs : ∀ m ∈ s.line.queue, m.topic = topic → m.started = true) :
    s.queue topic cls kind data answer =
      (s.setLine { s.line with seqs := s.line.seqs.advance topic }).placeFull
        (Msg.entered cls kind topic ((s.line.seqs.advance topic).get topic) data answer) := by
  have hfind : s.line.queue.findIdx? (Msg.unstarted topic) = none := by
    refine List.findIdx?_eq_none_iff.mpr fun m hm => ?_
    have := hs m hm
    simpa [Msg.unstarted] using this
  unfold State.queue State.placeMsg
  dsimp only [State.setLine_line]
  rw [hfind]
  exact if_neg (by rw [hl]; decide)

theorem leastUrgent_le {q : List Msg} {c : Nat} (h : ∀ m ∈ q, m.sending = false → m.cls ≤ c) : leastUrgent q ≤ c := by
  have hfold : ∀ (q : List Msg) (a : Nat), a ≤ c → (∀ m ∈ q, m.sending = false → m.cls ≤ c) →
      q.foldl (fun c m => if m.sending then c else max c m.cls) a ≤ c := by
    intro q
    induction q with
    | nil => exact fun a ha _ => ha
    | cons m q ih =>
      intro a ha hq
      obtain ⟨hm, hq⟩ := List.forall_mem_cons.mp hq
      refine ih _ ?_ hq
      dsimp only
      split
      · exact ha
      · exact Nat.max_le.mpr ⟨ha, hm (by simpa using ‹¬m.sending = true›)⟩
  exact hfold q 0 (Nat.zero_le c) h

theorem le_leastUrgent {q : List Msg} {m : Msg} (hm : m ∈ q) (hs : m.sending = false) : m.cls ≤ leastUrgent q := by
  have hgrow : ∀ (q : List Msg) (a : Nat), a ≤ q.foldl (fun c m => if m.sending then c else max c m.cls) a := by
    intro q
    induction q with
    | nil => exact fun a => Nat.le_refl a
    | cons m q ih =>
      intro a
      refine Nat.le_trans ?_ (ih _)
      dsimp only
      split
      · exact Nat.le_refl a
      · exact Nat.le_max_left _ _
  have hfold : ∀ (q : List Msg) (a : Nat), m ∈ q →
      m.cls ≤ q.foldl (fun c m => if m.sending then c else max c m.cls) a := by
    intro q
    induction q with
    | nil => nofun
    | cons n q ih =>
      intro a hq
      rcases List.mem_cons.mp hq with rfl | hq
      · rw [List.foldl_cons, if_neg (by simp [hs])]
        exact Nat.le_trans (Nat.le_max_right _ _) (hgrow q _)
      · exact ih _ hq
  exact hfold q 0 hm

/-- A message of no less urgent class than what waits is refused. -/
theorem placeFull_refused {s : State} {m : Msg} (ha : m.answer = .none)
    (h : ∀ n ∈ s.line.queue, n.sending = false → n.cls ≤ m.cls) : s.placeFull m = s.setLine s.line.drop := by
  unfold State.placeFull
  rw [if_neg (by have := leastUrgent_le h; omega)]
  exact if_neg (by simp [ha])

/-- The oldest of the least urgent class is displaced. -/
theorem placeFull_displaces {s : State} {m n : Msg} {i : Nat} (hn : s.line.queue[i]? = some n) (hs : n.sending = false)
    (hc : m.cls < n.cls)
    (hlast : ∀ j o, s.line.queue[j]? = some o → o.sending = false → o.cls < n.cls ∨ (o.cls = n.cls ∧ i ≤ j)) :
    s.placeFull m = (s.setLine { s.line with
      queue := s.line.queue.eraseIdx i ++ [m], dropped := min 255 (s.line.dropped + 1) }).setHandler
        (s.handlerAfter n) := by
  obtain ⟨hi, hget⟩ := List.getElem?_eq_some_iff.mp hn
  have hleast : leastUrgent s.line.queue = n.cls := by
    refine Nat.le_antisymm (leastUrgent_le fun o ho hso => ?_) (le_leastUrgent (hget ▸ List.getElem_mem hi) hs)
    obtain ⟨j, hj⟩ := List.getElem?_of_mem ho
    have := hlast j o hj hso
    omega
  have holdest : oldestOf s.line.queue n.cls = some i := by
    refine List.findIdx?_eq_some_iff_getElem.mpr ⟨hi, by simp [hget, hs], fun j hj => ?_⟩
    rw [Bool.and_eq_true, Bool.not_eq_true', beq_iff_eq]
    rintro ⟨hsj, hcj⟩
    have := hlast j _ (List.getElem?_eq_getElem (hj.trans hi)) hsj
    omega
  unfold State.placeFull
  dsimp only
  rw [hleast, if_pos hc, holdest]
  dsimp only
  rw [replyLeft_eq, List.getD_eq_getElem?_getD, hn]
  rfl

/-! ### Topic 40h -/

/-- The state in which the 40h counter runs again. -/
def State.timed40 (s : State) : State := s.setLine { s.line with rate40 := some 10 }

theorem exec_rate40 {s u : State} (h : s.line.rate40.isSome = true)
    (hu : s.timed40.queue 0x40 1 .publication (bytes2 s.counting.speed ++ bytes2 s.counting.stepTally) .none = u) :
    exec .rate40hExpiry s = .next (State.present s u) := exec_next rfl ((if_pos h).trans hu)

/-! ### Topic 41h -/

theorem exec_rate41 {s : State} (h : s.line.rate41.isSome = true) (ho : s.line.Open 0x41) :
    ∃ t, exec .rate41hExpiry s = .next t ∧ KeptBut [.line, .display] s t ∧
      t.line = { s.line with rate41 := some 100 }.enter 0x41 2 .publication
        (bytes3 s.store.odometerSent ++ [byteOf s.store.odometerCode]) .none :=
  exec_setLine (exec_next rfl ((if_pos h).trans
    (queue_open (s := s.setLine { s.line with rate41 := some 100 }) ho))) rfl

theorem odometer_bytes (st : Store) :
    (∀ v good, st.odometer = some (v, good) →
      bytes3 st.odometerSent ++ [byteOf st.odometerCode] = bytes3 v ++ [if good then 0 else 1]) ∧
    (st.odometer = none → bytes3 st.odometerSent ++ [byteOf st.odometerCode] = [0xFF, 0xFF, 0xFF, 2]) := by
  unfold Store.odometerSent Store.odometerCode
  refine ⟨fun v good h => ?_, fun h => ?_⟩
  · rw [h]
    cases good <;> rfl
  · rw [h]
    rfl

/-! ### Topic 43h -/

theorem shown_isShown {s : State} {w : Nat} (h : s.shown = some w) : w < s.arbiter.warnings.length :=
  (List.findIdx?_eq_some_iff_getElem.mp h).1

theorem summary_head {s : State} (hl : s.arbiter.warnings.length = 32) :
    (∀ w, s.shown = some w → byteAt s.summary 0 = w ∧ byteAt s.summary 1 = (s.warningClass w).rank) ∧
      (s.shown = none → byteAt s.summary 0 = 255 ∧ byteAt s.summary 1 = 255) := by
  unfold State.summary
  refine ⟨fun w h => ?_, fun h => ?_⟩
  · have hw := shown_isShown h
    rw [h]
    refine ⟨toNat_byteOf (by omega), toNat_byteOf ?_⟩
    cases s.warningClass w <;> decide
  · rw [h]
    exact ⟨rfl, rfl⟩

theorem summary_eq (s : State) : ∃ x y, s.summary = [x, y,
    byteOf (packCodes 1 (s.arbiter.warnings.map fun w => flagNat (w.state != .off)) / 2 ^ (8 * 3)),
    byteOf (packCodes 1 (s.arbiter.warnings.map fun w => flagNat (w.state != .off)) / 2 ^ (8 * 2)),
    byteOf (packCodes 1 (s.arbiter.warnings.map fun w => flagNat (w.state != .off)) / 2 ^ (8 * 1)),
    byteOf (packCodes 1 (s.arbiter.warnings.map fun w => flagNat (w.state != .off)) / 2 ^ (8 * 0))] := by
  unfold State.summary
  rw [Nat.mul_zero, Nat.pow_zero, Nat.div_one]
  cases s.shown with
  | none => exact ⟨_, _, rfl⟩
  | some w => exact ⟨_, _, rfl⟩

theorem summary_mask {s : State} (hl : s.arbiter.warnings.length = 32) {w : Nat} (hw : w < 32) :
    bitAt s.summary (5 - w / 8) (w % 8) = ((s.warning w).state != .off) := by
  have hmask : (packCodes 1 (s.arbiter.warnings.map fun w => flagNat (w.state != .off))).testBit w =
      ((s.warning w).state != .off) := by
    have h := testBit_flags (s.arbiter.warnings.map fun w => w.state != .off) w
    rw [List.map_map] at h
    refine h.trans ?_
    simp [State.warning, List.getElem?_eq_getElem (hl ▸ hw : w < s.arbiter.warnings.length)]
  obtain ⟨x, y, hsummary⟩ := summary_eq s
  rw [← hmask, hsummary]
  generalize packCodes 1 (s.arbiter.warnings.map fun w => flagNat (w.state != .off)) = mask
  have hbit (k q : Nat) (hk : k < 8) : (byteOf (mask / 2 ^ (8 * q))).toNat.testBit k = mask.testBit (8 * q + k) := by
    rw [testBit_byteOf _ hk, Nat.testBit_div_two_pow, Nat.add_comm]
  have hk : w % 8 < 8 := Nat.mod_lt _ (by omega)
  have hq : w / 8 < 4 := by omega
  have hw : 8 * (w / 8) + w % 8 = w := Nat.div_add_mod w 8
  generalize w % 8 = k at *
  generalize w / 8 = q at *
  subst hw
  rw [← hbit k q hk]
  interval_cases q <;> rfl

theorem exec_rate43 {s : State} (h : s.arbiter.rate43.isSome = true) (ho : s.line.Open 0x43)
    (hl : s.arbiter.warnings.length = 32) :
    ∃ t data, exec .rate43hExpiry s = .next t ∧ KeptBut [.line, .arbiter, .display] s t ∧
      t.arbiter = { s.arbiter with rate43 := some 200 } ∧
      t.line = s.line.enter 0x43 (if s.shown.map s.warningClass = some .danger then 0 else 2) .publication data .none ∧
      data.length = 6 ∧
      (∀ w, s.shown = some w → byteAt data 0 = w ∧ byteAt data 1 = (s.warningClass w).rank) ∧
      (s.shown = none → byteAt data 0 = 255 ∧ byteAt data 1 = 255) ∧
      ∀ w < 32, bitAt data (5 - w / 8) (w % 8) = ((s.warning w).state != .off) := by
  have hqueue : (s.setArbiter { s.arbiter with rate43 := some 200 }).queueSummary =
      (s.setArbiter { s.arbiter with rate43 := some 200 }).setLine
        (s.line.enter 0x43 (if s.shown.map s.warningClass = some .danger then 0 else 2) .publication s.summary .none) :=
    queue_open (s := s.setArbiter { s.arbiter with rate43 := some 200 }) ho
  obtain ⟨hsome, hnone⟩ := summary_head hl
  refine ⟨_, s.summary, exec_next rfl ((if_pos h).trans hqueue), ?_, State.present_arbiter _ _, State.present_line _ _,
    summary_length s, hsome, hnone, fun w hw => summary_mask hl hw⟩
  exact present_frame_of (bs := [.arbiter, .line])
    (KeptBut.andThen (setArbiter_kept s { s.arbiter with rate43 := some 200 }) (setLine_kept _ _)) rfl rfl rfl

/-! ### Topic 42h -/

theorem flagSet_iff (e : Entry) (byte bit : Nat) : e.flagSet byte bit = true ↔ e.HasData ∧ bitAt e.data byte bit = true := by
  rw [← readable_iff]
  unfold Entry.flagSet Entry.flag
  cases hr : e.readable with
  | false => simp
  | true => cases hb : bitAt e.data byte bit <;> simp [flagNat]

theorem hasData_iff (e : Entry) : e.HasData ↔ e.used = true ∧ e.state ∈ [.fresh, .stale] := by
  simp [Entry.HasData]

theorem wordAt_code {n : Nat} (h : n < 65536) : (byteOf (n / 256)).toNat * 256 + (byteOf n).toNat = n := by
  simp only [byteOf, BitVec.toNat_ofNat]
  omega

/-- What 42h says of a result. -/
theorem topicCode_spec (x : Result) :
    (∀ v ≤ 65535, x = .valid v → x.topicCode = v ∧ x.isSaturated = false) ∧
      (∀ v, x = .saturated v → x.topicCode = 65534 ∧ x.isSaturated = true) ∧
      (x = .none → x.topicCode = 65535 ∧ x.isSaturated = false) := by
  refine ⟨?_, ?_, ?_⟩
  · rintro v - rfl
    exact ⟨rfl, rfl⟩
  · rintro v rfl
    exact ⟨rfl, rfl⟩
  · rintro rfl
    exact ⟨rfl, rfl⟩

theorem rearPage_result (s : State) {k : Nat} {x : Result} (h : (k, x) ∈ [(0, s.trip.average), (1, s.trip.range)])
    (hx : x.topicCode < 65536) :
    wordAt s.rearPage (2 + 2 * k) = x.topicCode ∧ bitAt s.rearPage 7 k = x.isSaturated := by
  have hflags (k : Nat) (hk : k < 8) : bitAt s.rearPage 7 k =
      [s.trip.average.isSaturated, s.trip.range.isSaturated].getD k false := by
    rw [← testBit_flags]
    exact testBit_byteOf _ hk
  simp only [List.mem_cons, Prod.mk.injEq, List.not_mem_nil, or_false] at h
  rcases h with ⟨rfl, rfl⟩ | ⟨rfl, rfl⟩
  · exact ⟨wordAt_code hx, hflags 0 (by omega)⟩
  · exact ⟨wordAt_code hx, hflags 1 (by omega)⟩

theorem rearPage_flags (s : State) : byteAt s.rearPage 7 < 4 := by
  have h := packCodes_lt (w := 1) (cs := [s.trip.average.isSaturated, s.trip.range.isSaturated].map flagNat)
    (fun c hc => by obtain ⟨b, -, rfl⟩ := List.mem_map.mp hc; exact flagNat_lt b)
  have h : packCodes 1 [flagNat s.trip.average.isSaturated, flagNat s.trip.range.isSaturated] < 4 := h
  show (byteOf (packCodes 1 [flagNat s.trip.average.isSaturated, flagNat s.trip.range.isSaturated])).toNat < 4
  rw [toNat_byteOf (by omega)]
  exact h

theorem byteOf_signed {b : Nat} (h : b < 256) : (byteOf (wrapSigned 8 (signedOf 8 b))).toNat = b := by
  unfold wrapSigned signedOf
  rw [toNat_byteOf] <;> split <;> omega

/-- The outside temperature's byte is that of E2, or the code without a value. -/
theorem outsideCode_eq {s : State} (hl : (s.entry 2).length = 5) :
    s.outsideCode.toNat = if (s.entry 2).used = true ∧ (s.entry 2).state ∈ [.fresh, .stale] then
      byteAt (s.entry 2).data 2 else 0x80 := by
  have hbyte : byteAt (s.entry 2).data 2 < 256 := ((s.entry 2).data.getD 2 0).isLt
  unfold State.outsideCode State.outside
  by_cases hd : (s.entry 2).HasData
  · rw [if_pos ((hasData_iff _).mp hd)]
    by_cases hb : byteAt (s.entry 2).data 2 = 0x80
    · rw [field_none (e := s.entry 2) (offset := 2) (wide := false) (signed := true) fun h => h.2.2 hb, hb]
      rfl
    · rw [field_some (offset := 2) (wide := false) (signed := true) hd (by rw [hl]; decide) hb]
      exact byteOf_signed hbyte
  · rw [if_neg (mt (hasData_iff _).mpr hd), field_none fun h => hd h.1]
    rfl

/-- The state in which the 1 s timer's command meets the rear page. -/
def State.afterPass (s : State) : State := s.beforePass.passDue

section
variable {s : State}

theorem afterPass_kept (h : ClockInRange s.counting) (hm : ¬s.counting.BeforeMidnight) :
    KeptBut [.counting, .arith, .trip, .store, .freeIndex] s s.afterPass :=
  (beforePass_kept h hm).andThen (bs := passBlocks) (cs := [.counting, .arith, .trip, .store, .freeIndex])
    (KeptBut.ite (tripPass_kept _) (.refl _ _))

/-- By day and at rest the command leaves the store nothing to settle. -/
theorem afterPass_settled (hr : s.store.AtRest) (h : ClockInRange s.counting) (hm : ¬s.counting.BeforeMidnight) :
    s.afterPass.rearPageDue.settleStore = s.afterPass.rearPageDue := by
  have hpass : RecordStep s s.afterPass := (beforePass_recordStep h hm).trans (passDue_recordStep _)
  exact settleStore_of_store (settled_atRest (hpass.2.2 hr)) (rearPageDue_kept s.afterPass).store

theorem exec_oneSecond_day (hr : s.store.AtRest) (h : ClockInRange s.counting) (hm : ¬s.counting.BeforeMidnight) :
    exec .oneSecondTimer s = .next (State.present s s.afterPass.rearPageDue) :=
  exec_next (exec_oneSecondTimer s) (afterPass_settled hr h hm)

theorem afterPass_clock (h : ClockInRange s.counting) (hm : ¬s.counting.BeforeMidnight) :
    s.afterPass.counting.hours ≤ 23 ∧ s.afterPass.counting.minutes ≤ 59 := by
  obtain ⟨hh, hmin, -⟩ := second_of_range h
  have hclock := oneSecondTimer_sameClock s
  rw [clockSecond_of_day h hm, State.present_counting, (settleStore_kept _).counting, (rearPageDue_kept _).counting] at hclock
  exact ⟨hclock.hours.le.trans hh, hclock.minutes.le.trans hmin⟩

theorem afterPass_choice (hr : s.store.AtRest) (h : ClockInRange s.counting) (hm : ¬s.counting.BeforeMidnight) :
    SameChoice s s.afterPass.rearPageDue := by
  rw [← afterPass_settled hr h hm]
  exact oneSecond_sameChoice s

/-- Whether the rear page is asked for. -/
theorem rearPage_asked (h : ClockInRange s.counting) (hm : ¬s.counting.BeforeMidnight) :
    (s.afterPass.ign.awake && s.afterPass.tripPageFlag) = true ↔ s.ign.awake = true ∧
      (s.entry 3).used = true ∧ (s.entry 3).state ∈ [.fresh, .stale] ∧ bitAt (s.entry 3).data 2 1 = true := by
  have hkept := afterPass_kept h hm
  have hentry : s.afterPass.entry 3 = s.entry 3 := by
    unfold State.entry
    rw [hkept.topics]
  rw [Bool.and_eq_true, State.tripPageFlag, flagSet_iff, hasData_iff, hentry, hkept.ign, and_assoc]

theorem exec_rearPage_none (hr : s.store.AtRest) (h : ClockInRange s.counting) (hm : ¬s.counting.BeforeMidnight)
    (hn : ¬(s.ign.awake = true ∧ (s.entry 3).used = true ∧ (s.entry 3).state ∈ [.fresh, .stale] ∧
      bitAt (s.entry 3).data 2 1 = true)) :
    ∃ t, exec .oneSecondTimer s = .next t ∧ KeptBut [.counting, .arith, .trip, .store, .freeIndex, .display] s t := by
  have hdue : s.afterPass.rearPageDue = s.afterPass := if_neg (mt (rearPage_asked h hm).mp hn)
  have hchoice := afterPass_choice hr h hm
  rw [hdue] at hchoice
  exact ⟨_, exec_next (exec_oneSecond_day hr h hm) hdue, present_frame_choice (afterPass_kept h hm) hchoice⟩

theorem exec_rearPage (hr : s.store.AtRest) (h : ClockInRange s.counting) (hm : ¬s.counting.BeforeMidnight)
    (ha : s.ign.awake = true ∧ (s.entry 3).used = true ∧ (s.entry 3).state ∈ [.fresh, .stale] ∧
      bitAt (s.entry 3).data 2 1 = true) (ho : s.line.Open 0x42) :
    ∃ t data, exec .oneSecondTimer s = .next t ∧
      KeptBut (.line :: [.counting, .arith, .trip, .store, .freeIndex, .display]) s t ∧
      t.line = s.line.enter 0x42 3 .publication data .none ∧
      data.length = 8 ∧ byteAt data 0 = t.counting.hours ∧ byteAt data 1 = t.counting.minutes ∧
      (∀ k x, (k, x) ∈ [(0, t.trip.average), (1, t.trip.range)] →
        (∀ v ≤ 65535, x = .valid v → wordAt data (2 + 2 * k) = v ∧ bitAt data 7 k = false) ∧
        (∀ v, x = .saturated v → wordAt data (2 + 2 * k) = 65534 ∧ bitAt data 7 k = true) ∧
        (x = .none → wordAt data (2 + 2 * k) = 65535 ∧ bitAt data 7 k = false)) ∧ byteAt data 7 < 4 ∧
      ((s.entry 2).length = 5 → byteAt data 6 = if (s.entry 2).used = true ∧ (s.entry 2).state ∈ [.fresh, .stale] then
        byteAt (s.entry 2).data 2 else 0x80) := by
  have hkept := afterPass_kept h hm
  have hline : s.afterPass.line = s.line := hkept.line
  have hdue : s.afterPass.rearPageDue =
      s.afterPass.setLine (s.afterPass.line.enter 0x42 3 .publication s.afterPass.rearPage .none) :=
    (if_pos ((rearPage_asked h hm).mpr ha)).trans (queue_open (by rw [hline]; exact ho))
  have hchoice := afterPass_choice hr h hm
  rw [hdue] at hchoice
  have hall := hkept.andThen (cs := [.counting, .arith, .trip, .store, .freeIndex, .line])
    (setLine_kept s.afterPass (s.afterPass.line.enter 0x42 3 .publication s.afterPass.rearPage .none))
  obtain ⟨hhours, hminutes⟩ := afterPass_clock h hm
  refine ⟨_, s.afterPass.rearPage, exec_next (exec_oneSecond_day hr h hm) hdue, present_frame_choice hall hchoice, ?_, rfl,
    ?_, ?_, fun k x hx => ?_, rearPage_flags _, fun hl => ?_⟩
  · rw [State.present_line, State.setLine_line, hline]
  · rw [State.present_counting]
    exact toNat_byteOf (by omega)
  · rw [State.present_counting]
    exact toNat_byteOf (by omega)
  · rw [State.present_trip] at hx
    obtain ⟨hvalid, hsaturated, hnone⟩ := topicCode_spec x
    refine ⟨fun v hv he => ?_, fun v he => ?_, fun he => ?_⟩
    · obtain ⟨hcode, hflag⟩ := hvalid v hv he
      rw [← hcode, ← hflag]
      exact rearPage_result s.afterPass hx (by omega)
    · obtain ⟨hcode, hflag⟩ := hsaturated v he
      rw [← hcode, ← hflag]
      exact rearPage_result s.afterPass hx (by omega)
    · obtain ⟨hcode, hflag⟩ := hnone he
      rw [← hcode, ← hflag]
      exact rearPage_result s.afterPass hx (by omega)
  · have hentry : s.afterPass.entry 2 = s.entry 2 := by
      unfold State.entry
      rw [hkept.topics]
    rw [← hentry] at hl ⊢
    exact outsideCode_eq hl

end

/-- Settles O36: each topic at its expiry. -/
theorem publicationsAreQueued : Obligations.PublicationsAreQueued := by
  refine fun s => ⟨fun h => ⟨fun ho => ?_, fun i m hm ht hs hfirst => ?_, fun hl hs => ⟨fun hc => ?_,
    fun i m hm hsending hc hlast => ?_⟩⟩, fun h ho => ?_, fun h ho hl => exec_rate43 h ho hl, fun hr h hm =>
    ⟨exec_rearPage_none hr h hm, fun hawake hasked ho => exec_rearPage hr h hm ⟨hawake, hasked⟩ ho⟩⟩
  · exact exec_setLine (exec_rate40 h (queue_open (s := s.timed40) ho)) rfl
  · exact exec_setLine (exec_rate40 h (queue_coalesce (s := s.timed40) hm ht hs hfirst)) rfl
  · exact exec_setLine (exec_rate40 h ((queue_full (s := s.timed40) hl hs).trans (placeFull_refused rfl hc))) rfl
  · exact exec_setLine_setHandler
      (exec_rate40 h ((queue_full (s := s.timed40) hl hs).trans (placeFull_displaces hm hsending hc hlast)))
  · obtain ⟨t, hexec, hkept, hline⟩ := exec_rate41 h ho
    obtain ⟨hsome, hnone⟩ := odometer_bytes s.store
    exact ⟨t, _, hexec, hkept, hline, hsome, hnone⟩
end Sys2Proof.Machine
end

section
/-! SUPPORT. The display record item by item, and the port. Settles O33. -/
namespace Sys2Proof.Machine
set_option Elab.async false

/-! ### The two quantities of a record -/

/-- At byte `o` a record carries a quantity's code, its flag and its 24-bit value. -/
def CarriesAt (bs : List Byte) (o code flag : Nat) (v : Int) : Prop :=
  byteAt bs o = code ∧ byteAt bs (o + 1) = flag ∧ (tripleAt bs (o + 2) : Int) = v % 16777216

/-- What a quantity says, as the record has room for it. -/
def Shown.Says (q : Shown) (code flag : Nat) (v : Int) : Prop :=
  q.code = code ∧ q.flag = flag ∧ (q.value : Int) % 16777216 = v % 16777216

theorem says_valid (code v : Nat) : (Shown.valid code v).Says code 0 v := ⟨rfl, rfl, rfl⟩

theorem says_none (code : Nat) : (Shown.none code).Says code 2 0 := ⟨rfl, rfl, rfl⟩

theorem says_signed (code : Nat) (v : Int) : (Shown.signed code v).Says code 0 v := by
  refine ⟨rfl, rfl, ?_⟩
  show ((v % 2 ^ 24).toNat : Int) % 16777216 = v % 16777216
  omega

theorem says_result (code : Nat) (r : Result) :
    (∀ v : Nat, r = .valid v → (Shown.ofResult code r).Says code 0 v) ∧
      (∀ v : Nat, r = .saturated v → (Shown.ofResult code r).Says code 1 v) ∧
      (r = .none → (Shown.ofResult code r).Says code 2 0) := by
  refine ⟨?_, ?_, ?_⟩
  · rintro v rfl
    exact ⟨rfl, rfl, rfl⟩
  · rintro v rfl
    exact ⟨rfl, rfl, rfl⟩
  · rintro rfl
    exact ⟨rfl, rfl, rfl⟩

theorem says_total (code n divisor : Nat) :
    (Shown.ofTotal code n divisor).Says code (if n = 16777215 then 1 else 0) ((n / divisor : Nat) : Int) := ⟨rfl, rfl, rfl⟩

theorem triple_code (n : Nat) :
    (byteOf (n / 65536)).toNat * 65536 + ((byteOf (n / 256)).toNat * 256 + (byteOf n).toNat) = n % 16777216 := by
  simp only [byteOf, BitVec.toNat_ofNat]
  omega

theorem recordItems_length (s : State) : s.recordItems.length = 18 := rfl

theorem record_first {s : State} {code flag : Nat} {v : Int} (h : s.quantities.1.Says code flag v) (hc : code < 256)
    (hf : flag < 256) : CarriesAt s.recordItems 3 code flag v := by
  obtain ⟨rfl, rfl, hv⟩ := h
  refine ⟨toNat_byteOf hc, toNat_byteOf hf, ?_⟩
  rw [← hv, show tripleAt s.recordItems (3 + 2) = _ from triple_code s.quantities.1.value]
  rfl

theorem record_second {s : State} {code flag : Nat} {v : Int} (h : s.quantities.2.Says code flag v) (hc : code < 256)
    (hf : flag < 256) : CarriesAt s.recordItems 8 code flag v := by
  obtain ⟨rfl, rfl, hv⟩ := h
  refine ⟨toNat_byteOf hc, toNat_byteOf hf, ?_⟩
  rw [← hv, show tripleAt s.recordItems (8 + 2) = _ from triple_code s.quantities.2.value]
  rfl

/-! ### The WARNING page -/

theorem shown_eq_some_of {s : State} {w : Nat} (h : (s.warning w).state = .shown)
    (hfirst : ∀ v < w, (s.warning v).state ≠ .shown) : s.shown = some w := by
  have hlt : w < s.arbiter.warnings.length := by
    by_contra hn
    simp [State.warning, List.getElem?_eq_none (by omega : s.arbiter.warnings.length ≤ w), Warning.off] at h
  have hget (v : Nat) (hv : v < s.arbiter.warnings.length) : s.warning v = s.arbiter.warnings[v] := by
    simp [State.warning, List.getElem?_eq_getElem hv]
  refine List.findIdx?_eq_some_iff_getElem.mpr ⟨hlt, by rw [← hget w hlt, h]; rfl, fun v hv => ?_⟩
  rw [← hget v (hv.trans hlt)]
  simpa using hfirst v hv

theorem shown_eq_none_of {s : State} (h : ∀ w, ¬((s.warning w).state = .shown ∧ ∀ v < w, (s.warning v).state ≠ .shown)) :
    s.shown = none := by
  refine Option.eq_none_iff_forall_ne_some.mpr fun w hw => ?_
  obtain ⟨hlt, hshown, hfirst⟩ := List.findIdx?_eq_some_iff_getElem.mp hw
  have hget (v : Nat) (hv : v < s.arbiter.warnings.length) : s.warning v = s.arbiter.warnings[v] := by
    simp [State.warning, List.getElem?_eq_getElem hv]
  refine h w ⟨by rw [hget w hlt]; simpa using hshown, fun v hv => ?_⟩
  have := hfirst v hv
  rw [hget v (hv.trans hlt)]
  simpa using this

theorem kind_byte (s : State) : byteAt s.recordItems 0 = s.pageKind := by
  refine toNat_byteOf ?_
  unfold State.pageKind Page.code
  split
  · omega
  · split <;> omega

theorem rank_lt (c : WarnClass) : 11 + c.rank < 256 := by cases c <;> decide

theorem quantities_shown {s : State} {w : Nat} (h : s.shown = some w) :
    s.quantities = (.valid (11 + (s.warningClass w).rank) w, s.warningSecond w) := by
  unfold State.quantities
  rw [h]

theorem quantities_review {s : State} {r : Review} (h : s.shown = none) (hr : s.arbiter.review = some r) :
    s.quantities = (.valid (11 + (s.warningClass r.warning).rank) r.warning, .valid 17 s.silencedCount) := by
  unfold State.quantities
  rw [h, hr]

theorem quantities_page {s : State} (h : s.shown = none) (hr : s.arbiter.review = none) :
    s.quantities = s.pageQuantities := by
  unfold State.quantities
  rw [h, hr]

theorem pageKind_shown {s : State} {w : Nat} (h : s.shown = some w) : s.pageKind = 6 :=
  if_pos (by simp [State.warningPage, h])

theorem pageKind_review {s : State} {r : Review} (h : s.arbiter.review = some r) : s.pageKind = 6 :=
  if_pos (by simp [State.warningPage, h])

theorem pageKind_page {s : State} (h : s.shown = none) (hr : s.arbiter.review = none) : s.pageKind = s.trip.page.code :=
  if_neg (by simp [State.warningPage, h, hr])

/-- The item whose state a service warning names. -/
def State.Names (s : State) (w i : Nat) : Prop :=
  i < 8 ∧ ((s.item i).state, w) ∈ [(ItemState.soon, 27), (.due, 28), (.overdue, 29)]

theorem warning_eq_some_iff (x : ItemState) (w : Nat) :
    x.warning = some w ↔ (x, w) ∈ [(ItemState.soon, 27), (.due, 28), (.overdue, 29)] := by
  cases x <;> simp [ItemState.warning, eq_comm]

theorem serviceName_eq_some {s : State} {w i : Nat} (h : s.Names w i) (hfirst : ∀ j < i, ¬s.Names w j) :
    s.serviceName w = some i := by
  obtain ⟨hi, hmem⟩ := h
  refine List.find?_range_eq_some.mpr ⟨by simp [(warning_eq_some_iff _ _).mpr hmem], by simpa using hi, fun j hj => ?_⟩
  have := hfirst j hj
  rw [Bool.not_eq_true', Bool.eq_false_iff, ne_eq, beq_iff_eq, warning_eq_some_iff]
  exact fun hm => this ⟨by omega, hm⟩

theorem serviceName_eq_none {s : State} {w : Nat} (h : ∀ i, ¬s.Names w i) : s.serviceName w = none := by
  refine List.find?_range_eq_none.mpr fun i hi => ?_
  rw [Bool.not_eq_true', Bool.eq_false_iff, ne_eq, beq_iff_eq, warning_eq_some_iff]
  exact fun hm => h i ⟨hi, hm⟩

theorem names_bounds {s : State} {w i : Nat} (h : s.Names w i) : 27 ≤ w ∧ w ≤ 29 := by
  obtain ⟨-, hmem⟩ := h
  simp only [List.mem_cons, Prod.mk.injEq, List.not_mem_nil, or_false] at hmem
  omega

theorem warningSecond_rear {s : State} {p : Nat} (h : s.arbiter.presented = some p) :
    (s.warningSecond 30).Says 15 0 p := by
  unfold State.warningSecond
  rw [if_pos rfl, h]
  exact says_valid 15 p

theorem warningSecond_named {s : State} {w i : Nat} (h : s.Names w i) (hfirst : ∀ j < i, ¬s.Names w j) :
    (s.warningSecond w).Says 16 0 i := by
  have hw := names_bounds h
  unfold State.warningSecond
  rw [if_neg (by omega), if_pos hw, serviceName_eq_some h hfirst]
  exact says_valid 16 i

theorem warningSecond_unnamed {s : State} {w : Nat} (hw : 27 ≤ w ∧ w ≤ 29) (h : ∀ i, ¬s.Names w i) :
    (s.warningSecond w).Says 16 2 0 := by
  unfold State.warningSecond
  rw [if_neg (by omega), if_pos hw, serviceName_eq_none h]
  exact says_none 16

theorem warningSecond_other {s : State} {w : Nat} (h : w ∉ [27, 28, 29, 30]) : (s.warningSecond w).Says 0 2 0 := by
  simp only [List.mem_cons, List.not_mem_nil, or_false] at h
  unfold State.warningSecond
  rw [if_neg (by omega), if_neg (by omega)]
  exact says_none 0

/-! ### The pages -/

theorem outsideShown_says (s : State) :
    ∃ r, (s.entry 2).Reads 2 1 true r ∧ (r = none → s.outsideShown.Says 8 2 0) ∧
      ∀ x, r = some x → s.outsideShown.Says 8 0 x.value := by
  refine ⟨s.outside, field_reads _ 2 false true, fun h => ?_, fun x h => ?_⟩ <;> unfold State.outsideShown <;> rw [h]
  · exact says_none 8
  · exact says_signed 8 x.value

theorem serviceShown_says (s : State) (km : Bool) :
    (∀ i, s.service.selected = some i → (s.itemFigures i).inUse km = true → s.store.present (itemBlock i) = true →
      (s.serviceShown km).Says (if km then 9 else 10) 0 (if km then s.store.remainingKm i else s.store.remainingDays i)) ∧
    ((∀ i, s.service.selected = some i → ¬((s.itemFigures i).inUse km = true ∧ s.store.present (itemBlock i) = true)) →
      (s.serviceShown km).Says (if km then 9 else 10) 2 0) := by
  unfold State.serviceShown
  refine ⟨fun i hi hu hp => ?_, fun h => ?_⟩
  · rw [hi]
    dsimp only
    rw [if_pos (by simp [hu, hp])]
    exact says_signed _ _
  · cases hi : s.service.selected with
    | none => exact says_none _
    | some i =>
      dsimp only
      rw [if_neg (by simpa using h i hi)]
      exact says_none _

/-! ### The other bytes -/

theorem record_codes (s : State) : ∀ v ∈ [(View.rates, 0), (.totals, 1), (.fuel, 2)],
    ∀ c ∈ [(ClockSet.normal, 0), (.hourSet, 1), (.minuteSet, 2)], s.trip.view = v.1 → s.counting.clockSet = c.1 →
      byteAt s.recordItems 1 = v.2 + 4 * c.2 + match s.store.odometer with
        | some (_, true) => 0
        | some (_, false) => 16
        | none => 32 := by
  intro v hv c hc hview hset
  have hvalue : byteAt s.recordItems 1 = (byteOf (packCodes 2
      [s.trip.view.code, s.counting.clockSet.code, s.store.odometerCode])).toNat := rfl
  have hcode : s.store.odometerCode * 16 = match s.store.odometer with
      | some (_, true) => 0
      | some (_, false) => 16
      | none => 32 := by
    unfold Store.odometerCode
    rcases s.store.odometer with _ | ⟨n, _ | _⟩ <;> rfl
  have hv' : s.trip.view.code = v.2 := by
    rw [hview]
    simp only [List.mem_cons, List.not_mem_nil, or_false] at hv
    rcases hv with rfl | rfl | rfl <;> rfl
  have hc' : s.counting.clockSet.code = c.2 := by
    rw [hset]
    simp only [List.mem_cons, List.not_mem_nil, or_false] at hc
    rcases hc with rfl | rfl | rfl <;> rfl
  have hv2 : v.2 ≤ 2 := by
    simp only [List.mem_cons, List.not_mem_nil, or_false] at hv
    rcases hv with rfl | rfl | rfl <;> decide
  have hc2 : c.2 ≤ 2 := by
    simp only [List.mem_cons, List.not_mem_nil, or_false] at hc
    rcases hc with rfl | rfl | rfl <;> decide
  have hcode2 : s.store.odometerCode ≤ 2 := by
    unfold Store.odometerCode
    rcases s.store.odometer with _ | ⟨n, _ | _⟩ <;> simp
  rw [← hcode, hvalue, hv', hc']
  simp only [packCodes]
  rw [toNat_byteOf] <;> omega

theorem record_selected (s : State) :
    byteAt s.recordItems 2 = if byteAt s.recordItems 0 = 5 then s.service.selected.elim 255 (· % 256) else 255 := by
  rw [kind_byte]
  have hvalue : byteAt s.recordItems 2 = (if s.pageKind = 5 then optByte s.service.selected else 0xFF).toNat := rfl
  rw [hvalue]
  split
  · cases s.service.selected <;> rfl
  · rfl

theorem record_odometer (s : State) :
    tripleAt s.recordItems 13 = match s.store.odometer with
      | some (v, _) => v % 16777216
      | none => 0xFFFFFF := by
  rw [show tripleAt s.recordItems 13 = _ from triple_code s.store.odometerSent]
  unfold Store.odometerSent
  rcases s.store.odometer with _ | ⟨n, _⟩ <;> rfl

/-! ### The record as a whole -/

theorem tripQuantities_says (x : TripView) (view : View) :
    (view = .rates →
      ((∀ v : Nat, x.economy = .valid v → (tripQuantities x view).1.Says 4 0 v) ∧
        (∀ v : Nat, x.economy = .saturated v → (tripQuantities x view).1.Says 4 1 v) ∧
        (x.economy = .none → (tripQuantities x view).1.Says 4 2 0)) ∧
      (∀ v : Nat, x.average = .valid v → (tripQuantities x view).2.Says 5 0 v) ∧
        (∀ v : Nat, x.average = .saturated v → (tripQuantities x view).2.Says 5 1 v) ∧
        (x.average = .none → (tripQuantities x view).2.Says 5 2 0)) ∧
    (view = .totals →
      (tripQuantities x view).1.Says 1 (if x.distance = 16777215 then 1 else 0) ((x.distance / 10 : Nat) : Int) ∧
      (tripQuantities x view).2.Says 3 (if x.time = 16777215 then 1 else 0) ((x.time / 60 : Nat) : Int)) ∧
    (view = .fuel →
      (tripQuantities x view).1.Says 2 (if x.fuel = 16777215 then 1 else 0) ((x.fuel / 100 : Nat) : Int) ∧
      (tripQuantities x view).2.Says 0 2 0) := by
  refine ⟨?_, ?_, ?_⟩ <;> rintro rfl
  · exact ⟨says_result 4 x.economy, says_result 5 x.average⟩
  · exact ⟨says_total 1 x.distance 10, says_total 3 x.time 60⟩
  · exact ⟨says_total 2 x.fuel 100, says_none 0⟩

/-- A record of a trip page carries the record's totals and results. -/
theorem record_trip {s : State} {x : TripView} (hq : s.quantities = tripQuantities x s.trip.view) :
    let carries := CarriesAt s.recordItems
    let result (o code : Nat) (r : Result) : Prop := (∀ v : Nat, r = .valid v → carries o code 0 v) ∧
      (∀ v : Nat, r = .saturated v → carries o code 1 v) ∧ (r = .none → carries o code 2 0)
    let total (o code n divisor : Nat) : Prop := carries o code (if n = 16777215 then 1 else 0) ((n / divisor : Nat) : Int)
    (s.trip.view = .rates → result 3 4 x.economy ∧ result 8 5 x.average) ∧
      (s.trip.view = .totals → total 3 1 x.distance 10 ∧ total 8 3 x.time 60) ∧
      (s.trip.view = .fuel → total 3 2 x.fuel 100 ∧ carries 8 0 2 0) := by
  have hsays := tripQuantities_says x s.trip.view
  rw [← hq] at hsays
  obtain ⟨hrates, htotals, hfuel⟩ := hsays
  have hflag (n : Nat) : (if n = 16777215 then 1 else 0) < 256 := by split <;> decide
  refine ⟨fun hv => ?_, fun hv => ?_, fun hv => ?_⟩
  · obtain ⟨⟨h1, h2, h3⟩, k1, k2, k3⟩ := hrates hv
    exact ⟨⟨fun v h => record_first (h1 v h) (by decide) (by decide), fun v h => record_first (h2 v h) (by decide) (by decide),
      fun h => record_first (h3 h) (by decide) (by decide)⟩, fun v h => record_second (k1 v h) (by decide) (by decide),
      fun v h => record_second (k2 v h) (by decide) (by decide), fun h => record_second (k3 h) (by decide) (by decide)⟩
  · obtain ⟨h, k⟩ := htotals hv
    exact ⟨record_first h (by decide) (hflag _), record_second k (by decide) (hflag _)⟩
  · obtain ⟨h, k⟩ := hfuel hv
    exact ⟨record_first h (by decide) (hflag _), record_second k (by decide) (by decide)⟩

section
variable {s : State}

theorem record_shown {w : Nat} (h : (s.warning w).state = .shown ∧ ∀ v < w, (s.warning v).state ≠ .shown) :
    byteAt s.recordItems 0 = 6 ∧ CarriesAt s.recordItems 3 (11 + (s.warningClass w).rank) 0 w ∧
      (∀ p : Nat, w = 30 → s.arbiter.presented = some p → CarriesAt s.recordItems 8 15 0 p) ∧
      (∀ i : Nat, s.Names w i → (∀ j < i, ¬s.Names w j) → CarriesAt s.recordItems 8 16 0 i) ∧
      (w ∈ [27, 28, 29] → (∀ i, ¬s.Names w i) → CarriesAt s.recordItems 8 16 2 0) ∧
      (w ∉ [27, 28, 29, 30] → CarriesAt s.recordItems 8 0 2 0) := by
  have hshown := shown_eq_some_of h.1 h.2
  have hq := quantities_shown hshown
  have hsecond {code flag : Nat} {v : Int} (k : (s.warningSecond w).Says code flag v) (hc : code < 256) (hf : flag < 256) :
      CarriesAt s.recordItems 8 code flag v := record_second (by rw [hq]; exact k) hc hf
  refine ⟨(kind_byte s).trans (pageKind_shown hshown), ?_, ?_, ?_, ?_, ?_⟩
  · exact record_first (by rw [hq]; exact says_valid _ w) (rank_lt _) (by decide)
  · rintro p rfl hp
    exact hsecond (warningSecond_rear hp) (by decide) (by decide)
  · exact fun i hi hfirst => hsecond (warningSecond_named hi hfirst) (by decide) (by decide)
  · intro hw hn
    refine hsecond (warningSecond_unnamed ?_ hn) (by decide) (by decide)
    simp only [List.mem_cons, List.not_mem_nil, or_false] at hw
    omega
  · exact fun hw => hsecond (warningSecond_other hw) (by decide) (by decide)

theorem record_review {r : Review} (h : s.shown = none) (hr : s.arbiter.review = some r) :
    byteAt s.recordItems 0 = 6 ∧ CarriesAt s.recordItems 3 (11 + (s.warningClass r.warning).rank) 0 r.warning ∧
      CarriesAt s.recordItems 8 17 0 ((s.arbiter.warnings.filter fun w => w.state == .silenced).length : Int) := by
  have hq := quantities_review h hr
  exact ⟨(kind_byte s).trans (pageKind_review hr), record_first (by rw [hq]; exact says_valid _ _) (rank_lt _) (by decide),
    record_second (by rw [hq]; exact says_valid _ _) (by decide) (by decide)⟩

theorem record_kind {p : Page} (h : s.shown = none) (hr : s.arbiter.review = none) (hp : s.trip.page = p) :
    byteAt s.recordItems 0 = p.code := by rw [kind_byte, pageKind_page h hr, hp]

theorem record_range (h : s.shown = none) (hr : s.arbiter.review = none) (hp : s.trip.page = .range) :
    let carries := CarriesAt s.recordItems
    let result (o code : Nat) (r : Result) : Prop := (∀ v : Nat, r = .valid v → carries o code 0 v) ∧
      (∀ v : Nat, r = .saturated v → carries o code 1 v) ∧ (r = .none → carries o code 2 0)
    result 3 7 s.trip.range ∧ result 8 6 s.trip.inst := by
  have hq : s.quantities = (.ofResult 7 s.trip.range, .ofResult 6 s.trip.inst) := by
    rw [quantities_page h hr, State.pageQuantities, hp]
  obtain ⟨h1, h2, h3⟩ := says_result 7 s.trip.range
  obtain ⟨k1, k2, k3⟩ := says_result 6 s.trip.inst
  exact ⟨⟨fun v e => record_first (by rw [hq]; exact h1 v e) (by decide) (by decide),
      fun v e => record_first (by rw [hq]; exact h2 v e) (by decide) (by decide),
      fun e => record_first (by rw [hq]; exact h3 e) (by decide) (by decide)⟩,
    fun v e => record_second (by rw [hq]; exact k1 v e) (by decide) (by decide),
    fun v e => record_second (by rw [hq]; exact k2 v e) (by decide) (by decide),
    fun e => record_second (by rw [hq]; exact k3 e) (by decide) (by decide)⟩

theorem record_clock (h : s.shown = none) (hr : s.arbiter.review = none) (hp : s.trip.page = .clock) :
    CarriesAt s.recordItems 8 0 2 0 ∧ ∃ r, (s.entry 2).Reads 2 1 true r ∧
      (r = none → CarriesAt s.recordItems 3 8 2 0) ∧ ∀ x, r = some x → CarriesAt s.recordItems 3 8 0 x.value := by
  have hq : s.quantities = (s.outsideShown, .blank) := by rw [quantities_page h hr, State.pageQuantities, hp]
  obtain ⟨r, hreads, hnone, hsome⟩ := outsideShown_says s
  exact ⟨record_second (by rw [hq]; exact says_none 0) (by decide) (by decide), r, hreads,
    fun e => record_first (by rw [hq]; exact hnone e) (by decide) (by decide),
    fun x e => record_first (by rw [hq]; exact hsome x e) (by decide) (by decide)⟩

theorem inUse_km (f : ItemFigures) : f.inUse true = true ↔ f.distanceInterval ≠ 0 := bne_iff_ne
theorem inUse_days (f : ItemFigures) : f.inUse false = true ↔ f.dayInterval ≠ 0 := bne_iff_ne

theorem record_service (h : s.shown = none) (hr : s.arbiter.review = none) (hp : s.trip.page = .service) :
    let item (o code : Nat) (inUse : Nat → Prop) (remaining : Nat → Int) : Prop :=
      (∀ i, s.service.selected = some i → inUse i → s.store.present (itemBlock i) = true →
        CarriesAt s.recordItems o code 0 (remaining i)) ∧
      ((∀ i, s.service.selected = some i → ¬(inUse i ∧ s.store.present (itemBlock i) = true)) →
        CarriesAt s.recordItems o code 2 0)
    item 3 9 (fun i => (s.itemFigures i).distanceInterval ≠ 0) s.store.remainingKm ∧
      item 8 10 (fun i => (s.itemFigures i).dayInterval ≠ 0) s.store.remainingDays := by
  have hq : s.quantities = (s.serviceShown true, s.serviceShown false) := by
    rw [quantities_page h hr, State.pageQuantities, hp]
  obtain ⟨hkm, hkm'⟩ := serviceShown_says s true
  obtain ⟨hdays, hdays'⟩ := serviceShown_says s false
  simp only [inUse_km] at hkm hkm'
  simp only [inUse_days] at hdays hdays'
  exact ⟨⟨fun i hi hu hpr => record_first (by rw [hq]; exact hkm i hi hu hpr) (by decide) (by decide),
      fun hn => record_first (by rw [hq]; exact hkm' hn) (by decide) (by decide)⟩,
    fun i hi hu hpr => record_second (by rw [hq]; exact hdays i hi hu hpr) (by decide) (by decide),
    fun hn => record_second (by rw [hq]; exact hdays' hn) (by decide) (by decide)⟩

theorem recordShows (s : State) : s.RecordShows s.recordItems := by
  refine ⟨recordItems_length s, fun w h => record_shown h, fun hn r hr => record_review (shown_eq_none_of hn) hr,
    fun hn hr => ?_, record_codes s, record_selected s, record_odometer s, rfl, rfl⟩
  have h := shown_eq_none_of hn
  have htrip (r : TripRecord) (hp : s.pageQuantities = tripQuantities (s.tripView r) s.trip.view) :=
    record_trip (s := s) (x := s.tripView r) ((quantities_page h hr).trans hp)
  refine ⟨fun hp => ⟨record_kind h hr hp, htrip .a ?_⟩, fun hp => ⟨record_kind h hr hp, htrip .b ?_⟩,
    fun hp => ⟨record_kind h hr hp, htrip .journey ?_⟩, fun hp => ⟨record_kind h hr hp, record_range h hr hp⟩,
    fun hp => ⟨record_kind h hr hp, record_clock h hr hp⟩, fun hp => ⟨record_kind h hr hp, record_service h hr hp⟩⟩ <;>
    rw [State.pageQuantities, hp]

end

/-! ### The port -/

theorem getElem?_serialBits {bs : List Byte} {i k : Nat} (hi : i < bs.length) (hk : k < 8) :
    (serialBits bs)[8 * i + k]? = some (bitAt bs i (7 - k)) := by
  unfold serialBits
  rw [getElem?_flatMap_blocks (fun b => by simp) bs hk, List.getElem?_eq_getElem hi, bitAt, byteAt_getElem hi]
  simp [hk]

/-- A command on the port alone, with the part awake and the port's timer running, presents nothing more. -/
theorem exec_setDisplay {c : Instr} {s : State} {d : Display} (h : exec c s = .next (State.present s (s.setDisplay d)))
    (ha : s.ign.awake = true) (ht : d.timer.isSome = true) :
    ∃ t, exec c s = .next t ∧ KeptBut [.display] s t ∧ t.display = d := by
  have hsame : State.present s (s.setDisplay d) = s.setDisplay d := by
    unfold State.present
    rw [refreshHolds_same (s := s) (u := s.setDisplay d) rfl rfl rfl]
    unfold State.refreshDisplay
    rw [if_neg (by rw [(setDisplay_kept s d).ign, ha]; nofun),
      if_neg (by rw [State.setDisplay_display, Option.isNone_iff_eq_none]; exact Option.isSome_iff_ne_none.mp ht)]
    exact if_pos (recordItems_congr ((setDisplay_kept s d).mono (by decide))).symm
  rw [hsame] at h
  exact ⟨_, h, setDisplay_kept s d, rfl⟩

theorem exec_displayTimerExpiry {s : State} (ha : s.ign.awake = true) (ht : s.display.timer.isSome = true) :
    ∃ t, exec .displayTimerExpiry s = .next t ∧ KeptBut [.display] s t ∧
      (s.display.transfer = none → t.display = { s.display with timer := some 10, transfer := some s.displayRecord }) ∧
      (s.display.transfer.isSome = true → t.display = { s.display with timer := some 10, sendPending := true }) := by
  cases h : s.display.transfer with
  | none =>
    have hsend : (s.setDisplay { s.display with timer := some 10 }).requestSend =
        s.setDisplay { s.display with timer := some 10, transfer := some s.displayRecord } := by
      unfold State.requestSend
      dsimp only [State.setDisplay_display]
      rw [h]
      rfl
    obtain ⟨t, hexec, hkept, hd⟩ := exec_setDisplay (c := .displayTimerExpiry) (exec_next rfl ((if_pos ht).trans hsend)) ha rfl
    exact ⟨t, hexec, hkept, fun _ => hd, nofun⟩
  | some record =>
    have hsend : (s.setDisplay { s.display with timer := some 10 }).requestSend =
        s.setDisplay { s.display with timer := some 10, sendPending := true } := by
      unfold State.requestSend
      dsimp only [State.setDisplay_display]
      rw [h]
      rfl
    obtain ⟨t, hexec, hkept, hd⟩ := exec_setDisplay (c := .displayTimerExpiry) (exec_next rfl ((if_pos ht).trans hsend)) ha rfl
    exact ⟨t, hexec, hkept, nofun, fun _ => hd⟩

theorem exec_displayTransferEnd {s : State} (ha : s.ign.awake = true) (ht : s.display.timer.isSome = true) :
    ∃ t, exec .displayTransferEnd s = .next t ∧ KeptBut [.display] s t ∧
      (s.display.transfer = none → t.display = s.display) ∧
      (∀ sent, s.display.transfer = some sent → t.display = { s.display with
        transfer := if s.display.sendPending then some s.displayRecord else none, strobed := some sent
        sendPending := false }) := by
  cases h : s.display.transfer with
  | none =>
    have hend : s.endTransfer = s.setDisplay s.display := by
      unfold State.endTransfer
      rw [h]
      rfl
    obtain ⟨t, hexec, hkept, hd⟩ := exec_setDisplay (c := .displayTransferEnd) (exec_next rfl hend) ha ht
    exact ⟨t, hexec, hkept, fun _ => hd, nofun⟩
  | some record =>
    have hend : s.endTransfer = s.setDisplay { s.display with
        transfer := if s.display.sendPending then some s.displayRecord else none, strobed := some record
        sendPending := false } := by
      unfold State.endTransfer
      rw [h]
      dsimp only
      split <;> rfl
    obtain ⟨t, hexec, hkept, hd⟩ := exec_setDisplay (c := .displayTransferEnd) (exec_next rfl hend) ha ht
    exact ⟨t, hexec, hkept, nofun, fun sent hs => by rw [hd, Option.some.inj hs]⟩

/-- Settles O33: the record, its bits, and the port's two commands. -/
theorem displayPortSends : Obligations.DisplayPortSends := by
  intro s ha ht
  have hlength : s.displayRecord.length = 19 := rfl
  refine ⟨recordShows s, ⟨hlength, byteSum_checked _, ?_, fun i hi k hk => getElem?_serialBits (bs := s.displayRecord) hi hk⟩,
    exec_displayTimerExpiry ha ht, exec_displayTransferEnd ha ht⟩
  rw [serialBits_length]
  exact congrArg (8 * ·) hlength
end Sys2Proof.Machine
end

section
/-! SUPPORT. What an arbiter event leaves: the warnings after the selection, the review, the presented sub-warning, the
chime that follows, and the event that changes no warning's state. -/
namespace Sys2Proof.Machine
set_option Elab.async false

/-! ### The selection, warning by warning -/

/-- What the selection may do to one warning. -/
def Warning.Selected (x y : Warning) : Prop :=
  y = x ∨ (x.state = .shown ∧ y = { x with state := .held }) ∨
    (x.state ∈ [.pending, .held] ∧ y = { x with state := .shown, shownTimer := 0, completed := false, reminder := 0 })

theorem Warning.Selected.level {x y : Warning} (h : x.Selected y) : y.level = x.level := by
  rcases h with rfl | ⟨-, rfl⟩ | ⟨-, rfl⟩ <;> rfl

theorem Warning.Selected.goesOn {x y : Warning} (h : x.Selected y) : x.GoesOn y := by
  unfold Warning.GoesOn
  rcases h with rfl | ⟨hx, rfl⟩ | ⟨hx, rfl⟩
  · exact ⟨fun _ => rfl, fun h => by simp [h], id, fun _ => rfl⟩
  · rw [hx]
    exact ⟨by simp, by simp, by simp, by simp⟩
  · refine ⟨fun h => ?_, fun _ => by simp, fun _ => by simp, fun h => ?_⟩
    · rcases List.mem_pair.mp hx with k | k <;> rw [k] at h <;> simp at h
    · dsimp only at h
      rw [← h] at hx
      simp at hx

/-- A warning neither SHOWN, PENDING nor HELD is left. -/
theorem Warning.Selected.same {x y : Warning} (h : x.Selected y) (hx : x.state ∉ [.shown, .pending, .held]) : y = x := by
  rcases h with h | ⟨hs, -⟩ | ⟨hs, -⟩
  · exact h
  · simp [hs] at hx
  · rcases List.mem_pair.mp hs with k | k <;> simp [k] at hx

theorem firstOf_state {s : State} {x : WarningState} {c : WarnClass} {w : Nat} (h : s.firstOf x c = some w) :
    (s.warning w).state = x := by simpa using List.find?_some h

theorem candidate_state {s : State} {w : Nat} (h : s.candidate = some w) : (s.warning w).state ∈ [.pending, .held] := by
  obtain ⟨c, hc, -⟩ := findSome_allClasses h
  rcases Option.or_eq_some_iff.mp hc with k | ⟨-, k⟩ <;> simp [firstOf_state k]

theorem preemptor_state {s : State} {c : WarnClass} {w : Nat} (h : s.preemptor c = some w) :
    (s.warning w).state = .pending := by
  obtain ⟨d, -, hd, -⟩ := findSome_above h
  exact firstOf_state hd

/-! ### The sound unit's notices -/

/-- The output and its click and tick timers are those of `u`. -/
def State.SoundsAs (t : State) (u : Sound) : Prop :=
  t.sound.output = u.output ∧ t.sound.clickTimer = u.clickTimer ∧ t.sound.tickTimer = u.tickTimer

theorem shownNotice_taken (s : State) (w : Nat) : s.NoticeTaken w (s.shownNotice w) := by
  unfold State.NoticeTaken State.shownNotice
  dsimp only
  by_cases hd : s.warningClass w = .danger
  · rw [if_pos hd]
    exact ⟨fun _ => rfl, fun h => absurd hd h, fun h => absurd hd h⟩
  · rw [if_neg hd]
    cases hc : s.sound.channel with
    | on => exact ⟨by simp [hd], fun _ _ => rfl, by simp⟩
    | carry => exact ⟨by simp [hd], by simp, fun _ _ => rfl⟩
    | idle | off | done => exact ⟨fun _ => rfl, by simp, by simp⟩

theorem shownNotice_soundsAs (s : State) (w : Nat) : (s.shownNotice w).SoundsAs s.sound := by
  unfold State.SoundsAs State.shownNotice
  dsimp only
  split
  · exact ⟨rfl, rfl, rfl⟩
  · split <;> exact ⟨rfl, rfl, rfl⟩

theorem pattern_of_cal {s t : State} (h : t.cal = s.cal) (i : Nat) : t.pattern i = s.pattern i := by
  unfold State.pattern
  rw [h]

theorem current_of_cal {s t : State} (hc : t.cal = s.cal) (hp : t.sound.playing = s.sound.playing) : t.current = s.current := by
  unfold State.current
  simp only [hp, pattern_of_cal hc]

theorem noticeTaken_congr {s s' t : State} {w : Nat} (hc : s'.cal = s.cal) (hs : s'.sound = s.sound)
    (h : s'.NoticeTaken w t) : s.NoticeTaken w t := by
  unfold State.NoticeTaken at *
  simp only [warningClass_of_cal hc, warningFigures_of_cal hc, pattern_of_cal hc, current_of_cal hc (congrArg _ hs), hs] at h
  exact h

/-! ### What the selection shows -/

/-- The selection of `d` has shown `w`, and has left `x`. -/
structure Shows (d : State) (w : Nat) (x : State) : Prop where
  before : (d.warning w).state ∈ [.pending, .held]
  shown : x.warning w = { d.warning w with state := .shown, shownTimer := 0, completed := false, reminder := 0 }
  others : ∀ v, v ≠ w → x.warning v = d.warning v ∨
    ((d.warning v).state = .shown ∧ x.warning v = { d.warning v with state := .held })
  review : x.arbiter.review = none
  presented : x.arbiter.presented =
    if w = 30 ∧ d.arbiter.presented = none then lowestOpen d.arbiter.subs else d.arbiter.presented
  notice : d.NoticeTaken w x
  sounds : x.SoundsAs d.sound

/-- The arbiter's part of the entry into SHOWN, before the notice to the sound unit. -/
def State.placed (s : State) (w : Nat) : State :=
  let s' := s.modifyWarning w fun v => { v with state := .shown, shownTimer := 0, completed := false, reminder := 0 }
  s'.setArbiter { s'.arbiter with
    review := none
    presented := if w = 30 ∧ s'.arbiter.presented = none then lowestOpen s'.arbiter.subs else s'.arbiter.presented }

theorem enterShown_eq (s : State) (w : Nat) : s.enterShown w = (s.placed w).shownNotice w := rfl

theorem enterShown_shows {d : State} {w : Nat} (h : (d.warning w).state ∈ [.pending, .held]) : Shows d w (d.enterShown w) where
  before := h
  shown := by
    have hw := warning_lt (s := d) (w := w) (by rcases List.mem_pair.mp h with k | k <;> rw [k] <;> decide)
    rw [enterShown_warning, if_pos ⟨rfl, hw⟩]
  others v hv := .inl (by rw [enterShown_warning, if_neg fun k => hv k.1])
  review := congrArg Arbiter.review (shownNotice_kept _ w).arbiter
  presented := congrArg Arbiter.presented (shownNotice_kept _ w).arbiter
  notice := by
    rw [enterShown_eq]
    exact noticeTaken_congr (s' := d.placed w) rfl rfl (shownNotice_taken _ w)
  sounds := by
    rw [enterShown_eq]
    exact shownNotice_soundsAs (d.placed w) w

theorem preempt_shows {d : State} {v w : Nat} (hv : (d.warning v).state = .shown) (hw : (d.warning w).state = .pending) :
    Shows d w ((d.modifyWarning v fun x => { x with state := .held }).enterShown w) := by
  have hne : w ≠ v := fun k => by rw [k, hv] at hw; cases hw
  have hwarning : (d.modifyWarning v fun x => { x with state := .held }).warning w = d.warning w := by
    rw [warning_modifyWarning, if_neg fun k => hne k.1]
  have hshows : Shows (d.modifyWarning v fun x => { x with state := .held }) w _ :=
    enterShown_shows (by rw [hwarning, hw]; simp)
  refine ⟨by simp [hw], by rw [hshows.shown, hwarning], fun u hu => ?_, hshows.review, hshows.presented, hshows.notice,
    hshows.sounds⟩
  rw [enterShown_warning, if_neg fun k => hu k.1, warning_modifyWarning]
  split
  · next huv => exact .inr ⟨by rw [huv.1]; exact hv, rfl⟩
  · exact .inl rfl


/-- The selection shows one warning, or leaves everything. -/
theorem select_shows (d : State) : d.select = d ∨ ∃ w, Shows d w d.select := by
  rcases select_cases d with ⟨h, -, -⟩ | ⟨w, -, hc, h⟩ | ⟨v, -, -, h⟩ | ⟨v, w, hv, hp, h⟩
  · exact .inl h
  · exact .inr ⟨w, h ▸ enterShown_shows (candidate_state hc)⟩
  · exact .inl h
  · exact .inr ⟨w, h ▸ preempt_shows (shown_eq_some_iff.mp hv).1 (preemptor_state hp)⟩

theorem select_selected (d : State) (v : Nat) : (d.warning v).Selected (d.select.warning v) := by
  rcases select_shows d with h | ⟨w, h⟩
  · rw [h]; exact .inl rfl
  · by_cases hv : v = w
    · rw [hv]; exact .inr (.inr ⟨h.before, h.shown⟩)
    · exact (h.others v hv).elim .inl fun k => .inr (.inl k)

theorem select_subs (d : State) : d.select.arbiter.subs = d.arbiter.subs ∧ d.select.arbiter.tick = d.arbiter.tick ∧
    d.select.arbiter.rate43 = d.arbiter.rate43 := by
  have hentered (d : State) (w : Nat) : (d.enterShown w).arbiter.subs = d.arbiter.subs ∧
      (d.enterShown w).arbiter.tick = d.arbiter.tick ∧ (d.enterShown w).arbiter.rate43 = d.arbiter.rate43 := by
    rw [enterShown_eq, (shownNotice_kept _ w).arbiter]
    exact ⟨rfl, rfl, rfl⟩
  rcases select_cases d with ⟨h, -, -⟩ | ⟨w, -, -, h⟩ | ⟨v, -, -, h⟩ | ⟨v, w, -, -, h⟩
  · rw [h]; exact ⟨rfl, rfl, rfl⟩
  · rw [h]; exact hentered d w
  · rw [h]; exact ⟨rfl, rfl, rfl⟩
  · rw [h]; exact hentered (d.modifyWarning v fun x => { x with state := .held }) w

/-- While the most urgent warning is SHOWN there is nothing to select. -/
theorem select_of_mostUrgent {s : State} (hc : s.OrdersComplete) (h : s.MostUrgentShown) : s.select = s := by
  obtain ⟨-, hurgent, hnone⟩ := h
  have hlt : ∀ w, (s.warning w).state ≠ .off → w < 32 := fun w hw => hc.1 ▸ warning_lt hw
  rcases select_cases s with ⟨h, -, -⟩ | ⟨w, hs, hw, -⟩ | ⟨v, -, -, h⟩ | ⟨v, w, hs, hp, -⟩
  · exact h
  · obtain ⟨hw32, hstate, -, -⟩ := candidate_some hc hw
    obtain ⟨hp, hh⟩ := hnone (fun v _ => shown_eq_none_iff.mp hs v) w hw32
    exact absurd hstate (not_or.mpr ⟨hh, hp⟩)
  · exact h
  · obtain ⟨hw32, hws, hlt', -⟩ := preemptor_some hc hp
    obtain ⟨hvs, -⟩ := shown_eq_some_iff.mp hs
    exact absurd (hurgent v w (hlt v (by rw [hvs]; decide)) hw32 hvs hws) (Nat.not_le_of_lt hlt')

/-! ### After the selection -/

/-- The review that stands while its warning is SILENCED. -/
def State.standingReview (s : State) : Option Review :=
  s.arbiter.review.filter fun r => (s.warning r.warning).state == .silenced

theorem endStaleReview_arbiter (s : State) : s.endStaleReview.arbiter = { s.arbiter with review := s.standingReview } := by
  unfold State.endStaleReview State.standingReview
  split
  · next r hr =>
    rw [hr]
    split
    · next h => rw [Option.filter_some, if_pos (by simp [h]), ← hr]
    · next h => rw [Option.filter_some, if_neg (by simp [h])]; rfl
  · next hr => rw [hr, Option.filter_none, ← hr]

theorem standingReview_congr {s t : State} (hw : t.arbiter.warnings = s.arbiter.warnings)
    (hr : t.arbiter.review = s.arbiter.review) : t.standingReview = s.standingReview := by
  unfold State.standingReview
  simp only [warning_of_warnings hw, hr]

/-- The event up to its 43h. -/
def State.chimed (s0 x : State) : State :=
  (if s0.shown.isSome && x.shown.isNone then x.noneShown else x).endStaleReview.syncChime

theorem afterSelect_eq (s0 x : State) : State.afterSelect s0 x =
    if (State.chimed s0 x).summary = s0.summary then State.chimed s0 x else (State.chimed s0 x).queueSummary := rfl

theorem hushed_kept (s0 x : State) : KeptBut [.sound] x (if s0.shown.isSome && x.shown.isNone then x.noneShown else x) :=
  .ite (noneShown_kept x) (.refl _ _)

theorem chimed_kept (s0 x : State) : KeptBut [.arbiter, .sound] x (State.chimed s0 x) :=
  ((hushed_kept s0 x).andThen (cs := [.arbiter, .sound]) (endStaleReview_kept _)).andThen (syncChime_kept _)

theorem chimed_arbiter (s0 x : State) : (State.chimed s0 x).arbiter = { x.arbiter with review := x.standingReview } := by
  unfold State.chimed
  have hkept := (hushed_kept s0 x).arbiter
  rw [(syncChime_kept _).arbiter, endStaleReview_arbiter, standingReview_congr (s := x) (by rw [hkept]) (by rw [hkept]), hkept]

theorem afterSelect_chimed (s0 x : State) : KeptBut [.line, .handler] (State.chimed s0 x) (State.afterSelect s0 x) :=
  .ite (.refl _ _) (queueSummary_kept _)

theorem afterSelect_arbiter (s0 x : State) :
    (State.afterSelect s0 x).arbiter = { x.arbiter with review := x.standingReview } := by
  rw [(afterSelect_chimed s0 x).arbiter, chimed_arbiter]

/-! ### The chime -/

theorem chimes_congr {t t' : State} {u : Sound} (h : t'.sound = t.sound) (k : t.Chimes u) : t'.Chimes u := by
  unfold State.Chimes at *
  rw [h]
  exact k

theorem syncChime_chimes {s : State} {u : Sound} (h : s.Chimes u) : s.syncChime.Chimes u := by
  have hsound : ∀ v : Sound, v = { u with output := v.output, clickTimer := v.clickTimer, tickTimer := v.tickTimer } →
      ∀ o c k, { v with output := o, clickTimer := c, tickTimer := k } =
        { u with output := o, clickTimer := c, tickTimer := k } := by
    intro v hv o c k
    rw [hv]
  unfold State.Chimes at *
  unfold State.syncChime
  split
  · exact hsound _ h _ _ _
  · split
    · exact hsound _ h _ _ _
    · exact h

theorem shownClass_of_state {s : State} {w : Nat} (hone : s.shownCount ≤ 1) (h : (s.warning w).state = .shown) :
    s.shownClass = some (s.warningClass w) := by
  unfold State.shownClass
  rw [shown_of_state hone h]
  rfl

theorem muted_iff {s : State} (hl : s.arbiter.warnings.length = 32) (hone : s.shownCount ≤ 1) :
    s.muted = true ↔ s.sound.quietCabin = true ∧
      ∃ w < 32, (s.warning w).state = .shown ∧ s.warningClass w ∈ [.advisory, .information] := by
  unfold State.muted
  rw [Bool.and_eq_true]
  refine and_congr_right fun _ => ?_
  cases hs : s.shown with
  | none =>
    have hno := shown_eq_none_iff.mp hs
    have hclass : s.shownClass = none := by unfold State.shownClass; rw [hs]; rfl
    rw [hclass]
    simp [hno]
  | some v =>
    obtain ⟨hv, -⟩ := shown_eq_some_iff.mp hs
    rw [shownClass_of_state hone hv]
    constructor
    · intro h
      exact ⟨v, hl ▸ warning_lt (by rw [hv]; decide), hv, by simpa using h⟩
    · rintro ⟨w, -, hw, hclass⟩
      rw [shownCount_le_one_iff.mp hone v w hv hw]
      simpa using hclass

theorem chimeAsks_iff {s : State} (hl : s.arbiter.warnings.length = 32) (hone : s.shownCount ≤ 1) :
    s.chimeAsks = true ↔ (s.sound.channel = .on ∨ s.sound.channel = .carry) ∧ ¬(s.sound.quietCabin = true ∧
      ∃ w < 32, (s.warning w).state = .shown ∧ s.warningClass w ∈ [.advisory, .information]) := by
  unfold State.chimeAsks
  rw [← muted_iff hl hone]
  simp

theorem chimeOutput_of_kept {bs : List Block} {t t' : State} {u : Sound} (k : KeptBut bs t t') (h : t.ChimeOutput u)
    (hs : Block.sound ∉ bs := by decide) (ha : Block.arbiter ∉ bs := by decide) (hc : Block.cal ∉ bs := by decide) :
    t'.ChimeOutput u := by
  have hw : t'.arbiter.warnings = t.arbiter.warnings := by rw [k.arbiter ha]
  unfold State.ChimeOutput at *
  simp only [k.sound hs, warning_of_warnings hw, warningClass_of_cal (k.cal hc)]
  exact h

theorem syncChime_output {s : State} {u : Sound} (hl : s.arbiter.warnings.length = 32) (hone : s.shownCount ≤ 1)
    (h : s.SoundsAs u) : s.syncChime.ChimeOutput u := by
  have hasks := chimeAsks_iff hl hone
  obtain ⟨houtput, hclick, htick⟩ := h
  unfold State.ChimeOutput State.syncChime
  by_cases ha : s.chimeAsks = true
  · rw [if_pos ha]
    exact ⟨fun _ => ⟨rfl, rfl, rfl⟩, fun k => absurd (hasks.mp ha) k⟩
  · rw [if_neg ha]
    by_cases ho : s.sound.output = .chime
    · rw [if_pos ho, if_pos (houtput ▸ ho)]
      exact ⟨fun k => absurd (hasks.mpr k) ha, fun _ => ⟨rfl, hclick, htick⟩⟩
    · rw [if_neg ho, if_neg (houtput ▸ ho)]
      exact ⟨fun k => absurd (hasks.mpr k) ha, fun _ => ⟨houtput, hclick, htick⟩⟩


theorem hushed_soundsAs {x : State} {u : Sound} (s0 : State) (h : x.SoundsAs u) :
    (if s0.shown.isSome && x.shown.isNone then x.noneShown else x).endStaleReview.SoundsAs u := by
  unfold State.SoundsAs at *
  rw [(endStaleReview_kept _).sound]
  split <;> exact h

theorem afterSelect_output {s0 x : State} {u : Sound} (hl : x.arbiter.warnings.length = 32) (hone : x.shownCount ≤ 1)
    (h : x.SoundsAs u) : (State.afterSelect s0 x).ChimeOutput u := by
  have hkept := (hushed_kept s0 x).andThen (cs := [.arbiter, .sound]) (endStaleReview_kept _)
  have harbiter := chimed_arbiter s0 x
  unfold State.chimed at harbiter
  rw [(syncChime_kept _).arbiter] at harbiter
  refine chimeOutput_of_kept (afterSelect_chimed s0 x) (syncChime_output ?_ ?_ (hushed_soundsAs s0 h))
  · rw [harbiter]; exact hl
  · unfold State.shownCount
    rw [harbiter]
    exact hone

theorem afterSelect_chimes {s0 x : State} {u : Sound} (hshown : s0.shown.isSome = true → x.shown.isSome = true)
    (h : x.Chimes u) : (State.afterSelect s0 x).Chimes u := by
  refine chimes_congr (afterSelect_chimed s0 x).sound (syncChime_chimes (chimes_congr (endStaleReview_kept _).sound ?_))
  rw [if_neg]
  · exact h
  · intro k
    rw [Bool.and_eq_true] at k
    have := hshown k.1
    rw [Option.isNone_iff_eq_none.mp k.2] at this
    cases this

theorem afterSelect_hushed {s0 x : State} (hs : s0.shown.isSome = true) (hx : x.shown = none) :
    (State.afterSelect s0 x).Chimes { x.sound with channel := .idle, playing := none, cadence := 0 } := by
  refine chimes_congr (afterSelect_chimed s0 x).sound (syncChime_chimes (chimes_congr (endStaleReview_kept _).sound ?_))
  rw [if_pos (by rw [hs, hx]; rfl)]
  rfl

theorem noticeTaken_sound {s t t' : State} {w : Nat} (h : ∀ u, t.Chimes u → t'.Chimes u) (k : s.NoticeTaken w t) :
    s.NoticeTaken w t' := by
  obtain ⟨hstart, hcarry, hgoes⟩ := k
  exact ⟨fun a => h _ (hstart a), fun a b => h _ (hcarry a b), fun a b => h _ (hgoes a b)⟩

/-! ### The event -/

theorem dropPresented_warnings (s : State) : s.dropPresented.arbiter.warnings = s.arbiter.warnings := by
  unfold State.dropPresented
  split <;> rfl

theorem dropPresented_review (s : State) : s.dropPresented.arbiter.review = s.arbiter.review := by
  unfold State.dropPresented
  split <;> rfl

theorem dropPresented_rest (s : State) : s.dropPresented.arbiter.cautionOrder = s.arbiter.cautionOrder ∧
    s.dropPresented.arbiter.advisoryOrder = s.arbiter.advisoryOrder ∧ s.dropPresented.arbiter.subs = s.arbiter.subs ∧
    s.dropPresented.arbiter.tick = s.arbiter.tick ∧ s.dropPresented.arbiter.rate43 = s.arbiter.rate43 := by
  unfold State.dropPresented
  split <;> exact ⟨rfl, rfl, rfl, rfl, rfl⟩

theorem dropPresented_presented (s : State) :
    s.dropPresented.arbiter.presented = if (s.warning 30).state.inService then s.arbiter.presented else none := by
  unfold State.dropPresented
  split <;> rfl

theorem dropPresented_warning (s : State) (w : Nat) : s.dropPresented.warning w = s.warning w :=
  warning_of_warnings (dropPresented_warnings s) w

theorem arbiterEvent_warning (s : State) (f : State → State) (w : Nat) :
    (s.arbiterEvent f).warning w = (f s).dropPresented.select.warning w := by
  rw [arbiterEvent_eq]
  exact warning_of_warnings (by rw [afterSelect_arbiter]) w

theorem arbiterEvent_selected (s : State) (f : State → State) (w : Nat) :
    ((f s).warning w).Selected ((s.arbiterEvent f).warning w) := by
  rw [arbiterEvent_warning, ← dropPresented_warning]
  exact select_selected _ w

theorem arbiterEvent_rest (s : State) (f : State → State) :
    (s.arbiterEvent f).arbiter.cautionOrder = (f s).arbiter.cautionOrder ∧
      (s.arbiterEvent f).arbiter.advisoryOrder = (f s).arbiter.advisoryOrder ∧
      (s.arbiterEvent f).arbiter.subs = (f s).arbiter.subs ∧ (s.arbiterEvent f).arbiter.tick = (f s).arbiter.tick ∧
      (s.arbiterEvent f).arbiter.rate43 = (f s).arbiter.rate43 := by
  obtain ⟨hcaution, hadvisory, hsubs, htick, hrate⟩ := dropPresented_rest (f s)
  obtain ⟨-, kcaution, kadvisory⟩ := select_kept_rest (f s).dropPresented
  obtain ⟨ksubs, ktick, krate⟩ := select_subs (f s).dropPresented
  rw [arbiterEvent_eq, afterSelect_arbiter]
  exact ⟨kcaution.trans hcaution, kadvisory.trans hadvisory, ksubs.trans hsubs, ktick.trans htick, krate.trans hrate⟩

/-- An event whose selection finds nothing to do. -/
theorem arbiterEvent_stands {s : State} {f : State → State} (h : (f s).dropPresented.select = (f s).dropPresented) :
    (s.arbiterEvent f).arbiter = { (f s).arbiter with
      review := (f s).standingReview
      presented := if ((f s).warning 30).state.inService then (f s).arbiter.presented else none } := by
  rw [arbiterEvent_eq, afterSelect_arbiter, h, ← dropPresented_presented,
    standingReview_congr (s := f s) (dropPresented_warnings _) (dropPresented_review _)]
  unfold State.dropPresented
  split <;> rfl

/-- An event that shows a warning ends the review. -/
theorem arbiterEvent_shows_review {s : State} {f : State → State} {w : Nat}
    (h : Shows (f s).dropPresented w (f s).dropPresented.select) : (s.arbiterEvent f).arbiter.review = none := by
  rw [arbiterEvent_eq, afterSelect_arbiter]
  show State.standingReview _ = none
  unfold State.standingReview
  rw [h.review, Option.filter_none]

theorem arbiterEvent_shown {s : State} {f : State → State} :
    (s.arbiterEvent f).shown = (f s).dropPresented.select.shown := by
  rw [arbiterEvent_eq]
  unfold State.shown
  rw [afterSelect_arbiter]

theorem shown_congr {s t : State} (h : t.arbiter.warnings = s.arbiter.warnings) : t.shown = s.shown := by
  unfold State.shown
  rw [h]

/-- The chime follows an event whose own changes leave the sound unit alone, keep a SHOWN warning's level request, and
make a SHOWN warning PENDING only with its level request gone. -/
theorem arbiterEvent_chime {s : State} {f : State → State} (h : Inner s (f s)) (hl : s.arbiter.warnings.length = 32)
    (hone : s.shownCount ≤ 1) (hsound : (f s).sound = s.sound)
    (hkeep : ∀ w, (s.warning w).state = .shown → ((f s).warning w).state = .shown → (s.warning w).level = true →
      ((f s).warning w).level = true)
    (hback : ∀ w, (s.warning w).state = .shown → ((f s).warning w).state = .pending →
      (s.warning w).level = true ∧ ((f s).warning w).level = false) : s.ChimeFollows s.sound (s.arbiterEvent f) := by
  have hd : Inner s (f s).dropPresented := h.trans (dropPresented_inner _)
  have hdsound : (f s).dropPresented.sound = s.sound := (dropPresented_kept _).sound.trans hsound
  have hdone := hd.rings.shownCount hone
  have hxone := select_shownCount hdone
  have hxlen : (f s).dropPresented.select.arbiter.warnings.length = 32 :=
    (select_kept_rest _).1.trans (hd.rings.length.trans hl)
  have hwas : ∀ w, ((f s).warning w).state = .shown → (s.warning w).state = .shown := fun w hw => by
    rw [← h.rings.fewer w (by rw [hw]; rfl), hw]
  have hlt : ∀ w, (s.warning w).state = .shown → w < 32 := fun w hw => hl ▸ warning_lt (by rw [hw]; decide)
  have hsome : (∃ w < 32, (s.warning w).state = .shown) → s.shown.isSome = true := fun ⟨w, _, hw⟩ =>
    shown_isSome_iff.mpr ⟨w, hw⟩
  have hstate := arbiterEvent_warning s f
  unfold State.ChimeFollows
  simp only [hstate]
  rcases select_shows (f s).dropPresented with hsel | ⟨w, hsel⟩
  · have hsounds : (f s).dropPresented.SoundsAs s.sound := by unfold State.SoundsAs; rw [hdsound]; exact ⟨rfl, rfl, rfl⟩
    rw [hsel]
    simp only [dropPresented_warning]
    have hevent : s.arbiterEvent f = State.afterSelect s (f s).dropPresented := by rw [arbiterEvent_eq, hsel]
    rw [hevent]
    refine ⟨fun w hw ⟨hstays, hno⟩ => ?_, fun hw hno => ?_, fun _ hor => ?_,
      afterSelect_output (hd.rings.length.trans hl) hdone hsounds⟩
    · exact absurd ⟨hwas w hstays, fun hlevel => hkeep w (hwas w hstays) hstays hlevel⟩ hno
    · rw [← hdsound]
      refine afterSelect_hushed (hsome hw) (shown_eq_none_iff.mpr fun w hw' => ?_)
      rw [dropPresented_warning] at hw'
      exact hno w (hlt w (hwas w hw')) hw'
    · refine afterSelect_chimes (fun hsh => ?_) (by unfold State.Chimes; rw [hdsound])
      rcases hor with ⟨w, -, hw⟩ | hnone
      · exact shown_isSome_iff.mpr ⟨w, by rw [dropPresented_warning]; exact hw⟩
      · obtain ⟨w, hw⟩ := shown_isSome_iff.mp hsh
        exact absurd hw (hnone w (hlt w hw))
  · have hshown : ((f s).dropPresented.select.warning w).state = .shown := by rw [hsel.shown]
    have honly : ∀ v, ((f s).dropPresented.select.warning v).state = .shown → v = w := fun v hv =>
      shownCount_le_one_iff.mp hxone v w hv hshown
    have hw32 : w < 32 := hxlen ▸ warning_lt (by rw [hshown]; decide)
    have hisSome : s.shown.isSome = true → (f s).dropPresented.select.shown.isSome = true := fun _ =>
      shown_isSome_iff.mpr ⟨w, hshown⟩
    have hsounds : (f s).dropPresented.select.SoundsAs s.sound := hdsound ▸ hsel.sounds
    have hnew : ¬((s.warning w).state = .shown ∧
        ((s.warning w).level = true → ((f s).dropPresented.select.warning w).level = true)) := by
      rintro ⟨hws, hlevel⟩
      have hbefore := hsel.before
      rw [dropPresented_warning] at hbefore
      have hpending : ((f s).warning w).state = .pending := by
        rcases List.mem_pair.mp hbefore with k | k
        · exact k
        · rw [h.rings.fewer w (by rw [k]; rfl), hws] at k
          cases k
      obtain ⟨hl1, hl2⟩ := hback w hws hpending
      rw [hsel.shown, dropPresented_warning] at hlevel
      rw [hl2] at hlevel
      exact absurd (hlevel hl1) (by decide)
    rw [arbiterEvent_eq]
    refine ⟨fun v hv hstays => ?_, fun _ hno => absurd hshown (hno w hw32), fun hno _ => absurd ⟨hshown, hnew⟩ (hno w hw32),
      afterSelect_output hxlen hxone hsounds⟩
    rw [honly v hstays.1]
    exact noticeTaken_sound (fun u hu => afterSelect_chimes hisSome hu)
      (noticeTaken_congr (s := s) hd.rings.cal hdsound hsel.notice)

theorem chimeFollows_of_kept {bs : List Block} {s t t' : State} {u : Sound} (k : KeptBut bs t t') (h : s.ChimeFollows u t)
    (hs : Block.sound ∉ bs := by decide) (ha : Block.arbiter ∉ bs := by decide) (hc : Block.cal ∉ bs := by decide) :
    s.ChimeFollows u t' := by
  obtain ⟨henters, hhushed, hstands, houtput⟩ := h
  have hw : t'.arbiter.warnings = t.arbiter.warnings := by rw [k.arbiter ha]
  have hchimes : ∀ v, t.Chimes v → t'.Chimes v := fun v => chimes_congr (k.sound hs)
  unfold State.ChimeFollows
  simp only [warning_of_warnings hw]
  exact ⟨fun w hw hen => noticeTaken_sound hchimes (henters w hw hen), fun a b => hchimes _ (hhushed a b),
    fun a b => hchimes _ (hstands a b), chimeOutput_of_kept k houtput hs ha hc⟩

/-! ### The summary and the event that changes no state -/

theorem summary_congr {s t : State} (hl : t.arbiter.warnings.length = s.arbiter.warnings.length) (hc : t.cal = s.cal)
    (h : ∀ w, (t.warning w).state = (s.warning w).state) : t.summary = s.summary := by
  have hstates : t.arbiter.warnings.map (·.state) = s.arbiter.warnings.map (·.state) := by
    refine List.ext_getElem (by simp [hl]) fun i hi hj => ?_
    rw [List.length_map] at hi hj
    rw [List.getElem_map, List.getElem_map, ← warning_of_lt hi, ← warning_of_lt hj, h i]
  have hflags : t.arbiter.warnings.map (fun w => flagNat (w.state != .off)) =
      s.arbiter.warnings.map fun w => flagNat (w.state != .off) := by
    have := congrArg (List.map fun x : WarningState => flagNat (x != .off)) hstates
    rwa [List.map_map, List.map_map] at this
  have hshown : t.shown = s.shown := by
    have hfind (l : List Warning) : (l.findIdx? fun w => w.state == .shown) =
        (l.map (·.state)).findIdx? (· == .shown) := by rw [List.findIdx?_map]; rfl
    unfold State.shown
    rw [hfind, hfind, hstates]
  unfold State.summary
  rw [hflags, hshown]
  simp only [warningClass_of_cal hc]

/-- An event whose own changes leave every warning's state, with the most urgent one SHOWN: no selection and no 43h. -/
theorem arbiterEvent_quiet {s : State} {f : State → State} (h : Inner s (f s)) (hc : s.OrdersComplete) (hm : s.MostUrgentShown)
    (hstate : ∀ w, ((f s).warning w).state = (s.warning w).state) :
    (f s).dropPresented.select = (f s).dropPresented ∧ s.arbiterEvent f = State.chimed s (f s).dropPresented := by
  have hd : Inner s (f s).dropPresented := h.trans (dropPresented_inner _)
  have hstates : ∀ w, ((f s).dropPresented.warning w).state = (s.warning w).state := fun w => by
    rw [dropPresented_warning, hstate]
  have hurgent : (f s).dropPresented.MostUrgentShown := by
    obtain ⟨hone, hrest⟩ := hm
    refine ⟨hd.rings.shownCount hone, ?_⟩
    simp only [hstates, warningClass_of_cal hd.rings.cal]
    exact hrest
  have hsel := select_of_mostUrgent (hd.rings.complete hc) hurgent
  refine ⟨hsel, ?_⟩
  rw [arbiterEvent_eq, hsel, afterSelect_eq, if_pos]
  have harbiter : (State.chimed s (f s).dropPresented).arbiter.warnings = (f s).dropPresented.arbiter.warnings := by
    rw [chimed_arbiter]
  refine summary_congr ?_ ((chimed_kept s _).cal.trans hd.rings.cal) fun w => ?_
  · rw [harbiter]; exact hd.rings.length
  · rw [warning_of_warnings harbiter]; exact hstates w

end Sys2Proof.Machine
end

section
/-! SUPPORT. The events of one warning: a request that makes it PENDING, a reminder's end. Settles O46. -/
namespace Sys2Proof.Machine
set_option Elab.async false

/-! ### Presenting a page that does not begin -/

theorem refreshHolds_stays {s u : State} (hp : u.trip.page = s.trip.page) (hw : u.warningPage = true → s.warningPage = true)
    (hs : u.service.selected = s.service.selected) : State.refreshHolds s u = u := by
  unfold State.refreshHolds
  rw [if_neg, if_neg]
  · simp [hs]
  · rw [hp, Bool.or_eq_true, not_or]
    refine ⟨by simp, fun k => ?_⟩
    rw [Bool.and_eq_true] at k
    have := hw k.2
    rw [this] at k
    exact absurd k.1 (by decide)

theorem present_frame_stays {bs cs : List Block} {s u : State} (h : KeptBut bs s u)
    (hw : u.warningPage = true → s.warningPage = true) (hb : ∀ b ∈ [Block.trip, .service], b ∉ bs := by decide)
    (hc : bs ⊆ cs := by decide) (hd : [Block.display] ⊆ cs := by decide) : KeptBut cs s (State.present s u) := by
  unfold State.present
  rw [refreshHolds_stays (by rw [h.trip (hb _ (by decide))]) hw (by rw [h.service (hb _ (by decide))])]
  exact (h.mono hc).trans ((refreshDisplay_kept s u).mono hd)

/-! ### A warning that becomes PENDING -/

theorem modifyWarning_same {s : State} {w : Nat} {f : Warning → Warning} (h : f (s.warning w) = s.warning w) :
    (s.modifyWarning w f).arbiter.warnings = s.arbiter.warnings := by
  show s.arbiter.warnings.modify w f = s.arbiter.warnings
  refine List.ext_getElem (List.length_modify _ _ _) fun i _ hi => ?_
  rw [List.getElem_modify]
  split
  · next hwi =>
    subst hwi
    rw [← warning_of_lt hi]
    exact h
  · rfl

/-- An event that leaves the warnings leaves them, with the most urgent one SHOWN. -/
theorem arbiterEvent_same {s : State} {f : State → State} (h : Inner s (f s)) (hc : s.OrdersComplete) (hm : s.MostUrgentShown)
    (hw : (f s).arbiter.warnings = s.arbiter.warnings) : (s.arbiterEvent f).arbiter.warnings = s.arbiter.warnings := by
  have hquiet := (arbiterEvent_quiet h hc hm fun w => by rw [warning_of_warnings hw]).1
  rw [arbiterEvent_stands hquiet]
  exact hw

/-- A warning that an event has made PENDING from OFF or SILENCED, the others as they were. -/
theorem arbiterEvent_arises {s : State} {f : State → State} {w : Nat} (h : Inner s (f s)) (hc : s.OrdersComplete)
    (hm : s.MostUrgentShown) (hstate : (s.warning w).state ∈ [.off, .silenced])
    (hnew : (f s).warning w = (s.warning w).goTo .pending) (hothers : ∀ v, v ≠ w → (f s).warning v = s.warning v) :
    s.Arises w (s.arbiterEvent f) := by
  obtain ⟨hone, hurgent, hnone⟩ := hm
  have hd : Inner s (f s).dropPresented := h.trans (dropPresented_inner _)
  have hdc := hd.rings.complete hc
  have hdw : (f s).dropPresented.warning w = (s.warning w).goTo .pending := by rw [dropPresented_warning, hnew]
  have hdv : ∀ v, v ≠ w → (f s).dropPresented.warning v = s.warning v := fun v hv => by
    rw [dropPresented_warning, hothers v hv]
  have hclass := warningClass_of_cal hd.rings.cal
  have hnotShown : (s.warning w).state ≠ .shown := fun k => by simp [k] at hstate
  have hlt : ∀ v, ((f s).dropPresented.warning v).state ≠ .off → v < 32 := fun v hv => hdc.1 ▸ warning_lt hv
  have hw32 : w < 32 := hlt w (by rw [hdw, goTo_state]; decide)
  have hsw : ∀ v, (s.warning v).state = .shown → v ≠ w := fun v hv k => hnotShown (k ▸ hv)
  have hgo : (s.warning w).goTo .pending =
      { s.warning w with state := .pending, shownTimer := 0, completed := false, reminder := 0 } := rfl
  unfold State.Arises
  simp only [arbiterEvent_warning]
  rcases select_cases (f s).dropPresented with ⟨-, -, hcand⟩ | ⟨a, hs, ha, hsel⟩ | ⟨v, hs, hpre, hsel⟩ | ⟨v, a, hs, hpre, hsel⟩
  · exact absurd (by rw [hdw]; rfl) (candidate_none hdc hcand hw32).2
  · have hno : ∀ v, (s.warning v).state ≠ .shown := fun v hv =>
      shown_eq_none_iff.mp hs v (by rw [hdv v (hsw v hv)]; exact hv)
    have haw : a = w := by
      by_contra hne
      obtain ⟨ha32, hastate, -, -⟩ := candidate_some hdc ha
      rw [hdv a hne] at hastate
      obtain ⟨hp, hh⟩ := hnone (fun v _ => hno v) a ha32
      exact hastate.elim hh hp
    subst haw
    have hshown : (f s).dropPresented.select.warning a =
        { s.warning a with state := .shown, shownTimer := 0, completed := false, reminder := 0 } := by
      rw [hsel, enterShown_warning, if_pos ⟨rfl, by rw [hdc.1]; exact hw32⟩, hdw]
      rfl
    refine ⟨by rw [hshown], fun v hv hne _ => ?_, fun _ => by rw [hshown], fun v _ hv => absurd hv (hno v)⟩
    rw [hsel, enterShown_warning, if_neg fun k => hne k.1, hdv v hne]
  · obtain ⟨hvs, -⟩ := shown_eq_some_iff.mp hs
    have hvw : v ≠ w := fun k => by rw [k, hdw] at hvs; cases hvs
    have hsv : (s.warning v).state = .shown := by rwa [hdv v hvw] at hvs
    have hrank := preemptor_none hdc hpre hw32 (by rw [hdw]; rfl)
    rw [hclass, hclass] at hrank
    have honly : ∀ u, (s.warning u).state = .shown → u = v := fun u hu => shownCount_le_one_iff.mp hone u v hu hsv
    rw [hsel, hdw, hgo]
    refine ⟨rfl, fun u _ hne _ => hdv u hne, fun k => absurd hsv (k v (hlt v (by rw [hvs]; decide))), fun u _ hu => ?_⟩
    rw [honly u hu]
    exact ⟨fun k => absurd k (Nat.not_lt_of_le hrank), fun _ => ⟨rfl, hdv v hvw⟩⟩
  · obtain ⟨hvs, -⟩ := shown_eq_some_iff.mp hs
    have hvw : v ≠ w := fun k => by rw [k, hdw] at hvs; cases hvs
    have hsv : (s.warning v).state = .shown := by rwa [hdv v hvw] at hvs
    have hv32 := hlt v (by rw [hvs]; decide)
    obtain ⟨ha32, hastate, hrank, -⟩ := preemptor_some hdc hpre
    have haw : a = w := by
      by_contra hne
      rw [hdv a hne] at hastate
      have := hurgent v a hv32 ha32 hsv hastate
      rw [hclass, hclass] at hrank
      exact absurd this (Nat.not_le_of_lt hrank)
    subst haw
    have honly : ∀ u, (s.warning u).state = .shown → u = v := fun u hu => shownCount_le_one_iff.mp hone u v hu hsv
    have hlen : a < ((f s).dropPresented.modifyWarning v fun x => { x with state := .held }).arbiter.warnings.length := by
      show a < (List.modify _ _ _).length
      rw [List.length_modify, hdc.1]
      exact ha32
    have hshown : (f s).dropPresented.select.warning a =
        { s.warning a with state := .shown, shownTimer := 0, completed := false, reminder := 0 } := by
      rw [hsel, enterShown_warning, if_pos ⟨rfl, hlen⟩, warning_modifyWarning, if_neg fun k => hvw k.1.symm, hdw]
      rfl
    have helse : ∀ u, u ≠ a → (f s).dropPresented.select.warning u =
        if u = v then { s.warning v with state := .held } else s.warning u := by
      intro u hne
      rw [hsel, enterShown_warning, if_neg fun k => hne k.1, warning_modifyWarning]
      by_cases huv : u = v
      · rw [if_pos ⟨huv, by rw [hdc.1]; exact hv32⟩, if_pos huv, huv, hdv v hvw]
      · rw [if_neg fun k => huv k.1, if_neg huv, hdv u hne]
    refine ⟨by rw [hshown], fun u _ hne hu => ?_, fun k => absurd hsv (k v hv32), fun u _ hu => ?_⟩
    · rw [helse u hne, if_neg fun k => hu (by rw [k]; exact hsv)]
    · rw [honly u hu]
      rw [hclass, hclass] at hrank
      refine ⟨fun _ => ⟨by rw [hshown], by rw [helse v hvw, if_pos rfl]⟩, fun k => absurd k (Nat.not_le_of_lt hrank)⟩

/-! ### The chime and the 43h of a raised warning -/

/-- The chime of an event that keeps every SHOWN warning as it is. -/
theorem arbiterEvent_chime_kept {s : State} {f : State → State} (h : Inner s (f s)) (hc : s.OrdersComplete)
    (hm : s.MostUrgentShown) (hsound : (f s).sound = s.sound)
    (hshown : ∀ w, (s.warning w).state = .shown →
      ((f s).warning w).state ≠ .pending ∧ ((f s).warning w).level = (s.warning w).level) :
    s.ChimeFollows s.sound (s.arbiterEvent f) := by
  refine arbiterEvent_chime h hc.1 hm.1 hsound (fun w hw _ hl => ?_) (fun w hw hp => absurd hp (hshown w hw).1)
  rw [(hshown w hw).2, hl]

/-- A change of the OFF warnings is published. -/
theorem arbiterEvent_publishes {s : State} {f : State → State} (k : KeptBut [.arbiter] s (f s))
    (hl : s.arbiter.warnings.length = 32) (hl' : (s.arbiterEvent f).arbiter.warnings.length = 32) {w : Nat} (hw : w < 32)
    (hoff : (s.warning w).state = .off) (hnew : ((s.arbiterEvent f).warning w).state ≠ .off) (hopen : s.line.Open 0x43) :
    (s.arbiterEvent f).line = s.line.enter 0x43
      (if (s.arbiterEvent f).shown.map (s.arbiterEvent f).warningClass = some .danger then 0 else 2) .publication
      (s.arbiterEvent f).summary .none := by
  let x := (f s).dropPresented.select
  have hkept : KeptBut [.arbiter, .sound] s (State.chimed s x) :=
    (k.andThen (cs := [.arbiter, .sound]) (dropPresented_kept _)).andThen (cs := [.arbiter, .sound]) (select_kept _)
      |>.andThen (cs := [.arbiter, .sound]) (chimed_kept s x)
  have harbiter : (s.arbiterEvent f).arbiter = (State.chimed s x).arbiter := by
    rw [arbiterEvent_eq, (afterSelect_chimed s x).arbiter]
  have hcal : (s.arbiterEvent f).cal = (State.chimed s x).cal := by rw [arbiterEvent_eq, (afterSelect_chimed s x).cal]
  have hsummary : (s.arbiterEvent f).summary = (State.chimed s x).summary :=
    summary_congr (by rw [harbiter]) hcal fun w => by
      rw [warning_of_warnings (s := State.chimed s x) (by rw [harbiter])]
  have hshown : (s.arbiterEvent f).shown = (State.chimed s x).shown := by unfold State.shown; rw [harbiter]
  have hclass : (s.arbiterEvent f).warningClass = (State.chimed s x).warningClass :=
    funext fun w => warningClass_of_cal hcal w
  have hchanged : (State.chimed s x).summary ≠ s.summary := by
    intro heq
    have hbit := summary_mask hl hw
    rw [← heq, ← hsummary, summary_mask hl' hw, hoff] at hbit
    simp [hnew] at hbit
  have hevent : s.arbiterEvent f = (State.chimed s x).queueSummary := by
    rw [arbiterEvent_eq, afterSelect_eq, if_neg hchanged]
  rw [hsummary, hshown, hclass, hevent]
  unfold State.queueSummary State.publish
  rw [queue_open (by rw [hkept.line]; exact hopen), hkept.line]
  rfl

/-! ### Service requests and reminders -/

theorem takeEdge_eq_goTo {e : Bool} {x : Warning} (he : e = true) (hx : x.state ∈ [.off, .silenced]) :
    x.takeEdge e = x.goTo .pending := by
  unfold Warning.takeEdge
  rw [if_pos]
  rcases List.mem_pair.mp hx with k | k <;> rw [he, k] <;> rfl

theorem takeEdge_same {e : Bool} {x : Warning} (h : e = false ∨ x.state ∈ [.pending, .shown, .held]) : x.takeEdge e = x := by
  unfold Warning.takeEdge
  rw [if_neg]
  rcases h with h | h
  · simp [h]
  · simp only [List.mem_cons, List.not_mem_nil, or_false] at h
    rcases h with h | h | h <;> simp [h]

theorem reminderDone_eq_goTo {x : Warning} (h : x.state = .silenced) (hr : 0 < x.reminder) :
    x.reminderDone = x.goTo .pending := if_pos ⟨h, hr⟩

theorem reminderDone_same {x : Warning} (h : ¬(x.state = .silenced ∧ 0 < x.reminder)) : x.reminderDone = x := if_neg h

theorem modifyWarning_new {s : State} {w : Nat} (f : Warning → Warning) (hw : w < s.arbiter.warnings.length) :
    (s.modifyWarning w f).warning w = f (s.warning w) := by rw [warning_modifyWarning, if_pos ⟨rfl, hw⟩]

theorem modifyWarning_others {s : State} {w v : Nat} (f : Warning → Warning) (hv : v ≠ w) :
    (s.modifyWarning w f).warning v = s.warning v := by rw [warning_modifyWarning, if_neg fun k => hv k.1]

theorem modifyWarning_shown {s : State} {w : Nat} {f : Warning → Warning}
    (hf : ∀ x : Warning, x.state = .shown → f x = x) (v : Nat) (hv : (s.warning v).state = .shown) :
    ((s.modifyWarning w f).warning v).state ≠ .pending ∧ ((s.modifyWarning w f).warning v).level = (s.warning v).level := by
  rw [warning_modifyWarning]
  split
  · rw [hf _ hv, hv]; exact ⟨nofun, rfl⟩
  · rw [hv]; exact ⟨nofun, rfl⟩

theorem arises_of_kept {bs : List Block} {s t t' : State} {w : Nat} (k : KeptBut bs t t') (h : s.Arises w t)
    (ha : Block.arbiter ∉ bs := by decide) : s.Arises w t' := by
  unfold State.Arises at *
  simp only [warning_of_warnings (s := t) (t := t') (by rw [k.arbiter ha])]
  exact h

/-- An event of one warning that leaves a SHOWN one. -/
theorem arbiterEvent_frame {s : State} {f : State → State} (k : KeptBut [.arbiter] s (f s)) :
    KeptBut [.arbiter, .sound, .line, .handler, .keys, .display] s (State.present s (s.arbiterEvent f)) :=
  (present_frame_keys (arbiterEvent_kept s (k.mono (by decide)))).mono (by decide)

theorem exec_edgeRequest {s : State} (k : ServiceWarning) (h : s.ign.awake = true) : exec (.serviceEdgeRequest k) s =
    .next (State.present s (s.arbiterEvent fun s => s.takeEdge (serviceWarning k))) := by
  show Host.Outcome.next (State.present s (s.edgeRequest (serviceWarning k))) = _
  unfold State.edgeRequest
  rw [if_pos h]

theorem present_shown (s u : State) : (State.present s u).shown = u.shown := shown_congr (by rw [State.present_arbiter])

theorem present_warningClass (s u : State) : (State.present s u).warningClass = u.warningClass :=
  funext fun w => warningClass_of_cal (present_kept s u).cal w

theorem present_summary (s u : State) : (State.present s u).summary = u.summary :=
  summary_congr (by rw [State.present_arbiter]) (present_kept s u).cal fun w => by
    rw [warning_of_warnings (s := u) (by rw [State.present_arbiter])]

theorem line_of_present {s u : State} {l : LineStation} (h : u.line = l) : (State.present s u).line = l :=
  (present_kept s u).line.trans h

theorem serviceEdge_raises {s : State} (hc : s.OrdersComplete) (hm : s.MostUrgentShown) {k : ServiceWarning} {w : Nat}
    (hk : serviceWarning k = w) (hw : w < 32) (h : s.ign.awake = true) :
      ∃ t, exec (.serviceEdgeRequest k) s = .next t ∧
        KeptBut [.arbiter, .sound, .line, .handler, .keys, .display] s t ∧ s.ChimeFollows s.sound t ∧
        ((s.warningFigures w).enabled = true → (s.warning w).state ∈ [.off, .silenced] → s.Arises w t) ∧
        ((s.warningFigures w).enabled = true → (s.warning w).state = .off → s.line.Open 0x43 →
          t.line = s.line.enter 0x43 (if t.shown.map t.warningClass = some .danger then 0 else 2) .publication t.summary
            .none) ∧
        ((s.warningFigures w).enabled = false ∨ (s.warning w).state ∈ [.pending, .shown, .held] →
          t.arbiter.warnings = s.arbiter.warnings) := by
  have hinner := takeEdge_inner s w
  have hkept := takeEdge_kept s w
  have hlen : w < s.arbiter.warnings.length := by rw [hc.1]; exact hw
  have hexec := exec_edgeRequest k h
  rw [hk] at hexec
  have hpresent := present_kept s (s.arbiterEvent fun s => s.takeEdge w)
  have harises : (s.warningFigures w).enabled = true → (s.warning w).state ∈ [.off, .silenced] →
      s.Arises w (s.arbiterEvent fun s => s.takeEdge w) := fun he hs =>
    arbiterEvent_arises hinner hc hm hs ((modifyWarning_new _ hlen).trans (takeEdge_eq_goTo he hs))
      fun v hv => modifyWarning_others _ hv
  refine ⟨_, hexec, arbiterEvent_frame hkept, ?_, fun he hs => ?_, fun he hs ho => ?_, fun hor => ?_⟩
  · refine chimeFollows_of_kept hpresent (arbiterEvent_chime_kept hinner hc hm hkept.sound ?_)
    exact modifyWarning_shown fun x hx => takeEdge_same (.inr (by simp [hx]))
  · exact arises_of_kept hpresent (harises he hs)
  · have harise := harises he (by simp [hs])
    have hnew : ((s.arbiterEvent fun s => s.takeEdge w).warning w).state ≠ .off := by
      have hpending : ((s.takeEdge w).warning w).state = .pending := by
        rw [show (s.takeEdge w).warning w = _ from modifyWarning_new _ hlen, takeEdge_eq_goTo he (by simp [hs])]
        rfl
      have hgo := (arbiterEvent_selected s (fun s => s.takeEdge w) w).goesOn.2.1 hpending
      intro k
      simp [k] at hgo
    have hl' := (arbiterEvent_steady (f := fun s => s.takeEdge w) hinner).rings.length hc.1
    have hpub := arbiterEvent_publishes (f := fun s => s.takeEdge w) hkept hc.1 hl' hw hs hnew ho
    rw [line_of_present hpub, present_summary, present_shown, present_warningClass]
  · rw [hpresent.arbiter, arbiterEvent_same hinner hc hm (modifyWarning_same (takeEdge_same hor))]

theorem serviceEdge_asleep {s : State} (k : ServiceWarning) (h : s.ign.awake = false) :
    ∃ t, exec (.serviceEdgeRequest k) s = .next t ∧ KeptBut [.display] s t :=
  ⟨_, exec_next (c := .serviceEdgeRequest k) rfl (edgeRequest_asleep h _), present_frame (.refl [] s)⟩

theorem reminder_raises {s : State} (hc : s.OrdersComplete) (hm : s.MostUrgentShown) (w : Fin 32) :
    ∃ t, exec (.reminderTimerExpiry w) s = .next t ∧
      KeptBut [.arbiter, .sound, .line, .handler, .keys, .display] s t ∧ s.ChimeFollows s.sound t ∧
      ((s.warning w).state = .silenced → 0 < (s.warning w).reminder → s.Arises w t) ∧
      (¬((s.warning w).state = .silenced ∧ 0 < (s.warning w).reminder) → t.arbiter.warnings = s.arbiter.warnings) := by
  have hinner := reminderExpiry_inner s w
  have hkept := modifyWarning_kept s w Warning.reminderDone
  have hpresent := present_kept s (s.arbiterEvent fun s => s.modifyWarning w Warning.reminderDone)
  have hlen : w.val < s.arbiter.warnings.length := by rw [hc.1]; exact w.isLt
  refine ⟨_, rfl, arbiterEvent_frame hkept, ?_, fun hs hr => ?_, fun hno => ?_⟩
  · refine chimeFollows_of_kept hpresent (arbiterEvent_chime_kept hinner hc hm hkept.sound ?_)
    exact modifyWarning_shown fun x hx => reminderDone_same (by simp [hx])
  · refine arises_of_kept hpresent (arbiterEvent_arises hinner hc hm (by simp [hs]) ?_ fun v hv => modifyWarning_others _ hv)
    exact (modifyWarning_new _ hlen).trans (reminderDone_eq_goTo hs hr)
  · rw [hpresent.arbiter, arbiterEvent_same hinner hc hm (modifyWarning_same (reminderDone_same hno))]

/-- Settles O46: an edge request and a reminder's end are one event that makes one warning PENDING or leaves them all. -/
theorem requestsRaiseWarnings : Obligations.RequestsRaiseWarnings := by
  intro s hc hm
  refine ⟨fun k w hkw h => ?_, fun k h => serviceEdge_asleep k h, fun w => reminder_raises hc hm w⟩
  have hk : serviceWarning k = w ∧ w < 32 := by
    simp only [List.mem_cons, Prod.mk.injEq, List.not_mem_nil, or_false] at hkw
    rcases hkw with ⟨rfl, rfl⟩ | ⟨rfl, rfl⟩ | ⟨rfl, rfl⟩ <;> exact ⟨rfl, by decide⟩
  exact serviceEdge_raises hc hm hk.1 hk.2 h

end Sys2Proof.Machine
end

section
/-! SUPPORT. The arbiter tick: what it counts, and the event that comes of it. Settles O48. -/
namespace Sys2Proof.Machine
set_option Elab.async false

/-! ### Acknowledgement and shown timer -/

theorem rotate_warnings (s : State) (w : Nat) : (s.rotate w).arbiter.warnings = s.arbiter.warnings := by
  unfold State.rotate
  split <;> rfl

theorem acknowledge_warning (s : State) (w v : Nat) : (s.acknowledge w).warning v =
    if v = w ∧ w < s.arbiter.warnings.length then (s.warning v).acknowledged (s.warningClass w) else s.warning v := by
  rw [← warning_modifyWarning]
  refine warning_of_warnings ?_ v
  unfold State.acknowledge
  dsimp only
  split
  · rw [rotate_warnings]
  · rfl

theorem rotate_information {s : State} {w : Nat} (h : s.warningClass w = .information) : s.rotate w = s := by
  unfold State.rotate
  rw [h]

/-- The arbiter but for its warnings. -/
def Arbiter.withWarnings (a : Arbiter) (ws : List Warning) : Arbiter := { a with warnings := ws }

theorem acknowledge_information {s : State} {w : Nat} (h : s.warningClass w = .information) :
    (s.acknowledge w).arbiter = s.arbiter.withWarnings (s.acknowledge w).arbiter.warnings := by
  unfold State.acknowledge
  dsimp only
  split
  · rw [rotate_information (s := s.modifyWarning w _) h]
    rfl
  · rfl

/-- The shown timer's end at one warning. -/
def Warning.timedOut (c : WarnClass) (x : Warning) : Warning :=
  if c = .information ∧ x.completed = true then x.acknowledged c else { x with shownTimer := 40 }

theorem acknowledged_timer (c : WarnClass) (x : Warning) (n : Nat) :
    ({ x with shownTimer := n } : Warning).acknowledged c = x.acknowledged c := by
  unfold Warning.acknowledged
  dsimp only
  split <;> rfl

theorem shownTimerDone_warning (s : State) (w v : Nat) : (s.shownTimerDone w).warning v =
    if v = w ∧ w < s.arbiter.warnings.length then (s.warning v).timedOut (s.warningClass w) else s.warning v := by
  have hlen : (s.modifyWarning w fun x => { x with shownTimer := 40 }).arbiter.warnings.length = s.arbiter.warnings.length :=
    List.length_modify _ _ _
  have hclass : (s.modifyWarning w fun x => { x with shownTimer := 40 }).warningClass w = s.warningClass w := rfl
  unfold State.shownTimerDone Warning.timedOut
  dsimp only
  by_cases hv : v = w ∧ w < s.arbiter.warnings.length
  · rw [if_pos hv, ← hv.1]
    by_cases hc : s.warningClass v = .information ∧ (s.warning v).completed = true
    · rw [if_pos hc, if_pos hc, acknowledge_warning, if_pos ⟨rfl, by rw [hv.1, hlen]; exact hv.2⟩, warning_modifyWarning,
        if_pos ⟨rfl, hv.1 ▸ hv.2⟩, acknowledged_timer]
      rfl
    · rw [if_neg hc, if_neg hc, warning_modifyWarning, if_pos ⟨rfl, hv.1 ▸ hv.2⟩]
  · rw [if_neg hv]
    split
    · rw [acknowledge_warning, hlen, if_neg hv, warning_modifyWarning, if_neg hv]
    · rw [warning_modifyWarning, if_neg hv]

theorem shownTimerDone_arbiter (s : State) (w : Nat) :
    (s.shownTimerDone w).arbiter = s.arbiter.withWarnings (s.shownTimerDone w).arbiter.warnings := by
  unfold State.shownTimerDone
  dsimp only
  split
  · next h => exact acknowledge_information (s := s.modifyWarning w _) h.1
  · rfl

/-- What an arbiter tick does to the SHOWN warning. -/
def Warning.shownCounted (c : WarnClass) (x : Warning) : Warning :=
  if x.shownTimer = 39 then x.timedOut c else { x with shownTimer := min 40 (x.shownTimer + 1) }

theorem shownTick_warning {s : State} (hone : s.shownCount ≤ 1) (v : Nat) : s.shownTick.warning v =
    if (s.warning v).state = .shown then (s.warning v).shownCounted (s.warningClass v) else s.warning v := by
  unfold State.shownTick Warning.shownCounted
  cases hs : s.shown with
  | none => rw [if_neg (shown_eq_none_iff.mp hs v)]
  | some w =>
    obtain ⟨hw, -⟩ := shown_eq_some_iff.mp hs
    have hlen := warning_lt (s := s) (w := w) (by rw [hw]; decide)
    have hiff : (s.warning v).state = .shown ↔ v = w ∧ w < s.arbiter.warnings.length :=
      ⟨fun hv => ⟨shownCount_le_one_iff.mp hone v w hv hw, hlen⟩, fun hv => hv.1 ▸ hw⟩
    dsimp only
    by_cases hv : v = w ∧ w < s.arbiter.warnings.length
    · rw [if_pos (hiff.mpr hv), ← hv.1]
      split
      · rw [shownTimerDone_warning, if_pos ⟨rfl, hv.1 ▸ hv.2⟩]
      · rw [warning_modifyWarning, if_pos ⟨rfl, hv.1 ▸ hv.2⟩]
        rfl
    · rw [if_neg fun k => hv (hiff.mp k)]
      split
      · rw [shownTimerDone_warning, if_neg hv]
      · rw [warning_modifyWarning, if_neg hv]

theorem shownTick_arbiter (s : State) : s.shownTick.arbiter = s.arbiter.withWarnings s.shownTick.arbiter.warnings := by
  unfold State.shownTick
  split
  · split
    · exact shownTimerDone_arbiter s _
    · rfl
  · rfl

/-! ### The tick's own changes -/

/-- What the tick counts, before the selection. -/
def State.tickCounted (s : State) : State :=
  (s.setArbiter { s.arbiter with warnings := s.arbiter.warnings.map Warning.reminderTick }).reviewTick.shownTick

theorem arbiterTicked_eq (s : State) : s.arbiterTicked = s.arbiterEvent State.tickCounted := rfl

def Review.ticked (r : Review) : Option Review := if r.timer ≤ 1 then none else some { r with timer := r.timer - 1 }

theorem reviewTick_arbiter (s : State) : s.reviewTick.arbiter = { s.arbiter with review := s.arbiter.review.bind Review.ticked } := by
  unfold State.reviewTick Review.ticked
  cases hr : s.arbiter.review with
  | none => exact congrArg (fun r => { s.arbiter with review := r }) hr
  | some r =>
    dsimp only [Option.bind_some]
    split <;> rfl

theorem reminderTick_shown {x : Warning} (h : x.state = .shown) : x.reminderTick = x := by
  unfold Warning.reminderTick
  rw [if_neg fun k => by rw [h] at k; cases k.1]

theorem reminderTick_ne_shown {x : Warning} (h : x.state ≠ .shown) : x.reminderTick.state ≠ .shown := by
  intro k
  have := reminderTick_state x (by rw [k]; rfl)
  exact h (this ▸ k)

theorem tickCounted_warning {s : State} (hone : s.shownCount ≤ 1) (v : Nat) : s.tickCounted.warning v =
    if (s.warning v).state = .shown then (s.warning v).shownCounted (s.warningClass v) else (s.warning v).reminderTick := by
  let x := (s.setArbiter { s.arbiter with warnings := s.arbiter.warnings.map Warning.reminderTick }).reviewTick
  have hx : ∀ w, x.warning w = (s.warning w).reminderTick := fun w =>
    (warning_of_warnings (by rw [reviewTick_arbiter]) w).trans (warning_map s Warning.reminderTick rfl w)
  have hclass : x.warningClass v = s.warningClass v :=
    warningClass_of_cal ((reviewTick_kept _).cal.trans (setArbiter_kept s _).cal) v
  have hxone : x.shownCount ≤ 1 :=
    ((reminders_inner s).trans (reviewTick_inner _)).rings.shownCount hone
  refine (shownTick_warning hxone v).trans ?_
  rw [hx, hclass]
  by_cases hs : (s.warning v).state = .shown
  · rw [reminderTick_shown hs]
  · rw [if_neg (reminderTick_ne_shown hs), if_neg hs]

theorem tickCounted_inner (s : State) : Inner s s.tickCounted :=
  ((reminders_inner s).trans (reviewTick_inner _)).trans (shownTick_inner _)

theorem tickCounted_rest (s : State) :
    s.tickCounted.arbiter.cautionOrder = s.arbiter.cautionOrder ∧ s.tickCounted.arbiter.advisoryOrder = s.arbiter.advisoryOrder ∧
      s.tickCounted.arbiter.subs = s.arbiter.subs ∧ s.tickCounted.arbiter.tick = s.arbiter.tick ∧
      s.tickCounted.arbiter.review = s.arbiter.review.bind Review.ticked := by
  unfold State.tickCounted
  rw [shownTick_arbiter, reviewTick_arbiter]
  exact ⟨rfl, rfl, rfl, rfl, rfl⟩

theorem reviewTick_sound (s : State) : s.reviewTick.sound = s.sound := (reviewTick_kept s).sound

theorem tickCounted_kept (s : State) : KeptBut [.arbiter] s s.tickCounted :=
  ((setArbiter_kept s _).trans (reviewTick_kept _)).trans (shownTick_kept _)

/-! ### One warning over the tick -/

theorem shownCounted_of_not_done {c : WarnClass} {x : Warning}
    (h : ¬(c = .information ∧ x.completed = true ∧ x.shownTimer = 39)) :
    x.shownCounted c = { x with shownTimer := min 40 (x.shownTimer + 1) } := by
  unfold Warning.shownCounted Warning.timedOut
  split
  · next ht =>
    rw [if_neg fun k => h ⟨k.1, k.2, ht⟩, ht]
    rfl
  · rfl

theorem shownCounted_of_done {x : Warning} (hc : x.completed = true) (ht : x.shownTimer = 39) :
    x.shownCounted .information = { x with
      state := if x.level then .silenced else .off, shownTimer := 0, completed := false, reminder := 0 } := by
  unfold Warning.shownCounted Warning.timedOut Warning.acknowledged
  rw [if_pos ht, if_pos ⟨rfl, hc⟩]
  split <;> rfl

theorem reminderTick_of_not_end {x : Warning} (hs : x.state = .silenced) (h : x.reminder ≠ 1) :
    x.reminderTick = { x with reminder := x.reminder - 1 } := by
  unfold Warning.reminderTick
  by_cases h0 : 0 < x.reminder
  · rw [if_pos ⟨hs, h0⟩, if_neg h]
  · rw [if_neg fun k => h0 k.2]
    have : x.reminder = 0 := Nat.eq_zero_of_not_pos h0
    obtain ⟨st, l, t, c, r⟩ := x
    subst this
    rfl

theorem reminderTick_of_end {x : Warning} (hs : x.state = .silenced) (h : x.reminder = 1) :
    x.reminderTick = x.goTo .pending := by
  unfold Warning.reminderTick
  rw [if_pos ⟨hs, by rw [h]; decide⟩, if_pos h]

theorem reminderTick_of_other {x : Warning} (h : x.state ≠ .silenced) : x.reminderTick = x := if_neg fun k => h k.1

/-- A warning that the selection has found PENDING. -/
theorem Warning.Selected.of_pending {x y : Warning} (h : (x.goTo .pending).Selected y) :
    y.state ∈ [.pending, .shown] ∧ y = { x with state := y.state, shownTimer := 0, completed := false, reminder := 0 } := by
  rcases h with rfl | ⟨k, -⟩ | ⟨-, rfl⟩
  · exact ⟨by simp [goTo_state], rfl⟩
  · cases k
  · exact ⟨by simp, rfl⟩

theorem Warning.Selected.of_off {x y : Warning} (h : x.Selected y) (hx : x.state ∈ [.off, .silenced]) : y = x :=
  h.same (by rcases List.mem_pair.mp hx with k | k <;> simp [k])

/-- The tick's event at each warning. -/
theorem ticked_warning {s : State} (hone : s.shownCount ≤ 1) (w : Nat) :
    let ends : Prop := (s.warning w).state = .silenced ∧ (s.warning w).reminder = 1
    let done : Prop := (s.warning w).state = .shown ∧ s.warningClass w = .information ∧
      (s.warning w).completed = true ∧ (s.warning w).shownTimer = 39
    let t := s.arbiterTicked
    ((s.warning w).state = .shown → ¬done →
        Warning.GoesOn { s.warning w with shownTimer := min 40 ((s.warning w).shownTimer + 1) } (t.warning w)) ∧
      (done → t.warning w = { s.warning w with
        state := if (s.warning w).level then .silenced else .off, shownTimer := 0, completed := false, reminder := 0 }) ∧
      ((s.warning w).state = .silenced → ¬ends →
        t.warning w = { s.warning w with reminder := (s.warning w).reminder - 1 }) ∧
      (ends → (t.warning w).state ∈ [.pending, .shown] ∧ t.warning w = { s.warning w with
        state := (t.warning w).state, shownTimer := 0, completed := false, reminder := 0 }) ∧
      ((s.warning w).state ∉ [.shown, .silenced] → Warning.GoesOn (s.warning w) (t.warning w)) := by
  intro ends done t
  have hsel : (s.tickCounted.warning w).Selected (t.warning w) := arbiterEvent_selected s State.tickCounted w
  rw [tickCounted_warning hone] at hsel
  refine ⟨fun hs hd => ?_, fun ⟨hs, hc, hcomp, ht⟩ => ?_, fun hs he => ?_, fun ⟨hs, hr⟩ => ?_, fun hs => ?_⟩
  · rw [if_pos hs, shownCounted_of_not_done fun ⟨a, b, c⟩ => hd ⟨hs, a, b, c⟩] at hsel
    exact hsel.goesOn
  · rw [if_pos hs, hc, shownCounted_of_done hcomp ht] at hsel
    exact hsel.of_off (by dsimp only; split <;> simp)
  · rw [if_neg (by rw [hs]; decide), reminderTick_of_not_end hs fun k => he ⟨hs, k⟩] at hsel
    exact hsel.of_off (by simp [hs])
  · rw [if_neg (by rw [hs]; decide), reminderTick_of_end hs hr] at hsel
    exact hsel.of_pending
  · rw [if_neg fun k => hs (by simp [k]), reminderTick_of_other fun k => hs (by simp [k])] at hsel
    exact hsel.goesOn

/-! ### The review over the tick -/

/-- A warning that an event shows anew was not SHOWN after the event's own changes. -/
theorem tick_enters {s : State} (hc : s.OrdersComplete) (hone : s.shownCount ≤ 1) :
    (s.tickCounted.dropPresented.select = s.tickCounted.dropPresented ∧
      ¬∃ w < 32, (s.arbiterTicked.warning w).state = .shown ∧ (s.warning w).state ≠ .shown) ∨
    (s.arbiterTicked.arbiter.review = none ∧
      ∃ w < 32, (s.arbiterTicked.warning w).state = .shown ∧ (s.warning w).state ≠ .shown) := by
  have hd : Inner s s.tickCounted.dropPresented := (tickCounted_inner s).trans (dropPresented_inner _)
  rcases select_shows s.tickCounted.dropPresented with h | ⟨w, h⟩
  · refine .inl ⟨h, ?_⟩
    rintro ⟨w, -, hw, hno⟩
    have hstate : s.arbiterTicked.warning w = s.tickCounted.dropPresented.warning w := by
      rw [arbiterTicked_eq, arbiterEvent_warning, h]
    rw [hstate] at hw
    exact hno (hd.rings.fewer w (by rw [hw]; rfl) ▸ hw)
  · refine .inr ⟨arbiterEvent_shows_review h, w, ?_, ?_, ?_⟩
    · have := warning_lt (s := s.tickCounted.dropPresented) (w := w)
        (by rcases List.mem_pair.mp h.before with k | k <;> rw [k] <;> decide)
      rwa [hd.rings.length, hc.1] at this
    · rw [arbiterTicked_eq, arbiterEvent_warning, h.shown]
    · intro hs
      have hbefore := h.before
      rw [dropPresented_warning, tickCounted_warning hone, if_pos hs] at hbefore
      unfold Warning.shownCounted Warning.timedOut at hbefore
      split at hbefore
      · split at hbefore
        · have := acknowledged_state (s.warningClass w) (s.warning w)
          unfold Warning.acknowledged at this hbefore
          split at hbefore <;> simp [goTo_state] at hbefore
        · simp [hs] at hbefore
      · simp [hs] at hbefore

theorem standingReview_eq {s : State} {r : Review} (h : s.arbiter.review = some r) :
    s.standingReview = if (s.warning r.warning).state = .silenced then some r else none := by
  unfold State.standingReview
  rw [h, Option.filter_some]
  simp

theorem ticked_review {s : State} (hc : s.OrdersComplete) (hone : s.shownCount ≤ 1) :
    let enters : Prop := ∃ w < 32, (s.arbiterTicked.warning w).state = .shown ∧ (s.warning w).state ≠ .shown
    (∀ r, s.arbiter.review = some r →
      (¬enters → (s.arbiterTicked.warning r.warning).state = .silenced → s.arbiterTicked.arbiter.review = r.ticked) ∧
      (enters ∨ (s.arbiterTicked.warning r.warning).state ≠ .silenced → s.arbiterTicked.arbiter.review = none)) ∧
    (s.arbiter.review = none → s.arbiterTicked.arbiter.review = none) := by
  intro enters
  rcases tick_enters hc hone with ⟨hsel, hno⟩ | ⟨hreview, hen⟩
  · have hafter : s.arbiterTicked.arbiter.review = s.tickCounted.standingReview := by
      rw [arbiterTicked_eq, arbiterEvent_stands hsel]
    have hwarning : ∀ w, s.arbiterTicked.warning w = s.tickCounted.warning w := fun w => by
      rw [arbiterTicked_eq, arbiterEvent_warning, hsel, dropPresented_warning]
    obtain ⟨-, -, -, -, hticked⟩ := tickCounted_rest s
    refine ⟨fun r hr => ?_, fun hr => ?_⟩
    · rw [hr, Option.bind_some] at hticked
      rw [hwarning, hafter]
      cases hrt : r.ticked with
      | none =>
        have : s.tickCounted.standingReview = none := by unfold State.standingReview; rw [hticked, hrt, Option.filter_none]
        exact ⟨fun _ _ => this, fun _ => this⟩
      | some q =>
        have hq : q.warning = r.warning := by
          unfold Review.ticked at hrt
          split at hrt
          · cases hrt
          · exact (congrArg Review.warning (Option.some.inj hrt)).symm
        rw [standingReview_eq (hticked.trans hrt), hq]
        exact ⟨fun _ hs => if_pos hs, fun hor => if_neg (hor.resolve_left hno)⟩
    · rw [hr, Option.bind_none] at hticked
      rw [hafter]
      unfold State.standingReview
      rw [hticked, Option.filter_none]
  · exact ⟨fun r _ => ⟨fun k => absurd hen k, fun _ => hreview⟩, fun _ => hreview⟩

/-! ### A tick without an end -/

theorem ticked_quiet {s : State} (hc : s.OrdersComplete) (hm : s.MostUrgentShown)
    (hno : ∀ w < 32, ¬((s.warning w).state = .silenced ∧ (s.warning w).reminder = 1) ∧
      ¬((s.warning w).state = .shown ∧ s.warningClass w = .information ∧ (s.warning w).completed = true ∧
        (s.warning w).shownTimer = 39)) :
    (∀ w, (s.tickCounted.warning w).state = (s.warning w).state) ∧
      KeptBut [.arbiter, .sound] s s.arbiterTicked ∧ (s.arbiterTicked.warningPage = true → s.warningPage = true) ∧
      ∀ w, s.arbiterTicked.warning w = s.tickCounted.warning w := by
  have hstate : ∀ w, (s.tickCounted.warning w).state = (s.warning w).state := by
    intro w
    rw [tickCounted_warning hm.1]
    by_cases hw : w < 32
    · obtain ⟨he, hd⟩ := hno w hw
      split
      · next hs => rw [shownCounted_of_not_done fun ⟨a, b, c⟩ => hd ⟨hs, a, b, c⟩]
      · by_cases hs : (s.warning w).state = .silenced
        · rw [reminderTick_of_not_end hs fun k => he ⟨hs, k⟩]
        · rw [reminderTick_of_other hs]
    · have hoff : (s.warning w).state = .off := by
        by_contra k
        exact hw (hc.1 ▸ warning_lt k)
      rw [if_neg (by rw [hoff]; decide), reminderTick_of_other (by rw [hoff]; decide)]
  obtain ⟨hsel, hevent⟩ := arbiterEvent_quiet (tickCounted_inner s) hc hm hstate
  have hwarning : ∀ w, s.arbiterTicked.warning w = s.tickCounted.warning w := fun w => by
    rw [arbiterTicked_eq, arbiterEvent_warning, hsel, dropPresented_warning]
  refine ⟨hstate, ?_, fun hpage => ?_, hwarning⟩
  · rw [arbiterTicked_eq, hevent]
    exact ((tickCounted_kept s).andThen (cs := [.arbiter, .sound]) (dropPresented_kept _)).andThen (chimed_kept s _)
  · unfold State.warningPage at hpage ⊢
    rw [Bool.or_eq_true, shown_isSome_iff] at hpage ⊢
    refine hpage.imp (fun ⟨w, hw⟩ => ⟨w, by rw [← hstate, ← hwarning]; exact hw⟩) fun hr => ?_
    by_contra hnone
    rw [(ticked_review hc hm.1).2 (by simpa using hnone)] at hr
    cases hr

/-! ### The statement -/

/-- The counter of the arbiter's tick, reloaded. -/
def State.tickLoaded (s : State) : State := s.setArbiter { s.arbiter with tick := some 10 }

theorem tickLoaded_complete {s : State} (h : s.OrdersComplete) : s.tickLoaded.OrdersComplete := h

theorem tickLoaded_mostUrgent {s : State} (h : s.MostUrgentShown) : s.tickLoaded.MostUrgentShown := h

theorem chimeFollows_tickLoaded {s t : State} (h : s.tickLoaded.ChimeFollows s.sound t) : s.ChimeFollows s.sound t := h

theorem tickLoaded_ticked_kept (s : State) :
    KeptBut [.arbiter, .sound, .line, .handler, .keys, .display] s (State.present s s.tickLoaded.arbiterTicked) := by
  have h := (setArbiter_kept s { s.arbiter with tick := some 10 }).andThen (cs := arbiterBlocks) (arbiterTicked_kept s.tickLoaded)
  exact (present_frame_keys h).mono (by decide)

theorem ticked_chime {s : State} (hc : s.OrdersComplete) (hm : s.MostUrgentShown) : s.ChimeFollows s.sound s.arbiterTicked := by
  rw [arbiterTicked_eq]
  refine arbiterEvent_chime_kept (f := State.tickCounted) (tickCounted_inner s) hc hm (tickCounted_kept s).sound fun w hw => ?_
  rw [tickCounted_warning hm.1, if_pos hw]
  unfold Warning.shownCounted Warning.timedOut Warning.acknowledged
  split
  · split
    · split
      · exact ⟨nofun, rfl⟩
      · exact ⟨nofun, rfl⟩
    · exact ⟨by simp [hw], rfl⟩
  · exact ⟨by simp [hw], rfl⟩

theorem reviewExpiry_ends (s : State) : ∃ t, exec .reviewTimerExpiry s = .next t ∧ KeptBut [.arbiter, .display] s t ∧
    t.arbiter = { s.arbiter with review := none } := by
  refine ⟨_, rfl, present_frame_stays (setArbiter_kept s _) fun h => ?_, by rw [State.present_arbiter]; rfl⟩
  unfold State.warningPage at h ⊢
  have hshown : s.endReview.shown = s.shown := shown_congr rfl
  rw [Bool.or_eq_true] at h ⊢
  exact h.imp (fun k => hshown ▸ k) nofun

/-- Settles O48: what the tick counts at each warning, the review over it, and the tick without an end. -/
theorem arbiterTickCounts : Obligations.ArbiterTickCounts := by
  intro s
  refine ⟨reviewExpiry_ends s, fun htick hc hm => ?_⟩
  intro ends done counted enters
  have hc' := tickLoaded_complete hc
  have hm' := tickLoaded_mostUrgent hm
  have hexec : exec .arbiterTick s = .next (State.present s s.tickLoaded.arbiterTicked) :=
    exec_of_guard (c := .arbiterTick) (p := s.arbiter.tick.isSome = true) htick rfl
  have hpresent := present_kept s s.tickLoaded.arbiterTicked
  have hwarning : ∀ w, (State.present s s.tickLoaded.arbiterTicked).warning w = s.tickLoaded.arbiterTicked.warning w :=
    warning_of_warnings (by rw [hpresent.arbiter])
  obtain ⟨hcaution, hadvisory, hsubs, htick', -⟩ := arbiterEvent_rest s.tickLoaded State.tickCounted
  obtain ⟨kcaution, kadvisory, ksubs, ktick, -⟩ := tickCounted_rest s.tickLoaded
  obtain ⟨hreview, hnone⟩ := ticked_review hc' hm'.1
  have hticked := fun w => ticked_warning hm'.1 w
  refine ⟨_, hexec, tickLoaded_ticked_kept s, ?_, ?_, ?_, fun w _ => ?_, fun hno => ?_, fun r hr _ => ?_, fun hr => ?_, ?_, ?_, ?_⟩
  · rw [hpresent.arbiter]; exact htick'.trans ktick
  · have hrings := (arbiterEvent_steady (tickCounted_inner s.tickLoaded)).rings
    exact present_mostUrgent (hrings.complete hc') (arbiterEvent_mostUrgent (tickCounted_inner _) hc' hm'.1)
  · exact chimeFollows_of_kept hpresent (chimeFollows_tickLoaded (ticked_chime hc' hm'))
  · rw [hwarning]; exact hticked w
  · obtain ⟨-, hkept, hpage, hsame⟩ := ticked_quiet hc' hm' hno
    refine ⟨present_frame_stays ((setArbiter_kept s _).andThen (cs := [.arbiter, .sound]) hkept) hpage, fun w hw => ?_⟩
    rw [hwarning, hsame, tickCounted_warning hm'.1]
    refine ⟨fun hs => ?_, fun hs => ?_⟩
    · rw [if_pos (show (s.tickLoaded.warning w).state = .shown from hs)]
      exact shownCounted_of_not_done fun ⟨a, b, c⟩ => (hno w hw).2 ⟨hs, a, b, c⟩
    · rw [if_neg (show (s.tickLoaded.warning w).state ≠ .shown from fun k => hs (by simp [show (s.warning w).state = _ from k]))]
      exact reminderTick_of_other fun k => hs (by simp [show (s.warning w).state = _ from k])
  · rw [hpresent.arbiter]
    unfold enters
    simp only [hwarning]
    exact hreview r hr
  · rw [hpresent.arbiter]; exact hnone hr
  · rw [hpresent.arbiter]; exact hcaution.trans kcaution
  · rw [hpresent.arbiter]; exact hadvisory.trans kadvisory
  · rw [hpresent.arbiter]; exact hsubs.trans ksubs

end Sys2Proof.Machine
end

section
/-! SUPPORT. The sound unit's timers, its output pin and the lamps. Settles O49. -/
namespace Sys2Proof.Machine
set_option Elab.async false

/-! ### The output pin -/

theorem sndHigh_silent {s : State} (h : s.sound.output = .silent) (n : Nat) : s.sndHigh n = false := by
  have hsnd : s.snd = none := by unfold State.snd; rw [h]
  unfold State.sndHigh
  rw [hsnd]

/-- High for half of the period at LOUD and for an eighth at SOFT. -/
theorem sndHigh_sounding {s : State} {tone n : Nat} {loud : Bool} (h : s.snd = some (tone, loud)) :
    let x := (s.sound.toneCycle + n) % (2 * toneHalfPeriod tone)
    (loud = true → (s.sndHigh n = true ↔ x < toneHalfPeriod tone)) ∧
      (loud = false → (s.sndHigh n = true ↔ 8 * x < 2 * toneHalfPeriod tone)) := by
  intro x
  have hhigh : s.sndHigh n = decide (x < toneHigh tone loud) := by
    unfold State.sndHigh
    rw [h]
  rw [hhigh, decide_eq_true_eq]
  unfold toneHigh
  refine ⟨fun hl => by rw [hl]; rfl, fun hl => ?_⟩
  rw [hl, if_neg (by decide)]
  omega

/-! ### The cadence -/

theorem reportDone_none (x : State) : State.reportDone (x, none) = x.syncChime := rfl
theorem reportDone_some (x : State) (w : Nat) : State.reportDone (x, some w) = x.syncChime.patternDone w := rfl

/-- The OFF phase of the pattern that is played. -/
def State.inOff (s : State) : State := s.setSound { s.sound with channel := .off, cadence := s.current.offTime }

theorem cadenceEnd_on {s : State} (h : s.sound.channel = .on) :
    s.cadenceEnd = if s.current.offTime = 0 then s.inOff.endOff else (s.inOff, none) := by
  unfold State.cadenceEnd
  rw [h]
  rfl

theorem cadenceEnd_off {s : State} (h : s.sound.channel = .off) : s.cadenceEnd = s.endOff := by
  unfold State.cadenceEnd
  rw [h]

theorem cadenceEnd_idle {s : State} (h : s.sound.channel = .idle ∨ s.sound.channel = .done) : s.cadenceEnd = (s, none) := by
  unfold State.cadenceEnd
  rcases h with h | h <;> rw [h]

theorem cadenceEnd_carry {s : State} {q : Playing} (h : s.sound.channel = .carry) (hq : s.sound.playing = some q) :
    s.cadenceEnd = (s.startPattern q, none) := by
  unfold State.cadenceEnd
  rw [h]
  dsimp only
  rw [hq]

/-- The end of an ON phase without OFF time, and of an OFF phase: the OFF phase ends in `x`. -/
theorem cadenceEnd_endsOff {s : State}
    (h : s.sound.channel = .off ∨ (s.sound.channel = .on ∧ s.current.offTime = 0)) :
    ∃ x : State, s.cadenceEnd = x.endOff ∧ KeptBut [.sound] s x ∧ x.current = s.current ∧
      ∃ c n, x.sound = { s.sound with channel := c, cadence := n } := by
  rcases h with h | ⟨h, h0⟩
  · exact ⟨s, cadenceEnd_off h, .refl _ _, rfl, s.sound.channel, s.sound.cadence, rfl⟩
  · exact ⟨s.inOff, by rw [cadenceEnd_on h, if_pos h0], setSound_kept _ _, rfl, .off, s.current.offTime, rfl⟩

/-- The pattern goes on with its next ON phase. -/
def State.playsOn (x : State) : State :=
  (x.setSound { x.sound with
    channel := .on, repeats := x.current.nextRepeats x.sound.repeats, cadence := x.current.onTime
    onIndex := nextOnIndex x.freeIndex x.sound.onIndex }).setFreeIndex
      (if x.sound.onIndex < 255 then x.freeIndex else x.freeIndex + 1)

/-- The pattern is complete. -/
def State.playsOut (x : State) : State :=
  x.setSound { x.sound with channel := .done, repeats := x.current.nextRepeats x.sound.repeats, cadence := 0 }

theorem endOff_again {x : State} (h : ¬(x.current.repeats ≠ 0 ∧ x.current.nextRepeats x.sound.repeats = x.current.repeats)) :
    x.endOff = (x.playsOn, none) := by
  unfold State.endOff
  exact if_neg h

theorem endOff_last {x : State} (h0 : x.current.repeats ≠ 0) (h : x.current.nextRepeats x.sound.repeats = x.current.repeats) :
    x.endOff = (x.playsOut, x.sound.playing.map (·.warning)) := by
  unfold State.endOff
  exact if_pos ⟨h0, h⟩

/-- The chime channel neither ON nor carrying lets the output go. -/
theorem syncChime_quiet {s : State} (h : s.sound.channel ≠ .on ∧ s.sound.channel ≠ .carry) :
    s.syncChime.sound = { s.sound with output := if s.sound.output = .chime then .silent else s.sound.output } := by
  have hasks : ¬s.chimeAsks = true := by
    unfold State.chimeAsks
    simp [h.1, h.2]
  unfold State.syncChime
  rw [if_neg hasks]
  by_cases ho : s.sound.output = .chime
  · rw [if_pos ho, if_pos ho]
    rfl
  · rw [if_neg ho, if_neg ho]

theorem cadence_off_begins {s : State} (h : s.sound.channel = .on) (h0 : s.current.offTime ≠ 0) :
    ∃ t, exec .cadenceExpiry s = .next t ∧ KeptBut [.sound, .display] s t ∧ t.sound = { s.sound with
      channel := .off, cadence := s.current.offTime
      output := if s.sound.output = .chime then .silent else s.sound.output } := by
  have hreport : State.reportDone s.cadenceEnd = s.inOff.syncChime := by
    rw [cadenceEnd_on h, if_neg h0, reportDone_none]
  refine ⟨_, exec_next (c := .cadenceExpiry) rfl hreport,
    present_frame (bs := [.sound]) ((setSound_kept _ _).trans (syncChime_kept _)), ?_⟩
  have hoff : s.inOff.sound.channel = .off := rfl
  rw [State.present_sound, syncChime_quiet (by rw [hoff]; exact ⟨nofun, nofun⟩)]
  rfl

theorem cadence_idle {s : State} (h : s.sound.channel = .idle ∨ s.sound.channel = .done) :
    ∃ t, exec .cadenceExpiry s = .next t ∧ KeptBut [.sound, .display] s t ∧
      t.sound = { s.sound with output := if s.sound.output = .chime then .silent else s.sound.output } := by
  have hreport : State.reportDone s.cadenceEnd = s.syncChime := by rw [cadenceEnd_idle h, reportDone_none]
  refine ⟨_, exec_next (c := .cadenceExpiry) rfl hreport, present_frame (syncChime_kept s), ?_⟩
  rw [State.present_sound, syncChime_quiet (by rcases h with h | h <;> rw [h] <;> exact ⟨nofun, nofun⟩)]

theorem cadence_carry {s : State} {q : Playing} (h : s.sound.channel = .carry) (hq : s.sound.playing = some q) :
    ∃ t, exec .cadenceExpiry s = .next t ∧ KeptBut [.sound, .display] s t ∧ t.sound.channel = .on ∧
      t.sound.playing = some q ∧ t.sound.onIndex = 1 ∧ t.sound.repeats = 0 ∧
      t.sound.cadence = (s.pattern q.pattern).onTime := by
  have hreport : State.reportDone s.cadenceEnd = (s.startPattern q).syncChime := by
    rw [cadenceEnd_carry h hq, reportDone_none]
  have hchimes := syncChime_chimes (s := s.startPattern q) (u := (s.startPattern q).sound) rfl
  refine ⟨_, exec_next (c := .cadenceExpiry) rfl hreport,
    present_frame (bs := [.sound]) ((startPattern_kept _ _).trans (syncChime_kept _)), ?_⟩
  rw [State.present_sound, hchimes]
  exact ⟨rfl, rfl, rfl, rfl, rfl⟩

theorem cadence_again {s : State} (h : s.sound.channel = .off ∨ (s.sound.channel = .on ∧ s.current.offTime = 0))
    (hno : ¬(s.current.repeats ≠ 0 ∧ s.current.nextRepeats s.sound.repeats = s.current.repeats)) :
    ∃ t, exec .cadenceExpiry s = .next t ∧ KeptBut [.sound, .freeIndex, .display] s t ∧ t.sound.channel = .on ∧
      t.sound.cadence = s.current.onTime ∧ t.sound.repeats = s.current.nextRepeats s.sound.repeats ∧
      t.sound.playing = s.sound.playing ∧
      (s.sound.onIndex < 255 → t.sound.onIndex = s.sound.onIndex + 1 ∧ t.freeIndex = s.freeIndex) := by
  obtain ⟨x, hx, hkept, hcurrent, c, n, hsound⟩ := cadenceEnd_endsOff h
  have hreport : State.reportDone s.cadenceEnd = x.playsOn.syncChime := by
    rw [hx, endOff_again (by rw [hcurrent, hsound]; exact hno), reportDone_none]
  have hchimes := syncChime_chimes (s := x.playsOn) (u := x.playsOn.sound) rfl
  have hplays : KeptBut [.sound, .freeIndex] x x.playsOn := (setSound_kept _ _).andThen (setFreeIndex_kept _ _)
  refine ⟨_, exec_next (c := .cadenceExpiry) rfl hreport, present_frame (bs := [.sound, .freeIndex])
    ((hkept.andThen (cs := [.sound, .freeIndex]) hplays).andThen (syncChime_kept _)), ?_⟩
  rw [State.present_sound, State.present_freeIndex, (syncChime_kept _).freeIndex, hchimes, ← hcurrent]
  have hrepeats : x.sound.repeats = s.sound.repeats := by rw [hsound]
  have hplaying : x.sound.playing = s.sound.playing := by rw [hsound]
  have hindex : x.sound.onIndex = s.sound.onIndex := by rw [hsound]
  refine ⟨rfl, rfl, by rw [← hrepeats]; rfl, hplaying, fun hlt => ?_⟩
  rw [← hindex] at hlt ⊢
  refine ⟨?_, ?_⟩
  · show nextOnIndex _ _ = _
    unfold nextOnIndex
    rw [if_pos hlt]
  · show (if x.sound.onIndex < 255 then x.freeIndex else x.freeIndex + 1) = s.freeIndex
    rw [if_pos hlt, hkept.freeIndex]

/-! ### The end of a pattern -/

/-- An event whose own changes leave every warning's state: its frame. -/
theorem quiet_frame {s : State} {f : State → State} (h : Inner s (f s)) (hc : s.OrdersComplete) (hm : s.MostUrgentShown)
    (hstate : ∀ w, ((f s).warning w).state = (s.warning w).state) (k : KeptBut [.arbiter] s (f s))
    (hreview : (f s).arbiter.review = s.arbiter.review) :
    KeptBut [.arbiter, .sound] s (s.arbiterEvent f) ∧ ((s.arbiterEvent f).warningPage = true → s.warningPage = true) ∧
      (s.arbiterEvent f).arbiter.warnings = (f s).arbiter.warnings ∧
      ∀ u, (f s).Chimes u → (s.arbiterEvent f).Chimes u := by
  obtain ⟨hsel, hevent⟩ := arbiterEvent_quiet h hc hm hstate
  have harbiter := arbiterEvent_stands hsel
  have hwarnings : (s.arbiterEvent f).arbiter.warnings = (f s).arbiter.warnings := by rw [harbiter]
  have hshown : (s.arbiterEvent f).shown.isSome = true → s.shown.isSome = true := by
    rw [shown_isSome_iff, shown_isSome_iff]
    rintro ⟨w, hw⟩
    exact ⟨w, by rw [← hstate, ← warning_of_warnings hwarnings]; exact hw⟩
  refine ⟨?_, fun hpage => ?_, hwarnings, fun u hu => ?_⟩
  · rw [hevent]
    exact (k.andThen (cs := [.arbiter, .sound]) (dropPresented_kept _)).andThen (chimed_kept s _)
  · unfold State.warningPage at hpage ⊢
    rw [Bool.or_eq_true] at hpage ⊢
    refine hpage.imp hshown fun hr => ?_
    rw [harbiter] at hr
    dsimp only at hr
    unfold State.standingReview at hr
    rw [hreview] at hr
    obtain ⟨r, hr⟩ := Option.isSome_iff_exists.mp hr
    rw [(Option.filter_eq_some_iff.mp hr).1]
    rfl
  · rw [arbiterEvent_eq, hsel]
    refine afterSelect_chimes (fun hs => ?_) (chimes_congr (dropPresented_kept _).sound hu)
    rw [shown_isSome_iff] at hs ⊢
    obtain ⟨w, hw⟩ := hs
    exact ⟨w, by rw [dropPresented_warning, hstate]; exact hw⟩

/-- What a complete pattern does to its warning, before the selection. -/
def State.patternTold (w : Nat) (s : State) : State :=
  if s.shown = some w ∧ s.warningClass w = .information then
    if 40 ≤ (s.warning w).shownTimer then s.acknowledge w
    else s.modifyWarning w fun v => { v with completed := true }
  else s

theorem patternDone_eq (s : State) (w : Nat) : s.patternDone w = s.arbiterEvent (State.patternTold w) := rfl

theorem patternTold_other {s : State} {w : Nat} (h : ¬(s.shown = some w ∧ s.warningClass w = .information)) :
    s.patternTold w = s := if_neg h

theorem patternTold_early {s : State} {w : Nat} (hs : s.shown = some w) (hc : s.warningClass w = .information)
    (ht : (s.warning w).shownTimer < 40) :
    s.patternTold w = s.modifyWarning w fun v => { v with completed := true } := by
  unfold State.patternTold
  rw [if_pos ⟨hs, hc⟩, if_neg (Nat.not_le_of_lt ht)]

/-- The last OFF phase ends in the event of its warning. -/
theorem cadence_last {s : State} {q : Playing}
    (h : s.sound.channel = .off ∨ (s.sound.channel = .on ∧ s.current.offTime = 0)) (h0 : s.current.repeats ≠ 0)
    (hr : s.current.nextRepeats s.sound.repeats = s.current.repeats) (hq : s.sound.playing = some q) :
    ∃ x : State, exec .cadenceExpiry s = .next (State.present s (x.arbiterEvent (State.patternTold q.warning))) ∧
      KeptBut [.sound] s x ∧ x.sound.channel = .done ∧ x.sound.cadence = 0 ∧
      x.sound.repeats = s.current.nextRepeats s.sound.repeats := by
  obtain ⟨x, hx, hkept, hcurrent, c, n, hsound⟩ := cadenceEnd_endsOff h
  have hrepeats : x.sound.repeats = s.sound.repeats := by rw [hsound]
  have hreport : State.reportDone s.cadenceEnd = x.playsOut.syncChime.patternDone q.warning := by
    rw [hx, endOff_last (by rw [hcurrent]; exact h0) (by rw [hcurrent, hrepeats]; exact hr), hsound]
    dsimp only
    rw [hq]
    rfl
  have hchimes := syncChime_chimes (s := x.playsOut) (u := x.playsOut.sound) rfl
  refine ⟨x.playsOut.syncChime, exec_next (c := .cadenceExpiry) rfl hreport,
    (hkept.trans (setSound_kept _ _)).trans (syncChime_kept _), ?_⟩
  rw [hchimes, ← hcurrent, ← hrepeats]
  exact ⟨rfl, rfl, rfl⟩

theorem mostUrgent_of_kept {bs : List Block} {s t : State} (k : KeptBut bs s t) (h : s.MostUrgentShown)
    (ha : Block.arbiter ∉ bs := by decide) (hc : Block.cal ∉ bs := by decide) : t.MostUrgentShown :=
  mostUrgent_of_warnings (k.cal hc) (by rw [k.arbiter ha]) h

theorem complete_of_kept {bs : List Block} {s t : State} (k : KeptBut bs s t) (h : s.OrdersComplete)
    (ha : Block.arbiter ∉ bs := by decide) (hc : Block.cal ∉ bs := by decide) : t.OrdersComplete :=
  (Rings.of_kept k ha hc).complete h

/-- The end of a pattern that changes no warning's state. -/
theorem cadence_last_quiet {s : State} {q : Playing}
    (h : s.sound.channel = .off ∨ (s.sound.channel = .on ∧ s.current.offTime = 0)) (h0 : s.current.repeats ≠ 0)
    (hr : s.current.nextRepeats s.sound.repeats = s.current.repeats) (hc : s.OrdersComplete) (hm : s.MostUrgentShown)
    (hq : s.sound.playing = some q) (f : Warning → Warning) (hf : ∀ v, (f v).state = v.state)
    (htold : ∀ x : State, KeptBut [.sound] s x →
      (x.patternTold q.warning).arbiter = (x.modifyWarning q.warning f).arbiter ∧
      KeptBut [.arbiter] x (x.patternTold q.warning)) :
    ∃ t, exec .cadenceExpiry s = .next t ∧ KeptBut [.arbiter, .sound, .display] s t ∧ t.sound.channel = .done ∧
      t.sound.cadence = 0 ∧ t.sound.repeats = s.current.nextRepeats s.sound.repeats ∧
      t.arbiter.warnings = (s.modifyWarning q.warning f).arbiter.warnings := by
  obtain ⟨x, hexec, hkept, hchannel, hcadence, hrepeats⟩ := cadence_last h h0 hr hq
  obtain ⟨harbiter, htoldKept⟩ := htold x hkept
  have hxa : x.arbiter = s.arbiter := hkept.arbiter
  have hstate : ∀ w, ((x.patternTold q.warning).warning w).state = (x.warning w).state := fun w => by
    rw [warning_of_warnings (s := x.modifyWarning q.warning f) (by rw [harbiter]), warning_modifyWarning]
    split
    · exact hf _
    · rfl
  obtain ⟨hframe, hpage, hwarnings, hsound⟩ := quiet_frame (s := x) (f := State.patternTold q.warning)
    (patternDone_inner x q.warning) (complete_of_kept hkept hc) (mostUrgent_of_kept hkept hm) hstate htoldKept
    (by rw [harbiter]; rfl)
  have hchimes : (x.arbiterEvent (State.patternTold q.warning)).Chimes x.sound :=
    hsound _ (by unfold State.Chimes; rw [htoldKept.sound])
  refine ⟨_, hexec, present_frame_stays (hkept.andThen (cs := [.arbiter, .sound]) hframe)
    (fun k => warningPage_congr hxa ▸ hpage k), ?_⟩
  rw [State.present_sound, State.present_arbiter, hchimes, hwarnings, harbiter]
  refine ⟨hchannel, hcadence, hrepeats, ?_⟩
  show x.arbiter.warnings.modify _ _ = s.arbiter.warnings.modify _ _
  rw [hxa]

/-! ### The other timers -/

theorem sound_timer {c : Instr} {s : State} {v : Sound} (h : exec c s = .next (State.present s (s.setSound v))) :
    ∃ t, exec c s = .next t ∧ KeptBut [.sound, .display] s t ∧ t.sound = v :=
  ⟨_, h, present_frame (setSound_kept s v), by rw [State.present_sound]; rfl⟩

theorem flash_turns (s : State) : ∃ t, exec .flashCounterExpiry s = .next t ∧ KeptBut [.sound, .display] s t ∧
    t.sound = if s.sound.flash.isSome then { s.sound with flash := some 25, lit := !s.sound.lit } else s.sound := by
  by_cases h : s.sound.flash.isSome = true
  · rw [if_pos h]
    exact sound_timer (exec_of_guard (c := .flashCounterExpiry) (p := s.sound.flash.isSome = true) h rfl)
  · rw [if_neg h]
    exact ⟨_, exec_next (c := .flashCounterExpiry) rfl (if_neg h), present_frame (.refl [.sound] s),
      by rw [State.present_sound]⟩

/-! ### The lamps -/

theorem lampAny_iff {s : State} {n : Nat} {p : WarningState → Bool} :
    s.lampAny n p = true ↔ ∃ w < 32, (s.warningFigures w).lamp = some n ∧ p (s.warning w).state = true := by
  simp [State.lampAny]

theorem lampKind_of {s : State} {n : Nat} {k : LampKind} (h : s.cal.lamps[n]? = some k) : s.lampKind n = k := by
  unfold State.lampKind
  rw [List.getD_eq_getElem?_getD, h]
  rfl

theorem lampOn_of_kind {s : State} {n : Nat} (ha : s.ign.awake = true) (hb : s.sound.bulbCheck = none) :
    s.lampOn n = s.lampByKind n := by
  unfold State.lampOn
  rw [ha, hb]
  rfl

theorem lampOn_warning {s : State} {n : Nat} (ha : s.ign.awake = true) (hb : s.sound.bulbCheck = none)
    (h : s.cal.lamps[n]? = some .warning) :
    ((∃ w < 32, (s.warningFigures w).lamp = some n ∧ (s.warning w).state = .shown) → s.lampOn n = s.sound.lit) ∧
      ((∀ w < 32, (s.warningFigures w).lamp = some n → (s.warning w).state ≠ .shown) →
        (s.lampOn n = true ↔ ∃ w < 32, (s.warningFigures w).lamp = some n ∧ (s.warning w).state ≠ .off)) := by
  have hkind : s.lampOn n = if s.lampAny n (· == .shown) then s.sound.lit else s.lampAny n (· != .off) := by
    rw [lampOn_of_kind ha hb]
    unfold State.lampByKind
    rw [lampKind_of h]
  rw [hkind]
  refine ⟨fun ⟨w, hw, hlamp, hs⟩ => if_pos (lampAny_iff.mpr ⟨w, hw, hlamp, by simp [hs]⟩), fun hno => ?_⟩
  rw [if_neg fun k => ?_, lampAny_iff]
  · simp
  · obtain ⟨w, hw, hlamp, hs⟩ := lampAny_iff.mp k
    exact hno w hw hlamp (by simpa using hs)

theorem flag_reads {e : Entry} {byte bit : Nat} : e.flagSet byte bit = true ↔
    e.used = true ∧ e.state ∈ [.fresh, .stale] ∧ bitAt e.data byte bit = true := by
  rw [flagSet_iff]
  unfold Entry.HasData
  simp [and_assoc]

theorem lampOn_mirror {s : State} {n k : Nat} {kind : LampKind} (ha : s.ign.awake = true) (hb : s.sound.bulbCheck = none)
    (hk : (kind, k) ∈ [(LampKind.turnLeft, 1), (.turnRight, 2), (.highBeam, 3)]) (h : s.cal.lamps[n]? = some kind) :
    s.lampOn n = true ↔ (s.entry 2).used = true ∧ (s.entry 2).state ∈ [.fresh, .stale] ∧
      bitAt (s.entry 2).data 4 k = true := by
  rw [lampOn_of_kind ha hb, ← flag_reads]
  unfold State.lampByKind
  rw [lampKind_of h]
  simp only [List.mem_cons, Prod.mk.injEq, List.not_mem_nil, or_false] at hk
  rcases hk with ⟨rfl, rfl⟩ | ⟨rfl, rfl⟩ | ⟨rfl, rfl⟩ <;> rfl

/-- Settles O49: the pin, the cadence by its phase, the four timers, and the lamps by their kind. -/
theorem soundTimersAct : Obligations.SoundTimersAct := by
  intro s p u r endsOff
  have hr : p.nextRepeats u.repeats = r := rfl
  refine ⟨⟨by decide, fun h => sndHigh_silent h, fun tone loud n h => sndHigh_sounding h⟩, cadence_off_begins,
    fun he hno => ?_, fun he h0 hl hc hm q hq hi => ?_, fun he h0 hl hc hm q hq hs hi ht => ?_, cadence_idle, fun q h hq => cadence_carry h hq, ?_, ?_,
    flash_turns s, sound_timer rfl, fun n => ⟨fun h => ?_, fun ha hb => ?_, fun ha hb h => lampOn_warning ha hb h,
      fun ha hb => ⟨fun kind k hk h => lampOn_mirror ha hb hk h, fun h => ?_⟩⟩⟩
  · exact cadence_again he (by rw [hr]; exact hno)
  · obtain ⟨t, hexec, hkept, hchannel, hcadence, hrepeats, hwarnings⟩ :=
      cadence_last_quiet he h0 (hr.trans hl) hc hm hq id (fun _ => rfl) fun x hx => by
        rw [patternTold_other fun k => hi (by rw [← warningClass_of_cal hx.cal]; exact k.2)]
        exact ⟨by
          show x.arbiter = { x.arbiter with warnings := x.arbiter.warnings.modify q.warning id }
          rw [List.modify_id], .refl _ _⟩
    refine ⟨t, hexec, hkept, hchannel, hcadence, hrepeats.trans hr, hwarnings.trans (modifyWarning_same rfl)⟩
  · obtain ⟨t, hexec, hkept, hchannel, -, -, hwarnings⟩ :=
      cadence_last_quiet he h0 (hr.trans hl) hc hm hq (fun v => { v with completed := true }) (fun _ => rfl) fun x hx => by
        have hx' : x.warning q.warning = s.warning q.warning := warning_of_warnings (by rw [hx.arbiter]) _
        have hone : x.shownCount ≤ 1 := (mostUrgent_of_kept hx hm).1
        rw [patternTold_early (shown_of_state hone (by rw [hx']; exact hs))
          (by rw [warningClass_of_cal hx.cal]; exact hi) (by rw [hx']; exact ht)]
        exact ⟨rfl, modifyWarning_kept _ _ _⟩
    refine ⟨t, hexec, hkept, hchannel, ?_⟩
    rw [warning_of_warnings hwarnings, modifyWarning_new _ (warning_lt (by rw [hs]; decide))]
  · exact sound_timer rfl
  · exact sound_timer rfl
  · unfold State.lampOn
    rw [h]
    rfl
  · unfold State.lampOn
    rw [ha, hb]
    rfl
  · rw [lampOn_of_kind ha hb]
    unfold State.lampByKind
    rw [lampKind_of h]

end Sys2Proof.Machine
end

section
/-! SUPPORT. The workshop handler: which requests it takes, its answers, and that a heard REQUEST is its command.
Settles O55. -/
namespace Sys2Proof.Machine
set_option Elab.async false

/-! ### The handler's branches -/

/-- The handler at work on a request. -/
def State.atWork (s : State) (topic : Nat) : State := s.setHandler { s.handler with state := .working, topic := topic }

theorem workshopRequest_asleep {s : State} (h : s.ign.awake = false) (topic : Nat) (data : List Byte) :
    s.workshopRequest topic data = s := by
  unfold State.workshopRequest
  rw [h]
  rfl

theorem workshopRequest_busy {s : State} (ha : s.ign.awake = true) (h : s.handler.state ≠ .idle) (topic : Nat) (data : List Byte) :
    s.workshopRequest topic data = s.answerBusy topic := by
  unfold State.workshopRequest
  rw [ha, if_neg (by decide), if_neg h]

theorem workshopRequest_idle {s : State} (ha : s.ign.awake = true) (h : s.handler.state = .idle) (topic : Nat) (data : List Byte) :
    s.workshopRequest topic data = (s.atWork topic).carryOut topic data := by
  unfold State.workshopRequest
  rw [ha, if_neg (by decide), if_pos h]
  rfl

theorem any_unstarted {q : List Msg} {topic : Nat} :
    q.any (Msg.unstarted topic) = true ↔ ∃ m ∈ q, m.topic = topic ∧ m.started = false := by
  simp [Msg.unstarted, and_comm]

theorem answerBusy_unanswered {s : State} (h : ∃ m ∈ s.line.queue, m.topic = 0x70 ∧ m.started = false) (topic : Nat) :
    s.answerBusy topic = s.unanswer := if_pos (any_unstarted.mpr h)

theorem answerBusy_open {s : State} (h : s.line.Open 0x70) (topic : Nat) :
    s.answerBusy topic = s.setLine (s.line.enter 0x70 3 .reply [byteOf topic, 1] .busy) := by
  unfold State.answerBusy
  rw [if_neg (by rw [h.2]; decide), queue_open h]
  rfl

/-- An answer given at once. -/
theorem atWork_answers {s : State} {topic : Nat} {x : Status} {result : List Byte} (h : s.line.Open 0x70) :
    KeptBut [.line, .handler] s ((s.atWork topic).returnStatus x result) ∧
      Replies topic x result s ((s.atWork topic).returnStatus x result) := by
  refine ⟨(setHandler_kept s _).andThen (returnStatus_kept _ _ _), ?_⟩
  rw [returnStatus_open (s := s.atWork topic) h]
  exact ⟨rfl, rfl⟩

theorem replies_of_present {s u : State} {topic : Nat} {x : Status} {result : List Byte} (s0 : State)
    (h : Replies topic x result s u) : Replies topic x result s (State.present s0 u) := by
  unfold Replies at *
  rwa [State.present_handler, State.present_line]

/-! ### Requests that fail a check -/

theorem takeRead_bad {s : State} {data : List Byte} (h : ∀ b o, data = [b, o] → ¬(b.toNat < 64 ∧ o.toNat ≤ 11)) :
    s.takeRead data = s.badRequest := by
  unfold State.takeRead
  split
  · exact if_neg (h _ _ rfl)
  · rfl

theorem takeWrite_bad {s : State} {data : List Byte} (h : ∀ b o d ds, data = b :: o :: d :: ds →
    ¬(ds.length ≤ 3 ∧ b.toNat < 64 ∧ o.toNat + (ds.length + 1) ≤ 15)) : s.takeWrite data = s.badRequest := by
  unfold State.takeWrite
  split
  · exact if_neg (h _ _ _ _ rfl)
  · rfl

theorem takeRecordOperation_bad {s : State} {data : List Byte}
    (h : ∀ op b, data = [op, b] → ¬(op.toNat ≤ 6 ∧ b.toNat < 64))
    (k : ∀ op x y, data = [op, x, y] → ¬(op.toNat = 7 ∧ x.toNat < 4 ∧ y.toNat < 2)) :
    s.takeRecordOperation data = s.badRequest := by
  unfold State.takeRecordOperation
  split
  · exact if_neg (h _ _ rfl)
  · exact if_neg (k _ _ _ rfl)
  · rfl

theorem takeOdometer_bad {s : State} {data : List Byte} (h : ¬(data.length = 3 ∧ tripleAt data 0 ≤ odometerTop)) :
    s.takeOdometer data = s.badRequest := if_neg h

theorem takeEmpty_bad {s u : State} {data : List Byte} (h : data ≠ []) : s.takeEmpty u data = s.badRequest := by
  unfold State.takeEmpty
  split
  · exact absurd rfl h
  · rfl

theorem takeServiceReset_bad {s : State} {data : List Byte} (h : ∀ i, data = [i] → ¬i.toNat < 8) :
    s.takeServiceReset data = s.badRequest := by
  unfold State.takeServiceReset
  split
  · exact if_neg (h _ rfl)
  · rfl

theorem takeAck_bad {s : State} {data : List Byte} (h : ∀ w, data = [w] → ¬w.toNat < 32) : s.takeAck data = s.badRequest := by
  unfold State.takeAck
  split
  · exact if_neg (h _ rfl)
  · rfl

theorem takeStatus_bad {s : State} {data : List Byte}
    (h : ∀ x y, data = [x, y] → s.statusResult x.toNat y.toNat = none) : s.takeStatus data = s.badRequest := by
  unfold State.takeStatus
  split
  · next x y =>
    unfold State.requestStatus
    rw [h _ _ rfl]
  · rfl

theorem statusResult_none {s : State} {x y : Byte} (h : ¬(Instr.readStatus x y).Permitted) :
    s.statusResult x.toNat y.toNat = none := by
  have hcases : (x.toNat = 2 ∧ 16 ≤ y.toNat) ∨ (x.toNat = 3 ∧ 16 ≤ y.toNat) ∨ (x.toNat = 8 ∧ 8 ≤ y.toNat) ∨
      (x.toNat = 11 ∧ 4 ≤ y.toNat) ∨ 11 < x.toNat := by
    unfold Instr.Permitted at h
    by_contra k
    exact h ⟨by omega, by omega, by omega, by omega⟩
  unfold State.statusResult
  rcases hcases with ⟨hx, hy⟩ | ⟨hx, hy⟩ | ⟨hx, hy⟩ | ⟨hx, hy⟩ | hx
  · rw [hx]; exact if_neg (by omega)
  · rw [hx]; exact if_neg (by omega)
  · rw [hx]; exact if_neg (by omega)
  · rw [hx]; exact if_neg (by omega)
  · generalize x.toNat = n at hx
    obtain ⟨n, rfl⟩ := Nat.exists_eq_add_of_lt hx
    rw [show 11 + n + 1 = n + 12 by omega]
    rfl

theorem carryOut_read (s : State) (d : List Byte) : s.carryOut 0x60 d = s.takeRead d := rfl
theorem carryOut_write (s : State) (d : List Byte) : s.carryOut 0x61 d = s.takeWrite d := rfl
theorem carryOut_record (s : State) (d : List Byte) : s.carryOut 0x62 d = s.takeRecordOperation d := rfl
theorem carryOut_odometer (s : State) (d : List Byte) : s.carryOut 0x63 d = s.takeOdometer d := rfl
theorem carryOut_close (s : State) (d : List Byte) : s.carryOut 0x64 d = s.takeEmpty s.requestClose d := rfl
theorem carryOut_reset (s : State) (d : List Byte) : s.carryOut 0x65 d = s.takeServiceReset d := rfl
theorem carryOut_ack (s : State) (d : List Byte) : s.carryOut 0x66 d = s.takeAck d := rfl
theorem carryOut_status (s : State) (d : List Byte) : s.carryOut 0x67 d = s.takeStatus d := rfl
theorem carryOut_test (s : State) (d : List Byte) : s.carryOut 0x68 d = s.takeEmpty s.requestGaugeTest d := rfl

theorem carryOut_other {s : State} {topic : Nat} (h : ¬(0x60 ≤ topic ∧ topic ≤ 0x68)) (d : List Byte) :
    s.carryOut topic d = s.badRequest := by
  unfold State.carryOut
  rw [if_neg (by omega), if_neg (by omega), if_neg (by omega), if_neg (by omega), if_neg (by omega), if_neg (by omega),
    if_neg (by omega), if_neg (by omega), if_neg (by omega)]

/-- A command's request that fails a check. -/
theorem carryOut_notPermitted {c : Instr} {topic : Nat} {data : List Byte} (hc : c.request = some (topic, data))
    (h : ¬c.Permitted) (s : State) : s.carryOut topic data = s.badRequest := by
  have hop (op b : Byte) (hb : ¬b.toNat < 64) : s.takeRecordOperation [op, b] = s.badRequest := by
    refine takeRecordOperation_bad (fun _ _ e k => ?_) (fun _ _ _ e => ?_)
    · cases e
      exact hb k.2
    · cases e
  cases c with
  | readBytes b o =>
    obtain ⟨rfl, rfl⟩ := hc
    rw [carryOut_read]
    refine takeRead_bad fun _ _ e => ?_
    cases e
    exact h
  | writeBytes b o d =>
    obtain ⟨rfl, rfl⟩ := hc
    refine takeWrite_bad fun _ _ _ _ e k => ?_
    cases e
    exact h ⟨k.2.1, by simp, by simpa [Nat.lt_succ_iff] using k.1, by simpa using k.2.2⟩
  | fetch b => obtain ⟨rfl, rfl⟩ := hc; exact hop 0 b h
  | fetchAndPin b => obtain ⟨rfl, rfl⟩ := hc; exact hop 1 b h
  | unpin b => obtain ⟨rfl, rfl⟩ := hc; exact hop 2 b h
  | writeback b => obtain ⟨rfl, rfl⟩ := hc; exact hop 3 b h
  | writebackInvalidate b => obtain ⟨rfl, rfl⟩ := hc; exact hop 4 b h
  | invalidate b => obtain ⟨rfl, rfl⟩ := hc; exact hop 5 b h
  | verify b => obtain ⟨rfl, rfl⟩ := hc; exact hop 6 b h
  | indexWritebackInvalidate x y =>
    obtain ⟨rfl, rfl⟩ := hc
    rw [carryOut_record]
    refine takeRecordOperation_bad (fun _ _ e => ?_) fun _ _ _ e k => ?_
    · cases e
    · cases e
      exact h k.2
  | setOdometer v =>
    obtain ⟨rfl, rfl⟩ := hc
    refine takeOdometer_bad fun k => h ?_
    rw [tripleAt_bytes3 v.isLt] at k
    exact k.2
  | serviceReset i =>
    obtain ⟨rfl, rfl⟩ := hc
    rw [carryOut_reset]
    refine takeServiceReset_bad fun _ e => ?_
    cases e
    exact h
  | acknowledgeWarning w =>
    obtain ⟨rfl, rfl⟩ := hc
    rw [carryOut_ack]
    refine takeAck_bad fun _ e => ?_
    cases e
    exact h
  | readStatus x y =>
    obtain ⟨rfl, rfl⟩ := hc
    rw [carryOut_status]
    refine takeStatus_bad fun _ _ e => ?_
    cases e
    exact statusResult_none h
  | close | gaugeTest => exact absurd trivial h
  | _ => cases hc

theorem byte_eq {x : Byte} {n : Nat} (h : x.toNat = n) : x = byteOf n := by
  subst h
  exact BitVec.eq_of_toNat_eq (by simp [byteOf])

theorem bytes3_tripleAt (x y z : Byte) : bytes3 (tripleAt [x, y, z] 0) = [x, y, z] := by
  have hx := x.isLt
  have hy := y.isLt
  have hz := z.isLt
  simp only [bytes3, tripleAt, wordAt, byteAt, List.getD_cons_zero, List.getD_cons_succ, byteOf, List.cons.injEq, and_true]
  refine ⟨BitVec.eq_of_toNat_eq ?_, BitVec.eq_of_toNat_eq ?_, BitVec.eq_of_toNat_eq ?_⟩ <;>
    simp only [BitVec.toNat_ofNat] <;> omega

/-- The record operation of a code. -/
def operation (op : Nat) (b : Byte) : Instr :=
  [Instr.fetch b, .fetchAndPin b, .unpin b, .writeback b, .writebackInvalidate b, .invalidate b].getD op (.verify b)

theorem operation_request {op : Nat} (h : op ≤ 6) (b : Byte) :
    (operation op b).request = some (0x62, [byteOf op, b]) := by
  interval_cases op <;> rfl

/-- Data that no command stands for. -/
theorem carryOut_unknown {topic : Nat} {data : List Byte} (h : ∀ c : Instr, c.request ≠ some (topic, data)) (s : State) :
    s.carryOut topic data = s.badRequest := by
  by_cases ht : 0x60 ≤ topic ∧ topic ≤ 0x68
  · obtain ⟨hlow, hhigh⟩ := ht
    interval_cases topic
    · exact takeRead_bad fun b o e => absurd (by rw [e]; rfl) (h (.readBytes b o))
    · exact takeWrite_bad fun b o d ds e => absurd (by rw [e]; rfl) (h (.writeBytes b o (d :: ds)))
    · refine takeRecordOperation_bad (fun op b e k => ?_) fun op x y e k => ?_
      · exact h (operation op.toNat b) (by rw [operation_request k.1, e, ← byte_eq rfl])
      · exact h (.indexWritebackInvalidate x y) (by rw [e, byte_eq k.1]; rfl)
    · refine takeOdometer_bad fun k => ?_
      obtain ⟨x, y, z, rfl⟩ := List.length_eq_three.mp k.1
      refine h (.setOdometer (BitVec.ofNat 24 (tripleAt [x, y, z] 0))) ?_
      show some (0x63, bytes3 (BitVec.ofNat 24 (tripleAt [x, y, z] 0)).toNat) = _
      rw [BitVec.toNat_ofNat, Nat.mod_eq_of_lt (tripleAt_lt _ _), bytes3_tripleAt]
    · exact takeEmpty_bad fun e => h .close (by rw [e]; rfl)
    · exact takeServiceReset_bad fun i e => absurd (by rw [e]; rfl) (h (.serviceReset i))
    · exact takeAck_bad fun w e => absurd (by rw [e]; rfl) (h (.acknowledgeWarning w))
    · exact takeStatus_bad fun x y e => absurd (by rw [e]; rfl) (h (.readStatus x y))
    · exact takeEmpty_bad fun e => h .gaugeTest (by rw [e]; rfl)
  · exact carryOut_other ht data

/-! ### A REQUEST that the line passes on -/

theorem recordItems_setLine (s : State) (l : LineStation) : (s.setLine l).recordItems = s.recordItems := rfl

theorem present_setLine (s u : State) (l : LineStation) : State.present (s.setLine l) u = State.present s u := by
  unfold State.present State.refreshDisplay
  rw [recordItems_setLine]
  rfl

theorem handOn_request {s : State} {bs : List Byte} (hk : frameKind bs = 1) (hs : frameSource bs = 15)
    (hlow : 0x60 ≤ frameTopic bs) (hhigh : frameTopic bs ≤ 0x6F) :
    s.handOn bs = s.workshopRequest (frameTopic bs) (frameData bs) := by
  unfold State.handOn
  rw [hk]
  exact if_pos ⟨hlow, hhigh, hs⟩

theorem exec_heardRequest {s : State} {bs : List Byte} (h : s.Hears bs) (hk : frameKind bs = 1) (hs : frameSource bs = 15)
    (hlow : 0x60 ≤ frameTopic bs) (hhigh : frameTopic bs ≤ 0x6F) : exec (.endGap bs false) s =
    .next (State.present s.listened (s.listened.workshopRequest (frameTopic bs) (frameData bs))) := by
  rw [exec_next (c := .endGap bs false) rfl (endGap_hears h), handOn_request hk hs hlow hhigh]
  exact congrArg Host.Outcome.next (present_setLine s _ s.heardLine).symm

theorem present_asleep {s : State} (h : s.ign.awake = false) : State.present s s = s := by
  unfold State.present
  rw [refreshHolds_same rfl rfl rfl]
  unfold State.refreshDisplay
  rw [h]
  rfl

/-- What the handler does with any request that it does not carry out. -/
theorem request_answers {s : State} {topic : Nat} {data : List Byte} :
    (s.ign.awake = false → KeptBut [] s (State.present s (s.workshopRequest topic data))) ∧
    (s.TakesRequest → (s.atWork topic).carryOut topic data = (s.atWork topic).badRequest →
      KeptBut [.line, .handler, .display] s (State.present s (s.workshopRequest topic data)) ∧
      Replies topic .badRequest [] s (State.present s (s.workshopRequest topic data))) ∧
    (s.ign.awake = true → s.handler.state ≠ .idle → s.line.Open 0x70 →
      KeptBut [.line, .display] s (State.present s (s.workshopRequest topic data)) ∧
      (State.present s (s.workshopRequest topic data)).line = s.line.enter 0x70 3 .reply [byteOf topic, 1] .busy) ∧
    (s.ign.awake = true → s.handler.state ≠ .idle → (∃ m ∈ s.line.queue, m.topic = 0x70 ∧ m.started = false) →
      KeptBut [.handler, .display] s (State.present s (s.workshopRequest topic data)) ∧
      (State.present s (s.workshopRequest topic data)).handler =
        { s.handler with unanswered := min 255 (s.handler.unanswered + 1) }) := by
  refine ⟨fun ha => ?_, fun ⟨ha, hi, hopen⟩ hbad => ?_, fun ha hi hopen => ?_, fun ha hi hm => ?_⟩
  · rw [workshopRequest_asleep ha, present_asleep ha]
    exact .refl _ _
  · rw [workshopRequest_idle ha hi, hbad]
    obtain ⟨hkept, hreplies⟩ := atWork_answers (topic := topic) (x := .badRequest) (result := []) hopen
    exact ⟨present_frame hkept, replies_of_present s hreplies⟩
  · rw [workshopRequest_busy ha hi, answerBusy_open hopen]
    exact ⟨present_frame (setLine_kept s _), by rw [State.present_line]; rfl⟩
  · rw [workshopRequest_busy ha hi, answerBusy_unanswered hm]
    exact ⟨present_frame (setHandler_kept s _), by rw [State.present_handler]; rfl⟩

/-- Settles O55: a heard REQUEST is its command at the line that has heard it; asleep, busy and bad requests. -/
theorem requestsMeetTheHandler : Obligations.RequestsMeetTheHandler := by
  refine ⟨fun s bs hears hk hs hlow hhigh => ?_, fun c topic data s hc => ?_⟩
  · intro heard
    have hheard : heard = s.listened := rfl
    have hexec := exec_heardRequest hears hk hs hlow hhigh
    have hkept : KeptBut [.line] s heard := setLine_kept s _
    refine ⟨fun c hc => hexec.trans (exec_of_request hc heard).symm, fun hno => ⟨_, hexec, ?_⟩⟩
    obtain ⟨hasleep, hbad, hbusy, hunanswered⟩ :=
      request_answers (s := s.listened) (topic := frameTopic bs) (data := frameData bs)
    refine ⟨hasleep, fun ht => ?_, fun ha hi ho => ?_, fun ha hi hm => hunanswered ha hi hm⟩
    · obtain ⟨hk', hr⟩ := hbad ht (carryOut_unknown hno _)
      exact ⟨hkept.andThen hk', hr⟩
    · obtain ⟨hk', hr⟩ := hbusy ha hi ho
      exact ⟨hkept.andThen hk', hr⟩
  · obtain ⟨hasleep, hbad, hbusy, hunanswered⟩ := request_answers (s := s) (topic := topic) (data := data)
    have hexec := exec_of_request hc s
    exact ⟨fun ha => ⟨_, hexec, hasleep ha⟩, fun ha hi hm => ⟨_, hexec, hunanswered ha hi hm⟩,
      fun ha hi ho => ⟨_, hexec, hbusy ha hi ho⟩, fun ht hn => ⟨_, hexec, hbad ht (carryOut_notPermitted hc hn _)⟩⟩

end Sys2Proof.Machine
end

section
/-! SUPPORT. READ STATUS byte by byte, and the requests of odometer, latch, index and gauge test. Settles O59. -/
namespace Sys2Proof.Machine
set_option Elab.async false

/-! ### Packed codes and flags -/

theorem optByte_eq (o : Option Nat) : optByte o = o.elim 0xFF byteOf := by cases o <;> rfl

theorem flag_pow (b : Bool) (k : Nat) : (if b then 2 ^ k else 0) = 2 ^ k * flagNat b := by cases b <;> simp [flagNat]

theorem bitAt_bytes2 (n : Nat) {i : Nat} (h : i < 16) : bitAt (bytes2 n) (1 - i / 8) (i % 8) = n.testBit i := by
  have hmod := Nat.mod_lt i (show 0 < 8 by decide)
  have hi : i = 8 * (i / 8) + i % 8 := (Nat.div_add_mod i 8).symm
  have hq : i / 8 < 2 := by omega
  unfold bitAt
  generalize i / 8 = q at *
  generalize i % 8 = r at *
  subst hi
  have hbyte : byteAt (bytes2 n) (1 - q) = (byteOf (n / 2 ^ (8 * q))).toNat := by interval_cases q <;> simp [byteAt, bytes2]
  rw [hbyte, testBit_byteOf _ hmod, Nat.testBit_div_two_pow, Nat.add_comm]

theorem bitAt_bytes6 (n : Nat) {i : Nat} (h : i < 48) : bitAt (bytes6 n) (5 - i / 8) (i % 8) = n.testBit i := by
  have hmod := Nat.mod_lt i (show 0 < 8 by decide)
  have hi : i = 8 * (i / 8) + i % 8 := (Nat.div_add_mod i 8).symm
  have hq : i / 8 < 6 := by omega
  unfold bitAt
  generalize i / 8 = q at *
  generalize i % 8 = r at *
  subst hi
  have hbyte : byteAt (bytes6 n) (5 - q) = (byteOf (n / 2 ^ (8 * q))).toNat := by
    interval_cases q <;> simp [byteAt, bytes6, bytes3, Nat.div_div_eq_div_mul]
  rw [hbyte, testBit_byteOf _ hmod, Nat.testBit_div_two_pow, Nat.add_comm]

/-- A code of three bits packed in six bytes, and one of two bits in two bytes. -/
theorem bit_packed6 {cs : List Nat} (h : ∀ c ∈ cs, c < 2 ^ 3) {k j : Nat} (hk : k < 16) (hj : j < 3) :
    bitAt (bytes6 (packCodes 3 cs)) (6 - 1 - (3 * k + j) / 8) ((3 * k + j) % 8) = (cs.getD k 0).testBit j := by
  rw [← testBit_packCodes h k hj]
  exact bitAt_bytes6 _ (by omega)

theorem bit_packed2 {cs : List Nat} (h : ∀ c ∈ cs, c < 2 ^ 2) {k j : Nat} (hk : k < 8) (hj : j < 2) :
    bitAt (bytes2 (packCodes 2 cs)) (2 - 1 - (2 * k + j) / 8) ((2 * k + j) % 8) = (cs.getD k 0).testBit j := by
  rw [← testBit_packCodes h k hj]
  exact bitAt_bytes2 _ (by omega)

theorem bitAt_append {xs ys : List Byte} {i : Nat} (h : i < xs.length) (k : Nat) : bitAt (xs ++ ys) i k = bitAt xs i k := by
  unfold bitAt byteAt
  rw [List.getD_append _ _ _ _ h]

theorem warningCode_lt (x : WarningState) : x.code < 2 ^ 3 := by cases x <;> decide
theorem subCode_lt (x : SubState) : x.code < 2 ^ 2 := by cases x <;> decide
theorem itemRank_lt (x : ItemState) : x.rank < 2 ^ 2 := by cases x <;> decide

theorem getD_map_code {α : Type} (l : List α) (f : α → Nat) (d : α) (hd : f d = 0) (k : Nat) :
    (l.map f).getD k 0 = f (l.getD k d) := by
  rw [List.getD_eq_getElem?_getD, List.getD_eq_getElem?_getD, List.getElem?_map]
  cases l[k]? with
  | none => exact hd.symm
  | some x => rfl

/-! ### The selectors -/

theorem warningStates_status (s : State) (first : Nat) : (s.warningStates first).length = 6 ∧
    ∀ k < 16, ∀ p ∈ [(WarningState.off, 0), (.pending, 1), (.shown, 2), (.held, 3), (.silenced, 4)],
      (s.warning (first + k)).state = p.1 → ∀ j < 3,
        bitAt (s.warningStates first) (6 - 1 - (3 * k + j) / 8) ((3 * k + j) % 8) = p.2.testBit j := by
  refine ⟨rfl, fun k hk p hp hs j hj => ?_⟩
  have hcodes : ∀ c ∈ (List.range 16).map fun i => (s.warning (first + i)).state.code, c < 2 ^ 3 := by
    intro c hc
    obtain ⟨i, -, rfl⟩ := List.mem_map.mp hc
    exact warningCode_lt _
  have hcode : ((List.range 16).map fun i => (s.warning (first + i)).state.code).getD k 0 = p.2 := by
    rw [List.getD_eq_getElem?_getD, List.getElem?_map, List.getElem?_range hk]
    show (s.warning (first + k)).state.code = p.2
    rw [hs]
    simp only [List.mem_cons, List.not_mem_nil, or_false] at hp
    rcases hp with rfl | rfl | rfl | rfl | rfl <;> rfl
  rw [← hcode]
  exact bit_packed6 hcodes hk hj

theorem station_status (s : State) (y : Nat) : s.StatusBytes 1 y [byteOf s.line.state.code, byteOf s.cal.station,
    byteOf s.line.fault, byteOf s.line.queue.length, byteOf s.handler.unanswered] := by
  have hfault : s.line.fault = (if s.line.stuck then 2 ^ 0 else 0) + (if s.line.silent then 2 ^ 1 else 0) +
      (if s.line.conflict then 2 ^ 2 else 0) := by
    rw [flag_pow, flag_pow, flag_pow]
    unfold LineStation.fault
    omega
  intro p hp hs
  rw [hfault]
  simp only [List.mem_cons, List.not_mem_nil, or_false] at hp
  rcases hp with rfl | rfl | rfl | rfl | rfl | rfl | rfl <;> rw [hs] <;> rfl

theorem entry_status (s : State) (y : Nat) : s.StatusBytes 2 y (s.entry y).statusBytes := by
  have hflag : flagNat (s.entry y).used = if (s.entry y).used then 2 ^ 0 else 0 := by
    rw [flag_pow, Nat.pow_zero, Nat.one_mul]
  intro p hp hs
  unfold Entry.statusBytes
  rw [hflag, optByte_eq]
  simp only [List.mem_cons, List.not_mem_nil, or_false] at hp
  rcases hp with rfl | rfl | rfl | rfl <;> rw [show (s.entry y).state = _ from hs] <;> rfl

theorem cascade_status (s : State) (y : Nat) : s.StatusBytes 6 y
    (bytes2 (packCodes 2 (s.arbiter.subs.map SubState.code)) ++ [optByte s.arbiter.presented, optByte s.shown]) := by
  refine ⟨rfl, by rw [optByte_eq, optByte_eq]; rfl, fun n hn p hp hs j hj => ?_⟩
  have hcodes : ∀ c ∈ s.arbiter.subs.map SubState.code, c < 2 ^ 2 := by
    intro c hc
    obtain ⟨x, -, rfl⟩ := List.mem_map.mp hc
    exact subCode_lt x
  have hcode : (s.arbiter.subs.map SubState.code).getD n 0 = p.2 := by
    rw [getD_map_code _ _ .none rfl, hs]
    simp only [List.mem_cons, List.not_mem_nil, or_false] at hp
    rcases hp with rfl | rfl | rfl <;> rfl
  rw [bitAt_append (by show 2 - 1 - _ < 2; omega), ← hcode]
  exact bit_packed2 hcodes hn hj

theorem items_status (s : State) (y : Nat) : s.StatusBytes 7 y
    (bytes2 (packCodes 2 (s.service.items.map fun x => x.state.rank)) ++
      [byteOf (packCodes 1 (s.service.items.map fun x => flagNat (x.waitsChauffeur || x.waitsWorkshop))),
        optByte s.service.selected]) := by
  refine ⟨rfl, by rw [optByte_eq]; rfl, fun n hn => ⟨?_, fun p hp hs j hj => ?_⟩⟩
  · have hbit := testBit_flags (s.service.items.map fun x => x.waitsChauffeur || x.waitsWorkshop) n
    rw [List.map_map] at hbit
    show (byteOf _).toNat.testBit n = _
    rw [testBit_byteOf _ hn]
    refine hbit.trans ?_
    unfold State.item
    rw [List.getD_eq_getElem?_getD, List.getD_eq_getElem?_getD, List.getElem?_map]
    cases s.service.items[n]? <;> rfl
  · have hcodes : ∀ c ∈ s.service.items.map fun x => x.state.rank, c < 2 ^ 2 := by
      intro c hc
      obtain ⟨x, -, rfl⟩ := List.mem_map.mp hc
      exact itemRank_lt _
    have hcode : (s.service.items.map fun x => x.state.rank).getD n 0 = p.2 := by
      rw [getD_map_code _ _ .fresh rfl]
      show (s.item n).state.rank = p.2
      rw [hs]
      simp only [List.mem_cons, List.not_mem_nil, or_false] at hp
      rcases hp with rfl | rfl | rfl | rfl <;> rfl
    rw [bitAt_append (by show 2 - 1 - _ < 2; omega), ← hcode]
    exact bit_packed2 hcodes hn hj

theorem item_status (s : State) (y : Nat) : s.StatusBytes 8 y
    [byteOf (s.item y).pendingKm, byteOf (s.item y).pendingDays, byteOf (s.item y).state.rank] := by
  intro p hp hs
  rw [hs]
  simp only [List.mem_cons, List.not_mem_nil, or_false] at hp
  rcases hp with rfl | rfl | rfl | rfl <;> rfl

theorem store_status (s : State) (y : Nat) : s.StatusBytes 9 y
    (bytes3 s.store.odometerSent ++
      [byteOf (s.store.odometerCode + 4 * flagNat s.store.latch + 8 * flagNat s.ignition.calDefault +
        16 * flagNat s.store.nvFault), byteOf s.counting.implausible, byteOf s.ignition.clampCount]) := by
  refine ⟨rfl, rfl, fun v good h => ?_, fun h => ?_⟩
  · have hcode : s.store.odometerCode = if good then 0 else 1 := by
      unfold Store.odometerCode
      rw [h]
      cases good <;> rfl
    have hsent : s.store.odometerSent = v := by unfold Store.odometerSent; rw [h]
    rw [hcode, hsent]
    simp only [flag_pow]
    rfl
  · have hcode : s.store.odometerCode = 2 := by unfold Store.odometerCode; rw [h]
    have hsent : s.store.odometerSent = 0xFFFFFF := by unfold Store.odometerSent; rw [h]
    rw [hcode, hsent]
    simp only [flag_pow]
    rfl

theorem unit_status (s : State) (y : Nat) : s.StatusBytes 10 y
    [byteOf s.store.nvFailures, byteOf s.store.consecutiveFailures, byteOf s.store.orders.length,
      byteOf s.arith.discarded, byteOf (flagNat s.arith.inFlight.isSome)] := by
  show _ = _
  cases s.arith.inFlight.isSome <;> rfl

theorem cacheLine_status (l : CacheLine) : ∀ p ∈ [(LineState.invalid, 0), (.clean, 1), (.dirty, 2), (.filling, 3), (.writing, 4)],
    l.state = p.1 → l.statusBytes = [l.tag.elim 0xFF byteOf, byteOf (p.2 + (if l.pinned then 2 ^ 3 else 0) +
      (if l.redirty then 2 ^ 4 else 0) + (if l.recent then 2 ^ 5 else 0))] := by
  intro p hp hs
  unfold CacheLine.statusBytes
  rw [flag_pow, flag_pow, flag_pow, optByte_eq, hs]
  simp only [List.mem_cons, List.not_mem_nil, or_false] at hp
  rcases hp with rfl | rfl | rfl | rfl | rfl <;> rfl

theorem lines_status (s : State) (y : Nat) : s.StatusBytes 11 y
    ((s.store.line (2 * y)).statusBytes ++ (s.store.line (2 * y + 1)).statusBytes) := by
  refine ⟨rfl, fun w hw => ?_⟩
  intro l p hp hs
  rw [← cacheLine_status l p hp hs]
  rcases (by omega : w = 0 ∨ w = 1) with rfl | rfl <;> rfl

/-- Every permitted selector has its bytes. -/
theorem statusResult_some (s : State) {x y : Byte} (h : (Instr.readStatus x y).Permitted) :
    ∃ r, s.statusResult x.toNat y.toNat = some r ∧ s.StatusBytes x.toNat y.toNat r := by
  obtain ⟨hx, hentry, hitem, hline⟩ := h
  unfold State.statusResult
  generalize y.toNat = n at *
  generalize x.toNat = m at *
  interval_cases m
  · exact ⟨_, rfl, rfl⟩
  · exact ⟨_, rfl, station_status s n⟩
  · exact ⟨_, if_pos (hentry (.inl rfl)), entry_status s n⟩
  · exact ⟨_, if_pos (hentry (.inr rfl)), rfl⟩
  · exact ⟨_, rfl, warningStates_status s 0⟩
  · exact ⟨_, rfl, warningStates_status s 16⟩
  · exact ⟨_, rfl, cascade_status s n⟩
  · exact ⟨_, rfl, items_status s n⟩
  · exact ⟨_, if_pos (hitem rfl), item_status s n⟩
  · exact ⟨_, rfl, store_status s n⟩
  · exact ⟨_, rfl, unit_status s n⟩
  · exact ⟨_, if_pos (hline rfl), lines_status s n⟩

end Sys2Proof.Machine
end

section
/-! SUPPORT. The store's progress, move by move: the workshop's task, an admitted request, the engine's next order, and
the runs that a single request sets off at a resting store. -/
namespace Sys2Proof.Machine
set_option Elab.async false

/-! ### Moves of the store -/

/-- From `st` the store goes on to `r`, with any fuel above `k`. -/
def Store.Reaches (st : Store) (k : Nat) (r : Store × Option Status) : Prop := ∀ m, st.settle (m + k) = r

theorem reaches_settled {st : Store} (h : st.Settled) : st.Reaches 0 (st, none) := fun m => settle_settled h m

theorem reaches_task {st st' : Store} {k : Nat} {r : Store × Option Status} (h : st.taskOne = some (st', none))
    (hr : st'.Reaches k r) : st.Reaches (k + 1) r := fun m => by
  rw [show m + (k + 1) = (m + k) + 1 from rfl, Store.settle, h]
  dsimp only
  rw [hr m]

theorem reaches_end {st st' st'' : Store} {k : Nat} {x : Status} {y : Option Status} (h : st.taskOne = some (st', some x))
    (hr : st'.Reaches k (st'', y)) : st.Reaches (k + 1) (st'', some x) := fun m => by
  rw [show m + (k + 1) = (m + k) + 1 from rfl, Store.settle, h]
  dsimp only
  rw [hr m]

theorem reaches_admit {st st' : Store} {k : Nat} {r : Store × Option Status} (ht : st.taskOne = none)
    (h : st.admitOne = some st') (hr : st'.Reaches k r) : st.Reaches (k + 1) r := fun m => by
  rw [show m + (k + 1) = (m + k) + 1 from rfl, Store.settle, ht, h]
  exact hr m

theorem reaches_engine {st st' : Store} {k : Nat} {r : Store × Option Status} (ht : st.taskOne = none)
    (ha : st.admitOne = none) (h : st.engineOne = some st') (hr : st'.Reaches k r) : st.Reaches (k + 1) r := fun m => by
  rw [show m + (k + 1) = (m + k) + 1 from rfl, Store.settle, ht, ha, h]
  exact hr m

theorem settle_of_reaches {st : Store} {k : Nat} {r : Store × Option Status} (h : st.Reaches k r) (hk : k ≤ 64 := by omega) :
    st.settle settleFuel = r := by
  have := h (64 - k)
  rwa [Nat.sub_add_cancel hk] at this

theorem settleStore_reaches {s : State} {u : Store} {k : Nat} (h : s.store.Reaches k (u, none)) (hk : k ≤ 64 := by omega) :
    s.settleStore = s.setStore u := settleStore_of_settle (settle_of_reaches h hk)

theorem settleStore_reaches_end {s : State} {u : Store} {k : Nat} {x : Status} (h : s.store.Reaches k (u, some x))
    (hk : k ≤ 64 := by omega) : s.settleStore = (s.setStore u).returnStatus x [] := by
  unfold State.settleStore
  rw [settle_of_reaches h hk]

theorem takeTask_some {s : State} {st : Store} {x : Status} (h : st.Settled) :
    s.takeTask (st, some x) = (s.setStore st).returnStatus x [] := by
  show ((s.setStore st).returnStatus x []).settleStore = _
  exact settleStore_settled (by rw [(returnStatus_kept (s.setStore st) x []).store]; exact h)

theorem takeTask_none (s : State) (st : Store) : s.takeTask (st, none) = (s.setStore st).settleStore := rfl

theorem takeTask_refused {s : State} {x : Status} (h : s.store.Settled) :
    s.takeTask (s.store, some x) = s.returnStatus x [] := takeTask_some h

/-! ### Tasks that only wait -/

/-- A task that waits for a block's transfer, and makes no move of its own. -/
def Task.passive : Task → Bool
  | .none | .fetch _ _ | .read _ _ | .write _ _ _ | .verify _ => true
  | _ => false

theorem taskOne_passive {st : Store} (h : st.task.passive = true) : st.taskOne = none := by
  unfold Store.taskOne
  cases ht : st.task <;> rw [ht] at h <;> first | rfl | cases h

theorem admitOne_empty {st : Store} (h : st.waiting = []) : st.admitOne = none := by
  unfold Store.admitOne
  rw [h]
  rfl

theorem engineOne_busy {st : Store} (h : st.op.isSome = true) : st.engineOne = none := if_pos h

theorem selected_empty {st : Store} (h : st.orders = []) : st.selected = none := by simp [Store.selected, h]

theorem engineOne_empty {st : Store} (h : st.orders = []) : st.engineOne = none := by
  unfold Store.engineOne
  rw [selected_empty h]
  split <;> rfl

theorem settled_of {st : Store} (ht : st.taskOne = none) (hw : st.waiting = []) (he : st.orders = [] ∨ st.op.isSome = true) :
    st.Settled := ⟨ht, admitOne_empty hw, he.elim engineOne_empty engineOne_busy⟩

/-- The only order listed: which the engine selects. -/
theorem selected_one {st : Store} {o : Order} (h : st.orders = [o]) (hs : st.canStart o = true) : st.selected = some 0 := by
  have hrank : o.rank ≤ 4 := by
    cases o with
    | walk x p => cases x <;> simp [Order.rank]
    | _ => simp [Order.rank]
  unfold Store.selected
  rw [h]
  simp only [List.findIdx?_cons, hs, Bool.and_true, List.findIdx?_nil, Option.map_none]
  generalize o.rank = r at *
  interval_cases r <;> rfl

theorem selected_stopped {st : Store} {o : Order} (h : st.orders = [o]) (hs : st.canStart o = false) : st.selected = none := by
  unfold Store.selected
  rw [h]
  simp [hs]

theorem engineOne_one {st : Store} {o : Order} (h : st.orders = [o]) (hop : st.op = none) (hs : st.canStart o = true) :
    st.engineOne = some (st.startOrder 0) := by
  unfold Store.engineOne
  rw [hop, selected_one h hs]
  rfl

theorem engineOne_stopped {st : Store} {o : Order} (h : st.orders = [o]) (hs : st.canStart o = false) : st.engineOne = none := by
  unfold Store.engineOne
  rw [selected_stopped h hs]
  split <;> rfl

theorem endOrder_one {st : Store} {o : Order} (h : st.orders = [o]) (hv : ∀ b w f, o ≠ .single b w (some f)) :
    st.endOrder 0 = { st with orders := [] } := by
  unfold Store.endOrder
  rw [h]
  cases o with
  | single b w f =>
    cases f with
    | some f => exact absurd rfl (hv b w f)
    | none => rfl
  | _ => rfl

/-! ### A read -/

/-- The engine's only order is a read, and it begins. -/
theorem reaches_fill {st : Store} {b : Nat} (ht : st.task.passive = true) (ho : st.orders = [.fill b]) (hop : st.op = none)
    (hw : st.waiting = []) : st.Reaches 1 ({ st with op := some (.readFill b) }, none) := by
  have hstart : st.startOrder 0 = { st with op := some (.readFill b) } := by
    unfold Store.startOrder
    rw [ho]
    rfl
  refine reaches_engine (taskOne_passive ht) (admitOne_empty hw)
    (engineOne_one ho hop (by unfold Store.canStart Store.writesNext; simp)) ?_
  rw [hstart]
  exact reaches_settled (settled_of (taskOne_passive ht) hw (.inr rfl))

theorem reaches_verify {st : Store} {b : Nat} (ht : st.task.passive = true) (ho : st.orders = [.verify b]) (hop : st.op = none)
    (hw : st.waiting = []) : st.Reaches 1 ({ st with op := some (.readVerify b) }, none) := by
  have hstart : st.startOrder 0 = { st with op := some (.readVerify b) } := by
    unfold Store.startOrder
    rw [ho]
    rfl
  refine reaches_engine (taskOne_passive ht) (admitOne_empty hw)
    (engineOne_one ho hop (by unfold Store.canStart Store.writesNext; simp)) ?_
  rw [hstart]
  exact reaches_settled (settled_of (taskOne_passive ht) hw (.inr rfl))

/-! ### A write -/

theorem singleWrites_dirty {st : Store} {b i : Nat} (hf : st.nvFault = false) (hi : st.find b = some i)
    (hd : (st.line i).state = .dirty) : st.singleWrites b = true := by
  unfold Store.singleWrites
  rw [hf, hi]
  simp [hd]

theorem singleWrites_clean {st : Store} {b : Nat} (h : ∀ i, st.find b = some i → (st.line i).state ≠ .dirty) :
    st.singleWrites b = false := by
  unfold Store.singleWrites
  cases hi : st.find b with
  | none => simp
  | some i => simp [h i hi]

theorem startOrder_single {st : Store} {b i : Nat} {w : Bool} {f : Option Nat} (ho : st.orders = [.single b w f])
    (hs : st.singleWrites b = true) (hi : st.find b = some i) : st.startOrder 0 = st.startWrite i .single := by
  unfold Store.startOrder
  rw [ho]
  dsimp only [List.getElem?_cons_zero]
  rw [if_pos hs, hi]

theorem startOrder_single_ends {st : Store} {b : Nat} {w : Bool} (ho : st.orders = [.single b w none])
    (hs : st.singleWrites b = false) : st.startOrder 0 = { st with orders := [] } := by
  have hend := endOrder_one ho nofun
  unfold Store.startOrder
  rw [ho]
  dsimp only [List.getElem?_cons_zero]
  rw [if_neg (by rw [hs]; decide), hend]

theorem canStart_pwrGood {st : Store} (h : st.pwrGood = true) (o : Order) : st.canStart o = true := by
  unfold Store.canStart
  rw [h]
  rfl

theorem canStart_held {st : Store} {o : Order} (h : st.pwrGood = false) (hw : st.writesNext o = true) : st.canStart o = false := by
  unfold Store.canStart
  rw [h, hw]
  rfl

/-- The engine's only order is a write of a DIRTY line, and it begins. -/
theorem reaches_write {st : Store} {b i : Nat} {w : Bool} {f : Option Nat} (ht : st.taskOne = none)
    (ht' : (st.startWrite i .single).taskOne = none) (ho : st.orders = [.single b w f]) (hop : st.op = none)
    (ha : st.admitOne = none) (ha' : (st.startWrite i .single).admitOne = none) (hg : st.pwrGood = true)
    (hf : st.nvFault = false) (hi : st.find b = some i) (hd : (st.line i).state = .dirty) :
    st.Reaches 1 (st.startWrite i .single, none) := by
  refine reaches_engine ht ha (engineOne_one ho hop (canStart_pwrGood hg _)) ?_
  rw [startOrder_single ho (singleWrites_dirty hf hi hd) hi]
  exact reaches_settled ⟨ht', ha', engineOne_busy rfl⟩

/-- Without power a write waits. -/
theorem settled_write_held {st : Store} {b i : Nat} {w : Bool} {f : Option Nat} (ht : st.taskOne = none)
    (ho : st.orders = [.single b w f]) (ha : st.admitOne = none) (hg : st.pwrGood = false) (hf : st.nvFault = false)
    (hi : st.find b = some i) (hd : (st.line i).state = .dirty) : st.Settled :=
  ⟨ht, ha, engineOne_stopped ho (canStart_held hg (singleWrites_dirty hf hi hd))⟩

/-- A write of a line that is not DIRTY ends its order at once. -/
theorem engineOne_single_ends {st : Store} {b : Nat} {w : Bool} (ho : st.orders = [.single b w none]) (hop : st.op = none)
    (hs : st.singleWrites b = false) : st.engineOne = some { st with orders := [] } := by
  have hcan : st.canStart (.single b w none) = true := by
    unfold Store.canStart
    rw [show st.writesNext (.single b w none) = false from hs]
    simp
  rw [engineOne_one ho hop hcan, startOrder_single_ends ho hs]

/-! ### Victims -/

theorem eligible_iff {st : Store} {i : Nat} : st.eligible i = true ↔
    (st.line i).pinned = false ∧ ((st.line i).state = .invalid ∨ (st.line i).state = .clean ∨
      ((st.line i).state = .dirty ∧ st.nvFault = false)) := by
  unfold Store.eligible
  cases (st.line i).state <;> simp

/-- The lines of a set, by their ways. -/
theorem ways_of_set {set i : Nat} (h : i = 2 * set ∨ i = 2 * set + 1) :
    (i = 2 * set ∧ otherWay i = 2 * set + 1) ∨ (i = 2 * set + 1 ∧ otherWay i = 2 * set) := by
  unfold otherWay
  rcases h with rfl | rfl
  · exact .inl ⟨rfl, by simp⟩
  · exact .inr ⟨rfl, by rw [if_neg (by omega)]; omega⟩

/-- A free way is the victim: the first of its set, or the second where the first is not free. -/
theorem victim_free {st : Store} {set i : Nat} (hi : i = 2 * set ∨ i = 2 * set + 1) (hs : (st.line i).state = .invalid)
    (hp : (st.line i).pinned = false)
    (hfirst : i % 2 = 0 ∨ (st.line (i - 1)).state ≠ .invalid ∨ (st.line (i - 1)).pinned = true) : st.victim set = some i := by
  have he : st.eligible i = true := eligible_iff.mpr ⟨hp, .inl hs⟩
  unfold Store.victim
  dsimp only
  rcases hi with rfl | rfl
  · rw [if_pos (by rw [he, hs]; rfl)]
  · have hfirst' : (st.line (2 * set)).state ≠ .invalid ∨ (st.line (2 * set)).pinned = true := by
      rcases hfirst with h | h
      · omega
      · simpa using h
    rw [if_neg, if_pos (by rw [he, hs]; rfl)]
    intro k
    rw [Bool.and_eq_true, eligible_iff] at k
    obtain ⟨⟨hp', -⟩, hs'⟩ := k
    rcases hfirst' with h | h
    · exact h (by simpa using hs')
    · rw [hp'] at h; cases h

/-- A way whose other one is passed over, or was used more recently, is the victim. -/
theorem victim_used {st : Store} {set i : Nat} (hi : i = 2 * set ∨ i = 2 * set + 1) (he : st.eligible i = true)
    (hs : (st.line i).state ≠ .invalid)
    (ho : st.eligible (otherWay i) = false ∨ ((st.line (otherWay i)).state ≠ .invalid ∧ (st.line i).recent = false ∧
      (st.line (otherWay i)).recent = true)) : st.victim set = some i := by
  have hnot : ∀ j, (st.line j).state ≠ .invalid ∨ st.eligible j = false →
      (st.eligible j && (st.line j).state == .invalid) = false := by
    intro j hj
    rcases hj with hj | hj
    · simp [hj]
    · simp [hj]
  have hother := hnot (otherWay i) (ho.elim .inr fun k => .inl k.1)
  have hself := hnot i (.inl hs)
  unfold Store.victim
  dsimp only
  rcases ways_of_set hi with ⟨rfl, hw⟩ | ⟨rfl, hw⟩
  · rw [hw] at ho hother
    rw [if_neg (by rw [hself]; decide), if_neg (by rw [hother]; decide), if_pos]
    rw [he, Bool.true_and, Bool.or_eq_true]
    exact ho.elim (fun k => .inr (by rw [k]; rfl)) fun k => .inl (by rw [k.2.1]; rfl)
  · rw [hw] at ho hother
    rw [if_neg (by rw [hother]; decide), if_neg (by rw [hself]; decide), if_neg, if_pos he]
    rw [he, Bool.and_eq_true, Bool.or_eq_true]
    rintro ⟨hel, hrec⟩
    rcases ho with k | ⟨-, -, k⟩
    · rw [k] at hel; cases hel
    · rw [k] at hrec; simp at hrec

theorem victim_none {st : Store} {set : Nat} (h : ∀ i, i = 2 * set ∨ i = 2 * set + 1 → st.eligible i = false) :
    st.victim set = none := by
  unfold Store.victim
  dsimp only
  rw [h _ (.inl rfl), h _ (.inr rfl)]
  rfl

theorem victim_of_lines {st st' : Store} (h : st'.lines = st.lines) (hf : st'.nvFault = st.nvFault) (set : Nat) :
    st'.victim set = st.victim set := by
  have hline : ∀ i, st'.line i = st.line i := line_of_lines h
  have he : ∀ i, st'.eligible i = st.eligible i := fun i => by unfold Store.eligible; rw [hline, hf]
  unfold Store.victim
  simp only [he, hline]

/-! ### A fetch of an absent block -/

theorem fetch_absent {st : Store} {b : Nat} (h : st.find b = none) (hw : st.waiting = []) :
    st.fetch b = { st with waiting := [.fetch b false] } := by
  unfold Store.fetch
  rw [h, hw]
  rfl

theorem present_of_find {st : Store} {b : Nat} (h : st.find b = none) : st.present b = false := by
  unfold Store.present Store.presentLine
  rw [h]
  rfl

theorem canGoOn_fetch (st : Store) (b : Nat) (x : Bool) :
    st.canGoOn (.fetch b x) = (!x && st.hasRoom && (st.victim (setOf b)).isSome) := rfl

theorem admitOne_fetch {st : Store} {b i : Nat} (hw : st.waiting = [.fetch b false]) (ho : st.orders = [])
    (hv : st.victim (b % 4) = some i) : st.admitOne = some (st.takeVictim b i 0) := by
  have hv' : st.victim (setOf b) = some i := hv
  have hgo : st.canGoOn (.fetch b false) = true := by
    rw [canGoOn_fetch, hv']
    unfold Store.hasRoom
    rw [ho]
    rfl
  unfold Store.admitOne
  rw [hw]
  simp only [List.findIdx?_cons, hgo]
  show (st.victim (setOf b)).map _ = _
  rw [hv']
  rfl

theorem admitOne_fetch_held {st : Store} {b : Nat} {x : Bool} (hw : st.waiting = [.fetch b x])
    (h : x = true ∨ st.victim (b % 4) = none) : st.admitOne = none := by
  have hgo : st.canGoOn (.fetch b x) = false := by
    rw [canGoOn_fetch]
    rcases h with rfl | h
    · rfl
    · rw [show st.victim (setOf b) = none from h]; simp
  unfold Store.admitOne
  rw [hw]
  simp [List.findIdx?_cons, hgo]

theorem lines_modify {st : Store} {i : Nat} (hi : i < st.lines.length) (f : CacheLine → CacheLine) :
    st.lines.modify i f = st.lines.set i (f (st.line i)) := by
  have hline : st.line i = st.lines[i] := List.getD_eq_getElem _ _ hi
  rw [modify_eq_set (List.getElem?_eq_getElem hi), hline]

/-- The line taken for a fill. -/
def Store.fillBegun (st : Store) (b i : Nat) : Store :=
  { st with
    orders := [.fill b], op := some (.readFill b), waiting := []
    lines := st.lines.set i { CacheLine.filling b with recent := (st.line i).recent } }

theorem takeVictim_clean {st : Store} {b i : Nat} (hw : st.waiting = [.fetch b false]) (ho : st.orders = [])
    (hi : i < st.lines.length) (hd : (st.line i).state ≠ .dirty) : st.takeVictim b i 0 =
      { st with orders := [.fill b], waiting := [], lines := st.lines.set i { CacheLine.filling b with recent := (st.line i).recent } } := by
  unfold Store.takeVictim
  split
  · next hs _ => exact absurd hs hd
  · show ({ st with
      lines := st.lines.modify i fun l => { CacheLine.filling b with recent := l.recent }
      orders := st.orders ++ [.fill b], waiting := st.waiting.eraseIdx 0 } : Store) = _
    rw [lines_modify hi, hw, ho]
    rfl

/-- A waiting fetch that finds a free or CLEAN way begins its fill. -/
theorem reaches_fetch {st : Store} {b i : Nat} (ht : st.task.passive = true) (hw : st.waiting = [.fetch b false])
    (ho : st.orders = []) (hop : st.op = none) (hi : i < st.lines.length) (hv : st.victim (b % 4) = some i)
    (hd : (st.line i).state ≠ .dirty) : st.Reaches 2 (st.fillBegun b i, none) := by
  refine reaches_admit (taskOne_passive ht) (admitOne_fetch hw ho hv) ?_
  rw [takeVictim_clean hw ho hi hd]
  exact reaches_fill ht rfl hop rfl

/-- The order that writes a fetch's DIRTY victim. -/
def Store.victimListed (st : Store) (b old : Nat) : Store :=
  { st with orders := [.single old false (some b)], waiting := [.fetch b true] }

/-- A waiting fetch whose victim is DIRTY has it written first. -/
def Store.victimWrite (st : Store) (b i old : Nat) : Store :=
  { st with
    orders := [.single old false (some b)], waiting := [.fetch b true]
    op := if st.pwrGood then some (.write i (st.line i).data .single 4) else none
    lines := if st.pwrGood then st.lines.modify i fun l => { l with state := .writing, redirty := false } else st.lines }

theorem victimWrite_eq (st : Store) (b i old : Nat) (hop : st.op = none) : st.victimWrite b i old =
    if st.pwrGood then (st.victimListed b old).startWrite i .single else st.victimListed b old := by
  unfold Store.victimWrite Store.victimListed
  cases st.pwrGood with
  | true => rfl
  | false => rw [hop]; rfl

theorem victimListed_admits (st : Store) (b i old : Nat) : (st.victimListed b old).admitOne = none ∧
    ((st.victimListed b old).startWrite i .single).admitOne = none :=
  ⟨admitOne_fetch_held (st := st.victimListed b old) (b := b) (x := true) rfl (.inl rfl),
    admitOne_fetch_held (st := (st.victimListed b old).startWrite i .single) (b := b) (x := true) rfl (.inl rfl)⟩

theorem reaches_fetch_dirty {st : Store} {b i old : Nat} (ht : st.task.passive = true) (hw : st.waiting = [.fetch b false])
    (ho : st.orders = []) (hop : st.op = none) (hv : st.victim (b % 4) = some i) (hd : (st.line i).state = .dirty)
    (htag : (st.line i).tag = some old) (hf : st.nvFault = false) (hold : st.find old = some i) :
    st.Reaches 2 (st.victimWrite b i old, none) := by
  have htake : st.takeVictim b i 0 = st.victimListed b old := by
    unfold Store.takeVictim
    rw [hd, htag, hw, ho]
    rfl
  obtain ⟨ha, ha'⟩ := victimListed_admits st b i old
  have htask : (st.victimListed b old).taskOne = none := taskOne_passive ht
  refine reaches_admit (taskOne_passive ht) (admitOne_fetch hw ho hv) ?_
  rw [htake, victimWrite_eq st b i old hop]
  by_cases hg : st.pwrGood = true
  · rw [if_pos hg]
    exact reaches_write htask (taskOne_passive ht) rfl hop ha ha' hg hf hold hd
  · rw [if_neg hg]
    exact fun m => settle_settled (settled_write_held htask rfl ha (eq_false_of_ne_true hg) hf hold hd) _

/-- A waiting fetch without a way waits on. -/
theorem settled_fetch_waits {st : Store} {b : Nat} (ht : st.task.passive = true) (hw : st.waiting = [.fetch b false])
    (ho : st.orders = []) (hv : st.victim (b % 4) = none) : st.Settled :=
  ⟨taskOne_passive ht, admitOne_fetch_held hw (.inr hv), engineOne_empty ho⟩

/-! ### What a request leaves at the handler -/

/-- The handler's request waits for the store, which has gone on to `u`. -/
theorem works_of {s : State} {topic : Nat} {u : Store} {x : State} (h : x = (s.atWork topic).setStore u) :
    KeptBut [.store, .line, .handler, .display] s (State.present s x) ∧ Works topic s (State.present s x) ∧
      (State.present s x).store = u := by
  subst h
  have hk : KeptBut [.store, .handler] s ((s.atWork topic).setStore u) :=
    (setHandler_kept s _).andThen (setStore_kept _ u)
  refine ⟨(present_frame hk (cs := [.store, .handler, .display])).mono (by decide), ⟨?_, ?_⟩, ?_⟩
  · rw [State.present_handler]; rfl
  · rw [State.present_line]; rfl
  · rw [State.present_store]; rfl

/-- The handler has answered, with the store at `u`. -/
theorem replies_of {s : State} {topic : Nat} {u : Store} {st : Status} {result : List Byte} {x : State}
    (ho : s.line.Open 0x70) (h : x = ((s.atWork topic).setStore u).returnStatus st result) :
    KeptBut [.store, .line, .handler, .display] s (State.present s x) ∧ Replies topic st result s (State.present s x) ∧
      (State.present s x).store = u := by
  subst h
  have hk : KeptBut [.store, .line, .handler] s (((s.atWork topic).setStore u).returnStatus st result) :=
    ((setHandler_kept s _).andThen (cs := [.store, .handler]) (setStore_kept _ u)).andThen (returnStatus_kept _ _ _)
  have hopen : ((s.atWork topic).setStore u).line.Open 0x70 := ho
  refine ⟨present_frame hk, ?_, ?_⟩
  · refine replies_of_present s ?_
    rw [returnStatus_open hopen]
    exact ⟨rfl, rfl⟩
  · rw [State.present_store, (returnStatus_kept _ _ _).store]
    rfl

/-- The handler has answered, and the store stays. -/
theorem refuses_of {s : State} {topic : Nat} {st : Status} {result : List Byte} {x : State} (ho : s.line.Open 0x70)
    (h : x = (s.atWork topic).returnStatus st result) :
    KeptBut [.line, .handler, .display] s (State.present s x) ∧ Replies topic st result s (State.present s x) := by
  subst h
  obtain ⟨hk, hr⟩ := atWork_answers (topic := topic) (x := st) (result := result) ho
  exact ⟨present_frame hk, replies_of_present s hr⟩

/-- A task that the store's first move, or none, leads to `r`. -/
theorem takeTask_reaches {s : State} {topic : Nat} {st u : Store} {k : Nat} (h : st.Reaches k (u, none))
    (hk : k ≤ 64 := by omega) : (s.atWork topic).takeTask (st, none) = (s.atWork topic).setStore u := by
  rw [takeTask_none]
  exact settleStore_reaches (s := (s.atWork topic).setStore st) h hk

theorem takeTask_reaches_end {s : State} {topic : Nat} {st u : Store} {k : Nat} {x : Status} (h : st.Reaches k (u, some x))
    (hk : k ≤ 64 := by omega) :
    (s.atWork topic).takeTask (st, none) = ((s.atWork topic).setStore u).returnStatus x [] := by
  rw [takeTask_none]
  exact settleStore_reaches_end (s := (s.atWork topic).setStore st) h hk

/-- A command's request at the handler that is IDLE. -/
theorem exec_carriesOut {c : Instr} {topic : Nat} {data : List Byte} {s : State} (hc : c.request = some (topic, data))
    (h : s.TakesRequest) : exec c s = .next (State.present s ((s.atWork topic).carryOut topic data)) := by
  obtain ⟨ha, hi, -⟩ := h
  rw [exec_of_request hc, workshopRequest_idle ha hi]

theorem exec_recordOperation {c : Instr} {op b : Byte} {s : State} (hc : c.request = some (0x62, [op, b])) (h : s.TakesRequest)
    (hop : op.toNat ≤ 6) (hb : b.toNat < 64) :
    exec c s = .next (State.present s ((s.atWork 0x62).recordOperation op.toNat b.toNat)) := by
  rw [exec_carriesOut hc h, carryOut_record]
  exact congrArg (fun x => Host.Outcome.next (State.present s x)) (if_pos ⟨hop, hb⟩)

end Sys2Proof.Machine
end

section
/-! SUPPORT. FETCH and FETCH-AND-PIN of present and absent blocks, UNPIN and VERIFY. Settles O57. -/
namespace Sys2Proof.Machine
set_option Elab.async false

/-! ### A present block -/

theorem find_of_present {st : Store} {b : Nat} (h : st.present b = true) :
    ∃ i, st.find b = some i ∧ (st.line i).state.isPresent = true := by
  obtain ⟨i, hi⟩ := present_of_presentLine h
  exact ⟨i, presentLine_eq_some.mp hi⟩

theorem fetch_present {st : Store} {b i : Nat} (hi : st.find b = some i) (hp : (st.line i).state.isPresent = true) :
    st.fetch b = st.touch i := by
  unfold Store.fetch
  rw [hi]
  exact if_neg fun k => by rw [k] at hp; cases hp

theorem atRest_modifyLine {st : Store} (h : st.AtRest) (i : Nat) (f : CacheLine → CacheLine) : (st.modifyLine i f).AtRest := h

theorem atRest_touch {st : Store} (h : st.AtRest) (i : Nat) : (st.touch i).AtRest := h

theorem setPin_eq {st : Store} {b i : Nat} (hi : st.find b = some i) (x : Bool) :
    st.setPin b x = st.modifyLine i fun l => { l with pinned := x } := by
  unfold Store.setPin
  rw [hi]

theorem setPin_reads {st : Store} {b : Nat} (x : Bool) (c : Nat) :
    (st.setPin b x).dataOf c = st.dataOf c ∧ (st.setPin b x).present c = st.present c := by
  cases hi : st.find b with
  | none =>
    have : st.setPin b x = st := by unfold Store.setPin; rw [hi]
    rw [this]
    exact ⟨rfl, rfl⟩
  | some i =>
    have hl := line_lt_of_find hi
    rw [setPin_eq hi]
    refine ⟨dataOf_modifyLine_at (f := fun l => { l with pinned := x }) hl rfl rfl rfl rfl c, ?_⟩
    unfold Store.present
    rw [(reads_modifyLine_at (f := fun l => { l with pinned := x }) hl rfl rfl rfl c).2]

theorem line_touch_pinned (st : Store) (i j : Nat) : ((st.touch i).line j).pinned = (st.line j).pinned := by
  obtain ⟨y, hy⟩ := line_touch st i j
  rw [hy]

theorem setPin_line {st : Store} {b i : Nat} (hi : st.find b = some i) (x : Bool) (j : Nat) :
    ((st.setPin b x).line j).pinned = if j = i then x else (st.line j).pinned := by
  rw [setPin_eq hi, modifyLine_line _ _ _ _ (line_lt_of_find hi)]
  by_cases h : j = i
  · rw [if_pos h.symm, if_pos h]
  · rw [if_neg fun k => h k.symm, if_neg h]

theorem isPinned_of_find {st : Store} {b i : Nat} (hi : st.find b = some i) : st.isPinned b = (st.line i).pinned := by
  unfold Store.isPinned
  rw [hi]

theorem otherPinned_iff {st : Store} {n : Nat} : st.otherPinned n = true ↔
    ∃ j, (j = 2 * (n % 4) ∨ j = 2 * (n % 4) + 1) ∧ (st.line j).pinned = true ∧ (st.line j).tag ≠ some n := by
  unfold Store.otherPinned setOf
  simp only [Bool.or_eq_true, Bool.and_eq_true, bne_iff_ne, ne_eq]
  constructor
  · rintro (h | h)
    · exact ⟨_, .inl rfl, h⟩
    · exact ⟨_, .inr rfl, h⟩
  · rintro ⟨j, rfl | rfl, h⟩
    · exact .inl h
    · exact .inr h

/-! ### The absent block: what its fetch finds -/

/-- The store as FETCH leaves an absent block's fetch waiting, with its task. -/
def Store.asked (st : Store) (n : Nat) (task : Task) : Store := { st with waiting := [.fetch n false], task := task }

/-- The request's run at a store at rest, by what the fetch finds. -/
structure FetchRun (st : Store) (n : Nat) (task : Task) : Prop where
  begins : ∀ i, i < st.lines.length → st.victim (n % 4) = some i → (st.line i).state ≠ .dirty →
    (st.asked n task).Reaches 2 ((st.asked n task).fillBegun n i, none)
  writes : ∀ i old, st.victim (n % 4) = some i → (st.line i).state = .dirty → (st.line i).tag = some old →
    st.nvFault = false → st.find old = some i → (st.asked n task).Reaches 2 ((st.asked n task).victimWrite n i old, none)
  waits : st.victim (n % 4) = none → (st.asked n task).Reaches 0 (st.asked n task, none)

theorem fetchRun {st : Store} (h : st.AtRest) (n : Nat) {task : Task} (ht : task.passive = true) : FetchRun st n task := by
  obtain ⟨ho, hop, -, -⟩ := h
  have hv : (st.asked n task).victim (n % 4) = st.victim (n % 4) := victim_of_lines rfl rfl _
  exact
    { begins := fun i hi hw hd => reaches_fetch (st := st.asked n task) ht rfl ho hop hi (hv.trans hw) hd
      writes := fun i old hw hd htag hf hold =>
        reaches_fetch_dirty (st := st.asked n task) ht rfl ho hop (hv.trans hw) hd htag hf hold
      waits := fun hw => reaches_settled (settled_fetch_waits (st := st.asked n task) ht rfl ho (hv.trans hw)) }

theorem fetch_asked {st : Store} (h : st.AtRest) {n : Nat} (hn : st.find n = none) (task : Task) :
    ({ st.fetch n with task := task } : Store) = st.asked n task := by
  rw [fetch_absent hn h.2.2.1]
  rfl

/-- A way that the choice of a victim passes over, in the lines' own terms. -/
def Store.PassedOver (st : Store) (j i : Nat) : Prop :=
  (st.line j).pinned = true ∨ ((st.line j).state = .dirty ∧ st.nvFault = true) ∨
    ((st.line j).state ∈ [.clean, .dirty] ∧ (st.line i).recent = false ∧ (st.line j).recent = true)

theorem Store.PassedOver.choice {st : Store} {j i : Nat} (h : st.PassedOver j i) :
    st.eligible j = false ∨ ((st.line j).state ≠ .invalid ∧ (st.line i).recent = false ∧ (st.line j).recent = true) := by
  rcases h with h | ⟨h, hf⟩ | ⟨h, hr⟩
  · exact .inl (eq_false_of_ne_true fun k => by rw [(eligible_iff.mp k).1] at h; cases h)
  · refine .inl (eq_false_of_ne_true fun k => ?_)
    rcases (eligible_iff.mp k).2 with k | k | ⟨-, k⟩
    · rw [k] at h; cases h
    · rw [k] at h; cases h
    · rw [k] at hf; cases hf
  · refine .inr ⟨fun k => ?_, hr⟩
    rw [k] at h
    simp at h

theorem victim_clean_or_free {st : Store} {n i : Nat} (hp : (st.line i).pinned = false)
    (hi : i = 2 * (n % 4) ∨ i = 2 * (n % 4) + 1)
    (hfree : (st.line i).state = .invalid → i % 2 = 0 ∨ (st.line (i - 1)).state ≠ .invalid ∨ (st.line (i - 1)).pinned = true)
    (hor : (st.line i).state = .invalid ∨ ((st.line i).state = .clean ∧ st.PassedOver (otherWay i) i)) :
    st.victim (n % 4) = some i := by
  rcases hor with hs | ⟨hs, hother⟩
  · exact victim_free hi hs hp (hfree hs)
  · exact victim_used hi (eligible_iff.mpr ⟨hp, .inr (.inl hs)⟩) (by rw [hs]; decide) hother.choice

theorem victim_dirty {st : Store} {n i : Nat} (hp : (st.line i).pinned = false)
    (hi : i = 2 * (n % 4) ∨ i = 2 * (n % 4) + 1) (hs : (st.line i).state = .dirty) (hf : st.nvFault = false)
    (hother : st.PassedOver (otherWay i) i) : st.victim (n % 4) = some i :=
  victim_used hi (eligible_iff.mpr ⟨hp, .inr (.inr ⟨hs, hf⟩)⟩) (by rw [hs]; decide) hother.choice

theorem victim_noWay {st : Store} {n : Nat} (h : ∀ i, (i = 2 * (n % 4) ∨ i = 2 * (n % 4) + 1) →
    (st.line i).pinned = true ∨ ((st.line i).state = .dirty ∧ st.nvFault = true)) : st.victim (n % 4) = none :=
  victim_none fun i hi => by
    have hpassed : st.PassedOver i i := (h i hi).elim .inl fun k => .inr (.inl k)
    refine eq_false_of_ne_true fun k => ?_
    obtain ⟨hp, hs⟩ := eligible_iff.mp k
    rcases h i hi with h | ⟨h, hf⟩
    · rw [hp] at h; cases h
    · rcases hs with k | k | ⟨-, k⟩
      · rw [k] at h; cases h
      · rw [k] at h; cases h
      · rw [k] at hf; cases hf

/-! ### FETCH and FETCH-AND-PIN -/

/-- The commands whose request has come to the store's task. -/
def State.Tasks (s : State) (c : Instr) (r : Store × Option Status) : Prop :=
  exec c s = .next (State.present s ((s.atWork 0x62).takeTask r))

theorem tasks_fetch {s : State} {b : Byte} (h : s.TakesRequest) (hb : b.toNat < 64) :
    s.Tasks (.fetch b) (s.store.taskFetch b.toNat) := exec_recordOperation (c := .fetch b) (op := 0) rfl h (by decide) hb

theorem tasks_fetchAndPin {s : State} {b : Byte} (h : s.TakesRequest) (hb : b.toNat < 64) :
    s.Tasks (.fetchAndPin b) (s.store.taskFetchPin b.toNat) :=
  exec_recordOperation (c := .fetchAndPin b) (op := 1) rfl h (by decide) hb

theorem tasks_unpin {s : State} {b : Byte} (h : s.TakesRequest) (hb : b.toNat < 64) :
    s.Tasks (.unpin b) (s.store.taskUnpin b.toNat) := exec_recordOperation (c := .unpin b) (op := 2) rfl h (by decide) hb

theorem tasks_verify {s : State} {b : Byte} (h : s.TakesRequest) (hb : b.toNat < 64) :
    s.Tasks (.verify b) (s.store.taskVerify b.toNat) := exec_recordOperation (c := .verify b) (op := 6) rfl h (by decide) hb

/-- A task refused, or done with nothing to do. -/
theorem State.Tasks.refused {s : State} {c : Instr} {x : Status} (h : s.Tasks c (s.store, some x)) (hr : s.store.Settled)
    (ho : s.line.Open 0x70) :
    ∃ t, exec c s = .next t ∧ KeptBut [.line, .handler, .display] s t ∧ Replies 0x62 x [] s t := by
  refine ⟨_, h, refuses_of ho ?_⟩
  exact takeTask_refused (s := s.atWork 0x62) hr

/-- A task that leaves the store settled at `u`, and is answered at once. -/
theorem State.Tasks.answered {s : State} {c : Instr} {u : Store} {x : Status} (h : s.Tasks c (u, some x)) (hu : u.Settled)
    (ho : s.line.Open 0x70) :
    ∃ t, exec c s = .next t ∧ KeptBut [.store, .line, .handler, .display] s t ∧ Replies 0x62 x [] s t ∧ t.store = u :=
  ⟨_, h, replies_of ho (takeTask_some hu)⟩

/-- A task that waits, at a store that goes on to `u`. -/
theorem State.Tasks.works {s : State} {c : Instr} {st u : Store} {k : Nat} (h : s.Tasks c (st, none))
    (hr : st.Reaches k (u, none)) (hk : k ≤ 64 := by omega) :
    ∃ t, exec c s = .next t ∧ KeptBut [.store, .line, .handler, .display] s t ∧ Works 0x62 s t ∧ t.store = u :=
  ⟨_, h, works_of (takeTask_reaches hr hk)⟩

/-- A task that the store's progress ends. -/
theorem State.Tasks.ends {s : State} {c : Instr} {st u : Store} {k : Nat} {x : Status} (h : s.Tasks c (st, none))
    (hr : st.Reaches k (u, some x)) (ho : s.line.Open 0x70) (hk : k ≤ 64 := by omega) :
    ∃ t, exec c s = .next t ∧ KeptBut [.store, .line, .handler, .display] s t ∧ Replies 0x62 x [] s t ∧ t.store = u :=
  ⟨_, h, replies_of ho (takeTask_reaches_end hr hk)⟩

theorem taskFetch_absent {st : Store} (h : st.AtRest) {n : Nat} (hn : st.find n = none) :
    st.taskFetch n = (st.asked n (.fetch n false), none) := by
  unfold Store.taskFetch
  rw [if_neg (by rw [present_of_find hn]; decide), fetch_asked h hn]

theorem taskFetch_present {st : Store} {n i : Nat} (hi : st.find n = some i) (hp : (st.line i).state.isPresent = true) :
    st.taskFetch n = (st.touch i, some .done) := by
  unfold Store.taskFetch
  rw [if_pos (by unfold Store.present; rw [presentLine_eq_some.mpr ⟨hi, hp⟩]; rfl), fetch_present hi hp]

theorem taskFetchPin_absent {st : Store} (h : st.AtRest) {n : Nat} (hn : st.find n = none) (hother : st.otherPinned n = false) :
    st.taskFetchPin n = (st.asked n (.fetch n true), none) := by
  have hp := present_of_find hn
  unfold Store.taskFetchPin
  rw [if_neg (by rw [hp]; simp), if_neg (by rw [hother]; decide), if_neg (by rw [hp]; decide), fetch_asked h hn]

/-- What an absent block's fetch gives, by what it finds in its set. -/
theorem fetch_absent_runs {s : State} {c : Instr} {n : Nat} {pin : Bool} (hr : s.store.AtRest) (hlen : s.store.lines.length = 8)
    (h : s.Tasks c (s.store.asked n (.fetch n pin), none)) :
    (∀ i, (s.store.line i).pinned = false → (i = 2 * (n % 4) ∨ i = 2 * (n % 4) + 1) →
      ((s.store.line i).state = .invalid → i % 2 = 0 ∨ (s.store.line (i - 1)).state ≠ .invalid ∨
        (s.store.line (i - 1)).pinned = true) →
      ((s.store.line i).state = .invalid ∨ ((s.store.line i).state = .clean ∧ s.store.PassedOver (otherWay i) i)) →
      ∃ t, exec c s = .next t ∧ KeptBut [.store, .line, .handler, .display] s t ∧ Works 0x62 s t ∧
        t.store.task = .fetch n pin ∧ t.store.op = some (.readFill n) ∧ t.store.orders = [.fill n] ∧
        t.store.lines = s.store.lines.set i { CacheLine.filling n with recent := (s.store.line i).recent }) ∧
    (∀ i old, (s.store.line i).pinned = false → (i = 2 * (n % 4) ∨ i = 2 * (n % 4) + 1) → (s.store.line i).state = .dirty →
      s.store.nvFault = false → s.store.find old = some i → (s.store.line i).tag = some old →
      s.store.PassedOver (otherWay i) i →
      ∃ t, exec c s = .next t ∧ KeptBut [.store, .line, .handler, .display] s t ∧ Works 0x62 s t ∧
        t.store = { s.store with
          orders := [.single old false (some n)], waiting := [.fetch n true], task := .fetch n pin
          op := if s.store.pwrGood then some (.write i (s.store.line i).data .single 4) else none
          lines := if s.store.pwrGood then s.store.lines.modify i fun l => { l with state := .writing, redirty := false }
            else s.store.lines }) ∧
    ((∀ i, (i = 2 * (n % 4) ∨ i = 2 * (n % 4) + 1) →
        (s.store.line i).pinned = true ∨ ((s.store.line i).state = .dirty ∧ s.store.nvFault = true)) →
      ∃ t, exec c s = .next t ∧ KeptBut [.store, .line, .handler, .display] s t ∧ Works 0x62 s t ∧
        t.store = { s.store with waiting := [.fetch n false], task := .fetch n pin }) := by
  have hrun := fetchRun hr n (task := .fetch n pin) rfl
  have hlt : ∀ i, (i = 2 * (n % 4) ∨ i = 2 * (n % 4) + 1) → i < s.store.lines.length := by omega
  refine ⟨fun i hp hi hfree hor => ?_, fun i old hp hi hs hf hold htag ho => ?_, fun hno => ?_⟩
  · have hd : (s.store.line i).state ≠ .dirty := by
      rcases hor with h | ⟨h, -⟩ <;> rw [h] <;> decide
    obtain ⟨t, hexec, hk, hw, ht⟩ := h.works (hrun.begins i (hlt i hi) (victim_clean_or_free hp hi hfree hor) hd)
    refine ⟨t, hexec, hk, hw, ?_⟩
    rw [ht]
    exact ⟨rfl, rfl, rfl, rfl⟩
  · exact h.works (hrun.writes i old (victim_dirty hp hi hs hf ho) hs htag hf hold)
  · exact h.works (hrun.waits (victim_noWay hno))

/-- A present block's fetch touches its line. -/
theorem fetch_present_answers {s : State} {b : Byte} (ht : s.TakesRequest) (hr : s.store.AtRest) (hb : b.toNat < 64)
    (hp : s.store.present b.toNat = true) :
    ∃ t, exec (.fetch b) s = .next t ∧ KeptBut [.store, .line, .handler, .display] s t ∧ Replies 0x62 .done [] s t ∧
      ∀ c, t.store.dataOf c = s.store.dataOf c ∧ t.store.present c = s.store.present c := by
  obtain ⟨i, hi, hs⟩ := find_of_present hp
  have htask := tasks_fetch ht hb
  rw [taskFetch_present hi hs] at htask
  obtain ⟨t, hexec, hk, hw, hst⟩ := htask.answered (settled_atRest (atRest_touch hr i)) ht.2.2
  exact ⟨t, hexec, hk, hw, fun c => by rw [hst]; exact ⟨dataOf_touch _ _ _, present_touch _ _ _⟩⟩

/-- FETCH-AND-PIN of a present block, pinned already or to be pinned. -/
theorem fetchAndPin_present_answers {s : State} {b : Byte} (ht : s.TakesRequest) (hr : s.store.AtRest) (hb : b.toNat < 64)
    (hp : s.store.present b.toNat = true) (hor : s.store.isPinned b.toNat = true ∨ s.store.otherPinned b.toNat = false) :
    ∃ t, exec (.fetchAndPin b) s = .next t ∧ KeptBut [.store, .line, .handler, .display] s t ∧ Replies 0x62 .done [] s t ∧
      (∀ c, t.store.dataOf c = s.store.dataOf c ∧ t.store.present c = s.store.present c) ∧
      ∀ i, s.store.find b.toNat = some i → (t.store.line i).pinned = true ∧
        ∀ j, j ≠ i → (t.store.line j).pinned = (s.store.line j).pinned := by
  obtain ⟨i, hi, hs⟩ := find_of_present hp
  have htask := tasks_fetchAndPin ht hb
  unfold Store.taskFetchPin at htask
  by_cases hpin : s.store.isPinned b.toNat = true
  · rw [if_pos (by rw [hp, hpin]; rfl), fetch_present hi hs] at htask
    obtain ⟨t, hexec, hk, hw, hst⟩ := htask.answered (settled_atRest (atRest_touch hr i)) ht.2.2
    refine ⟨t, hexec, hk, hw, fun c => by rw [hst]; exact ⟨dataOf_touch _ _ _, present_touch _ _ _⟩, fun j hj => ?_⟩
    rw [hst]
    refine ⟨?_, fun k _ => line_touch_pinned _ _ _⟩
    rw [line_touch_pinned, ← isPinned_of_find hj, hpin]
  · have hother := hor.resolve_left hpin
    rw [if_neg (by rw [eq_false_of_ne_true hpin]; simp), if_neg (by rw [hother]; decide), if_pos hp,
      fetch_present hi hs] at htask
    have hi' : (s.store.touch i).find b.toNat = some i := (find_touch _ _ _).trans hi
    have hrest : ((s.store.touch i).setPin b.toNat true).AtRest := by
      rw [setPin_eq hi']
      exact hr
    obtain ⟨t, hexec, hk, hw, hst⟩ := htask.answered (settled_atRest hrest) ht.2.2
    refine ⟨t, hexec, hk, hw, fun c => ?_, fun j hj => ?_⟩
    · obtain ⟨hdata, hpres⟩ := setPin_reads (st := s.store.touch i) (b := b.toNat) true c
      rw [hst, hdata, hpres]
      exact ⟨dataOf_touch _ _ _, present_touch _ _ _⟩
    · rw [hi] at hj
      injection hj with hj
      subst hj
      rw [hst]
      refine ⟨by rw [setPin_line hi', if_pos rfl], fun k hk => ?_⟩
      rw [setPin_line hi', if_neg hk, line_touch_pinned]

theorem fetchAndPin_refused {s : State} {b : Byte} (ht : s.TakesRequest) (hr : s.store.AtRest) (hb : b.toNat < 64)
    (hother : s.store.otherPinned b.toNat = true) (hpin : s.store.isPinned b.toNat = false) :
    ∃ t, exec (.fetchAndPin b) s = .next t ∧ KeptBut [.line, .handler, .display] s t ∧ Replies 0x62 .pinned [] s t := by
  have htask := tasks_fetchAndPin ht hb
  unfold Store.taskFetchPin at htask
  rw [if_neg (by rw [hpin]; simp), if_pos hother] at htask
  exact htask.refused (settled_atRest hr) ht.2.2

/-! ### UNPIN and VERIFY -/

theorem unpin_system {s : State} {b : Byte} (ht : s.TakesRequest) (hr : s.store.AtRest) (hb : b.toNat ≤ 2) :
    ∃ t, exec (.unpin b) s = .next t ∧ KeptBut [.line, .handler, .display] s t ∧ Replies 0x62 .pinned [] s t := by
  have htask := tasks_unpin ht (b := b) (by omega)
  unfold Store.taskUnpin at htask
  rw [if_pos (by simpa [systemBlock] using hb)] at htask
  exact htask.refused (settled_atRest hr) ht.2.2

theorem taskUnpin_present {st : Store} {n : Nat} (hn : 3 ≤ n) (hp : st.present n = true) :
    st.taskUnpin n = (st.setPin n false, some .done) := by
  unfold Store.taskUnpin
  rw [if_neg (by simp [systemBlock]; omega), if_pos hp]

theorem unpin_answers {s : State} {b : Byte} (ht : s.TakesRequest) (hr : s.store.AtRest) (hb : b.toNat < 64) (h3 : 3 ≤ b.toNat) :
    ∃ t, exec (.unpin b) s = .next t ∧ KeptBut [.store, .line, .handler, .display] s t ∧ Replies 0x62 .done [] s t ∧
      (∀ c, t.store.dataOf c = s.store.dataOf c ∧ t.store.present c = s.store.present c) ∧
      (s.store.present b.toNat = true → ∀ i, s.store.find b.toNat = some i → (t.store.line i).pinned = false ∧
        ∀ j, j ≠ i → (t.store.line j).pinned = (s.store.line j).pinned) ∧
      (s.store.present b.toNat = false → t.store = s.store) := by
  have htask := tasks_unpin ht hb
  cases hp : s.store.present b.toNat with
  | true =>
    obtain ⟨i, hi, -⟩ := find_of_present hp
    rw [taskUnpin_present h3 hp] at htask
    have hrest : (s.store.setPin b.toNat false).AtRest := by
      rw [setPin_eq hi]
      exact hr
    obtain ⟨t, hexec, hk, hw, hst⟩ := htask.answered (settled_atRest hrest) ht.2.2
    refine ⟨t, hexec, hk, hw, fun c => by rw [hst]; exact setPin_reads _ _, fun _ j hj => ?_, nofun⟩
    rw [hst]
    exact ⟨by rw [setPin_line hj, if_pos rfl], fun k hk => by rw [setPin_line hj, if_neg hk]⟩
  | false =>
    unfold Store.taskUnpin at htask
    rw [if_neg (by simp [systemBlock]; omega), if_neg (by rw [hp]; decide)] at htask
    obtain ⟨t, hexec, hk, hw, hst⟩ := htask.answered (settled_atRest hr) ht.2.2
    exact ⟨t, hexec, hk, hw, fun c => by rw [hst]; exact ⟨rfl, rfl⟩, nofun, fun _ => hst⟩

theorem verify_works {s : State} {b : Byte} (ht : s.TakesRequest) (hr : s.store.AtRest) (hb : b.toNat < 64) :
    ∃ t, exec (.verify b) s = .next t ∧ KeptBut [.store, .line, .handler, .display] s t ∧ Works 0x62 s t ∧
      t.store = { s.store with
        orders := [.verify b.toNat], op := some (.readVerify b.toNat), task := .verify b.toNat } := by
  have htask := tasks_verify ht hb
  unfold Store.taskVerify at htask
  rw [place_atRest hr] at htask
  exact htask.works (reaches_verify rfl rfl hr.2.1 hr.2.2.1)

/-! ### A fetch that goes on -/

theorem line_set_other {st st' : Store} {i j : Nat} {l : CacheLine} (h : st'.lines = st.lines.set i l) (hj : j ≠ i) :
    st'.line j = st.line j := by
  unfold Store.line
  rw [h, List.getD_eq_getElem?_getD, List.getD_eq_getElem?_getD, List.getElem?_set_ne (Ne.symm hj)]

theorem otherWay_ne (i : Nat) : otherWay i ≠ i := by
  unfold otherWay
  split <;> omega

/-- UNPIN of the CLEAN way that a waiting fetch needs. -/
theorem unpin_lets_fetch {s : State} {b : Byte} {n i : Nat} (ht : s.TakesRequest)
    (ho : s.store.orders = []) (hop : s.store.op = none) (hw : s.store.waiting = [.fetch n false])
    (htask : s.store.task = .none) (h3 : 3 ≤ b.toNat) (hb : b.toNat < 64) (hi : s.store.find b.toNat = some i)
    (hset : i / 2 = n % 4) (hs : (s.store.line i).state = .clean) (hpin : (s.store.line (otherWay i)).pinned = true) :
    ∃ t, exec (.unpin b) s = .next t ∧ KeptBut [.store, .line, .handler, .display] s t ∧ Replies 0x62 .done [] s t ∧
      t.store = { s.store with
        orders := [.fill n], op := some (.readFill n), waiting := []
        lines := s.store.lines.set i { CacheLine.filling n with recent := (s.store.line i).recent } } := by
  have hp : s.store.present b.toNat = true := by
    unfold Store.present
    rw [presentLine_eq_some.mpr ⟨hi, by rw [hs]; rfl⟩]
    rfl
  have hlt : i < s.store.lines.length := line_lt_of_find hi
  have hway : i = 2 * (n % 4) ∨ i = 2 * (n % 4) + 1 := by omega
  have hline : (s.store.setPin b.toNat false).line i = { s.store.line i with pinned := false } := by
    rw [setPin_eq hi, modifyLine_line _ _ _ _ hlt, if_pos rfl]
  have hother : (s.store.setPin b.toNat false).line (otherWay i) = s.store.line (otherWay i) := by
    rw [setPin_eq hi, modifyLine_line _ _ _ _ hlt, if_neg (otherWay_ne i).symm]
  have hvictim : (s.store.setPin b.toNat false).victim (n % 4) = some i :=
    victim_clean_or_free (by rw [hline]) hway (fun k => by rw [hline, hs] at k; cases k)
      (.inr ⟨by rw [hline]; exact hs, .inl (by rw [hother]; exact hpin)⟩)
  have hfields : (s.store.setPin b.toNat false) = { s.store with
      lines := s.store.lines.set i { s.store.line i with pinned := false } } := by
    rw [setPin_eq hi]
    unfold Store.modifyLine
    rw [lines_modify hlt]
  have hreach : (s.store.setPin b.toNat false).Reaches 2 ((s.store.setPin b.toNat false).fillBegun n i, none) := by
    refine reaches_fetch ?_ ?_ ?_ ?_ ?_ hvictim (by rw [hline, hs]; decide)
    · rw [hfields]; dsimp only; rw [htask]; rfl
    · rw [hfields]; exact hw
    · rw [hfields]; exact ho
    · rw [hfields]; exact hop
    · rw [hfields]; dsimp only; rw [List.length_set]; exact hlt
  have hend : (s.store.setPin b.toNat false).fillBegun n i = { s.store with
        orders := [.fill n], op := some (.readFill n), waiting := []
        lines := s.store.lines.set i { CacheLine.filling n with recent := (s.store.line i).recent } } := by
    unfold Store.fillBegun
    rw [hline, hfields]
    dsimp only
    rw [List.set_set]
  have hrun := tasks_unpin ht hb
  rw [taskUnpin_present h3 hp] at hrun
  let u := ((s.atWork 0x62).setStore (s.store.setPin b.toNat false)).returnStatus .done []
  have hstore : u.store = s.store.setPin b.toNat false := (returnStatus_kept _ _ _).store
  have hsettle : u.settleStore = u.setStore ((s.store.setPin b.toNat false).fillBegun n i) :=
    settleStore_reaches (by rw [hstore]; exact hreach)
  have hsame : u.setStore ((s.store.setPin b.toNat false).fillBegun n i) =
      ((s.atWork 0x62).setStore ((s.store.setPin b.toNat false).fillBegun n i)).returnStatus .done [] := by
    have hopen : ((s.atWork 0x62).setStore (s.store.setPin b.toNat false)).line.Open 0x70 := ht.2.2
    have hopen' : ((s.atWork 0x62).setStore ((s.store.setPin b.toNat false).fillBegun n i)).line.Open 0x70 := ht.2.2
    show (State.returnStatus _ _ _).setStore _ = _
    rw [returnStatus_open hopen, returnStatus_open hopen']
    rfl
  obtain ⟨hk, hrep, hst⟩ := replies_of (s := s) (topic := 0x62) ht.2.2 (hsettle.trans hsame)
  exact ⟨_, hrun, hk, hrep, hst.trans hend⟩

/-! ### The victim's write, ended -/

/-- A line other than the written one that is DIRTY or WRITING holds HOLDUP. -/
theorem dirtyReported_of_line {st : Store} {j : Nat} (h : (st.line j).state ∈ [.dirty, .writing]) : st.dirtyReported = true := by
  have hj : j < st.lines.length := by
    by_contra hno
    unfold Store.line at h
    rw [List.getD_eq_default _ _ (Nat.le_of_not_lt hno)] at h
    simp [CacheLine.invalid] at h
  have hline : st.line j = st.lines[j] := List.getD_eq_getElem _ _ hj
  unfold Store.dirtyReported
  rw [List.any_eq_true]
  exact ⟨_, List.getElem_mem hj, by rw [← hline]; simpa using h⟩

theorem holdupExit_stays {s : State} (h : s.ign = .holdup → s.line.queue ≠ [] ∨ s.store.dirtyReported = true) :
    s.holdupExit = s := by
  unfold State.holdupExit
  refine if_neg fun ⟨hi, hx⟩ => ?_
  unfold State.exitCondition at hx
  rw [Bool.and_eq_true] at hx
  rcases h hi with hq | hd
  · exact hq (by simpa using hx.2)
  · rw [hd] at hx
    exact absurd hx.1 (by decide)

/-- The state of the store after a victim's write, before it goes on. -/
def Store.victimWritten (st : Store) (i n : Nat) (nv : NvMemory) : Store :=
  { st with
    lines := st.lines.modify i CacheLine.written, orders := [], waiting := [.fetch n false], op := none
    consecutiveFailures := 0, nv := nv }

theorem writeReady_victim {st : Store} {i old n k : Nat} {snapshot : List Byte}
    (hop : st.op = some (.write i snapshot .single k)) (ho : st.orders = [.single old false (some n)])
    (hw : st.waiting = [.fetch n true]) : st.writeReady = st.victimWritten i n (st.nv.writeBlock (st.blockOf i) snapshot) := by
  have hend : (st.modifyLine i CacheLine.written).endKind Order.isSingle =
      { st.modifyLine i CacheLine.written with orders := [], waiting := [.fetch n false] } := by
    unfold Store.endKind
    rw [show (st.modifyLine i CacheLine.written).orders = [.single old false (some n)] from ho]
    show Store.endOrder _ 0 = _
    unfold Store.endOrder
    rw [show (st.modifyLine i CacheLine.written).orders = [.single old false (some n)] from ho]
    show ({ st.modifyLine i CacheLine.written with
      orders := [], waiting := st.waiting.map (Waiting.victimWritten n) } : Store) = _
    rw [hw]
    simp [Waiting.victimWritten]
  unfold Store.writeReady
  rw [hop]
  dsimp only
  rw [show (st.modifyLine i CacheLine.written).writeServed i .single = _ from hend]
  rfl

theorem victim_written_fetches {s : State} {n i old k : Nat} {snapshot : List Byte} {pin : Bool} (hstay : s.StaysUp i)
    (hop : s.store.op = some (.write i snapshot .single k))
    (ho : s.store.orders = [.single old false (some n)]) (hw : s.store.waiting = [.fetch n true])
    (htask : s.store.task = .fetch n pin) (hold : s.store.find old = some i)
    (hp : (s.store.line i).pinned = false) (hred : (s.store.line i).redirty = false) (hset : i / 2 = n % 4)
    (hor : (s.store.line (otherWay i)).pinned = true ∨ ((s.store.line i).recent = false ∧
      (s.store.line (otherWay i)).recent = true ∧ (s.store.line (otherWay i)).state ∈ [.clean, .dirty])) :
    ∃ t, exec .blockWriteReady s = .next t ∧ KeptBut [.store, .display] s t ∧ t.store.task = .fetch n pin ∧
      t.store.waiting = [] ∧ t.store.orders = [.fill n] ∧ t.store.op = some (.readFill n) ∧
      t.store.lines = s.store.lines.set i { CacheLine.filling n with recent := (s.store.line i).recent } := by
  have hlt : i < s.store.lines.length := line_lt_of_find hold
  have hway : i = 2 * (n % 4) ∨ i = 2 * (n % 4) + 1 := by omega
  have hready := writeReady_victim hop ho hw
  generalize hnv : s.store.nv.writeBlock (s.store.blockOf i) snapshot = nv at hready
  have hlines : (s.store.victimWritten i n nv).lines = s.store.lines.set i (s.store.line i).written := lines_modify hlt _
  have hline : (s.store.victimWritten i n nv).line i = (s.store.line i).written :=
    (modifyLine_line s.store i i CacheLine.written hlt).trans (if_pos rfl)
  have hothers : ∀ j, j ≠ i → (s.store.victimWritten i n nv).line j = s.store.line j := fun j hj => line_set_other hlines hj
  have hclean : (s.store.line i).written.state = .clean := by unfold CacheLine.written; rw [hred]; rfl
  have hvictim : (s.store.victimWritten i n nv).victim (n % 4) = some i := by
    refine victim_clean_or_free (by rw [hline]; exact hp) hway (fun k => by rw [hline, hclean] at k; cases k)
      (.inr ⟨by rw [hline]; exact hclean, ?_⟩)
    unfold Store.PassedOver
    rw [hothers _ (otherWay_ne i), hline]
    exact hor.elim .inl fun ⟨h1, h2, h3⟩ => .inr (.inr ⟨h3, h1, h2⟩)
  have hreach : (s.store.victimWritten i n nv).Reaches 2 ((s.store.victimWritten i n nv).fillBegun n i, none) :=
    reaches_fetch (by show s.store.task.passive = true; rw [htask]; rfl) rfl rfl rfl
      (by rw [hlines, List.length_set]; exact hlt) hvictim (by rw [hline, hclean]; decide)
  have hset2 : ((s.store.victimWritten i n nv).fillBegun n i).lines =
      s.store.lines.set i { CacheLine.filling n with recent := (s.store.line i).recent } := by
    show (s.store.victimWritten i n nv).lines.set i _ = _
    rw [hlines, List.set_set, hline]
    rfl
  have hwriting : s.store.writing = true := by unfold Store.writing; rw [hop]
  have hdone : s.writeDone = s.setStore ((s.store.victimWritten i n nv).fillBegun n i) := by
    unfold State.writeDone
    rw [if_pos hwriting, hready, settleStore_reaches (s := s.setStore (s.store.victimWritten i n nv)) hreach]
    refine holdupExit_stays fun hi => ?_
    refine (hstay hi).imp id fun h => ?_
    rcases h with h | ⟨j, -, hj, hd⟩
    · rw [hred] at h; cases h
    · refine dirtyReported_of_line (j := j) ?_
      show (((s.store.victimWritten i n nv).fillBegun n i).line j).state ∈ [.dirty, .writing]
      rw [line_set_other hset2 hj]
      exact hd
  exact ⟨_, exec_next (c := .blockWriteReady) rfl hdone, present_frame (setStore_kept s _), by rw [State.present_store]; exact htask,
    by rw [State.present_store]; rfl, by rw [State.present_store]; rfl, by rw [State.present_store]; rfl,
    by rw [State.present_store]; exact hset2⟩

/-- Settles O57: the victim's write, UNPIN that lets a fetch go on, and each request at a store at rest. -/
theorem fetchesAndPinsAreTaken : Obligations.FetchesAndPinsAreTaken := by
  refine ⟨fun s n i old k snapshot pin hstay _ hop ho hw htask _ hold _ _ hp hred hset hor =>
      victim_written_fetches hstay hop ho hw htask hold hp hred hset hor,
    fun s b n i ht _ ho hop hw htask _ h3 hb hi hset hs hpin => unpin_lets_fetch ht ho hop hw htask h3 hb hi hset hs hpin,
    fun s b ht hr hb hlen => ?_⟩
  intro n same pins otherPinned frame passed victim dirtyVictim noWay writesVictim waits begun
  have hfetch (hn : s.store.find n = none) : s.Tasks (.fetch b) (s.store.asked n (.fetch n false), none) :=
    taskFetch_absent hr hn ▸ tasks_fetch ht hb
  have hpinOther (hno : ¬otherPinned) : s.store.otherPinned n = false := eq_false_of_ne_true fun k => hno (otherPinned_iff.mp k)
  have hfetchPin (hno : ¬otherPinned) (hn : s.store.find n = none) :
      s.Tasks (.fetchAndPin b) (s.store.asked n (.fetch n true), none) :=
    taskFetchPin_absent hr hn (hpinOther hno) ▸ tasks_fetchAndPin ht hb
  refine ⟨fetch_present_answers ht hr hb, fun i ⟨hn, hp, hway, hfree, hor⟩ => ?_,
    fun i old ⟨hn, hp, hway, hs, hf, hold, htag, hpass⟩ => ?_, fun ⟨hn, hno⟩ => ?_,
    fun hother hpin => fetchAndPin_refused ht hr hb (otherPinned_iff.mpr hother) hpin,
    fun hp hor => fetchAndPin_present_answers ht hr hb hp (hor.imp id hpinOther),
    fun hother i ⟨hn, hp, hway, hfree, hor⟩ => ?_,
    fun hother i old ⟨hn, hp, hway, hs, hf, hold, htag, hpass⟩ => ?_, fun hother ⟨hn, hno⟩ => ?_,
    fun h2 => unpin_system ht hr h2, fun h3 => unpin_answers ht hr hb h3, verify_works ht hr hb⟩
  · exact (fetch_absent_runs hr hlen (hfetch hn)).1 i hp hway hfree hor
  · exact (fetch_absent_runs hr hlen (hfetch hn)).2.1 i old hp hway hs hf hold htag hpass
  · exact (fetch_absent_runs hr hlen (hfetch hn)).2.2 hno
  · exact (fetch_absent_runs hr hlen (hfetchPin hother hn)).1 i hp hway hfree hor
  · exact (fetch_absent_runs hr hlen (hfetchPin hother hn)).2.1 i old hp hway hs hf hold htag hpass
  · exact (fetch_absent_runs hr hlen (hfetchPin hother hn)).2.2 hno

end Sys2Proof.Machine
end

section
/-! SUPPORT. WRITEBACK and the removals of a block. Settles O58. -/
namespace Sys2Proof.Machine
set_option Elab.async false

/-! ### Runs of the store -/

theorem place_empty {st : Store} (ho : st.orders = []) (hw : st.waiting = []) (o : Order) :
    st.place o = { st with orders := [o] } := by
  simp [Store.place, Store.hasRoom, ho, hw, Config.orderListSize]

theorem atRest_fields {st : Store} (h : st.AtRest) :
    ({ st with orders := [], op := none, waiting := [], task := .none } : Store) = st := by
  obtain ⟨h1, h2, h3, h4⟩ := h
  cases st
  simp only at h1 h2 h3 h4
  subst h1 h2 h3 h4
  rfl

theorem atRest_task {st : Store} (h : st.AtRest) : ({ st with task := .none } : Store) = st := by
  obtain ⟨-, -, -, h4⟩ := h
  cases st
  simp only at h4
  subst h4
  rfl

/-- WRITEBACK's order and task at a store at rest. -/
def Store.writebackAsked (st : Store) (n : Nat) : Store := { st with orders := [.single n true none], task := .writeback n }

theorem taskWriteback_eq {st : Store} (h : st.AtRest) (n : Nat) : st.taskWriteback n = (st.writebackAsked n, none) := by
  unfold Store.taskWriteback Store.writeback
  rw [place_atRest h]
  rfl

theorem taskOne_listed {st : Store} {n : Nat} (ht : st.task = .writeback n ∨ st.task = .writebackInvalidate n true)
    (ho : st.orders = [.single n true none]) : st.taskOne = none := by
  have hlisted : st.workshopListed = true := by
    unfold Store.workshopListed
    rw [ho]
    rfl
  unfold Store.taskOne
  rcases ht with ht | ht <;> rw [ht] <;> dsimp only <;> rw [hlisted] <;> rfl

theorem taskOne_writeback_ended {st : Store} {n : Nat} (ht : st.task = .writeback n) (ho : st.orders = []) (hw : st.waiting = [])
    (hd : st.isDirty n = false) : st.taskOne = some ({ st with task := .none }, some .done) := by
  have hlisted : (st.workshopListed || st.workshopWaits) = false := by
    unfold Store.workshopListed Store.workshopWaits
    rw [ho, hw]
    rfl
  unfold Store.taskOne
  rw [ht]
  dsimp only
  rw [if_neg (by rw [hlisted]; decide), hd]
  rfl

theorem isDirty_of {st : Store} {n : Nat} (h : ∀ i, st.find n = some i → (st.line i).state ≠ .dirty) : st.isDirty n = false := by
  unfold Store.isDirty
  cases hi : st.find n with
  | none => rfl
  | some i => simp [h i hi]

theorem isDirty_true {st : Store} {n i : Nat} (hi : st.find n = some i) (hd : (st.line i).state = .dirty) : st.isDirty n = true := by
  unfold Store.isDirty
  rw [hi]
  simp [hd]

theorem inTransfer_of {st : Store} {n : Nat} (h : ∀ i, st.find n = some i → (st.line i).state ≠ .filling ∧ (st.line i).state ≠ .writing) :
    st.inTransfer n = false := by
  unfold Store.inTransfer
  cases hi : st.find n with
  | none => rfl
  | some i => simp [h i hi]

/-- WRITEBACK of a block that is not DIRTY. -/
theorem writeback_nothing {st : Store} (h : st.AtRest) {n : Nat}
    (hn : ∀ i, st.find n = some i → (st.line i).state ≠ .dirty) : (st.writebackAsked n).Reaches 2 (st, some .done) := by
  obtain ⟨-, hop, hw, -⟩ := id h
  have hengine : (st.writebackAsked n).engineOne = some { st.writebackAsked n with orders := [] } :=
    engineOne_single_ends rfl hop (singleWrites_clean hn)
  have htask : ({ st.writebackAsked n with orders := [] } : Store).taskOne = some (st, some .done) := by
    rw [taskOne_writeback_ended (st := { st.writebackAsked n with orders := [] }) rfl rfl hw (isDirty_of hn)]
    refine congrArg (fun x => some (x, some Status.done)) ?_
    refine Eq.trans ?_ (atRest_fields h)
    show ({ st with orders := [], task := .none } : Store) = _
    rw [hop, hw]
  refine reaches_engine (taskOne_listed (.inl rfl) rfl) (admitOne_empty hw) hengine ?_
  exact reaches_end htask (reaches_settled (settled_atRest h))

/-- A WRITING line's write, by a SINGLE order of the workshop's. -/
def Store.workshopWrites (st : Store) (n i : Nat) (task : Task) : Store :=
  { st with
    lines := st.lines.modify i fun l => { l with state := .writing, redirty := false }
    orders := [.single n true none], op := some (.write i (st.line i).data .single 4), task := task }

/-- The workshop's order and its task, at a store at rest otherwise. -/
def Store.ordered (st : Store) (n : Nat) (task : Task) : Store := { st with orders := [.single n true none], task := task }

/-- A block written by the workshop's order: the write begins. -/
theorem ordered_writes {st : Store} (h : st.AtRest) (hg : st.pwrGood = true) (hf : st.nvFault = false) {n i : Nat}
    (hi : st.find n = some i) (hd : (st.line i).state = .dirty) {task : Task}
    (ht : task = .writeback n ∨ task = .writebackInvalidate n true) :
    (st.ordered n task).Reaches 1 (st.workshopWrites n i task, none) := by
  obtain ⟨-, hop, hw, -⟩ := h
  exact reaches_write (st := st.ordered n task) (taskOne_listed ht rfl) (taskOne_listed ht rfl) rfl hop (admitOne_empty hw)
    (admitOne_empty hw) hg hf hi hd

theorem taskOne_removes {st : Store} {n : Nat} (ht : st.task = .writebackInvalidate n false) (hi : st.inTransfer n = false)
    (hd : st.isDirty n = false) : st.taskOne = some ({ st.invalidateBlock n with task := .none }, some .done) := by
  unfold Store.taskOne
  rw [ht]
  dsimp only
  rw [if_neg (by rw [hi]; decide), if_neg (by rw [hd]; decide)]

theorem taskOne_writes {st : Store} {n : Nat} (ht : st.task = .writebackInvalidate n false) (hi : st.inTransfer n = false)
    (hd : st.isDirty n = true) :
    st.taskOne = some ({ st.writeback n true with task := .writebackInvalidate n true }, none) := by
  unfold Store.taskOne
  rw [ht]
  dsimp only
  rw [if_neg (by rw [hi]; decide), if_pos hd]

theorem taskOne_invalidates {st : Store} {n : Nat} (ht : st.task = .invalidate n) (hi : st.inTransfer n = false)
    (hl : st.latch = false ∨ n ≤ 6) : st.taskOne = some ({ st.invalidateBlock n with task := .none }, some .done) := by
  unfold Store.taskOne
  rw [ht]
  dsimp only
  rw [if_neg (by rw [hi]; decide), if_neg (by rcases hl with k | k; { rw [k]; simp }; { simp; omega })]

/-- A removal's task, before its line is looked at. -/
def Store.removing (st : Store) (task : Task) : Store := { st with task := task }

/-- A removed line. -/
def Store.removed (st : Store) (i : Nat) : Store := st.modifyLine i fun l => { CacheLine.invalid with recent := l.recent }

theorem invalidateBlock_removing {st : Store} (h : st.AtRest) {n i : Nat} (hi : st.find n = some i) (task : Task) :
    ({ (st.removing task).invalidateBlock n with task := .none } : Store) = st.removed i := by
  have hblock : (st.removing task).invalidateBlock n =
      (st.removing task).modifyLine i fun l => { CacheLine.invalid with recent := l.recent } := by
    unfold Store.invalidateBlock
    rw [show (st.removing task).find n = some i from hi]
  rw [hblock]
  exact atRest_task (atRest_modifyLine h i _)

theorem reaches_removed {st : Store} (h : st.AtRest) {i : Nat} {task : Task}
    (ht : (st.removing task).taskOne = some (st.removed i, some .done)) : (st.removing task).Reaches 1 (st.removed i, some .done) :=
  reaches_end ht (reaches_settled (settled_atRest (atRest_modifyLine h i _)))

/-- The removal of a CLEAN line by WRITEBACK INVALIDATE. -/
theorem removing_clean {st : Store} (h : st.AtRest) {n i : Nat} (hi : st.find n = some i) (hc : (st.line i).state = .clean) :
    (st.removing (.writebackInvalidate n false)).Reaches 1 (st.removed i, some .done) := by
  have hline : ∀ j, st.find n = some j → (st.line j).state ≠ .filling ∧ (st.line j).state ≠ .writing ∧ (st.line j).state ≠ .dirty :=
    fun j hj => by
      rw [hi] at hj
      cases hj
      rw [hc]
      decide
  have htransfer : (st.removing (.writebackInvalidate n false)).inTransfer n = false :=
    inTransfer_of (st := st.removing _) fun j hj => ⟨(hline j hj).1, (hline j hj).2.1⟩
  have hdirty : (st.removing (.writebackInvalidate n false)).isDirty n = false :=
    isDirty_of (st := st.removing _) fun j hj => (hline j hj).2.2
  refine reaches_removed h ?_
  rw [taskOne_removes rfl htransfer hdirty, invalidateBlock_removing h hi]

/-- The removal of a DIRTY line by WRITEBACK INVALIDATE: it is written first. -/
theorem removing_dirty {st : Store} (h : st.AtRest) (hg : st.pwrGood = true) (hf : st.nvFault = false) {n i : Nat}
    (hi : st.find n = some i) (hd : (st.line i).state = .dirty) :
    (st.removing (.writebackInvalidate n false)).Reaches 2
      (st.workshopWrites n i (.writebackInvalidate n true), none) := by
  have hline : ∀ j, st.find n = some j → (st.line j).state ≠ .filling ∧ (st.line j).state ≠ .writing := fun j hj => by
    rw [hi] at hj
    cases hj
    rw [hd]
    decide
  have htransfer : (st.removing (.writebackInvalidate n false)).inTransfer n = false := inTransfer_of (st := st.removing _) hline
  have hplaced : (st.removing (.writebackInvalidate n false)).writeback n true =
      { st.removing (.writebackInvalidate n false) with orders := [.single n true none] } :=
    place_empty (st := st.removing (.writebackInvalidate n false)) h.1 h.2.2.1 _
  refine reaches_task (st' := st.ordered n (.writebackInvalidate n true)) ?_ (ordered_writes h hg hf hi hd (.inr rfl))
  rw [taskOne_writes rfl htransfer (isDirty_true (st := st.removing _) hi hd), hplaced]
  rfl

/-- INVALIDATE of a block that may be removed, and whose line no transfer holds. -/
theorem removing_invalidate {st : Store} {n : Nat} (hl : st.latch = false ∨ n ≤ 6) {u : Store}
    (hn : ∀ i, st.find n = some i → (st.line i).state ≠ .filling ∧ (st.line i).state ≠ .writing)
    (hu : ({ (st.removing (.invalidate n)).invalidateBlock n with task := .none } : Store) = u) (hur : u.AtRest) :
    (st.removing (.invalidate n)).Reaches 1 (u, some .done) := by
  have htransfer : (st.removing (.invalidate n)).inTransfer n = false := inTransfer_of (st := st.removing _) hn
  refine reaches_end ?_ (reaches_settled (settled_atRest hur))
  rw [taskOne_invalidates rfl htransfer hl, hu]

/-! ### The commands -/

theorem tasks_writeback {s : State} {b : Byte} (h : s.TakesRequest) (hb : b.toNat < 64) :
    s.Tasks (.writeback b) (s.store.taskWriteback b.toNat) :=
  exec_recordOperation (c := .writeback b) (op := 3) rfl h (by decide) hb

theorem tasks_writebackInvalidate {s : State} {b : Byte} (h : s.TakesRequest) (hb : b.toNat < 64) :
    s.Tasks (.writebackInvalidate b) (s.store.taskWritebackInvalidate b.toNat) :=
  exec_recordOperation (c := .writebackInvalidate b) (op := 4) rfl h (by decide) hb

theorem tasks_invalidate {s : State} {b : Byte} (h : s.TakesRequest) (hb : b.toNat < 64) :
    s.Tasks (.invalidate b) (s.store.taskInvalidate b.toNat) :=
  exec_recordOperation (c := .invalidate b) (op := 5) rfl h (by decide) hb

theorem tasks_index {s : State} {x y : Byte} (h : s.TakesRequest) (hx : x.toNat < 4) (hy : y.toNat < 2) :
    s.Tasks (.indexWritebackInvalidate x y) (s.store.taskIndex x.toNat y.toNat) := by
  unfold State.Tasks
  rw [exec_carriesOut (c := .indexWritebackInvalidate x y) rfl h, carryOut_record]
  exact congrArg (fun z => Host.Outcome.next (State.present s z)) (if_pos ⟨by decide, hx, hy⟩)

/-- A task that ends with nothing done. -/
theorem State.Tasks.endsSame {s : State} {c : Instr} {st : Store} {k : Nat} {x : Status} (h : s.Tasks c (st, none))
    (hr : st.Reaches k (s.store, some x)) (ho : s.line.Open 0x70) (hk : k ≤ 64 := by omega) :
    ∃ t, exec c s = .next t ∧ KeptBut [.line, .handler, .display] s t ∧ Replies 0x62 x [] s t := by
  refine ⟨_, h, refuses_of ho ?_⟩
  exact takeTask_reaches_end hr hk

theorem taskIndex_of {st : Store} {n i x y : Nat} (hi : st.find n = some i) (hxy : i = 2 * x + y)
    (hs : (st.line i).state ≠ .invalid) : st.taskIndex x y = st.taskWritebackInvalidate n := by
  have htag : (st.line i).tag = some n := (line_of_find hi).1
  unfold Store.taskIndex
  rw [← hxy]
  dsimp only
  split
  · next k => exact absurd k hs
  · next k _ => rw [htag] at k; cases k; rfl
  · next k _ => rw [htag] at k; cases k

theorem taskWritebackInvalidate_system {st : Store} {n : Nat} (h : n ≤ 2) : st.taskWritebackInvalidate n = (st, some .pinned) :=
  if_pos (by simpa [systemBlock] using h)

theorem taskWritebackInvalidate_absent {st : Store} {n : Nat} (h3 : 3 ≤ n) (h : st.find n = none) :
    st.taskWritebackInvalidate n = (st, some .done) := by
  unfold Store.taskWritebackInvalidate
  rw [if_neg (by simp [systemBlock]; omega), h]
  rfl

theorem taskWritebackInvalidate_found {st : Store} {n i : Nat} (h3 : 3 ≤ n) (h : st.find n = some i) :
    st.taskWritebackInvalidate n = (st.removing (.writebackInvalidate n false), none) := by
  unfold Store.taskWritebackInvalidate
  rw [if_neg (by simp [systemBlock]; omega), h]
  rfl

theorem taskInvalidate_protected {st : Store} {n : Nat} (hl : st.latch = true) (h : 7 ≤ n) :
    st.taskInvalidate n = (st, some .isProtected) := if_pos (by rw [hl]; simpa using h)

theorem taskInvalidate_pinned {st : Store} {n : Nat} (hl : st.latch = false ∨ n ≤ 6)
    (h : n ≤ 2 ∨ st.isPinned n = true) : st.taskInvalidate n = (st, some .pinned) := by
  unfold Store.taskInvalidate
  rw [if_neg (by rcases hl with k | k; { rw [k]; simp }; { simp; omega }), if_pos ?_]
  rcases h with k | k
  · simp [systemBlock, k]
  · rw [k]; exact Bool.or_true _

theorem taskInvalidate_taken {st : Store} {n : Nat} (hl : st.latch = false ∨ n ≤ 6) (h3 : 3 ≤ n) (hp : st.isPinned n = false) :
    st.taskInvalidate n = (st.removing (.invalidate n), none) := by
  unfold Store.taskInvalidate
  rw [if_neg (by rcases hl with k | k; { rw [k]; simp }; { simp; omega }),
    if_neg (by rw [hp]; simp [systemBlock]; omega)]
  rfl

theorem isPinned_absent {st : Store} {n : Nat} (h : st.find n = none) : st.isPinned n = false := by
  unfold Store.isPinned
  rw [h]

theorem invalidateBlock_absent {st : Store} (h : st.AtRest) {n : Nat} (hn : st.find n = none) (task : Task) :
    ({ (st.removing task).invalidateBlock n with task := .none } : Store) = st := by
  have hblock : (st.removing task).invalidateBlock n = st.removing task := by
    unfold Store.invalidateBlock
    rw [show (st.removing task).find n = none from hn]
  rw [hblock]
  exact atRest_task h

/-- Settles O58: the four commands' tasks, each followed to the point where the store settles. -/
theorem writebacksAndRemovalsAreTaken : Obligations.WritebacksAndRemovalsAreTaken := by
  intro s b ht hr _ hg hf hb n frame refused writes removes
  have ho := ht.2.2
  have hback : s.Tasks (.writeback b) (s.store.writebackAsked n, none) := taskWriteback_eq hr n ▸ tasks_writeback ht hb
  have hremoval := tasks_writebackInvalidate ht hb
  have hinvalidate := tasks_invalidate ht hb
  have hsettled := settled_atRest hr
  have hnothing : (∀ i, s.store.find n = some i → (s.store.line i).state ≠ .dirty) → refused (.writeback b) .done :=
    fun h => hback.endsSame (writeback_nothing hr h) ho
  have hclean {c : Instr} {i : Nat} (hc : s.Tasks c (s.store.removing (.writebackInvalidate n false), none))
      (hi : s.store.find n = some i) (hs : (s.store.line i).state = .clean) : removes c i :=
    hc.ends (removing_clean hr hi hs) ho
  have hdirty {c : Instr} {i : Nat} (hc : s.Tasks c (s.store.removing (.writebackInvalidate n false), none))
      (hi : s.store.find n = some i) (hs : (s.store.line i).state = .dirty) : writes c i (.writebackInvalidate n true) :=
    hc.works (removing_dirty hr hg hf hi hs)
  refine ⟨fun hn => ⟨hnothing fun i hi => (by rw [hn] at hi; cases hi), fun h3 => ?_, fun h3 hl => ?_⟩, fun h2 => ⟨?_, ?_⟩,
    fun h7 hl => ?_, fun i hi => ⟨fun h2 x y hxy hx hy hs => ?_, fun hs => hnothing fun j hj => ?_, fun hs => ?_, fun h3 => ?_⟩⟩
  · exact State.Tasks.refused (taskWritebackInvalidate_absent h3 hn ▸ hremoval) hsettled ho
  · have htask : s.Tasks (.invalidate b) (s.store.removing (.invalidate n), none) :=
      taskInvalidate_taken hl.symm h3 (isPinned_absent hn) ▸ hinvalidate
    exact htask.endsSame (removing_invalidate hl.symm (fun i hi => by rw [hn] at hi; cases hi)
      (invalidateBlock_absent hr hn _) hr) ho
  · exact State.Tasks.refused (taskWritebackInvalidate_system h2 ▸ hremoval) hsettled ho
  · exact State.Tasks.refused (taskInvalidate_pinned (.inr (by omega)) (.inl h2) ▸ hinvalidate) hsettled ho
  · exact State.Tasks.refused (taskInvalidate_protected hl h7 ▸ hinvalidate) hsettled ho
  · have hindex := tasks_index ht hx hy
    rw [taskIndex_of hi hxy hs, taskWritebackInvalidate_system h2] at hindex
    exact hindex.refused hsettled ho
  · rw [hi] at hj
    cases hj
    rw [hs]
    decide
  · exact hback.works (ordered_writes hr hg hf hi hs (.inl rfl))
  · have hfound : s.Tasks (.writebackInvalidate b) (s.store.removing (.writebackInvalidate n false), none) :=
      taskWritebackInvalidate_found h3 hi ▸ hremoval
    have hindexed {x y : Byte} (hxy : i = 2 * x.toNat + y.toNat) (hx : x.toNat < 4) (hy : y.toNat < 2)
        (hs : (s.store.line i).state ≠ .invalid) :
        s.Tasks (.indexWritebackInvalidate x y) (s.store.removing (.writebackInvalidate n false), none) := by
      have hindex := tasks_index ht hx hy
      rwa [taskIndex_of hi hxy hs, taskWritebackInvalidate_found h3 hi] at hindex
    refine ⟨hclean hfound hi, hdirty hfound hi, fun x y hxy hx hy =>
      ⟨fun hs => hclean (hindexed hxy hx hy (by rw [hs]; decide)) hi hs,
        fun hs => hdirty (hindexed hxy hx hy (by rw [hs]; decide)) hi hs⟩, fun hl => ⟨fun hp => ?_, fun hp hs => ?_⟩⟩
    · exact State.Tasks.refused (taskInvalidate_pinned hl.symm (.inr (by rw [isPinned_of_find hi, hp])) ▸ hinvalidate) hsettled ho
    · have htask : s.Tasks (.invalidate b) (s.store.removing (.invalidate n), none) :=
        taskInvalidate_taken hl.symm h3 (by rw [isPinned_of_find hi, hp]) ▸ hinvalidate
      refine htask.ends (removing_invalidate hl.symm (fun j hj => ?_) (invalidateBlock_removing hr hi _)
        (atRest_modifyLine hr i _)) ho
      rw [hi] at hj
      cases hj
      simp only [List.mem_cons, List.not_mem_nil, or_false] at hs
      rcases hs with hs | hs <;> rw [hs] <;> decide

end Sys2Proof.Machine
end

section
/-! SUPPORT. SET ODOMETER, CLOSE, INDEX on an INVALID line, READ STATUS and GAUGE TEST. Settles O59. -/
namespace Sys2Proof.Machine
set_option Elab.async false

/-! ### READ STATUS -/

theorem readStatus_answers {s : State} {x y : Byte} (h : s.TakesRequest) (hp : (Instr.readStatus x y).Permitted) :
    ∃ t bytes, exec (.readStatus x y) s = .next t ∧ KeptBut [.line, .handler, .display] s t ∧ Replies 0x67 .done bytes s t ∧
      bytes.length ≤ 6 ∧ s.StatusBytes x.toNat y.toNat bytes := by
  obtain ⟨r, hr, hbytes⟩ := statusResult_some s hp
  have hrun : (s.atWork 0x67).requestStatus x.toNat y.toNat = (s.atWork 0x67).returnStatus .done r := by
    unfold State.requestStatus
    rw [show (s.atWork 0x67).statusResult x.toNat y.toNat = some r from hr]
  refine ⟨_, r, (exec_carriesOut (c := .readStatus x y) rfl h).trans ?_,
    (refuses_of h.2.2 hrun).1, (refuses_of h.2.2 hrun).2, statusResult_length hr, hbytes⟩
  rfl

/-! ### CLOSE and GAUGE TEST -/

theorem close_answers {s : State} (h : s.TakesRequest) :
    ∃ t, exec .close s = .next t ∧ KeptBut [.store, .line, .handler, .display] s t ∧ Replies 0x64 .done [] s t ∧
      t.store = { s.store with latch := true } :=
  ⟨_, exec_carriesOut (c := .close) rfl h, replies_of (u := { s.store with latch := true }) h.2.2 rfl⟩

theorem gaugeTest_refused {s : State} (h : s.TakesRequest) (hn : ¬(s.ign = .run ∧ s.counting.speed < 20)) :
    ∃ t, exec .gaugeTest s = .next t ∧ KeptBut [.line, .handler, .display] s t ∧ Replies 0x68 .state [] s t := by
  refine ⟨_, exec_carriesOut (c := .gaugeTest) rfl h, refuses_of h.2.2 ?_⟩
  rw [carryOut_test]
  refine if_neg (c := ((s.atWork 0x68).ign = .run && (s.atWork 0x68).stopped) = true) fun k => hn ?_
  rw [Bool.and_eq_true] at k
  exact ⟨of_decide_eq_true k.1, of_decide_eq_true k.2⟩

theorem gaugeTest_works {s : State} (h : s.TakesRequest) (hr : s.ign = .run) (hv : s.counting.speed < 20) :
    ∃ t, exec .gaugeTest s = .next t ∧ KeptBut [.gauges, .handler, .display] s t ∧ Works 0x68 s t ∧
      t.gauges = s.gauges.test := by
  have hrun : (s.atWork 0x68).carryOut 0x68 [] = (s.atWork 0x68).setGauges s.gauges.test := by
    rw [carryOut_test]
    refine if_pos ?_
    have hstopped : (s.atWork 0x68).stopped = true := decide_eq_true hv
    simp [hstopped, show (s.atWork 0x68).ign = .run from hr]
  have hk : KeptBut [.gauges, .handler] s ((s.atWork 0x68).setGauges s.gauges.test) :=
    (setHandler_kept s _).andThen (setGauges_kept _ _)
  have he := exec_carriesOut (c := .gaugeTest) rfl h
  rw [hrun] at he
  refine ⟨_, he, present_frame hk, ⟨?_, ?_⟩, ?_⟩
  · rw [State.present_handler]; rfl
  · rw [State.present_line]; rfl
  · rw [State.present_gauges]; rfl

/-! ### SET ODOMETER -/

theorem exec_setOdometer {s : State} {v : BitVec 24} (h : s.TakesRequest) (hv : v.toNat ≤ 9999999) :
    exec (.setOdometer v) s = .next (State.present s ((s.atWork 0x63).takeTask (s.store.taskSetOdometer v.toNat))) := by
  rw [exec_carriesOut (c := .setOdometer v) rfl h, carryOut_odometer]
  have hbytes : tripleAt (bytes3 v.toNat) 0 = v.toNat := tripleAt_bytes3 (by omega)
  unfold State.takeOdometer
  rw [hbytes]
  exact congrArg (fun x => Host.Outcome.next (State.present s x)) (if_pos ⟨rfl, hv⟩)

theorem setOdometer_refused {s : State} {v : BitVec 24} {x : Status} (h : s.TakesRequest) (hr : s.store.AtRest)
    (hv : v.toNat ≤ 9999999) (hx : s.store.taskSetOdometer v.toNat = (s.store, some x)) :
    ∃ t, exec (.setOdometer v) s = .next t ∧ KeptBut [.line, .handler, .display] s t ∧ Replies 0x63 x [] s t := by
  refine ⟨_, exec_setOdometer h hv, refuses_of h.2.2 ?_⟩
  rw [hx]
  exact takeTask_refused (s := s.atWork 0x63) (settled_atRest hr)

theorem tripleAt_append (n : Nat) (bs : List Byte) : tripleAt (bytes3 n ++ bs) 0 = tripleAt (bytes3 n) 0 := rfl

theorem putOdometerState_reads {bs : List Byte} {v : Nat} (hv : v < 16777216) :
    tripleAt (putOdometerState v 0 bs) 0 = v ∧ byteAt (putOdometerState v 0 bs) 3 = 0 :=
  ⟨(tripleAt_append v _).trans (tripleAt_bytes3 hv), rfl⟩

/-- The store with a write-back order of the workshop's that is to be placed. -/
def Store.orderAsked (st : Store) (n : Nat) : Store := { st with orders := [.single n true none], task := .placing }

/-- The same store when the order is placed and the request is done. -/
def Store.orderPlaced (st : Store) (n : Nat) : Store := { st with orders := [.single n false none] }

/-- The order is placed, and the block's write begins at once. -/
theorem orderAsked_reaches {st : Store} (h : st.AtRest) (hg : st.pwrGood = true) (hf : st.nvFault = false) {n i : Nat}
    (hi : st.find n = some i) (hd : (st.line i).state = .dirty) :
    (st.orderAsked n).Reaches 2 ((st.orderPlaced n).startWrite i .single, some .done) := by
  obtain ⟨-, hop, hw, htask⟩ := id h
  have hone : (st.orderAsked n).taskOne = some (st.orderPlaced n, some .done) := by
    have hwaits : (st.orderAsked n).workshopWaits = false := by
      unfold Store.workshopWaits
      rw [show (st.orderAsked n).waiting = [] from hw]
      rfl
    unfold Store.taskOne
    rw [show (st.orderAsked n).task = .placing from rfl]
    dsimp only
    rw [if_neg (by rw [hwaits]; decide)]
    refine congrArg (fun x => some (x, some Status.done)) ?_
    show ({ st with orders := [.single n false none], task := .none } : Store) = { st with orders := [.single n false none] }
    rw [htask]
  have hpassive : st.task.passive = true := by rw [htask]; rfl
  exact reaches_end hone (reaches_write (st := st.orderPlaced n) (taskOne_passive hpassive) (taskOne_passive hpassive) rfl hop
    (admitOne_empty hw) (admitOne_empty hw) hg hf hi hd)

theorem taskSetOdometer_taken {st : Store} {v : Nat} (h : st.AtRest) (hl : st.latch = false) (hv : st.odometerValue ≤ v) :
    st.taskSetOdometer v = ((st.update 0 (putOdometerState v 0)).orderAsked 0, none) := by
  unfold Store.taskSetOdometer Store.writeback
  rw [if_neg (by rw [hl]; decide), if_neg (by omega), place_atRest (atRest_update h 0 _)]
  rfl

theorem setOdometer_sets {s : State} {v : BitVec 24} (h : s.TakesRequest) (hr : s.store.AtRest) (hv : v.toNat ≤ 9999999)
    (hl : s.store.latch = false) (hge : s.store.odometerValue ≤ v.toNat) (hold : s.store.Holds 0) (hw : s.store.NoneWriting)
    (hg : s.store.pwrGood = true) (hf : s.store.nvFault = false) : ∃ t, exec (.setOdometer v) s = .next t ∧
      KeptBut [.store, .line, .handler, .display] s t ∧ Replies 0x63 .done [] s t ∧
      t.store.odometer = some (v.toNat, true) ∧ t.store.orders = [.single 0 false none] ∧
      ∀ b, b ≠ 0 → t.store.dataOf b = s.store.dataOf b := by
  obtain ⟨i, hi⟩ := present_of_presentLine hold.1
  have hrest := atRest_update hr 0 (putOdometerState v.toNat 0)
  have hline : (s.store.update 0 (putOdometerState v.toNat 0)).presentLine 0 = some i := (presentLine_update _ _ _ _).trans hi
  have hdirty := update_dirty (noneWriting_line hw) (putOdometerState v.toNat 0) hi
  obtain ⟨-, hgood, hfault⟩ := update_fields s.store 0 (putOdometerState v.toNat 0)
  have hreach := orderAsked_reaches hrest (hgood.trans hg) (hfault.trans hf)
    (presentLine_eq_some.mp hline).1 hdirty
  have hread (c : Nat) := startWrite_reads (st := (s.store.update 0 (putOdometerState v.toNat 0)).orderPlaced 0) hline .single c
  obtain ⟨hk, hreply, hstore⟩ := replies_of (topic := 0x63) h.2.2 (takeTask_reaches_end hreach)
  refine ⟨_, (exec_setOdometer h hv).trans (by rw [taskSetOdometer_taken hr hl hge]), hk, hreply, ?_, ?_, fun b hb => ?_⟩
  · rw [hstore]
    have hdata : (s.store.update 0 (putOdometerState v.toNat 0)).dataOf 0 = putOdometerState v.toNat 0 (s.store.dataOf 0) :=
      dataOf_update_same _ hold.1
    unfold Store.odometer
    rw [(hread 0).2, show ((s.store.update 0 (putOdometerState v.toNat 0)).orderPlaced 0).dataOf 0 = _ from hdata]
    obtain ⟨hval, hst⟩ := putOdometerState_reads (bs := s.store.dataOf 0) (v := v.toNat) (by omega)
    rw [hval, hst, if_pos (by unfold Store.present; rw [(hread 0).1]; exact (congrArg Option.isSome hline).trans rfl)]
    rfl
  · rw [hstore]; rfl
  · rw [hstore, (hread b).2]
    exact dataOf_update_ne _ hb

/-- Settles O59: each command through the handler's run, READ STATUS with the bytes of Table 12-5. -/
theorem odometerLatchAndStatusRequests : Obligations.OdometerLatchAndStatusRequests := by
  refine ⟨fun s x y h hp => readStatus_answers h hp, fun s h hr => ?_⟩
  intro only
  refine ⟨fun v hv => ⟨fun hl => ?_, fun hl hlt => ?_, fun hl hge hold hw hg hf => setOdometer_sets h hr hv hl hge hold hw hg hf⟩,
    close_answers h, fun x y hx hy hs => ?_, fun hrun hv => ?_, gaugeTest_refused h⟩
  · exact setOdometer_refused h hr hv (if_pos hl)
  · exact setOdometer_refused h hr hv ((if_neg (by rw [hl]; decide)).trans (if_pos hlt))
  · have hindex := tasks_index h hx hy
    have hdone : s.store.taskIndex x.toNat y.toNat = (s.store, some .done) := by
      unfold Store.taskIndex
      dsimp only
      rw [hs]
    rw [hdone] at hindex
    exact hindex.refused (settled_atRest hr) h.2.2
  · obtain ⟨t, he, hk, hworks, hgauges⟩ := gaugeTest_works h hrun hv
    refine ⟨t, he, hk, hworks, ?_, fun hs => ?_, fun hs => ?_⟩
    · rw [hgauges]
      unfold Gauges.test
      split <;> rfl
    · rw [hgauges]
      exact if_pos hs
    · rw [hgauges, show s.gauges.test = s.gauges.startSweep true from if_neg (by rw [hs]; decide)]
      exact ⟨rfl, rfl, rfl⟩

end Sys2Proof.Machine
end

section
/-! SUPPORT. The states of the service items as the service unit forms them, and the warnings that it raises. -/
namespace Sys2Proof.Machine
set_option Elab.async false

/-! ### Edge requests, warning by warning -/

/-- What edge requests make of a warning: `given` says that one was given to it, and that it is enabled. -/
structure Warning.Raised (given : Prop) (x y : Warning) : Prop where
  rises : x.state ∈ [.off, .silenced] → given → y.state ∈ [.pending, .shown, .held] ∧
    y = { x with state := y.state, shownTimer := 0, completed := false, reminder := 0 }
  stays : x.state ∈ [.off, .silenced] → ¬given → y = x
  goesOn : x.state ∉ [.off, .silenced] → y.state ∈ [.pending, .shown, .held] ∧
    (y = { x with state := y.state } ∨ y = { x with state := y.state, shownTimer := 0, completed := false, reminder := 0 })

theorem mem_requested (x : WarningState) : x ∈ [WarningState.pending, .shown, .held] ↔ x ∉ [WarningState.off, .silenced] := by
  cases x <;> decide

theorem Warning.Raised.refl {given : Prop} (hg : ¬given) (x : Warning) : x.Raised given x where
  rises _ h := absurd h hg
  stays _ _ := rfl
  goesOn h := ⟨(mem_requested _).mpr h, .inl rfl⟩

theorem Warning.Raised.congr {g g' : Prop} {x y : Warning} (h : g ↔ g') (k : x.Raised g y) : x.Raised g' y := propext h ▸ k

theorem Warning.Raised.trans {g g' : Prop} {x y z : Warning} (h : x.Raised g y) (k : y.Raised g' z) : x.Raised (g ∨ g') z := by
  obtain ⟨hrise, hstay, hon⟩ := h
  obtain ⟨krise, kstay, kon⟩ := k
  refine ⟨fun hx hg => ?_, fun hx hg => ?_, fun hx => ?_⟩
  · by_cases h1 : g
    · obtain ⟨hy, hyx⟩ := hrise hx h1
      obtain ⟨hz, hzy⟩ := kon ((mem_requested _).mp hy)
      refine ⟨hz, ?_⟩
      rcases hzy with k | k <;> rw [k, hyx]
    · have hyx := hstay hx h1
      subst hyx
      exact krise hx (hg.resolve_left h1)
  · have hyx := hstay hx fun k => hg (.inl k)
    subst hyx
    exact kstay hx fun k => hg (.inr k)
  · obtain ⟨hy, hyx⟩ := hon hx
    obtain ⟨hz, hzy⟩ := kon ((mem_requested _).mp hy)
    refine ⟨hz, ?_⟩
    rcases hyx with h | h <;> rcases hzy with k | k <;> rw [k, h]
    · exact .inl rfl
    all_goals exact .inr rfl

theorem Warning.Selected.raised {x y : Warning} (h : x.Selected y) : x.Raised False y := by
  refine ⟨fun _ => False.elim, fun hx _ => h.same ?_, fun hx => ?_⟩
  · rcases List.mem_pair.mp hx with k | k <;> rw [k] <;> decide
  · rcases h with rfl | ⟨-, rfl⟩ | ⟨-, rfl⟩
    · exact ⟨(mem_requested _).mpr hx, .inl rfl⟩
    · exact ⟨by simp, .inl rfl⟩
    · exact ⟨by simp, .inr rfl⟩

theorem takeEdge_raised (e : Bool) (x : Warning) : x.Raised (e = true) (x.takeEdge e) := by
  refine ⟨fun hx he => ?_, fun hx he => takeEdge_same (.inl (eq_false_of_ne_true he)), fun hx => ?_⟩
  · rw [takeEdge_eq_goTo he hx]
    exact ⟨by simp [Warning.goTo], rfl⟩
  · have hx' := (mem_requested _).mpr hx
    rw [takeEdge_same (.inr hx')]
    exact ⟨hx', .inl rfl⟩

/-- Every warning stands as edge requests for the warnings of `asked` leave it. -/
def State.RaisedBy (s : State) (asked : Nat → Prop) (before : Nat → Warning) (t : State) : Prop :=
  ∀ w < 32, (before w).Raised ((s.warningFigures w).enabled = true ∧ asked w) (t.warning w)

theorem State.RaisedBy.raises {s t : State} {asked : Nat → Prop} {before : Nat → Warning} (h : s.RaisedBy asked before t) :
    s.Raises asked before t := fun w hw => by
  obtain ⟨hrise, hstay, hon⟩ := h w hw
  exact ⟨hrise, hstay, fun hx => (hon hx).1⟩

theorem State.RaisedBy.congr {s t : State} {asked asked' : Nat → Prop} {before : Nat → Warning} (h : ∀ w < 32, asked w ↔ asked' w)
    (k : s.RaisedBy asked before t) : s.RaisedBy asked' before t := fun w hw => (k w hw).congr (and_congr_right fun _ => h w hw)

theorem State.RaisedBy.of_warnings {s t t' : State} {asked : Nat → Prop} {before : Nat → Warning}
    (h : t'.arbiter.warnings = t.arbiter.warnings) (k : s.RaisedBy asked before t) : s.RaisedBy asked before t' :=
  fun w hw => by rw [warning_of_warnings h]; exact k w hw

theorem State.RaisedBy.none (s t : State) {asked : Nat → Prop} (h : ∀ w < 32, ¬asked w) : s.RaisedBy asked t.warning t :=
  fun w hw => .refl (fun k => h w hw k.2) _

theorem State.RaisedBy.trans {s s' t t' : State} {asked asked' : Nat → Prop} {before : Nat → Warning} (hc : s'.cal = s.cal)
    (h : s.RaisedBy asked before t) (k : s'.RaisedBy asked' t.warning t') :
    s.RaisedBy (fun w => asked w ∨ asked' w) before t' := fun w hw =>
  ((h w hw).trans (k w hw)).congr (by rw [warningFigures_of_cal hc, ← and_or_left])

theorem edgeRequest_raised {s : State} (h : s.ign.awake = true) (v : Nat) (hl : s.arbiter.warnings.length = 32) :
    s.RaisedBy (· = v) s.warning (s.edgeRequest v) := fun w hw => by
  unfold State.edgeRequest
  rw [if_pos h]
  have hsel := arbiterEvent_selected s (fun s => s.takeEdge v) w
  refine Warning.Raised.congr (or_iff_left (fun h : False => h)) (Warning.Raised.trans (y := (s.takeEdge v).warning w) ?_ hsel.raised)
  unfold State.takeEdge
  by_cases hv : w = v
  · subst hv
    rw [modifyWarning_new _ (by omega)]
    exact (takeEdge_raised _ _).congr (by simp)
  · rw [modifyWarning_others _ hv]
    exact .refl (fun k => hv k.2) _

/-- Edge requests given one after the other. -/
theorem edgeRequests_raised (ws : List Nat) : ∀ {s : State}, s.ign.awake = true → s.arbiter.warnings.length = 32 →
    s.RaisedBy (· ∈ ws) s.warning (ws.foldl State.edgeRequest s) := by
  induction ws with
  | nil => exact fun _ _ => .none _ _ (by simp)
  | cons v ws ih =>
    intro s ha hl
    have hk := edgeRequest_kept s v
    refine ((edgeRequest_raised ha v hl).trans hk.cal (ih (by rw [hk.ign]; exact ha) ((edgeRequest_steady s v).rings.length hl))).congr ?_
    simp

/-! ### The items' states -/

theorem item_modifyItem {s : State} (i j : Nat) (f : ServiceItem → ServiceItem) (h : j < s.service.items.length) :
    (s.modifyItem i f).item j = if i = j then f (s.item j) else s.item j := by
  unfold State.item State.modifyItem
  show (s.service.items.modify i f).getD j .fresh = _
  rw [List.getD_eq_getElem _ _ (by simpa using h), List.getD_eq_getElem _ _ h, List.getElem_modify]

theorem item_modifyItem_ne {s : State} {i j : Nat} (f : ServiceItem → ServiceItem) (h : i ≠ j) :
    (s.modifyItem i f).item j = s.item j := by simp [State.item, State.modifyItem, h]

theorem item_of_items {s t : State} (h : t.service.items = s.service.items) (i : Nat) : t.item i = s.item i := by
  unfold State.item
  rw [h]

theorem itemActive_of_cal {s t : State} (h : t.cal = s.cal) (i : Nat) : t.itemActive i = s.itemActive i := by
  unfold State.itemActive State.itemFigures
  rw [h]

theorem itemFigures_of_cal {s t : State} (h : t.cal = s.cal) (i : Nat) : t.itemFigures i = s.itemFigures i := by
  unfold State.itemFigures
  rw [h]

theorem newItemState_congr {s t : State} {i : Nat} (hc : t.cal = s.cal) (hs : t.store = s.store)
    (h : (t.item i).state = (s.item i).state ∨ (t.item i).state = s.newItemState i) : t.newItemState i = s.newItemState i := by
  have hnew : s.newItemState i = if s.itemActive i && s.store.present (itemBlock i) then
      itemStateOf (s.itemFigures i) (s.store.remainingKm i) (s.store.remainingDays i) else (s.item i).state := rfl
  unfold State.newItemState
  rw [itemActive_of_cal hc, itemFigures_of_cal hc, hs]
  split
  · rfl
  · next hno =>
    rcases h with h | h
    · rw [h]
    · rw [h, hnew, if_neg hno]

/-- An item whose state the service unit has formed. -/
def State.formedItem (s : State) (i : Nat) : ServiceItem := { s.item i with state := s.newItemState i }

theorem formQuietly_item (is : List Nat) : ∀ (s : State) (i : Nat), i < s.service.items.length →
    (s.formQuietly is).item i = if i ∈ is then s.formedItem i else s.item i := by
  induction is with
  | nil => exact fun s i _ => rfl
  | cons j is ih =>
    intro s i hi
    have hstep : ∀ k, ((s.modifyItem j fun x => { x with state := s.newItemState j }).item k).state = (s.item k).state ∨
        ((s.modifyItem j fun x => { x with state := s.newItemState j }).item k).state = s.newItemState k := fun k => by
      by_cases hjk : j = k
      · subst hjk
        by_cases hj : j < s.service.items.length
        · rw [item_modifyItem _ _ _ hj, if_pos rfl]; exact .inr rfl
        · left
          unfold State.item State.modifyItem
          rw [List.getD_eq_default _ _ (by simpa using hj), List.getD_eq_default _ _ (by simpa using hj)]
      · rw [item_modifyItem_ne _ hjk]; exact .inl rfl
    have hnew : ∀ k, (s.modifyItem j fun x => { x with state := s.newItemState j }).newItemState k = s.newItemState k :=
      fun k => newItemState_congr rfl rfl (hstep k)
    have := ih (s.modifyItem j fun x => { x with state := s.newItemState j }) i (by
      show i < (s.service.items.modify j _).length
      rwa [List.length_modify])
    rw [State.formQuietly, List.foldl_cons]
    refine this.trans ?_
    unfold State.formedItem
    rw [hnew, item_modifyItem _ _ _ hi]
    by_cases hji : j = i
    · subst hji
      rw [if_pos rfl, if_pos (List.mem_cons_self), ite_self]
    · rw [if_neg hji]
      simp [List.mem_cons, Ne.symm hji]

theorem formQuietly_length (s : State) (is : List Nat) : (s.formQuietly is).service.items.length = s.service.items.length := by
  unfold State.formQuietly
  induction is generalizing s with
  | nil => rfl
  | cons i is ih => rw [List.foldl_cons, ih]; exact List.length_modify _ _ _

theorem formItems_service (s : State) (is : List Nat) : (s.formItems is).service = (s.formQuietly is).service :=
  (KeptBut.foldl (fun s w => edgeRequest_kept s w) _ _).service

theorem formItems_item {s : State} (is : List Nat) {i : Nat} (h : i < s.service.items.length) :
    (s.formItems is).item i = if i ∈ is then s.formedItem i else s.item i := by
  rw [← formQuietly_item is s i h]
  exact item_of_items (by rw [formItems_service]) i

/-- A change of an item's state for the worse, and the warning that it raises. -/
def Worsens (old new : ItemState) (w : Nat) : Prop :=
  (new = .soon ∧ old = .ok ∧ w = 27) ∨ (new = .due ∧ old ∈ [.ok, .soon] ∧ w = 28) ∨
    (new = .overdue ∧ old ∈ [.ok, .soon, .due] ∧ w = 29)

theorem edgeFor_iff (old new : ItemState) (w : Nat) : edgeFor old new = some w ↔ Worsens old new w := by
  unfold edgeFor Worsens
  cases old <;> cases new <;> simp [ItemState.rank, ItemState.warning, eq_comm]

theorem not_worsens_same (x : ItemState) (w : Nat) : ¬Worsens x x w := by
  unfold Worsens
  cases x <;> simp

/-- The items' states raise their warnings: from any state `s` whose items stand as before, up to what is formed. -/
theorem formItems_raised {s : State} {is : List Nat} (ha : s.ign.awake = true) (hw : s.arbiter.warnings.length = 32)
    (hi : s.service.items.length = 8) (his : ∀ i ∈ is, i < 8) :
    s.RaisedBy (fun w => ∃ i < 8, Worsens (s.item i).state ((s.formItems is).item i).state w) s.warning (s.formItems is) := by
  have hk := formQuietly_kept s is
  have hraised := edgeRequests_raised (is.filterMap fun i => edgeFor (s.item i).state (s.newItemState i))
    (s := s.formQuietly is) (by rw [hk.ign]; exact ha) (by rw [hk.arbiter]; exact hw)
  have hbefore : (s.formQuietly is).warning = s.warning := funext fun w => warning_of_warnings (by rw [hk.arbiter]) w
  rw [hbefore] at hraised
  intro w hw32
  refine (hraised w hw32).congr ?_
  rw [warningFigures_of_cal hk.cal]
  refine and_congr_right fun _ => ?_
  refine List.mem_filterMap.trans ?_
  constructor
  · rintro ⟨i, hmem, hedge⟩
    refine ⟨i, his i hmem, ?_⟩
    rw [formItems_item is (by rw [hi]; exact his i hmem), if_pos hmem]
    exact (edgeFor_iff _ _ _).mp hedge
  · rintro ⟨i, hlt, hworse⟩
    rw [formItems_item is (by omega)] at hworse
    by_cases hmem : i ∈ is
    · rw [if_pos hmem] at hworse
      exact ⟨i, hmem, (edgeFor_iff _ _ _).mpr hworse⟩
    · rw [if_neg hmem] at hworse
      exact absurd hworse (not_worsens_same _ _)

/-- The items' warnings raised, of states that a command gives the items. -/
theorem raisesForItems_of {s t : State}
    (h : s.RaisedBy (fun w => ∃ i < 8, Worsens (s.item i).state (t.item i).state w) s.warning t) : s.RaisesForItems t :=
  h.raises

end Sys2Proof.Machine
end

section
/-! SUPPORT. What the summary topics of arbiter events leave of the transmit queue, and the reply after them. -/
namespace Sys2Proof.Machine
set_option Elab.async false

/-- The line and the handler after summary topics queued at `s`: no other message not yet started is new, and at most one
message is. -/
structure State.Summarised (s t : State) : Prop where
  handler : t.handler = s.handler
  replies : t.line.queue.any (Msg.unstarted 0x70) = s.line.queue.any (Msg.unstarted 0x70)
  room : t.line.queue.length = s.line.queue.length ∨
    (t.line.queue.length = s.line.queue.length + 1 ∧ t.line.queue.any (Msg.unstarted 0x43) = true)

theorem State.Summarised.refl (s : State) : s.Summarised s := ⟨rfl, rfl, .inl rfl⟩

theorem State.Summarised.of_kept {bs : List Block} {s t t' : State} (k : KeptBut bs t t') (h : s.Summarised t)
    (hl : Block.line ∉ bs := by decide) (hh : Block.handler ∉ bs := by decide) : s.Summarised t' := by
  obtain ⟨hhandler, hreplies, hroom⟩ := h
  exact ⟨(k.handler hh).trans hhandler, by rw [k.line hl]; exact hreplies, by rw [k.line hl]; exact hroom⟩

theorem unstarted_coalesce (m n : Msg) (topic : Nat) : Msg.unstarted topic (Msg.coalesce m n) = Msg.unstarted topic n := rfl

theorem any_modify_same {α : Type} (p : α → Bool) (f : α → α) (hf : ∀ x, p (f x) = p x) (l : List α) (i : Nat) :
    (l.modify i f).any p = l.any p := by
  induction l generalizing i with
  | nil => rw [List.modify_nil]
  | cons x l ih =>
    cases i with
    | zero => rw [List.modify_zero_cons, List.any_cons, List.any_cons, hf]
    | succ i => rw [List.modify_succ_cons, List.any_cons, List.any_cons, ih]

theorem any_findIdx {α : Type} {p : α → Bool} {l : List α} (h : l.findIdx? p = none) : l.any p = false := by
  rw [List.any_eq_false]
  intro x hx
  have := List.findIdx?_eq_none_iff.mp h x hx
  simp [this]

/-- One more summary topic. -/
theorem State.Summarised.publish {s t : State} (h : s.Summarised t) (hroom : s.line.queue.length < 12) (cls : Nat) (data : List Byte) :
    s.Summarised (t.publish 0x43 cls data) := by
  obtain ⟨hhandler, hreplies, hlen⟩ := h
  cases hfind : t.line.queue.findIdx? (Msg.unstarted 0x43) with
  | some i =>
    show s.Summarised (State.placeMsg (t.setLine { t.line with seqs := t.line.seqs.advance 0x43 }) _)
    unfold State.placeMsg
    dsimp only [State.setLine_line]
    rw [hfind]
    dsimp only
    unfold State.busyReplaced
    rw [if_neg (fun k => by cases k.2)]
    refine ⟨hhandler, (any_modify_same _ _ (fun m => unstarted_coalesce _ m 0x70) _ _).trans hreplies, ?_⟩
    exact hlen.imp (fun k => (List.length_modify _ _ _).trans k) fun ⟨k, k'⟩ =>
      ⟨(List.length_modify _ _ _).trans k, (any_modify_same _ _ (fun m => unstarted_coalesce _ m 0x43) _ _).trans k'⟩
  | none =>
    have hnone := any_findIdx hfind
    have hsame : t.line.queue.length = s.line.queue.length := hlen.resolve_right fun k => by
      rw [hnone] at k
      cases k.2
    have hopen : t.line.Open 0x43 := ⟨by omega, hnone⟩
    rw [show t.publish 0x43 cls data = _ from queue_open hopen]
    refine ⟨hhandler, ?_, .inr ⟨?_, ?_⟩⟩
    · refine Eq.trans ?_ hreplies
      show (t.line.queue ++ [_]).any (Msg.unstarted 0x70) = _
      rw [List.any_append]
      exact Bool.or_false _
    · show (t.line.queue ++ [_]).length = _
      rw [List.length_append, hsame]
      rfl
    · show (t.line.queue ++ [_]).any (Msg.unstarted 0x43) = _
      rw [List.any_append]
      exact Bool.or_true _

theorem State.Summarised.event {s t : State} (h : s.Summarised t) (hroom : s.line.queue.length < 12) {f : State → State}
    (k : KeptBut [.arbiter] t (f t)) : s.Summarised (t.arbiterEvent f) := by
  have hchimed : KeptBut [.arbiter, .sound] t (State.chimed t (f t).dropPresented.select) :=
    ((k.andThen (cs := [.arbiter]) (dropPresented_kept _)).andThen (cs := [.arbiter, .sound]) (select_kept _)).andThen
      (chimed_kept _ _)
  rw [arbiterEvent_eq, afterSelect_eq]
  have hs := h.of_kept hchimed
  split
  · exact hs
  · exact hs.publish hroom _ _

theorem State.Summarised.edgeRequest {s t : State} (h : s.Summarised t) (hroom : s.line.queue.length < 12) (w : Nat) :
    s.Summarised (t.edgeRequest w) := by
  unfold State.edgeRequest
  split
  · exact h.event hroom (takeEdge_kept t w)
  · exact h

theorem State.Summarised.formItems {s t : State} (h : s.Summarised t) (hroom : s.line.queue.length < 12) (is : List Nat) :
    s.Summarised (t.formItems is) := by
  have hstart : s.Summarised (t.formQuietly is) := h.of_kept (formQuietly_kept t is)
  unfold State.formItems
  generalize is.filterMap (fun i => edgeFor (t.item i).state (t.newItemState i)) = ws
  generalize t.formQuietly is = u at hstart
  induction ws generalizing u with
  | nil => exact hstart
  | cons w ws ih => exact ih _ (hstart.edgeRequest hroom w)

/-- The reply that follows summary topics. -/
theorem State.Summarised.replies_open {s t : State} (h : s.Summarised t) (ho : s.line.Open 0x70) (hroom : s.line.queue.length < 11) :
    t.line.Open 0x70 := by
  obtain ⟨-, hreplies, hlen⟩ := h
  exact ⟨by rcases hlen with k | ⟨k, -⟩ <;> omega, hreplies.trans ho.2⟩

theorem State.Summarised.answers {s t : State} (h : s.Summarised t) (ho : s.line.Open 0x70) (hroom : s.line.queue.length < 11)
    (x : Status) (result : List Byte) :
    (t.returnStatus x result).handler = { s.handler with state := .replying } ∧
      (t.returnStatus x result).line =
        t.line.enter 0x70 3 .reply ([byteOf s.handler.topic, byteOf x.code] ++ result) .own := by
  rw [returnStatus_open (h.replies_open ho hroom)]
  exact ⟨by rw [← h.handler]; rfl, by rw [← h.handler]; rfl⟩

end Sys2Proof.Machine
end

section
/-! SUPPORT. READ BYTES and WRITE BYTES. Settles O56. -/
namespace Sys2Proof.Machine
set_option Elab.async false

/-! ### Fills begun for a byte request -/

/-- A way of the block's set that is free for it. -/
def Store.FreeFor (st : Store) (b i : Nat) : Prop :=
  st.find b = none ∧ st.lines.length = 8 ∧ (st.line i).state = .invalid ∧ (st.line i).pinned = false ∧
    (i = 2 * (b % 4) ∨ (i = 2 * (b % 4) + 1 ∧ (st.line (i - 1)).state ≠ .invalid))

theorem Store.FreeFor.victim {st : Store} {b i : Nat} (h : st.FreeFor b i) :
    st.victim (b % 4) = some i ∧ i < st.lines.length ∧ (st.line i).state ≠ .dirty := by
  obtain ⟨-, hlen, hs, hp, hi⟩ := h
  have hset : b % 4 < 4 := Nat.mod_lt _ (by decide)
  refine ⟨victim_free (hi.imp id And.left) hs hp ?_, by rw [hlen]; rcases hi with k | ⟨k, -⟩ <;> omega, by rw [hs]; decide⟩
  rcases hi with rfl | ⟨-, k⟩
  · exact .inl (by omega)
  · exact .inr (.inl k)

/-- A byte request to an absent block waits for its fill, which begins. -/
theorem byteRequest_waits {s : State} {c : Instr} {topic b i : Nat} {task : Task} (hr : s.store.AtRest) (ht : task.passive = true)
    (hfree : s.store.FreeFor b i)
    (h : exec c s = .next (State.present s ((s.atWork topic).setStore { s.store.fetch b with task := task }).settleStore)) :
    ∃ t, exec c s = .next t ∧ KeptBut [.store, .line, .handler, .display] s t ∧ Works topic s t ∧
      t.store = (s.store.asked b task).fillBegun b i := by
  obtain ⟨hv, hlt, hd⟩ := hfree.victim
  have hreach := (fetchRun hr b ht).begins i hlt hv hd
  rw [fetch_asked hr hfree.1] at h
  exact ⟨_, h, works_of (settleStore_reaches (s := (s.atWork topic).setStore (s.store.asked b task)) hreach)⟩

theorem exec_byteRequest {c : Instr} {topic : Nat} {data : List Byte} {s u : State} (hc : c.request = some (topic, data))
    (h : s.TakesRequest) (hu : (s.atWork topic).carryOut topic data = u) : exec c s = .next (State.present s u) :=
  hu ▸ exec_carriesOut hc h

/-! ### READ BYTES -/

theorem readResult_eq {data : List Byte} {o : Nat} (h : o + 4 ≤ data.length) (source : Nat) :
    readResult data o source = (data.drop o).take 4 ++ [byteOf source] := by
  unfold readResult
  refine congrArg (· ++ _) (List.ext_getElem ?_ fun i hi hj => ?_)
  · simp
    omega
  · have hi4 : i < 4 := by simpa using hi
    rw [List.getElem_map, List.getElem_range, List.getElem_take, List.getElem_drop, List.getD_eq_getElem _ _ (by omega)]

theorem readBytes_taken {s : State} {b o : Byte} (h : s.TakesRequest) (hp : (Instr.readBytes b o).Permitted) :
    exec (.readBytes b o) s = .next (State.present s ((s.atWork 0x60).requestRead b.toNat o.toNat)) :=
  exec_byteRequest rfl h ((carryOut_read _ _).trans (if_pos hp))

theorem readBytes_present {s : State} {b o : Byte} (h : s.TakesRequest) (hr : s.store.AtRest)
    (hp : (Instr.readBytes b o).Permitted) (hold : s.store.Holds b.toNat) :
    ∃ t, exec (.readBytes b o) s = .next t ∧ KeptBut [.store, .line, .handler, .display] s t ∧
      Replies 0x60 .done (((s.store.dataOf b.toNat).drop o.toNat).take 4 ++ [0]) s t ∧
      (∀ c, t.store.dataOf c = s.store.dataOf c ∧ t.store.present c = s.store.present c) ∧ t.store.AtRest := by
  obtain ⟨i, hi, hs⟩ := find_of_present hold.1
  have hfetch : s.store.fetch b.toNat = s.store.touch i := fetch_present hi hs
  have hread : (s.atWork 0x60).requestRead b.toNat o.toNat = ((s.atWork 0x60).setStore (s.store.touch i)).returnStatus .done
      (((s.store.dataOf b.toNat).drop o.toNat).take 4 ++ [0]) := by
    unfold State.requestRead
    rw [if_pos (show (s.atWork 0x60).store.present b.toNat = true from hold.1),
      show (s.atWork 0x60).store.dataOf b.toNat = s.store.dataOf b.toNat from rfl, show (s.atWork 0x60).store.fetch b.toNat = _ from hfetch,
      readResult_eq (show o.toNat + 4 ≤ (s.store.dataOf b.toNat).length by have := hp.2; rw [hold.2]; omega)]
    refine settleStore_settled ?_
    rw [(returnStatus_kept _ _ _).store]
    exact settled_atRest (atRest_touch hr i)
  obtain ⟨hk, hreply, hstore⟩ := replies_of h.2.2 hread
  refine ⟨_, readBytes_taken h hp, hk, hreply, fun c => ?_, ?_⟩
  · rw [hstore]; exact ⟨dataOf_touch _ _ _, present_touch _ _ _⟩
  · rw [hstore]; exact atRest_touch hr i

theorem readBytes_waits {s : State} {b o : Byte} {i : Nat} (h : s.TakesRequest) (hr : s.store.AtRest)
    (hp : (Instr.readBytes b o).Permitted) (hfree : s.store.FreeFor b.toNat i) :
    ∃ t, exec (.readBytes b o) s = .next t ∧ KeptBut [.store, .line, .handler, .display] s t ∧ Works 0x60 s t ∧
      t.store = (s.store.asked b.toNat (.read b.toNat o.toNat)).fillBegun b.toNat i := by
  refine byteRequest_waits hr rfl hfree ((readBytes_taken h hp).trans ?_)
  unfold State.requestRead
  rw [if_neg (by rw [show (s.atWork 0x60).store.present b.toNat = false from present_of_find hfree.1]; decide)]
  rfl

/-! ### WRITE BYTES -/

theorem writeRefused_iff {st : Store} {b : Nat} :
    st.writeRefused b = true ↔ b = 0 ∨ (st.latch = true ∧ (b ≤ 2 ∨ 7 ≤ b)) := by simp [Store.writeRefused]

theorem writeBytes_taken {s : State} {b o : Byte} {data : List Byte} (h : s.TakesRequest)
    (hp : (Instr.writeBytes b o data).Permitted) :
    exec (.writeBytes b o data) s = .next (State.present s ((s.atWork 0x61).requestWrite b.toNat o.toNat data)) := by
  obtain ⟨hb, hone, hfour, hfit⟩ := hp
  cases data with
  | nil => exact absurd hone (by decide)
  | cons d ds =>
    rw [List.length_cons] at hfour hfit
    exact exec_byteRequest (c := .writeBytes b o (d :: ds)) rfl h ((carryOut_write _ _).trans (if_pos ⟨by omega, hb, by omega⟩))

theorem writeBytes_refused {s : State} {b o : Byte} {data : List Byte} (h : s.TakesRequest)
    (hp : (Instr.writeBytes b o data).Permitted) (hr : s.store.writeRefused b.toNat = true) :
    ∃ t, exec (.writeBytes b o data) s = .next t ∧ KeptBut [.line, .handler, .display] s t ∧ Replies 0x61 .isProtected [] s t :=
  ⟨_, writeBytes_taken h hp, refuses_of h.2.2 (if_pos hr)⟩

theorem writeBytes_waits {s : State} {b o : Byte} {data : List Byte} {i : Nat} (h : s.TakesRequest) (hr : s.store.AtRest)
    (hp : (Instr.writeBytes b o data).Permitted) (hn : s.store.writeRefused b.toNat = false) (hfree : s.store.FreeFor b.toNat i) :
    ∃ t, exec (.writeBytes b o data) s = .next t ∧ KeptBut [.store, .line, .handler, .display] s t ∧ Works 0x61 s t ∧
      t.store = (s.store.asked b.toNat (.write b.toNat o.toNat data)).fillBegun b.toNat i := by
  refine byteRequest_waits hr rfl hfree ((writeBytes_taken h hp).trans ?_)
  unfold State.requestWrite
  rw [if_neg (by rw [show (s.atWork 0x61).store.writeRefused b.toNat = false from hn]; decide),
    if_neg (by rw [show (s.atWork 0x61).store.present b.toNat = false from present_of_find hfree.1]; decide)]
  rfl

/-- The state in which a write has changed its line, and nothing has followed yet. -/
def State.bytesWritten (s : State) (b o : Nat) (data : List Byte) : State :=
  (s.atWork 0x61).update b fun bs => splice bs o data

/-- The state with the items of the block formed. -/
def State.writeServed (s : State) (b o : Nat) (data : List Byte) : State :=
  if serviceBlock b then (s.bytesWritten b o data).formItems (itemsOf b) else s.bytesWritten b o data

theorem bytesWritten_store (s : State) (b o : Nat) (data : List Byte) :
    (s.bytesWritten b o data).store = s.store.update b fun bs => splice bs o data := rfl

theorem bytesWritten_kept (s : State) (b o : Nat) (data : List Byte) : KeptBut [.store, .handler] s (s.bytesWritten b o data) :=
  (setHandler_kept s _).andThen (setStore_kept _ _)

theorem writeServed_kept (s : State) (b o : Nat) (data : List Byte) :
    KeptBut [.service, .arbiter, .sound, .line, .handler] (s.bytesWritten b o data) (s.writeServed b o data) :=
  .ite (formItems_kept _ _) (.refl _ _)

theorem writeServed_store (s : State) (b o : Nat) (data : List Byte) :
    (s.writeServed b o data).store = s.store.update b fun bs => splice bs o data := (writeServed_kept s b o data).store

/-- A write carried out: `t` is the state that the request leaves. -/
theorem requestWrite_present {s : State} {b o : Nat} {data : List Byte} (hr : s.store.AtRest) (hn : s.store.writeRefused b = false)
    (hp : s.store.present b = true) :
    (s.atWork 0x61).requestWrite b o data = (s.writeServed b o data).returnStatus .done [] := by
  have hnot : ¬(s.atWork 0x61).store.writeRefused b = true := by
    rw [show (s.atWork 0x61).store.writeRefused b = false from hn]
    decide
  have happly : (s.atWork 0x61).applyWrite b o data = (s.writeServed b o data).returnStatus .done [] := by
    have hstore : (s.atWork 0x61).setStore { (s.atWork 0x61).store with task := .none } = s.atWork 0x61 :=
      congrArg (s.atWork 0x61).setStore (atRest_task hr)
    unfold State.applyWrite
    dsimp only
    rw [if_neg hnot, hstore]
    rfl
  unfold State.requestWrite
  rw [if_neg hnot, if_pos (show (s.atWork 0x61).store.present b = true from hp), happly]
  refine settleStore_settled ?_
  rw [(returnStatus_kept _ _ _).store, writeServed_store]
  exact settled_atRest (atRest_update hr b _)

theorem writeServed_summarised {s : State} (b o : Nat) (data : List Byte) (hroom : s.line.queue.length < 11) :
    (s.atWork 0x61).Summarised (s.writeServed b o data) := by
  have hbegin : (s.atWork 0x61).Summarised (s.bytesWritten b o data) := .of_kept (setStore_kept (s.atWork 0x61) _) (.refl _)
  unfold State.writeServed
  split
  · exact hbegin.formItems (show s.line.queue.length < 12 by omega) _
  · exact hbegin

theorem serviceBlock_iff (b : Nat) : serviceBlock b = true ↔ 3 ≤ b ∧ b ≤ 6 := by simp [serviceBlock]

theorem mem_itemsOf {b i : Nat} (hb : 3 ≤ b) : i ∈ itemsOf b ↔ itemBlock i = b := by
  unfold itemsOf itemBlock
  simp only [List.mem_cons, List.not_mem_nil, or_false]
  omega

theorem itemsOf_lt {b : Nat} (h : b ≤ 6) : ∀ i ∈ itemsOf b, i < 8 := fun i hi => by
  simp only [itemsOf, List.mem_cons, List.not_mem_nil, or_false] at hi
  omega

/-- The state of the block's items once its bytes are written. -/
theorem writeServed_item {s : State} {b o : Nat} {data : List Byte} (hp : s.store.present b = true) (h3 : 3 ≤ b) (h6 : b ≤ 6)
    (hl : s.service.items.length = 8) {i : Nat} (hi : i < 8) (hb : itemBlock i = b) :
    ((s.writeServed b o data).item i).state = if s.itemActive i then
      itemStateOf (s.itemFigures i) ((s.writeServed b o data).store.remainingKm i) ((s.writeServed b o data).store.remainingDays i)
      else (s.item i).state := by
  have hstore := writeServed_store s b o data
  unfold State.writeServed at hstore ⊢
  rw [if_pos ((serviceBlock_iff b).mpr ⟨h3, h6⟩)] at hstore ⊢
  rw [hstore, formItems_item (s := s.bytesWritten b o data) _ (by rw [(bytesWritten_kept s b o data).service]; omega),
    if_pos ((mem_itemsOf h3).mpr hb)]
  show State.newItemState _ i = _
  have hpresent : (s.bytesWritten b o data).store.present (itemBlock i) = true := by
    rw [hb, bytesWritten_store, present_update, hp]
  unfold State.newItemState
  rw [hpresent, Bool.and_true]
  rfl

/-- The warnings that a write raises. -/
theorem writeServed_raised {s : State} (b o : Nat) (data : List Byte) (ha : s.ign.awake = true)
    (hw : s.arbiter.warnings.length = 32) (hl : s.service.items.length = 8) {t : State}
    (hs : t.service.items = (s.writeServed b o data).service.items)
    (ht : t.arbiter.warnings = (s.writeServed b o data).arbiter.warnings) : s.RaisesForItems t := by
  have hk := bytesWritten_kept s b o data
  refine raisesForItems_of fun w hw32 => ?_
  rw [warning_of_warnings ht]
  simp only [item_of_items hs]
  unfold State.writeServed
  split
  · next hb =>
    obtain ⟨-, h6⟩ := (serviceBlock_iff b).mp hb
    exact formItems_raised (s := s.bytesWritten b o data) (is := itemsOf b) (by rw [hk.ign]; exact ha)
      (by rw [hk.arbiter]; exact hw) (by rw [hk.service]; exact hl) (itemsOf_lt h6) w hw32
  · exact .refl (fun ⟨_, i, _, h⟩ => not_worsens_same _ _ h) _

theorem byteAt_splice {bs new : List Byte} {o : Nat} (h : o ≤ bs.length) (j : Nat) :
    byteAt (splice bs o new) j = if o ≤ j ∧ j < o + new.length then byteAt new (j - o) else byteAt bs j := by
  split
  · next hj => exact byteAt_splice_of_mem hj.1 hj.2 h
  · next hj =>
    by_cases hlt : j < o
    · exact byteAt_splice_of_lt hlt h
    · exact byteAt_splice_of_ge (by omega) h

theorem writeBytes_writes {s : State} {b o : Byte} {data : List Byte} (h : s.TakesRequest) (hr : s.store.AtRest)
    (hp : (Instr.writeBytes b o data).Permitted) (hn : s.store.writeRefused b.toNat = false) (hold : s.store.Holds b.toNat) :
    ∃ t, exec (.writeBytes b o data) s = .next t ∧
        KeptBut [.service, .arbiter, .sound, .store, .line, .handler, .keys, .display] s t ∧
        (s.line.queue.length < 11 → t.handler = { s.handler with state := .replying, topic := 0x61 }) ∧
        t.store.Holds b.toNat ∧ (s.arbiter.warnings.length = 32 → s.service.items.length = 8 → s.RaisesForItems t) ∧
        (∀ j < 15, byteAt (t.store.dataOf b.toNat) j = if o.toNat ≤ j ∧ j < o.toNat + data.length then
          byteAt data (j - o.toNat) else byteAt (s.store.dataOf b.toNat) j) ∧
        (∀ c, c ≠ b.toNat → t.store.dataOf c = s.store.dataOf c) ∧
        (∀ i, s.store.presentLine b.toNat = some i → (s.store.line i).state ≠ .writing →
          (t.store.line i).state = .dirty) ∧
        (b.toNat < 3 ∨ 7 ≤ b.toNat → KeptBut [.store, .line, .handler, .display] s t ∧ Replies 0x61 .done [] s t) ∧
        (3 ≤ b.toNat → b.toNat ≤ 6 → s.service.items.length = 8 → ∀ i < 8, itemBlock i = b.toNat →
          (t.item i).state = if s.itemActive i then
            itemStateOf (s.itemFigures i) (t.store.remainingKm i) (t.store.remainingDays i) else (s.item i).state) := by
  have hreply := returnStatus_kept (s.writeServed b.toNat o.toNat data) .done []
  have hkept : KeptBut [.service, .arbiter, .sound, .store, .line, .handler] s
      ((s.writeServed b.toNat o.toNat data).returnStatus .done []) :=
    ((bytesWritten_kept s b.toNat o.toNat data).andThen (cs := [.service, .arbiter, .sound, .store, .line, .handler])
      (writeServed_kept s b.toNat o.toNat data)).andThen hreply
  have hpresent := present_kept s ((s.writeServed b.toNat o.toNat data).returnStatus .done [])
  have hstore : (State.present s ((s.writeServed b.toNat o.toNat data).returnStatus .done [])).store =
      s.store.update b.toNat fun bs => splice bs o.toNat data := by
    rw [hpresent.store, hreply.store, writeServed_store]
  have hlen : o.toNat + data.length ≤ (s.store.dataOf b.toNat).length := by rw [hold.2]; exact hp.2.2.2
  have hdata := dataOf_update_same (fun bs => splice bs o.toNat data) hold.1
  have hservice : (State.present s ((s.writeServed b.toNat o.toNat data).returnStatus .done [])).service =
      (s.writeServed b.toNat o.toNat data).service := by rw [hpresent.service, hreply.service]
  refine ⟨_, (writeBytes_taken h hp).trans (by rw [requestWrite_present hr hn hold.1]),
    (present_frame_keys hkept).mono (by decide), fun hroom => ?_, ?_, fun hw hl => ?_, fun j _ => ?_, fun c hc => ?_,
    fun i hi hs => ?_, fun hb => ?_, fun h3 h6 hl i hi hb => ?_⟩
  · rw [hpresent.handler, ((writeServed_summarised b.toNat o.toNat data hroom).answers h.2.2 hroom .done []).1]
    rfl
  · rw [hstore]
    exact holds_update_same hold fun l hl => by
      have hfit := hp.2.2.2
      rw [splice_length (by omega), hl]
  · exact writeServed_raised b.toNat o.toNat data h.1 hw hl (by rw [hservice]) (by rw [hpresent.arbiter, hreply.arbiter])
  · rw [hstore, hdata, byteAt_splice (by omega)]
  · rw [hstore]
    exact dataOf_update_ne _ hc
  · rw [hstore]
    obtain ⟨y, hy⟩ := line_update_same (fun bs => splice bs o.toNat data) hi
    rw [hy]
    exact ((updated_marks _ (presentLine_eq_some.mp hi).2).1).trans (if_neg hs)
  · have hnot : serviceBlock b.toNat = false := eq_false_of_ne_true fun k => by
      have := (serviceBlock_iff _).mp k
      omega
    have hserved : s.writeServed b.toNat o.toNat data = s.bytesWritten b.toNat o.toNat data := by
      unfold State.writeServed
      rw [hnot]
      rfl
    rw [hserved]
    obtain ⟨hk, hreply, -⟩ := replies_of (topic := 0x61) h.2.2 (st := .done) (result := []) (x := _) (u := _)
      (show (s.bytesWritten b.toNat o.toNat data).returnStatus .done [] = _ from rfl)
    exact ⟨hk, hreply⟩
  · have hitem := writeServed_item (o := o.toNat) (data := data) hold.1 h3 h6 hl hi hb
    rw [hstore, item_of_items (congrArg _ hservice), hitem, writeServed_store]

/-- Settles O56. -/
theorem bytesAreReadAndWritten : Obligations.BytesAreReadAndWritten := by
  intro s b o data h hr begun free
  have hbegun {t : State} {i : Nat} {task : Task} (k : t.store = (s.store.asked b.toNat task).fillBegun b.toNat i) :
      begun t i task := by
    have hstore := k
    refine ⟨?_, ?_, ?_, ?_⟩ <;> rw [hstore] <;> rfl
  refine ⟨fun hp => ⟨fun hold => readBytes_present h hr hp hold, fun i hfree => ?_⟩, fun hp => ?_⟩
  · obtain ⟨t, he, hk, hw, hs⟩ := readBytes_waits h hr hp hfree
    exact ⟨t, he, hk, hw, hbegun hs⟩
  · intro refused
    have hno (hn : ¬refused) : s.store.writeRefused b.toNat = false := eq_false_of_ne_true fun k => hn (writeRefused_iff.mp k)
    refine ⟨fun hn => writeBytes_refused h hp (writeRefused_iff.mpr hn),
      fun hn hold => writeBytes_writes h hr hp (hno hn) hold, fun hn i hfree => ?_⟩
    obtain ⟨t, he, hk, hw, hs⟩ := writeBytes_waits h hr hp (hno hn) hfree
    exact ⟨t, he, hk, hw, hbegun hs⟩

end Sys2Proof.Machine
end

section
/-! SUPPORT. The acknowledgement of a warning: what leaves service, the rotation orders, the reminder, the chime. -/
namespace Sys2Proof.Machine
set_option Elab.async false

/-! ### A warning that leaves service, the others as they were -/

/-- What an event changes at the warning `w` alone, which leaves service. -/
structure EndsService (x d : State) (w : Nat) : Prop where
  inner : Inner x d
  gone : (d.warning w).state ∈ [.off, .silenced]
  others : ∀ v, v ≠ w → d.warning v = x.warning v

theorem EndsService.state {x d : State} {w u : Nat} (h : EndsService x d w) (hu : (d.warning u).state ∈ [.shown, .pending]) :
    d.warning u = x.warning u := by
  obtain ⟨-, hgone, hothers⟩ := h
  by_cases huw : u = w
  · subst huw
    rcases List.mem_pair.mp hgone with k | k <;> rw [k] at hu <;> simp at hu
  · exact hothers u huw

/-- While a warning stays SHOWN, no other is more urgent. -/
theorem EndsService.mostUrgent {x d : State} {w v : Nat} (h : EndsService x d w) (hc : x.OrdersComplete) (hm : x.MostUrgentShown)
    (hv : (d.warning v).state = .shown) : d.MostUrgentShown := by
  obtain ⟨hone, hurgent, -⟩ := hm
  have hlen := h.inner.rings.length.trans hc.1
  refine ⟨h.inner.rings.shownCount hone, fun u p hu hp hsu hpp => ?_, fun hno => ?_⟩
  · rw [warningClass_of_cal h.inner.rings.cal, warningClass_of_cal h.inner.rings.cal]
    exact hurgent u p hu hp (h.state (u := u) (by simp [hsu]) ▸ hsu) (h.state (u := p) (by simp [hpp]) ▸ hpp)
  · exact absurd hv (hno v (hlen ▸ warning_lt (by rw [hv]; decide)))

theorem EndsService.dropPresented {x d : State} {w : Nat} (h : EndsService x d w) : EndsService x d.dropPresented w where
  inner := h.inner.trans (dropPresented_inner _)
  gone := by rw [dropPresented_warning]; exact h.gone
  others v hv := (dropPresented_warning d v).trans (h.others v hv)

/-- The warnings after the event: no SHOWN one is preempted. -/
theorem EndsService.select {x d : State} {w : Nat} (h : EndsService x d w) (hc : x.OrdersComplete) (hm : x.MostUrgentShown) :
    d.select.warning w = d.warning w ∧
      ∀ v, v ≠ w → (x.warning v).state ∉ [.pending, .held] → d.select.warning v = x.warning v := by
  refine ⟨(select_selected d w).same ?_, fun v hv hstate => ?_⟩
  · rcases List.mem_pair.mp h.gone with k | k <;> rw [k] <;> decide
  · by_cases hshown : (d.warning v).state = .shown
    · rw [select_of_mostUrgent (h.inner.rings.complete hc) (h.mostUrgent hc hm hshown)]
      exact h.others v hv
    · rw [← h.others v hv] at hstate ⊢
      refine (select_selected d v).same fun k => ?_
      simp only [List.mem_cons, List.not_mem_nil, or_false, not_or] at k hstate
      rcases k with k | k | k
      · exact hshown k
      · exact hstate.1 k
      · exact hstate.2 k

theorem EndsService.event {x : State} {f : State → State} {w : Nat} (h : EndsService x (f x) w) (hc : x.OrdersComplete)
    (hm : x.MostUrgentShown) : (x.arbiterEvent f).warning w = (f x).warning w ∧ (x.arbiterEvent f).MostUrgentShown ∧
      ∀ v < 32, v ≠ w → (x.warning v).state ∉ [.pending, .held] → (x.arbiterEvent f).warning v = x.warning v := by
  obtain ⟨hw, hothers⟩ := h.dropPresented.select hc hm
  refine ⟨?_, arbiterEvent_mostUrgent h.inner hc hm.1, fun v _ hv hstate => ?_⟩
  · rw [arbiterEvent_warning, hw, dropPresented_warning]
  · rw [arbiterEvent_warning]
    exact hothers v hv hstate

theorem EndsService.chime {x : State} {f : State → State} {w : Nat} (h : EndsService x (f x) w) (hc : x.OrdersComplete)
    (hm : x.MostUrgentShown) (hsound : (f x).sound = x.sound) : x.ChimeFollows x.sound (x.arbiterEvent f) := by
  refine arbiterEvent_chime h.inner hc.1 hm.1 hsound (fun v _ hf hl => ?_) (fun v hv hf => ?_)
  · rw [h.state (by simp [hf]), hl]
  · rw [h.state (by simp [hf]), hv] at hf
    cases hf

/-! ### The acknowledged warning and its place in the rotation -/

theorem acknowledged_eq (c : WarnClass) (x : Warning) : x.acknowledged c = { x with
    state := if x.level then .silenced else .off, shownTimer := 0, completed := false
    reminder := if x.level = true ∧ c = .danger then 600 else if x.level = true ∧ c = .caution then 3000 else 0 } := by
  unfold Warning.acknowledged Warning.goTo reminderTime
  cases x.level <;> cases c <;> rfl

theorem moveLast_eq {w : Nat} {l : List Nat} (h : w ∈ l) : moveLast w l = l.filter (· ≠ w) ++ [w] := by
  unfold moveLast
  rw [if_pos (by simpa using h)]
  congr 1
  refine List.filter_congr fun v _ => ?_
  by_cases hv : v = w <;> simp [hv]

theorem rotate_orders {x : State} {w : Nat} (hc : x.OrdersComplete) (hw : w < 32) :
    (x.rotate w).arbiter.cautionOrder = (if x.warningClass w = .caution then x.arbiter.cautionOrder.filter (· ≠ w) ++ [w]
      else x.arbiter.cautionOrder) ∧
    (x.rotate w).arbiter.advisoryOrder = (if x.warningClass w = .advisory then x.arbiter.advisoryOrder.filter (· ≠ w) ++ [w]
      else x.arbiter.advisoryOrder) := by
  obtain ⟨-, hcaution, hadvisory⟩ := hc
  unfold State.rotate
  cases hcls : x.warningClass w with
  | caution => exact ⟨(moveLast_eq ((hcaution w).mpr ⟨hw, hcls⟩)).trans (if_pos rfl).symm, (if_neg nofun).symm⟩
  | advisory => exact ⟨(if_neg nofun).symm, (moveLast_eq ((hadvisory w).mpr ⟨hw, hcls⟩)).trans (if_pos rfl).symm⟩
  | danger => exact ⟨(if_neg nofun).symm, (if_neg nofun).symm⟩
  | information => exact ⟨(if_neg nofun).symm, (if_neg nofun).symm⟩

theorem inService_mem {x : WarningState} : x.inService = true ↔ x ∈ [WarningState.shown, .held] := by
  cases x <;> decide

/-- The rotation orders after the acknowledgement, or the withdrawal, of a warning. -/
theorem left_orders {x y : State} {w : Nat} (hc : x.OrdersComplete) (hw : w < 32) (hy : y.arbiter.cautionOrder = x.arbiter.cautionOrder)
    (hy' : y.arbiter.advisoryOrder = x.arbiter.advisoryOrder) (hcal : y.cal = x.cal) :
    (if (x.warning w).state.inService then y.rotate w else y).arbiter.cautionOrder =
      (if x.warningClass w = .caution ∧ (x.warning w).state ∈ [.shown, .held] then
        x.arbiter.cautionOrder.filter (· ≠ w) ++ [w] else x.arbiter.cautionOrder) ∧
    (if (x.warning w).state.inService then y.rotate w else y).arbiter.advisoryOrder =
      (if x.warningClass w = .advisory ∧ (x.warning w).state ∈ [.shown, .held] then
        x.arbiter.advisoryOrder.filter (· ≠ w) ++ [w] else x.arbiter.advisoryOrder) := by
  have hclass (v : Nat) : y.warningClass v = x.warningClass v := warningClass_of_cal hcal v
  have hrotate : (y.rotate w).arbiter.cautionOrder = (x.rotate w).arbiter.cautionOrder ∧
      (y.rotate w).arbiter.advisoryOrder = (x.rotate w).arbiter.advisoryOrder := by
    unfold State.rotate
    rw [hclass]
    cases x.warningClass w with
    | caution => exact ⟨congrArg (moveLast w) hy, hy'⟩
    | advisory => exact ⟨hy, congrArg (moveLast w) hy'⟩
    | danger => exact ⟨hy, hy'⟩
    | information => exact ⟨hy, hy'⟩
  obtain ⟨hcaution, hadvisory⟩ := rotate_orders hc hw
  by_cases hin : (x.warning w).state.inService = true
  · rw [if_pos hin, hrotate.1, hrotate.2, hcaution, hadvisory]
    simp only [inService_mem.mp hin, and_true, and_self]
  · rw [if_neg hin, hy, hy', if_neg fun k => hin (inService_mem.mpr k.2), if_neg fun k => hin (inService_mem.mpr k.2)]
    exact ⟨rfl, rfl⟩

theorem acknowledge_orders {x : State} {w : Nat} (hc : x.OrdersComplete) (hw : w < 32) :
    (x.acknowledge w).arbiter.cautionOrder = (if x.warningClass w = .caution ∧ (x.warning w).state ∈ [.shown, .held] then
        x.arbiter.cautionOrder.filter (· ≠ w) ++ [w] else x.arbiter.cautionOrder) ∧
    (x.acknowledge w).arbiter.advisoryOrder = (if x.warningClass w = .advisory ∧ (x.warning w).state ∈ [.shown, .held] then
        x.arbiter.advisoryOrder.filter (· ≠ w) ++ [w] else x.arbiter.advisoryOrder) :=
  left_orders (y := x.modifyWarning w (Warning.acknowledged (x.warningClass w))) hc hw rfl rfl rfl

theorem acknowledge_ends {x : State} {w : Nat} (hw : w < x.arbiter.warnings.length) : EndsService x (x.acknowledge w) w where
  inner := acknowledge_inner x w
  gone := by
    rw [acknowledge_warning, if_pos ⟨rfl, hw⟩, acknowledged_eq]
    dsimp only
    split <;> simp
  others v hv := by rw [acknowledge_warning, if_neg fun k => hv k.1]

/-! ### The event -/

/-- Before the selection the state is the one that an acknowledgement leaves, for the arbiter's purposes. -/
structure Acked (x d : State) (w : Nat) : Prop where
  inner : Inner x d
  warning : ∀ v, d.warning v = (x.acknowledge w).warning v
  caution : d.arbiter.cautionOrder = (x.acknowledge w).arbiter.cautionOrder
  advisory : d.arbiter.advisoryOrder = (x.acknowledge w).arbiter.advisoryOrder
  kept : KeptBut [.arbiter] x d

theorem acked_acknowledge (x : State) (w : Nat) : Acked x (x.acknowledge w) w :=
  ⟨acknowledge_inner x w, fun _ => rfl, rfl, rfl, acknowledge_kept x w⟩

theorem Acked.ends {x d : State} {w : Nat} (h : Acked x d w) (hw : w < x.arbiter.warnings.length) : EndsService x d w where
  inner := h.inner
  gone := by rw [h.warning]; exact (acknowledge_ends hw).gone
  others v hv := (h.warning v).trans ((acknowledge_ends hw).others v hv)

theorem Acked.event {x : State} {f : State → State} {w : Nat} (h : Acked x (f x) w) (hc : x.OrdersComplete)
    (hm : x.MostUrgentShown) (hw : w < 32) :
    x.Acknowledges w (x.arbiterEvent f) ∧ x.ChimeFollows x.sound (x.arbiterEvent f) := by
  have hlt : w < x.arbiter.warnings.length := by rw [hc.1]; exact hw
  have hl := h.ends hlt
  obtain ⟨hwarning, hurgent, hothers⟩ := hl.event hc hm
  obtain ⟨hcaution, hadvisory, -⟩ := arbiterEvent_rest x f
  obtain ⟨kcaution, kadvisory⟩ := acknowledge_orders hc hw
  refine ⟨⟨?_, ?_, ?_, hurgent, hothers⟩, hl.chime hc hm h.kept.sound⟩
  · rw [hwarning, h.warning, acknowledge_warning, if_pos ⟨rfl, hlt⟩, acknowledged_eq]
  · rw [hcaution, h.caution, kcaution]
  · rw [hadvisory, h.advisory, kadvisory]

/-- The acknowledgement, as other blocks change around it. -/
theorem acknowledges_of_kept {s x t t' : State} {w : Nat} (h : x.Acknowledges w t) (hx : x.arbiter = s.arbiter) (hcal : x.cal = s.cal)
    (ht : t'.arbiter = t.arbiter) (htcal : t'.cal = t.cal) : s.Acknowledges w t' := by
  have hwx : ∀ v, x.warning v = s.warning v := warning_of_warnings (by rw [hx])
  have hwt : ∀ v, t'.warning v = t.warning v := warning_of_warnings (by rw [ht])
  obtain ⟨hw, hcaution, hadvisory, hurgent, hothers⟩ := h
  simp only [hwx, warningClass_of_cal hcal, hx] at hw hcaution hadvisory hothers
  refine ⟨by rw [hwt]; exact hw, by rw [ht]; exact hcaution, by rw [ht]; exact hadvisory, ?_, fun v hv hne hst => by
    rw [hwt]; exact hothers v hv hne hst⟩
  have hcount : t'.shownCount = t.shownCount := by unfold State.shownCount; rw [ht]
  unfold State.MostUrgentShown at hurgent ⊢
  simp only [hcount, hwt, warningClass_of_cal htcal]
  exact hurgent

/-! ### The chime after a click -/

theorem clicked_eq (u : Sound) : ∃ o c k, u.clicked = { u with output := o, clickTimer := c, tickTimer := k } := by
  unfold Sound.clicked
  split
  · exact ⟨_, _, _, rfl⟩
  · exact ⟨_, _, _, rfl⟩

/-- A state that differs by a click, and by blocks that the chime does not read, has the same notices taken. -/
theorem noticeTaken_of_clicked {s x t : State} {w : Nat} (hcal : x.cal = s.cal) (hs : x.sound = s.sound.clicked)
    (h : x.NoticeTaken w t) : s.NoticeTaken w t := by
  obtain ⟨o, c, k, hu⟩ := clicked_eq s.sound
  rw [hu] at hs
  have hcurrent : x.current = s.current := current_of_cal hcal (by rw [hs])
  unfold State.NoticeTaken State.Chimes at *
  simp only [warningClass_of_cal hcal, warningFigures_of_cal hcal, pattern_of_cal hcal, hcurrent, hs] at h
  exact h

theorem chimeFollows_of_clicked {s x t : State} (ha : x.arbiter = s.arbiter) (hcal : x.cal = s.cal) (hs : x.sound = s.sound.clicked)
    (h : x.ChimeFollows x.sound t) : s.ChimeFollows s.sound.clicked t := by
  obtain ⟨henters, hhushed, hstands, houtput⟩ := h
  have hw : ∀ v, x.warning v = s.warning v := warning_of_warnings (by rw [ha])
  simp only [hw] at henters hhushed hstands
  obtain ⟨o, c, k, hu⟩ := clicked_eq s.sound
  rw [hs] at houtput
  refine ⟨fun w hlt hen => noticeTaken_of_clicked hcal hs (henters w hlt hen), fun a b => ?_, fun a b => ?_, houtput⟩
  · have := hhushed a b
    unfold State.Chimes at *
    rw [hs, hu] at this
    exact this
  · have := hstands a b
    unfold State.Chimes at *
    rw [hs, hu] at this
    exact this

end Sys2Proof.Machine
end

section
/-! SUPPORT. The acknowledgement of a sub-warning of the rear cascade: the marks, the 44h, the presented sub-warning. -/
namespace Sys2Proof.Machine
set_option Elab.async false

/-! ### A message that waits in the queue -/

/-- A not yet started message with these items waits among at most `n` messages. -/
def LineStation.Waits (l : LineStation) (topic cls : Nat) (data : List Byte) (n : Nat) : Prop :=
  l.queue.length ≤ n ∧ ∃ m ∈ l.queue, m.topic = topic ∧ m.started = false ∧ m.cls = cls ∧ m.data = data

theorem LineStation.Waits.mono {l : LineStation} {topic cls n k : Nat} {data : List Byte} (h : l.Waits topic cls data n) (hk : n ≤ k) :
    l.Waits topic cls data k := ⟨h.1.trans hk, h.2⟩

/-- What a message placed in a queue with room makes of it. -/
theorem queue_cases {s : State} (topic cls : Nat) (kind : MsgKind) (data : List Byte) (answer : Answer)
    (h : s.line.queue.length < 12) :
    (∃ i m, s.line.queue[i]? = some m ∧ m.topic = topic ∧ m.started = false ∧
      (s.queue topic cls kind data answer).line.queue = s.line.queue.modify i
        (Msg.coalesce (Msg.entered cls kind topic ((s.line.seqs.advance topic).get topic) data answer))) ∨
    (s.queue topic cls kind data answer).line.queue =
      s.line.queue ++ [Msg.entered cls kind topic ((s.line.seqs.advance topic).get topic) data answer] := by
  cases hfind : s.line.queue.findIdx? (Msg.unstarted topic) with
  | some i =>
    left
    obtain ⟨hi, hp, -⟩ := List.findIdx?_eq_some_iff_getElem.mp hfind
    unfold Msg.unstarted at hp
    simp only [Bool.and_eq_true, beq_iff_eq, Bool.not_eq_true'] at hp
    refine ⟨i, s.line.queue[i], List.getElem?_eq_getElem hi, hp.1, hp.2, ?_⟩
    unfold State.queue State.placeMsg
    dsimp only [State.setLine_line]
    rw [hfind]
    dsimp only
    rw [(busyReplaced_kept _ _ _).line]
    rfl
  | none =>
    right
    have hopen : s.line.Open topic := ⟨h, any_findIdx hfind⟩
    rw [queue_open hopen]
    rfl

/-- A message of the topic waits once one is queued. -/
theorem queue_waits {s : State} {n : Nat} (topic cls : Nat) (kind : MsgKind) (data : List Byte) (answer : Answer)
    (h : s.line.queue.length ≤ n) (hn : n < 12) : (s.queue topic cls kind data answer).line.Waits topic cls data (n + 1) := by
  rcases queue_cases (s := s) topic cls kind data answer (by omega) with ⟨i, m, hm, ht, hs, hq⟩ | hq
  · refine ⟨by rw [hq, List.length_modify]; omega, ?_⟩
    rw [hq]
    refine ⟨Msg.coalesce (Msg.entered cls kind topic ((s.line.seqs.advance topic).get topic) data answer) m,
      List.mem_of_getElem? (i := i) ?_, ht, hs, rfl, rfl⟩
    rw [List.getElem?_modify, hm]
    exact congrArg some (if_pos rfl)
  · refine ⟨by rw [hq, List.length_append, List.length_singleton]; omega, ?_⟩
    rw [hq]
    exact ⟨_, List.mem_append_right _ (List.mem_singleton.mpr rfl), rfl, rfl, rfl, rfl⟩

/-- It goes on waiting as messages of other topics are queued. -/
theorem LineStation.Waits.queue {s : State} {topic cls n : Nat} {data : List Byte} (h : s.line.Waits topic cls data n)
    (hn : n < 12) (topic' cls' : Nat) (kind : MsgKind) (data' : List Byte) (answer : Answer) (hne : topic' ≠ topic) :
    (s.queue topic' cls' kind data' answer).line.Waits topic cls data (n + 1) := by
  obtain ⟨hlen, m, hm, ht, hrest⟩ := h
  rcases queue_cases (s := s) topic' cls' kind data' answer (by omega) with ⟨i, o, ho, hto, -, hq⟩ | hq
  · refine ⟨by rw [hq, List.length_modify]; omega, m, ?_, ht, hrest⟩
    obtain ⟨j, hj, hjm⟩ := List.getElem_of_mem hm
    have hij : i ≠ j := by
      rintro rfl
      rw [List.getElem?_eq_getElem hj, hjm] at ho
      cases ho
      exact hne (hto.symm.trans ht)
    rw [hq]
    refine List.mem_of_getElem? (i := j) ?_
    rw [List.getElem?_modify, List.getElem?_eq_getElem hj, hjm]
    exact congrArg some (if_neg hij)
  · refine ⟨by rw [hq, List.length_append, List.length_singleton]; omega, m, ?_, ht, hrest⟩
    rw [hq]
    exact List.mem_append_left _ hm

theorem LineStation.Waits.of_kept {bs : List Block} {s t : State} {topic cls n : Nat} {data : List Byte} (k : KeptBut bs s t)
    (h : s.line.Waits topic cls data n) (hb : Block.line ∉ bs := by decide) : t.line.Waits topic cls data n := by
  rw [k.line hb]
  exact h

theorem LineStation.Waits.event {x : State} {f : State → State} {cls n : Nat} {data : List Byte}
    (h : (f x).line.Waits 0x44 cls data n) (hn : n < 12) : (x.arbiterEvent f).line.Waits 0x44 cls data (n + 1) := by
  have hchimed : KeptBut [.arbiter, .sound] (f x) (State.chimed x (f x).dropPresented.select) :=
    ((dropPresented_kept (f x)).andThen (cs := [.arbiter, .sound]) (select_kept _)).andThen (chimed_kept _ _)
  have hw := h.of_kept hchimed
  rw [arbiterEvent_eq, afterSelect_eq]
  split
  · exact hw.mono (by omega)
  · exact hw.queue hn 0x43 _ _ _ _ (by decide)

theorem LineStation.Waits.returnStatus {s : State} {cls n : Nat} {data : List Byte} (h : s.line.Waits 0x44 cls data n) (hn : n < 12)
    (x : Status) (r : List Byte) : (s.returnStatus x r).line.Waits 0x44 cls data (n + 1) :=
  LineStation.Waits.queue (s := s.setHandler { s.handler with state := .replying }) h hn _ _ _ _ _ (by decide)

theorem LineStation.Waits.settleStore {s : State} {cls n : Nat} {data : List Byte} (h : s.line.Waits 0x44 cls data n) (hn : n < 12) :
    s.settleStore.line.Waits 0x44 cls data (n + 1) := by
  rcases settleStore_cases s with ⟨x, hx, -⟩ | ⟨hx, -⟩
  · rw [hx]
    exact LineStation.Waits.returnStatus (s := s.setStore (s.store.settle settleFuel).1) h hn x []
  · rw [hx]
    exact LineStation.Waits.mono (l := (s.setStore _).line) h (by omega)

/-! ### The marks and the 44h -/

theorem lowestOpen_some {subs : List SubState} {p : Nat} (h : lowestOpen subs = some p) :
    subs[p]? = some .opened ∧ ∀ j < p, subs[j]? ≠ some .opened := by
  obtain ⟨hp, heq, hno⟩ := List.findIdx?_eq_some_iff_getElem.mp h
  refine ⟨by rw [List.getElem?_eq_getElem hp, beq_iff_eq.mp heq], fun j hj k => hno j hj ?_⟩
  rw [List.getElem?_eq_getElem (by omega)] at k
  rw [Option.some.inj k]
  rfl

theorem lowestOpen_none {subs : List SubState} : lowestOpen subs = none ↔ .opened ∉ subs := by
  unfold lowestOpen
  rw [List.findIdx?_eq_none_iff]
  constructor
  · intro h hm
    have := h _ hm
    cases this
  · exact fun h x hx => eq_false_of_ne_true fun k => h (beq_iff_eq.mp k ▸ hx)

theorem lowestOpen_of {subs : List SubState} {p : Nat} (h : subs[p]? = some .opened) (hno : ∀ j < p, subs[j]? ≠ some .opened) :
    lowestOpen subs = some p := by
  cases hl : lowestOpen subs with
  | none => exact absurd (List.mem_of_getElem? h) (lowestOpen_none.mp hl)
  | some q =>
    obtain ⟨hq, hnq⟩ := lowestOpen_some hl
    rcases Nat.lt_trichotomy p q with k | k | k
    · exact absurd h (hnq p k)
    · rw [k]
    · exact absurd hq (hno q k)

/-- The content of 44h: the sub-warnings acknowledged here. -/
def cascadeBytes (subs : List SubState) : List Byte := [byteOf (packCodes 1 (subs.map fun x => flagNat (x == .ackedLocal)))]

theorem bitAt_cascadeBytes {subs : List SubState} (hl : subs.length = 8) {j : Nat} (hj : j < 8) :
    bitAt (cascadeBytes subs) 0 j = (subs.getD j .none == .ackedLocal) := by
  show (byteOf _).toNat.testBit j = _
  have hmap : (subs.map fun x => flagNat (x == .ackedLocal)) = (subs.map fun x => x == .ackedLocal).map flagNat := by
    rw [List.map_map]
    rfl
  rw [testBit_byteOf _ hj, hmap, testBit_flags, List.getD_eq_getElem _ _ (by simpa [hl] using hj),
    List.getD_eq_getElem _ _ (by omega), List.getElem_map]

/-- The sub-warning marked, and the 44h queued. -/
def State.subMarked (s : State) (n : Nat) : State :=
  (s.setArbiter { s.arbiter with subs := s.arbiter.subs.set n .ackedLocal }).queueCascade

theorem subMarked_kept (s : State) (n : Nat) : KeptBut [.arbiter, .line, .handler] s (s.subMarked n) :=
  (setArbiter_kept s _).andThen (queueCascade_kept _)

theorem subMarked_arbiter (s : State) (n : Nat) :
    (s.subMarked n).arbiter = { s.arbiter with subs := s.arbiter.subs.set n .ackedLocal } :=
  (queueCascade_kept (s.setArbiter _)).arbiter

theorem subMarked_waits {s : State} (n : Nat) (h : s.line.queue.length < 10) :
    (s.subMarked n).line.Waits 0x44 1 (cascadeBytes (s.arbiter.subs.set n .ackedLocal)) 10 :=
  queue_waits (s := s.setArbiter { s.arbiter with subs := s.arbiter.subs.set n .ackedLocal }) 0x44 1 .publication _ .none
    (show s.line.queue.length ≤ 9 by omega) (by decide)

theorem acknowledgeSub_open {s : State} {n p : Nat} (h : lowestOpen (s.arbiter.subs.set n .ackedLocal) = some p) :
    s.acknowledgeSub n = if (s.warning 30).state.inService then (s.subMarked n).presentNext else s.subMarked n := by
  unfold State.acknowledgeSub
  dsimp only
  rw [show (lowestOpen (State.queueCascade _).arbiter.subs).isSome = true by
    rw [show (State.queueCascade _).arbiter.subs = _ from congrArg Arbiter.subs (subMarked_arbiter s n), h]; rfl]
  rfl

theorem acknowledgeSub_last {s : State} {n : Nat} (h : lowestOpen (s.arbiter.subs.set n .ackedLocal) = none) :
    s.acknowledgeSub n =
      if (s.warning 30).state.inService then ((s.subMarked n).takeLevel 30 false).rotate 30
      else (s.subMarked n).takeLevel 30 false := by
  unfold State.acknowledgeSub
  dsimp only
  rw [show (lowestOpen (State.queueCascade _).arbiter.subs).isSome = false by
    rw [show (State.queueCascade _).arbiter.subs = _ from congrArg Arbiter.subs (subMarked_arbiter s n), h]; rfl]
  rfl

/-! ### The presented sub-warning -/

/-- The next sub-warning presented, before the sound unit's notice. -/
def State.nextPresented (s : State) : State :=
  let s' := s.setArbiter { s.arbiter with presented := lowestOpen s.arbiter.subs }
  if (s.warning 30).state = .shown then s'.modifyWarning 30 fun v => { v with shownTimer := 0 } else s'

theorem presentNext_eq (s : State) : s.presentNext =
    if (s.warning 30).state = .shown then s.nextPresented.shownNotice 30 else s.nextPresented := by
  unfold State.presentNext State.nextPresented
  dsimp only
  split <;> rfl

theorem nextPresented_kept (s : State) : KeptBut [.arbiter] s s.nextPresented :=
  .ite ((setArbiter_kept s _).andThen (modifyWarning_kept _ _ _)) (setArbiter_kept s _)

theorem presentNext_arbiter (s : State) : s.presentNext.arbiter = s.nextPresented.arbiter := by
  rw [presentNext_eq]
  split
  · exact (shownNotice_kept _ _).arbiter
  · rfl

theorem nextPresented_rest (s : State) : s.nextPresented.arbiter =
    { s.arbiter with warnings := s.nextPresented.arbiter.warnings, presented := lowestOpen s.arbiter.subs } := by
  unfold State.nextPresented
  split <;> rfl

theorem nextPresented_warning (s : State) (v : Nat) : s.nextPresented.warning v =
    if v = 30 ∧ (s.warning 30).state = .shown then { s.warning v with shownTimer := 0 } else s.warning v := by
  unfold State.nextPresented
  dsimp only
  by_cases hs : (s.warning 30).state = .shown
  · rw [if_pos hs, warning_modifyWarning]
    by_cases hv : v = 30
    · rw [if_pos ⟨hv, hv ▸ warning_lt (s := s) (w := 30) (by rw [hs]; decide)⟩, if_pos ⟨hv, hs⟩]
      rfl
    · rw [if_neg fun k => hv k.1, if_neg fun k => hv k.1]
      rfl
  · rw [if_neg hs, if_neg fun k => hs k.2]
    rfl

end Sys2Proof.Machine
end

section
/-! SUPPORT. The arbiter event that acknowledges a sub-warning of the rear cascade, and the chime that follows it. -/
namespace Sys2Proof.Machine
set_option Elab.async false

/-! ### A sub-warning still OPEN -/

theorem subMarked_warning (x : State) (n v : Nat) : (x.subMarked n).warning v = x.warning v :=
  warning_of_warnings (by rw [subMarked_arbiter]) v

/-- What the acknowledgement leaves of the arbiter while the sub-warning `p` is the lowest OPEN one. -/
structure SubNext (x d : State) (n p : Nat) : Prop where
  warning : ∀ v, d.warning v = if v = 30 ∧ (x.warning 30).state = .shown then { x.warning v with shownTimer := 0 } else x.warning v
  presented : d.arbiter.presented = if (x.warning 30).state.inService then some p else x.arbiter.presented
  caution : d.arbiter.cautionOrder = x.arbiter.cautionOrder
  advisory : d.arbiter.advisoryOrder = x.arbiter.advisoryOrder
  subs : d.arbiter.subs = x.arbiter.subs.set n .ackedLocal

theorem acknowledgeSub_next {x : State} {n p : Nat} (h : lowestOpen (x.arbiter.subs.set n .ackedLocal) = some p) :
    SubNext x (x.acknowledgeSub n) n p := by
  have hmarked := subMarked_arbiter x n
  rw [acknowledgeSub_open h]
  by_cases hin : (x.warning 30).state.inService = true
  · have hlow : lowestOpen (x.subMarked n).arbiter.subs = some p := by rw [hmarked]; exact h
    have hrest := (presentNext_arbiter (x.subMarked n)).trans (nextPresented_rest _)
    rw [hlow, hmarked] at hrest
    rw [if_pos hin]
    refine ⟨fun v => ?_, ?_, ?_, ?_, ?_⟩
    · rw [warning_of_warnings (s := (x.subMarked n).nextPresented) (by rw [presentNext_arbiter]), nextPresented_warning,
        subMarked_warning, subMarked_warning]
    · rw [hrest, if_pos hin]
    · rw [hrest]
    · rw [hrest]
    · rw [hrest]
  · rw [if_neg hin]
    refine ⟨fun v => ?_, by rw [hmarked, if_neg hin], by rw [hmarked], by rw [hmarked], by rw [hmarked]⟩
    rw [subMarked_warning, if_neg fun k => hin (by rw [k.2]; rfl)]

theorem SubNext.state {x d : State} {n p : Nat} (h : SubNext x d n p) (v : Nat) : (d.warning v).state = (x.warning v).state := by
  rw [h.warning]
  split <;> rfl

/-! ### The last sub-warning -/

/-- What the acknowledgement of the last OPEN sub-warning leaves of the arbiter. -/
structure SubLast (x d : State) (n : Nat) : Prop where
  ends : EndsService x d 30
  warning : d.warning 30 = { x.warning 30 with
    state := .off, level := false, shownTimer := 0, completed := false, reminder := 0 }
  caution : d.arbiter.cautionOrder = if x.warningClass 30 = .caution ∧ (x.warning 30).state ∈ [.shown, .held] then
    x.arbiter.cautionOrder.filter (· ≠ 30) ++ [30] else x.arbiter.cautionOrder
  subs : d.arbiter.subs = x.arbiter.subs.set n .ackedLocal

theorem takeLevel_withdraws {x : Warning} (e : Bool) (h : x.level = true) :
    x.takeLevel e false = { x with state := .off, level := false, shownTimer := 0, completed := false, reminder := 0 } := by
  unfold Warning.takeLevel
  rw [if_neg (by simp), if_pos h]
  rfl

theorem rotate_subs (x : State) (w : Nat) : (x.rotate w).arbiter.subs = x.arbiter.subs := by
  unfold State.rotate
  split <;> rfl

theorem acknowledgeSub_withdraws {x : State} {n : Nat} (hc : x.OrdersComplete) (hl : (x.warning 30).level = true)
    (h : lowestOpen (x.arbiter.subs.set n .ackedLocal) = none) : SubLast x (x.acknowledgeSub n) n := by
  have hinner := acknowledgeSub_inner x n
  have hmarked := subMarked_arbiter x n
  rw [acknowledgeSub_last h] at hinner ⊢
  have hcautions : (x.subMarked n).arbiter.cautionOrder = x.arbiter.cautionOrder := by rw [hmarked]
  have hadvisories : (x.subMarked n).arbiter.advisoryOrder = x.arbiter.advisoryOrder := by rw [hmarked]
  have horders := left_orders (w := 30) (y := (x.subMarked n).takeLevel 30 false) hc (by decide) hcautions hadvisories
    (subMarked_kept x n).cal
  have hwarnings : (if (x.warning 30).state.inService then ((x.subMarked n).takeLevel 30 false).rotate 30
      else (x.subMarked n).takeLevel 30 false).arbiter.warnings = ((x.subMarked n).takeLevel 30 false).arbiter.warnings := by
    split
    · exact rotate_warnings _ _
    · rfl
  have hlen : (x.subMarked n).arbiter.warnings.length = 32 := by rw [hmarked]; exact hc.1
  have hat : ((x.subMarked n).takeLevel 30 false).warning 30 = { x.warning 30 with
      state := .off, level := false, shownTimer := 0, completed := false, reminder := 0 } := by
    unfold State.takeLevel
    rw [modifyWarning_new _ (by omega), subMarked_warning, takeLevel_withdraws _ hl]
  refine ⟨⟨hinner, ?_, fun v hv => ?_⟩, ?_, horders.1, ?_⟩
  · rw [warning_of_warnings hwarnings, hat]
    simp
  · rw [warning_of_warnings hwarnings]
    unfold State.takeLevel
    rw [modifyWarning_others _ hv, subMarked_warning]
  · rw [warning_of_warnings hwarnings, hat]
  · have hsubs : (x.subMarked n).arbiter.subs = x.arbiter.subs.set n .ackedLocal := by rw [hmarked]
    split
    · exact (rotate_subs _ 30).trans hsubs
    · exact hsubs

/-! ### The event -/

theorem select_presented_none {d : State} (h : d.arbiter.presented = none) (h30 : (d.warning 30).state ∉ [.pending, .held]) :
    d.select.arbiter.presented = none := by
  rcases select_shows d with hsel | ⟨w, hsel⟩
  · rw [hsel, h]
  · rw [hsel.presented, if_neg, h]
    rintro ⟨rfl, -⟩
    exact h30 hsel.before

/-- The line clause of `AcknowledgesSub`, with the room that is left. -/
def State.MarksWait (x : State) (n : Nat) (l : LineStation) (k : Nat) : Prop :=
  x.line.queue.length < 10 → l.Waits 0x44 1 (cascadeBytes (x.arbiter.subs.set n .ackedLocal)) k

theorem acknowledgeSub_waits {x : State} (n : Nat) : x.MarksWait n (x.acknowledgeSub n).line 10 := fun h => by
  have hw := subMarked_waits (s := x) n h
  have hkept : KeptBut [.arbiter, .sound] (x.subMarked n) (x.acknowledgeSub n) := by
    cases hl : lowestOpen (x.arbiter.subs.set n .ackedLocal) with
    | some p =>
      rw [acknowledgeSub_open hl]
      exact .ite (presentNext_kept _) (.refl _ _)
    | none =>
      rw [acknowledgeSub_last hl]
      have hk : KeptBut [.arbiter] (x.subMarked n) ((x.subMarked n).takeLevel 30 false) := takeLevel_kept _ _ _
      exact .ite (hk.andThen (cs := [.arbiter, .sound]) (rotate_kept _ _)) (hk.mono (by decide))
  exact hw.of_kept hkept

/-- What an event that acknowledges a sub-warning leaves of the arbiter. -/
structure SubTaken (x : State) (n : Nat) (t : State) : Prop where
  subs : t.arbiter.subs = x.arbiter.subs.set n .ackedLocal
  urgent : t.MostUrgentShown
  next : ∀ p, lowestOpen (x.arbiter.subs.set n .ackedLocal) = some p →
    t.warning 30 = (if (x.warning 30).state = .shown then { x.warning 30 with shownTimer := 0 } else x.warning 30) ∧
    (∀ v, v ≠ 30 → t.warning v = x.warning v) ∧
    ((x.warning 30).state ∈ [.shown, .held] → t.arbiter.presented = some p) ∧
    t.arbiter.cautionOrder = x.arbiter.cautionOrder ∧ t.arbiter.advisoryOrder = x.arbiter.advisoryOrder
  last : lowestOpen (x.arbiter.subs.set n .ackedLocal) = none →
    t.warning 30 = { x.warning 30 with state := .off, level := false, shownTimer := 0, completed := false, reminder := 0 } ∧
    t.arbiter.presented = none ∧
    (∀ v < 32, v ≠ 30 → (x.warning v).state ∉ [.pending, .held] → t.warning v = x.warning v) ∧
    t.arbiter.cautionOrder = if x.warningClass 30 = .caution ∧ (x.warning 30).state ∈ [.shown, .held] then
      x.arbiter.cautionOrder.filter (· ≠ 30) ++ [30] else x.arbiter.cautionOrder

section event

variable {x : State} {f : State → State} {n : Nat} (hf : f x = x.acknowledgeSub n) (hc : x.OrdersComplete) (hm : x.MostUrgentShown)
  (hl : (x.warning 30).level = true)

include hf

theorem subEvent_inner : Inner x (f x) := hf ▸ acknowledgeSub_inner x n

theorem subEvent_waits : x.MarksWait n (x.arbiterEvent f).line 11 := fun h => by
  have hw := acknowledgeSub_waits n h
  rw [← hf] at hw
  exact hw.event (by decide)

include hc hm

/-- The event while a sub-warning stays OPEN: no warning changes its state. -/
theorem subEvent_next {p : Nat} (h : lowestOpen (x.arbiter.subs.set n .ackedLocal) = some p) :
    (f x).dropPresented.select = (f x).dropPresented ∧
      (x.arbiterEvent f).arbiter.warnings = (f x).arbiter.warnings ∧
      (x.arbiterEvent f).arbiter.presented = if ((f x).warning 30).state.inService then (f x).arbiter.presented else none := by
  have hnext := acknowledgeSub_next h
  rw [← hf] at hnext
  have hquiet := (arbiterEvent_quiet (subEvent_inner hf) hc hm hnext.state).1
  have hstands := arbiterEvent_stands hquiet
  exact ⟨hquiet, by rw [hstands], by rw [hstands]⟩

include hl

theorem subEvent_taken : SubTaken x n (x.arbiterEvent f) := by
  obtain ⟨hcaution, hadvisory, hsubs, -⟩ := arbiterEvent_rest x f
  have hinner := subEvent_inner hf
  refine ⟨?_, arbiterEvent_mostUrgent hinner hc hm.1, fun p hp => ?_, fun hn => ?_⟩
  · rw [hsubs, hf]
    cases h : lowestOpen (x.arbiter.subs.set n .ackedLocal) with
    | some p => exact (acknowledgeSub_next h).subs
    | none => exact (acknowledgeSub_withdraws hc hl h).subs
  · obtain ⟨-, hwarnings, hpresented⟩ := subEvent_next hf hc hm hp
    have hnext := acknowledgeSub_next hp
    rw [← hf] at hnext
    refine ⟨?_, fun v hv => ?_, fun hin => ?_, hcaution.trans hnext.caution, hadvisory.trans hnext.advisory⟩
    · rw [warning_of_warnings hwarnings, hnext.warning]
      simp only [true_and]
    · rw [warning_of_warnings hwarnings, hnext.warning, if_neg fun k => hv k.1]
    · have hserves : (x.warning 30).state.inService = true := inService_mem.mpr hin
      rw [hpresented, hnext.state, if_pos hserves, hnext.presented, if_pos hserves]
  · have hlast := acknowledgeSub_withdraws hc hl hn
    rw [← hf] at hlast
    obtain ⟨hw, -, hothers⟩ := hlast.ends.event hc hm
    have hoff : ((f x).warning 30).state = .off := by rw [hlast.warning]
    refine ⟨hw.trans hlast.warning, ?_, hothers, hcaution.trans hlast.caution⟩
    rw [arbiterEvent_eq, afterSelect_arbiter]
    refine select_presented_none ?_ (by rw [dropPresented_warning, hoff]; decide)
    rw [dropPresented_presented, hoff]
    rfl

/-- The chime: a notice for the next sub-warning presented, or the selection's. -/
theorem subEvent_chime : x.ChimeFollowsSub n x.sound (x.arbiterEvent f) := by
  have hinner := subEvent_inner hf
  have hlen32 : (f x).dropPresented.arbiter.warnings.length = 32 :=
    (hinner.trans (dropPresented_inner _)).rings.length.trans hc.1
  have hone : (f x).dropPresented.shownCount ≤ 1 := (hinner.trans (dropPresented_inner _)).rings.shownCount hm.1
  refine ⟨fun ⟨hs, hopen⟩ => ?_, fun hno => ?_⟩
  · obtain ⟨p, hp⟩ : ∃ p, lowestOpen (x.arbiter.subs.set n .ackedLocal) = some p := by
      cases h : lowestOpen (x.arbiter.subs.set n .ackedLocal) with
      | some p => exact ⟨p, rfl⟩
      | none => exact absurd hopen (lowestOpen_none.mp h)
    have hnext := acknowledgeSub_next hp
    rw [← hf] at hnext
    obtain ⟨hquiet, -, -⟩ := subEvent_next hf hc hm hp
    have hfx : f x = (x.subMarked n).nextPresented.shownNotice 30 := by
      rw [hf, acknowledgeSub_open hp, if_pos (by rw [hs]; rfl), presentNext_eq, if_pos (by rw [subMarked_warning]; exact hs)]
    have hkept := (subMarked_kept x n).andThen (cs := [.arbiter, .line, .handler]) (nextPresented_kept _)
    have hsound : (f x).dropPresented.sound = (f x).sound := (dropPresented_kept _).sound
    have hnotice : x.NoticeTaken 30 (f x).dropPresented :=
      noticeTaken_sound (fun u hu => chimes_congr hsound hu)
        (noticeTaken_congr hkept.cal hkept.sound (hfx ▸ shownNotice_taken (x.subMarked n).nextPresented 30))
    have hsounds : (f x).dropPresented.SoundsAs x.sound := by
      have := shownNotice_soundsAs (x.subMarked n).nextPresented 30
      rw [← hfx, hkept.sound] at this
      unfold State.SoundsAs at *
      rw [hsound]
      exact this
    rw [arbiterEvent_eq, hquiet]
    refine ⟨noticeTaken_sound (fun u hu => afterSelect_chimes (fun _ => shown_isSome_iff.mpr ⟨30, ?_⟩) hu) hnotice,
      afterSelect_output hlen32 hone hsounds⟩
    rw [dropPresented_warning, hnext.state, hs]
  · cases h : lowestOpen (x.arbiter.subs.set n .ackedLocal) with
    | some p =>
      have hnext := acknowledgeSub_next h
      rw [← hf] at hnext
      have hnot : (x.warning 30).state ≠ .shown := fun hs => hno ⟨hs, List.mem_of_getElem? (lowestOpen_some h).1⟩
      have hsame : ∀ v, (f x).warning v = x.warning v := fun v => by rw [hnext.warning, if_neg fun k => hnot k.2]
      have hfx : (f x).sound = x.sound := by
        rw [hf, acknowledgeSub_open h]
        split
        · rw [presentNext_eq, if_neg (by rw [subMarked_warning]; exact hnot), (nextPresented_kept _).sound,
            (subMarked_kept x n).sound]
        · exact (subMarked_kept x n).sound
      refine arbiterEvent_chime hinner hc.1 hm.1 hfx (fun v _ _ hlevel => by rw [hsame]; exact hlevel) (fun v hv hp => ?_)
      rw [hsame, hv] at hp
      cases hp
    | none =>
      have hlast := acknowledgeSub_withdraws hc hl h
      rw [← hf] at hlast
      have hfx : (f x).sound = x.sound := by
        rw [hf, acknowledgeSub_last h]
        have hk : KeptBut [.arbiter, .line, .handler] x ((x.subMarked n).takeLevel 30 false) :=
          (subMarked_kept x n).andThen (takeLevel_kept _ _ _)
        split
        · exact (rotate_kept _ _).sound.trans hk.sound
        · exact hk.sound
      exact hlast.ends.chime hc hm hfx

end event

/-- The event's outcome in the obligation's terms, as blocks outside the arbiter change around it. -/
theorem acknowledgesSub_of {s x t t' : State} {n : Nat} (h : SubTaken x n t) (hx : x.arbiter = s.arbiter) (hcal : x.cal = s.cal)
    (ht : t'.arbiter = t.arbiter) (htcal : t'.cal = t.cal) (hline : s.MarksWait n t'.line 12) : s.AcknowledgesSub n t' := by
  have hwx : ∀ v, x.warning v = s.warning v := warning_of_warnings (by rw [hx])
  have hwt : ∀ v, t'.warning v = t.warning v := warning_of_warnings (by rw [ht])
  obtain ⟨hsubs, hurgent, hnext, hlast⟩ := h
  simp only [hwx, warningClass_of_cal hcal, hx] at hsubs hnext hlast
  have hcount : t'.shownCount = t.shownCount := by unfold State.shownCount; rw [ht]
  unfold State.MostUrgentShown at hurgent
  unfold State.AcknowledgesSub State.MostUrgentShown
  simp only [hcount, hwt, warningClass_of_cal htcal, ht]
  refine ⟨hsubs, hurgent, fun hroom hlen => ?_, fun p hp hno => hnext p (lowestOpen_of hp hno), fun hno => ?_⟩
  · obtain ⟨-, m, hm, htopic, hstart, hcls, hdata⟩ := hline hroom
    refine ⟨m, hm, htopic, hstart, hcls, by rw [hdata]; rfl, fun j hj => ?_⟩
    rw [hdata, bitAt_cascadeBytes (by rw [List.length_set]; exact hlen) hj]
  · obtain ⟨hw, hpresented, hothers, hcaution⟩ := hlast (lowestOpen_none.mpr hno)
    refine ⟨hw, hpresented, hothers, fun hcls => ?_⟩
    rw [hcaution]
    simp only [hcls, true_and]

end Sys2Proof.Machine
end

section
/-! SUPPORT. The review: the order in which it goes through the SILENCED warnings, and what its step leaves. -/
namespace Sys2Proof.Machine
set_option Elab.async false

/-! ### Least elements of a sorted list -/

theorem head_of_pairwise {R : Nat → Nat → Prop} {l : List Nat} (h : l.Pairwise R) (hasym : ∀ a b, R a b → ¬R b a) {v : Nat} :
    l.head? = some v ↔ v ∈ l ∧ ∀ u ∈ l, u = v ∨ R v u := by
  cases l with
  | nil => simp
  | cons a l =>
    obtain ⟨ha, -⟩ := List.pairwise_cons.mp h
    rw [List.head?_cons, Option.some.injEq]
    constructor
    · rintro rfl
      refine ⟨List.mem_cons_self, fun u hu => ?_⟩
      rcases List.mem_cons.mp hu with k | k
      · exact .inl k
      · exact .inr (ha u k)
    · rintro ⟨hv, hmin⟩
      rcases List.mem_cons.mp hv with k | k
      · exact k.symm
      · exact (hmin a List.mem_cons_self).resolve_right fun hva => hasym _ _ hva (ha v k)

/-- After `r` a sorted list holds its elements that `r` comes before. -/
theorem mem_after_of_pairwise {R : Nat → Nat → Prop} {l : List Nat} (h : l.Pairwise R) (hasym : ∀ a b, R a b → ¬R b a) {r : Nat}
    (hr : r ∈ l) : ((l.dropWhile (· != r)).drop 1).Pairwise R ∧ ∀ u, u ∈ (l.dropWhile (· != r)).drop 1 ↔ u ∈ l ∧ R r u := by
  induction l with
  | nil => cases hr
  | cons a l ih =>
    obtain ⟨ha, hl⟩ := List.pairwise_cons.mp h
    by_cases har : a = r
    · subst har
      rw [List.dropWhile_cons_of_neg (by simp)]
      refine ⟨hl, fun u => ⟨fun hu => ⟨List.mem_cons_of_mem _ hu, ha u hu⟩, fun ⟨hu, hau⟩ => ?_⟩⟩
      rcases List.mem_cons.mp hu with k | k
      · subst k
        exact absurd hau (hasym _ _ hau)
      · exact k
    · have hrl := (List.mem_cons.mp hr).resolve_left (Ne.symm har)
      rw [List.dropWhile_cons_of_pos (by simpa using har)]
      obtain ⟨hpair, hmem⟩ := ih hl hrl
      refine ⟨hpair, fun u => (hmem u).trans ⟨fun ⟨hu, hru⟩ => ⟨List.mem_cons_of_mem _ hu, hru⟩, fun ⟨hu, hru⟩ => ⟨?_, hru⟩⟩⟩
      rcases List.mem_cons.mp hu with k | k
      · subst k
        exact absurd hru (hasym _ _ (ha r hrl))
      · exact k

theorem nextAfter_iff {R : Nat → Nat → Prop} {l : List Nat} (h : l.Pairwise R) (hasym : ∀ a b, R a b → ¬R b a) {r v : Nat}
    (hr : r ∈ l) : nextAfter r l = some v ↔ (v ∈ l ∧ R r v) ∧ ∀ u, u ∈ l → R r u → u = v ∨ R v u := by
  obtain ⟨hpair, hmem⟩ := mem_after_of_pairwise h hasym hr
  unfold nextAfter
  rw [head_of_pairwise hpair hasym]
  simp only [hmem, and_imp]

/-! ### The review's order -/

theorem reviewedBefore_asymm (s : State) (v w : Nat) (h : s.ReviewedBefore v w) : ¬s.ReviewedBefore w v := by
  intro k
  unfold State.ReviewedBefore at h k
  rcases h with h | ⟨hc, h⟩ <;> rcases k with k | ⟨kc, k⟩
  · omega
  · rw [kc] at h; omega
  · rw [hc] at k; omega
  · rw [hc] at k
    cases hw : s.warningClass w <;> rw [hw] at h k <;> simp only at h k <;> omega

theorem idxOf_pairwise {l : List Nat} (h : l.Nodup) : l.Pairwise fun v w => l.idxOf v < l.idxOf w := by
  rw [List.pairwise_iff_getElem]
  intro i j hi hj hij
  rwa [h.idxOf_getElem, h.idxOf_getElem]

/-- Within a class the review goes by the rotation order, or by number. -/
theorem classOrder_pairwise {s : State} (hc : s.OrdersComplete) (ho : s.OrdersOnce) (c : WarnClass) :
    (s.classOrder c).Pairwise s.ReviewedBefore := by
  have hmem (w : Nat) (hw : w ∈ s.classOrder c) : s.warningClass w = c := ((mem_classOrder hc).mp hw).2
  have hrange : ((List.range 32).filter fun w => s.warningClass w == c).Pairwise (· < ·) :=
    List.pairwise_lt_range.filter _
  have hof {R : Nat → Nat → Prop} (h : (s.classOrder c).Pairwise R)
      (k : ∀ v w, s.warningClass v = c → s.warningClass w = c → R v w → s.ReviewedBefore v w) :
      (s.classOrder c).Pairwise s.ReviewedBefore :=
    h.imp_of_mem fun {v w} hv hw hr => k v w (hmem v hv) (hmem w hw) hr
  cases c with
  | caution => exact hof (idxOf_pairwise ho.1) fun v w hv hw h => .inr ⟨hv.trans hw.symm, by rw [hw]; exact h⟩
  | advisory => exact hof (idxOf_pairwise ho.2) fun v w hv hw h => .inr ⟨hv.trans hw.symm, by rw [hw]; exact h⟩
  | danger => exact hof hrange fun v w hv hw h => .inr ⟨hv.trans hw.symm, by rw [hw]; exact h⟩
  | information => exact hof hrange fun v w hv hw h => .inr ⟨hv.trans hw.symm, by rw [hw]; exact h⟩

theorem allClasses_ranks : allClasses.Pairwise fun c d => c.rank < d.rank := by decide

theorem mem_allClasses (c : WarnClass) : c ∈ allClasses := by cases c <;> decide

theorem mem_reviewOrder {s : State} (hc : s.OrdersComplete) (w : Nat) :
    w ∈ s.reviewOrder ↔ w < 32 ∧ (s.warning w).state = .silenced := by
  unfold State.reviewOrder
  simp only [List.mem_flatMap, List.mem_filter, mem_classOrder hc, beq_iff_eq]
  exact ⟨fun ⟨_, _, ⟨hw, _⟩, hs⟩ => ⟨hw, hs⟩, fun ⟨hw, hs⟩ => ⟨_, mem_allClasses _, ⟨hw, rfl⟩, hs⟩⟩

theorem reviewOrder_pairwise {s : State} (hc : s.OrdersComplete) (ho : s.OrdersOnce) :
    s.reviewOrder.Pairwise s.ReviewedBefore := by
  unfold State.reviewOrder
  refine List.pairwise_flatMap.mpr ⟨fun c _ => (classOrder_pairwise hc ho c).filter _, ?_⟩
  refine allClasses_ranks.imp fun {c d} hcd v hv w hw => .inl ?_
  obtain ⟨-, hv⟩ := (mem_classOrder hc).mp (List.mem_of_mem_filter hv)
  obtain ⟨-, hw⟩ := (mem_classOrder hc).mp (List.mem_of_mem_filter hw)
  rw [hv, hw]
  exact hcd

/-! ### The step -/

/-- The warning that the review goes to. -/
def State.reviewNext (s : State) : Option Nat :=
  match s.arbiter.review with
  | some r => nextAfter r.warning s.reviewOrder
  | none => s.reviewOrder.head?

theorem reviewStep_eq (s : State) :
    s.reviewStep = s.setArbiter { s.arbiter with review := s.reviewNext.map fun w => ⟨w, 40⟩ } := rfl

theorem reviewNext_iff {s : State} (hc : s.OrdersComplete) (ho : s.OrdersOnce)
    (hr : ∀ r, s.arbiter.review = some r → r.warning < 32 ∧ (s.warning r.warning).state = .silenced) (v : Nat) :
    s.reviewNext = some v ↔ s.ReviewGoesTo v := by
  have hpair := reviewOrder_pairwise hc ho
  have hasym := reviewedBefore_asymm s
  unfold State.reviewNext State.ReviewGoesTo
  dsimp only
  cases h : s.arbiter.review with
  | none =>
    dsimp only
    rw [head_of_pairwise hpair hasym]
    simp only [mem_reviewOrder hc]
    simp
  | some r =>
    obtain ⟨hlt, hsil⟩ := hr r h
    dsimp only
    rw [nextAfter_iff hpair hasym ((mem_reviewOrder hc r.warning).mpr ⟨hlt, hsil⟩)]
    simp only [mem_reviewOrder hc, Option.some.injEq, forall_eq', and_assoc, and_imp]

theorem reviewNext_silenced {s : State} (hc : s.OrdersComplete) (ho : s.OrdersOnce)
    (hr : ∀ r, s.arbiter.review = some r → r.warning < 32 ∧ (s.warning r.warning).state = .silenced) {v : Nat}
    (h : s.reviewNext = some v) : (s.warning v).state = .silenced := ((reviewNext_iff hc ho hr v).mp h).1.2.1

/-- The event of a review step, with none SHOWN. -/
theorem reviewEvent {x : State} {f : State → State} (hf : f x = x.reviewStep) (hc : x.OrdersComplete) (ho : x.OrdersOnce)
    (hm : x.MostUrgentShown) (hno : ∀ v < 32, (x.warning v).state ≠ .shown)
    (hr : ∀ r, x.arbiter.review = some r → r.warning < 32 ∧ (x.warning r.warning).state = .silenced) :
    (x.arbiterEvent f).arbiter = { x.arbiter with review := x.reviewNext.map fun w => ⟨w, 40⟩, presented := none } ∧
      KeptBut [.arbiter, .sound] x (x.arbiterEvent f) ∧ x.ChimeFollows x.sound (x.arbiterEvent f) := by
  have hinner : Inner x (f x) := hf ▸ reviewStep_inner x
  have hsame (v : Nat) : (f x).warning v = x.warning v := by rw [hf]; rfl
  obtain ⟨hsel, hevent⟩ := arbiterEvent_quiet hinner hc hm fun v => by rw [hsame]
  have hreview : (f x).standingReview = x.reviewNext.map fun w => ⟨w, 40⟩ := by
    unfold State.standingReview
    rw [hf, reviewStep_eq]
    dsimp only [State.setArbiter_arbiter]
    cases h : x.reviewNext with
    | none => rfl
    | some w =>
      have hsil : ((x.setArbiter { x.arbiter with review := some ⟨w, 40⟩ }).warning w).state = .silenced :=
        reviewNext_silenced hc ho hr h
      rw [Option.map_some, Option.filter_some, if_pos]
      exact beq_iff_eq.mpr hsil
  have h30 : (x.warning 30).state.inService = false := by
    have hshown := hno 30 (by decide)
    have hheld := (hm.2.2 hno 30 (by decide)).2
    cases hs : (x.warning 30).state <;> first | rfl | exact absurd hs hshown | exact absurd hs hheld
  refine ⟨?_, ?_, ?_⟩
  · rw [arbiterEvent_stands hsel, hreview, hsame, h30, hf]
    rfl
  · have hkept : KeptBut [.arbiter] x (f x) := by rw [hf]; exact reviewStep_kept x
    rw [hevent]
    exact (hkept.andThen (cs := [.arbiter]) (dropPresented_kept _)).andThen (chimed_kept _ _)
  · refine arbiterEvent_chime hinner hc.1 hm.1 (by rw [hf]; rfl) (fun v _ _ hl => by rw [hsame]; exact hl) (fun v hv hp => ?_)
    rw [hsame, hv] at hp
    cases hp

end Sys2Proof.Machine
end

section
/-! SUPPORT. The acknowledgements by key, by the workshop, by the pattern's end and by the 4 s mark. Settles O47. -/
namespace Sys2Proof.Machine
set_option Elab.async false

/-! ### The ACK key -/

/-- What an ACK press asks of the arbiter. -/
def State.ackTaken (s : State) : State :=
  match s.shown with
  | some w => if s.guarded w then s else s.acknowledgeAny w
  | none => s.reviewStep

theorem ackPress_eq (s : State) : s.ackPress = s.arbiterEvent State.ackTaken := rfl

theorem ackTaken_kept (s : State) : KeptBut arbiterBlocks s s.ackTaken := by
  unfold State.ackTaken
  split
  · exact .ite (.refl _ _) (acknowledgeAny_kept s _)
  · exact (reviewStep_kept s).mono (by decide)

theorem restartIdle_normal {c : Counting} (h : c.clockSet = .normal) : c.restartIdle = c := if_pos h

/-- The state that the event of an ACK press starts from. -/
theorem ackBegins_reads (s : State) : s.ackBegins.arbiter = s.arbiter ∧ s.ackBegins.cal = s.cal ∧
    s.ackBegins.sound = s.sound.clicked ∧ s.ackBegins.line = s.line ∧ s.ackBegins.store = s.store :=
  have hk := ackBegins_kept s
  ⟨hk.arbiter, hk.cal, click_eq s.sound, hk.line, hk.store⟩

/-- An accepted press of ACK: the arbiter's event, whose outcome the rest of the command leaves. -/
theorem exec_ackKey {s : State} (h : s.KeyReady .ack) :
    ∃ t, exec (.keyPress .ack) s = .next t ∧
      KeptBut [.line, .handler, .store, .keys, .display] (s.ackBegins.arbiterEvent State.ackTaken) t ∧
      KeptBut [.keys, .counting, .arbiter, .sound, .store, .line, .handler, .display] s t ∧
      (s.counting.clockSet = .normal → t.counting = s.counting) ∧
      (s.store.Settled → KeptBut [.keys, .display] (s.ackBegins.arbiterEvent State.ackTaken) t) ∧
      ∀ cls data n, n < 12 → (s.ackBegins.arbiterEvent State.ackTaken).line.Waits 0x44 cls data n →
        t.line.Waits 0x44 cls data (n + 1) := by
  have hevent := arbiterEvent_kept s.ackBegins (ackTaken_kept s.ackBegins)
  have hbegin := ackBegins_kept s
  have hsettle := settleStore_kept (s.ackBegins.arbiterEvent State.ackTaken)
  have hpresent := present_kept s (s.ackBegins.arbiterEvent State.ackTaken).settleStore
  refine ⟨_, exec_next rfl (congrArg State.settleStore (pressKey_ack h)), ?_, ?_, fun hn => ?_, fun hs => ?_, fun cls data n hn hw => ?_⟩
  · exact hsettle.andThen hpresent
  · exact ((hbegin.andThen (cs := [.keys, .counting, .arbiter, .sound, .line, .handler]) hevent).andThen
      (cs := [.keys, .counting, .arbiter, .sound, .store, .line, .handler]) hsettle).andThen hpresent
  · rw [State.present_counting, show s.ackBegins.ackPress = s.ackBegins.arbiterEvent State.ackTaken from rfl, hsettle.counting,
      hevent.counting]
    exact restartIdle_normal hn
  · have hsame := settleStore_of_store (u := s.ackBegins.arbiterEvent State.ackTaken) hs (hevent.store.trans hbegin.store)
    rw [show s.ackBegins.ackPress = s.ackBegins.arbiterEvent State.ackTaken from rfl, hsame]
    exact present_kept s _
  · exact (hw.settleStore hn).of_kept hpresent

theorem ackBegins_complete {s : State} (hc : s.OrdersComplete) (hm : s.MostUrgentShown) :
    s.ackBegins.OrdersComplete ∧ s.ackBegins.MostUrgentShown :=
  ⟨complete_of_kept (ackBegins_kept s) hc, mostUrgent_of_kept (ackBegins_kept s) hm⟩

theorem ackBegins_warning (s : State) (v : Nat) : s.ackBegins.warning v = s.warning v :=
  warning_of_warnings (by rw [(ackBegins_reads s).1]) v

theorem guarded_iff {s : State} {w : Nat} : s.guarded w = true ↔ s.warningClass w = .danger ∧ (s.warning w).shownTimer < 30 := by
  unfold State.guarded
  rw [Bool.and_eq_true, beq_iff_eq, decide_eq_true_iff]

theorem ackTaken_shown {x : State} {w : Nat} (hone : x.shownCount ≤ 1) (hs : (x.warning w).state = .shown) :
    x.ackTaken = if x.guarded w then x else x.acknowledgeAny w := by
  unfold State.ackTaken
  rw [shown_of_state hone hs]

theorem ackBegins_guarded (s : State) (w : Nat) : s.ackBegins.guarded w = s.guarded w := by
  unfold State.guarded
  rw [ackBegins_warning, warningClass_of_cal (ackBegins_reads s).2.1]

/-- With none SHOWN the press steps the review. -/
theorem ackKey_reviews {s : State} (h : s.KeyReady .ack) (hc : s.OrdersComplete) (hm : s.MostUrgentShown)
    (hno : ∀ v < 32, (s.warning v).state ≠ .shown) (ho : s.OrdersOnce)
    (hr : ∀ r, s.arbiter.review = some r → r.warning < 32 ∧ (s.warning r.warning).state = .silenced) :
    ∃ t, exec (.keyPress .ack) s = .next t ∧ t.arbiter = { s.arbiter with review := t.arbiter.review, presented := none } ∧
        KeptBut [.keys, .counting, .arbiter, .sound, .store, .line, .handler, .display] s t ∧
        s.ChimeFollows s.sound.clicked t ∧ (s.counting.clockSet = .normal → t.counting = s.counting) ∧
        (s.store.Settled → KeptBut [.keys, .counting, .arbiter, .sound, .display] s t) ∧
        (∀ v, s.ReviewGoesTo v → t.arbiter.review = some { warning := v, timer := 40 }) ∧
        ((∀ v, ¬s.ReviewGoesTo v) → t.arbiter.review = none) := by
  obtain ⟨harbiter, hcal, hsound, -, -⟩ := ackBegins_reads s
  obtain ⟨hxc, hxm⟩ := ackBegins_complete hc hm
  obtain ⟨t, hexec, hkt, hks, hcounting, hsettled, -⟩ := exec_ackKey h
  have hnone : s.ackBegins.shown = none := shown_eq_none_iff.mpr fun v hv => by
    rw [ackBegins_warning] at hv
    exact hno v (hc.1 ▸ warning_lt (by rw [hv]; decide)) hv
  have htaken : s.ackBegins.ackTaken = s.ackBegins.reviewStep := by
    unfold State.ackTaken
    rw [hnone]
  obtain ⟨hevent, hkept, hchime⟩ := reviewEvent (x := s.ackBegins) (f := State.ackTaken) htaken hxc
    (by unfold State.OrdersOnce; rw [harbiter]; exact ho) hxm (fun v hv => by rw [ackBegins_warning]; exact hno v hv)
    (fun r hrx => by rw [ackBegins_warning]; exact hr r (harbiter ▸ hrx))
  have hnext : s.ackBegins.reviewNext = s.reviewNext := by
    unfold State.reviewNext State.reviewOrder State.classOrder
    simp only [harbiter, ackBegins_warning, warningClass_of_cal hcal]
  rw [harbiter, hnext] at hevent
  have hta : t.arbiter = { s.arbiter with review := s.reviewNext.map fun w => ⟨w, 40⟩, presented := none } := hkt.arbiter.trans hevent
  refine ⟨t, hexec, by rw [hta], hks, chimeFollows_of_kept hkt (chimeFollows_of_clicked harbiter hcal hsound hchime), hcounting,
    fun hs => ?_, fun v hv => ?_, fun hn => ?_⟩
  · exact ((ackBegins_kept s).andThen (cs := [.keys, .counting, .arbiter, .sound]) hkept).andThen (hsettled hs)
  · rw [hta, (reviewNext_iff hc ho hr v).mpr hv]
    rfl
  · rw [hta, show s.reviewNext = none from Option.eq_none_iff_forall_ne_some.mpr fun v hv =>
      hn v ((reviewNext_iff hc ho hr v).mp hv)]
    rfl

theorem acknowledgeAny_other {x : State} {w : Nat} (h : w ≠ 30) : x.acknowledgeAny w = x.acknowledge w := if_neg h

/-- The press on a SHOWN warning but 30. -/
theorem ackKey_acknowledges {s : State} (h : s.KeyReady .ack) (hc : s.OrdersComplete) (hm : s.MostUrgentShown) {w : Nat}
    (hs : (s.warning w).state = .shown) (h30 : w ≠ 30) :
    ∃ t, exec (.keyPress .ack) s = .next t ∧
        KeptBut [.keys, .counting, .arbiter, .sound, .store, .line, .handler, .display] s t ∧
        s.ChimeFollows s.sound.clicked t ∧
        (s.counting.clockSet = .normal → t.counting = s.counting) ∧ (s.store.Settled → t.store = s.store) ∧
        (s.warningClass w = .danger ∧ (s.warning w).shownTimer < 30 → t.arbiter.warnings = s.arbiter.warnings) ∧
        (¬(s.warningClass w = .danger ∧ (s.warning w).shownTimer < 30) → s.Acknowledges w t) := by
  obtain ⟨harbiter, hcal, hsound, -, hstore⟩ := ackBegins_reads s
  obtain ⟨hxc, hxm⟩ := ackBegins_complete hc hm
  obtain ⟨t, hexec, hkt, hks, hcounting, hsettled, -⟩ := exec_ackKey h
  have hevent := arbiterEvent_kept s.ackBegins (ackTaken_kept s.ackBegins)
  have htaken := ackTaken_shown hxm.1 (by rw [ackBegins_warning]; exact hs)
  rw [ackBegins_guarded, acknowledgeAny_other h30] at htaken
  have hw : w < 32 := hc.1 ▸ warning_lt (by rw [hs]; decide)
  have hfinal (hchime : s.ackBegins.ChimeFollows s.ackBegins.sound (s.ackBegins.arbiterEvent State.ackTaken)) :
      s.ChimeFollows s.sound.clicked t := chimeFollows_of_kept hkt (chimeFollows_of_clicked harbiter hcal hsound hchime)
  have hst : s.store.Settled → t.store = s.store := fun k => by rw [(hsettled k).store, hevent.store, hstore]
  by_cases hg : s.guarded w = true
  · rw [if_pos hg] at htaken
    have hinner : Inner s.ackBegins s.ackBegins.ackTaken := by rw [htaken]; exact .refl _
    have hchime := arbiterEvent_chime_kept hinner hxc hxm (by rw [htaken]) fun v hv => by rw [htaken, hv]; exact ⟨nofun, rfl⟩
    refine ⟨t, hexec, hks, hfinal hchime, hcounting, hst, fun _ => ?_, fun hno => absurd (guarded_iff.mp hg) hno⟩
    rw [hkt.arbiter, arbiterEvent_same hinner hxc hxm (by rw [htaken]), harbiter]
  · rw [if_neg hg] at htaken
    have hacked : Acked s.ackBegins s.ackBegins.ackTaken w := htaken ▸ acked_acknowledge _ w
    obtain ⟨hack, hchime⟩ := hacked.event hxc hxm hw
    exact ⟨t, hexec, hks, hfinal hchime, hcounting, hst, fun k => absurd (guarded_iff.mpr k) hg,
      fun _ => acknowledges_of_kept hack harbiter hcal hkt.arbiter hkt.cal⟩

/-! ### The sub-warnings of warning 30 -/

/-- The sub-warning that an acknowledgement of warning 30 takes. -/
theorem acknowledgeAny_sub {x : State} {n : Nat} (hstate : (x.warning 30).state ∈ [.pending, .shown, .held])
    (hpresented : (x.warning 30).state ∈ [.shown, .held] → x.arbiter.presented = some n)
    (hpending : (x.warning 30).state = .pending →
      x.arbiter.subs[n]? = some .opened ∧ ∀ j < n, x.arbiter.subs[j]? ≠ some .opened) :
    x.acknowledgeAny 30 = x.acknowledgeSub n := by
  unfold State.acknowledgeAny State.acknowledgeCascade
  rw [if_pos rfl]
  dsimp only
  by_cases hin : (x.warning 30).state.inService = true
  · rw [if_pos hin, hpresented (inService_mem.mp hin)]
  · have hp : (x.warning 30).state = .pending := by
      simp only [List.mem_cons, List.not_mem_nil, or_false] at hstate
      rcases hstate with k | k | k
      · exact k
      all_goals exact absurd (by rw [k]; rfl) hin
    rw [if_neg hin, lowestOpen_of (hpending hp).1 (hpending hp).2]

/-- Which sub-warning stands for acknowledgement. -/
structure State.SubAsked (s : State) (n : Nat) : Prop where
  level : (s.warning 30).level = true
  state : (s.warning 30).state ∈ [.pending, .shown, .held]
  presented : (s.warning 30).state ∈ [.shown, .held] → s.arbiter.presented = some n
  lowest : (s.warning 30).state = .pending → s.arbiter.subs[n]? = some .opened ∧ ∀ j < n, s.arbiter.subs[j]? ≠ some .opened

theorem State.SubAsked.of_arbiter {s x : State} {n : Nat} (h : s.SubAsked n) (ha : x.arbiter = s.arbiter) : x.SubAsked n := by
  obtain ⟨h1, h2, h3, h4⟩ := h
  have hw : x.warning 30 = s.warning 30 := warning_of_warnings (by rw [ha]) 30
  exact ⟨by rw [hw]; exact h1, by rw [hw]; exact h2, by rw [hw, ha]; exact h3, by rw [hw, ha]; exact h4⟩

theorem State.SubAsked.takes {x : State} {n : Nat} (h : x.SubAsked n) : x.acknowledgeAny 30 = x.acknowledgeSub n :=
  acknowledgeAny_sub h.state h.presented h.lowest

theorem ackKey_sub {s : State} {n : Nat} (h : s.KeyReady .ack) (hc : s.OrdersComplete) (hm : s.MostUrgentShown) (hask : s.SubAsked n)
    (hs : (s.warning 30).state = .shown) (hg : ¬(s.warningClass 30 = .danger ∧ (s.warning 30).shownTimer < 30)) :
    ∃ t, exec (.keyPress .ack) s = .next t ∧ s.AcknowledgesSub n t ∧ s.ChimeFollowsSub n s.sound.clicked t ∧
      KeptBut [.keys, .counting, .arbiter, .sound, .store, .line, .handler, .display] s t := by
  obtain ⟨harbiter, hcal, hsound, hline, -⟩ := ackBegins_reads s
  obtain ⟨hxc, hxm⟩ := ackBegins_complete hc hm
  obtain ⟨t, hexec, hkt, hks, -, -, hwaits⟩ := exec_ackKey h
  have hxask := hask.of_arbiter harbiter
  have htaken : s.ackBegins.ackTaken = s.ackBegins.acknowledgeSub n := by
    rw [ackTaken_shown hxm.1 (by rw [ackBegins_warning]; exact hs), ackBegins_guarded,
      if_neg fun k => hg (guarded_iff.mp k), hxask.takes]
  have hw : ∀ v, s.ackBegins.warning v = s.warning v := ackBegins_warning s
  refine ⟨t, hexec, acknowledgesSub_of (subEvent_taken htaken hxc hxm hxask.level) harbiter hcal hkt.arbiter hkt.cal fun hroom => ?_,
    ?_, hks⟩
  · have := subEvent_waits htaken (by rw [hline]; exact hroom)
    rw [harbiter] at this
    exact hwaits _ _ _ (by decide) this
  · obtain ⟨hrestart, hno⟩ := subEvent_chime htaken hxc hxm hxask.level
    unfold State.ChimeFollowsSub
    rw [harbiter, hw] at hrestart hno
    refine ⟨fun k => ?_, fun k => chimeFollows_of_kept hkt (chimeFollows_of_clicked harbiter hcal hsound (hno k))⟩
    obtain ⟨hnotice, houtput⟩ := hrestart k
    rw [hsound] at houtput
    exact ⟨noticeTaken_sound (fun u => chimes_congr hkt.sound) (noticeTaken_of_clicked hcal hsound hnotice),
      chimeOutput_of_kept hkt houtput⟩

/-! ### The workshop -/

theorem exec_acknowledge {s : State} {b : Byte} (h : s.TakesRequest) (hb : b.toNat < 32) :
    exec (.acknowledgeWarning b) s = .next (State.present s ((s.atWork 0x66).requestAck b.toNat)) := by
  rw [exec_carriesOut (c := .acknowledgeWarning b) rfl h, carryOut_ack]
  exact congrArg (fun x => Host.Outcome.next (State.present s x)) (if_pos hb)

theorem requestAck_active {x : State} {w : Nat} (h : (x.warning w).state ∈ [.pending, .shown, .held]) :
    x.requestAck w = (x.arbiterEvent fun x => x.acknowledgeAny w).returnStatus .done [] := by
  have hack : x.acknowledgeable w = true := by
    unfold State.acknowledgeable
    simp only [List.mem_cons, List.not_mem_nil, or_false] at h
    rcases h with k | k | k <;> rw [k]
  unfold State.requestAck State.specificAck
  rw [if_pos hack]

theorem requestAck_inactive {x : State} {w : Nat} (h : (x.warning w).state ∈ [.off, .silenced]) :
    x.requestAck w = x.returnStatus .notActive [] := by
  have hack : x.acknowledgeable w = false := by
    unfold State.acknowledgeable
    rcases List.mem_pair.mp h with k | k <;> rw [k]
  unfold State.requestAck State.specificAck
  rw [hack]
  rfl

/-- The workshop's event, and the reply after it. -/
theorem workshopAck_kept (s : State) (w : Nat) :
    KeptBut [.line, .handler] ((s.atWork 0x66).arbiterEvent fun x => x.acknowledgeAny w)
        (((s.atWork 0x66).arbiterEvent fun x => x.acknowledgeAny w).returnStatus .done []) ∧
      KeptBut [.arbiter, .sound, .line, .handler, .keys, .display] s
        (State.present s (((s.atWork 0x66).arbiterEvent fun x => x.acknowledgeAny w).returnStatus .done [])) := by
  have hreply := returnStatus_kept ((s.atWork 0x66).arbiterEvent fun x => x.acknowledgeAny w) .done []
  refine ⟨hreply, (present_frame_keys (((setHandler_kept s _).andThen (cs := arbiterBlocks)
    (arbiterEvent_kept _ (acknowledgeAny_kept _ w))).andThen (cs := arbiterBlocks) hreply)).mono (by decide)⟩

theorem atWork_mostUrgent {s : State} (topic : Nat) (hc : s.OrdersComplete) (hm : s.MostUrgentShown) :
    (s.atWork topic).OrdersComplete ∧ (s.atWork topic).MostUrgentShown := ⟨hc, hm⟩

theorem workshop_sub {s : State} {n : Nat} (h : s.TakesRequest) (hc : s.OrdersComplete) (hm : s.MostUrgentShown) (hask : s.SubAsked n) :
    ∃ t, exec (.acknowledgeWarning 30) s = .next t ∧ s.AcknowledgesSub n t ∧ s.ChimeFollowsSub n s.sound t ∧
      KeptBut [.arbiter, .sound, .line, .handler, .keys, .display] s t := by
  obtain ⟨hxc, hxm⟩ := atWork_mostUrgent 0x66 hc hm
  obtain ⟨hreply, hframe⟩ := workshopAck_kept s 30
  have hxask : (s.atWork 0x66).SubAsked n := hask.of_arbiter rfl
  have hpresent := present_kept s (((s.atWork 0x66).arbiterEvent fun x => x.acknowledgeAny 30).returnStatus .done [])
  have hkt := hreply.andThen (cs := [.line, .handler, .keys, .display]) hpresent
  have htaken := subEvent_taken (f := fun x => x.acknowledgeAny 30) hxask.takes hxc hxm hxask.level
  have hchime := subEvent_chime (f := fun x => x.acknowledgeAny 30) hxask.takes hxc hxm hxask.level
  refine ⟨_, (exec_acknowledge (b := 30) h (by decide)).trans (congrArg (fun x => Host.Outcome.next (State.present s x))
    (requestAck_active hask.state)), acknowledgesSub_of htaken rfl rfl hkt.arbiter hkt.cal fun hroom => ?_, ?_, hframe⟩
  · exact ((subEvent_waits (f := fun x => x.acknowledgeAny 30) hxask.takes hroom).returnStatus (by decide) _ _).of_kept hpresent
  · obtain ⟨hrestart, hno⟩ := hchime
    refine ⟨fun k => ?_, fun k => chimeFollows_of_kept hkt (hno k)⟩
    obtain ⟨hnotice, houtput⟩ := hrestart k
    exact ⟨noticeTaken_sound (fun u => chimes_congr hkt.sound) hnotice, chimeOutput_of_kept hkt houtput⟩

theorem summary_of_kept {bs : List Block} {t t' : State} (k : KeptBut bs t t') (ha : Block.arbiter ∉ bs := by decide)
    (hc : Block.cal ∉ bs := by decide) : t'.summary = t.summary :=
  summary_congr (by rw [k.arbiter ha]) (k.cal hc) fun w => by rw [warning_of_warnings (s := t) (by rw [k.arbiter ha])]

/-- The event's line: 43h queued, or not. -/
theorem event_line {x : State} {f : State → State} (k : KeptBut [.arbiter] x (f x)) (ho : x.line.Open 0x43) :
    ((x.arbiterEvent f).line = x.line ∨
      ∃ cls, (x.arbiterEvent f).line = x.line.enter 0x43 cls .publication (x.arbiterEvent f).summary .none) ∧
    (x.arbiterEvent f).handler = x.handler := by
  have hchimed : KeptBut [.arbiter, .sound] x (State.chimed x (f x).dropPresented.select) :=
    ((k.andThen (cs := [.arbiter]) (dropPresented_kept _)).andThen (cs := [.arbiter, .sound]) (select_kept _)).andThen
      (chimed_kept _ _)
  rw [arbiterEvent_eq, afterSelect_eq]
  split
  · exact ⟨.inl hchimed.line, hchimed.handler⟩
  · have hopen : (State.chimed x (f x).dropPresented.select).line.Open 0x43 := by rw [hchimed.line]; exact ho
    have hsummary := summary_of_kept (queueSummary_kept (State.chimed x (f x).dropPresented.select))
    unfold State.queueSummary State.publish at hsummary ⊢
    rw [queue_open hopen] at hsummary ⊢
    refine ⟨.inr ⟨?_, ?_⟩, hchimed.handler⟩
    · exact (if (State.chimed x (f x).dropPresented.select).shownClass = some .danger then 0 else 2)
    · rw [hsummary]
      show (State.chimed x (f x).dropPresented.select).line.enter _ _ _ _ _ = _
      rw [hchimed.line]

/-- The reply goes after a 43h of the same event. -/
theorem open_after_summary {l : LineStation} {cls : Nat} {data : List Byte} (h : l.Open 0x70) (hroom : l.queue.length < 11) :
    (l.enter 0x43 cls .publication data .none).Open 0x70 := by
  refine ⟨?_, ?_⟩
  · show (l.queue ++ [_]).length < 12
    rw [List.length_append, List.length_singleton]
    omega
  · show (l.queue ++ [_]).any _ = false
    rw [List.any_append, h.2]
    rfl

theorem workshop_acknowledges {s : State} {w : Nat} (h : s.TakesRequest) (hc : s.OrdersComplete) (hm : s.MostUrgentShown) (hw : w < 32)
    (h30 : w ≠ 30) :
    ∃ t, exec (.acknowledgeWarning (byteOf w)) s = .next t ∧
        KeptBut [.arbiter, .sound, .line, .handler, .keys, .display] s t ∧
        ((s.warning w).state ∈ [.pending, .shown, .held] → s.Acknowledges w t ∧ s.ChimeFollows s.sound t ∧
          (s.line.queue.length < 11 → s.line.Open 0x43 → t.handler = { s.handler with state := .replying, topic := 0x66 } ∧
            ∃ l, (l = s.line ∨ ∃ cls, l = s.line.enter 0x43 cls .publication t.summary .none) ∧
              t.line = l.enter 0x70 3 .reply [0x66, 0] .own)) ∧
        ((s.warning w).state ∈ [.off, .silenced] →
          Replies 0x66 .notActive [] s t ∧ KeptBut [.line, .handler, .display] s t) := by
  have hb : (byteOf w).toNat = w := toNat_byteOf (by omega)
  have hexec := exec_acknowledge (b := byteOf w) h (by omega)
  rw [hb] at hexec
  by_cases hstate : (s.warning w).state ∈ [.off, .silenced]
  · rw [requestAck_inactive (x := s.atWork 0x66) hstate] at hexec
    obtain ⟨hk, hreply⟩ := refuses_of (s := s) (topic := 0x66) (st := .notActive) (result := []) h.2.2 rfl
    exact ⟨_, hexec, hk.mono (by decide), fun k => absurd hstate ((mem_requested _).mp k), fun _ => ⟨hreply, hk⟩⟩
  · have hactive := (mem_requested _).mpr hstate
    obtain ⟨hxc, hxm⟩ := atWork_mostUrgent 0x66 hc hm
    obtain ⟨hreply, hframe⟩ := workshopAck_kept s w
    have hpresent := present_kept s (((s.atWork 0x66).arbiterEvent fun x => x.acknowledgeAny w).returnStatus .done [])
    have hkt := hreply.andThen (cs := [.line, .handler, .keys, .display]) hpresent
    have hacked : Acked (s.atWork 0x66) ((s.atWork 0x66).acknowledgeAny w) w := by
      rw [acknowledgeAny_other h30]
      exact acked_acknowledge _ w
    obtain ⟨hack, hchime⟩ := hacked.event (f := fun x => x.acknowledgeAny w) hxc hxm hw
    rw [requestAck_active (x := s.atWork 0x66) hactive] at hexec
    refine ⟨_, hexec, hframe, fun _ => ⟨acknowledges_of_kept hack rfl rfl hkt.arbiter hkt.cal, chimeFollows_of_kept hkt hchime,
      fun hroom hopen => ?_⟩, fun k => absurd k hstate⟩
    obtain ⟨hline, hhandler⟩ := event_line (f := fun x => x.acknowledgeAny w) hacked.kept hopen
    have hready : ((s.atWork 0x66).arbiterEvent fun x => x.acknowledgeAny w).line.Open 0x70 := by
      rcases hline with k | ⟨cls, k⟩ <;> rw [k]
      · exact h.2.2
      · exact open_after_summary h.2.2 hroom
    rw [hpresent.handler, hpresent.line, summary_of_kept hkt, returnStatus_open hready]
    refine ⟨?_, _, hline, ?_⟩
    · show { ((s.atWork 0x66).arbiterEvent fun x => x.acknowledgeAny w).handler with state := .replying } = _
      rw [hhandler]
      rfl
    · show LineStation.enter _ _ _ _ ([byteOf ((s.atWork 0x66).arbiterEvent fun x => x.acknowledgeAny w).handler.topic, _] ++ []) _ = _
      rw [hhandler]
      rfl

/-! ### The pattern's end and the 4 s mark -/

theorem patternTold_late {s : State} {w : Nat} (hs : s.shown = some w) (hc : s.warningClass w = .information)
    (ht : 40 ≤ (s.warning w).shownTimer) : s.patternTold w = s.acknowledge w := by
  unfold State.patternTold
  rw [if_pos ⟨hs, hc⟩, if_pos ht]

/-- An event that marks one SHOWN warning without changing a state. -/
theorem event_marks {s : State} {f : State → State} {w : Nat} {g : Warning → Warning} (hf : f s = s.modifyWarning w g)
    (hinner : Inner s (f s)) (hc : s.OrdersComplete) (hm : s.MostUrgentShown) (hlt : w < s.arbiter.warnings.length)
    (hg : ∀ x, (g x).state = x.state ∧ (g x).level = x.level) :
    (s.arbiterEvent f).warning w = g (s.warning w) ∧ (∀ v, v ≠ w → (s.arbiterEvent f).warning v = s.warning v) ∧
      s.ChimeFollows s.sound (s.arbiterEvent f) := by
  have hstate (v : Nat) : ((f s).warning v).state = (s.warning v).state ∧ ((f s).warning v).level = (s.warning v).level := by
    rw [hf, warning_modifyWarning]
    split
    · exact hg _
    · exact ⟨rfl, rfl⟩
  have hquiet := (arbiterEvent_quiet hinner hc hm fun v => (hstate v).1).1
  have hwarnings : (s.arbiterEvent f).arbiter.warnings = (s.modifyWarning w g).arbiter.warnings := by
    rw [arbiterEvent_stands hquiet, hf]
  refine ⟨?_, fun v hv => ?_, ?_⟩
  · rw [warning_of_warnings hwarnings, modifyWarning_new _ hlt]
  · rw [warning_of_warnings hwarnings, modifyWarning_others _ hv]
  · refine arbiterEvent_chime_kept hinner hc hm (by rw [hf]; rfl) fun v hv => ⟨?_, (hstate v).2⟩
    rw [(hstate v).1, hv]
    nofun

theorem patternComplete_taken {s : State} (hc : s.OrdersComplete) (hm : s.MostUrgentShown) (w : Fin 32) :
    ∃ t, exec (.patternComplete w) s = .next t ∧ KeptBut [.arbiter, .sound, .line, .handler, .keys, .display] s t ∧
      s.ChimeFollows s.sound t ∧
      ((s.warning w).state = .shown → s.warningClass w = .information → 40 ≤ (s.warning w).shownTimer →
        s.Acknowledges w t) ∧
      ((s.warning w).state = .shown → s.warningClass w = .information → (s.warning w).shownTimer < 40 →
        t.warning w = { s.warning w with completed := true } ∧ ∀ v, v ≠ w.val → t.warning v = s.warning v) ∧
      ((s.warning w).state ≠ .shown ∨ s.warningClass w ≠ .information → t.arbiter.warnings = s.arbiter.warnings) := by
  have hpresent := present_kept s (s.arbiterEvent (State.patternTold w))
  have hinner : Inner s (s.patternTold w) := patternDone_inner s w
  have htold : KeptBut [.arbiter] s (s.patternTold w) :=
    .ite (.ite (acknowledge_kept s _) (modifyWarning_kept _ _ _)) (.refl _ _)
  have hread : ∀ v, (State.present s (s.arbiterEvent (State.patternTold w))).warning v =
      (s.arbiterEvent (State.patternTold w)).warning v := warning_of_warnings (by rw [hpresent.arbiter])
  refine ⟨State.present s (s.arbiterEvent (State.patternTold w)), rfl, arbiterEvent_frame htold, ?_⟩
  by_cases hi : s.shown = some w.val ∧ s.warningClass w = .information
  · obtain ⟨hs, hcls⟩ := hi
    have hstate := (shown_eq_some_iff.mp hs).1
    have hlt := warning_lt (s := s) (w := w) (by rw [hstate]; decide)
    by_cases ht : 40 ≤ (s.warning w).shownTimer
    · have hacked : Acked s (s.patternTold w) w := patternTold_late hs hcls ht ▸ acked_acknowledge s w
      obtain ⟨hack, hchime⟩ := hacked.event hc hm w.isLt
      exact ⟨chimeFollows_of_kept hpresent hchime, fun _ _ _ => acknowledges_of_kept hack rfl rfl hpresent.arbiter hpresent.cal,
        fun _ _ k => absurd ht (Nat.not_le_of_lt k), fun k => k.elim (absurd hstate) (absurd hcls)⟩
    · obtain ⟨hw, hothers, hchime⟩ := event_marks (patternTold_early hs hcls (Nat.lt_of_not_le ht)) hinner hc hm hlt fun x => ⟨rfl, rfl⟩
      refine ⟨chimeFollows_of_kept hpresent hchime, fun _ _ k => absurd k ht, fun _ _ _ => ⟨?_, fun v hv => ?_⟩,
        fun k => k.elim (absurd hstate) (absurd hcls)⟩
      · rw [hread, hw]
      · rw [hread, hothers v hv]
  · have hsame := patternTold_other hi
    have hchime : s.ChimeFollows s.sound (s.arbiterEvent (State.patternTold w)) :=
      arbiterEvent_chime_kept hinner hc hm (by rw [hsame]) fun v hv => by rw [hsame, hv]; exact ⟨nofun, rfl⟩
    have hno (hstate : (s.warning w).state = .shown) (hcls : s.warningClass w = .information) : False :=
      hi ⟨shown_of_state hm.1 hstate, hcls⟩
    refine ⟨chimeFollows_of_kept hpresent hchime, fun a b _ => (hno a b).elim, fun a b _ => (hno a b).elim, fun _ => ?_⟩
    rw [hpresent.arbiter, arbiterEvent_same hinner hc hm (by rw [hsame])]

theorem shownTimer_taken {s : State} (hc : s.OrdersComplete) (hm : s.MostUrgentShown) {w : Nat} (hs : (s.warning w).state = .shown)
    (hcls : s.warningClass w = .information) :
    ∃ t, exec .shownTimerExpiry s = .next t ∧ KeptBut [.arbiter, .sound, .line, .handler, .keys, .display] s t ∧
        s.ChimeFollows s.sound t ∧
        ((s.warning w).completed = true → s.Acknowledges w t) ∧
        ((s.warning w).completed = false →
          t.warning w = { s.warning w with shownTimer := 40 } ∧ ∀ v, v ≠ w → t.warning v = s.warning v) := by
  have hpresent := present_kept s (s.arbiterEvent State.shownExpired)
  have hinner := shownExpired_inner s
  have hlt := warning_lt (s := s) (w := w) (by rw [hs]; decide)
  have hw32 : w < 32 := hc.1 ▸ hlt
  have hdone : s.shownExpired = s.shownTimerDone w := by
    unfold State.shownExpired
    rw [shown_of_state hm.1 hs]
    exact if_pos hcls
  have hdoneKept : KeptBut [.arbiter] s (s.shownTimerDone w) := by
    unfold State.shownTimerDone
    have hk : KeptBut [.arbiter] s (s.modifyWarning w fun v => { v with shownTimer := 40 }) := modifyWarning_kept _ _ _
    exact .ite (hk.andThen (cs := [.arbiter]) (acknowledge_kept _ _)) hk
  have hread : ∀ v, (State.present s (s.arbiterEvent State.shownExpired)).warning v =
      (s.arbiterEvent State.shownExpired).warning v := warning_of_warnings (by rw [hpresent.arbiter])
  refine ⟨State.present s (s.arbiterEvent State.shownExpired), rfl, arbiterEvent_frame (by rw [hdone]; exact hdoneKept), ?_⟩
  by_cases hcomplete : (s.warning w).completed = true
  · have hack2 : s.shownTimerDone w = (s.modifyWarning w fun v => { v with shownTimer := 40 }).acknowledge w :=
      if_pos ⟨hcls, hcomplete⟩
    have hwarning : ∀ v, (s.shownTimerDone w).warning v = (s.acknowledge w).warning v := fun v => by
      rw [shownTimerDone_warning, acknowledge_warning]
      split
      · next hv =>
        unfold Warning.timedOut
        rw [hv.1, if_pos ⟨hcls, hcomplete⟩]
      · rfl
    have harbiter := shownTimerDone_arbiter s w
    have hackArbiter := acknowledge_information hcls
    have hacked : Acked s s.shownExpired w := by
      rw [hdone] at hinner ⊢
      exact ⟨hinner, hwarning, by rw [harbiter, hackArbiter]; rfl, by rw [harbiter, hackArbiter]; rfl, hdoneKept⟩
    obtain ⟨hack, hchime⟩ := hacked.event hc hm hw32
    exact ⟨chimeFollows_of_kept hpresent hchime, fun _ => acknowledges_of_kept hack rfl rfl hpresent.arbiter hpresent.cal,
      fun k => absurd hcomplete (by rw [k]; decide)⟩
  · have hmark : s.shownExpired = s.modifyWarning w fun v => { v with shownTimer := 40 } :=
      hdone.trans (if_neg fun k => hcomplete k.2)
    obtain ⟨hw, hothers, hchime⟩ := event_marks hmark hinner hc hm hlt fun x => ⟨rfl, rfl⟩
    refine ⟨chimeFollows_of_kept hpresent hchime, fun k => absurd k hcomplete, fun _ => ⟨?_, fun v hv => ?_⟩⟩
    · rw [hread, hw]
    · rw [hread, hothers v hv]

/-- Settles O47: each of the four ways to acknowledge is one arbiter event. -/
theorem acknowledgementsAreTaken : Obligations.AcknowledgementsAreTaken := by
  intro s w hc hm
  refine ⟨fun hk hno ho hr => ackKey_reviews hk hc hm hno ho hr, fun n hl hstate _ hpresented hlowest => ?_,
    fun hk hs h30 => ackKey_acknowledges hk hc hm hs h30, fun ht h30 => workshop_acknowledges ht hc hm w.isLt h30,
    patternComplete_taken hc hm w, fun hs hcls => shownTimer_taken hc hm hs hcls⟩
  have hask : s.SubAsked n := ⟨hl, hstate, hpresented, hlowest⟩
  exact ⟨fun hk hs hg => ackKey_sub hk hc hm hask hs hg, fun ht => workshop_sub ht hc hm hask⟩

end Sys2Proof.Machine
end

section
/-! SUPPORT. What the gates and the sources of the rules read (Tables 6-4, 6-8 and 6-9). -/
namespace Sys2Proof.Machine
set_option Elab.async false

/-! ### Gates -/

theorem running_iff (s : State) : s.running = true ↔ (s.entry 0).HasData ∧ bitAt (s.entry 0).data 4 0 = true :=
  (flagSet_iff (s.entry 0) 4 0)

theorem reads_unique {e : Entry} {offset bytes : Nat} {signed : Bool} {r r' : Option Reading} (h : e.Reads offset bytes signed r)
    (h' : e.Reads offset bytes signed r') : r = r' := by
  obtain ⟨hno, hyes⟩ := h
  obtain ⟨kno, kyes⟩ := h'
  exact (Classical.em _).elim (fun hv => (hyes hv).trans (kyes hv).symm) fun hv => (hno hv).trans (kno hv).symm

theorem engineRunning_iff (s : State) : s.engineRunning = true ↔ (s.entry 0).HasData ∧ bitAt (s.entry 0).data 4 0 = true ∧
    ∃ r : Reading, (s.entry 0).Reads 0 2 false (some r) ∧ 400 < r.value := by
  have hreads : (s.entry 0).Reads 0 2 false s.rpm := field_reads (s.entry 0) 0 true false
  have hunique (r : Reading) (h : (s.entry 0).Reads 0 2 false (some r)) : s.rpm = some r := reads_unique hreads h
  unfold State.engineRunning
  rw [Bool.and_eq_true, running_iff, and_assoc]
  refine and_congr_right fun _ => and_congr_right fun _ => ?_
  cases hr : s.rpm with
  | none => exact ⟨nofun, fun ⟨r, h, _⟩ => by rw [hunique r h] at hr; cases hr⟩
  | some r =>
    refine decide_eq_true_iff.trans ⟨fun h => ⟨r, hr ▸ hreads, h⟩, fun ⟨r', h, k⟩ => ?_⟩
    rw [hunique r' h] at hr
    cases hr
    exact k

/-- The gates read as Table 6-4 gives. -/
theorem gate_iff (s : State) (g : Gate) : s.gate g = true ↔ s.GateOpen g := by
  cases g with
  | always => exact ⟨fun _ => trivial, fun _ => rfl⟩
  | notRun => simp [State.gate, State.GateOpen, or_assoc]
  | run => exact beq_iff_eq
  | moving => exact decide_eq_true_iff
  | stopped => exact decide_eq_true_iff
  | engineRunning => exact engineRunning_iff s

/-! ### Sources -/

theorem flagSet_of_data {e : Entry} (h : e.HasData) (byte bit : Nat) : e.flagSet byte bit = bitAt e.data byte bit := by
  rw [Bool.eq_iff_iff, flagSet_iff]
  exact and_iff_right h

theorem quantity_of {e : Entry} {n m : Nat} (h : e.HasData → n = m) :
    (e.HasData → e.quantity n = some (m : Int)) ∧ (¬e.HasData → e.quantity n = none) := by
  unfold Entry.quantity
  refine ⟨fun hd => ?_, fun hd => if_neg fun k => hd ((readable_iff e).mp k)⟩
  rw [if_pos ((readable_iff e).mpr hd), h hd]

theorem packFlags_sum (bs : List Bool) : packCodes 1 (bs.map flagNat) =
    (bs.zipIdx.map fun p => if p.1 then 2 ^ p.2 else 0).sum := by
  suffices h : ∀ k, 2 ^ k * packCodes 1 (bs.map flagNat) = ((bs.zipIdx k).map fun p => if p.1 then 2 ^ p.2 else 0).sum by
    have := h 0
    rwa [Nat.pow_zero, Nat.one_mul] at this
  induction bs with
  | nil => intro k; rfl
  | cons b bs ih =>
    intro k
    rw [List.zipIdx_cons, List.map_cons, List.map_cons, List.sum_cons, ← ih (k + 1), packCodes, Nat.pow_succ]
    cases b <;> simp [flagNat] <;> ring

theorem withoutValue_eq (e : Entry) :
    (flagNat e.withoutValue : Int) = if e.state = .empty ∨ e.state = .lost then 1 else 0 := by
  unfold Entry.withoutValue
  cases e.state <;> rfl

theorem flags_sum (a b c : Bool) : flagNat a + 2 * flagNat b + 4 * flagNat c =
    ((if a then 1 else 0) + ((if b then 2 else 0) + ((if c then 4 else 0) + 0)) : Nat) := by
  cases a <;> cases b <;> cases c <;> rfl

/-- The built-in quantities read as Table 6-8 gives. -/
theorem quantity_reads (s : State) (q : Quantity) : s.QuantityReads q (s.quantity q) := by
  have hfield (e offset : Nat) (wide signed : Bool) : ∃ r, (s.entry e).Reads offset (if wide then 2 else 1) signed r ∧
      ((s.entry e).field offset wide signed).map (·.value) = r.map (·.value) := ⟨_, field_reads _ _ _ _, rfl⟩
  cases q with
  | speed => rfl
  | rpm => exact hfield 0 0 true false
  | coolant => exact hfield 0 2 false false
  | oil => exact hfield 0 3 false false
  | battery => exact hfield 2 1 false false
  | fuel =>
    show s.fuelReading.map _ = _
    unfold State.fuelReading
    cases s.counting.fuel <;> rfl
  | range =>
    show (∀ v : Nat, _ → _ → (if s.counting.fuel.isSome then s.trip.range.quantity else none) = _) ∧
      (_ → (if s.counting.fuel.isSome then s.trip.range.quantity else none) = none)
    refine ⟨fun v hf hr => ?_, fun h => ?_⟩
    · rw [if_pos hf]
      rcases hr with k | k <;> rw [k] <;> rfl
    · rcases h with k | k
      · rw [k]; rfl
      · rw [k]
        split <;> rfl
  | outside => exact hfield 2 2 false true
  | doorBits =>
    refine quantity_of fun hd => ?_
    unfold Entry.flagSum
    simp only [List.map_cons, List.map_nil, flagSet_of_data hd]
    exact packFlags_sum [_, _, _, _]
  | lidBits =>
    refine quantity_of fun hd => ?_
    unfold Entry.flagSum
    simp only [List.map_cons, List.map_nil, flagSet_of_data hd]
    exact packFlags_sum [_, _]
  | parkBrake =>
    refine quantity_of fun hd => ?_
    rw [flagSet_of_data hd]
    rfl
  | keyWithDoorOpen =>
    refine quantity_of fun hd => ?_
    rw [flagSet_of_data hd, flagSet_of_data hd]
    rfl
  | lampsWithKeyOut =>
    refine quantity_of fun hd => ?_
    rw [flagSet_of_data hd, flagSet_of_data hd]
    rfl
  | turnDistance => rfl
  | e0WithoutValue => exact congrArg some (withoutValue_eq _)
  | e2WithoutValue => exact congrArg some (withoutValue_eq _)
  | lineFault => exact congrArg (fun n : Nat => some (n : Int)) (flags_sum _ _ _)
  | instrumentFault =>
    refine congrArg (fun n : Nat => some (n : Int)) ((flags_sum _ _ _).trans ?_)
    have hsuspect : s.store.suspect = s.store.odometer.any fun o => !o.2 := by
      unfold Store.suspect
      cases s.store.odometer <;> rfl
    rw [hsuspect]
    rfl

theorem source_reads (s : State) (source : Source) : s.SourceReads source (s.sourceValue source) := by
  cases source with
  | builtIn q => exact quantity_reads s q
  | field e offset wide signed => exact ⟨_, field_reads _ _ _ _, rfl⟩

end Sys2Proof.Machine
end

section
/-! SUPPORT. An evaluation of the rules: the slots' moves, and the request set. Settles O44. -/
namespace Sys2Proof.Machine
set_option Elab.async false

/-! ### Slots -/

theorem ruleState_holds_iff (x : RuleState) : x.holds = true ↔ x = .asserted ∨ x = .releasing := by cases x <;> decide

theorem effective_eq (r : RuleRecord) (x : RuleState) : r.effective x = r.bar x := by
  have hclear : (x = .clear ∨ x = .qualifying) ↔ ¬x.holds = true := by cases x <;> decide
  unfold RuleRecord.effective RuleRecord.bar
  simp only [hclear]
  cases x.holds <;> simp

theorem ruleHolds_iff (r : RuleRecord) (x : RuleState) (v : Option Int) : r.holds x v = true ↔ r.Meets x v := by
  unfold RuleRecord.holds RuleRecord.Meets
  cases v with
  | none => rfl
  | some v =>
    dsimp only
    rw [effective_eq]
    rcases Int.lt_trichotomy v (r.bar x) with h | h | h
    · rw [if_pos h]
      simp [h, lt_asymm h, Int.ne_of_lt h]
    · rw [if_neg (by omega), if_pos h]
      simp [h]
    · rw [if_neg (by omega), if_neg (by omega)]
      simp [h, lt_asymm h, (Int.ne_of_lt h).symm]

/-- A slot whose gate is open moves by its condition and its times. -/
theorem move_movesTo (r : RuleRecord) {holds : Bool} {p : Prop} (h : holds = true ↔ p) (x : Slot) :
    Slot.MovesTo r p x (x.move r holds) := by
  obtain ⟨state, timer⟩ := x
  unfold Slot.MovesTo Slot.move
  rw [← h]
  cases state <;> dsimp only
  · refine ⟨fun k => if_neg k, fun k hq => ?_, fun k hq => ?_⟩ <;> rw [if_pos k]
    · exact if_pos hq
    · exact if_neg (by omega)
  · refine ⟨fun k => if_neg k, fun k ht => ?_, fun k ht => ?_⟩ <;> rw [if_pos k]
    · exact if_pos ht
    · exact if_neg (by omega)
  · refine ⟨fun k => if_pos k, fun k hr => ?_, fun k hr => ?_⟩ <;> rw [if_neg k]
    · exact if_pos hr
    · exact if_neg (by omega)
  · refine ⟨fun k => if_pos k, fun k ht => ?_, fun k ht => ?_⟩ <;> rw [if_neg k]
    · exact if_pos ht
    · exact if_neg (by omega)

/-! ### The request set, warning by warning -/

/-- What a request set makes of a warning before the selection: its level request, then its edge request. -/
def Warning.requested (enabled level edge : Bool) (x : Warning) : Warning :=
  if edge then (x.takeLevel enabled level).takeEdge enabled else x.takeLevel enabled level

theorem warning_requests {s : State} (level edge : Nat → Bool) (w : Nat) (hw : w < s.arbiter.warnings.length) (v : Nat) :
    (if edge w then (s.takeLevel w (level w)).takeEdge w else s.takeLevel w (level w)).warning v =
      if v = w then (s.warning v).requested (s.warningFigures v).enabled (level v) (edge v) else s.warning v := by
  have htake : (s.takeLevel w (level w)).warning v =
      if v = w then (s.warning v).takeLevel (s.warningFigures v).enabled (level v) else s.warning v := by
    unfold State.takeLevel
    by_cases hv : v = w
    · subst hv
      rw [modifyWarning_new _ hw, if_pos rfl]
    · rw [modifyWarning_others _ hv, if_neg hv]
  have hlen : (s.takeLevel w (level w)).arbiter.warnings.length = s.arbiter.warnings.length := List.length_modify _ _ _
  unfold Warning.requested
  by_cases he : edge w = true
  · rw [if_pos he]
    unfold State.takeEdge
    by_cases hv : v = w
    · subst hv
      rw [modifyWarning_new _ (by omega), htake, if_pos rfl, if_pos rfl, if_pos he]
      rfl
    · rw [modifyWarning_others _ hv, htake, if_neg hv, if_neg hv]
  · rw [if_neg he, htake]
    by_cases hv : v = w
    · subst hv
      rw [if_pos rfl, if_pos rfl, if_neg he]
    · rw [if_neg hv, if_neg hv]

/-- The requests taken of the warnings of a list, one after the other. -/
def State.requestAll (level edge : Nat → Bool) (ws : List Nat) (s : State) : State :=
  ws.foldl (fun s w => if edge w then (s.takeLevel w (level w)).takeEdge w else s.takeLevel w (level w)) s

theorem requestAll_kept (level edge : Nat → Bool) (ws : List Nat) (s : State) : KeptBut [.arbiter] s (s.requestAll level edge ws) :=
  .foldl (fun s w => .ite ((takeLevel_kept s w _).trans (takeEdge_kept _ w)) (takeLevel_kept s w _)) ws s

theorem requestAll_orders (level edge : Nat → Bool) (ws : List Nat) : ∀ s : State,
    (s.requestAll level edge ws).arbiter.cautionOrder = s.arbiter.cautionOrder ∧
      (s.requestAll level edge ws).arbiter.advisoryOrder = s.arbiter.advisoryOrder := by
  induction ws with
  | nil => exact fun _ => ⟨rfl, rfl⟩
  | cons w ws ih =>
    intro s
    rw [State.requestAll, List.foldl_cons]
    obtain ⟨hcaution, hadvisory⟩ := ih (if edge w then (s.takeLevel w (level w)).takeEdge w else s.takeLevel w (level w))
    refine ⟨hcaution.trans ?_, hadvisory.trans ?_⟩ <;> split <;> rfl

theorem requestAll_warning (level edge : Nat → Bool) (ws : List Nat) : ∀ s : State, ws.Nodup →
    (∀ w ∈ ws, w < s.arbiter.warnings.length) → ∀ v, (s.requestAll level edge ws).warning v =
      if v ∈ ws then (s.warning v).requested (s.warningFigures v).enabled (level v) (edge v) else s.warning v := by
  induction ws with
  | nil => exact fun s _ _ v => rfl
  | cons w ws ih =>
    intro s hnodup hlt v
    obtain ⟨hw, hws⟩ := List.nodup_cons.mp hnodup
    have hstep := warning_requests level edge w (hlt w List.mem_cons_self)
    have hkept : KeptBut [.arbiter] s (if edge w then (s.takeLevel w (level w)).takeEdge w else s.takeLevel w (level w)) :=
      .ite ((takeLevel_kept s w _).trans (takeEdge_kept _ w)) (takeLevel_kept s w _)
    have hlen : (if edge w then (s.takeLevel w (level w)).takeEdge w else s.takeLevel w (level w)).arbiter.warnings.length =
        s.arbiter.warnings.length := by
      split
      · exact (List.length_modify _ _ _).trans (List.length_modify _ _ _)
      · exact List.length_modify _ _ _
    rw [State.requestAll, List.foldl_cons]
    refine (ih _ hws (fun u hu => by rw [hlen]; exact hlt u (List.mem_cons_of_mem _ hu)) v).trans ?_
    rw [hstep, warningFigures_of_cal hkept.cal]
    by_cases hvw : v = w
    · subst hvw
      rw [if_neg hw, if_pos rfl, if_pos List.mem_cons_self]
    · rw [if_neg hvw]
      simp [List.mem_cons, hvw]

theorem requestSet_eq (s : State) (level edge : Nat → Bool) :
    s.requestSet level edge = s.arbiterEvent (State.requestAll level edge ((List.range 32).filter ruleFed)) := rfl

theorem mem_ruleFed {w : Nat} : w ∈ (List.range 32).filter ruleFed ↔ w < 32 ∧ w ∉ [27, 28, 29, 30] := by
  simp only [List.mem_filter, List.mem_range, ruleFed, Bool.or_eq_true, decide_eq_true_iff, beq_iff_eq, List.mem_cons,
    List.not_mem_nil, or_false]
  omega

theorem requestAll_ruleFed {s : State} (hl : s.arbiter.warnings.length = 32) (level edge : Nat → Bool) (v : Nat) :
    (s.requestAll level edge ((List.range 32).filter ruleFed)).warning v =
      if v < 32 ∧ v ∉ [27, 28, 29, 30] then (s.warning v).requested (s.warningFigures v).enabled (level v) (edge v)
      else s.warning v := by
  rw [requestAll_warning level edge _ s (List.nodup_range.filter _) (fun w hw => by rw [hl]; exact (mem_ruleFed.mp hw).1)]
  simp only [mem_ruleFed]

/-! ### One warning's requests -/

theorem takeLevel_stands {e b : Bool} (h : e = true ∧ b = true) (x : Warning) : x.takeLevel e b =
    if x.state = .off then { x.goTo .pending with level := true } else { x with level := true } := by
  unfold Warning.takeLevel
  rw [if_pos (by rw [h.1, h.2]; rfl)]

theorem takeLevel_falls {e b : Bool} (h : ¬(e = true ∧ b = true)) (x : Warning) : x.takeLevel e b =
    if x.level then { x.goTo .off with level := false } else x := by
  unfold Warning.takeLevel
  rw [if_neg fun k => h (by rw [Bool.and_eq_true] at k; exact k.symm)]

theorem requested_given {e b g : Bool} (h : e = true ∧ g = true) (x : Warning) :
    x.requested e b g = (x.takeLevel e b).takeEdge true := by
  unfold Warning.requested
  rw [if_pos h.2, h.1]

theorem requested_level {e b g : Bool} (h : ¬(e = true ∧ g = true)) (x : Warning) : x.requested e b g = x.takeLevel e b := by
  unfold Warning.requested
  split
  · next hg => exact takeEdge_same (.inl (eq_false_of_ne_true fun k => h ⟨k, hg⟩))
  · rfl

/-- After the requests the level request stands as given, and a warning that they raise is PENDING. -/
theorem requested_spec (e b g : Bool) (x : Warning) :
    let stands := e = true ∧ b = true
    let given := e = true ∧ g = true
    let gone := x.level = true ∧ ¬stands
    let rises := (x.state = .off ∧ stands) ∨ (given ∧ (gone ∨ x.state ∈ [.off, .silenced]))
    ((x.requested e b g).level = true ↔ stands) ∧
      (rises → x.requested e b g = { x with
        state := .pending, level := (x.requested e b g).level, shownTimer := 0, completed := false, reminder := 0 }) ∧
      (¬rises → gone → x.requested e b g =
        { x with state := .off, level := false, shownTimer := 0, completed := false, reminder := 0 }) ∧
      (¬rises → ¬gone → x.requested e b g = { x with level := (x.requested e b g).level }) := by
  obtain ⟨state, level, timer, completed, reminder⟩ := x
  unfold Warning.requested Warning.takeEdge Warning.takeLevel Warning.goTo
  cases e <;> cases b <;> cases g <;> cases level <;> cases state <;> simp

theorem selected_takes {s : State} {w : Nat} {e b g : Bool} {t : State}
    (h : ((s.warning w).requested e b g).Selected (t.warning w)) :
    s.TakesRequests w (e = true ∧ b = true) (e = true ∧ g = true) t := by
  obtain ⟨hlevel, hrise, hgone, hstay⟩ := requested_spec e b g (s.warning w)
  have hkeep := h.level
  refine ⟨by rw [hkeep]; exact hlevel, fun k => ?_, fun k k' => ?_, fun k k' => ?_⟩
  · have hx := hrise k
    have hstate : ((s.warning w).requested e b g).state = .pending := by rw [hx]
    rcases h with hy | ⟨hs, -⟩ | ⟨-, hy⟩
    · rw [hy, hx]
      simp
    · rw [hstate] at hs
      cases hs
    · rw [hy]
      simp
  · have hx := hgone k k'
    rw [← hx]
    refine h.same ?_
    rw [hx]
    decide
  · rw [hkeep, ← hstay k k']
    exact h.goesOn

/-! ### The evaluation -/

theorem record_slots {s : State} {i : Nat} (hi : i < 32) :
    ((List.range 32).map s.evaluateSlot).getD i .clear = s.evaluateSlot i := by
  rw [List.getD_eq_getElem _ _ (by simpa using hi), List.getElem_map, List.getElem_range]

theorem any_range_iff (p : Nat → Bool) : (List.range 32).any p = true ↔ ∃ i < 32, p i = true := by simp

theorem levelHeld_iff {s : State} {w i : Nat} (hi : i < 32) :
    s.levelHeld ((List.range 32).map s.evaluateSlot) w i = true ↔ ∃ r, s.record i = some r ∧ r.edge = false ∧ r.warning = w ∧
      ((s.evaluateSlot i).state = .asserted ∨ (s.evaluateSlot i).state = .releasing) := by
  unfold State.levelHeld
  rw [record_slots hi]
  cases s.record i with
  | none => simp
  | some r => simp [ruleState_holds_iff, and_assoc]

theorem edgeGiven_iff {s : State} {w i : Nat} (hi : i < 32) :
    s.edgeGiven ((List.range 32).map s.evaluateSlot) w i = true ↔ ∃ r, s.record i = some r ∧ r.edge = true ∧ r.warning = w ∧
      (s.slot i).state ∈ [.clear, .qualifying] ∧ (s.evaluateSlot i).state = .asserted := by
  unfold State.edgeGiven Slot.newlyAsserted
  rw [record_slots hi]
  have hnot (x : RuleState) : x.holds = false ↔ x ∈ [RuleState.clear, .qualifying] := by cases x <;> decide
  cases s.record i with
  | none => simp
  | some r => simp only [Bool.and_eq_true, Bool.not_eq_true', beq_iff_eq, hnot, and_assoc, Option.some.injEq, exists_eq_left']

theorem evaluateSlot_absent {s : State} {i : Nat} (h : s.record i = none) : s.evaluateSlot i = ⟨.clear, 0⟩ := by
  unfold State.evaluateSlot
  rw [h]
  rfl

theorem evaluateSlot_moves {s : State} {i : Nat} {r : RuleRecord} (h : s.record i = some r) :
    (s.gate r.gate = false → s.evaluateSlot i = ⟨.clear, 0⟩) ∧
      (s.gate r.gate = true →
        Slot.MovesTo r (r.Meets (s.slot i).state (s.sourceValue r.source)) (s.slot i) (s.evaluateSlot i)) := by
  unfold State.evaluateSlot
  rw [h]
  dsimp only
  refine ⟨fun hg => ?_, fun hg => ?_⟩
  · rw [if_neg (by rw [hg]; decide)]
    rfl
  · rw [if_pos hg]
    exact move_movesTo r (ruleHolds_iff r _ _) _

/-- The state from which the request set is given. -/
def State.evaluated (s : State) : State := s.setRules { timer := some 10, slots := (List.range 32).map s.evaluateSlot }

/-- The level requests and the edge requests of an evaluation. -/
def State.levelAsked (s : State) (w : Nat) : Bool :=
  (List.range 32).any (s.levelHeld ((List.range 32).map s.evaluateSlot) w)

def State.edgeAsked (s : State) (w : Nat) : Bool :=
  (List.range 32).any (s.edgeGiven ((List.range 32).map s.evaluateSlot) w)

/-- The requests that an evaluation of `s` takes. -/
def State.asks (s : State) : State → State := State.requestAll s.levelAsked s.edgeAsked ((List.range 32).filter ruleFed)

theorem evaluateRules_eq (s : State) : (s.setRules { s.rules with timer := some 10 }).evaluateRules =
    s.evaluated.arbiterEvent s.asks := rfl

theorem asks_warning {s : State} (hl : s.arbiter.warnings.length = 32) (w : Nat) : (s.asks s.evaluated).warning w =
    if w < 32 ∧ w ∉ [27, 28, 29, 30] then
      (s.warning w).requested (s.warningFigures w).enabled (s.levelAsked w) (s.edgeAsked w) else s.warning w :=
  requestAll_ruleFed (s := s.evaluated) hl s.levelAsked s.edgeAsked w

/-- What a request set keeps of a SHOWN warning. -/
theorem requested_shown {e b g : Bool} {x : Warning} (h : x.state = .shown) :
    ((x.requested e b g).state = .shown → x.level = true → (x.requested e b g).level = true) ∧
      ((x.requested e b g).state = .pending → x.level = true ∧ (x.requested e b g).level = false) := by
  obtain ⟨state, level, timer, completed, reminder⟩ := x
  subst h
  unfold Warning.requested Warning.takeEdge Warning.takeLevel Warning.goTo
  cases e <;> cases b <;> cases g <;> cases level <;> simp

theorem evaluation_chime {s : State} (hc : s.OrdersComplete) (hone : s.shownCount ≤ 1) (level edge : Nat → Bool) :
    s.ChimeFollows s.sound (s.arbiterEvent (State.requestAll level edge ((List.range 32).filter ruleFed))) := by
  have hread := requestAll_ruleFed hc.1 level edge
  refine arbiterEvent_chime (requestSet_inner s level edge) hc.1 hone (requestAll_kept level edge _ s).sound
    (fun w hw hf hl => ?_) fun w hw hf => ?_
  · rw [hread] at hf ⊢
    split at hf
    · next h => rw [if_pos h]; exact (requested_shown hw).1 hf hl
    · next h => rw [if_neg h]; exact hl
  · rw [hread] at hf ⊢
    split at hf
    · next h => rw [if_pos h]; exact (requested_shown hw).2 hf
    · rw [hw] at hf
      cases hf

theorem evaluation_moves {s : State} (ht : s.rules.timer.isSome = true) (hl : s.arbiter.warnings.length = 32) :
    ∃ t, exec .evaluation s = .next t ∧ t.rules.timer = some 10 ∧ (∀ i < 32, t.slot i = s.evaluateSlot i) ∧
      (∀ w, ((if w < 32 ∧ w ∉ [27, 28, 29, 30] then
        (s.warning w).requested (s.warningFigures w).enabled (s.levelAsked w) (s.edgeAsked w) else s.warning w) : Warning).Selected
          (t.warning w)) ∧
      t.arbiter.cautionOrder = s.arbiter.cautionOrder ∧ t.arbiter.advisoryOrder = s.arbiter.advisoryOrder ∧
      (s.OrdersComplete → s.shownCount ≤ 1 → s.ChimeFollows s.sound t) ∧
      KeptBut [.rules, .arbiter, .sound, .line, .handler, .keys, .display] s t := by
  have hevent := arbiterEvent_kept (f := s.asks) s.evaluated ((requestAll_kept _ _ _ s.evaluated).mono (by decide))
  have hpresent := present_kept s (s.evaluated.arbiterEvent s.asks)
  have hexec : exec .evaluation s = .next (State.present s (s.evaluated.arbiterEvent s.asks)) :=
    (congrArg (fun x => Host.Outcome.next (State.present s x)) (if_pos ht)).trans
      (congrArg (fun x => Host.Outcome.next (State.present s x)) (evaluateRules_eq s))
  have hrules : (State.present s (s.evaluated.arbiterEvent s.asks)).rules =
      { timer := some 10, slots := (List.range 32).map s.evaluateSlot } := by
    rw [hpresent.rules, hevent.rules]
    rfl
  have horders : (s.asks s.evaluated).arbiter.cautionOrder = s.arbiter.cautionOrder ∧
      (s.asks s.evaluated).arbiter.advisoryOrder = s.arbiter.advisoryOrder := requestAll_orders _ _ _ s.evaluated
  obtain ⟨hcaution, hadvisory, -⟩ := arbiterEvent_rest s.evaluated s.asks
  refine ⟨_, hexec, by rw [hrules], fun i hi => ?_, fun w => ?_, ?_, ?_, fun hc hone => ?_, ?_⟩
  · unfold State.slot
    rw [hrules]
    exact record_slots hi
  · have hread : (State.present s (s.evaluated.arbiterEvent s.asks)).warning w = (s.evaluated.arbiterEvent s.asks).warning w :=
      warning_of_warnings (by rw [hpresent.arbiter]) w
    rw [← asks_warning hl, hread]
    exact arbiterEvent_selected s.evaluated s.asks w
  · rw [hpresent.arbiter, hcaution, horders.1]
  · rw [hpresent.arbiter, hadvisory, horders.2]
  · exact chimeFollows_of_kept hpresent (evaluation_chime (s := s.evaluated) hc hone s.levelAsked s.edgeAsked)
  · exact (present_frame_keys ((setRules_kept s _).andThen (cs := [.rules, .arbiter, .sound, .line, .handler]) hevent)).mono (by decide)

/-- Settles O44. -/
theorem evaluationMovesSlots : Obligations.EvaluationMovesSlots := by
  refine ⟨gate_iff, source_reads, fun s ht hl => ?_⟩
  obtain ⟨t, hexec, htimer, hslot, hwarning, hcaution, hadvisory, hchime, hkept⟩ := evaluation_moves ht hl
  have hlevel (w : Nat) : s.levelAsked w = true ↔ ∃ i < 32, ∃ r, s.record i = some r ∧ r.edge = false ∧ r.warning = w ∧
      ((t.slot i).state = .asserted ∨ (t.slot i).state = .releasing) := by
    refine (any_range_iff _).trans (exists_congr fun i => and_congr_right fun hi => ?_)
    rw [levelHeld_iff hi, hslot i hi]
  have hedge (w : Nat) : s.edgeAsked w = true ↔ ∃ i < 32, ∃ r, s.record i = some r ∧ r.edge = true ∧ r.warning = w ∧
      (s.slot i).state ∈ [.clear, .qualifying] ∧ (t.slot i).state = .asserted := by
    refine (any_range_iff _).trans (exists_congr fun i => and_congr_right fun hi => ?_)
    rw [edgeGiven_iff hi, hslot i hi]
  refine ⟨t, hexec, htimer, fun i hi h => (hslot i hi).trans (evaluateSlot_absent h), fun i hi r h => ?_, fun w hw hfed => ?_,
    fun w hw => ?_, hcaution, hadvisory, fun hc hone => ⟨?_, hchime hc hone⟩, hkept⟩
  · rw [hslot i hi]
    exact evaluateSlot_moves h
  · have hsel := hwarning w
    rw [if_pos ⟨hw, hfed⟩] at hsel
    have htakes := selected_takes hsel
    rwa [hlevel, hedge] at htakes
  · have hsel := hwarning w
    rw [if_neg fun k => k.2 hw] at hsel
    exact hsel.goesOn
  · obtain ⟨t', hexec', hurgent⟩ := reaches_mostUrgent (c := .evaluation) hc hone ht
    rw [hexec] at hexec'
    cases hexec'
    exact hurgent

end Sys2Proof.Machine
end

section
/-! SUPPORT. The followers of an arrival at E2: the FUEL client, the turn-signal distance count and the turn ticks. -/
namespace Sys2Proof.Machine
set_option Elab.async false

/-! ### What E2 and E3 read after their message -/

theorem entry_of_topics {s t : State} (h : t.topics = s.topics) (e : Nat) : t.entry e = s.entry e := by
  unfold State.entry
  rw [h]

theorem arrived_hasData {s : State} {bs : List Byte} {e : Nat} (he : s.EntryOf bs e) : ((s.arrived bs e).entry e).HasData := by
  rw [arrived_entry he]
  exact ⟨he.2.2.1, .inl rfl⟩

theorem arrived_flag {s : State} {bs : List Byte} {e k : Nat} (he : s.EntryOf bs e) (hk : k < frameLength bs) (n : Nat) :
    ((s.arrived bs e).entry e).flagSet k n = bitAt bs (3 + k) n := by
  rw [flagSet_of_data (arrived_hasData he), arrived_entry he]
  exact bitAt_frameData hk n

theorem arrived_tankSender {s : State} {bs : List Byte} (he : s.EntryOf bs 2) (hl : (s.entry 2).length = 5)
    (hf : frameLength bs = 5) :
    (s.arrived bs 2).tankSender = if byteAt bs 3 = 255 then none else some ⟨byteAt bs 3, false⟩ := by
  have hbits : byteAt (frameData bs) 0 = byteAt bs 3 := byteAt_frameData (by omega)
  unfold State.tankSender
  rw [arrived_entry he]
  simp [Entry.field, Entry.arrive, Entry.readable, Entry.fieldBits, fieldBytes, noValueCode, he.2.2.1, hl, hbits]
  rfl

/-! ### The tank value -/

theorem clearReturn_eq (a : Arith) : a.clearReturn = a.beforeReturn := by
  have hone (r : Request) : (if r.target = .fuel then { r with afterReturn := false } else r) = r.beforeReturn := by
    unfold Request.beforeReturn
    by_cases h : r.target = .fuel
    · rw [if_pos h, h]
      simp
    · rw [if_neg h, show (r.target != .fuel) = true from bne_iff_ne.mpr h, Bool.and_true]
  unfold Arith.clearReturn Arith.beforeReturn
  simp only [hone]

/-- The latest raw value, taken and kept. -/
def Counting.rawTaken (c : Counting) (v : Nat) : Counting := { c with keptRaw := some v, latestRaw := some v }

/-- A raw value is evaluated when it is new or ends the absence of one. -/
def Counting.Asks (c : Counting) (v : Nat) : Prop := c.keptRaw ≠ some v ∨ c.returnPending = true

theorem tankArrival_none {s : State} (h : s.tankSender = none) : s.tankArrival = s.beginReturn := by
  unfold State.tankArrival
  rw [h]

theorem tankArrival_quiet {s : State} {v : Nat} (h : s.tankSender = some ⟨v, false⟩) (hq : ¬s.counting.Asks v) :
    s.tankArrival = s.setCounting (s.counting.rawTaken v) := by
  have hno : (s.counting.keptRaw != some v || s.counting.returnPending) = false := by
    rw [Bool.or_eq_false_iff, bne_eq_false_iff_eq]
    exact ⟨not_not.mp fun k => hq (.inl k), eq_false_of_ne_true fun k => hq (.inr k)⟩
  unfold State.tankArrival
  rw [h]
  show (if (s.counting.keptRaw != some v || s.counting.returnPending) = true then _ else _) = _
  rw [hno]
  rfl

theorem tankArrival_asks {s : State} {v : Nat} (h : s.tankSender = some ⟨v, false⟩) (hq : s.counting.Asks v) :
    s.tankArrival = (s.setCounting (s.counting.rawTaken v)).evaluateTank v (s.arith.outstanding .fuel) := by
  have hyes : (s.counting.keptRaw != some v || s.counting.returnPending) = true := by
    rw [Bool.or_eq_true, bne_iff_ne]
    exact hq
  unfold State.tankArrival
  rw [h]
  show (if (s.counting.keptRaw != some v || s.counting.returnPending) = true then _ else _) = _
  rw [hyes]
  rfl

theorem evaluateTank_busy {s : State} {raw n k c base : Nat} (h : s.cal.tank.evaluate raw = .request n k c base) :
    s.evaluateTank raw true = s := by
  unfold State.evaluateTank
  rw [h]
  rfl

/-! ### The turn flags -/

/-- The turn-signal distance count after an arrival of the turn flags. -/
def Counting.turned (c : Counting) (left right : Bool) : Counting :=
  { c with turnActive := c.turnActive || left || right, turnTicks := if left = true ∨ right = true then 0 else c.turnTicks }

theorem turnArrival_eq (s : State) : s.turnArrival = s.setCounting (s.counting.turned s.turnLeft s.turnRight) := by
  unfold State.turnArrival Counting.turned
  cases s.turnLeft with
  | true => simp
  | false =>
    cases s.turnRight with
    | true => simp
    | false => simp; rfl

/-- The turn ticks of an arrival of the turn flags. -/
def Sound.turned (u : Sound) (left right : Bool) : Sound :=
  let u' := { u with lastLeft := left, lastRight := right }
  if u.lastLeft != left || u.lastRight != right then u'.tick else u'

theorem turnTick_eq (s : State) : s.turnTick = s.setSound (s.sound.turned s.turnLeft s.turnRight) := rfl

/-- The flags that differ from the kept ones tick, unless the output sounds a chime or a click. -/
def Sound.Ticks (u : Sound) (left right : Bool) : Prop :=
  (left ≠ u.lastLeft ∨ right ≠ u.lastRight) ∧ u.output ∉ [.chime, .click]

theorem turned_ticks {u : Sound} {left right : Bool} (h : u.Ticks left right) :
    u.turned left right = { u with output := .tick, tickTimer := 1, lastLeft := left, lastRight := right } := by
  obtain ⟨hchanged, hout⟩ := h
  have hdiff : (u.lastLeft != left || u.lastRight != right) = true := by
    rw [Bool.or_eq_true, bne_iff_ne, bne_iff_ne]
    exact hchanged.imp Ne.symm Ne.symm
  unfold Sound.turned
  rw [hdiff]
  unfold Sound.tick
  cases ho : u.output with
  | chime | click => rw [ho] at hout; simp at hout
  | silent | tick => simp

theorem turned_quiet {u : Sound} {left right : Bool} (h : ¬u.Ticks left right) :
    u.turned left right = { u with lastLeft := left, lastRight := right } := by
  unfold Sound.turned
  by_cases hdiff : (u.lastLeft != left || u.lastRight != right) = true
  · have hout : u.output ∈ [.chime, .click] := by
      by_contra hno
      rw [Bool.or_eq_true, bne_iff_ne, bne_iff_ne] at hdiff
      exact h ⟨hdiff.imp Ne.symm Ne.symm, hno⟩
    dsimp only
    rw [if_pos hdiff]
    unfold Sound.tick
    rcases List.mem_pair.mp hout with k | k <;> simp [k]
  · dsimp only
    rw [if_neg hdiff]

/-! ### The arrival -/

/-- What the tank value makes of the FUEL client. -/
structure TankTaken (c : Counting) (a : Arith) (cal : Calibration) (raw : Nat) (c' : Counting) (a' : Arith) : Prop where
  gone : raw = 255 → c' = { c with returnPending := true, fuel := none, latestRaw := none } ∧ a' = a.beforeReturn
  same : raw ≠ 255 → ¬c.Asks raw → c' = c.rawTaken raw ∧ a' = a
  direct : raw ≠ 255 → c.Asks raw → ∀ y, cal.tank.evaluate raw = .direct y → a' = a ∧ c' = (c.rawTaken raw).taken y true
  busy : raw ≠ 255 → c.Asks raw → ∀ n k d base, cal.tank.evaluate raw = .request n k d base → a.outstanding .fuel = true →
    c' = c.rawTaken raw ∧ a' = a
  asks : raw ≠ 255 → c.Asks raw → ∀ n k d base, cal.tank.evaluate raw = .request n k d base → a.outstanding .fuel = false →
    c' = { c.rawTaken raw with requestRaw := some raw } ∧ (∀ q ∈ a.requests, q ∈ a'.requests) ∧
      ({ target := .fuel, n := n, k := k, c := d, base := base, generation := 0, afterReturn := c.returnPending } : Request) ∈
        a'.requests

theorem tankArrival_taken {s : State} {raw : Nat} (h : s.tankSender = if raw = 255 then none else some ⟨raw, false⟩) :
    TankTaken s.counting s.arith s.cal raw s.tankArrival.counting s.tankArrival.arith where
  gone hr := by
    rw [if_pos hr] at h
    rw [tankArrival_none h]
    exact ⟨rfl, clearReturn_eq _⟩
  same hr hq := by
    rw [if_neg hr] at h
    rw [tankArrival_quiet h hq]
    exact ⟨rfl, rfl⟩
  direct hr hq y hy := by
    rw [if_neg hr] at h
    rw [tankArrival_asks h hq, evaluateTank_direct (s := s.setCounting (s.counting.rawTaken raw)) hy]
    exact ⟨rfl, rfl⟩
  busy hr hq n k d base he ho := by
    rw [if_neg hr] at h
    rw [tankArrival_asks h hq, ho, evaluateTank_busy (s := s.setCounting (s.counting.rawTaken raw)) he]
    exact ⟨rfl, rfl⟩
  asks hr hq n k d base he ho := by
    rw [if_neg hr] at h
    rw [tankArrival_asks h hq, ho, evaluateTank_asks (s := s.setCounting (s.counting.rawTaken raw)) he]
    exact ⟨rfl, fun q hq => (mem_issue _ _ q).mpr (.inl hq), (mem_issue _ _ _).mpr (.inr rfl)⟩

theorem tankTaken_turned {c c' : Counting} {a a' : Arith} {cal : Calibration} {raw : Nat} (h : TankTaken c a cal raw c' a')
    (left right : Bool) : TankTaken (c.turned left right) a cal raw (c'.turned left right) a' := by
  obtain ⟨hgone, hsame, hdirect, hbusy, hasks⟩ := h
  refine ⟨fun hr => ?_, fun hr hq => ?_, fun hr hq y hy => ?_, fun hr hq n k d base he ho => ?_, fun hr hq n k d base he ho => ?_⟩
  · obtain ⟨hc, ha⟩ := hgone hr
    exact ⟨by rw [hc]; rfl, ha⟩
  · obtain ⟨hc, ha⟩ := hsame hr hq
    exact ⟨by rw [hc]; rfl, ha⟩
  · obtain ⟨ha, hc⟩ := hdirect hr hq y hy
    refine ⟨ha, ?_⟩
    rw [hc, taken_true, taken_true]
    rfl
  · obtain ⟨hc, ha⟩ := hbusy hr hq n k d base he ho
    exact ⟨by rw [hc]; rfl, ha⟩
  · obtain ⟨hc, hold, hnew⟩ := hasks hr hq n k d base he ho
    exact ⟨by rw [hc]; rfl, hold, hnew⟩

theorem bodyArrival_kept (s : State) : KeptBut [.counting, .arith, .sound] s s.tankArrival.turnArrival.turnTick :=
  ((tankArrival_kept s).andThen (cs := [.counting, .arith]) (turnArrival_kept _)).andThen (turnTick_kept _)

/-- The followers of E2, as the obligation has them. -/
theorem bodyArrives_of {s x t : State} {raw : Nat} (hx : KeptBut [.line, .topics] s x)
    (hsender : x.tankSender = if raw = 255 then none else some ⟨raw, false⟩)
    (hc : t.counting = x.tankArrival.turnArrival.turnTick.counting) (ha : t.arith = x.tankArrival.turnArrival.turnTick.arith)
    (hs : t.sound = x.tankArrival.turnArrival.turnTick.sound) : s.BodyArrives raw x.turnLeft x.turnRight t := by
  have htank := tankArrival_kept x
  have hleft : x.tankArrival.turnLeft = x.turnLeft := congrArg (fun e : Entry => e.flagSet 4 1) (entry_of_topics htank.topics 2)
  have hright : x.tankArrival.turnRight = x.turnRight := congrArg (fun e : Entry => e.flagSet 4 2) (entry_of_topics htank.topics 2)
  have hturn := turnArrival_kept x.tankArrival
  have hleft' : x.tankArrival.turnArrival.turnLeft = x.turnLeft :=
    (congrArg (fun e : Entry => e.flagSet 4 1) (entry_of_topics hturn.topics 2)).trans hleft
  have hright' : x.tankArrival.turnArrival.turnRight = x.turnRight :=
    (congrArg (fun e : Entry => e.flagSet 4 2) (entry_of_topics hturn.topics 2)).trans hright
  rw [turnTick_eq, hleft', hright'] at hc ha hs
  have hcount : t.counting = x.tankArrival.counting.turned x.turnLeft x.turnRight := by
    rw [hc, State.setSound_counting, turnArrival_eq, hleft, hright, State.setCounting_counting]
  have harith : t.arith = x.tankArrival.arith := by rw [ha, State.setSound_arith, hturn.arith]
  have hsound : t.sound = s.sound.turned x.turnLeft x.turnRight := by
    rw [hs, State.setSound_sound, hturn.sound, htank.sound, hx.sound]
  have htaken := tankTaken_turned (tankArrival_taken hsender) x.turnLeft x.turnRight
  rw [← hcount, ← harith, hx.counting, hx.arith, hx.cal] at htaken
  obtain ⟨hgone, hsame, hdirect, hbusy, hasks⟩ := htaken
  have hlasts : t.sound.lastLeft = x.turnLeft ∧ t.sound.lastRight = x.turnRight := by
    by_cases hticks : s.sound.Ticks x.turnLeft x.turnRight
    · rw [hsound, turned_ticks hticks]
      exact ⟨rfl, rfl⟩
    · rw [hsound, turned_quiet hticks]
      exact ⟨rfl, rfl⟩
  refine ⟨hgone, hsame, fun hr hq => ⟨fun y hy => ?_, fun n k d base he => ⟨hbusy hr hq n k d base he, hasks hr hq n k d base he⟩⟩,
    hlasts.1, hlasts.2, fun h => hsound.trans (turned_ticks h), fun h => hsound.trans (turned_quiet h)⟩
  obtain ⟨harithSame, hcounting⟩ := hdirect hr hq y hy
  exact ⟨harithSame, hcounting.trans (taken_true _ _)⟩

end Sys2Proof.Machine
end

section
/-! SUPPORT. The followers of an arrival at E3: the rear cascade, warning 30 with its presented sub-warning, 44h and
quiet cabin. Settles O38. -/
namespace Sys2Proof.Machine
set_option Elab.async false

/-! ### The event of the cascade, step by step -/

/-- The sub-warnings after an arrival of their flags. -/
def movedSubs (data : List Byte) (subs : List SubState) : List SubState :=
  subs.mapIdx fun n x => x.move (bitAt data 0 n) (bitAt data 1 n)

/-- A sub-warning acknowledged here that the rear module has not marked. -/
def subsRepeat (data : List Byte) (subs : List SubState) : Bool :=
  (List.range 8).any fun n => subs.getD n .none == .ackedLocal && bitAt data 0 n && !bitAt data 1 n

/-- The sub-warnings moved, and their 44h queued again. -/
def State.subsMoved (x : State) (data : List Byte) : State :=
  let s := x.setArbiter { x.arbiter with subs := movedSubs data x.arbiter.subs }
  if subsRepeat data x.arbiter.subs then s.queueCascade else s

/-- What the event of the cascade does before the selection. -/
def State.cascadeStep (x : State) (data : List Byte) : State :=
  ((x.subsMoved data).takeLevel 30 (lowestOpen (x.subsMoved data).arbiter.subs).isSome).followPresented

theorem cascadeArrival_eq (x : State) :
    x.cascadeArrival = x.arbiterEvent fun y => y.cascadeStep (x.entry 3).data := rfl

theorem subsMoved_kept (x : State) (data : List Byte) : KeptBut [.arbiter, .line, .handler] x (x.subsMoved data) :=
  .ite ((setArbiter_kept _ _).andThen (queueCascade_kept _)) ((setArbiter_kept _ _).mono (by decide))

theorem subsMoved_arbiter (x : State) (data : List Byte) :
    (x.subsMoved data).arbiter = { x.arbiter with subs := movedSubs data x.arbiter.subs } := by
  unfold State.subsMoved
  dsimp only
  split
  · exact (queueCascade_kept _).arbiter
  · rfl

theorem subsMoved_inner (x : State) (data : List Byte) : Inner x (x.subsMoved data) := by
  have hmoved : Inner x (x.setArbiter { x.arbiter with subs := movedSubs data x.arbiter.subs }) :=
    setArbiter_inner rfl rfl rfl rfl rfl
  exact .ite (hmoved.trans (queueCascade_inner _)) hmoved

theorem cascadeStep_inner (x : State) (data : List Byte) : Inner x (x.cascadeStep data) :=
  ((subsMoved_inner x data).trans (takeLevel_inner _ _ _)).trans (followPresented_inner _)

theorem move_cases (active acked : Bool) (x : SubState) : x.move active acked =
    if active = false then .none else if acked = true ∨ x = .ackedLocal then .ackedLocal else .opened := by
  unfold SubState.move
  cases active <;> cases acked <;> cases x <;> rfl

theorem movedSubs_getElem {data : List Byte} {subs : List SubState} {n : Nat} {x : SubState} (h : subs[n]? = some x) :
    (movedSubs data subs)[n]? = some (x.move (bitAt data 0 n) (bitAt data 1 n)) := by
  unfold movedSubs
  rw [List.getElem?_mapIdx, h]
  rfl

theorem movedSubs_length (data : List Byte) (subs : List SubState) : (movedSubs data subs).length = subs.length :=
  List.length_mapIdx

theorem isOpen_iff {subs : List SubState} {p : Nat} : subs.getD p .none = .opened ↔ subs[p]? = some .opened := by
  rw [List.getD_eq_getElem?_getD]
  cases subs[p]? with
  | none => simp
  | some x => simp

/-- Warning 30 in service, with no sub-warning presented that stays OPEN. -/
def State.Renews (x : State) (subs : List SubState) (w : Warning) : Prop :=
  w.state.inService = true ∧ ∀ q, x.arbiter.presented = some q → subs[q]? ≠ some .opened

theorem followPresented_renews {x : State} (h : x.Renews x.arbiter.subs (x.warning 30)) : x.followPresented = x.presentNext := by
  obtain ⟨hin, hno⟩ := h
  unfold State.followPresented
  rw [if_pos hin]
  cases hp : x.arbiter.presented with
  | none => rfl
  | some p => exact if_neg fun k => hno p hp (isOpen_iff.mp k)

theorem followPresented_stays {x : State} (h : ¬x.Renews x.arbiter.subs (x.warning 30)) : x.followPresented = x := by
  unfold State.followPresented
  by_cases hin : (x.warning 30).state.inService = true
  · obtain ⟨p, hp, ho⟩ : ∃ p, x.arbiter.presented = some p ∧ x.arbiter.subs[p]? = some .opened := by
      by_contra hno
      exact h ⟨hin, fun q hq ho => hno ⟨q, hq, ho⟩⟩
    rw [if_pos hin, hp]
    exact if_pos (isOpen_iff.mpr ho)
  · rw [if_neg hin]

theorem shownNotice_playing (s : State) (w : Nat) :
    (s.shownNotice w).sound.playing = some ⟨(s.warningFigures w).pattern, w⟩ := by
  unfold State.shownNotice
  dsimp only
  split
  · rfl
  · split <;> rfl

/-- Warning 30 after its level request is taken. -/
def State.cascadeWarning (x : State) (subs : List SubState) : Warning :=
  (x.warning 30).takeLevel (x.warningFigures 30).enabled (lowestOpen subs).isSome

/-- What the event of the cascade leaves before the selection. -/
structure CascadeStepped (x d : State) (subs : List SubState) : Prop where
  inner : Inner x d
  others : ∀ v, v ≠ 30 → d.warning v = x.warning v
  caution : d.arbiter.cautionOrder = x.arbiter.cautionOrder
  advisory : d.arbiter.advisoryOrder = x.arbiter.advisoryOrder
  moved : d.arbiter.subs = subs
  state : (d.warning 30).state = (x.cascadeWarning subs).state
  level : (d.warning 30).level = (x.cascadeWarning subs).level
  stays : ¬x.Renews subs (x.cascadeWarning subs) →
    d.warning 30 = x.cascadeWarning subs ∧ d.arbiter.presented = x.arbiter.presented
  renewed : x.Renews subs (x.cascadeWarning subs) → d.arbiter.presented = lowestOpen subs
  again : x.Renews subs (x.cascadeWarning subs) → (x.cascadeWarning subs).state = .shown →
    (d.warning 30).shownTimer = 0 ∧ d.sound.playing = some ⟨(x.warningFigures 30).pattern, 30⟩

theorem cascadeStep_stepped {x : State} (hl : x.arbiter.warnings.length = 32) (data : List Byte) :
    CascadeStepped x (x.cascadeStep data) (movedSubs data x.arbiter.subs) := by
  have hmoved := subsMoved_arbiter x data
  have hinner := cascadeStep_inner x data
  have hfigures : (x.subsMoved data).warningFigures 30 = x.warningFigures 30 :=
    warningFigures_of_cal (subsMoved_kept x data).cal 30
  have hwarning (v : Nat) : (x.subsMoved data).warning v = x.warning v := warning_of_warnings (by rw [hmoved]) v
  unfold State.cascadeStep at hinner ⊢
  generalize hy : (x.subsMoved data).takeLevel 30 (lowestOpen (x.subsMoved data).arbiter.subs).isSome = y at hinner ⊢
  have hlen : 30 < (x.subsMoved data).arbiter.warnings.length := by rw [hmoved]; exact hl ▸ (by decide : 30 < 32)
  have h30 : y.warning 30 = x.cascadeWarning (movedSubs data x.arbiter.subs) := by
    rw [← hy]
    unfold State.takeLevel
    rw [modifyWarning_new _ hlen, hwarning, hfigures, hmoved]
    rfl
  have hv (v : Nat) (h : v ≠ 30) : y.warning v = x.warning v := by
    rw [← hy]
    unfold State.takeLevel
    rw [modifyWarning_others _ h, hwarning]
  have hrest : y.arbiter = { (x.subsMoved data).arbiter with warnings := y.arbiter.warnings } := by rw [← hy]; rfl
  rw [hmoved] at hrest
  have hrenews : y.Renews y.arbiter.subs (y.warning 30) ↔
      x.Renews (movedSubs data x.arbiter.subs) (x.cascadeWarning (movedSubs data x.arbiter.subs)) := by
    unfold State.Renews
    rw [h30, show y.arbiter.presented = x.arbiter.presented by rw [hrest],
      show y.arbiter.subs = movedSubs data x.arbiter.subs by rw [hrest]]
  by_cases hr : y.Renews y.arbiter.subs (y.warning 30)
  · rw [followPresented_renews hr] at hinner ⊢
    have hnext := (presentNext_arbiter y).trans (nextPresented_rest y)
    have hnextWarning (v : Nat) : y.presentNext.warning v =
        if v = 30 ∧ (y.warning 30).state = .shown then { y.warning v with shownTimer := 0 } else y.warning v := by
      rw [← nextPresented_warning]
      exact warning_of_warnings (by rw [presentNext_arbiter]) v
    have hsubs : y.arbiter.subs = movedSubs data x.arbiter.subs := by rw [hrest]
    refine ⟨hinner, fun v h => ?_, by rw [hnext, hrest], by rw [hnext, hrest], by rw [hnext, hrest], ?_, ?_,
      fun k => absurd (hrenews.mp hr) k, fun _ => by rw [hnext, hsubs], fun _ hs => ?_⟩
    · rw [hnextWarning, if_neg fun k => h k.1, hv v h]
    · rw [hnextWarning, ← h30]
      split <;> rfl
    · rw [hnextWarning, ← h30]
      split <;> rfl
    · rw [← h30] at hs
      refine ⟨by rw [hnextWarning, if_pos ⟨rfl, hs⟩], ?_⟩
      rw [presentNext_eq, if_pos hs, shownNotice_playing, warningFigures_of_cal (nextPresented_kept y).cal]
      rw [← warningFigures_of_cal (t := y) (s := x) (by rw [← hy]; exact (subsMoved_kept x data).cal)]
  · rw [followPresented_stays hr] at hinner ⊢
    exact ⟨hinner, hv, by rw [hrest], by rw [hrest], by rw [hrest], by rw [h30], by rw [h30],
      fun _ => ⟨h30, by rw [hrest]⟩, fun k => absurd (hrenews.mpr k) hr, fun k => absurd (hrenews.mpr k) hr⟩

/-! ### Warning 30 -/

theorem cascadeWarning_stands {x : State} {subs : List SubState} (h : (x.warningFigures 30).enabled = true ∧ .opened ∈ subs) :
    x.cascadeWarning subs =
      if (x.warning 30).state = .off then { (x.warning 30).goTo .pending with level := true }
      else { x.warning 30 with level := true } := by
  refine takeLevel_stands ⟨h.1, ?_⟩ _
  by_contra hno
  exact lowestOpen_none.mp (Option.isSome_eq_false_iff.mp (eq_false_of_ne_true hno) |> Option.isNone_iff_eq_none.mp) h.2

theorem cascadeWarning_falls {x : State} {subs : List SubState} (h : ¬((x.warningFigures 30).enabled = true ∧ .opened ∈ subs)) :
    x.cascadeWarning subs = if (x.warning 30).level then { (x.warning 30).goTo .off with level := false } else x.warning 30 := by
  refine takeLevel_falls (fun k => h ⟨k.1, ?_⟩) _
  by_contra hno
  rw [lowestOpen_none.mpr hno] at k
  cases k.2

/-- Warning 30 that goes on in service is as it was, but for its level request. -/
theorem cascadeWarning_goesOn {x : State} {subs : List SubState} (h : (x.warning 30).state.inService = true)
    (hin : (x.cascadeWarning subs).state ≠ .off) :
    (x.cascadeWarning subs).state = (x.warning 30).state ∧ (x.cascadeWarning subs).shownTimer = (x.warning 30).shownTimer := by
  by_cases hst : (x.warningFigures 30).enabled = true ∧ .opened ∈ subs
  · rw [cascadeWarning_stands hst, if_neg fun k => by rw [k] at h; cases h]
    exact ⟨rfl, rfl⟩
  · rw [cascadeWarning_falls hst] at hin ⊢
    split at hin
    · exact absurd rfl hin
    · rw [if_neg (by assumption)]
      exact ⟨rfl, rfl⟩

/-! ### After the selection -/

theorem selected_inService {x y : Warning} (h : x.Selected y) (hx : x.state.inService = true) : y.state.inService = true := by
  rcases h with rfl | ⟨-, rfl⟩ | ⟨-, rfl⟩
  · exact hx
  · rfl
  · rfl

theorem selected_presents {d : State} (h : (d.warning 30).state.inService = false) :
    d.dropPresented.select.arbiter.presented =
      if (d.dropPresented.select.warning 30).state.inService then lowestOpen d.arbiter.subs else none := by
  have hdropped : d.dropPresented.arbiter.presented = none := by rw [dropPresented_presented, h]; rfl
  have hwarning := dropPresented_warning d 30
  have hsubs := (dropPresented_rest d).2.2.1
  rcases select_shows d.dropPresented with hsel | ⟨w, hsel⟩
  · rw [hsel, hwarning, h, hdropped]
    rfl
  · rw [hsel.presented, hdropped, hsubs]
    by_cases hw : w = 30
    · subst hw
      rw [if_pos ⟨rfl, rfl⟩, hsel.shown]
      rfl
    · rw [if_neg fun k => hw k.1]
      rcases hsel.others 30 (Ne.symm hw) with k | ⟨k, -⟩
      · rw [k, hwarning, h]
        rfl
      · rw [hwarning] at k
        rw [k] at h
        cases h

section event

variable {x : State} {f : State → State} {subs : List SubState} (hs : CascadeStepped x (f x) subs) (hc : x.OrdersComplete)
  (hm : x.MostUrgentShown)

include hs

theorem cascadeEvent_subs : (x.arbiterEvent f).arbiter.subs = subs := (arbiterEvent_rest x f).2.2.1.trans hs.moved

/-- Outside service before the selection, the presented sub-warning is chosen as warning 30 enters service. -/
theorem cascadeEvent_presented (h : ((f x).warning 30).state.inService = false) : (x.arbiterEvent f).arbiter.presented =
    if ((x.arbiterEvent f).warning 30).state.inService then lowestOpen subs else none := by
  rw [arbiterEvent_warning, arbiterEvent_eq, afterSelect_arbiter]
  exact (selected_presents h).trans (by rw [hs.moved])

include hc hm

/-- Warning 30 in service before and after: no selection. -/
theorem cascadeEvent_quiet (hin : (x.warning 30).state.inService = true) (hoff : (x.cascadeWarning subs).state ≠ .off) :
    (x.arbiterEvent f).warning 30 = (f x).warning 30 ∧
      (x.arbiterEvent f).arbiter.presented = (f x).arbiter.presented ∧
      (∀ p, (f x).sound.playing = some p → (x.warning 30).state = .shown → (x.arbiterEvent f).sound.playing = some p) := by
  have hstate := (cascadeWarning_goesOn hin hoff).1
  have hstates : ∀ v, ((f x).warning v).state = (x.warning v).state := fun v => by
    by_cases hv : v = 30
    · rw [hv, hs.state, hstate]
    · rw [hs.others v hv]
  have hquiet := (arbiterEvent_quiet hs.inner hc hm hstates).1
  have hstands := arbiterEvent_stands hquiet
  refine ⟨warning_of_warnings (by rw [hstands]) 30, ?_, fun p hp hshown => ?_⟩
  · rw [hstands]
    exact if_pos (by rw [hstates]; exact hin)
  · have hchimes : (x.arbiterEvent f).Chimes (f x).sound := by
      rw [arbiterEvent_eq, hquiet]
      refine afterSelect_chimes (fun _ => shown_isSome_iff.mpr ⟨30, ?_⟩) ?_
      · rw [dropPresented_warning, hstates, hshown]
      · unfold State.Chimes
        rw [(dropPresented_kept (f x)).sound]
    unfold State.Chimes at hchimes
    rw [hchimes]
    exact hp

theorem cascadeEvent_moves : x.CascadeMoves (x.arbiterEvent f) := by
  obtain ⟨hcaution, hadvisory, -⟩ := arbiterEvent_rest x f
  have hsubs := cascadeEvent_subs hs
  have hsel := arbiterEvent_selected x f
  have hpresented := cascadeEvent_presented hs
  unfold State.CascadeMoves
  dsimp only
  rw [hsubs]
  simp only [← inService_mem]
  have hfewer := hs.inner.rings.fewer 30
  have hin (k : (x.warning 30).state.inService = true) (k' : ((x.arbiterEvent f).warning 30).state.inService = true) :
      (x.cascadeWarning subs).state ≠ .off := fun hoff => by
    rw [(hsel 30).same (by rw [hs.state, hoff]; decide), hs.state, hoff] at k'
    cases k'
  refine ⟨?_, fun hl hno => ?_, fun hoff hst => ?_, fun k hst => ?_, fun v _ hv hstate => ?_, hcaution.trans hs.caution,
    hadvisory.trans hs.advisory, arbiterEvent_mostUrgent hs.inner hc hm.1, fun hno => ?_,
    fun p k k' hp => ⟨fun ho => ?_, fun hshown hshown' => ⟨fun ho => ?_, fun ho => ?_⟩⟩, fun p k' hor hp hlow => ?_⟩
  · rw [(hsel 30).level, hs.level]
    by_cases hst : (x.warningFigures 30).enabled = true ∧ .opened ∈ subs
    · rw [cascadeWarning_stands hst]
      simp only [hst, and_self, iff_true]
      split <;> rfl
    · rw [cascadeWarning_falls hst]
      simp only [hst, iff_false]
      split
      · exact Bool.false_ne_true
      · assumption
  · rw [(hsel 30).same] <;> rw [hs.state, cascadeWarning_falls hno, if_pos hl]
    · rfl
    · show WarningState.off ∉ _
      decide
  · have hpending : ((f x).warning 30).state = .pending := by
      rw [hs.state, cascadeWarning_stands hst, if_pos hoff]
      rfl
    exact (hsel 30).goesOn.2.1 hpending
  · refine selected_inService (hsel 30) ?_
    rw [hs.state, cascadeWarning_stands hst, if_neg fun o => by rw [o] at k; cases k]
    exact k
  · have hfx := hs.others v hv
    rw [← hfx] at hstate ⊢
    refine (hsel v).same fun k => ?_
    rcases List.mem_pair.mp hstate with o | o <;> rw [o] at k <;> simp at k
  · have hd : ((f x).warning 30).state.inService = false :=
      eq_false_of_ne_true fun k => hno (selected_inService (hsel 30) k)
    rw [hpresented hd, if_neg hno]
  · obtain ⟨-, hq, -⟩ := cascadeEvent_quiet hs hc hm k (hin k k')
    rw [hq, (hs.stays fun hr => hr.2 p hp ho).2, hp]
  · have hoff := hin k k'
    obtain ⟨hq, -, -⟩ := cascadeEvent_quiet hs hc hm k hoff
    rw [hq, (hs.stays fun hr => hr.2 p hp ho).1, (cascadeWarning_goesOn k hoff).2]
  · have hoff := hin k k'
    have hgoes := (cascadeWarning_goesOn k hoff).1
    obtain ⟨hq, -, hplay⟩ := cascadeEvent_quiet hs hc hm k hoff
    have hrenews : x.Renews subs (x.cascadeWarning subs) :=
      ⟨by rw [hgoes]; exact k, fun q hq' => by rw [hp] at hq'; cases hq'; exact ho⟩
    obtain ⟨htimer, hplaying⟩ := hs.again hrenews (hgoes.trans hshown)
    exact ⟨by rw [hq, htimer], hplay _ hplaying hshown⟩
  · by_cases k : (x.warning 30).state.inService = true
    · have hoff := hin k k'
      obtain ⟨-, hq, -⟩ := cascadeEvent_quiet hs hc hm k hoff
      have hrenews : x.Renews subs (x.cascadeWarning subs) :=
        ⟨by rw [(cascadeWarning_goesOn k hoff).1]; exact k, hor.resolve_left fun o => o k⟩
      rw [hq, hs.renewed hrenews, lowestOpen_of hp hlow]
    · have hd : ((f x).warning 30).state.inService = false := eq_false_of_ne_true fun o => k (hfewer o ▸ o)
      rw [hpresented hd, if_pos k', lowestOpen_of hp hlow]

end event

/-! ### The line -/

theorem queue_seqs (s : State) (topic cls : Nat) (kind : MsgKind) (data : List Byte) (answer : Answer) :
    (s.queue topic cls kind data answer).line.seqs = s.line.seqs.advance topic := by
  have hfull (u : State) (m : Msg) : (u.placeFull m).line.seqs = u.line.seqs := by
    unfold State.placeFull
    dsimp only
    split
    · split <;> rw [(replyLeft_kept _ _).line] <;> rfl
    · rw [(replyLeft_kept _ _).line]
      rfl
  unfold State.queue State.placeMsg
  dsimp only
  split
  · rw [(busyReplaced_kept _ _ _).line]
    rfl
  · split
    · rfl
    · exact hfull _ _

theorem arbiterEvent_seq44 (x : State) (f : State → State) : (x.arbiterEvent f).line.seqs.t44 = (f x).line.seqs.t44 := by
  have hchimed : KeptBut [.arbiter, .sound] (f x) (State.chimed x (f x).dropPresented.select) :=
    ((dropPresented_kept (f x)).andThen (cs := [.arbiter, .sound]) (select_kept _)).andThen (chimed_kept _ _)
  rw [arbiterEvent_eq, afterSelect_eq]
  split
  · rw [hchimed.line]
  · unfold State.queueSummary State.publish
    rw [queue_seqs, hchimed.line]
    rfl

theorem cascadeStep_line (x : State) (data : List Byte) : (x.cascadeStep data).line = (x.subsMoved data).line := by
  have hkept : KeptBut [.arbiter, .sound] (x.subsMoved data) (x.cascadeStep data) :=
    ((takeLevel_kept (x.subsMoved data) 30 _).andThen (cs := [.arbiter, .sound]) (followPresented_kept _))
  exact hkept.line

theorem cascadeArrival_waits {x : State} (h : subsRepeat (x.entry 3).data x.arbiter.subs = true) (hroom : x.line.queue.length < 10) :
    x.cascadeArrival.line.Waits 0x44 1 (cascadeBytes (movedSubs (x.entry 3).data x.arbiter.subs)) 11 := by
  have hstep : (x.cascadeStep (x.entry 3).data).line.Waits 0x44 1 (cascadeBytes (movedSubs (x.entry 3).data x.arbiter.subs)) 10 := by
    rw [cascadeStep_line]
    unfold State.subsMoved
    dsimp only
    rw [if_pos h]
    exact queue_waits (s := x.setArbiter { x.arbiter with subs := movedSubs (x.entry 3).data x.arbiter.subs }) 0x44 1
      .publication _ .none (show x.line.queue.length ≤ 9 by omega) (by decide)
  rw [cascadeArrival_eq]
  exact hstep.event (f := fun y => y.cascadeStep (x.entry 3).data) (by decide)

theorem cascadeArrival_seq44 {x : State} (h : subsRepeat (x.entry 3).data x.arbiter.subs = false) :
    x.cascadeArrival.line.seqs.t44 = x.line.seqs.t44 := by
  rw [cascadeArrival_eq, arbiterEvent_seq44, cascadeStep_line]
  unfold State.subsMoved
  dsimp only
  rw [h]
  rfl

theorem subsRepeat_iff {data : List Byte} {subs : List SubState} : subsRepeat data subs = true ↔
    ∃ n < 8, subs[n]? = some .ackedLocal ∧ bitAt data 0 n = true ∧ bitAt data 1 n = false := by
  have hget (n : Nat) : subs.getD n .none = .ackedLocal ↔ subs[n]? = some .ackedLocal := by
    rw [List.getD_eq_getElem?_getD]
    cases subs[n]? with
    | none => simp
    | some x => simp
  unfold subsRepeat
  simp only [List.any_eq_true, List.mem_range, Bool.and_eq_true, beq_iff_eq, Bool.not_eq_true', hget, and_assoc]

/-! ### Quiet cabin -/

theorem followQuietCabin_sound (s : State) :
    s.followQuietCabin.sound.quietCabin = s.quietCabinFlag ∧ s.followQuietCabin.sound.playing = s.sound.playing := by
  have hsync (u : State) : u.syncChime.sound.quietCabin = u.sound.quietCabin ∧ u.syncChime.sound.playing = u.sound.playing := by
    unfold State.syncChime
    split
    · exact ⟨rfl, rfl⟩
    · split <;> exact ⟨rfl, rfl⟩
  exact hsync (s.setSound { s.sound with quietCabin := s.quietCabinFlag })

/-! ### The arrival -/

/-- The event's outcome in the obligation's terms, as blocks outside the arbiter change around it. -/
theorem cascadeMoves_of {s x t t' : State} (h : x.CascadeMoves t) (hx : x.arbiter = s.arbiter) (hcal : x.cal = s.cal)
    (ht : t'.arbiter = t.arbiter) (htcal : t'.cal = t.cal) (hplaying : t'.sound.playing = t.sound.playing) : s.CascadeMoves t' := by
  have hwx : ∀ v, x.warning v = s.warning v := warning_of_warnings (by rw [hx])
  have hwt : ∀ v, t'.warning v = t.warning v := warning_of_warnings (by rw [ht])
  have hcount : t'.shownCount = t.shownCount := by unfold State.shownCount; rw [ht]
  unfold State.CascadeMoves State.MostUrgentShown at *
  simp only [hwx, warningFigures_of_cal hcal, hx] at h
  simp only [hcount, hwt, warningClass_of_cal htcal, ht, hplaying]
  exact h

theorem frameData_eq (bs : List Byte) : frameData bs = (bs.drop 3).take (frameLength bs) := rfl

theorem followPresented_subs (x : State) : x.followPresented.arbiter.subs = x.arbiter.subs := by
  have hnext : x.presentNext.arbiter.subs = x.arbiter.subs := by
    rw [presentNext_arbiter, nextPresented_rest]
  unfold State.followPresented
  split
  · split
    · split
      · rfl
      · exact hnext
    · exact hnext
  · rfl

theorem cascadeArrival_subs (x : State) : x.cascadeArrival.arbiter.subs = movedSubs (x.entry 3).data x.arbiter.subs := by
  rw [cascadeArrival_eq]
  refine (arbiterEvent_rest x _).2.2.1.trans ((followPresented_subs _).trans ?_)
  show (x.subsMoved (x.entry 3).data).arbiter.subs = _
  rw [subsMoved_arbiter]

theorem cascadeFollowers_kept (x : State) : KeptBut arbiterBlocks x x.cascadeArrival.followQuietCabin :=
  (cascadeArrival_kept x).andThen (followQuietCabin_kept _)

theorem tellArrival_topics (s : State) (e : Nat) : (s.tellArrival e).topics = s.topics := by
  unfold State.tellArrival
  split
  · exact (fuelArrival_kept s).topics
  · exact (bodyArrival_kept s).topics
  · exact (cascadeFollowers_kept s).topics
  · rfl

theorem tellArrival_others (s : State) {e : Nat} (h : e = 0 ∨ 4 ≤ e) : s.tellArrival e = s := by
  unfold State.tellArrival
  split
  · omega
  · omega
  · omega
  · rfl

/-- An entry's fields after its message (R73, R74). -/
theorem arrive_eq (x : Entry) (source seq : Nat) (data : List Byte) : x.arrive source seq data = { x with
    state := .fresh, age := x.limit, data := data, lastSource := some source, lastSeq := some seq
    arrivals := min 65535 (x.arrivals + 1)
    missed := match x.lastSeq, x.lastSource with
      | some q, some f => if f = source then min 255 (x.missed + ((seq + 16 - q) % 16 - 1)) else min 255 x.missed
      | _, _ => min 255 x.missed } := by
  unfold Entry.arrive Entry.missedBy satAdd
  cases x.lastSeq with
  | none => rfl
  | some q =>
    cases x.lastSource with
    | none => rfl
    | some f =>
      dsimp only
      split <;> rfl

/-- A publication of a wrong length. -/
theorem arrival_rejected {s : State} {bs : List Byte} {e : Nat} (h : s.Hears bs) (he : s.EntryOf bs e)
    (hl : frameLength bs ≠ (s.entry e).length) :
    ∃ t, exec (.endGap bs false) s = .next t ∧ t.line = s.heardLine ∧ KeptBut [.line, .topics, .display] s t ∧
      t.entry e = { s.entry e with formatErrors := min 255 ((s.entry e).formatErrors + 1) } ∧
      ∀ d, d ≠ e → t.entry d = s.entry d := by
  have hkept : KeptBut ([.line] ++ [.topics]) s (s.listened.modifyEntry e Entry.reject) :=
    (listened_kept s).andThen (modifyEntry_kept _ _ _)
  have hpresent := present_kept s (s.listened.modifyEntry e Entry.reject)
  refine ⟨_, exec_next rfl (endGap_rejected h he hl), hpresent.line, present_frame_choice hkept (.of_kept hkept), ?_,
    fun d hd => ?_⟩
  · rw [entry_of_topics hpresent.topics]
    exact entry_modifyEntry_same (s := s.listened) he.2.1 _
  · rw [entry_of_topics hpresent.topics]
    exact entry_modifyEntry_ne (s := s.listened) hd _

/-- What an arrival at E3 leaves, with the flags of its message. -/
theorem cascade_arrives {s x : State} {bs : List Byte} (hx : KeptBut [.line, .topics] s x)
    (hdata : ∀ k < 3, ∀ n, bitAt (x.entry 3).data k n = bitAt bs (3 + k) n) (hflag : x.quietCabinFlag = bitAt bs 5 0)
    (hsubs : s.arbiter.subs.length = 8) (hc : s.OrdersComplete) (hm : s.MostUrgentShown) {t : State}
    (ht : KeptBut [.keys, .display] x.cascadeArrival.followQuietCabin t) :
    s.CascadeMoves t ∧ t.sound.quietCabin = bitAt bs 5 0 ∧
      ((∃ n < 8, s.arbiter.subs[n]? = some .ackedLocal ∧ bitAt bs 3 n = true ∧ bitAt bs 4 n = false) →
        x.line.queue.length < 10 → t.CascadeQueued) ∧
      (¬(∃ n < 8, s.arbiter.subs[n]? = some .ackedLocal ∧ bitAt bs 3 n = true ∧ bitAt bs 4 n = false) →
        t.line.seqs.t44 = x.line.seqs.t44) := by
  have hquiet := followQuietCabin_kept x.cascadeArrival
  have hsound := followQuietCabin_sound x.cascadeArrival
  have hagain : subsRepeat (x.entry 3).data x.arbiter.subs = true ↔
      ∃ n < 8, s.arbiter.subs[n]? = some .ackedLocal ∧ bitAt bs 3 n = true ∧ bitAt bs 4 n = false := by
    rw [subsRepeat_iff, hx.arbiter]
    simp only [hdata 0 (by decide), hdata 1 (by decide)]
  have hmoved : t.arbiter.subs = movedSubs (x.entry 3).data x.arbiter.subs := by
    rw [ht.arbiter, hquiet.arbiter, cascadeArrival_subs]
  have hline : t.line = x.cascadeArrival.line := ht.line.trans hquiet.line
  refine ⟨?_, ?_, fun h hroom => ?_, fun h => ?_⟩
  · have hxc := complete_of_kept hx hc
    have hevent := cascadeEvent_moves (f := fun y => y.cascadeStep (x.entry 3).data) (cascadeStep_stepped hxc.1 (x.entry 3).data)
      hxc (mostUrgent_of_kept hx hm)
    rw [← cascadeArrival_eq] at hevent
    exact cascadeMoves_of hevent hx.arbiter hx.cal (ht.arbiter.trans hquiet.arbiter) (ht.cal.trans hquiet.cal)
      (by rw [ht.sound, hsound.2])
  · rw [ht.sound, hsound.1, ← hflag]
    exact congrArg (fun e : Entry => e.flagSet 2 0) (entry_of_topics (cascadeArrival_kept x).topics 3)
  · obtain ⟨-, m, hm', htopic, hstart, hcls, hbytes⟩ := cascadeArrival_waits (hagain.mpr h) hroom
    refine ⟨m, by rw [hline]; exact hm', htopic, hstart, hcls, by rw [hbytes]; rfl, fun j hj => ?_⟩
    rw [hbytes, hmoved, bitAt_cascadeBytes (by rw [movedSubs_length, hx.arbiter]; exact hsubs) hj]
  · rw [hline, cascadeArrival_seq44 (eq_false_of_ne_true fun k => h (hagain.mp k))]

/-- Settles O38: an arrival by its length and its entry, with the entry's followers. -/
theorem arrivalsAreTaken : Obligations.ArrivalsAreTaken := by
  intro s bs e h he
  refine ⟨arrival_rejected h he, fun hl => ?_⟩
  have hstart := arrived_kept s bs e
  have hpresent := present_kept s ((s.arrived bs e).tellArrival e)
  have htopics : (State.present s ((s.arrived bs e).tellArrival e)).topics = (s.arrived bs e).topics :=
    hpresent.topics.trans (tellArrival_topics _ e)
  refine ⟨_, exec_next rfl (endGap_taken h he hl), ?_, fun d hd => ?_, by rw [htopics]; rfl, fun ho => ?_, ?_, ?_, ?_⟩
  · rw [entry_of_topics htopics, arrived_entry he, arrive_eq]
    rfl
  · rw [entry_of_topics htopics]
    exact entry_modifyEntry_ne (s := s.listened) hd _
  · rw [tellArrival_others _ ho]
    exact ⟨(present_kept s _).line, present_frame_choice hstart (.of_kept hstart)⟩
  · rintro rfl n x hx
    have hsubs : (State.present s ((s.arrived bs 3).tellArrival 3)).arbiter.subs =
        movedSubs (frameData bs) s.arbiter.subs := by
      rw [hpresent.arbiter]
      show (s.arrived bs 3).cascadeArrival.followQuietCabin.arbiter.subs = _
      rw [(followQuietCabin_kept _).arbiter, cascadeArrival_subs, arrived_entry he, hstart.arbiter]
      rfl
    dsimp only
    rw [hsubs, movedSubs_getElem hx, move_cases]
    rfl
  · rintro rfl hlength
    have hframe : frameLength bs = 5 := hl.trans hlength
    have hkept : KeptBut ([.line, .topics] ++ [.counting, .arith, .sound]) s ((s.arrived bs 2).tellArrival 2) :=
      hstart.andThen (bodyArrival_kept _)
    have hbody := bodyArrival_kept (s.arrived bs 2)
    have hbodyArrives := bodyArrives_of (t := State.present s ((s.arrived bs 2).tellArrival 2)) hstart
      (arrived_tankSender he hlength hframe) hpresent.counting hpresent.arith hpresent.sound
    rw [show (s.arrived bs 2).turnLeft = bitAt bs 7 1 from arrived_flag he (by omega) 1,
      show (s.arrived bs 2).turnRight = bitAt bs 7 2 from arrived_flag he (by omega) 2] at hbodyArrives
    exact ⟨hpresent.line.trans hbody.line, present_frame_choice hkept (.of_kept hkept), hbodyArrives⟩
  · rintro rfl hlength hsubs hc hm
    have hframe : frameLength bs = 3 := hl.trans hlength
    have hkept : KeptBut ([.line, .topics] ++ arbiterBlocks) s ((s.arrived bs 3).tellArrival 3) :=
      hstart.andThen (cascadeFollowers_kept _)
    have hdata : ∀ k < 3, ∀ n, bitAt ((s.arrived bs 3).entry 3).data k n = bitAt bs (3 + k) n := fun k hk n => by
      rw [arrived_entry he]
      exact bitAt_frameData (by omega) n
    have harrives := cascade_arrives hstart hdata (arrived_flag he (by omega) 0) hsubs hc hm hpresent
    exact ⟨(present_frame_keys hkept).mono (by decide), harrives⟩

end Sys2Proof.Machine
end

section
/-! SUPPORT. The freshness tick: every entry ages, and the followers of a LOST entry end what hangs on it. Settles O40. -/
namespace Sys2Proof.Machine
set_option Elab.async false

/-! ### The entries -/

theorem ageTick_idle {e : Entry} (h : e.used = false ∨ e.age = 0) : e.ageTick = e := by
  unfold Entry.ageTick
  rw [if_pos (by simpa using h)]

theorem ageTick_counts {e : Entry} (hu : e.used = true) (h : 1 < e.age) : e.ageTick = { e with age := e.age - 1 } := by
  unfold Entry.ageTick
  rw [if_neg (by simp [hu]; omega), if_pos h]

theorem ageTick_stales {e : Entry} (hu : e.used = true) (h : e.age = 1) (hs : e.state = .fresh) :
    e.ageTick = { e with state := .stale, age := e.limit } := by
  unfold Entry.ageTick
  rw [if_neg (by simp [hu, h]), if_neg (by omega), hs]

theorem ageTick_loses {e : Entry} (hu : e.used = true) (h : e.age = 1) (hs : e.state = .stale) :
    e.ageTick = { e with state := .lost, age := 0, data := [], lastSeq := none } := by
  unfold Entry.ageTick
  rw [if_neg (by simp [hu, h]), if_neg (by omega), hs]

/-- An entry that the tick makes LOST. -/
def State.Loses (s : State) (e : Nat) : Prop := (s.entry e).used = true ∧ (s.entry e).state = .stale ∧ (s.entry e).age = 1

/-- The tick's own test of it. -/
def State.losesNow (s : State) (e : Nat) : Bool := (s.entry e).state == .stale && (s.entry e).ageTick.state == .lost

theorem losesNow_iff (s : State) (e : Nat) : s.losesNow e = true ↔ s.Loses e := by
  have hbeq (x y : Freshness) : (x == y) = true ↔ x = y := by cases x <;> cases y <;> decide
  unfold State.losesNow State.Loses
  rw [Bool.and_eq_true, hbeq, hbeq]
  refine ⟨fun ⟨hs, hl⟩ => ?_, fun ⟨hu, hs, ha⟩ => ⟨hs, by rw [ageTick_loses hu ha hs]⟩⟩
  by_cases hidle : (s.entry e).used = false ∨ (s.entry e).age = 0
  · rw [ageTick_idle hidle, hs] at hl
    cases hl
  · obtain ⟨hu, hpos⟩ := not_or.mp hidle
    rw [Bool.not_eq_false] at hu
    by_cases hlate : 1 < (s.entry e).age
    · rw [ageTick_counts hu hlate, hs] at hl
      cases hl
    · exact ⟨hu, hs, by omega⟩

/-- The entries aged, before anything follows. -/
def State.aged (s : State) : State := s.setTopics { entries := s.topics.entries.map Entry.ageTick, tick := some 10 }

theorem aged_kept (s : State) : KeptBut [.topics] s s.aged := setTopics_kept s _

theorem aged_entry (s : State) (e : Nat) : s.aged.entry e = (s.entry e).ageTick := by
  show (s.topics.entries.map Entry.ageTick).getD e .blank = (s.topics.entries.getD e .blank).ageTick
  rw [List.getD_eq_getElem?_getD, List.getD_eq_getElem?_getD, List.getElem?_map]
  cases s.topics.entries[e]? with
  | none => exact (ageTick_idle (.inl rfl)).symm
  | some x => rfl

/-! ### The followers, entry by entry -/

/-- The followers of one entry, if it is LOST. -/
def State.tellIf (u : State) (b : Bool) (e : Nat) : State := if b then u.tellLost e else u

theorem tellIf_others (u : State) (b : Bool) {e : Nat} (h : 4 ≤ e) : u.tellIf b e = u := by
  have htell : u.tellLost e = u := by
    unfold State.tellLost
    split
    · omega
    · omega
    · omega
    · omega
    · rfl
  unfold State.tellIf
  rw [htell, ite_self]

/-- The state in which the followers of all LOST entries have ended. -/
def State.told (s : State) : State :=
  (((s.aged.tellIf (s.losesNow 0) 0).tellIf (s.losesNow 1) 1).tellIf (s.losesNow 2) 2).tellIf (s.losesNow 3) 3

theorem foldl_tellLost (p : Nat → Bool) (l : List Nat) (u : State) :
    (l.filter p).foldl State.tellLost u = l.foldl (fun u e => u.tellIf (p e) e) u := by
  induction l generalizing u with
  | nil => rfl
  | cons e l ih =>
    rw [List.filter_cons, List.foldl_cons]
    split
    · next h => rw [List.foldl_cons, ih]; unfold State.tellIf; rw [if_pos h]
    · next h => rw [ih]; unfold State.tellIf; rw [if_neg h]

theorem foldl_tellIf_others (p : Nat → Bool) (l : List Nat) (h : ∀ e ∈ l, 4 ≤ e) (u : State) :
    l.foldl (fun u e => u.tellIf (p e) e) u = u := by
  induction l generalizing u with
  | nil => rfl
  | cons e l ih =>
    rw [List.foldl_cons, tellIf_others u _ (h e (by simp)), ih fun d hd => h d (List.mem_cons_of_mem _ hd)]

theorem freshness_eq (s : State) : s.freshness = s.told.setCounting s.told.counting.turnFreshness := by
  have hrange : List.range 16 = [0, 1, 2, 3] ++ [4, 5, 6, 7, 8, 9, 10, 11, 12, 13, 14, 15] := rfl
  have htold : s.newlyLost.foldl State.tellLost s.aged = s.told := by
    show ((List.range 16).filter s.losesNow).foldl State.tellLost s.aged = _
    rw [foldl_tellLost, hrange, List.foldl_append, foldl_tellIf_others _ _ (by decide)]
    rfl
  exact congrArg (fun u : State => u.setCounting u.counting.turnFreshness) htold

theorem tellIf_kept {bs : List Block} {u : State} {e : Nat} (b : Bool) (h : KeptBut bs u (u.tellLost e)) :
    KeptBut bs u (u.tellIf b e) := .ite h (.refl _ _)

theorem tellEngine_kept (u : State) (b : Bool) : KeptBut [.gauges] u (u.tellIf b 0) := tellIf_kept b (gaugesLoseEngine_kept u)

theorem tellFuel_kept (u : State) (b : Bool) : KeptBut [.counting] u (u.tellIf b 1) := tellIf_kept b (setCounting_kept u _)

theorem bodyLost_kept (u : State) : KeptBut [.counting, .arith, .gauges, .sound] u (u.tellLost 2) :=
  (((tankLost_kept u).andThen (cs := [.counting, .arith, .gauges]) (gaugesLoseBody_kept _)).andThen
    (cs := [.counting, .arith, .gauges]) (setCounting_kept _ _)).andThen (setSound_kept _ _)

theorem tellBody_kept (u : State) (b : Bool) : KeptBut [.counting, .arith, .gauges, .sound] u (u.tellIf b 2) :=
  tellIf_kept b (bodyLost_kept u)

theorem rearLost_kept (u : State) : KeptBut arbiterBlocks u (u.tellLost 3) :=
  (cascadeLost_kept u).andThen (followQuietCabin_kept _)

theorem tellRear_kept (u : State) (b : Bool) : KeptBut arbiterBlocks u (u.tellIf b 3) := tellIf_kept b (rearLost_kept u)

/-- Before the followers of E3. -/
def State.toldBody (s : State) : State :=
  ((s.aged.tellIf (s.losesNow 0) 0).tellIf (s.losesNow 1) 1).tellIf (s.losesNow 2) 2

theorem told_eq (s : State) : s.told = s.toldBody.tellIf (s.losesNow 3) 3 := rfl

theorem toldBody_kept (s : State) : KeptBut [.topics, .gauges, .counting, .arith, .sound] s s.toldBody :=
  (((aged_kept s).andThen (cs := [.topics, .gauges]) (tellEngine_kept _ _)).andThen (cs := [.topics, .gauges, .counting])
    (tellFuel_kept _ _)).andThen (tellBody_kept _ _)

theorem told_topics (s : State) : s.told.topics = s.aged.topics := by
  rw [told_eq, (tellRear_kept _ _).topics]
  exact (tellBody_kept _ _).topics.trans ((tellFuel_kept _ _).topics.trans (tellEngine_kept _ _).topics)

/-! ### E0 and E1 -/

theorem notice_driven {g : Gauge} (h : g.state = .track ∨ g.state = .hold) :
    g.notice = { g with state := .rest, target := 0, evaluated := none } := by
  unfold Gauge.notice
  rcases h with h | h <;> rw [h] <;> exact if_neg (by rw [h]; decide)

theorem gauge_in_range {s : State} {g : Nat} (h : (s.gauge g).state = .track ∨ (s.gauge g).state = .hold) :
    g < s.gauges.gauges.length := by
  by_contra hno
  have hoff : s.gauge g = .off := List.getD_eq_default _ _ (Nat.le_of_not_lt hno)
  rw [hoff] at h
  rcases h with h | h <;> cases h

theorem gaugesLoseEngine_gauge {s : State} {g : Nat} (hg : g ∈ [1, 3, 4]) (h : g < s.gauges.gauges.length) :
    s.gaugesLoseEngine.gauge g = (s.gauge g).notice := by
  have hlen (u : State) (i : Nat) : (u.modifyGauge i Gauge.notice).gauges.gauges.length = u.gauges.gauges.length :=
    List.length_modify _ _ _
  unfold State.gaugesLoseEngine
  simp only [List.mem_cons, List.not_mem_nil, or_false] at hg
  rcases hg with rfl | rfl | rfl
  · rw [gauge_modifyGauge_ne _ (by decide), gauge_modifyGauge_ne _ (by decide), gauge_modifyGauge_same _ h]
  · rw [gauge_modifyGauge_ne _ (by decide), gauge_modifyGauge_same _ (by rw [hlen]; exact h), gauge_modifyGauge_ne _ (by decide)]
  · rw [gauge_modifyGauge_same _ (by rw [hlen, hlen]; exact h), gauge_modifyGauge_ne _ (by decide),
      gauge_modifyGauge_ne _ (by decide)]

theorem gaugesLoseEngine_other {s : State} {g : Nat} (hg : g ∉ [1, 3, 4]) : s.gaugesLoseEngine.gauge g = s.gauge g := by
  simp only [List.mem_cons, List.not_mem_nil, or_false, not_or] at hg
  unfold State.gaugesLoseEngine
  rw [gauge_modifyGauge_ne _ hg.2.2, gauge_modifyGauge_ne _ hg.2.1, gauge_modifyGauge_ne _ hg.1]

theorem gauge_of_gauges {s t : State} (h : t.gauges = s.gauges) (g : Nat) : t.gauge g = s.gauge g := by
  unfold State.gauge
  rw [h]

theorem tellEngine_other {u : State} (b : Bool) {g : Nat} (hg : g ∉ [1, 3, 4]) : (u.tellIf b 0).gauge g = u.gauge g := by
  unfold State.tellIf
  split
  · exact gaugesLoseEngine_other hg
  · rfl

theorem tellBody_gauge {u : State} (b : Bool) {g : Nat} (hg : g ≠ 5) : (u.tellIf b 2).gauge g = u.gauge g := by
  unfold State.tellIf
  split
  · refine (gauge_modifyGauge_ne (s := u.tankLost) Gauge.notice hg).trans ?_
    exact gauge_of_gauges (tankLost_kept u).gauges g
  · rfl

theorem told_gauge (s : State) (g : Nat) : s.told.gauge g = s.toldBody.gauge g :=
  gauge_of_gauges (tellRear_kept _ _).gauges g

theorem told_engine {s : State} (hl : s.losesNow 0 = true) {g : Nat} (hg : g ∈ [1, 3, 4])
    (h : (s.gauge g).state = .track ∨ (s.gauge g).state = .hold) :
    s.told.gauge g = { s.gauge g with state := .rest, target := 0, evaluated := none } := by
  have hne : g ≠ 5 := by rintro rfl; exact absurd hg (by decide)
  rw [told_gauge]
  unfold State.toldBody
  rw [tellBody_gauge _ hne, gauge_of_gauges (tellFuel_kept _ _).gauges, hl]
  refine (gaugesLoseEngine_gauge (s := s.aged) hg (gauge_in_range (s := s.aged) h)).trans (notice_driven h)

theorem told_reference {s : State} (hl : s.losesNow 1 = true) : s.told.counting.fuelReference = none := by
  rw [told_eq, (tellRear_kept _ _).counting]
  unfold State.toldBody
  rw [hl]
  generalize s.aged.tellIf (s.losesNow 0) 0 = u
  unfold State.tellIf
  split <;> rfl

/-! ### E2 -/

/-- The flasher values that the sound unit keeps. -/
def State.FlashersOf (t : State) (u : Sound) : Prop := t.sound.lastLeft = u.lastLeft ∧ t.sound.lastRight = u.lastRight

theorem shownNotice_flashers (s : State) (w : Nat) : (s.shownNotice w).FlashersOf s.sound := by
  unfold State.shownNotice
  dsimp only
  split
  · exact ⟨rfl, rfl⟩
  · split <;> exact ⟨rfl, rfl⟩

theorem syncChime_flashers (s : State) : s.syncChime.FlashersOf s.sound := by
  unfold State.syncChime
  split
  · exact ⟨rfl, rfl⟩
  · split <;> exact ⟨rfl, rfl⟩

theorem select_flashers (s : State) : s.select.FlashersOf s.sound := by
  have hentered (s : State) (w : Nat) : (s.enterShown w).FlashersOf s.sound := shownNotice_flashers (s.placed w) w
  rcases select_cases s with ⟨h, -, -⟩ | ⟨w, -, -, h⟩ | ⟨v, -, -, h⟩ | ⟨v, w, -, -, h⟩ <;> rw [h]
  · exact ⟨rfl, rfl⟩
  · exact hentered s w
  · exact ⟨rfl, rfl⟩
  · exact hentered (s.modifyWarning v fun x => { x with state := .held }) w

theorem arbiterEvent_flashers (s : State) (f : State → State) : (s.arbiterEvent f).FlashersOf (f s).sound := by
  have hselect := select_flashers (f s).dropPresented
  rw [(dropPresented_kept (f s)).sound] at hselect
  have hhushed : (if s.shown.isSome && (f s).dropPresented.select.shown.isNone then (f s).dropPresented.select.noneShown
      else (f s).dropPresented.select).endStaleReview.FlashersOf (f s).sound := by
    unfold State.FlashersOf at *
    rw [(endStaleReview_kept _).sound]
    split <;> exact hselect
  have hsync := syncChime_flashers (if s.shown.isSome && (f s).dropPresented.select.shown.isNone then
    (f s).dropPresented.select.noneShown else (f s).dropPresented.select).endStaleReview
  rw [arbiterEvent_eq]
  unfold State.FlashersOf at *
  rw [(afterSelect_chimed _ _).sound]
  exact ⟨hsync.1.trans hhushed.1, hsync.2.trans hhushed.2⟩

theorem rearLost_flashers (u : State) : (u.tellLost 3).FlashersOf u.sound := by
  have hevent := arbiterEvent_flashers u fun s =>
    (s.setArbiter { s.arbiter with subs := List.replicate 8 .none }).takeLevel 30 false
  have hquiet := syncChime_flashers
    (u.cascadeLost.setSound { u.cascadeLost.sound with quietCabin := u.cascadeLost.quietCabinFlag })
  exact ⟨hquiet.1.trans hevent.1, hquiet.2.trans hevent.2⟩

theorem told_body {s : State} (hl : s.losesNow 2 = true) :
    s.BodyLost (s.told.setCounting s.told.counting.turnFreshness) := by
  have hrear := tellRear_kept s.toldBody (s.losesNow 3)
  have hflashers : s.told.FlashersOf s.toldBody.sound := by
    rw [told_eq]
    unfold State.tellIf
    split
    · exact rearLost_flashers _
    · exact ⟨rfl, rfl⟩
  have hcounting : s.told.counting = s.toldBody.counting := hrear.counting
  have hbefore : KeptBut [.topics, .gauges, .counting] s ((s.aged.tellIf (s.losesNow 0) 0).tellIf (s.losesNow 1) 1) :=
    ((aged_kept s).andThen (cs := [.topics, .gauges]) (tellEngine_kept _ _)).andThen (tellFuel_kept _ _)
  have hgauge : ((s.aged.tellIf (s.losesNow 0) 0).tellIf (s.losesNow 1) 1).gauge 5 = s.gauge 5 := by
    rw [gauge_of_gauges (tellFuel_kept _ _).gauges, tellEngine_other _ (by decide)]
    rfl
  generalize hu : (s.aged.tellIf (s.losesNow 0) 0).tellIf (s.losesNow 1) 1 = u at hbefore hgauge
  have hbody : s.toldBody = u.tellLost 2 := by
    unfold State.toldBody
    rw [hu, hl]
    rfl
  have hcount : s.told.counting = { u.counting with
      returnPending := true, fuel := none, latestRaw := none, rawFuel := none, turnDistance := 0, turnActive := false
      turnTicks := 0 } := by
    rw [hcounting, hbody]
    rfl
  have hturn : s.told.counting.turnFreshness = s.told.counting := by rw [hcount]; rfl
  rw [hturn]
  refine ⟨by rw [State.setCounting_counting, hcount], by rw [State.setCounting_counting, hcount],
    by rw [State.setCounting_counting, hcount], ?_, by rw [State.setCounting_counting, hcount],
    by rw [State.setCounting_counting, hcount], ?_, ?_, fun h => ?_⟩
  · rw [State.setCounting_arith, told_eq, hrear.arith, hbody]
    exact (clearReturn_eq u.arith).trans (by rw [hbefore.arith])
  · refine hflashers.1.trans ?_
    rw [hbody]
    rfl
  · refine hflashers.2.trans ?_
    rw [hbody]
    rfl
  · refine (told_gauge s 5).trans ?_
    rw [hbody]
    have h5 : 5 < u.tankLost.gauges.gauges.length := by
      rw [(tankLost_kept u).gauges]
      exact gauge_in_range (by rw [hgauge]; exact h)
    refine (gauge_modifyGauge_same (s := u.tankLost) Gauge.notice h5).trans ?_
    rw [gauge_of_gauges (tankLost_kept u).gauges, hgauge, notice_driven h]

end Sys2Proof.Machine
end

section
/-! SUPPORT. The rear cascade's end with a LOST E3. Settles O40. -/
namespace Sys2Proof.Machine
set_option Elab.async false

/-! ### E3 -/

/-- What the end of the rear cascade does before the selection. -/
def State.cascadeTorn (s : State) : State :=
  (s.setArbiter { s.arbiter with subs := List.replicate 8 .none }).takeLevel 30 false

theorem cascadeLost_eq (u : State) : u.cascadeLost = u.arbiterEvent State.cascadeTorn := rfl

theorem cascadeTorn_inner (u : State) : Inner u u.cascadeTorn :=
  Inner.trans (t := u.setArbiter { u.arbiter with subs := List.replicate 8 .none }) (setArbiter_inner rfl rfl rfl rfl rfl)
    (takeLevel_inner _ _ _)

theorem cascadeTorn_others (u : State) {v : Nat} (h : v ≠ 30) : u.cascadeTorn.warning v = u.warning v :=
  modifyWarning_others (s := u.setArbiter { u.arbiter with subs := List.replicate 8 .none }) _ h

theorem cascadeTorn_withdraws {u : State} (hl : u.arbiter.warnings.length = 32) (h : (u.warning 30).level = true) :
    u.cascadeTorn.warning 30 =
      { u.warning 30 with state := .off, level := false, shownTimer := 0, completed := false, reminder := 0 } := by
  refine (modifyWarning_new (s := u.setArbiter { u.arbiter with subs := List.replicate 8 .none }) _
    (show 30 < u.arbiter.warnings.length by omega)).trans ?_
  exact takeLevel_withdraws _ h

theorem cascadeLost_rest (u : State) : u.cascadeLost.arbiter.subs = List.replicate 8 .none ∧
    u.cascadeLost.arbiter.cautionOrder = u.arbiter.cautionOrder ∧ u.cascadeLost.arbiter.advisoryOrder = u.arbiter.advisoryOrder ∧
    u.cascadeLost.line.seqs.t44 = u.line.seqs.t44 := by
  obtain ⟨hcaution, hadvisory, hsubs, -⟩ := arbiterEvent_rest u State.cascadeTorn
  exact ⟨hsubs, hcaution, hadvisory, arbiterEvent_seq44 u State.cascadeTorn⟩

theorem cascadeLost_warnings {u : State} (hc : u.OrdersComplete) (hm : u.MostUrgentShown) : u.cascadeLost.MostUrgentShown ∧
    (∀ v < 32, v ≠ 30 → (u.warning v).state ∈ [.off, .silenced] → u.cascadeLost.warning v = u.warning v) ∧
    ((u.warning 30).level = true → u.cascadeLost.arbiter.presented = none ∧ u.cascadeLost.warning 30 =
      { u.warning 30 with state := .off, level := false, shownTimer := 0, completed := false, reminder := 0 }) := by
  have hsel := arbiterEvent_selected u State.cascadeTorn
  refine ⟨arbiterEvent_mostUrgent (f := State.cascadeTorn) (cascadeTorn_inner u) hc hm.1, fun v _ hv hstate => ?_, fun h => ?_⟩
  · rw [← cascadeTorn_others u hv] at hstate ⊢
    refine (hsel v).same fun k => ?_
    rcases List.mem_pair.mp hstate with o | o <;> rw [o] at k <;> simp at k
  · have htorn := cascadeTorn_withdraws hc.1 h
    have hoff : (u.cascadeTorn.warning 30).state = .off := by rw [htorn]
    have hwarning : u.cascadeLost.warning 30 = u.cascadeTorn.warning 30 := (hsel 30).same (by rw [hoff]; decide)
    refine ⟨?_, hwarning.trans htorn⟩
    rw [cascadeLost_eq, arbiterEvent_eq, afterSelect_arbiter]
    refine (selected_presents (d := u.cascadeTorn) (by rw [hoff]; rfl)).trans ?_
    rw [← arbiterEvent_warning, ← cascadeLost_eq, hwarning, hoff]
    rfl

/-- What a LOST E3 leaves. -/
def State.RearLost (s t : State) : Prop :=
  t.arbiter.subs = List.replicate 8 .none ∧ t.sound.quietCabin = false ∧
    t.line.seqs.t44 = s.line.seqs.t44 ∧ t.arbiter.cautionOrder = s.arbiter.cautionOrder ∧
    t.arbiter.advisoryOrder = s.arbiter.advisoryOrder ∧
    (s.OrdersComplete → s.MostUrgentShown → t.MostUrgentShown ∧
      (∀ v < 32, v ≠ 30 → (s.warning v).state ∈ [.off, .silenced] → t.warning v = s.warning v) ∧
      ((s.warning 30).level = true → t.arbiter.presented = none ∧ t.warning 30 =
        { s.warning 30 with state := .off, level := false, shownTimer := 0, completed := false, reminder := 0 }))

theorem told_rear {s : State} (hl : s.Loses 3) {t : State} (ht : KeptBut [.counting, .keys, .display] s.told t) : s.RearLost t := by
  have hbefore := toldBody_kept s
  have htold : s.told = s.toldBody.cascadeLost.followQuietCabin := by
    rw [told_eq, (losesNow_iff s 3).mpr hl]
    rfl
  rw [htold] at ht
  generalize hu : s.toldBody = u at ht hbefore
  have hkept : KeptBut [.counting, .sound, .keys, .display] u.cascadeLost t :=
    (followQuietCabin_kept u.cascadeLost).andThen ht
  obtain ⟨hsubs, hcaution, hadvisory, hseq⟩ := cascadeLost_rest u
  have hflag : u.cascadeLost.quietCabinFlag = false := by
    have hentry : u.cascadeLost.entry 3 = (s.entry 3).ageTick := by
      rw [entry_of_topics (cascadeLost_kept u).topics, ← hu, ← aged_entry]
      exact entry_of_topics ((tellBody_kept _ _).topics.trans ((tellFuel_kept _ _).topics.trans (tellEngine_kept _ _).topics)) 3
    obtain ⟨hused, hstale, hage⟩ := hl
    unfold State.quietCabinFlag
    rw [hentry, ageTick_loses hused hage hstale]
    refine eq_false_of_ne_true fun k => ?_
    obtain ⟨⟨-, hfresh | hstale'⟩, -⟩ := (flagSet_iff _ 2 0).mp k
    · cases hfresh
    · cases hstale'
  refine ⟨by rw [hkept.arbiter, hsubs], ?_, by rw [hkept.line, hseq, hbefore.line], by rw [hkept.arbiter, hcaution, hbefore.arbiter],
    by rw [hkept.arbiter, hadvisory, hbefore.arbiter], fun hc hm => ?_⟩
  · rw [ht.sound, (followQuietCabin_sound _).1, hflag]
  · obtain ⟨hurgent, hothers, hwithdrawn⟩ := cascadeLost_warnings (complete_of_kept hbefore hc) (mostUrgent_of_kept hbefore hm)
    have hwu (v : Nat) : u.warning v = s.warning v := warning_of_warnings (by rw [hbefore.arbiter]) v
    have hwt (v : Nat) : t.warning v = u.cascadeLost.warning v := warning_of_warnings (by rw [hkept.arbiter]) v
    simp only [hwu] at hothers hwithdrawn
    refine ⟨mostUrgent_of_kept hkept hurgent, fun v hv hne hs => (hwt v).trans (hothers v hv hne hs), fun h => ?_⟩
    rw [hwt, hkept.arbiter]
    exact hwithdrawn h

/-! ### The tick -/

theorem turnFreshness_eq (c : Counting) : c.turnFreshness = if c.turnActive = false then c
    else if 9 ≤ c.turnTicks then { c with turnDistance := 0, turnActive := false, turnTicks := 0 }
    else { c with turnTicks := c.turnTicks + 1 } := by
  unfold Counting.turnFreshness
  cases c.turnActive with
  | false => rfl
  | true =>
    have hten : 10 ≤ c.turnTicks + 1 ↔ 9 ≤ c.turnTicks := Nat.succ_le_succ_iff
    simp only [hten]
    rfl

theorem told_of_none {s : State} (h : ∀ e < 16, ¬s.Loses e) : s.told = s.aged := by
  have hno (e : Nat) (he : e < 16) : s.losesNow e = false := eq_false_of_ne_true fun k => h e he ((losesNow_iff s e).mp k)
  unfold State.told State.tellIf
  rw [hno 0 (by decide), hno 1 (by decide), hno 2 (by decide), hno 3 (by decide)]
  rfl

theorem freshness_quiet {s : State} (h : ∀ e < 16, ¬s.Loses e) :
    KeptBut [.topics, .counting, .display] s (State.present s s.freshness) ∧
      s.freshness.counting = s.counting.turnFreshness := by
  have hkept : KeptBut ([.topics] ++ [.counting]) s s.freshness := by
    rw [freshness_eq, told_of_none h]
    exact (aged_kept s).andThen (setCounting_kept _ _)
  refine ⟨present_frame_choice hkept (.of_kept hkept), ?_⟩
  rw [freshness_eq, told_of_none h]
  rfl

/-- Settles O40: the tick ages every entry, and what follows a LOST one is told entry by entry. -/
theorem entriesAge : Obligations.EntriesAge := by
  intro s
  refine ⟨?_, fun h => ?_, fun h _ => ?_⟩
  · have hkept : KeptBut [.counting] s (if s.counting.turnActive then s.setCounting s.counting.endTurn else s) :=
      .ite (setCounting_kept _ _) (.refl _ _)
    refine ⟨_, exec_next (c := .turnSignalCountTimeout) rfl rfl, present_frame_choice hkept (.of_kept hkept), ?_⟩
    rw [State.present_counting]
    split <;> rfl
  · exact ⟨_, exec_next (c := .freshnessTick) rfl (if_neg (by simp [h])), present_frame (.refl [] s)⟩
  · have hpresent : KeptBut [.counting, .keys, .display] s.told (State.present s s.freshness) := by
      rw [freshness_eq]
      exact (setCounting_kept s.told _).andThen (present_kept s _)
    have hcounting : (State.present s s.freshness).counting = s.told.counting.turnFreshness := by
      rw [State.present_counting, freshness_eq]
      rfl
    have hentry (e : Nat) : (State.present s s.freshness).entry e = (s.entry e).ageTick := by
      rw [entry_of_topics (hpresent.topics.trans (told_topics s)), aged_entry]
    have hgauge (g : Nat) : (State.present s s.freshness).gauge g = s.told.gauge g := gauge_of_gauges hpresent.gauges g
    refine ⟨_, exec_next (c := .freshnessTick) rfl (if_pos h), ?_, fun e he => ?_, fun e hu ha => ?_, fun e hu ha hs => ?_,
      fun e he => ?_, fun he => ?_, fun he g hg hs => ?_, fun he _ => ?_, fun he => told_rear he hpresent, fun hno => ?_⟩
    · rw [hpresent.topics, told_topics]
      rfl
    · rw [hentry, ageTick_idle he]
    · rw [hentry, ageTick_counts hu ha]
    · rw [hentry, ageTick_stales hu ha hs]
    · obtain ⟨hu, hs, ha⟩ := he
      rw [hentry, ageTick_loses hu ha hs]
    · rw [hcounting, turnFreshness_eq]
      have hnone := told_reference ((losesNow_iff s 1).mpr he)
      split
      · exact hnone
      · split <;> exact hnone
    · rw [hgauge]
      exact told_engine ((losesNow_iff s 0).mpr he) hg hs
    · have hbody := told_body ((losesNow_iff s 2).mpr he)
      have hkept := present_kept s s.freshness
      unfold State.BodyLost at hbody ⊢
      rw [← freshness_eq, ← gauge_of_gauges hkept.gauges] at hbody
      rw [hkept.counting, hkept.arith, hkept.sound]
      exact hbody
    · obtain ⟨hkept, hcount⟩ := freshness_quiet hno
      refine ⟨hkept, ?_⟩
      rw [State.present_counting, hcount, turnFreshness_eq]

end Sys2Proof.Machine
end

section
/-! SUPPORT. The service resets: the fields of an item in its block, the item's state, and the write-back placed. -/
namespace Sys2Proof.Machine
set_option Elab.async false

/-! ### The fields of an item -/

theorem splice_append {bs a b : List Byte} {o : Nat} (h : o ≤ bs.length) :
    splice bs o (a ++ b) = splice (splice bs o a) (o + a.length) b := by
  have hlen : (bs.take o ++ a).length = o + a.length := by
    rw [List.length_append, List.length_take, Nat.min_eq_left h]
  unfold splice
  have hrest : (bs.take o ++ a ++ bs.drop (o + a.length)).drop (o + a.length + b.length) =
      bs.drop (o + a.length + b.length) := by
    rw [List.drop_append, hlen, List.drop_eq_nil_of_le (by rw [hlen]; omega), List.nil_append, List.drop_drop]
    congr 1
    omega
  rw [List.take_left' hlen, hrest, List.length_append, Nat.add_assoc]
  simp only [List.append_assoc]

theorem itemOffset_le (i : Nat) : itemOffset i ≤ 7 := by
  unfold itemOffset
  omega

/-- The 7 bytes of an item at `o`. -/
structure FieldsAt (bs : List Byte) (o : Nat) (km days : Int) (odometer : Nat) : Prop where
  km : signedWordAt bs o = km
  days : signedWordAt bs (o + 2) = days
  odometer : tripleAt bs (o + 4) = odometer

/-- Bytes outside `o … o + 6` are those of `bs`. -/
def SameOutside (bs bs' : List Byte) (o : Nat) : Prop := ∀ i, (i < o ∨ o + 7 ≤ i) → byteAt bs' i = byteAt bs i

theorem FieldsAt.of_outside {bs bs' : List Byte} {o p : Nat} {km days : Int} {odometer : Nat} (h : FieldsAt bs p km days odometer)
    (k : SameOutside bs bs' o) (hp : p + 7 ≤ o ∨ o + 7 ≤ p) : FieldsAt bs' p km days odometer := by
  obtain ⟨hkm, hdays, hodo⟩ := h
  have hbyte (j : Nat) (hj : j < 7) : byteAt bs' (p + j) = byteAt bs (p + j) := k _ (by omega)
  have h0 := hbyte 0 (by decide)
  have h1 := hbyte 1 (by decide)
  have h2 := hbyte 2 (by decide)
  have h3 := hbyte 3 (by decide)
  have h4 := hbyte 4 (by decide)
  have h5 := hbyte 5 (by decide)
  have h6 := hbyte 6 (by decide)
  refine ⟨?_, ?_, ?_⟩
  · rw [← hkm]
    unfold signedWordAt wordAt
    rw [show byteAt bs' p = byteAt bs p from h0, h1]
  · rw [← hdays]
    unfold signedWordAt wordAt
    rw [h2, show byteAt bs' (p + 2 + 1) = byteAt bs (p + 2 + 1) from h3]
  · rw [← hodo]
    unfold tripleAt wordAt
    rw [h4, show byteAt bs' (p + 4 + 1) = byteAt bs (p + 4 + 1) from h5,
      show byteAt bs' (p + 4 + 1 + 1) = byteAt bs (p + 4 + 1 + 1) from h6]

theorem resetField_eq {f : ItemFigures} {odometer i : Nat} {bs : List Byte} (h : bs.length = 15) :
    resetField f odometer i bs = splice (splice (splice bs (itemOffset i) (signedBytes2 f.distanceInterval)) (itemOffset i + 2)
      (signedBytes2 f.dayInterval)) (itemOffset i + 4) (bytes3 odometer) := by
  have ho := itemOffset_le i
  unfold resetField
  rw [splice_append (by omega), splice_append (by omega)]
  rfl

theorem splice_fits {bs new : List Byte} {o : Nat} (h : bs.length = 15) (ho : o + new.length ≤ 15) : (splice bs o new).length = 15 := by
  rw [splice_length (by omega), h]

theorem resetField_length {f : ItemFigures} {odometer i : Nat} {bs : List Byte} (h : bs.length = 15) :
    (resetField f odometer i bs).length = 15 := by
  have ho := itemOffset_le i
  refine splice_fits h ?_
  show itemOffset i + 7 ≤ 15
  omega

theorem resetField_fields {f : ItemFigures} {odometer i : Nat} {bs : List Byte} (h : bs.length = 15)
    (hd : f.distanceInterval ≤ 32000) (ht : f.dayInterval ≤ 32000) (hodo : odometer < 16777216) :
    FieldsAt (resetField f odometer i bs) (itemOffset i) f.distanceInterval f.dayInterval odometer := by
  have ho := itemOffset_le i
  have h1 : (splice bs (itemOffset i) (signedBytes2 f.distanceInterval)).length = 15 :=
    splice_fits h (by rw [signedBytes2_length]; omega)
  have h2 : (splice (splice bs (itemOffset i) (signedBytes2 f.distanceInterval)) (itemOffset i + 2)
      (signedBytes2 f.dayInterval)).length = 15 := splice_fits h1 (by rw [signedBytes2_length]; omega)
  rw [resetField_eq h]
  refine ⟨?_, ?_, ?_⟩
  · rw [signedWordAt_splice_apart (by omega) (by omega), signedWordAt_splice_apart (by omega) (by omega),
      signedWordAt_splice_same (by omega) (by omega) (by omega)]
  · rw [signedWordAt_splice_apart (by omega) (by omega), signedWordAt_splice_same (by omega) (by omega) (by omega)]
  · rw [tripleAt_splice_same hodo (by omega)]

theorem resetField_outside {f : ItemFigures} {odometer i : Nat} {bs : List Byte} (h : bs.length = 15) :
    SameOutside bs (resetField f odometer i bs) (itemOffset i) := fun j hj => by
  have ho := itemOffset_le i
  have hlen : (signedBytes2 f.distanceInterval ++ signedBytes2 f.dayInterval ++ bytes3 odometer).length = 7 := rfl
  unfold resetField
  rcases hj with hj | hj
  · exact byteAt_splice_of_lt hj (by omega)
  · exact byteAt_splice_of_ge (by rw [hlen]; exact hj) (by omega)

/-! ### The item's state after a reset -/

/-- The figures of an item leave it OK at its full intervals. -/
def ItemFigures.Fresh (f : ItemFigures) : Prop :=
  (f.distanceInterval ≠ 0 → f.aheadKm < f.distanceInterval) ∧ (f.dayInterval ≠ 0 → f.aheadDays < f.dayInterval)

theorem itemStateOf_fresh {f : ItemFigures} (h : f.Fresh) : itemStateOf f f.distanceInterval f.dayInterval = .ok := by
  obtain ⟨hkm, hdays⟩ := h
  have hone (used : Bool) (n ahead margin : Nat) (hn : used = true → ahead < n) :
      (if used then dimensionState n ahead margin else .ok) = .ok := by
    split
    · next hu =>
      unfold dimensionState
      rw [if_pos (by have := hn hu; omega)]
    · rfl
  have hkmOk := hone f.kmInUse f.distanceInterval f.aheadKm f.marginKm fun k => hkm (bne_iff_ne.mp k)
  have hdaysOk := hone f.daysInUse f.dayInterval f.aheadDays f.marginDays fun k => hdays (bne_iff_ne.mp k)
  unfold itemStateOf
  rw [hkmOk, hdaysOk]
  rfl

theorem formItems_ok {s : State} {i : Nat} (h : s.newItemState i = .ok) :
    s.formItems [i] = s.modifyItem i fun x => { x with state := .ok } := by
  have hedge : edgeFor (s.item i).state (s.newItemState i) = none := by
    rw [h]
    cases (s.item i).state <;> rfl
  unfold State.formItems
  rw [List.filterMap_cons_none (f := fun j => edgeFor (s.item j).state (s.newItemState j)) hedge]
  show s.modifyItem i (fun x => { x with state := s.newItemState i }) = _
  rw [h]

theorem modifyItem_twice (s : State) (i : Nat) (f g : ServiceItem → ServiceItem) :
    (s.modifyItem i f).modifyItem i g = s.modifyItem i (g ∘ f) := by
  have hitems : (s.service.items.modify i f).modify i g = s.service.items.modify i (g ∘ f) := List.modify_modify_eq _ _ _ _
  unfold State.modifyItem
  show s.setService { s.service with items := (s.service.items.modify i f).modify i g } = _
  rw [hitems]

/-- An item reset, its state formed. -/
def ServiceItem.restored (x : ServiceItem) : ServiceItem :=
  { x with state := .ok, pendingKm := 0, pendingDays := 0, waitsChauffeur := false, waitsWorkshop := false }

/-- The store with a reset item's fields written. -/
def State.resetStore (s : State) (i : Nat) : Store :=
  s.store.update (itemBlock i) (resetField (s.itemFigures i) s.store.odometerValue i)

theorem resetStore_fields {s : State} {i : Nat} (h : s.store.Holds (itemBlock i)) (hd : (s.itemFigures i).distanceInterval ≤ 32000)
    (ht : (s.itemFigures i).dayInterval ≤ 32000) :
    FieldsAt ((s.resetStore i).dataOf (itemBlock i)) (itemOffset i) (s.itemFigures i).distanceInterval (s.itemFigures i).dayInterval
      s.store.odometerValue := by
  unfold State.resetStore
  rw [dataOf_update_same _ h.1]
  exact resetField_fields h.2 hd ht (tripleAt_lt _ _)

/-- The write-back of a reset item's block, placed. -/
def State.placeReset (s : State) (i : Nat) (workshop : Bool) : State :=
  let st := s.store.writeback (itemBlock i) workshop
  s.setStore (if workshop then { st with task := .placing } else st)

/-- A present item reset: its fields, its state OK, and the write-back order. -/
theorem applyReset_eq {s : State} {i : Nat} (ha : s.itemActive i = true) (h : s.store.Holds (itemBlock i))
    (hd : (s.itemFigures i).distanceInterval ≤ 32000) (ht : (s.itemFigures i).dayInterval ≤ 32000) (hf : (s.itemFigures i).Fresh)
    (w : Bool) : s.applyReset i w = ((s.modifyItem i ServiceItem.restored).setStore (s.resetStore i)).placeReset i w := by
  have hfields := resetStore_fields h hd ht
  have hpresent : (s.resetStore i).present (itemBlock i) = true := by
    unfold State.resetStore Store.present
    rw [presentLine_update]
    exact h.1
  have hnew : ((s.setStore (s.resetStore i)).modifyItem i fun x : ServiceItem =>
      { x with pendingKm := 0, pendingDays := 0, waitsChauffeur := false, waitsWorkshop := false }).newItemState i = .ok := by
    have hkm : (s.resetStore i).remainingKm i = (s.itemFigures i).distanceInterval := hfields.km
    have hdays : (s.resetStore i).remainingDays i = (s.itemFigures i).dayInterval := hfields.days
    unfold State.newItemState
    rw [if_pos (by rw [Bool.and_eq_true]; exact ⟨ha, hpresent⟩)]
    show itemStateOf (s.itemFigures i) ((s.resetStore i).remainingKm i) ((s.resetStore i).remainingDays i) = .ok
    rw [hkm, hdays, itemStateOf_fresh hf]
  have hformed := (formItems_ok hnew).trans (modifyItem_twice _ i _ _)
  show State.placeReset (State.formItems ((s.setStore (s.resetStore i)).modifyItem i _) [i]) i w = _
  rw [hformed]
  rfl

end Sys2Proof.Machine
end

section
/-! SUPPORT. A fetch goes on while the store makes its moves; the service resets. Settles O32. -/
namespace Sys2Proof.Machine
set_option Elab.async false

/-! ### A fetch outstanding -/

/-- A fetch of the block is outstanding: its fill is listed, or it waits. -/
def Store.Fetches (st : Store) (n : Nat) : Prop := .fill n ∈ st.orders ∨ ∃ x, .fetch n x ∈ st.waiting

theorem mem_eraseIdx_of_other {α : Type} {l : List α} {k : Nat} {a y : α} (h : a ∈ l) (hk : l[k]? = some y) (hne : a ≠ y) :
    a ∈ l.eraseIdx k := by
  obtain ⟨i, hi⟩ := List.mem_iff_getElem?.mp h
  exact List.mem_eraseIdx_iff_getElem?.mpr ⟨i, fun hik => hne (by rw [hik, hk] at hi; exact (Option.some.inj hi).symm), hi⟩

theorem mem_set_of_other {α : Type} {l : List α} {k : Nat} {a y : α} (h : a ∈ l) (hk : l[k]? = some y) (hne : a ≠ y) (x : α) :
    a ∈ l.set k x := by
  obtain ⟨i, hi⟩ := List.mem_iff_getElem?.mp h
  refine List.mem_of_getElem? (i := i) ?_
  rw [List.getElem?_set_ne fun hik => hne (by rw [← hik, hk] at hi; exact (Option.some.inj hi).symm), hi]

/-- What the store's own moves, its task apart, leave: the task, and the fetches. -/
structure Store.GoesOn (st st' : Store) : Prop where
  task : st'.task = st.task
  fetches : ∀ n, st.Fetches n → st'.Fetches n
  latch : st'.latch = st.latch
  power : st'.pwrGood = st.pwrGood
  fault : st'.nvFault = st.nvFault

theorem Store.GoesOn.refl (st : Store) : st.GoesOn st := ⟨rfl, fun _ => id, rfl, rfl, rfl⟩

theorem Store.GoesOn.trans {st st' st'' : Store} (h : st.GoesOn st') (k : st'.GoesOn st'') : st.GoesOn st'' :=
  ⟨k.task.trans h.task, fun n hn => k.fetches n (h.fetches n hn), k.latch.trans h.latch, k.power.trans h.power,
    k.fault.trans h.fault⟩

theorem takeVictim_goesOn {st : Store} {b i k : Nat} {x : Bool} (hk : st.waiting[k]? = some (.fetch b x)) :
    st.GoesOn (st.takeVictim b i k) := by
  have hlt : k < st.waiting.length := (List.getElem?_eq_some_iff.mp hk).1
  unfold Store.takeVictim
  split
  · refine ⟨rfl, fun n => Or.imp (List.mem_append_left _) fun ⟨y, hy⟩ => ?_, rfl, rfl, rfl⟩
    by_cases hsame : Waiting.fetch n y = .fetch b x
    · cases hsame
      exact ⟨true, List.mem_of_getElem? (List.getElem?_set_self hlt)⟩
    · exact ⟨y, mem_set_of_other hy hk hsame _⟩
  · refine ⟨rfl, fun n hn => ?_, rfl, rfl, rfl⟩
    rcases hn with hn | ⟨y, hy⟩
    · exact .inl (List.mem_append_left _ hn)
    · by_cases hsame : Waiting.fetch n y = .fetch b x
      · cases hsame
        exact .inl (List.mem_append_right _ (List.mem_singleton.mpr rfl))
      · exact .inr ⟨y, mem_eraseIdx_of_other hy hk hsame⟩

/-- What admits a waiting request: a victim taken for a fetch, or an order listed. -/
theorem admitOne_cases {st st' : Store} (h : st.admitOne = some st') :
    (∃ b i k x, st.waiting[k]? = some (.fetch b x) ∧ st.victim (setOf b) = some i ∧ st' = st.takeVictim b i k) ∨
      ∃ k o, st.waiting[k]? = some (.order o) ∧
        st' = { st with orders := st.orders ++ [o], waiting := st.waiting.eraseIdx k } := by
  unfold Store.admitOne at h
  split at h
  · next k _ =>
    split at h
    · next b x hk =>
      obtain ⟨i, hi, rfl⟩ := Option.map_eq_some_iff.mp h
      exact .inl ⟨b, i, k, x, hk, hi, rfl⟩
    · next o hk =>
      cases h
      exact .inr ⟨k, o, hk, rfl⟩
    · cases h
  · cases h

/-- What the copy engine does with an order: it begins a read, writes a DIRTY line, or ends the order. -/
theorem startOrder_cases {st : Store} {k : Nat} {o : Order} (h : st.orders[k]? = some o) :
    (∃ op, st.startOrder k = { st with op := some op }) ∨
      (∃ i serves, (st.line i).state = .dirty ∧ st.startOrder k = st.startWrite i serves) ∨
      (∃ i h p, o = .walk h p ∧ (st.line i).state = .dirty ∧
        st.startOrder k = ({ st with orders := st.orders.set k (.walk h i) } : Store).startWrite i .walk) ∨
      ((∀ b, o ≠ .fill b) ∧ (∀ b w f, o = .single b w f → st.singleWrites b = false) ∧ st.startOrder k = st.endOrder k) := by
  unfold Store.startOrder
  rw [h]
  cases o with
  | fill b => exact .inl ⟨_, rfl⟩
  | verify b => exact .inl ⟨_, rfl⟩
  | single b w f =>
    dsimp only
    by_cases hw : st.singleWrites b = true
    · rw [if_pos hw]
      unfold Store.singleWrites at hw
      cases hf : st.find b with
      | none => rw [hf] at hw; simp at hw
      | some i =>
        rw [hf, Bool.and_eq_true] at hw
        have hdirty : ((st.line i).state == .dirty) = true := hw.2
        have hd : (st.line i).state = .dirty := by
          revert hdirty
          cases (st.line i).state <;> decide
        exact .inr (.inl ⟨i, .single, hd, rfl⟩)
    · rw [if_neg hw]
      exact .inr (.inr (.inr ⟨nofun, fun b' w' f' k => by cases k; exact eq_false_of_ne_true hw, rfl⟩))
  | walk x p =>
    dsimp only
    split
    · exact .inr (.inr (.inr ⟨nofun, nofun, rfl⟩))
    · split
      · next i hi =>
        have hd : (st.line i).state = .dirty := by
          have := List.find?_some hi
          rw [Bool.and_eq_true] at this
          have := this.2
          revert this
          cases (st.line i).state <;> decide
        exact .inr (.inr (.inl ⟨i, x, p, rfl, hd, rfl⟩))
      · exact .inr (.inr (.inr ⟨nofun, nofun, rfl⟩))

theorem engineOne_cases {st st' : Store} (h : st.engineOne = some st') :
    st.op = none ∧ ∃ k o, st.orders[k]? = some o ∧ st' = st.startOrder k := by
  unfold Store.engineOne at h
  split at h
  · cases h
  · next hop =>
    obtain ⟨k, hk, rfl⟩ := Option.map_eq_some_iff.mp h
    refine ⟨Option.not_isSome_iff_eq_none.mp hop, k, ?_⟩
    unfold Store.selected at hk
    obtain ⟨r, -, hr⟩ := List.exists_of_findSome?_eq_some hk
    obtain ⟨hlt, -⟩ := List.findIdx?_eq_some_iff_getElem.mp hr
    exact ⟨_, List.getElem?_eq_getElem hlt, rfl⟩

theorem admitOne_goesOn {st st' : Store} (h : st.admitOne = some st') : st.GoesOn st' := by
  rcases admitOne_cases h with ⟨b, i, k, x, hk, -, rfl⟩ | ⟨k, o, hk, rfl⟩
  · exact takeVictim_goesOn hk
  · exact ⟨rfl, fun n => Or.imp (List.mem_append_left _) fun ⟨y, hy⟩ => ⟨y, mem_eraseIdx_of_other hy hk nofun⟩, rfl, rfl, rfl⟩

theorem endOrder_goesOn {st : Store} {k : Nat} (h : ∀ b, st.orders[k]? ≠ some (.fill b)) : st.GoesOn (st.endOrder k) := by
  have hfill (n : Nat) (hn : Order.fill n ∈ st.orders) : Order.fill n ∈ st.orders.eraseIdx k := by
    obtain ⟨i, hi⟩ := List.mem_iff_getElem?.mp hn
    exact List.mem_eraseIdx_iff_getElem?.mpr ⟨i, fun hik => h n (hik ▸ hi), hi⟩
  unfold Store.endOrder
  dsimp only
  split
  · refine ⟨rfl, fun n => Or.imp (hfill n) fun ⟨y, hy⟩ => ?_, rfl, rfl, rfl⟩
    exact ⟨_, List.mem_map_of_mem (f := Waiting.victimWritten _) hy⟩
  · exact ⟨rfl, fun n => Or.imp_left (hfill n), rfl, rfl, rfl⟩

theorem engineOne_goesOn {st st' : Store} (h : st.engineOne = some st') : st.GoesOn st' := by
  obtain ⟨-, k, o, hk, rfl⟩ := engineOne_cases h
  rcases startOrder_cases hk with ⟨op, h⟩ | ⟨i, serves, -, h⟩ | ⟨i, x, p, rfl, -, h⟩ | ⟨hfill, -, h⟩ <;> rw [h]
  · exact ⟨rfl, fun _ => id, rfl, rfl, rfl⟩
  · exact ⟨rfl, fun _ => id, rfl, rfl, rfl⟩
  · exact ⟨rfl, fun n => Or.imp_left fun hn => mem_set_of_other hn hk nofun _, rfl, rfl, rfl⟩
  · exact endOrder_goesOn fun b hb => hfill b (Option.some.inj (hk.symm.trans hb))

/-- What the moves of a store with a passive task keep, its settling keeps. -/
theorem settle_keeps {P : Store → Prop} (hadmit : ∀ st st', P st → st.admitOne = some st' → P st')
    (hengine : ∀ st st', P st → st.admitOne = none → st.engineOne = some st' → P st') : ∀ (fuel : Nat) {st : Store},
    st.task.passive = true → P st → (st.settle fuel).2 = none ∧ P (st.settle fuel).1 := by
  intro fuel
  induction fuel with
  | zero => exact fun _ h => ⟨rfl, h⟩
  | succ fuel ih =>
    intro st ht hP
    unfold Store.settle
    rw [taskOne_passive ht]
    dsimp only
    split
    · next st' h => exact ih (by rw [(admitOne_goesOn h).task]; exact ht) (hadmit st st' hP h)
    · next hnone =>
      split
      · next st' h => exact ih (by rw [(engineOne_goesOn h).task]; exact ht) (hengine st st' hP hnone h)
      · exact ⟨rfl, hP⟩

/-- A store whose task does nothing by itself ends nothing, and its fetches go on. -/
theorem settle_goesOn (fuel : Nat) {st : Store} (h : st.task.passive = true) :
    (st.settle fuel).2 = none ∧ st.GoesOn (st.settle fuel).1 :=
  settle_keeps (P := st.GoesOn) (fun _ _ hst h => hst.trans (admitOne_goesOn h)) (fun _ _ hst _ h => hst.trans (engineOne_goesOn h))
    fuel h (.refl st)

theorem settleStore_goesOn {s : State} (h : s.store.task.passive = true) :
    s.settleStore = s.setStore (s.store.settle settleFuel).1 ∧ s.store.GoesOn (s.store.settle settleFuel).1 := by
  obtain ⟨hend, hgo⟩ := settle_goesOn settleFuel h
  exact ⟨settleStore_of_settle (by rw [← hend]), hgo⟩

theorem fetch_fetches {st : Store} {n : Nat} (h : st.find n = none) : (st.fetch n).Fetches n := by
  unfold Store.fetch
  rw [h]
  dsimp only
  split
  · next hany =>
    obtain ⟨w, hw, hf⟩ := List.any_eq_true.mp hany
    cases w with
    | fetch b x =>
      rw [show b = n from beq_iff_eq.mp hf] at hw
      exact .inr ⟨x, hw⟩
    | order o => cases hf
  · exact .inr ⟨false, List.mem_append_right _ (List.mem_singleton.mpr rfl)⟩

theorem fetch_task (st : Store) (n : Nat) : (st.fetch n).task = st.task := by
  unfold Store.fetch
  split
  · split <;> rfl
  · split <;> rfl

end Sys2Proof.Machine
end

section
/-! SUPPORT. The service resets by the chauffeur and by the workshop. Settles O32. -/
namespace Sys2Proof.Machine
set_option Elab.async false

/-! ### A present item -/

theorem orderPlaced_reaches {st : Store} (h : st.AtRest) (hg : st.pwrGood = true) (hf : st.nvFault = false) {n i : Nat}
    (hi : st.find n = some i) (hd : (st.line i).state = .dirty) :
    (st.orderPlaced n).Reaches 1 ((st.orderPlaced n).startWrite i .single, none) := by
  obtain ⟨-, hop, hw, htask⟩ := id h
  have hpassive : st.task.passive = true := by rw [htask]; rfl
  exact reaches_write (st := st.orderPlaced n) (taskOne_passive hpassive) (taskOne_passive hpassive) rfl hop
    (admitOne_empty hw) (admitOne_empty hw) hg hf hi hd

theorem placeReset_settles {u : State} {i k : Nat} (h : u.store.AtRest) (hg : u.store.pwrGood = true)
    (hf : u.store.nvFault = false) (hk : u.store.find (itemBlock i) = some k) (hd : (u.store.line k).state = .dirty) :
    (u.placeReset i false).settleStore = u.setStore ((u.store.orderPlaced (itemBlock i)).startWrite k .single) ∧
    (u.placeReset i true).settleStore =
      (u.setStore ((u.store.orderPlaced (itemBlock i)).startWrite k .single)).returnStatus .done [] := by
  have hplace (w : Bool) : u.store.writeback (itemBlock i) w = { u.store with orders := [.single (itemBlock i) w none] } :=
    place_atRest h _
  have hkey : u.placeReset i false = u.setStore (u.store.orderPlaced (itemBlock i)) := by
    unfold State.placeReset
    rw [hplace]
    rfl
  have hworkshop : u.placeReset i true = u.setStore (u.store.orderAsked (itemBlock i)) := by
    unfold State.placeReset
    rw [hplace]
    rfl
  rw [hkey, hworkshop]
  exact ⟨settleStore_reaches (s := u.setStore _) (orderPlaced_reaches h hg hf hk hd),
    settleStore_reaches_end (s := u.setStore _) (orderAsked_reaches h hg hf hk hd)⟩

/-- What the reset of a present item needs. -/
structure State.CanReset (s : State) (i : Nat) : Prop where
  active : s.itemActive i = true
  rest : s.store.AtRest
  calm : s.store.NoneWriting
  power : s.store.pwrGood = true
  whole : s.store.nvFault = false
  holds : s.store.Holds (itemBlock i)
  km : (s.itemFigures i).distanceInterval ≤ 32000
  days : (s.itemFigures i).dayInterval ≤ 32000
  fresh : (s.itemFigures i).Fresh

theorem item_restored {s : State} {i : Nat} (hl : i < s.service.items.length) :
    (s.modifyItem i ServiceItem.restored).item i = { s.item i with
      state := .ok, pendingKm := 0, pendingDays := 0, waitsChauffeur := false, waitsWorkshop := false } ∧
    ∀ j, j ≠ i → (s.modifyItem i ServiceItem.restored).item j = s.item j :=
  ⟨by rw [item_modifyItem _ _ _ hl, if_pos rfl]; rfl, fun _ hj => item_modifyItem_ne _ hj.symm⟩

/-- The reset of a present item, with the store settled: the item, its block, and the write begun. -/
theorem reset_settles {s : State} {i : Nat} (h : s.CanReset i) (hl : i < s.service.items.length) :
    ∃ st : Store, st.orders = [.single (itemBlock i) false none] ∧
      (s.applyReset i false).settleStore = (s.modifyItem i ServiceItem.restored).setStore st ∧
      (s.applyReset i true).settleStore = ((s.modifyItem i ServiceItem.restored).setStore st).returnStatus .done [] ∧
      ∀ t : State, t.store = st → t.service = (s.modifyItem i ServiceItem.restored).service → s.ServiceReset i t := by
  obtain ⟨hactive, hrest, hcalm, hpower, hwhole, hholds, hkm, hdays, hfresh⟩ := h
  obtain ⟨k, hk⟩ := present_of_presentLine hholds.1
  have hline : (s.resetStore i).presentLine (itemBlock i) = some k := (presentLine_update _ _ _ _).trans hk
  have hdirty : ((s.resetStore i).line k).state = .dirty := update_dirty (noneWriting_line hcalm) _ hk
  have hrest' : (s.resetStore i).AtRest := atRest_update hrest _ _
  obtain ⟨-, hgood, hfault⟩ := update_fields s.store (itemBlock i) (resetField (s.itemFigures i) s.store.odometerValue i)
  obtain ⟨hkey, hworkshop⟩ := placeReset_settles (u := (s.modifyItem i ServiceItem.restored).setStore (s.resetStore i)) hrest'
    (hgood.trans hpower) (hfault.trans hwhole) (presentLine_eq_some.mp hline).1 hdirty
  have hread (c : Nat) := startWrite_reads (st := (s.resetStore i).orderPlaced (itemBlock i)) hline .single c
  have hfields := resetStore_fields hholds hkm hdays
  rw [applyReset_eq hactive hholds hkm hdays hfresh, applyReset_eq hactive hholds hkm hdays hfresh]
  refine ⟨((s.resetStore i).orderPlaced (itemBlock i)).startWrite k .single, rfl, hkey, hworkshop, fun t hst hservice => ?_⟩
  have hdata (c : Nat) : t.store.dataOf c = (s.resetStore i).dataOf c := by
    rw [hst]
    exact (hread c).2
  obtain ⟨hi, hj⟩ := item_restored hl
  refine ⟨?_, ?_, ?_, fun b hb => ?_, ?_, fun j hji => ?_⟩
  · unfold Store.remainingKm
    rw [hdata, hfields.km]
  · unfold Store.remainingDays
    rw [hdata, hfields.days]
  · rw [hdata, hfields.odometer]
  · rw [hdata]
    exact dataOf_update_ne _ hb
  · rw [item_of_items (s := s.modifyItem i ServiceItem.restored) (by rw [hservice]), hi]
  · rw [item_of_items (s := s.modifyItem i ServiceItem.restored) (by rw [hservice]), hj j hji]

/-! ### An absent item -/

/-- The mark of a reset that waits for its item's block. -/
def ServiceItem.waitsFor (workshop : Bool) (x : ServiceItem) : ServiceItem :=
  { x with waitsChauffeur := x.waitsChauffeur || !workshop, waitsWorkshop := x.waitsWorkshop || workshop }

/-- A reset that waits for its item's block. -/
def State.resetWaits (s : State) (i : Nat) (workshop : Bool) : State :=
  (s.modifyItem i (ServiceItem.waitsFor workshop)).fetchService (itemBlock i)

theorem requestReset_absent {s : State} {i : Nat} (h : s.store.present (itemBlock i) = false) (w : Bool) :
    s.requestReset i w = s.resetWaits i w := by
  unfold State.requestReset
  rw [if_neg (by rw [h]; decide)]
  rfl

theorem requestReset_present {s : State} {i : Nat} (h : s.store.present (itemBlock i) = true) (w : Bool) :
    s.requestReset i w = s.applyReset i w := if_pos h

theorem fetchService_task (s : State) (b : Nat) : (s.fetchService b).store.task = s.store.task := by
  cases h : s.service.mark b with
  | true => rw [fetchService_marked h]
  | false =>
    rw [fetchService_unmarked h]
    exact fetch_task _ _

/-- The wait of a reset, with the store settled. -/
structure State.Waits (s : State) (i : Nat) (x : ServiceItem) (t : State) : Prop where
  same : t.item i = x
  others : ∀ j, j ≠ i → t.item j = s.item j
  selected : t.service.selected = s.service.selected
  mark : t.service.mark (itemBlock i) = true
  marks : ∀ c, 3 ≤ c → c ≠ itemBlock i → t.service.mark c = s.service.mark c
  store : s.service.mark (itemBlock i) = true → t.store = s.store
  fetches : s.service.mark (itemBlock i) = false → s.store.find (itemBlock i) = none → t.store.Fetches (itemBlock i)

theorem resetWaits_settles {s : State} {i : Nat} (hi : i < 8) (hl : i < s.service.items.length) (hr : s.store.AtRest)
    (hm : s.service.fetchMarks.length = 4) (w : Bool) : KeptBut [.service, .store] s (s.resetWaits i w).settleStore ∧
      s.Waits i ((s.item i).waitsFor w) (s.resetWaits i w).settleStore := by
  obtain ⟨hlow, hhigh⟩ := itemBlock_bounds hi
  have hkept : KeptBut [.service, .store] s (s.resetWaits i w) :=
    (modifyItem_kept s i _).andThen (fetchService_kept _ _)
  have htask : (s.resetWaits i w).store.task.passive = true := by
    unfold State.resetWaits
    rw [fetchService_task]
    show s.store.task.passive = true
    rw [hr.2.2.2]
    rfl
  obtain ⟨hsettle, hgo⟩ := settleStore_goesOn htask
  obtain ⟨hselected, hitems⟩ := fetchService_service (s.modifyItem i (ServiceItem.waitsFor w)) (itemBlock i)
  rw [hsettle]
  refine ⟨hkept.andThen (setStore_kept _ _), ?_, fun j hj => ?_, hselected, ?_, fun c hc hne => ?_, fun hmark => ?_,
    fun hmark hfind => ?_⟩
  · refine (item_of_items hitems i).trans ?_
    rw [item_modifyItem _ _ _ hl, if_pos rfl]
  · exact (item_of_items hitems j).trans (item_modifyItem_ne _ hj.symm)
  · exact fetchService_mark (s := s.modifyItem i (ServiceItem.waitsFor w)) hm hlow hhigh
  · exact fetchService_mark_ne (s.modifyItem i (ServiceItem.waitsFor w)) hlow hc hne
  · have hstays : s.resetWaits i w = s.modifyItem i (ServiceItem.waitsFor w) :=
      fetchService_marked (s := s.modifyItem i (ServiceItem.waitsFor w)) hmark
    rw [hstays]
    exact congrArg Prod.fst (settle_settled (settled_atRest hr) settleFuel)
  · refine hgo.fetches _ ?_
    have hstarts : (s.resetWaits i w).store = s.store.fetch (itemBlock i) := by
      unfold State.resetWaits
      rw [fetchService_unmarked (s := s.modifyItem i (ServiceItem.waitsFor w)) hmark]
      rfl
    rw [hstarts]
    exact fetch_fetches hfind

theorem waits_of {s u t t' : State} {i : Nat} {x : ServiceItem} (h : u.Waits i x t) (hu : u.service = s.service)
    (hust : u.store = s.store) (hs : t'.service = t.service) (hst : t'.store = t.store) : t'.item i = x ∧ (∀ j, j ≠ i → t'.item j = s.item j) ∧
      t'.service.selected = s.service.selected ∧ t'.service.mark (itemBlock i) = true ∧
      (∀ c, 3 ≤ c → c ≠ itemBlock i → t'.service.mark c = s.service.mark c) ∧
      (s.service.mark (itemBlock i) = true → t'.store = s.store) ∧
      (s.service.mark (itemBlock i) = false → s.store.find (itemBlock i) = none →
        .fill (itemBlock i) ∈ t'.store.orders ∨ ∃ b, .fetch (itemBlock i) b ∈ t'.store.waiting) := by
  obtain ⟨hsame, hothers, hselected, hmark, hmarks, hstore, hfetches⟩ := h
  have hitem (j : Nat) : t'.item j = t.item j := item_of_items (by rw [hs]) j
  rw [hu] at hselected hmarks hstore hfetches
  rw [hust] at hstore hfetches
  rw [hs, hst]
  exact ⟨(hitem i).trans hsame, fun j hj => ((hitem j).trans (hothers j hj)).trans (item_of_items (by rw [hu]) j), hselected, hmark, hmarks, hstore, hfetches⟩

/-! ### The commands -/

/-- The key's hold has come to the reset of item `i`. -/
structure State.ResetByKey (s : State) (i : Nat) : Prop where
  hold : s.keys.reset.hold = .serviceReset
  run : s.ign = .run
  speed : s.counting.speed < 20
  warning : s.warningPage = false
  page : s.trip.page = .service
  selected : s.service.selected = some i

theorem exec_serviceResetHold {s : State} {i : Nat} (h : s.ResetByKey i) : exec .serviceResetHold s =
    .next (State.present s ((s.setHold .reset .idle).requestReset i false).settleStore) := by
  obtain ⟨hhold, hrun, hspeed, hwarning, hpage, hselected⟩ := h
  have hmark : s.serviceResetMark = (s.setHold .reset .idle).requestReset i false := by
    unfold State.serviceResetMark
    rw [hhold, hselected]
    dsimp only
    rw [if_pos]
    unfold State.stopped State.carries
    rw [hrun, hwarning, hpage]
    simp [hspeed]
  show Host.Outcome.next (State.present s s.serviceResetMark.settleStore) = _
  rw [hmark]

theorem exec_serviceReset {s : State} {i : Nat} (hi : i < 8) (h : s.TakesRequest) :
    exec (.serviceReset (byteOf i)) s = .next (State.present s ((s.atWork 0x65).requestServiceReset i)) := by
  rw [exec_carriesOut (c := .serviceReset (byteOf i)) rfl h, carryOut_reset]
  have hnat : (byteOf i).toNat = i := toNat_byteOf (by omega)
  have htake : (s.atWork 0x65).takeServiceReset [byteOf i] = if (byteOf i).toNat < 8 then
      (s.atWork 0x65).requestServiceReset (byteOf i).toNat else (s.atWork 0x65).badRequest := rfl
  rw [htake, hnat, if_pos hi]

theorem requestServiceReset_active {s : State} {i : Nat} (h : s.itemActive i = true) :
    s.requestServiceReset i = (s.requestReset i true).settleStore := if_pos h

theorem keys_of_reset {s u : State} (hp : u.trip = s.trip) (ha : u.arbiter = s.arbiter)
    (hs : u.service.selected = s.service.selected) : (State.present s u).keys = u.keys := by
  rw [present_keys_item (congrArg Trip.page hp) (warningPage_congr ha), if_pos hs]

theorem setHold_keys (s : State) : (s.setHold .reset .idle).keys = s.keys.put s.keys.reset.endHold .reset := rfl

/-- At the 5 s mark the reset of an absent item waits for its block. -/
theorem key_waits {s : State} {i : Nat} (hk : s.ResetByKey i) (hp : s.store.present (itemBlock i) = false) (hi : i < 8)
    (hl : i < s.service.items.length) (hr : s.store.AtRest) (hm : s.service.fetchMarks.length = 4) :
    ∃ t, exec .serviceResetHold s = .next t ∧ t.service = ((s.setHold .reset .idle).resetWaits i false).settleStore.service ∧
      t.store = ((s.setHold .reset .idle).resetWaits i false).settleStore.store ∧
      t.keys = s.keys.put s.keys.reset.endHold .reset ∧ KeptBut [.keys, .service, .store, .display] s t := by
  obtain ⟨hkept, hwaits⟩ := resetWaits_settles (s := s.setHold .reset .idle) hi hl hr hm false
  have hall : KeptBut [.keys, .service, .store] s ((s.setHold .reset .idle).resetWaits i false).settleStore :=
    (setHold_kept s _ _).andThen hkept
  refine ⟨_, (exec_serviceResetHold hk).trans (by rw [requestReset_absent (s := s.setHold .reset .idle) hp]), ?_, ?_, ?_,
    present_frame_choice hall ⟨congrArg Trip.page hall.trip, hwaits.selected⟩⟩
  · rw [State.present_service]
  · rw [State.present_store]
  · rw [keys_of_reset hall.trip hall.arbiter hwaits.selected, hkept.keys, setHold_keys]

/-- The workshop's reset of an absent item waits for its block. -/
theorem workshop_waits {s : State} {i : Nat} (ht : s.TakesRequest) (ha : s.itemActive i = true)
    (hp : s.store.present (itemBlock i) = false) (hi : i < 8) (hl : i < s.service.items.length) (hr : s.store.AtRest)
    (hm : s.service.fetchMarks.length = 4) :
    ∃ t, exec (.serviceReset (byteOf i)) s = .next t ∧ t.service = ((s.atWork 0x65).resetWaits i true).settleStore.service ∧
      t.store = ((s.atWork 0x65).resetWaits i true).settleStore.store ∧ Works 0x65 s t ∧
      KeptBut [.service, .store, .handler, .display] s t := by
  obtain ⟨hkept, hwaits⟩ := resetWaits_settles (s := s.atWork 0x65) hi hl hr hm true
  have hall : KeptBut [.service, .store, .handler] s ((s.atWork 0x65).resetWaits i true).settleStore :=
    (setHandler_kept s _).andThen hkept
  refine ⟨_, (exec_serviceReset hi ht).trans (by rw [requestServiceReset_active (s := s.atWork 0x65) ha,
    requestReset_absent (s := s.atWork 0x65) hp]), ?_, ?_, ⟨?_, ?_⟩,
    present_frame_choice hall ⟨congrArg Trip.page hall.trip, hwaits.selected⟩⟩
  · rw [State.present_service]
  · rw [State.present_store]
  · rw [State.present_handler, hkept.handler]
    rfl
  · rw [State.present_line, hall.line]

theorem restored_kept (s : State) (i : Nat) (st : Store) :
    KeptBut [.service, .store] s ((s.modifyItem i ServiceItem.restored).setStore st) :=
  (modifyItem_kept s i _).andThen (setStore_kept _ _)

theorem key_resets {s : State} {i : Nat} (hk : s.ResetByKey i) (h : s.CanReset i) (hl : i < s.service.items.length) :
    ∃ t, exec .serviceResetHold s = .next t ∧ s.ServiceReset i t ∧ t.store.orders = [.single (itemBlock i) false none] ∧
      t.keys = s.keys.put s.keys.reset.endHold .reset ∧ KeptBut [.keys, .service, .store, .display] s t := by
  obtain ⟨hactive, hrest, hcalm, hpower, hwhole, hholds, hkm, hdays, hfresh⟩ := id h
  obtain ⟨st, horders, hsettles, -, hreset⟩ := reset_settles (s := s.setHold .reset .idle)
    ⟨hactive, hrest, hcalm, hpower, hwhole, hholds, hkm, hdays, hfresh⟩ hl
  have hkept := restored_kept (s.setHold .reset .idle) i st
  have hall : KeptBut [.keys, .service, .store] s (((s.setHold .reset .idle).modifyItem i ServiceItem.restored).setStore st) :=
    (setHold_kept s _ _).andThen hkept
  refine ⟨_, (exec_serviceResetHold hk).trans (by
    rw [requestReset_present (s := s.setHold .reset .idle) hholds.1, hsettles]), ?_, ?_, ?_,
    present_frame_choice hall ⟨congrArg Trip.page hall.trip, rfl⟩⟩
  · exact hreset _ (State.present_store _ _) (State.present_service _ _)
  · rw [State.present_store]
    exact horders
  · rw [keys_of_reset hall.trip hall.arbiter rfl, hkept.keys, setHold_keys]

theorem workshop_resets {s : State} {i : Nat} (ht : s.TakesRequest) (h : s.CanReset i) (hi : i < 8)
    (hl : i < s.service.items.length) :
    ∃ t, exec (.serviceReset (byteOf i)) s = .next t ∧ s.ServiceReset i t ∧
      t.store.orders = [.single (itemBlock i) false none] ∧ Replies 0x65 .done [] s t ∧
      KeptBut [.service, .store, .line, .handler, .display] s t := by
  obtain ⟨hactive, hrest, hcalm, hpower, hwhole, hholds, hkm, hdays, hfresh⟩ := id h
  obtain ⟨st, horders, -, hsettles, hreset⟩ := reset_settles (s := s.atWork 0x65)
    ⟨hactive, hrest, hcalm, hpower, hwhole, hholds, hkm, hdays, hfresh⟩ hl
  have hkept := restored_kept (s.atWork 0x65) i st
  have hreply := returnStatus_kept (((s.atWork 0x65).modifyItem i ServiceItem.restored).setStore st) .done []
  have hopen : (((s.atWork 0x65).modifyItem i ServiceItem.restored).setStore st).line.Open 0x70 := ht.2.2
  have hall : KeptBut [.service, .store, .line, .handler] s
      ((((s.atWork 0x65).modifyItem i ServiceItem.restored).setStore st).returnStatus .done []) :=
    ((setHandler_kept s _).andThen (cs := [.service, .store, .handler]) hkept).andThen hreply
  refine ⟨_, (exec_serviceReset hi ht).trans (by rw [requestServiceReset_active (s := s.atWork 0x65) hactive,
    requestReset_present (s := s.atWork 0x65) hholds.1, hsettles]), ?_, ?_, ?_,
    present_frame_choice hall ⟨congrArg Trip.page hall.trip, by rw [hreply.service]; rfl⟩⟩
  · exact hreset _ ((State.present_store _ _).trans hreply.store) ((State.present_service _ _).trans hreply.service)
  · rw [State.present_store, hreply.store]
    exact horders
  · refine replies_of_present s ?_
    rw [returnStatus_open hopen]
    exact ⟨rfl, rfl⟩

/-- Settles O32: the reset of an item that is not active, absent or present, by the key and by the workshop. -/
theorem serviceResetRestoresIntervals : Obligations.ServiceResetRestoresIntervals := by
  intro s i hi hl hr
  refine ⟨fun ha ht => ?_, fun ha hp hm => ⟨fun hk => ?_, fun ht => ?_⟩,
    fun ha hcalm hpower hwhole hsystem hholds hkm hdays hahead hahead' => ⟨fun hk => ?_, fun ht => ?_⟩⟩
  · have hrefused : (s.atWork 0x65).requestServiceReset i = (s.atWork 0x65).returnStatus .notActive [] :=
      if_neg (by rw [show (s.atWork 0x65).itemActive i = s.itemActive i from rfl, ha]; decide)
    obtain ⟨hk, hr⟩ := refuses_of ht.2.2 hrefused
    exact ⟨_, exec_serviceReset hi ht, hr, hk⟩
  · obtain ⟨hhold, hrun, hspeed, hwarning, hpage, hselected⟩ := hk
    obtain ⟨t, he, hservice, hstore, hkeys, hkept⟩ :=
      key_waits ⟨hhold, hrun, hspeed, hwarning, hpage, hselected⟩ hp hi hl hr hm
    obtain ⟨-, hwaits⟩ := resetWaits_settles (s := s.setHold .reset .idle) hi hl hr hm false
    have hx : (s.item i).waitsFor false = { s.item i with waitsChauffeur := true } := by
      unfold ServiceItem.waitsFor
      simp
    exact ⟨t, he, hx ▸ waits_of (x := (s.item i).waitsFor _) hwaits rfl rfl hservice hstore, hkeys, hkept⟩
  · obtain ⟨t, he, hservice, hstore, hworks, hkept⟩ := workshop_waits ht ha hp hi hl hr hm
    obtain ⟨-, hwaits⟩ := resetWaits_settles (s := s.atWork 0x65) hi hl hr hm true
    have hx : (s.item i).waitsFor true = { s.item i with waitsWorkshop := true } := by
      unfold ServiceItem.waitsFor
      simp
    exact ⟨t, he, hx ▸ waits_of (x := (s.item i).waitsFor _) hwaits rfl rfl hservice hstore, hworks, hkept⟩
  · obtain ⟨hhold, hrun, hspeed, hwarning, hpage, hselected⟩ := hk
    exact key_resets ⟨hhold, hrun, hspeed, hwarning, hpage, hselected⟩
      ⟨ha, hr, hcalm, hpower, hwhole, hholds, hkm, hdays, hahead, hahead'⟩ hl
  · exact workshop_resets ht ⟨ha, hr, hcalm, hpower, hwhole, hholds, hkm, hdays, hahead, hahead'⟩ hi hl

end Sys2Proof.Machine
end

section
/-! SUPPORT. What updates and fetches of service blocks leave of a store, and what its moves leave of a block that no fetch
outstanding can displace. -/
namespace Sys2Proof.Machine
set_option Elab.async false

/-! ### Updates and fetches -/

/-- A store after updates of the blocks `P` and fetches of absent service blocks. -/
inductive Store.Counts (P : Nat → Prop) (st : Store) : Store → Prop
  | refl : Counts P st st
  | update {st' : Store} (h : Counts P st st') {b : Nat} (hb : P b) (f : List Byte → List Byte) : Counts P st (st'.update b f)
  | fetch {st' : Store} (h : Counts P st st') {b : Nat} (hb : 3 ≤ b ∧ b ≤ 6) (ha : st'.present b = false) :
      Counts P st (st'.fetch b)

theorem Store.Counts.trans {P : Nat → Prop} {st st' st'' : Store} (h : st.Counts P st') (k : st'.Counts P st'') : st.Counts P st'' := by
  induction k with
  | refl => exact h
  | update _ hb f ih => exact ih.update hb f
  | fetch _ hb ha ih => exact ih.fetch hb ha

theorem Store.Counts.mono {P Q : Nat → Prop} (hPQ : ∀ b, P b → Q b) {st st' : Store} (h : st.Counts P st') : st.Counts Q st' := by
  induction h with
  | refl => exact .refl
  | update _ hb f ih => exact ih.update (hPQ _ hb) f
  | fetch _ hb ha ih => exact ih.fetch hb ha

/-- A fetch of an absent block leaves the lines. -/
theorem fetch_of_absent {st : Store} {b : Nat} (h : st.present b = false) :
    st.fetch b = st ∨ st.fetch b = { st with waiting := st.waiting ++ [.fetch b false] } := by
  unfold Store.fetch
  cases hi : st.find b with
  | none =>
    dsimp only
    split
    · exact .inl rfl
    · exact .inr rfl
  | some i =>
    have hfilling : (st.line i).state = .filling := by
      have hvalid := (line_of_find hi).2
      unfold Store.present Store.presentLine at h
      rw [hi] at h
      cases hs : (st.line i).state <;> simp_all [LineState.isPresent]
    exact .inl (if_pos hfilling)

theorem line_update_pinned (st : Store) (b : Nat) (f : List Byte → List Byte) (j : Nat) :
    ((st.update b f).line j).pinned = (st.line j).pinned := by
  unfold Store.update
  cases hb : st.presentLine b with
  | none => rfl
  | some i =>
    show (((st.modifyLine i (CacheLine.updated f)).touch i).line j).pinned = _
    rw [line_touch_pinned, modifyLine_line _ _ _ _ (line_lt_of_find (presentLine_eq_some.1 hb).1)]
    split
    · unfold CacheLine.updated
      split <;> rfl
    · rfl

/-- What updates and fetches of service blocks leave. -/
structure Store.CountsKept (st st' : Store) : Prop where
  orders : st'.orders = st.orders
  op : st'.op = st.op
  task : st'.task = st.task
  latch : st'.latch = st.latch
  power : st'.pwrGood = st.pwrGood
  fault : st'.nvFault = st.nvFault
  reads : ∀ b, st'.presentLine b = st.presentLine b
  pinned : ∀ j, (st'.line j).pinned = (st.line j).pinned
  dirty : ∀ j, (st.line j).state = .dirty → (st'.line j).state = .dirty
  waiting : ∀ w ∈ st'.waiting, w ∈ st.waiting ∨ ∃ b, (3 ≤ b ∧ b ≤ 6) ∧ st.present b = false ∧ w = .fetch b false

theorem Store.Counts.kept {P : Nat → Prop} {st st' : Store} (h : st.Counts P st') : st.CountsKept st' := by
  induction h with
  | refl => exact ⟨rfl, rfl, rfl, rfl, rfl, rfl, fun _ => rfl, fun _ => rfl, fun _ => id, fun _ => .inl⟩
  | @update u _ b _ f ih =>
    obtain ⟨ho, hop, hw, ht, -, -, hf, hl, hg, -⟩ := update_rest u b f
    exact ⟨ho.trans ih.orders, hop.trans ih.op, ht.trans ih.task, hl.trans ih.latch, hg.trans ih.power, hf.trans ih.fault,
      fun c => (presentLine_update u b f c).trans (ih.reads c), fun j => (line_update_pinned u b f j).trans (ih.pinned j),
      fun j hj => update_keeps_dirty f (ih.dirty j hj), fun w h => ih.waiting w (hw ▸ h)⟩
  | @fetch u _ b hb ha ih =>
    have hpresent : st.present b = false := by rw [← ha]; unfold Store.present; rw [ih.reads]
    rcases fetch_of_absent ha with h | h <;> rw [h]
    · exact ih
    · exact ⟨ih.orders, ih.op, ih.task, ih.latch, ih.power, ih.fault, ih.reads, ih.pinned, ih.dirty, fun w hw =>
        (List.mem_append.mp hw).elim (ih.waiting w) fun hw => .inr ⟨b, hb, hpresent, List.mem_singleton.mp hw⟩⟩

theorem Store.Counts.dataOf {P : Nat → Prop} {st st' : Store} (h : st.Counts P st') {c : Nat} (hc : ¬P c) :
    st'.dataOf c = st.dataOf c := by
  induction h with
  | refl => rfl
  | @update _ _ b hb f ih =>
    have hne : c ≠ b := by rintro rfl; exact hc hb
    exact (dataOf_update_ne f hne).trans ih
  | fetch _ _ ha ih =>
    rcases fetch_of_absent ha with h | h <;> rw [h]
    · exact ih
    · exact (dataOf_of_lines rfl c).trans ih

theorem Store.CountsKept.present {st st' : Store} (h : st.CountsKept st') (b : Nat) : st'.present b = st.present b := by
  unfold Store.present
  rw [h.reads]

/-! ### A block that no fetch outstanding displaces -/

/-- The block stands in its line with its bytes, and no waiting fetch asks for it or can take its line. -/
structure Store.Guards (b i : Nat) (d : List Byte) (st : Store) : Prop where
  line : st.presentLine b = some i
  data : st.dataOf b = d
  guard : ∀ n x, .fetch n x ∈ st.waiting → n ≠ b ∧ (i / 2 = n % 4 → (st.line i).pinned = true)

theorem dataOf_of_line {st : Store} {b i : Nat} (h : st.presentLine b = some i) : st.dataOf b = (st.line i).data := by
  unfold Store.dataOf
  rw [h]

section
variable {st : Store} {b i : Nat} {d : List Byte}

/-- Another line that is given to another block leaves the block where it stands. -/
theorem presentLine_modifyLine_other {f : CacheLine → CacheLine} {j : Nat} (h : st.presentLine b = some i) (hne : j ≠ i)
    (hf : ∀ l, (f l).tag ≠ some b) : (st.modifyLine j f).presentLine b = some i ∧ (st.modifyLine j f).line i = st.line i := by
  obtain ⟨hfind, hpresent⟩ := presentLine_eq_some.mp h
  have hline : (st.modifyLine j f).line i = st.line i := by
    unfold Store.line Store.modifyLine
    simp [List.getD_eq_getElem?_getD, List.getElem?_modify, if_neg hne]
  refine ⟨presentLine_eq_some.mpr ⟨?_, by rw [hline]; exact hpresent⟩, hline⟩
  unfold Store.find at hfind ⊢
  obtain ⟨hlt, hat, hbefore⟩ := List.findIdx?_eq_some_iff_getElem.mp hfind
  have hlength : (st.lines.modify j f).length = st.lines.length := List.length_modify _ _ _
  refine List.findIdx?_eq_some_iff_getElem.mpr ⟨hlt.trans_eq hlength.symm, ?_, fun k hk => ?_⟩
  · simp only [Store.modifyLine, List.getElem_modify, if_neg hne]
    exact hat
  · simp only [Store.modifyLine, List.getElem_modify]
    split
    · unfold CacheLine.holds
      simp [hf]
    · exact hbefore k hk

theorem Store.Guards.takeVictim {n j k : Nat} {x : Bool} (h : st.Guards b i d) (hk : st.waiting[k]? = some (.fetch n x))
    (hj : st.victim (setOf n) = some j) :
    (st.takeVictim n j k).Guards b i d ∧ (st.takeVictim n j k).line i = st.line i := by
  obtain ⟨hset, hpinned⟩ := victim_spec hj
  obtain ⟨hn, hguard⟩ := h.guard n x (List.mem_of_getElem? hk)
  have hne : j ≠ i := fun e => by
    rw [← e] at hguard
    rw [hguard hset] at hpinned
    cases hpinned
  rcases takeVictim_cases st n j k with ⟨old, he⟩ | he <;> rw [he]
  · refine ⟨⟨h.line, h.data, fun m y hm => ?_⟩, rfl⟩
    rcases List.mem_or_eq_of_mem_set hm with hm | hm
    · exact h.guard m y hm
    · cases hm
      exact h.guard n x (List.mem_of_getElem? hk)
  · obtain ⟨hline, hsame⟩ := presentLine_modifyLine_other (f := fun l => { CacheLine.filling n with recent := l.recent }) h.line hne
      fun l hl => hn (Option.some.inj hl)
    refine ⟨⟨hline, ?_, fun m y hm => ?_⟩, hsame⟩
    · exact (dataOf_of_line hline).trans ((congrArg CacheLine.data hsame).trans ((dataOf_of_line h.line).symm.trans h.data))
    · have := h.guard m y (List.mem_of_mem_eraseIdx hm)
      exact ⟨this.1, fun e => by rw [← this.2 e]; exact congrArg CacheLine.pinned hsame⟩

theorem Store.Guards.startWrite {j : Nat} (h : st.Guards b i d) (hj : (st.line j).state = .dirty) (serves : WriteFor) :
    (st.startWrite j serves).Guards b i d := by
  have hlt : j < st.lines.length := by
    by_contra hno
    unfold Store.line at hj
    rw [List.getD_eq_default _ _ (Nat.le_of_not_lt hno)] at hj
    cases hj
  have hreads := reads_modifyLine_at (f := fun l => { l with state := .writing, redirty := false }) hlt rfl (by rw [hj]; rfl)
    (by rw [hj]; rfl) b
  have hdata := dataOf_modifyLine_at (f := fun l => { l with state := .writing, redirty := false }) hlt rfl (by rw [hj]; rfl)
    (by rw [hj]; rfl) rfl b
  refine ⟨hreads.2.trans h.line, hdata.trans h.data, fun n x hn => ⟨(h.guard n x hn).1, fun e => ?_⟩⟩
  have hpinned := (h.guard n x hn).2 e
  show ((st.modifyLine j _).line i).pinned = true
  rw [modifyLine_line _ _ _ _ hlt]
  split
  · exact hpinned
  · exact hpinned

/-- What leaves the lines and asks for nothing new leaves the block guarded. -/
theorem Store.Guards.of_lines {st' : Store} (h : st.Guards b i d) (hl : st'.lines = st.lines)
    (hw : ∀ n x, .fetch n x ∈ st'.waiting → ∃ y, Waiting.fetch n y ∈ st.waiting) : st'.Guards b i d where
  line := (presentLine_of_lines hl b).trans h.line
  data := (dataOf_of_lines hl b).trans h.data
  guard n x hn := by
    obtain ⟨y, hy⟩ := hw n x hn
    rw [line_of_lines hl]
    exact h.guard n y hy

theorem Store.Guards.endOrder (h : st.Guards b i d) (k : Nat) : (st.endOrder k).Guards b i d := by
  unfold Store.endOrder
  dsimp only
  split
  · refine h.of_lines rfl fun n x hn => ?_
    obtain ⟨w, hw, hx⟩ := List.mem_map.mp hn
    obtain ⟨y, rfl⟩ := victimWritten_fetch hx
    exact ⟨y, hw⟩
  · exact h.of_lines rfl fun n x hn => ⟨x, hn⟩

theorem Store.Guards.admitOne {st' : Store} (h : st.Guards b i d) (ha : st.admitOne = some st') :
    st'.Guards b i d ∧ st'.line i = st.line i := by
  rcases admitOne_cases ha with ⟨n, j, k, x, hk, hj, rfl⟩ | ⟨k, o, hk, rfl⟩
  · exact h.takeVictim hk hj
  · exact ⟨h.of_lines rfl fun n x hn => ⟨x, List.mem_of_mem_eraseIdx hn⟩, rfl⟩

theorem Store.Guards.engineOne {st' : Store} (h : st.Guards b i d) (he : st.engineOne = some st') : st'.Guards b i d := by
  obtain ⟨-, k, o, hk, rfl⟩ := engineOne_cases he
  rcases startOrder_cases hk with ⟨op, e⟩ | ⟨j, serves, hj, e⟩ | ⟨j, x, p, rfl, hj, e⟩ | ⟨-, -, e⟩ <;> rw [e]
  · exact h.of_lines rfl fun n x hn => ⟨x, hn⟩
  · exact h.startWrite hj serves
  · exact (h.of_lines (st' := { st with orders := st.orders.set k (.walk x j) }) rfl fun n x hn => ⟨x, hn⟩).startWrite hj .walk
  · exact h.endOrder k

theorem settle_guards (fuel : Nat) (ht : st.task.passive = true) (h : st.Guards b i d) : (st.settle fuel).1.Guards b i d :=
  (settle_keeps (P := fun st => st.Guards b i d) (fun _ _ hP ha => (hP.admitOne ha).1) (fun _ _ hP _ he => hP.engineOne he) fuel ht h).2

/-- The checkpoint's write of block 0 is listed, and until an operation runs its line is DIRTY. -/
structure Store.Checkpoints (i : Nat) (d : List Byte) (st : Store) : Prop where
  guards : st.Guards 0 i d
  listed : .single 0 false none ∈ st.orders
  fault : st.nvFault = false
  dirty : st.op = none → (st.line i).state = .dirty

theorem Store.Checkpoints.admitOne {st' : Store} (h : st.Checkpoints i d) (ha : st.admitOne = some st') : st'.Checkpoints i d := by
  obtain ⟨hguards, hline⟩ := h.guards.admitOne ha
  obtain ⟨hlisted, hop⟩ : Order.single 0 false none ∈ st'.orders ∧ st'.op = st.op := by
    rcases admitOne_cases ha with ⟨n, j, k, x, -, -, rfl⟩ | ⟨k, o, -, rfl⟩
    · rcases takeVictim_cases st n j k with ⟨old, he⟩ | he <;> rw [he]
      · exact ⟨List.mem_append_left _ h.listed, rfl⟩
      · exact ⟨List.mem_append_left _ h.listed, rfl⟩
    · exact ⟨List.mem_append_left _ h.listed, rfl⟩
  exact ⟨hguards, hlisted, (admitOne_goesOn ha).fault.trans h.fault, fun hnone => hline ▸ h.dirty (hop ▸ hnone)⟩

theorem Store.Checkpoints.engineOne {st' : Store} (h : st.Checkpoints i d) (he : st.engineOne = some st') : st'.Checkpoints i d := by
  have hguards := h.guards.engineOne he
  have hfault := (engineOne_goesOn he).fault.trans h.fault
  obtain ⟨hop, k, o, hk, rfl⟩ := engineOne_cases he
  have hwrites : st.singleWrites 0 = true := by
    unfold Store.singleWrites
    rw [(presentLine_eq_some.mp h.guards.line).1, h.fault]
    show ((st.line i).state == .dirty) = true
    rw [h.dirty hop]
    rfl
  rcases startOrder_cases hk with ⟨op, e⟩ | ⟨j, serves, -, e⟩ | ⟨j, x, p, rfl, -, e⟩ | ⟨-, hsingle, e⟩ <;> rw [e] at hguards hfault ⊢
  · exact ⟨hguards, h.listed, hfault, nofun⟩
  · exact ⟨hguards, h.listed, hfault, nofun⟩
  · exact ⟨hguards, mem_set_of_other h.listed hk nofun _, hfault, nofun⟩
  · have hother : Order.single 0 false none ≠ o := fun ho => by
      rw [hsingle 0 false none ho.symm] at hwrites
      cases hwrites
    obtain ⟨hlisted, hlines⟩ : Order.single 0 false none ∈ (st.endOrder k).orders ∧ (st.endOrder k).lines = st.lines := by
      unfold Store.endOrder
      dsimp only
      split
      · exact ⟨mem_eraseIdx_of_other h.listed hk hother, rfl⟩
      · exact ⟨mem_eraseIdx_of_other h.listed hk hother, rfl⟩
    exact ⟨hguards, hlisted, hfault, fun _ => (congrArg CacheLine.state (line_of_lines hlines i)).trans (h.dirty hop)⟩

theorem settle_checkpoints (fuel : Nat) (ht : st.task.passive = true) (h : st.Checkpoints i d) :
    (st.settle fuel).1.Checkpoints i d :=
  (settle_keeps (P := fun st => st.Checkpoints i d) (fun _ _ hP ha => hP.admitOne ha) (fun _ _ hP _ he => hP.engineOne he) fuel ht h).2

end

end Sys2Proof.Machine
end

section
/-! SUPPORT. The countdown of the service items: what "1 day" and "1 km" make of each item, and what they leave (R156). -/
namespace Sys2Proof.Machine
set_option Elab.async false

/-! ### A fold that reaches each item once -/

section
variable {S α : Type} {f : S → Nat → S} {I : S → Prop}

/-- What each step does to the thing of its own index and leaves of the others, the fold does once to each index it lists. -/
theorem foldl_at {g : S → α} {h : α → α} {j : Nat} (hI : ∀ s i, I s → i < 8 → I (f s i))
    (hg : ∀ s i, I s → i < 8 → g (f s i) = if i = j then h (g s) else g s) :
    ∀ (l : List Nat) {s : S}, l.Nodup → (∀ i ∈ l, i < 8) → I s → g (l.foldl f s) = if j ∈ l then h (g s) else g s := by
  intro l
  induction l with
  | nil => exact fun _ _ _ => rfl
  | cons i l ih =>
    intro s hnodup hlt hs
    obtain ⟨hi, hl⟩ := List.nodup_cons.mp hnodup
    have hlt' := List.forall_mem_cons.mp hlt
    rw [List.foldl_cons, ih hl hlt'.2 (hI s i hs hlt'.1), hg s i hs hlt'.1]
    by_cases hij : i = j
    · subst hij
      rw [if_neg hi, if_pos rfl, if_pos List.mem_cons_self]
    · rw [if_neg hij]
      simp [Ne.symm hij]

theorem foldl_all (hI : ∀ s i, I s → i < 8 → I (f s i)) : ∀ (l : List Nat) {s : S}, (∀ i ∈ l, i < 8) → I s → I (l.foldl f s) := by
  intro l
  induction l with
  | nil => exact fun _ => id
  | cons i l ih =>
    intro s hlt hs
    have hlt' := List.forall_mem_cons.mp hlt
    exact ih hlt'.2 (hI s i hs hlt'.1)

/-- What a step of one index reaches and every step keeps, the fold reaches. -/
theorem foldl_reaches {Q : S → Prop} {j : Nat} (hI : ∀ s i, I s → i < 8 → I (f s i)) (hQ : ∀ s i, I s → i < 8 → Q s → Q (f s i))
    (hj : ∀ s, I s → Q (f s j)) (l : List Nat) {s : S} (hlt : ∀ i ∈ l, i < 8) (hs : I s) (hmem : j ∈ l) : Q (l.foldl f s) := by
  induction l generalizing s with
  | nil => cases hmem
  | cons i l ih =>
    have hlt' := List.forall_mem_cons.mp hlt
    rw [List.foldl_cons]
    by_cases hl : j ∈ l
    · exact ih hlt'.2 (hI s i hs hlt'.1) hl
    · have hij : j = i := (List.mem_cons.mp hmem).resolve_right hl
      subst hij
      exact (foldl_all (I := fun s => I s ∧ Q s) (fun s i h hi => ⟨hI s i h.1 hi, hQ s i h.1 hi h.2⟩) l hlt'.2
        ⟨hI s j hs hlt'.1, hj s hs⟩).2

end

/-! ### One item -/

/-- The item is counted down by the dimension. -/
def State.counted (s : State) (km : Bool) (i : Nat) : Bool := s.itemActive i && (s.itemFigures i).inUse km

/-- A service item's remaining count in one dimension. -/
def Store.remaining (st : Store) (i : Nat) (km : Bool) : Int := signedWordAt (st.dataOf (itemBlock i)) (remainingOffset i km)

def ServiceBlock (b : Nat) : Prop := 3 ≤ b ∧ b ≤ 6

/-- What the countdown leaves while it goes from item to item. -/
structure State.CountsOn (s t : State) : Prop where
  kept : KeptBut [.service, .store] s t
  items : t.service.items.length = s.service.items.length
  marks : t.service.fetchMarks.length = s.service.fetchMarks.length
  store : s.store.Counts ServiceBlock t.store
  holds : ∀ b, s.store.Holds b → t.store.Holds b

theorem State.CountsOn.refl (s : State) : s.CountsOn s := ⟨.refl _ _, rfl, rfl, .refl, fun _ => id⟩

theorem State.CountsOn.trans {s t u : State} (h : s.CountsOn t) (k : t.CountsOn u) : s.CountsOn u :=
  ⟨h.kept.trans k.kept, k.items.trans h.items, k.marks.trans h.marks, h.store.trans k.store, fun b hb => k.holds b (h.holds b hb)⟩

theorem State.CountsOn.present {s t : State} (h : s.CountsOn t) (b : Nat) : t.store.present b = s.store.present b :=
  h.store.kept.present b

theorem State.CountsOn.counted {s t : State} (h : s.CountsOn t) (km : Bool) (i : Nat) : t.counted km i = s.counted km i := by
  unfold State.counted
  rw [itemActive_of_cal h.kept.cal, itemFigures_of_cal h.kept.cal]

theorem lowerField_length {o n : Nat} {bs : List Byte} (h : bs.length = 15) (ho : o + 2 ≤ 15) : (lowerField o n bs).length = 15 :=
  splice_fits h ho

theorem remainingOffset_le (i : Nat) (km : Bool) : remainingOffset i km + 2 ≤ 15 := by
  have := itemOffset_le i
  unfold remainingOffset
  split <;> omega

section
variable {km : Bool} {s : State} {i : Nat}

theorem countItem_uncounted (h : s.counted km i = false) : State.countItem km s i = s :=
  if_neg (by show ¬s.counted km i = true; rw [h]; exact Bool.false_ne_true)

theorem countItem_present (h : s.counted km i = true) (hp : s.store.present (itemBlock i) = true) :
    State.countItem km s i = s.update (itemBlock i) (lowerField (remainingOffset i km) 1) :=
  (if_pos h).trans (if_pos hp)

theorem countItem_absent (h : s.counted km i = true) (hp : s.store.present (itemBlock i) = false) :
    State.countItem km s i = (s.modifyItem i (ServiceItem.pend km)).fetchService (itemBlock i) :=
  (if_pos h).trans (if_neg (by rw [hp]; exact Bool.false_ne_true))

theorem fetchService_on {b : Nat} (hb : 3 ≤ b ∧ b ≤ 6) (hp : s.store.present b = false) : s.CountsOn (s.fetchService b) := by
  have hkept := fetchService_kept s b
  cases hm : s.service.mark b with
  | true => rw [fetchService_marked hm]; exact .refl s
  | false =>
    rw [fetchService_unmarked hm] at hkept ⊢
    refine ⟨hkept, rfl, List.length_set, .fetch .refl hb hp, fun c hc => ?_⟩
    show (s.store.fetch b).Holds c
    rcases fetch_of_absent hp with h | h <;> rw [h]
    · exact hc
    · exact holds_of_lines rfl hc

theorem countItem_on (hi : i < 8) : s.CountsOn (State.countItem km s i) := by
  have hb := itemBlock_bounds hi
  cases hc : s.counted km i with
  | false => rw [countItem_uncounted hc]; exact .refl s
  | true =>
    cases hp : s.store.present (itemBlock i) with
    | true =>
      rw [countItem_present hc hp]
      refine ⟨(update_kept _ _ _).mono (by decide), rfl, rfl, .update .refl hb _, fun c hh => ?_⟩
      by_cases hcb : c = itemBlock i
      · subst hcb
        exact holds_update_same hh fun l hl => lowerField_length hl (remainingOffset_le i km)
      · exact holds_update_ne _ hcb hh
    | false =>
      rw [countItem_absent hc hp]
      exact .trans ⟨(modifyItem_kept _ _ _).mono (by decide), List.length_modify _ _ _, rfl, .refl, fun _ => id⟩
        (fetchService_on (s := s.modifyItem i (ServiceItem.pend km)) hb hp)

theorem countItem_item {j : Nat} (hj : j < s.service.items.length) :
    (State.countItem km s i).item j = if i = j then
      (if s.counted km j = true ∧ s.store.present (itemBlock j) = false then (s.item j).pend km else s.item j)
      else s.item j := by
  cases hc : s.counted km i with
  | false =>
    rw [countItem_uncounted hc]
    split
    · next h => rw [← h, hc, if_neg (by simp)]
    · rfl
  | true =>
    cases hp : s.store.present (itemBlock i) with
    | true =>
      rw [countItem_present hc hp]
      split
      · next h => rw [← h, hp, if_neg (by simp)]; rfl
      · rfl
    | false =>
      rw [countItem_absent hc hp, item_of_items (fetchService_service _ _).2, item_modifyItem _ _ _ hj]
      split
      · next h => rw [← h, if_pos ⟨hc, hp⟩]
      · rfl

theorem signedWordAt_range (bs : List Byte) (o : Nat) : -32768 ≤ signedWordAt bs o ∧ signedWordAt bs o ≤ 32767 := by
  have h1 := (bs.getD o 0).isLt
  have h2 := (bs.getD (o + 1) 0).isLt
  unfold signedWordAt signedOf wordAt byteAt
  split <;> omega

theorem lowerField_reads {bs : List Byte} {o p n : Nat} (h : bs.length = 15) (ho : o + 2 ≤ 15) (hp : p + 2 ≤ o ∨ o + 2 ≤ p ∨ p = o) :
    signedWordAt (lowerField o n bs) p = if p = o then lowerRemaining (signedWordAt bs o) n else signedWordAt bs p := by
  unfold lowerField
  by_cases hpo : p = o
  · subst hpo
    obtain ⟨hlow, hhigh⟩ := signedWordAt_range bs p
    rw [if_pos rfl]
    refine signedWordAt_splice_same ?_ ?_ (by omega)
    · unfold lowerRemaining
      split <;> omega
    · unfold lowerRemaining
      split <;> omega
  · rw [if_neg hpo]
    exact signedWordAt_splice_apart (by rw [signedBytes2_length]; omega) (by omega)

/-- The fields of the four counts of one block are apart. -/
theorem remainingOffset_apart {i j : Nat} (h : itemBlock i = itemBlock j) (km k : Bool) :
    (remainingOffset j k + 2 ≤ remainingOffset i km ∨ remainingOffset i km + 2 ≤ remainingOffset j k ∨
      remainingOffset j k = remainingOffset i km) ∧ (remainingOffset j k = remainingOffset i km ↔ i = j ∧ k = km) := by
  unfold itemBlock at h
  unfold remainingOffset itemOffset
  cases km <;> cases k <;> simp <;> omega

theorem countItem_remaining {j : Nat} (hh : s.store.Holds (itemBlock j)) (k : Bool) :
    (State.countItem km s i).store.remaining j k = if i = j then
      (if s.counted km j = true ∧ k = km then lowerRemaining (s.store.remaining j k) 1 else s.store.remaining j k)
      else s.store.remaining j k := by
  cases hc : s.counted km i with
  | false =>
    rw [countItem_uncounted hc]
    split
    · next h => rw [← h, hc, if_neg (by simp)]
    · rfl
  | true =>
    cases hp : s.store.present (itemBlock i) with
    | false =>
      have hne : i ≠ j := by rintro rfl; rw [hh.1] at hp; cases hp
      have hdata : (State.countItem km s i).store.dataOf (itemBlock j) = s.store.dataOf (itemBlock j) := by
        rw [countItem_absent hc hp]
        cases hm : (s.modifyItem i (ServiceItem.pend km)).service.mark (itemBlock i) with
        | true => rw [fetchService_marked hm]; rfl
        | false =>
          rw [fetchService_unmarked hm]
          show (s.store.fetch (itemBlock i)).dataOf (itemBlock j) = _
          rcases fetch_of_absent hp with h | h <;> rw [h]
          exact dataOf_of_lines rfl _
      rw [if_neg hne]
      unfold Store.remaining
      rw [hdata]
    | true =>
      rw [countItem_present hc hp]
      unfold Store.remaining
      show signedWordAt ((s.store.update (itemBlock i) _).dataOf (itemBlock j)) _ = _
      by_cases hb : itemBlock j = itemBlock i
      · obtain ⟨hapart, hsame⟩ := remainingOffset_apart hb.symm km k
        rw [hb, dataOf_update_same _ hp, lowerField_reads (by rw [← hb]; exact hh.2) (remainingOffset_le i km) hapart]
        by_cases hij : i = j
        · subst hij
          by_cases hk : k = km
          · subst hk
            rw [if_pos rfl, if_pos rfl, if_pos ⟨hc, rfl⟩]
          · rw [if_neg (fun h => hk (hsame.mp h).2), if_pos rfl, if_neg fun h => hk h.2]
        · rw [if_neg (fun h => hij (hsame.mp h).1), if_neg hij]
      · have hij : i ≠ j := by rintro rfl; exact hb rfl
        rw [dataOf_update_ne _ hb, if_neg hij]

theorem countItem_marks {b : Nat} (hb : 3 ≤ b) (hi : i < 8) (hl : s.service.fetchMarks.length = 4) (h : s.service.mark b = true) :
    (State.countItem km s i).service.mark b = true := by
  have hbounds := itemBlock_bounds hi
  cases hc : s.counted km i with
  | false => rw [countItem_uncounted hc]; exact h
  | true =>
    cases hp : s.store.present (itemBlock i) with
    | true => rw [countItem_present hc hp]; exact h
    | false =>
      rw [countItem_absent hc hp]
      by_cases hbi : b = itemBlock i
      · subst hbi
        exact fetchService_mark (s := s.modifyItem i (ServiceItem.pend km)) hl hbounds.1 hbounds.2
      · rw [fetchService_mark_ne _ hbounds.1 hb hbi]
        exact h

theorem countItem_mark (hi : i < 8) (hl : s.service.fetchMarks.length = 4) (hc : s.counted km i = true)
    (hp : s.store.present (itemBlock i) = false) : (State.countItem km s i).service.mark (itemBlock i) = true := by
  have hbounds := itemBlock_bounds hi
  rw [countItem_absent hc hp]
  exact fetchService_mark (s := s.modifyItem i (ServiceItem.pend km)) hl hbounds.1 hbounds.2

end

/-! ### The countdown -/

/-- The items counted down, their states not yet formed. -/
def State.countItems (s : State) (km : Bool) : State := (List.range 8).foldl (State.countItem km) s

section
variable {s : State} {km : Bool}

theorem range8_lt : ∀ i ∈ List.range 8, i < 8 := fun _ h => List.mem_range.mp h

theorem countItems_on (s : State) (km : Bool) : s.CountsOn (s.countItems km) :=
  foldl_all (I := s.CountsOn) (fun _ _ h hi => h.trans (countItem_on hi)) _ range8_lt (.refl s)

theorem countItems_item {j : Nat} (hj : j < 8) (hl : s.service.items.length = 8) :
    (s.countItems km).item j = if s.counted km j = true ∧ s.store.present (itemBlock j) = false then (s.item j).pend km
      else s.item j := by
  have hfold := foldl_at (f := State.countItem km) (I := s.CountsOn) (g := fun u => u.item j) (j := j)
    (h := fun x => if s.counted km j = true ∧ s.store.present (itemBlock j) = false then x.pend km else x)
    (fun _ _ h hi => h.trans (countItem_on hi)) (fun u i h _ => by
      rw [countItem_item (by rw [h.items, hl]; exact hj), h.counted, h.present])
    (List.range 8) List.nodup_range range8_lt (.refl s)
  exact hfold.trans (if_pos (List.mem_range.mpr hj))

theorem countItems_remaining {j : Nat} (hj : j < 8) (hh : s.store.Holds (itemBlock j)) (k : Bool) :
    (s.countItems km).store.remaining j k =
      if s.counted km j = true ∧ k = km then lowerRemaining (s.store.remaining j k) 1 else s.store.remaining j k := by
  have hfold := foldl_at (f := State.countItem km) (I := s.CountsOn) (g := fun u => u.store.remaining j k) (j := j)
    (h := fun x => if s.counted km j = true ∧ k = km then lowerRemaining x 1 else x)
    (fun _ _ h hi => h.trans (countItem_on hi)) (fun u i h _ => by
      rw [countItem_remaining (h.holds _ hh), h.counted])
    (List.range 8) List.nodup_range range8_lt (.refl s)
  exact hfold.trans (if_pos (List.mem_range.mpr hj))

theorem countItems_mark {j : Nat} (hj : j < 8) (hl : s.service.fetchMarks.length = 4) (hc : s.counted km j = true)
    (hp : s.store.present (itemBlock j) = false) : (s.countItems km).service.mark (itemBlock j) = true :=
  foldl_reaches (f := State.countItem km) (I := s.CountsOn) (Q := fun u => u.service.mark (itemBlock j) = true)
    (fun _ _ h hi => h.trans (countItem_on hi))
    (fun _ _ h hi => countItem_marks (itemBlock_bounds hj).1 hi (h.marks.trans hl))
    (fun _ h => countItem_mark hj (h.marks.trans hl) ((h.counted km j).trans hc) ((h.present _).trans hp))
    (List.range 8) range8_lt (.refl s) (List.mem_range.mpr hj)

end

end Sys2Proof.Machine
end

section
/-! SUPPORT. The countdown as a whole: counts, pending counts, fetches, the items' states and their warnings (R154, R156). -/
namespace Sys2Proof.Machine
set_option Elab.async false

theorem formQuietly_marks (s : State) (is : List Nat) : (s.formQuietly is).service.fetchMarks = s.service.fetchMarks := by
  unfold State.formQuietly
  induction is generalizing s with
  | nil => rfl
  | cons i is ih => rw [List.foldl_cons, ih]; rfl

theorem formItems_mark (s : State) (is : List Nat) (b : Nat) : (s.formItems is).service.mark b = s.service.mark b := by
  unfold Service.mark
  rw [formItems_service, formQuietly_marks]

theorem countdown_eq (s : State) (km : Bool) : s.countdown km = (s.countItems km).formItems (List.range 8) := rfl

/-- What the countdown by a dimension makes of an item. -/
structure State.ItemCounted (s t : State) (km : Bool) (i : Nat) : Prop where
  absent : s.store.present (itemBlock i) = false → t.item i = if s.counted km i = true then (s.item i).pend km else s.item i
  asked : s.store.present (itemBlock i) = false → s.counted km i = true → t.service.mark (itemBlock i) = true
  remaining : s.store.Holds (itemBlock i) → ∀ k, t.store.remaining i k =
    if s.counted km i = true ∧ k = km then lowerRemaining (s.store.remaining i k) 1 else s.store.remaining i k
  formed : s.store.Holds (itemBlock i) → t.item i = { s.item i with
    state := if s.itemActive i then itemStateOf (s.itemFigures i) (t.store.remaining i true) (t.store.remaining i false)
      else (s.item i).state }

section
variable {s w t : State} {km : Bool}

theorem remaining_of_data {st u : Store} {i : Nat} (h : u.dataOf (itemBlock i) = st.dataOf (itemBlock i)) (k : Bool) :
    u.remaining i k = st.remaining i k := by
  unfold Store.remaining
  rw [h]

/-- The items of a state `w` like `s` counted down, and read in a state `t` that holds what the countdown gave. -/
theorem countdown_items (hkept : KeptBut [.counting, .trip, .store] s w) (hpresent : ∀ b, w.store.present b = s.store.present b)
    (hdata : ∀ b, ServiceBlock b → w.store.dataOf b = s.store.dataOf b) (hservice : t.service = (w.countdown km).service)
    (hread : ∀ b, ServiceBlock b → s.store.present b = true → t.store.dataOf b = (w.countItems km).store.dataOf b)
    (hitems : s.service.items.length = 8) (hmarks : s.service.fetchMarks.length = 4) {i : Nat} (hi : i < 8) :
    s.ItemCounted t km i := by
  have hon := countItems_on w km
  have hcal := hkept.cal
  have hservice' := hkept.service
  have hlength : w.service.items.length = 8 := by rw [hservice']; exact hitems
  have hcounted : w.counted km i = s.counted km i := by
    unfold State.counted
    rw [itemActive_of_cal hcal, itemFigures_of_cal hcal]
  have hwitem : w.item i = s.item i := item_of_items (by rw [hservice']) i
  have huitem := countItems_item (km := km) hi hlength
  have htitem : t.item i = (w.countItems km).formedItem i := by
    rw [item_of_items (congrArg Service.items hservice) i, countdown_eq, formItems_item _ (by rw [hon.items, hlength]; exact hi),
      if_pos (List.mem_range.mpr hi)]
  have hnew : (w.countItems km).newItemState i = if (w.countItems km).itemActive i && (w.countItems km).store.present (itemBlock i) then
      itemStateOf ((w.countItems km).itemFigures i) ((w.countItems km).store.remaining i true)
        ((w.countItems km).store.remaining i false) else ((w.countItems km).item i).state := rfl
  rw [hcounted, hpresent, hwitem] at huitem
  rw [hon.present, hpresent, itemActive_of_cal (hon.kept.cal.trans hcal), itemFigures_of_cal (hon.kept.cal.trans hcal)] at hnew
  refine ⟨fun hp => ?_, fun hp hc => ?_, fun hh k => ?_, fun hh => ?_⟩
  · rw [hp, Bool.and_false, if_neg Bool.false_ne_true] at hnew
    rw [htitem, State.formedItem, hnew, huitem]
    simp only [hp, and_true]
  · rw [show t.service.mark (itemBlock i) = (w.countItems km).service.mark (itemBlock i) by
      rw [hservice, countdown_eq, formItems_mark]]
    exact countItems_mark hi (by rw [hservice']; exact hmarks) (hcounted.trans hc) ((hpresent _).trans hp)
  · have hwh : w.store.Holds (itemBlock i) := ⟨(hpresent _).trans hh.1, by rw [hdata _ (itemBlock_bounds hi)]; exact hh.2⟩
    rw [remaining_of_data (hread _ (itemBlock_bounds hi) hh.1), countItems_remaining hi hwh, hcounted,
      remaining_of_data (hdata _ (itemBlock_bounds hi))]
  · have hread' := remaining_of_data (hread _ (itemBlock_bounds hi) hh.1)
    rw [hh.1, Bool.and_true] at hnew
    rw [hh.1, if_neg (by simp)] at huitem
    rw [htitem, State.formedItem, hnew, huitem, hread', hread']

theorem pend_state (km : Bool) (x : ServiceItem) : (x.pend km).state = x.state := by
  unfold ServiceItem.pend
  split <;> rfl

/-- The items' warnings that the countdown raises. -/
theorem countdown_raises (hkept : KeptBut [.counting, .trip, .store] s w) (hservice : t.service = (w.countdown km).service)
    (harbiter : t.arbiter = (w.countdown km).arbiter) (ha : s.ign.awake = true) (hitems : s.service.items.length = 8)
    (hl : s.arbiter.warnings.length = 32) : s.RaisesForItems t := by
  have hon := countItems_on w km
  have hall : KeptBut [.counting, .trip, .store, .service] s (w.countItems km) := hkept.andThen hon.kept
  have hlength : w.service.items.length = 8 := by rw [hkept.service]; exact hitems
  have hraised := formItems_raised (s := w.countItems km) (is := List.range 8) (by rw [hall.ign]; exact ha)
    (by rw [hall.arbiter]; exact hl) (hon.items.trans hlength) range8_lt
  have hstate : ∀ i < 8, ((w.countItems km).item i).state = (s.item i).state := fun i hi => by
    have hw : w.item i = s.item i := item_of_items (by rw [hkept.service]) i
    rw [countItems_item hi hlength, hw]
    split
    · exact pend_state _ _
    · rfl
  have hitem : ∀ i, t.item i = ((w.countItems km).formItems (List.range 8)).item i := item_of_items (congrArg Service.items hservice)
  refine raisesForItems_of fun v hv => ?_
  have hone := hraised v hv
  rw [warningFigures_of_cal hall.cal, warning_of_warnings (congrArg Arbiter.warnings hall.arbiter)] at hone
  rw [warning_of_warnings (congrArg Arbiter.warnings harbiter)]
  refine hone.congr (and_congr_right fun _ => exists_congr fun i => and_congr_right fun hi => ?_)
  rw [hstate i hi, hitem]

/-- The store that the countdown leaves to settle: each present block of the unit, or of the system, is guarded. -/
theorem guards_of_counts {st v : Store} (hreads : ∀ b, v.presentLine b = st.presentLine b)
    (hpinned : ∀ j, (v.line j).pinned = (st.line j).pinned)
    (hwaiting : ∀ n x, .fetch n x ∈ v.waiting → ServiceBlock n ∧ st.present n = false) (hsets : st.InSets)
    (hpin : ∀ b ≤ 2, st.isPinned b = true) {b : Nat} (hb : b ≤ 6) (hp : st.present b = true) :
    ∃ i, st.presentLine b = some i ∧ v.Guards b i (v.dataOf b) := by
  obtain ⟨i, hi⟩ := present_of_presentLine hp
  obtain ⟨hfind, -⟩ := presentLine_eq_some.mp hi
  have htag := (line_of_find hfind).1
  refine ⟨i, hi, (hreads b).trans hi, rfl, fun n x hn => ?_⟩
  obtain ⟨hservice, habsent⟩ := hwaiting n x hn
  have hne : n ≠ b := by rintro rfl; rw [hp] at habsent; cases habsent
  refine ⟨hne, fun hset => ?_⟩
  have hlt : i < 8 := by omega
  have hway := hsets i hlt b htag
  have hsystem : b ≤ 2 := by
    have := hservice.1
    have := hservice.2
    omega
  rw [hpinned, ← isPinned_of_find hfind]
  exact hpin b hsystem

end

end Sys2Proof.Machine
end

section
/-! SUPPORT. The two commands that count the service items down: the second at midnight, and the step that ends a kilometre.
Settles O60. -/
namespace Sys2Proof.Machine
set_option Elab.async false

/-! ### The rest of the 1 s timer's command updates the records' blocks alone -/

abbrev RecordBlock (b : Nat) : Prop := b ≤ 2

/-- The store moves by updates of the records' blocks. -/
abbrev OnRecords (s t : State) : Prop := s.store.Counts RecordBlock t.store

theorem OnRecords.of_store {s t : State} (h : t.store = s.store) : OnRecords s t := by
  show s.store.Counts RecordBlock t.store
  rw [h]
  exact .refl

theorem OnRecords.trans {s t u : State} (h : OnRecords s t) (k : OnRecords t u) : OnRecords s u := Store.Counts.trans h k

theorem update_onRecords (s : State) (r : TripRecord) (f : List Byte → List Byte) : OnRecords s (s.update r.block f) :=
  .update .refl (by cases r <;> decide) f

theorem addTime_onRecords (s : State) (r : TripRecord) (d : Nat) : OnRecords s (s.addTime r d) := by
  cases r
  · exact update_onRecords s .a _
  · exact update_onRecords s .b _
  · exact .refl

theorem setEconomy_onRecords (s : State) (r : TripRecord) (x : Result) : OnRecords s (s.setEconomy r x) := by
  cases r
  · exact update_onRecords s .a _
  · exact update_onRecords s .b _
  · exact .refl

theorem setAverage_onRecords (s : State) (r : TripRecord) (x : Result) : OnRecords s (s.setAverage r x) := by
  cases r
  · exact update_onRecords s .a _
  · exact update_onRecords s .b _
  · exact .refl

theorem onTrips_onRecords {f : State → TripRecord → State} (h : ∀ s r, OnRecords s (f s r)) (s : State) :
    OnRecords s (s.onTrips f) := ((h s .a).trans (h (f s .a) .b)).trans (h (f (f s .a) .b) .journey)

theorem tripSecond_onRecords (s : State) : OnRecords s s.tripSecond := by
  unfold State.tripSecond
  split
  · exact onTrips_onRecords (fun s r => addTime_onRecords s r 1) s
  · exact .refl

theorem passTarget_onRecords {s : State} {t : Target} {r : Option Request} {clear : State → State} (h : OnRecords s (clear s)) :
    OnRecords s (s.passTarget t r clear) := by
  unfold State.passTarget
  split
  · exact .refl
  · split
    · exact .of_store (issue_kept _ _).store
    · exact h

theorem passEconomy_onRecords (s : State) (r : TripRecord) (v : TripView) : OnRecords s (s.passEconomy r v) := by
  refine passTarget_onRecords ?_
  split
  · exact .refl
  · exact setEconomy_onRecords s r .none

theorem passRecord_onRecords (snap s : State) (r : TripRecord) : OnRecords s (snap.passRecord s r) := by
  rw [passRecord_eq]
  refine (passEconomy_onRecords s r _).trans (passTarget_onRecords ?_)
  split
  · exact .refl
  · exact setAverage_onRecords _ r .none

theorem passInst_onRecords (s : State) (r : Option Request) : OnRecords s (s.passInst r) := passTarget_onRecords .refl

theorem passRange_onRecords (s : State) (r : Option Request) : OnRecords s (s.passRange r) := passTarget_onRecords .refl

theorem passRecords_onRecords (s : State) : OnRecords s s.passRecords :=
  onTrips_onRecords (passRecord_onRecords s) (s.setCounting { s.counting with windowSteps := 0, windowFuel := 0 })

theorem passDue_onRecords (s : State) : OnRecords s s.passDue := by
  unfold State.passDue
  split
  · rw [tripPass_eq]
    exact ((passRecords_onRecords s).trans (passInst_onRecords _ _)).trans (passRange_onRecords _ _)
  · exact .refl

/-- The rest of the 1 s timer's command, after the clock. -/
def State.restOfSecond (s : State) : State := s.tripSecond.filterFuel.passDue.rearPageDue

theorem restOfSecond_onRecords (s : State) : OnRecords s s.restOfSecond :=
  ((tripSecond_onRecords s).trans (.of_store (filterFuel_kept _).store)).trans
    ((passDue_onRecords _).trans (.of_store (rearPageDue_kept _).store))

/-- What the rest of the second may change. -/
abbrev restBlocks : List Block := [.counting, .arith, .trip, .store, .line, .handler, .freeIndex]

theorem restOfSecond_kept (s : State) : KeptBut restBlocks s s.restOfSecond :=
  (((tripSecond_kept s).andThen (cs := restBlocks) (filterFuel_kept _)).andThen (bs := passBlocks) (cs := restBlocks)
    (KeptBut.ite (tripPass_kept _) (.refl _ _))).andThen (cs := restBlocks) (rearPageDue_kept _)

/-! ### The second at midnight -/

/-- What the store's progress leaves of the blocks that the countdown may have sent fetches beside. -/
theorem settled_reads {s v : State} {q : Nat → Prop} (hcounts : s.store.Counts q v.store) (hr : s.store.AtRest)
    (hsets : s.store.InSets) (hpin : ∀ b ≤ 2, s.store.isPinned b = true) :
    v.settleStore = v.setStore (v.store.settle settleFuel).1 ∧
      ∀ b ≤ 6, s.store.present b = true → v.settleStore.store.dataOf b = v.store.dataOf b ∧
        v.settleStore.store.presentLine b = s.store.presentLine b := by
  obtain ⟨-, -, hwaiting, htask⟩ := hr
  have hkept := hcounts.kept
  have hpassive : v.store.task.passive = true := by rw [hkept.task, htask]; rfl
  have hsettle := (settleStore_goesOn hpassive).1
  refine ⟨hsettle, fun b hb hp => ?_⟩
  obtain ⟨i, hi, hguards⟩ := guards_of_counts hkept.reads hkept.pinned (fun n x hn => by
    rcases hkept.waiting _ hn with hn | ⟨m, hm, habsent, hx⟩
    · rw [hwaiting] at hn; cases hn
    · cases hx; exact ⟨hm, habsent⟩) hsets hpin hb hp
  have hend := settle_guards settleFuel hpassive hguards
  rw [hsettle]
  exact ⟨hend.data, hend.line.trans hi.symm⟩

/-- What both commands make of the service unit. -/
structure State.CountedDown (s t : State) (km : Bool) : Prop where
  items : ∀ i < 8, s.ItemCounted t km i
  raises : s.arbiter.warnings.length = 32 → s.RaisesForItems t
  selected : t.service.selected = s.service.selected

theorem second_midnight {s : State} (h : s.counting.BeforeMidnight) : s.second.2 = true := by
  obtain ⟨hh, hm, hs⟩ := h
  unfold State.second Counting.second
  simp [hh, hm, hs]

/-- What a command that counts down may change. -/
abbrev countBlocks : List Block :=
  [.counting, .arith, .trip, .service, .store, .arbiter, .sound, .line, .handler, .keys, .freeIndex, .display]

/-- The state after the clock's second at midnight. -/
def State.dayCounted (s : State) : State := (s.setCounting s.second.1).countdown false

theorem exec_oneSecond_midnight {s : State} (hm : s.counting.BeforeMidnight) (ha : s.ign.awake = true) :
    exec .oneSecondTimer s = .next (State.present s s.dayCounted.restOfSecond.settleStore) := by
  have hclock : s.beforeFilter = s.dayCounted.tripSecond := by
    unfold State.beforeFilter State.dayCounted
    rw [clockSecond_eq, second_midnight hm, if_neg (by simp), if_pos ha]
  rw [exec_oneSecondTimer, hclock, State.restOfSecond]

theorem dayCounted_kept (s : State) : KeptBut countBlocks s s.dayCounted :=
  (setCounting_kept _ _).andThen (cs := countBlocks) (countdown_kept _ _)

theorem dayCounted_store (s : State) : s.dayCounted.store = ((s.setCounting s.second.1).countItems false).store :=
  (formItems_kept _ _).store

theorem dayRest_counts (s : State) : s.store.Counts (fun _ => True) s.dayCounted.restOfSecond.store := by
  refine Store.Counts.trans ?_ ((restOfSecond_onRecords s.dayCounted).mono fun _ _ => trivial)
  rw [dayCounted_store]
  exact (countItems_on (s.setCounting s.second.1) false).store.mono fun _ _ => trivial

/-- The end of the 1 s timer's command at midnight. -/
def State.dayEnd (s : State) : State := s.dayCounted.restOfSecond.settleStore

theorem dayEnd_kept (s : State) : KeptBut countBlocks s s.dayEnd :=
  ((dayCounted_kept s).andThen (cs := countBlocks) (restOfSecond_kept s.dayCounted)).andThen (cs := countBlocks)
    (settleStore_kept s.dayCounted.restOfSecond)

theorem dayEnd_units (s : State) : s.dayEnd.service = ((s.setCounting s.second.1).countdown false).service ∧
    s.dayEnd.arbiter = ((s.setCounting s.second.1).countdown false).arbiter := by
  rw [← State.dayCounted]
  have hrest := restOfSecond_kept s.dayCounted
  have hsettled := settleStore_kept s.dayCounted.restOfSecond
  exact ⟨hsettled.service.trans hrest.service, hsettled.arbiter.trans hrest.arbiter⟩

theorem dayEnd_reads {s : State} (hr : s.store.AtRest) (hsets : s.store.InSets) (hpin : ∀ b ≤ 2, s.store.isPinned b = true) {b : Nat}
    (hb : ServiceBlock b) (hp : s.store.present b = true) :
    s.dayEnd.store.dataOf b = ((s.setCounting s.second.1).countItems false).store.dataOf b := by
  obtain ⟨-, hreads⟩ := settled_reads (dayRest_counts s) hr hsets hpin
  obtain ⟨hlow, hhigh⟩ := hb
  have hsame := (restOfSecond_onRecords s.dayCounted).dataOf (c := b) (by show ¬b ≤ 2; omega)
  exact (hreads b hhigh hp).1.trans (hsame.trans (by rw [dayCounted_store]))

theorem dayEnd_countedDown {s : State} (hr : s.store.AtRest) (hsets : s.store.InSets) (hpin : ∀ b ≤ 2, s.store.isPinned b = true)
    (hitems : s.service.items.length = 8) (hmarks : s.service.fetchMarks.length = 4) (ha : s.ign.awake = true) :
    s.CountedDown (State.present s s.dayEnd) false := by
  have hstart : KeptBut [.counting, .trip, .store] s (s.setCounting s.second.1) := (setCounting_kept _ _).mono (by decide)
  have hservice := (State.present_service s s.dayEnd).trans (dayEnd_units s).1
  have harbiter := (State.present_arbiter s s.dayEnd).trans (dayEnd_units s).2
  refine ⟨fun i hi => ?_, fun hl => countdown_raises hstart hservice harbiter ha hitems hl, ?_⟩
  · refine countdown_items (w := s.setCounting s.second.1) hstart (fun _ => rfl) (fun _ _ => rfl) hservice (fun b hb hp => ?_)
      hitems hmarks hi
    rw [State.present_store]
    exact dayEnd_reads hr hsets hpin hb hp
  · rw [hservice, countdown_selected]
    rfl

theorem oneSecond_frame (s : State) : KeptBut countBlocks s (State.present s s.dayEnd) :=
  (present_frame_keys (dayEnd_kept s)).mono (by decide)

end Sys2Proof.Machine
end

section
/-! SUPPORT. The step that ends a kilometre. Settles O60. -/
namespace Sys2Proof.Machine
set_option Elab.async false

theorem tripView_of_data {s t : State} (ht : t.trip = s.trip) (h1 : t.store.dataOf 1 = s.store.dataOf 1)
    (h2 : t.store.dataOf 2 = s.store.dataOf 2) (r : TripRecord) : t.tripView r = s.tripView r := by
  unfold State.tripView
  cases r with
  | a => exact congrArg viewOfBlock h1
  | b => exact congrArg viewOfBlock h2
  | journey => simp only [ht]

/-! ### The step before the countdown -/

/-- The state of a step after the odometer. -/
def State.kmCounted (s : State) : State := if 9 ≤ s.counting.odometerSub then s.stepped.gainOdometer else s.stepped

/-- The state of a step after everything but the countdown. -/
def State.kmGained (s : State) : State := s.kmCounted.gainDistance

/-- What a step that ends a kilometre has done before the countdown. -/
structure State.KmGain (s w : State) : Prop where
  kept : KeptBut [.counting, .trip, .store] s w
  reads : ∀ b, w.store.presentLine b = s.store.presentLine b
  pinned : ∀ j, (w.store.line j).pinned = (s.store.line j).pinned
  data : ∀ b, 3 ≤ b → w.store.dataOf b = s.store.dataOf b
  latch : w.store.latch = true
  drive : w.store.pwrGood = s.store.pwrGood ∧ w.store.nvFault = s.store.nvFault
  idle : w.store.waiting = [] ∧ w.store.task = .none
  value : w.store.odometerValue = s.store.odometerValue +
    if 9 ≤ s.counting.odometerSub ∧ s.store.odometerValue < 9999999 then 1 else 0
  counting : w.counting = { s.stepped.counting with
    checkpoint := if 9 ≤ s.counting.odometerSub ∧ s.store.odometerValue < 9999999 then
      (if s.counting.checkpoint ≤ 1 then 100 else s.counting.checkpoint - 1) else s.counting.checkpoint }
  listed : 9 ≤ s.counting.odometerSub ∧ s.store.odometerValue < 9999999 → s.counting.checkpoint ≤ 1 →
    w.store.orders = [.single 0 false none] ∧ w.store.op = none
  dirty : 9 ≤ s.counting.odometerSub → s.store.NoneWriting → ∀ i, s.store.presentLine 0 = some i →
    (w.store.line i).state = .dirty

theorem gainOdometer_pinned (s : State) (j : Nat) : (s.gainOdometer.store.line j).pinned = (s.store.line j).pinned := by
  unfold State.gainOdometer
  split
  · exact line_update_pinned _ _ _ _
  · dsimp only
    split
    · exact (congrArg CacheLine.pinned (line_of_lines (place_lines (s.update 0 (putOdometer _)).store _).1 j)).trans
        (line_update_pinned _ _ _ _)
    · exact line_update_pinned _ _ _ _

section
variable {s : State}

theorem kmCounted_gain (hr : s.store.AtRest) (hp : s.store.SystemPresent) : s.KmGain s.kmCounted := by
  have hrest : s.stepped.store.AtRest := hr
  unfold State.kmCounted
  by_cases hsub : 9 ≤ s.counting.odometerSub
  · rw [if_pos hsub]
    have hgain := gainOdometer_spec (s := s.stepped) hp
    have hidle : s.stepped.gainOdometer.store.waiting = [] ∧ s.stepped.gainOdometer.store.task = .none := by
      by_cases hcheck : s.store.odometerValue < 9999999 ∧ s.counting.checkpoint ≤ 1
      · obtain ⟨-, -, hwaiting, htask⟩ := hgain.ordered hrest hcheck.1 hcheck.2
        exact ⟨hwaiting, htask⟩
      · obtain ⟨-, -, hwaiting, htask⟩ := hgain.idle hrest hcheck
        exact ⟨hwaiting, htask⟩
    refine ⟨((stepped_kept s).mono (by decide)).trans (hgain.kept.mono (by decide)), fun b => (hgain.reads b).trans rfl,
      fun j => (gainOdometer_pinned _ j).trans rfl, fun b hb => (hgain.others b (by omega)).trans rfl, hgain.latch,
      hgain.drive, hidle, ?_, ?_, fun hgains hcheck => ?_, fun _ hw i hi => hgain.dirty (noneWriting_line hw) i hi⟩
    · simp only [hsub, true_and]
      exact hgain.value
    · simp only [hsub, true_and]
      exact hgain.counting
    · obtain ⟨horders, hop, -⟩ := hgain.ordered hrest hgains.2 hcheck
      exact ⟨horders, hop⟩
  · rw [if_neg hsub]
    have hno : ¬(9 ≤ s.counting.odometerSub ∧ s.store.odometerValue < 9999999) := fun h => hsub h.1
    refine ⟨(stepped_kept s).mono (by decide), fun _ => rfl, fun _ => rfl, fun _ _ => rfl, rfl, ⟨rfl, rfl⟩, ⟨hr.2.2.1, hr.2.2.2⟩, ?_, ?_,
      fun h => absurd h hno, fun h => absurd h hsub⟩
    · rw [if_neg hno, Nat.add_zero]
      rfl
    · rw [if_neg hno]
      rfl

theorem kmCounted_present (hp : s.store.SystemPresent) : s.kmCounted.store.SystemPresent ∧
    ∀ r, s.kmCounted.tripView r = s.tripView r := by
  unfold State.kmCounted
  split
  · have hgain := gainOdometer_spec (s := s.stepped) hp
    exact ⟨hgain.present, tripView_of_data hgain.kept.trip (hgain.others 1 (by decide)) (hgain.others 2 (by decide))⟩
  · exact ⟨hp, fun r => by cases r <;> rfl⟩

theorem kmGained_gain (hr : s.store.AtRest) (hp : s.store.SystemPresent) : s.KmGain s.kmGained := by
  have h := kmCounted_gain hr hp
  obtain ⟨horders, hop, hwaiting, htask, hlatch, hpower, hfault⟩ := gainDistance_rest s.kmCounted
  have hdata : s.kmGained.store.dataOf 0 = s.kmCounted.store.dataOf 0 := (gainDistance_recordStep _).2.1
  exact
    { kept := h.kept.andThen (gainDistance_kept _)
      reads := fun b => (gainDistance_presentLine _ b).trans (h.reads b)
      pinned := fun j => ((line_update_pinned _ _ _ _).trans (line_update_pinned _ _ _ _)).trans (h.pinned j)
      data := fun b hb => ((dataOf_update_ne _ (show b ≠ 2 by omega)).trans (dataOf_update_ne _ (show b ≠ 1 by omega))).trans (h.data b hb)
      latch := hlatch.trans h.latch
      drive := ⟨hpower.trans h.drive.1, hfault.trans h.drive.2⟩
      idle := ⟨hwaiting.trans h.idle.1, htask.trans h.idle.2⟩
      value := (congrArg (tripleAt · 0) hdata).trans h.value
      counting := (gainDistance_kept _).counting.trans h.counting
      listed := fun hg hc => ⟨horders.trans (h.listed hg hc).1, hop.trans (h.listed hg hc).2⟩
      dirty := fun hsub hw i hi => gainDistance_dirty (h.dirty hsub hw i hi) }

theorem kmGained_views (hp : s.store.SystemPresent) (r : TripRecord) :
    s.kmGained.tripView r = { s.tripView r with distance := min 16777215 ((s.tripView r).distance + 1) } := by
  obtain ⟨hpresent, hviews⟩ := kmCounted_present hp
  unfold State.kmGained
  rw [tripView_gainDistance hpresent, hviews]

/-! ### The countdown after it, and the store's progress -/

/-- The end of the command of a step that ends a kilometre. -/
def State.kmEnd (s : State) : State := (s.kmGained.countdown true).settleStore

theorem exec_kmEnd {e : Nat} (h : s.AcceptsPulse e) (hdivider : s.cal.divisor ≤ s.counting.stepCount + 1)
    (hservice : 99 ≤ s.counting.serviceSub) : exec (.speedPulse e) s = .next (State.present s s.kmEnd) := by
  rw [exec_speedPulse_accepted h, acceptPulse_step hdivider, distanceStep_eq, if_pos hservice]
  rfl

theorem kmEnd_kept (hr : s.store.AtRest) (hp : s.store.SystemPresent) :
    KeptBut [.counting, .trip, .service, .store, .arbiter, .sound, .line, .handler] s s.kmEnd :=
  ((kmGained_gain hr hp).kept.andThen (cs := [.counting, .trip, .service, .store, .arbiter, .sound, .line, .handler])
    (countdown_kept s.kmGained true)).andThen (settleStore_kept _)

theorem kmEnd_units (s : State) :
    s.kmEnd.service = (s.kmGained.countdown true).service ∧ s.kmEnd.arbiter = (s.kmGained.countdown true).arbiter ∧
      s.kmEnd.counting = s.kmGained.counting ∧ s.kmEnd.trip = s.kmGained.trip := by
  have hsettled := settleStore_kept (s.kmGained.countdown true)
  have hdown := countdown_kept s.kmGained true
  exact ⟨hsettled.service, hsettled.arbiter, hsettled.counting.trans hdown.counting, hsettled.trip.trans hdown.trip⟩

/-- The store that is left to settle. -/
def State.kmStore (s : State) : Store := (s.kmGained.countItems true).store

theorem kmStore_kept (s : State) : s.kmGained.store.CountsKept s.kmStore := by
  unfold State.kmStore
  exact (countItems_on s.kmGained true).store.kept

theorem kmStore_system (s : State) {b : Nat} (hb : b ≤ 2) : s.kmStore.dataOf b = s.kmGained.store.dataOf b := by
  unfold State.kmStore
  exact (countItems_on s.kmGained true).store.dataOf fun h => by have := h.1; omega

theorem kmStore_countdown (s : State) : (s.kmGained.countdown true).store = s.kmStore := by
  rw [State.kmStore, countdown_eq]
  exact (formItems_kept _ _).store

theorem kmEnd_store (hr : s.store.AtRest) (hp : s.store.SystemPresent) :
    s.kmStore.task.passive = true ∧ s.kmEnd.store = (s.kmStore.settle settleFuel).1 := by
  have hstore := kmStore_countdown s
  have hpassive : s.kmStore.task.passive = true := by
    rw [(kmStore_kept s).task, (kmGained_gain hr hp).idle.2]
    rfl
  have hsettle := (settleStore_goesOn (s := s.kmGained.countdown true) (by rw [hstore]; exact hpassive)).1
  rw [hstore] at hsettle
  exact ⟨hpassive, (congrArg State.store hsettle).trans (State.setStore_store _ _)⟩

theorem kmStore_guards (hr : s.store.AtRest) (hp : s.store.SystemPresent) (hsets : s.store.InSets)
    (hpin : ∀ b ≤ 2, s.store.isPinned b = true) {b : Nat} (hb : b ≤ 6) (hpresent : s.store.present b = true) :
    ∃ i, s.store.presentLine b = some i ∧ s.kmStore.Guards b i (s.kmStore.dataOf b) := by
  have hgain := kmGained_gain hr hp
  have hkept := kmStore_kept s
  refine guards_of_counts (fun c => (hkept.reads c).trans (hgain.reads c)) (fun j => (hkept.pinned j).trans (hgain.pinned j))
    (fun n x hn => ?_) hsets hpin hb hpresent
  rcases hkept.waiting _ hn with hn | ⟨m, hm, habsent, hx⟩
  · rw [hgain.idle.1] at hn; cases hn
  · cases hx
    refine ⟨hm, ?_⟩
    rw [← habsent]
    unfold Store.present
    rw [hgain.reads]

theorem kmEnd_reads (hr : s.store.AtRest) (hp : s.store.SystemPresent) (hsets : s.store.InSets)
    (hpin : ∀ b ≤ 2, s.store.isPinned b = true) {b : Nat} (hb : b ≤ 6) (hpresent : s.store.present b = true) :
    s.kmEnd.store.dataOf b = s.kmStore.dataOf b := by
  obtain ⟨hpassive, hstore⟩ := kmEnd_store hr hp
  obtain ⟨i, -, hguards⟩ := kmStore_guards hr hp hsets hpin hb hpresent
  rw [hstore]
  exact (settle_guards settleFuel hpassive hguards).data

theorem kmEnd_system (hr : s.store.AtRest) (hp : s.store.SystemPresent) (hsets : s.store.InSets)
    (hpin : ∀ b ≤ 2, s.store.isPinned b = true) {b : Nat} (hb : b ≤ 2) (hpresent : s.store.present b = true) :
    s.kmEnd.store.dataOf b = s.kmGained.store.dataOf b := by
  rw [kmEnd_reads hr hp hsets hpin (by omega) hpresent]
  exact kmStore_system s hb

theorem kmEnd_countedDown (hr : s.store.AtRest) (hp : s.store.SystemPresent) (hsets : s.store.InSets)
    (hpin : ∀ b ≤ 2, s.store.isPinned b = true) (hitems : s.service.items.length = 8) (hmarks : s.service.fetchMarks.length = 4)
    (ha : s.ign.awake = true) : s.CountedDown (State.present s s.kmEnd) true := by
  have hgain := kmGained_gain hr hp
  obtain ⟨hunits, harbiter, -⟩ := kmEnd_units s
  have hservice := (State.present_service s s.kmEnd).trans hunits
  refine ⟨fun i hi => ?_, fun hl => countdown_raises hgain.kept hservice ((State.present_arbiter _ _).trans harbiter) ha hitems hl, ?_⟩
  · refine countdown_items hgain.kept (fun b => ?_) (fun b hb => hgain.data b hb.1) hservice (fun b hb hpresent => ?_) hitems hmarks hi
    · unfold Store.present
      rw [hgain.reads]
    · rw [State.present_store]
      exact kmEnd_reads hr hp hsets hpin hb.2 hpresent
  · rw [hservice, countdown_selected, hgain.kept.service]

/-! ### The checkpoint's write -/

theorem kmStore_checkpoints (hr : s.store.AtRest) (hp : s.store.SystemPresent) (hsets : s.store.InSets)
    (hpin : ∀ b ≤ 2, s.store.isPinned b = true) (hg : 9 ≤ s.counting.odometerSub ∧ s.store.odometerValue < 9999999)
    (hc : s.counting.checkpoint ≤ 1) (hw : s.store.NoneWriting) (hf : s.store.nvFault = false) :
    ∃ i, s.kmStore.Checkpoints i (s.kmStore.dataOf 0) ∧ s.kmStore.orders = [.single 0 false none] ∧ s.kmStore.op = none := by
  have hgain := kmGained_gain hr hp
  have hkept := kmStore_kept s
  obtain ⟨horders, hop⟩ := hgain.listed hg hc
  obtain ⟨i, hi, hguards⟩ := kmStore_guards hr hp hsets hpin (Nat.zero_le 6) hp.1.1
  have horders' := hkept.orders.trans horders
  exact ⟨i, ⟨hguards, by rw [horders']; exact List.mem_cons_self, hkept.fault.trans (hgain.drive.2.trans hf),
    fun _ => hkept.dirty i (hgain.dirty hg.1 hw i hi)⟩, horders', hkept.op.trans hop⟩

theorem kmStore_waiting (hr : s.store.AtRest) (hp : s.store.SystemPresent) (hall : ∀ b, 3 ≤ b → b ≤ 6 → s.store.present b = true) :
    s.kmStore.waiting = [] := by
  have hgain := kmGained_gain hr hp
  have hkept := kmStore_kept s
  refine List.eq_nil_iff_forall_not_mem.mpr fun w hw => ?_
  rcases hkept.waiting w hw with hw | ⟨b, hb, habsent, -⟩
  · rw [hgain.idle.1] at hw; cases hw
  · have hpresent := hall b hb.1 hb.2
    unfold Store.present at habsent hpresent
    rw [hgain.reads, hpresent] at habsent
    cases habsent

theorem kmEnd_checkpoint (hr : s.store.AtRest) (hp : s.store.SystemPresent) (hsets : s.store.InSets)
    (hpin : ∀ b ≤ 2, s.store.isPinned b = true) (hg : 9 ≤ s.counting.odometerSub ∧ s.store.odometerValue < 9999999)
    (hc : s.counting.checkpoint ≤ 1) (hw : s.store.NoneWriting) (hf : s.store.nvFault = false) :
    .single 0 false none ∈ s.kmEnd.store.orders ∧
      (s.store.pwrGood = true → (∀ b, 3 ≤ b → b ≤ 6 → s.store.present b = true) → ∃ i,
        s.kmEnd.store.op = some (.write i (s.kmEnd.store.dataOf 0) .single 4) ∧ (s.kmEnd.store.line i).tag = some 0 ∧
        (s.kmEnd.store.line i).state = .writing) := by
  obtain ⟨hpassive, hstore⟩ := kmEnd_store hr hp
  obtain ⟨i, hcheck, horders, hop⟩ := kmStore_checkpoints hr hp hsets hpin hg hc hw hf
  rw [hstore]
  refine ⟨(settle_checkpoints settleFuel hpassive hcheck).listed, fun hpower hall => ?_⟩
  have hgain := kmGained_gain hr hp
  have hkept := kmStore_kept s
  obtain ⟨u, hsettle, -, hwrite⟩ := settle_checkpoint horders hop (kmStore_waiting hr hp hall)
    (hkept.task.trans hgain.idle.2) hcheck.guards.line (hcheck.dirty hop)
  have hu := hwrite (hkept.power.trans (hgain.drive.1.trans hpower)) hcheck.fault
  rw [hsettle, hu]
  obtain ⟨htag, hstate, hwriting⟩ := startWrite_writing hcheck.guards.line .single
  exact ⟨i, hwriting, htag, hstate⟩

theorem kmEnd_latch (hr : s.store.AtRest) (hp : s.store.SystemPresent) : s.kmEnd.store.latch = true := by
  obtain ⟨hpassive, hstore⟩ := kmEnd_store hr hp
  rw [hstore, (settle_goesOn settleFuel hpassive).2.latch]
  exact (kmStore_kept s).latch.trans (kmGained_gain hr hp).latch

end

end Sys2Proof.Machine
end

section
/-! SUPPORT. The items after "1 day" and "1 km", in the requirement's terms. Settles O60. -/
namespace Sys2Proof.Machine
set_option Elab.async false

theorem counted_iff (s : State) (km : Bool) (i : Nat) : s.counted km i = true ↔
    s.itemActive i = true ∧ (if km then (s.itemFigures i).distanceInterval else (s.itemFigures i).dayInterval) ≠ 0 := by
  unfold State.counted ItemFigures.inUse ItemFigures.kmInUse ItemFigures.daysInUse
  cases km <;> simp

theorem lowerRemaining_one (r : Int) : lowerRemaining r 1 = if -32000 < r then r - 1 else r := by
  unfold lowerRemaining
  split <;> split <;> omega

section
variable {s t : State} {km : Bool} {i : Nat}

theorem itemCounted_absent (h : s.ItemCounted t km i) (hp : s.store.present (itemBlock i) = false) :
    (t.item i).state = (s.item i).state ∧
      (t.item i).pendingKm =
        (if km = true ∧ s.counted km i = true then min 255 ((s.item i).pendingKm + 1) else (s.item i).pendingKm) ∧
      (t.item i).pendingDays =
        (if km = false ∧ s.counted km i = true then min 255 ((s.item i).pendingDays + 1) else (s.item i).pendingDays) := by
  rw [h.absent hp]
  cases s.counted km i with
  | false => simp
  | true => cases km <;> simp [ServiceItem.pend, satAdd]

theorem itemCounted_remaining (h : s.ItemCounted t km i) (hh : s.store.Holds (itemBlock i)) (k : Bool) :
    t.store.remaining i k = if km = k ∧ s.counted km i = true ∧ -32000 < s.store.remaining i k then s.store.remaining i k - 1
      else s.store.remaining i k := by
  rw [h.remaining hh, lowerRemaining_one]
  by_cases hk : km = k
  · subst hk
    by_cases hc : s.counted km i = true <;> simp [hc]
  · rw [if_neg fun x => hk x.2.symm, if_neg fun x => hk x.1]

/-- The requirement's words for one item, `p` for the item being counted down. -/
theorem itemCounted_words {p : Prop} [Decidable p] (h : s.ItemCounted t km i) (hc : p ↔ s.counted km i = true) :
    (s.store.present (itemBlock i) = false →
      (t.item i).state = (s.item i).state ∧
      (t.item i).pendingKm = (if km = true ∧ p then min 255 ((s.item i).pendingKm + 1) else (s.item i).pendingKm) ∧
      (t.item i).pendingDays = (if km = false ∧ p then min 255 ((s.item i).pendingDays + 1) else (s.item i).pendingDays) ∧
      (p → t.service.mark (itemBlock i) = true)) ∧
    (s.store.Holds (itemBlock i) →
      (t.item i).pendingKm = (s.item i).pendingKm ∧ (t.item i).pendingDays = (s.item i).pendingDays ∧
      t.store.remainingKm i = (if km = true ∧ p ∧ -32000 < s.store.remainingKm i then s.store.remainingKm i - 1
        else s.store.remainingKm i) ∧
      t.store.remainingDays i = (if km = false ∧ p ∧ -32000 < s.store.remainingDays i then s.store.remainingDays i - 1
        else s.store.remainingDays i) ∧
      (t.item i).state = if s.itemActive i then itemStateOf (s.itemFigures i) (t.store.remainingKm i) (t.store.remainingDays i)
        else (s.item i).state) := by
  simp only [hc]
  refine ⟨fun hp => ?_, fun hh => ?_⟩
  · obtain ⟨hstate, hkm, hdays⟩ := itemCounted_absent h hp
    exact ⟨hstate, hkm, hdays, h.asked hp⟩
  · exact ⟨by rw [h.formed hh], by rw [h.formed hh], itemCounted_remaining h hh true, itemCounted_remaining h hh false,
      by rw [h.formed hh]; rfl⟩

end

/-! ### The step's counts -/

section
variable {s : State}

theorem kmEnd_counting (hr : s.store.AtRest) (hp : s.store.SystemPresent) (hservice : 99 ≤ s.counting.serviceSub) :
    s.kmEnd.counting = { s.counting with
      sinceAccepted := some 0, openCount := min 65535 (s.counting.openCount + 1), stepCount := 0
      odometerSub := if 9 ≤ s.counting.odometerSub then 0 else s.counting.odometerSub + 1, serviceSub := 0
      checkpoint := if 9 ≤ s.counting.odometerSub ∧ s.store.odometerValue < 9999999 then
        (if s.counting.checkpoint - 1 = 0 then 100 else s.counting.checkpoint - 1) else s.counting.checkpoint
      turnDistance := if s.counting.turnActive then min 65535 (s.counting.turnDistance + 1) else s.counting.turnDistance
      windowSteps := min 65535 (s.counting.windowSteps + 1), stepTally := (s.counting.stepTally + 1) % 65536 } := by
  have hsub : (if 99 ≤ s.counting.serviceSub then 0 else s.counting.serviceSub + 1) = 0 := if_pos hservice
  have hcheck : (s.counting.checkpoint - 1 = 0) = (s.counting.checkpoint ≤ 1) := propext (by omega)
  rw [(kmEnd_units s).2.2.1, (kmGained_gain hr hp).counting]
  simp only [hcheck]
  show ({ Counting.step s.counting.stepping with checkpoint := _ } : Counting) = _
  unfold Counting.step Counting.stepping Counting.pulsed
  simp only [hsub]
  rfl

theorem kmEnd_values (hr : s.store.AtRest) (hp : s.store.SystemPresent) (hsets : s.store.InSets)
    (hpin : ∀ b ≤ 2, s.store.isPinned b = true) :
    (∀ r, s.kmEnd.tripView r = { s.tripView r with distance := min 16777215 ((s.tripView r).distance + 1) }) ∧
      s.kmEnd.store.odometerValue = s.store.odometerValue +
        if 9 ≤ s.counting.odometerSub ∧ s.store.odometerValue < 9999999 then 1 else 0 := by
  refine ⟨fun r => ?_, ?_⟩
  · rw [tripView_of_data (kmEnd_units s).2.2.2 (kmEnd_system hr hp hsets hpin (by decide) hp.2.1.1)
      (kmEnd_system hr hp hsets hpin (by decide) hp.2.2.1), kmGained_views hp]
  · rw [odometerValue_of_data (kmEnd_system hr hp hsets hpin (by decide) hp.1.1)]
    exact (kmGained_gain hr hp).value

theorem counts_awake {i : Ign} (h : i.counts = true) : i.awake = true := by
  revert h
  cases i <;> decide

end

/-- Settles O60: "1 day" is the clock's second at midnight, "1 km" the step's last part; the store's progress leaves every
block that a fetch cannot displace. -/
theorem countdownLowersItems : Obligations.CountdownLowersItems := by
  intro s km c hr hp hpin hsets hitems hmarks hday hkm
  cases km with
  | false =>
    obtain ⟨rfl, hm, ha⟩ := hday rfl
    have hdown := dayEnd_countedDown hr hsets hpin hitems hmarks ha
    refine ⟨_, exec_oneSecond_midnight hm ha, oneSecond_frame s, nofun, fun i hi => ?_, hdown.raises, hdown.selected⟩
    intro f counts
    exact itemCounted_words (p := counts) (hdown.items i hi) (counted_iff s false i).symm
  | true =>
    obtain ⟨hservice, hdivider, e, rfl, haccept⟩ := hkm rfl
    have hdown := kmEnd_countedDown hr hp hsets hpin hitems hmarks (counts_awake haccept.1)
    have hkept := kmEnd_kept hr hp
    obtain ⟨hviews, hvalue⟩ := kmEnd_values hr hp hsets hpin
    refine ⟨_, exec_kmEnd haccept hdivider hservice, (present_frame_keys hkept).mono (by decide), fun _ => ?_, fun i hi => ?_,
      hdown.raises, hdown.selected⟩
    · refine ⟨(State.present_arith _ _).trans hkept.arith, (State.present_freeIndex _ _).trans hkept.freeIndex, ?_, fun r => ?_, ?_⟩
      · rw [State.present_store]
        exact kmEnd_latch hr hp
      · rw [tripView_congr (State.present_trip _ _) (State.present_store _ _), hviews]
      · intro gains left
        rw [State.present_store, State.present_counting]
        refine ⟨hvalue, kmEnd_counting hr hp hservice, fun hg hleft hw hf => ?_⟩
        exact kmEnd_checkpoint hr hp hsets hpin hg (by omega) hw hf
    · intro f counts
      exact itemCounted_words (p := counts) (hdown.items i hi) (counted_iff s true i).symm

end Sys2Proof.Machine
end

section
/-! SUPPORT. The end of a block read: the line filled, and what the workshop's request in progress gets. For O50. -/
namespace Sys2Proof.Machine
set_option Elab.async false

/-! ### The line filled -/

theorem block_take (m : NvMemory) (b : Nat) : (m.block b).take 15 = (List.range 15).map fun j => m.read (16 * b + j) := by
  unfold NvMemory.block
  rw [← List.map_take]
  rfl

theorem checkGood_iff (m : NvMemory) (b : Nat) :
    checkGood (m.block b) = true ↔ byteSum ((List.range 16).map fun j => m.read (16 * b + j)) = 0 := by
  unfold checkGood NvMemory.block
  exact beq_iff_eq

theorem block_take_length (m : NvMemory) (b : Nat) : ((m.block b).take 15).length = 15 := by
  simp [NvMemory.block]

def CacheLine.filledWith (data : List Byte) (pin : Bool) (l : CacheLine) : CacheLine :=
  { l with state := .clean, data := data, redirty := false, pinned := l.pinned || pin }

theorem find_modifyLine_at {st : Store} {i : Nat} {f : CacheLine → CacheLine} (ht : (f (st.line i)).tag = (st.line i).tag)
    (hv : ((f (st.line i)).state == .invalid) = ((st.line i).state == .invalid)) (c : Nat) :
    (st.modifyLine i f).find c = st.find c := by
  refine findIdx?_modify_at _ _ _ _ fun a ha => ?_
  have hline : a = st.line i := by simp [Store.line, List.getD_eq_getElem?_getD, ha]
  subst hline
  simp only [CacheLine.holds, ht, bne, hv]

/-- The store once the fill's data is in its line. -/
def Store.filled (st : Store) (b i : Nat) (pin : Bool) : Store :=
  (({ st with orders := [], op := none } : Store).modifyLine i (CacheLine.filledWith ((st.nv.block b).take 15) pin)).touch i

section
variable {st : Store} {b i : Nat}

theorem endFill_eq (ho : st.orders = [.fill b]) (hi : st.find b = some i) (pin : Bool) : st.endFill b pin = st.filled b i pin := by
  have hend : st.endKind Order.isFill = { st with orders := [] } := by
    unfold Store.endKind Store.endOrder
    rw [ho]
    rfl
  unfold Store.endFill
  rw [hend]
  dsimp only
  rw [show ({ st with orders := [], op := none } : Store).find b = some i from hi]
  rfl

theorem filled_rest (pin : Bool) : (st.filled b i pin).orders = [] ∧ (st.filled b i pin).op = none ∧
    (st.filled b i pin).waiting = st.waiting ∧ (st.filled b i pin).task = st.task ∧ (st.filled b i pin).nv = st.nv ∧
    (st.filled b i pin).latch = st.latch := ⟨rfl, rfl, rfl, rfl, rfl, rfl⟩

theorem line_touch_other (st : Store) {i j : Nat} (h : j ≠ i) (h' : j ≠ otherWay i) : (st.touch i).line j = st.line j := by
  unfold Store.touch Store.line Store.modifyLine
  simp [List.getD_eq_getElem?_getD, Ne.symm h, Ne.symm h']

theorem line_touch_self (st : Store) {i : Nat} (h : i < st.lines.length) : (st.touch i).line i = { st.line i with recent := true } := by
  have hne := otherWay_ne i
  unfold Store.touch Store.line Store.modifyLine
  simp [List.getD_eq_getElem?_getD, hne, h]

theorem filled_line (hi : i < st.lines.length) (pin : Bool) :
    (st.filled b i pin).line i = { st.line i with
      state := .clean, data := (st.nv.block b).take 15, redirty := false, pinned := (st.line i).pinned || pin, recent := true } := by
  unfold Store.filled
  rw [line_touch_self _ (by show i < (st.lines.modify i _).length; rw [List.length_modify]; exact hi),
    modifyLine_line _ _ _ _ (by exact hi), if_pos rfl]
  rfl

theorem filled_other (pin : Bool) {j : Nat} (h : j ≠ i) (h' : j ≠ otherWay i) : (st.filled b i pin).line j = st.line j := by
  unfold Store.filled
  rw [line_touch_other _ h h']
  unfold Store.line Store.modifyLine
  simp [List.getD_eq_getElem?_getD, Ne.symm h]

end

/-! ### The request in progress that waited for the block -/

/-- What stands when the request in progress is answered with the store `u`. -/
theorem answered_of {s : State} {u : Store} {st : Status} {result : List Byte} {x : State} (ho : s.line.Open 0x70)
    (h : x = (s.setStore u).returnStatus st result) :
    KeptBut [.store, .line, .handler, .display] s (State.present s x) ∧ (State.present s x).store = u ∧
      (State.present s x).handler = { s.handler with state := .replying } ∧
      (State.present s x).line = s.line.enter 0x70 3 .reply ([byteOf s.handler.topic, byteOf st.code] ++ result) .own := by
  subst h
  have hreply := returnStatus_kept (s.setStore u) st result
  have hk : KeptBut [.store, .line, .handler] s ((s.setStore u).returnStatus st result) := (setStore_kept _ u).andThen hreply
  refine ⟨present_frame hk, (State.present_store _ _).trans hreply.store, ?_, ?_⟩
  · rw [State.present_handler, returnStatus_open (s := s.setStore u) ho]
    rfl
  · rw [State.present_line, returnStatus_open (s := s.setStore u) ho]
    rfl

/-- The block's fill has come to its end. -/
structure State.FillEnds (s : State) (b i : Nat) : Prop where
  awake : s.ign ≠ .load
  waiting : s.store.waiting = []
  op : s.store.op = some (.readFill b)
  orders : s.store.orders = [.fill b]
  find : s.store.find b = some i
  filling : (s.store.line i).state = .filling

section
variable {s : State} {b i : Nat}

theorem exec_readFill (h : s.FillEnds b i) : exec .blockReadEnd s = .next (State.present s (s.fillEnd b)) := by
  have hread : s.readEnd = s.fillEnd b := by
    unfold State.readEnd
    rw [h.op]
  show Host.Outcome.next (State.present s s.readEnd) = _
  rw [hread]

theorem fillEnd_user (h : s.FillEnds b i) (hb : serviceBlock b = false) :
    s.fillEnd b = ((s.fillTaken b).taskApplied b).settleStore := by
  rw [fillEnd_eq, if_neg h.awake, hb, if_neg (by decide)]

theorem fillTaken_eq (h : s.FillEnds b i) : s.fillTaken b =
    (s.setStore (s.store.filled b i (s.pinAtFill b))).taskFilled b ((s.store.nv.block b).take 15)
      (!checkGood (s.store.nv.block b)) := by
  unfold State.fillTaken
  rw [endFill_eq h.orders h.find]

theorem pinAtFill_eq (h : s.FillEnds b i) : s.pinAtFill b = (s.store.task == .fetch b true) := by
  unfold State.pinAtFill
  rw [show (s.ign == .load) = false from beq_eq_false_iff_ne.mpr h.awake]
  rfl

/-- The store with the line filled and no request in progress. -/
def Store.filledFor (st : Store) (b i : Nat) (pin : Bool) : Store := { st.filled b i pin with task := .none }

theorem filledFor_atRest (h : s.FillEnds b i) (pin : Bool) : (s.store.filledFor b i pin).AtRest := ⟨rfl, rfl, h.waiting, rfl⟩

theorem filledFor_update_atRest (h : s.FillEnds b i) (pin : Bool) (f : List Byte → List Byte) :
    ((s.store.filledFor b i pin).update b f).AtRest := atRest_update (filledFor_atRest h pin) b f

theorem answer_settled {u : Store} (hu : u.AtRest) (x : Status) (result : List Byte) :
    ((s.setStore u).returnStatus x result).settleStore = (s.setStore u).returnStatus x result := by
  refine settleStore_settled ?_
  rw [(returnStatus_kept _ _ _).store]
  exact settled_atRest hu

theorem taskApplied_none {x : State} (h : x.store.task = .none) : x.taskApplied b = x := by
  unfold State.taskApplied
  rw [h]

theorem fillEnd_unasked (h : s.FillEnds b i) (hb : serviceBlock b = false) (ht : s.store.task = .none) :
    s.fillEnd b = s.setStore (s.store.filled b i false) := by
  have hpin : s.pinAtFill b = false := by rw [pinAtFill_eq h, ht]; rfl
  have htaken : s.fillTaken b = s.setStore (s.store.filled b i false) := by
    rw [fillTaken_eq h, hpin]
    unfold State.taskFilled
    rw [show (s.setStore (s.store.filled b i false)).store.task = .none from ht]
  rw [fillEnd_user h hb, htaken, taskApplied_none (x := s.setStore (s.store.filled b i false)) ht]
  exact settleStore_settled (settled_atRest ⟨rfl, rfl, h.waiting, ht⟩)

theorem fillEnd_fetched (h : s.FillEnds b i) (hb : serviceBlock b = false) {pin : Bool} (ht : s.store.task = .fetch b pin) :
    s.fillEnd b = (s.setStore (s.store.filledFor b i pin)).returnStatus .done [] := by
  have hpin : s.pinAtFill b = pin := by rw [pinAtFill_eq h, ht]; cases pin <;> simp
  have htaken : s.fillTaken b = (s.setStore (s.store.filledFor b i pin)).returnStatus .done [] := by
    rw [fillTaken_eq h, hpin]
    unfold State.taskFilled
    rw [show (s.setStore (s.store.filled b i pin)).store.task = .fetch b pin from ht]
    exact if_pos rfl
  rw [fillEnd_user h hb, htaken, taskApplied_none (by rw [(returnStatus_kept _ _ _).store]; rfl)]
  exact answer_settled (filledFor_atRest h pin) _ _

theorem fillEnd_read (h : s.FillEnds b i) (hb : serviceBlock b = false) {o : Nat} (ht : s.store.task = .read b o) :
    s.fillEnd b = (s.setStore (s.store.filledFor b i false)).returnStatus .done
      (readResult ((s.store.nv.block b).take 15) o (if !checkGood (s.store.nv.block b) then 2 else 1)) := by
  have hpin : s.pinAtFill b = false := by rw [pinAtFill_eq h, ht]; rfl
  have htaken : s.fillTaken b = (s.setStore (s.store.filledFor b i false)).returnStatus .done
      (readResult ((s.store.nv.block b).take 15) o (if !checkGood (s.store.nv.block b) then 2 else 1)) := by
    rw [fillTaken_eq h, hpin]
    unfold State.taskFilled
    rw [show (s.setStore (s.store.filled b i false)).store.task = .read b o from ht]
    exact if_pos rfl
  rw [fillEnd_user h hb, htaken, taskApplied_none (by rw [(returnStatus_kept _ _ _).store]; rfl)]
  exact answer_settled (filledFor_atRest h false) _ _

theorem fillEnd_written (h : s.FillEnds b i) (hb : serviceBlock b = false) {o : Nat} {data : List Byte}
    (ht : s.store.task = .write b o data) (hw : s.store.writeRefused b = false) :
    s.fillEnd b = (s.setStore ((s.store.filledFor b i false).update b fun bs => splice bs o data)).returnStatus .done [] := by
  have hpin : s.pinAtFill b = false := by rw [pinAtFill_eq h, ht]; rfl
  have htaken : s.fillTaken b = s.setStore (s.store.filled b i false) := by
    rw [fillTaken_eq h, hpin]
    unfold State.taskFilled
    rw [show (s.setStore (s.store.filled b i false)).store.task = .write b o data from ht]
  have happlied : (s.setStore (s.store.filled b i false)).taskApplied b =
      (s.setStore ((s.store.filledFor b i false).update b fun bs => splice bs o data)).returnStatus .done [] := by
    unfold State.taskApplied
    rw [show (s.setStore (s.store.filled b i false)).store.task = .write b o data from ht]
    dsimp only
    rw [if_pos rfl]
    unfold State.applyWrite
    rw [if_neg (by rw [show (s.setStore (s.store.filled b i false)).store.writeRefused b = false from hw]; decide), hb]
    rfl
  rw [fillEnd_user h hb, htaken, happlied]
  exact answer_settled (filledFor_update_atRest h false _) _ _

/-! ### The answers -/

theorem line_lt (h : s.FillEnds b i) : i < s.store.lines.length := line_lt_of_find h.find

/-- What the end of a fill leaves besides the line. -/
theorem filled_frame (h : s.FillEnds b i) (pin : Bool) {u : Store} (hu : u = s.store.filledFor b i pin) :
    u.orders = [] ∧ u.op = none ∧ u.task = .none ∧ u.nv = s.store.nv ∧
      (∀ j, j ≠ i → j ≠ otherWay i → u.line j = s.store.line j) ∧
      u.line i = { s.store.line i with
        state := .clean, data := (List.range 15).map fun j => s.store.nv.read (16 * b + j), redirty := false
        pinned := (s.store.line i).pinned || pin, recent := true } := by
  subst hu
  refine ⟨rfl, rfl, rfl, rfl, fun j h1 h2 => filled_other pin h1 h2, ?_⟩
  rw [← block_take]
  exact filled_line (line_lt h) pin

theorem filled_presentLine (h : s.FillEnds b i) (pin : Bool) : (s.store.filledFor b i pin).presentLine b = some i := by
  have hline := filled_line (b := b) (line_lt h) pin
  refine presentLine_eq_some.mpr ⟨?_, ?_⟩
  · show (s.store.filled b i pin).find b = some i
    unfold Store.filled
    rw [find_touch, find_modifyLine_at (st := { s.store with orders := [], op := none }) rfl]
    · exact h.find
    · show ((LineState.clean : LineState) == .invalid) = ((s.store.line i).state == .invalid)
      rw [h.filling]
      rfl
  · show ((s.store.filled b i pin).line i).state.isPresent = true
    rw [hline]
    rfl

/-- The fill's line once the bytes of a waiting write are in it. -/
theorem filled_written (h : s.FillEnds b i) (f : List Byte → List Byte) :
    ((s.store.filledFor b i false).update b f).line i = { (s.store.filledFor b i false).line i with
      state := .dirty, data := f ((s.store.filledFor b i false).line i).data } ∧
    ∀ j, j ≠ i → j ≠ otherWay i → ((s.store.filledFor b i false).update b f).line j = (s.store.filledFor b i false).line j := by
  have hlt : i < (s.store.filledFor b i false).lines.length := line_lt_of_find (presentLine_eq_some.mp (filled_presentLine h false)).1
  have hclean : (s.store.filledFor b i false).line i = { s.store.line i with
      state := .clean, data := (s.store.nv.block b).take 15, redirty := false, pinned := (s.store.line i).pinned || false
      recent := true } := filled_line (line_lt h) false
  unfold Store.update
  rw [filled_presentLine h false]
  dsimp only
  refine ⟨?_, fun j h1 h2 => ?_⟩
  · rw [line_touch_self _ (by show i < (List.modify _ i _).length; rw [List.length_modify]; exact hlt),
      modifyLine_line _ _ _ _ hlt, if_pos rfl, hclean]
    rfl
  · rw [line_touch_other _ h1 h2, modifyLine_line _ _ _ _ hlt, if_neg (Ne.symm h1)]

theorem verifies_iff (st : Store) (b : Nat) : st.verifies b = true ↔
    byteSum ((List.range 16).map fun j => st.nv.read (16 * b + j)) = 0 ∧
      (st.present b = true → st.dataOf b = (List.range 15).map fun j => st.nv.read (16 * b + j)) := by
  unfold Store.verifies Store.present Store.dataOf
  rw [Bool.and_eq_true, checkGood_iff, block_take]
  refine and_congr_right fun _ => ?_
  cases st.presentLine b with
  | none => simp
  | some i => simp

theorem exec_readVerify (ho : s.store.op = some (.readVerify b)) (hl : s.store.orders = [.verify b]) (hw : s.store.waiting = []) :
    exec .blockReadEnd s = .next (State.present s
      ((s.setStore { s.store with orders := [], op := none, task := .none }).returnStatus
        (if s.store.verifies b then .done else .mismatch) [])) := by
  have hend : s.store.endKind Order.isVerify = { s.store with orders := [] } := by
    unfold Store.endKind Store.endOrder
    rw [hl]
    rfl
  have hread : s.readEnd = s.verifyEnd b := by
    unfold State.readEnd
    rw [ho]
  have hverify : s.verifyEnd b = (s.setStore { s.store with orders := [], op := none, task := .none }).returnStatus
      (if s.store.verifies b then .done else .mismatch) [] := by
    unfold State.verifyEnd
    rw [hend]
    exact answer_settled (u := { s.store with orders := [], op := none, task := .none }) ⟨rfl, rfl, hw, rfl⟩ _ _
  show Host.Outcome.next (State.present s s.readEnd) = _
  rw [hread, hverify]

/-- VERIFY's answer. -/
theorem verify_answered (ho : s.store.op = some (.readVerify b)) (hl : s.store.orders = [.verify b]) (hw : s.store.waiting = [])
    (hopen : s.line.Open 0x70) :
    ∃ t, exec .blockReadEnd s = .next t ∧ KeptBut [.store, .line, .handler, .display] s t ∧
      t.store = { s.store with orders := [], op := none, task := .none } ∧
      t.handler = { s.handler with state := .replying } ∧
      ∃ x : Byte, t.line = s.line.enter 0x70 3 .reply [byteOf s.handler.topic, x] .own ∧
        (x = 0 ↔ s.store.verifies b = true) ∧ (x ≠ 0 → x = 6) := by
  obtain ⟨hk, hstore, hhandler, hline⟩ := answered_of hopen (x := _) (u := { s.store with orders := [], op := none, task := .none })
    (st := if s.store.verifies b then .done else .mismatch) (result := []) rfl
  refine ⟨_, exec_readVerify ho hl hw, hk, hstore, hhandler, _, hline, ?_⟩
  cases s.store.verifies b with
  | true => exact ⟨by simp [Status.code, byteOf], fun hx => absurd rfl hx⟩
  | false => exact ⟨by simp [Status.code, byteOf], fun _ => rfl⟩

end

end Sys2Proof.Machine
end

section
/-! SUPPORT. What the service unit does at the end of a service block's fill, step by step (R157, R158). For O50. -/
namespace Sys2Proof.Machine
set_option Elab.async false

/-! ### What every step leaves -/

/-- A state within the service unit's work on the filled block `b`, in line `i`. -/
structure State.Filling (s : State) (b i : Nat) (u : State) : Prop where
  kept : KeptBut [.service, .store] s u
  items : u.service.items.length = s.service.items.length
  marks : u.service.fetchMarks = s.service.fetchMarks
  selected : u.service.selected = s.service.selected
  others : ∀ j, itemBlock j ≠ b → u.item j = s.item j
  line : u.store.presentLine b = some i
  data : (u.store.dataOf b).length = 15
  state : (u.store.line i).state = .clean ∨ (u.store.line i).state = .dirty
  reads : ∀ c, c ≠ b → u.store.dataOf c = s.store.dataOf c
  waiting : u.store.waiting = []
  op : u.store.op = none
  nv : u.store.nv = s.store.nv
  power : u.store.pwrGood = s.store.pwrGood
  fault : u.store.nvFault = s.store.nvFault

section
variable {s u : State} {b i j : Nat}

theorem State.Filling.holds (h : s.Filling b i u) : u.store.Holds b := by
  refine ⟨?_, h.data⟩
  unfold Store.present
  rw [h.line]
  rfl

theorem State.Filling.odometer (h : s.Filling b i u) (hb : 3 ≤ b) : u.store.odometerValue = s.store.odometerValue :=
  congrArg (tripleAt · 0) (h.reads 0 (by omega))

/-- The other blocks' bytes read as before, whatever state the line of this block takes. -/
theorem dataOf_modifyLine_tagged {st : Store} {f : CacheLine → CacheLine} {c : Nat} (hfind : st.find b = some i) (hc : c ≠ b)
    (ht : (f (st.line i)).tag = (st.line i).tag) (hv : ((f (st.line i)).state == .invalid) = ((st.line i).state == .invalid)) :
    (st.modifyLine i f).dataOf c = st.dataOf c := by
  unfold Store.dataOf Store.presentLine
  rw [find_modifyLine_at ht hv]
  cases hk : st.find c with
  | none => rfl
  | some k =>
    have hne : i ≠ k := by
      rintro rfl
      have h1 := (line_of_find hfind).1
      rw [(line_of_find hk).1] at h1
      exact hc (Option.some.inj h1)
    have hline : (st.modifyLine i f).line k = st.line k := by
      rw [modifyLine_line _ _ _ _ (line_lt_of_find hfind), if_neg hne]
    dsimp only
    rw [hline]
    by_cases hp : (st.line k).state.isPresent = true
    · rw [if_pos hp]
      exact congrArg CacheLine.data hline
    · rw [if_neg hp]

theorem filled_filling (h : s.FillEnds b i) : s.Filling b i (s.setStore (s.store.filled b i false)) := by
  have hline := filled_line (b := b) (line_lt h) false
  have hpresent : (s.store.filled b i false).presentLine b = some i := filled_presentLine h false
  exact
    { kept := (setStore_kept _ _).mono (by decide)
      items := rfl, marks := rfl, selected := rfl
      others := fun _ _ => rfl
      line := hpresent
      data := by
        show ((s.store.filled b i false).dataOf b).length = 15
        rw [dataOf_of_line hpresent, hline]
        exact block_take_length _ _
      state := .inl (congrArg CacheLine.state hline)
      reads := fun c hc => by
        show (s.store.filled b i false).dataOf c = _
        unfold Store.filled
        rw [dataOf_touch, dataOf_modifyLine_tagged (st := { s.store with orders := [], op := none }) h.find hc rfl]
        · exact dataOf_of_lines rfl c
        · show ((LineState.clean : LineState) == .invalid) = ((s.store.line i).state == .invalid)
          rw [h.filling]
          rfl
      waiting := h.waiting, op := rfl, nv := rfl, power := rfl, fault := rfl }

/-- An UPDATE of the block, which leaves its line DIRTY. -/
theorem State.Filling.update (h : s.Filling b i u) {f : List Byte → List Byte} (hf : ∀ l : List Byte, l.length = 15 → (f l).length = 15) :
    s.Filling b i (u.update b f) ∧ ((u.update b f).store.line i).state = .dirty := by
  obtain ⟨-, hop, hw, -, -, -, hfault, -, hpower, hnv⟩ := update_rest u.store b f
  have hdirty : ((u.update b f).store.line i).state = .dirty := by
    obtain ⟨y, hy⟩ := line_update_same f h.line
    show ((u.store.update b f).line i).state = .dirty
    rw [hy]
    show (CacheLine.updated f (u.store.line i)).state = .dirty
    unfold CacheLine.updated
    rcases h.state with hs | hs <;> rw [hs]
  refine ⟨?_, hdirty⟩
  exact
    { kept := h.kept.trans ((update_kept _ _ _).mono (by decide))
      items := h.items, marks := h.marks, selected := h.selected, others := h.others
      line := (presentLine_update _ _ _ _).trans h.line
      data := by
        show ((u.store.update b f).dataOf b).length = 15
        rw [dataOf_update_same f h.holds.1]
        exact hf _ h.data
      state := .inr hdirty
      reads := fun c hc => (dataOf_update_ne f hc).trans (h.reads c hc)
      waiting := hw.trans h.waiting, op := hop.trans h.op, nv := hnv.trans h.nv, power := hpower.trans h.power
      fault := hfault.trans h.fault }

theorem State.Filling.modifyItem (h : s.Filling b i u) (hj : itemBlock j = b) (f : ServiceItem → ServiceItem) :
    s.Filling b i (u.modifyItem j f) :=
  { h with
    kept := h.kept.trans ((modifyItem_kept _ _ _).mono (by decide))
    items := (List.length_modify _ _ _).trans h.items
    others := fun k hk => (item_modifyItem_ne f (by rintro rfl; exact hk hj)).trans (h.others k hk) }

/-- Orders and tasks are not the block's. -/
theorem State.Filling.setOrders (h : s.Filling b i u) (os : List Order) (x : Task) :
    s.Filling b i (u.setStore { u.store with orders := os, task := x }) :=
  { h with kept := h.kept.trans ((setStore_kept _ _).mono (by decide)) }

end

end Sys2Proof.Machine
end

section
/-! SUPPORT. The two items of a filled service block, read together: pending counts taken off, waiting resets carried out
(R157, R158). For O50. -/
namespace Sys2Proof.Machine
set_option Elab.async false

/-! ### An item's fields and the item -/

/-- The remaining counts and the last-service odometer of an item, as its block holds them. -/
def Store.itemFields (st : Store) (j : Nat) : Int × Int × Nat :=
  (st.remaining j true, st.remaining j false, tripleAt (st.dataOf (itemBlock j)) (itemOffset j + 4))

theorem itemFields_of {st : Store} {j : Nat} {km days : Int} {odometer : Nat}
    (h : FieldsAt (st.dataOf (itemBlock j)) (itemOffset j) km days odometer) : st.itemFields j = (km, days, odometer) := by
  obtain ⟨hkm, hdays, hodo⟩ := h
  exact Prod.ext hkm (Prod.ext hdays hodo)

theorem fieldsAt_itemFields (st : Store) (j : Nat) : FieldsAt (st.dataOf (itemBlock j)) (itemOffset j) (st.itemFields j).1
    (st.itemFields j).2.1 (st.itemFields j).2.2 := ⟨rfl, rfl, rfl⟩

theorem itemFields_of_data {st st' : Store} {j : Nat} (h : st'.dataOf (itemBlock j) = st.dataOf (itemBlock j)) :
    st'.itemFields j = st.itemFields j := by
  unfold Store.itemFields Store.remaining
  rw [h]

/-- The items of one block have fields apart. -/
theorem itemOffset_apart {j k : Nat} (h : itemBlock j = itemBlock k) (hne : k ≠ j) :
    itemOffset j + 7 ≤ itemOffset k ∨ itemOffset k + 7 ≤ itemOffset j := by
  unfold itemBlock at h
  unfold itemOffset
  omega

/-- An UPDATE that writes one item's fields. -/
theorem itemFields_update {st : Store} {j k : Nat} {f : List Byte → List Byte} {km days : Int} {odometer : Nat}
    (hp : st.present (itemBlock k) = true) (hb : itemBlock j = itemBlock k)
    (hf : FieldsAt (f (st.dataOf (itemBlock k))) (itemOffset k) km days odometer)
    (ho : SameOutside (st.dataOf (itemBlock k)) (f (st.dataOf (itemBlock k))) (itemOffset k)) :
    (st.update (itemBlock k) f).itemFields j = if k = j then (km, days, odometer) else st.itemFields j := by
  have hdata : (st.update (itemBlock k) f).dataOf (itemBlock j) = f (st.dataOf (itemBlock k)) := by
    rw [hb]
    exact dataOf_update_same f hp
  by_cases hkj : k = j
  · subst hkj
    rw [if_pos rfl]
    exact itemFields_of (by rw [hdata]; exact hf)
  · rw [if_neg hkj]
    refine itemFields_of ?_
    rw [hdata]
    have hold := fieldsAt_itemFields st j
    rw [hb] at hold
    exact hold.of_outside ho (itemOffset_apart hb hkj)

/-- An item with its fields, as the service unit works on them. -/
def State.itemNow (u : State) (j : Nat) : (Int × Int × Nat) × ServiceItem := (u.store.itemFields j, u.item j)

/-! ### The pending counts -/

def pendingFields (x : ServiceItem) (o : Nat) (bs : List Byte) : List Byte :=
  lowerField (o + 2) x.pendingDays (lowerField o x.pendingKm bs)

section
variable {x : ServiceItem} {o : Nat} {bs : List Byte}

theorem pendingFields_length (h : bs.length = 15) (ho : o ≤ 8) : (pendingFields x o bs).length = 15 :=
  lowerField_length (lowerField_length h (by omega)) (by omega)

theorem pendingFields_fields (h : bs.length = 15) (ho : o ≤ 8) : FieldsAt (pendingFields x o bs) o
    (lowerRemaining (signedWordAt bs o) x.pendingKm) (lowerRemaining (signedWordAt bs (o + 2)) x.pendingDays) (tripleAt bs (o + 4)) := by
  have hfirst : (lowerField o x.pendingKm bs).length = 15 := lowerField_length h (by omega)
  refine ⟨?_, ?_, ?_⟩
  · unfold pendingFields
    rw [lowerField_reads hfirst (by omega) (.inl (Nat.le_refl _)), if_neg (by omega),
      lowerField_reads h (by omega) (.inr (.inr rfl)), if_pos rfl]
  · unfold pendingFields
    rw [lowerField_reads hfirst (by omega) (.inr (.inr rfl)), if_pos rfl, lowerField_reads h (by omega) (.inr (.inl (Nat.le_refl _))),
      if_neg (by omega)]
  · unfold pendingFields lowerField
    have hlow : (splice bs o (signedBytes2 (lowerRemaining (signedWordAt bs o) x.pendingKm))).length = 15 := hfirst
    rw [tripleAt_splice_apart (by rw [signedBytes2_length]; omega) (by omega),
      tripleAt_splice_apart (by rw [signedBytes2_length]; omega) (by omega)]

theorem pendingFields_outside (h : bs.length = 15) (ho : o ≤ 8) : SameOutside bs (pendingFields x o bs) o := fun j hj => by
  unfold pendingFields lowerField
  have hlow : (splice bs o (signedBytes2 (lowerRemaining (signedWordAt bs o) x.pendingKm))).length = 15 :=
    lowerField_length h (by omega)
  rcases hj with hj | hj
  · rw [byteAt_splice_of_lt (by omega) (by omega), byteAt_splice_of_lt hj (by omega)]
  · rw [byteAt_splice_of_ge (by rw [signedBytes2_length]; omega) (by omega),
      byteAt_splice_of_ge (by rw [signedBytes2_length]; omega) (by omega)]

end

/-- An item whose pending counts are taken off. -/
def pendingTaken (p : (Int × Int × Nat) × ServiceItem) : (Int × Int × Nat) × ServiceItem :=
  ((lowerRemaining p.1.1 p.2.pendingKm, lowerRemaining p.1.2.1 p.2.pendingDays, p.1.2.2),
    { p.2 with pendingKm := 0, pendingDays := 0 })

def ServiceItem.NonePending (x : ServiceItem) : Prop := x.pendingKm = 0 ∧ x.pendingDays = 0

theorem lowerRemaining_zero (r : Int) : lowerRemaining r 0 = r := by
  unfold lowerRemaining
  split <;> omega

section
variable {s u : State} {b i j k : Nat}

theorem applyPending_none (h : (u.item k).NonePending) : u.applyPending k = u := if_pos h

theorem applyPending_some (h : ¬(u.item k).NonePending) : u.applyPending k =
    (u.update (itemBlock k) (pendingFields (u.item k) (itemOffset k))).modifyItem k
      fun x => { x with pendingKm := 0, pendingDays := 0 } := if_neg h

theorem pendingTaken_none {p : (Int × Int × Nat) × ServiceItem} (h : p.2.NonePending) : pendingTaken p = p := by
  obtain ⟨⟨km, days, odometer⟩, x⟩ := p
  obtain ⟨hk, hd⟩ : x.pendingKm = 0 ∧ x.pendingDays = 0 := h
  unfold pendingTaken
  dsimp only
  rw [hk, hd, lowerRemaining_zero, lowerRemaining_zero]
  cases x
  cases hk
  cases hd
  rfl

/-- The pending counts of one item of the filled block. -/
theorem applyPending_filling (h : s.Filling b i u) (hk : itemBlock k = b) (hlk : k < s.service.items.length) :
    s.Filling b i (u.applyPending k) ∧ (u.applyPending k).store.orders = u.store.orders ∧
      (u.applyPending k).store.task = u.store.task ∧
      ((u.item k).NonePending → (u.applyPending k).store = u.store) ∧
      (¬(u.item k).NonePending ∨ (u.store.line i).state = .dirty → ((u.applyPending k).store.line i).state = .dirty) ∧
      ∀ j, itemBlock j = b → (u.applyPending k).itemNow j = if k = j then pendingTaken (u.itemNow j) else u.itemNow j := by
  have ho : itemOffset k ≤ 8 := (itemOffset_le k).trans (by decide)
  by_cases hnone : (u.item k).NonePending
  · rw [applyPending_none hnone]
    refine ⟨h, rfl, rfl, fun _ => rfl, fun hd => hd.resolve_left fun hn => hn hnone, fun j _ => ?_⟩
    split
    · next e => subst e; exact (pendingTaken_none hnone).symm
    · rfl
  · subst hk
    rw [applyPending_some hnone]
    obtain ⟨hfill, hdirty⟩ := h.update (f := pendingFields (u.item k) (itemOffset k)) fun l hl => pendingFields_length hl ho
    obtain ⟨horders, -, -, htask, -⟩ := update_rest u.store (itemBlock k) (pendingFields (u.item k) (itemOffset k))
    refine ⟨hfill.modifyItem rfl _, horders, htask, fun hn => absurd hn hnone, fun _ => hdirty, fun j hj => ?_⟩
    have hfields := itemFields_update (j := j) h.holds.1 hj (pendingFields_fields (x := u.item k) h.data ho)
      (pendingFields_outside h.data ho)
    have hitem : ((u.update (itemBlock k) (pendingFields (u.item k) (itemOffset k))).modifyItem k
        fun x => { x with pendingKm := 0, pendingDays := 0 }).item j =
        if k = j then { u.item j with pendingKm := 0, pendingDays := 0 } else u.item j := by
      by_cases hkj : k = j
      · rw [item_modifyItem _ _ _ (by rw [← hkj]; show k < u.service.items.length; rw [h.items]; exact hlk)]
        rfl
      · rw [item_modifyItem_ne _ hkj, if_neg hkj]
        rfl
    have hstore : ((u.update (itemBlock k) (pendingFields (u.item k) (itemOffset k))).modifyItem k
        fun x => { x with pendingKm := 0, pendingDays := 0 }).store.itemFields j = _ := hfields
    unfold State.itemNow
    rw [hitem, hstore]
    split
    · next e => subst e; rfl
    · rfl

end

end Sys2Proof.Machine
end

section
/-! SUPPORT. A waiting reset carried out at the end of its block's fill (R158). For O50. -/
namespace Sys2Proof.Machine
set_option Elab.async false

/-! ### The reset of an item, active or not -/

def ServiceItem.resetTo (x : ServiceItem) (st : ItemState) : ServiceItem :=
  { x with state := st, pendingKm := 0, pendingDays := 0, waitsChauffeur := false, waitsWorkshop := false }

theorem formItems_quiet {s : State} {i : Nat} (h : edgeFor (s.item i).state (s.newItemState i) = none) :
    s.formItems [i] = s.modifyItem i fun x => { x with state := s.newItemState i } := by
  unfold State.formItems
  rw [List.filterMap_cons_none (f := fun j => edgeFor (s.item j).state (s.newItemState j)) h]
  rfl

/-- The state that a reset leaves the item in. -/
def State.resetState (s : State) (j : Nat) : ItemState := if s.itemActive j then .ok else (s.item j).state

/-- What the reset of an item needs to know of its figures. -/
structure ItemFigures.Resets (f : ItemFigures) : Prop where
  km : f.distanceInterval ≤ 32000
  days : f.dayInterval ≤ 32000
  fresh : f.Fresh

section
variable {u : State} {j : Nat}

/-- The item's state that a reset forms. -/
theorem reset_newState (h : u.store.Holds (itemBlock j)) (hf : (u.itemFigures j).Resets) (hl : j < u.service.items.length) :
    ((u.setStore (u.resetStore j)).modifyItem j fun x : ServiceItem =>
      { x with pendingKm := 0, pendingDays := 0, waitsChauffeur := false, waitsWorkshop := false }).newItemState j =
    u.resetState j := by
  have hfields := resetStore_fields h hf.km hf.days
  have hpresent : (u.resetStore j).present (itemBlock j) = true := by
    unfold State.resetStore Store.present
    rw [presentLine_update]
    exact h.1
  have hkm : (u.resetStore j).remainingKm j = (u.itemFigures j).distanceInterval := hfields.km
  have hdays : (u.resetStore j).remainingDays j = (u.itemFigures j).dayInterval := hfields.days
  unfold State.newItemState State.resetState
  show (if u.itemActive j && (u.resetStore j).present (itemBlock j) then
    itemStateOf (u.itemFigures j) ((u.resetStore j).remainingKm j) ((u.resetStore j).remainingDays j) else _) = _
  rw [hpresent, Bool.and_true, hkm, hdays, itemStateOf_fresh hf.fresh]
  cases u.itemActive j with
  | true => rfl
  | false =>
    rw [if_neg Bool.false_ne_true, if_neg Bool.false_ne_true, item_modifyItem _ _ _ (by exact hl), if_pos rfl]
    rfl

theorem applyReset_formed (h : u.store.Holds (itemBlock j)) (hf : (u.itemFigures j).Resets) (hl : j < u.service.items.length)
    (w : Bool) : u.applyReset j w =
      ((u.modifyItem j fun x => x.resetTo (u.resetState j)).setStore (u.resetStore j)).placeReset j w := by
  have hnew := reset_newState h hf hl
  have hedge : edgeFor (((u.setStore (u.resetStore j)).modifyItem j fun x : ServiceItem =>
      { x with pendingKm := 0, pendingDays := 0, waitsChauffeur := false, waitsWorkshop := false }).item j).state
      (u.resetState j) = none := by
    rw [item_modifyItem _ _ _ (by exact hl), if_pos rfl]
    show edgeFor (u.item j).state (u.resetState j) = none
    unfold State.resetState
    cases u.itemActive j with
    | true => cases (u.item j).state <;> rfl
    | false => cases (u.item j).state <;> rfl
  have hformed := (formItems_quiet (by rw [hnew]; exact hedge)).trans (modifyItem_twice _ j _ _)
  rw [hnew] at hformed
  show State.placeReset (State.formItems ((u.setStore (u.resetStore j)).modifyItem j _) [j]) j w = _
  rw [hformed]
  rfl

/-- The write-back of a reset, placed in a list that nothing waits for. -/
theorem placeReset_listed (hw : u.store.waiting = []) (hr : u.store.orders.length < 4) (w : Bool) : u.placeReset j w =
    u.setStore { u.store with
      orders := u.store.orders ++ [.single (itemBlock j) w none], task := if w then .placing else u.store.task } := by
  have hplace : u.store.writeback (itemBlock j) w = { u.store with orders := u.store.orders ++ [.single (itemBlock j) w none] } := by
    unfold Store.writeback Store.place
    rw [if_pos]
    rw [hw, hasRoom_iff.mpr hr]
    rfl
  unfold State.placeReset
  rw [hplace]
  cases w <;> rfl

end

/-! ### The waiting resets of the filled block -/

def ServiceItem.Waiting (x : ServiceItem) : Prop := x.waitsChauffeur = true ∨ x.waitsWorkshop = true

/-- An item whose waiting reset is carried out. -/
def State.resetTaken (s : State) (j : Nat) (p : (Int × Int × Nat) × ServiceItem) : (Int × Int × Nat) × ServiceItem :=
  (((s.itemFigures j).distanceInterval, (s.itemFigures j).dayInterval, s.store.odometerValue),
    p.2.resetTo (if s.itemActive j then .ok else p.2.state))

section
variable {s u : State} {b i k : Nat}

theorem applyWaiting_none (h : ¬(u.item k).Waiting) : u.applyWaiting k = u := by
  unfold State.applyWaiting
  refine if_neg fun hw => h ?_
  rw [Bool.or_eq_true] at hw
  exact hw

theorem applyWaiting_some (h : (u.item k).Waiting) : u.applyWaiting k = u.applyReset k (u.item k).waitsWorkshop := by
  unfold State.applyWaiting
  exact if_pos (by rw [Bool.or_eq_true]; exact h)

/-- A waiting reset of one item of the filled block. -/
theorem applyWaiting_filling (h : s.Filling b i u) (hb : 3 ≤ b) (hk : itemBlock k = b) (hlk : k < s.service.items.length)
    (hf : (s.itemFigures k).Resets) (hroom : u.store.orders.length < 4) (hwaits : (u.item k).Waiting) :
    s.Filling b i (u.applyWaiting k) ∧
      (u.applyWaiting k).store.orders = u.store.orders ++ [.single b (u.item k).waitsWorkshop none] ∧
      (u.applyWaiting k).store.task = (if (u.item k).waitsWorkshop then .placing else u.store.task) ∧
      ((u.applyWaiting k).store.line i).state = .dirty ∧
      ∀ j, itemBlock j = b → (u.applyWaiting k).itemNow j = if k = j then s.resetTaken j (u.itemNow j) else u.itemNow j := by
  subst hk
  have hcal := h.kept.cal
  have hfigures : u.itemFigures k = s.itemFigures k := itemFigures_of_cal hcal k
  have hlu : k < u.service.items.length := by rw [h.items]; exact hlk
  have hresets : (u.itemFigures k).Resets := by rw [hfigures]; exact hf
  obtain ⟨hfill, hdirty⟩ := h.update (f := resetField (u.itemFigures k) u.store.odometerValue k) fun l hl => resetField_length hl
  obtain ⟨horders, -, hwaiting, htask, -⟩ := update_rest u.store (itemBlock k) (resetField (u.itemFigures k) u.store.odometerValue k)
  have hform : s.Filling (itemBlock k) i ((u.modifyItem k fun x => x.resetTo (u.resetState k)).setStore (u.resetStore k)) :=
    hfill.modifyItem rfl _
  have happly : u.applyWaiting k = ((u.modifyItem k fun x => x.resetTo (u.resetState k)).setStore { u.resetStore k with
      orders := u.store.orders ++ [.single (itemBlock k) (u.item k).waitsWorkshop none]
      task := if (u.item k).waitsWorkshop then .placing else u.store.task }) := by
    rw [applyWaiting_some hwaits, applyReset_formed h.holds hresets hlu,
      placeReset_listed (u := (u.modifyItem k fun x => x.resetTo (u.resetState k)).setStore (u.resetStore k)) hform.waiting
        (by show (u.store.update _ _).orders.length < 4; rw [horders]; exact hroom)]
    have ho : (u.resetStore k).orders = u.store.orders := horders
    have ht : (u.resetStore k).task = u.store.task := htask
    rw [← ho, ← ht]
    rfl
  rw [happly]
  refine ⟨hform.setOrders _ _, rfl, rfl, hdirty, fun j hj => ?_⟩
  have hfields := itemFields_update (j := j) h.holds.1 hj
    (resetField_fields (odometer := u.store.odometerValue) (i := k) h.data hresets.km hresets.days (tripleAt_lt _ _))
    (resetField_outside h.data)
  rw [hfigures, h.odometer hb] at hfields
  have hstore : ((u.modifyItem k fun x => x.resetTo (u.resetState k)).setStore { u.resetStore k with
      orders := u.store.orders ++ [.single (itemBlock k) (u.item k).waitsWorkshop none]
      task := if (u.item k).waitsWorkshop then .placing else u.store.task }).store.itemFields j =
      if k = j then (((s.itemFigures k).distanceInterval : Int), ((s.itemFigures k).dayInterval : Int), s.store.odometerValue)
        else u.store.itemFields j := by
    refine (itemFields_of_data (dataOf_of_lines (u := { u.resetStore k with
      orders := u.store.orders ++ [.single (itemBlock k) (u.item k).waitsWorkshop none]
      task := if (u.item k).waitsWorkshop then .placing else u.store.task }) (st := u.resetStore k) rfl _)).trans ?_
    unfold State.resetStore
    rw [hfigures, h.odometer hb]
    exact hfields
  have hitem : ((u.modifyItem k fun x => x.resetTo (u.resetState k)).setStore { u.resetStore k with
      orders := u.store.orders ++ [.single (itemBlock k) (u.item k).waitsWorkshop none]
      task := if (u.item k).waitsWorkshop then .placing else u.store.task }).item j =
      if k = j then (u.item j).resetTo (if s.itemActive j then .ok else (u.item j).state) else u.item j := by
    show (u.modifyItem k fun x => x.resetTo (u.resetState k)).item j = _
    by_cases hkj : k = j
    · subst hkj
      rw [item_modifyItem _ _ _ hlu, if_pos rfl, if_pos rfl, State.resetState, itemActive_of_cal hcal]
    · rw [item_modifyItem_ne _ hkj, if_neg hkj]
  unfold State.itemNow
  rw [hstore, hitem]
  split
  · next e => subst e; rfl
  · rfl

end

end Sys2Proof.Machine
end

section
/-! SUPPORT. The store's progress over the write-backs of one block, with nothing waiting. For O50. -/
namespace Sys2Proof.Machine
set_option Elab.async false

/-- A store whose moves leave every read: nothing waits, and its blocks read as in `st`. -/
structure Store.ReadsAs (st st' : Store) : Prop where
  waiting : st'.waiting = []
  lines : ∀ c, st'.presentLine c = st.presentLine c
  data : ∀ c, st'.dataOf c = st.dataOf c
  nv : st'.nv = st.nv

section
variable {st st' : Store}

theorem Store.ReadsAs.startWrite (h : st.ReadsAs st') {j : Nat} (hj : (st'.line j).state = .dirty) (serves : WriteFor) :
    st.ReadsAs (st'.startWrite j serves) := by
  have hlt : j < st'.lines.length := by
    by_contra hno
    unfold Store.line at hj
    rw [List.getD_eq_default _ _ (Nat.le_of_not_lt hno)] at hj
    cases hj
  have hreads := reads_modifyLine_at (f := fun l => { l with state := .writing, redirty := false }) hlt rfl (by rw [hj]; rfl)
    (by rw [hj]; rfl)
  have hdata := dataOf_modifyLine_at (f := fun l => { l with state := .writing, redirty := false }) hlt rfl (by rw [hj]; rfl)
    (by rw [hj]; rfl) rfl
  exact ⟨h.waiting, fun c => (hreads c).2.trans (h.lines c), fun c => (hdata c).trans (h.data c), h.nv⟩

theorem Store.ReadsAs.of_lines (h : st.ReadsAs st') {st'' : Store} (hl : st''.lines = st'.lines) (hw : st''.waiting = [])
    (hn : st''.nv = st'.nv) : st.ReadsAs st'' :=
  ⟨hw, fun c => (presentLine_of_lines hl c).trans (h.lines c), fun c => (dataOf_of_lines hl c).trans (h.data c), hn.trans h.nv⟩

theorem Store.ReadsAs.endOrder (h : st.ReadsAs st') (k : Nat) : st.ReadsAs (st'.endOrder k) := by
  unfold Store.endOrder
  dsimp only
  split
  · exact h.of_lines rfl (by show st'.waiting.map _ = []; rw [h.waiting]; rfl) rfl
  · exact h.of_lines rfl h.waiting rfl

theorem Store.ReadsAs.engineOne (h : st.ReadsAs st') {st'' : Store} (he : st'.engineOne = some st'') : st.ReadsAs st'' := by
  obtain ⟨-, k, o, hk, rfl⟩ := engineOne_cases he
  rcases startOrder_cases hk with ⟨op, e⟩ | ⟨j, serves, hj, e⟩ | ⟨j, x, p, rfl, hj, e⟩ | ⟨-, -, e⟩ <;> rw [e]
  · exact h.of_lines rfl h.waiting rfl
  · exact h.startWrite hj serves
  · exact (h.of_lines (st'' := { st' with orders := st'.orders.set k (.walk x j) }) rfl h.waiting rfl).startWrite hj .walk
  · exact h.endOrder k

theorem settle_readsAs (fuel : Nat) (ht : st.task.passive = true) (hw : st.waiting = []) :
    (st.settle fuel).2 = none ∧ st.ReadsAs (st.settle fuel).1 :=
  settle_keeps (P := st.ReadsAs)
    (fun x x' hx ha => by
      unfold Store.admitOne at ha
      rw [hx.waiting] at ha
      cases ha)
    (fun _ _ hx _ he => hx.engineOne he) fuel ht ⟨hw, fun _ => rfl, fun _ => rfl, rfl⟩

end

/-! ### The write-backs of one block -/

/-- The write-backs of a block, with the workshop's mark of each. -/
def singlesOf (b : Nat) (l : List Bool) : List Order := l.map fun w => .single b w none

theorem singlesOf_rank {b : Nat} {l : List Bool} {o : Order} (h : o ∈ singlesOf b l) : o.rank = 2 := by
  obtain ⟨w, -, rfl⟩ := List.mem_map.mp h
  rfl

theorem singlesOf_unmark (b : Nat) (l : List Bool) : (singlesOf b l).map Order.unmark = singlesOf b (l.map fun _ => false) := by
  unfold singlesOf
  rw [List.map_map, List.map_map]
  rfl

section
variable {st : Store} {b i : Nat}

theorem selected_singles {w : Bool} {l : List Bool} (ho : st.orders = singlesOf b (w :: l)) (hp : st.pwrGood = true) :
    st.selected = some 0 := by
  have hno (r : Nat) (hr : 2 ≠ r) : st.orders.findIdx? (fun o => o.rank == r && st.canStart o) = none := by
    refine List.findIdx?_eq_none_iff.mpr fun o hmem => ?_
    rw [ho] at hmem
    rw [singlesOf_rank hmem, beq_eq_false_iff_ne.mpr hr]
    rfl
  have hyes : st.orders.findIdx? (fun o => o.rank == 2 && st.canStart o) = some 0 := by
    rw [ho]
    unfold singlesOf Store.canStart
    rw [List.map_cons, List.findIdx?_cons, hp]
    rfl
  unfold Store.selected
  rw [show List.range 5 = [0, 1, 2, 3, 4] from rfl, List.findSome?_cons, hno 0 (by decide)]
  dsimp only
  rw [List.findSome?_cons, hno 1 (by decide)]
  dsimp only
  rw [List.findSome?_cons, hyes]

/-- With the line DIRTY and the drive ready the first write-back begins. -/
theorem settle_singles {w : Bool} {l : List Bool} (ho : st.orders = singlesOf b (w :: l)) (hop : st.op = none) (hw : st.waiting = [])
    (ht : st.task.passive = true) (hp : st.pwrGood = true) (hf : st.nvFault = false) (hi : st.presentLine b = some i)
    (hd : (st.line i).state = .dirty) (n : Nat) : st.settle (n + 1) = (st.startWrite i .single, none) := by
  have hfind := (presentLine_eq_some.mp hi).1
  have hwrites : st.singleWrites b = true := by
    unfold Store.singleWrites
    rw [hfind, hf]
    show ((st.line i).state == .dirty) = true
    rw [hd]
    rfl
  have hstart : st.startOrder 0 = st.startWrite i .single := by
    unfold Store.startOrder
    rw [ho]
    show (if st.singleWrites b = true then _ else _) = _
    rw [if_pos hwrites, hfind]
  have hengine : st.engineOne = some (st.startWrite i .single) := by
    unfold Store.engineOne
    rw [hop, if_neg (by decide), selected_singles ho hp]
    exact congrArg some hstart
  have hsettled : (st.startWrite i .single).Settled := by
    refine ⟨taskOne_passive ht, admitOne_empty hw, ?_⟩
    unfold Store.engineOne
    exact if_pos rfl
  rw [Store.settle, taskOne_passive ht, admitOne_empty hw, hengine]
  exact settle_settled hsettled n

/-- The workshop's answer, given when nothing of its write-back waits. -/
theorem settle_placing {l : List Bool} (ho : st.orders = singlesOf b l) (hw : st.waiting = []) (ht : st.task = .placing) (n : Nat) :
    (st.settle (n + 1)).2 = some .done ∧ (st.settle (n + 1)).1 =
      (({ st with orders := singlesOf b (l.map fun _ => false), task := .none } : Store).settle n).1 := by
  have htask : st.taskOne = some ({ st with orders := singlesOf b (l.map fun _ => false), task := .none }, some .done) := by
    unfold Store.taskOne
    rw [ht]
    dsimp only
    rw [show st.workshopWaits = false by unfold Store.workshopWaits; rw [hw]; rfl, if_neg (by decide), ho, singlesOf_unmark]
  rw [Store.settle, htask]
  exact ⟨rfl, rfl⟩

end

end Sys2Proof.Machine
end

section
/-! SUPPORT. The service unit's work at the end of a service block's fill, put together. For O50. -/
namespace Sys2Proof.Machine
set_option Elab.async false

/-! ### The steps in a row -/

/-- A bad content of a service block replaced. -/
def State.fillReplaced (u : State) (b : Nat) (bad : Bool) : State :=
  if bad then
    u.update b (replaceService (u.itemFigures (2 * (b - 3))) (u.itemFigures (2 * (b - 3) + 1)) u.store.odometerValue b)
  else u

/-- The pending counts of both items taken off. -/
def State.pendingsTaken (u : State) (b : Nat) : State := (u.applyPending (2 * (b - 3))).applyPending (2 * (b - 3) + 1)

/-- The waiting resets of both items carried out. -/
def State.resetsTaken (u : State) (b : Nat) : State := (u.applyWaiting (2 * (b - 3))).applyWaiting (2 * (b - 3) + 1)

theorem serviceFill_eq (u : State) (b : Nat) (bad : Bool) : u.serviceFill b bad =
    ((((u.fillReplaced b bad).pendingsTaken b).resetsTaken b).formItems (itemsOf b)).setMark b false := rfl

theorem itemBlock_first {b : Nat} (hb : 3 ≤ b) : itemBlock (2 * (b - 3)) = b ∧ itemBlock (2 * (b - 3) + 1) = b := by
  unfold itemBlock
  omega

theorem items_of_block {b j : Nat} (h : itemBlock j = b) : 2 * (b - 3) = j ∨ 2 * (b - 3) + 1 = j := by
  unfold itemBlock at h
  omega

/-- What each of two steps does to its own of two things, both together do to each. -/
theorem two_steps {α : Type} {x y z : α} {h : α → α} {m n j : Nat} (hy : y = if m = j then h x else x)
    (hz : z = if n = j then h y else y) (hmn : m ≠ n) (hj : m = j ∨ n = j) : z = h x := by
  rcases hj with rfl | rfl
  · rw [hz, if_neg hmn.symm, hy, if_pos rfl]
  · rw [hz, if_pos rfl, hy, if_neg hmn]

/-! ### The content -/

/-- The fields of an item as the fill gives them, a bad content replaced. -/
def State.fillFields (s : State) (b : Nat) (bad : Bool) (j : Nat) : Int × Int × Nat :=
  if bad then ((s.itemFigures j).distanceInterval, (s.itemFigures j).dayInterval, s.store.odometerValue)
  else (signedWordAt ((s.store.nv.block b).take 15) (itemOffset j), signedWordAt ((s.store.nv.block b).take 15) (itemOffset j + 2),
    tripleAt ((s.store.nv.block b).take 15) (itemOffset j + 4))

section
variable {s u : State} {b i j : Nat}

theorem filled_data (h : s.FillEnds b i) : (s.store.filled b i false).dataOf b = (s.store.nv.block b).take 15 := by
  have hpresent : (s.store.filled b i false).presentLine b = some i := filled_presentLine h false
  rw [dataOf_of_line hpresent, filled_line (line_lt h) false]

theorem replaceService_fields {f g : ItemFigures} {odometer : Nat} {bs : List Byte} (hb : 3 ≤ b) (hl : bs.length = 15) (hf : f.Resets)
    (hg : g.Resets) (ho : odometer < 16777216) :
    FieldsAt (replaceService f g odometer b bs) (itemOffset (2 * (b - 3))) f.distanceInterval f.dayInterval odometer ∧
      FieldsAt (replaceService f g odometer b bs) (itemOffset (2 * (b - 3) + 1)) g.distanceInterval g.dayInterval odometer := by
  have hfirst : (resetField f odometer (2 * (b - 3)) bs).length = 15 := resetField_length hl
  obtain ⟨h1, h2⟩ := itemBlock_first hb
  refine ⟨?_, resetField_fields hfirst hg.km hg.days ho⟩
  exact (resetField_fields hl hf.km hf.days ho).of_outside (resetField_outside hfirst)
    (itemOffset_apart (h1.trans h2.symm) (by omega))

theorem fillReplaced_filling (h : s.FillEnds b i) (hb : 3 ≤ b) (hf : ∀ j, itemBlock j = b → (s.itemFigures j).Resets) (bad : Bool) :
    s.Filling b i ((s.setStore (s.store.filled b i false)).fillReplaced b bad) ∧
      ((s.setStore (s.store.filled b i false)).fillReplaced b bad).store.orders = [] ∧
      ((s.setStore (s.store.filled b i false)).fillReplaced b bad).store.task = s.store.task ∧
      (bad = true → (((s.setStore (s.store.filled b i false)).fillReplaced b bad).store.line i).state = .dirty) ∧
      ∀ j, itemBlock j = b →
        ((s.setStore (s.store.filled b i false)).fillReplaced b bad).itemNow j = (s.fillFields b bad j, s.item j) := by
  have hfill := filled_filling h
  have hdata := filled_data h
  cases bad with
  | false =>
    refine ⟨hfill, rfl, rfl, nofun, fun j hj => Prod.ext (itemFields_of ?_) rfl⟩
    rw [hj]
    show FieldsAt ((s.store.filled b i false).dataOf b) _ _ _ _
    rw [hdata]
    exact ⟨rfl, rfl, rfl⟩
  | true =>
    obtain ⟨h1, h2⟩ := itemBlock_first hb
    have hodo : (s.setStore (s.store.filled b i false)).store.odometerValue = s.store.odometerValue := hfill.odometer hb
    have hlength : ((s.store.nv.block b).take 15).length = 15 := block_take_length _ _
    obtain ⟨hnext, hdirty⟩ := hfill.update (f := replaceService (s.itemFigures (2 * (b - 3))) (s.itemFigures (2 * (b - 3) + 1))
      (s.setStore (s.store.filled b i false)).store.odometerValue b) fun l hl => resetField_length (resetField_length hl)
    obtain ⟨horders, -, -, htask, -⟩ := update_rest (s.store.filled b i false) b (replaceService (s.itemFigures (2 * (b - 3)))
      (s.itemFigures (2 * (b - 3) + 1)) (s.setStore (s.store.filled b i false)).store.odometerValue b)
    refine ⟨hnext, horders, htask, fun _ => hdirty, fun j hj => Prod.ext (itemFields_of ?_) rfl⟩
    rw [hj]
    show FieldsAt (((s.store.filled b i false).update b _).dataOf b) _ _ _ _
    rw [dataOf_update_same (st := s.store.filled b i false) _ hfill.holds.1, hdata, hodo]
    obtain ⟨hone, htwo⟩ := replaceService_fields hb hlength (hf _ h1) (hf _ h2) (tripleAt_lt _ _)
    rcases items_of_block hj with rfl | rfl
    · exact hone
    · exact htwo

/-! ### The pending counts -/

theorem pendingsTaken_filling (h : s.Filling b i u) (hb : 3 ≤ b) (hb6 : b ≤ 6) (hl : s.service.items.length = 8) :
    s.Filling b i (u.pendingsTaken b) ∧ (u.pendingsTaken b).store.orders = u.store.orders ∧
      (u.pendingsTaken b).store.task = u.store.task ∧
      ((∀ j, itemBlock j = b → (u.item j).NonePending) → (u.pendingsTaken b).store = u.store) ∧
      ((∃ j, itemBlock j = b ∧ ¬(u.item j).NonePending) ∨ (u.store.line i).state = .dirty →
        ((u.pendingsTaken b).store.line i).state = .dirty) ∧
      ∀ j, itemBlock j = b → (u.pendingsTaken b).itemNow j = pendingTaken (u.itemNow j) := by
  obtain ⟨h1, h2⟩ := itemBlock_first hb
  obtain ⟨f1, o1, t1, s1, d1, n1⟩ := applyPending_filling h h1 (by omega)
  obtain ⟨f2, o2, t2, s2, d2, n2⟩ := applyPending_filling f1 h2 (by omega)
  have hsecond : (u.applyPending (2 * (b - 3))).item (2 * (b - 3) + 1) = u.item (2 * (b - 3) + 1) := by
    have hnow := n1 _ h2
    rw [if_neg (by omega)] at hnow
    exact congrArg Prod.snd hnow
  rw [hsecond] at s2 d2
  refine ⟨f2, o2.trans o1, t2.trans t1, fun hnone => (s2 (hnone _ h2)).trans (s1 (hnone _ h1)), fun hd => ?_, fun j hj => ?_⟩
  · rcases hd with ⟨j, hj, hpending⟩ | hd
    · rcases items_of_block hj with rfl | rfl
      · exact d2 (.inr (d1 (.inl hpending)))
      · exact d2 (.inl hpending)
    · exact d2 (.inr (d1 (.inr hd)))
  · exact two_steps (n1 j hj) (n2 j hj) (by omega) (items_of_block hj)

/-! ### The waiting resets -/

def ServiceItem.waits (x : ServiceItem) : Bool := x.waitsChauffeur || x.waitsWorkshop

theorem waits_iff (x : ServiceItem) : x.waits = true ↔ x.Waiting := Bool.or_eq_true _ _ ▸ Iff.rfl

/-- The write-back that a waiting reset of the item places. -/
def ServiceItem.writeback (x : ServiceItem) : List Bool := if x.waits then [x.waitsWorkshop] else []

/-- The write-backs of the block that resets have placed. -/
structure State.ListedAs (u : State) (b : Nat) (l : List Bool) : Prop where
  orders : u.store.orders = singlesOf b l
  task : u.store.task = if l.any id then .placing else .none

/-- An item once its waiting reset, if it has one, is carried out. -/
def State.resetDue (s : State) (j : Nat) (p : (Int × Int × Nat) × ServiceItem) : (Int × Int × Nat) × ServiceItem :=
  if p.2.waits then s.resetTaken j p else p

theorem applyWaiting_step {k : Nat} {l : List Bool} (h : s.Filling b i u) (hb : 3 ≤ b) (hk : itemBlock k = b)
    (hlk : k < s.service.items.length) (hf : (s.itemFigures k).Resets) (hlisted : u.ListedAs b l) (hroom : l.length < 4) :
    s.Filling b i (u.applyWaiting k) ∧ (u.applyWaiting k).ListedAs b (l ++ (u.item k).writeback) ∧
      ((u.item k).waits = false → u.applyWaiting k = u) ∧
      ((u.item k).waits = true ∨ (u.store.line i).state = .dirty → ((u.applyWaiting k).store.line i).state = .dirty) ∧
      ∀ j, itemBlock j = b → (u.applyWaiting k).itemNow j = if k = j then s.resetDue j (u.itemNow j) else u.itemNow j := by
  cases hw : (u.item k).waits with
  | false =>
    have hnot : ¬(u.item k).Waiting := fun hx => by rw [(waits_iff _).mpr hx] at hw; cases hw
    rw [applyWaiting_none hnot]
    unfold ServiceItem.writeback
    rw [hw, if_neg Bool.false_ne_true, List.append_nil]
    refine ⟨h, hlisted, fun _ => rfl, fun hd => hd.resolve_left nofun, fun j _ => ?_⟩
    split
    · next e =>
      subst e
      unfold State.resetDue
      rw [show (u.itemNow k).2.waits = false from hw, if_neg Bool.false_ne_true]
    · rfl
  | true =>
    have hwaits := (waits_iff _).mp hw
    have horders := hlisted.orders
    obtain ⟨hfill, ho, ht, hdirty, hnow⟩ := applyWaiting_filling h hb hk hlk hf
      (by rw [horders, singlesOf, List.length_map]; exact hroom) hwaits
    unfold ServiceItem.writeback
    rw [hw, if_pos rfl]
    refine ⟨hfill, ⟨?_, ?_⟩, nofun, fun _ => hdirty, fun j hj => ?_⟩
    · rw [ho, horders]
      unfold singlesOf
      rw [List.map_append]
      rfl
    · rw [ht, hlisted.task, List.any_append]
      cases (u.item k).waitsWorkshop <;> cases l.any id <;> rfl
    · rw [hnow j hj]
      split
      · next e =>
        subst e
        unfold State.resetDue
        rw [show (u.itemNow k).2.waits = true from hw, if_pos rfl]
      · rfl

/-- What the waiting resets of both items leave. -/
theorem resetsTaken_filling (h : s.Filling b i u) (hb : 3 ≤ b) (hb6 : b ≤ 6) (hl : s.service.items.length = 8)
    (hf : ∀ j, itemBlock j = b → (s.itemFigures j).Resets) (ho : u.store.orders = []) (ht : u.store.task = .none) :
    s.Filling b i (u.resetsTaken b) ∧
      (u.resetsTaken b).ListedAs b ((u.item (2 * (b - 3))).writeback ++ (u.item (2 * (b - 3) + 1)).writeback) ∧
      ((∀ j, itemBlock j = b → (u.item j).waits = false) → u.resetsTaken b = u) ∧
      ((∃ j, itemBlock j = b ∧ (u.item j).waits = true) ∨ (u.store.line i).state = .dirty →
        ((u.resetsTaken b).store.line i).state = .dirty) ∧
      ∀ j, itemBlock j = b → (u.resetsTaken b).itemNow j = s.resetDue j (u.itemNow j) := by
  obtain ⟨h1, h2⟩ := itemBlock_first hb
  have hstart : u.ListedAs b [] := ⟨ho, ht⟩
  have hshort (x : ServiceItem) : x.writeback.length ≤ 1 := by
    unfold ServiceItem.writeback
    split <;> simp
  obtain ⟨f1, l1, s1, d1, n1⟩ := applyWaiting_step h hb h1 (by omega) (hf _ h1) hstart (by decide)
  rw [List.nil_append] at l1
  obtain ⟨f2, l2, s2, d2, n2⟩ := applyWaiting_step f1 hb h2 (by omega) (hf _ h2) l1 (by have := hshort (u.item (2 * (b - 3))); omega)
  have hsecond : (u.applyWaiting (2 * (b - 3))).item (2 * (b - 3) + 1) = u.item (2 * (b - 3) + 1) := by
    have hnow := n1 _ h2
    rw [if_neg (by omega)] at hnow
    exact congrArg Prod.snd hnow
  rw [hsecond] at l2 s2 d2
  refine ⟨f2, l2, fun hnone => (s2 (hnone _ h2)).trans (s1 (hnone _ h1)), fun hd => ?_, fun j hj => ?_⟩
  · rcases hd with ⟨j, hj, hwaits⟩ | hd
    · rcases items_of_block hj with rfl | rfl
      · exact d2 (.inr (d1 (.inl hwaits)))
      · exact d2 (.inl hwaits)
    · exact d2 (.inr (d1 (.inr hd)))
  · exact two_steps (h := s.resetDue j) (n1 j hj) (n2 j hj) (by omega) (items_of_block hj)

end

end Sys2Proof.Machine
end

section
/-! SUPPORT. The end of a service block's fill, with its items formed and the store settled. For O50. -/
namespace Sys2Proof.Machine
set_option Elab.async false

/-! ### The store's progress over the write-backs of resets -/

section
variable {st : Store} {b i : Nat} {l : List Bool}

theorem settle_listed (ho : st.orders = singlesOf b l) (ht : st.task = if l.any id then .placing else .none) (hw : st.waiting = [])
    (n : Nat) : (st.settle (n + 1)).2 = (if l.any id then some .done else none) ∧ st.ReadsAs (st.settle (n + 1)).1 := by
  cases hl : l.any id with
  | false =>
    rw [hl, if_neg Bool.false_ne_true] at ht
    exact settle_readsAs (n + 1) (by rw [ht]; rfl) hw
  | true =>
    rw [hl, if_pos rfl] at ht
    obtain ⟨hend, hrest⟩ := settle_placing ho hw ht n
    obtain ⟨-, hreads⟩ := settle_readsAs (st := { st with orders := singlesOf b (l.map fun _ => false), task := .none }) n rfl hw
    refine ⟨hend, ?_⟩
    rw [hrest]
    exact ⟨hreads.waiting, fun c => (hreads.lines c).trans (presentLine_of_lines rfl c), fun c => (hreads.data c).trans
      (dataOf_of_lines rfl c), hreads.nv⟩

theorem settle_listed_writes (ho : st.orders = singlesOf b l) (ht : st.task = if l.any id then .placing else .none)
    (hw : st.waiting = []) (hl : l ≠ []) (hop : st.op = none) (hp : st.pwrGood = true) (hf : st.nvFault = false)
    (hi : st.presentLine b = some i) (hd : (st.line i).state = .dirty) (n : Nat) :
    (st.settle (n + 2)).1.op = some (.write i ((st.settle (n + 2)).1.dataOf b) .single 4) ∧
      ((st.settle (n + 2)).1.line i).state = .writing := by
  obtain ⟨w, l, rfl⟩ := List.exists_cons_of_ne_nil hl
  have hfinish {x : Store} (hx : x.presentLine b = some i) (y : Store) (hy : y = x.startWrite i .single) :
      y.op = some (.write i (y.dataOf b) .single 4) ∧ (y.line i).state = .writing := by
    subst hy
    obtain ⟨-, hstate, hop⟩ := startWrite_writing hx .single
    exact ⟨hop, hstate⟩
  cases hany : (w :: l).any id with
  | false =>
    rw [hany, if_neg Bool.false_ne_true] at ht
    exact hfinish hi _ (congrArg Prod.fst (settle_singles ho hop hw (by rw [ht]; rfl) hp hf hi hd (n + 1)))
  | true =>
    rw [hany, if_pos rfl] at ht
    obtain ⟨-, hrest⟩ := settle_placing ho hw ht (n + 1)
    have hline := (presentLine_of_lines (u := { st with
      orders := singlesOf b ((w :: l).map fun _ => false), task := .none }) (st := st) rfl b).trans hi
    exact hfinish hline _ (hrest.trans (congrArg Prod.fst (settle_singles (st := { st with
      orders := singlesOf b ((w :: l).map fun _ => false), task := .none }) rfl hop hw rfl hp hf hline hd n)))

end

/-! ### The state before the items are formed -/

/-- The service unit's work before the items' states are formed. -/
@[irreducible] def State.serviced (s : State) (b i : Nat) : State :=
  (((s.setStore (s.store.filled b i false)).fillReplaced b (!checkGood (s.store.nv.block b))).pendingsTaken b).resetsTaken b

/-- What the fill makes of an item and its fields. -/
def State.itemFilledNow (s : State) (b j : Nat) : (Int × Int × Nat) × ServiceItem :=
  s.resetDue j (pendingTaken (s.fillFields b (!checkGood (s.store.nv.block b)) j, s.item j))

/-- The write-backs of both items' waiting resets. -/
def State.writebacks (s : State) (b : Nat) : List Bool :=
  (s.item (2 * (b - 3))).writeback ++ (s.item (2 * (b - 3) + 1)).writeback

section
variable {s : State} {b i j : Nat}

theorem writebacks_nil (hb : 3 ≤ b) : s.writebacks b = [] ↔ ∀ j, itemBlock j = b → (s.item j).waits = false := by
  obtain ⟨h1, h2⟩ := itemBlock_first hb
  have hone (x : ServiceItem) : x.writeback = [] ↔ x.waits = false := by
    unfold ServiceItem.writeback
    cases x.waits <;> simp
  unfold State.writebacks
  rw [List.append_eq_nil_iff, hone, hone]
  refine ⟨fun h j hj => ?_, fun h => ⟨h _ h1, h _ h2⟩⟩
  rcases items_of_block hj with rfl | rfl
  · exact h.1
  · exact h.2

theorem writebacks_any (hj : itemBlock j = b) (hw : (s.item j).waitsWorkshop = true) : (s.writebacks b).any id = true := by
  have hone : (s.item j).writeback = [true] := by
    unfold ServiceItem.writeback ServiceItem.waits
    rw [hw, Bool.or_true, if_pos rfl]
  unfold State.writebacks
  rw [List.any_append]
  rcases items_of_block hj with rfl | rfl
  · rw [hone]; rfl
  · rw [hone]; exact Bool.or_true _

/-- What stands before the items' states are formed. -/
structure State.Serviced (s : State) (b i : Nat) (u : State) : Prop where
  filling : s.Filling b i u
  listed : u.ListedAs b (s.writebacks b)
  now : ∀ j, itemBlock j = b → u.itemNow j = s.itemFilledNow b j
  clean : checkGood (s.store.nv.block b) = true → (∀ j, itemBlock j = b → (s.item j).NonePending ∧ (s.item j).waits = false) →
    u.store = s.store.filled b i false
  dirty : checkGood (s.store.nv.block b) = false ∨ (∃ j, itemBlock j = b ∧ (¬(s.item j).NonePending ∨ (s.item j).waits = true)) →
    (u.store.line i).state = .dirty

theorem serviced_of {u : State} (hb : 3 ≤ b) (hb6 : b ≤ 6) (hl : s.service.items.length = 8)
    (hf : ∀ j, itemBlock j = b → (s.itemFigures j).Resets) (hfill : s.Filling b i u) (ho : u.store.orders = []) (ht : u.store.task = .none)
    (hbad : checkGood (s.store.nv.block b) = false → (u.store.line i).state = .dirty)
    (hgood : checkGood (s.store.nv.block b) = true → u.store = s.store.filled b i false)
    (hnow : ∀ j, itemBlock j = b → u.itemNow j = (s.fillFields b (!checkGood (s.store.nv.block b)) j, s.item j)) :
    s.Serviced b i ((u.pendingsTaken b).resetsTaken b) := by
  obtain ⟨h1, h2⟩ := itemBlock_first hb
  obtain ⟨f2, o2, t2, s2, d2, n2⟩ := pendingsTaken_filling hfill hb hb6 hl
  obtain ⟨f3, l3, s3, d3, n3⟩ := resetsTaken_filling f2 hb hb6 hl hf (o2.trans ho) (t2.trans ht)
  have hitem (j : Nat) (hj : itemBlock j = b) : u.item j = s.item j := congrArg Prod.snd (hnow j hj)
  have hnow2 (j : Nat) (hj : itemBlock j = b) := (n2 j hj).trans (congrArg pendingTaken (hnow j hj))
  have hitem2 (j : Nat) (hj : itemBlock j = b) : (u.pendingsTaken b).item j = { s.item j with pendingKm := 0, pendingDays := 0 } :=
    congrArg Prod.snd (hnow2 j hj)
  have hwaits (j : Nat) (hj : itemBlock j = b) : ((u.pendingsTaken b).item j).waits = (s.item j).waits := by rw [hitem2 j hj]; rfl
  have hback (j : Nat) (hj : itemBlock j = b) : ((u.pendingsTaken b).item j).writeback = (s.item j).writeback := by
    rw [hitem2 j hj]; rfl
  refine ⟨f3, ?_, fun j hj => (n3 j hj).trans (congrArg (s.resetDue j) (hnow2 j hj)), fun hg hnone => ?_, fun hd => d3 ?_⟩
  · rw [hback _ h1, hback _ h2] at l3
    exact l3
  · rw [s3 fun j hj => (hwaits j hj).trans (hnone j hj).2, s2 fun j hj => by rw [hitem j hj]; exact (hnone j hj).1]
    exact hgood hg
  · rcases hd with hd | ⟨j, hj, hpending | hw⟩
    · exact .inr (d2 (.inr (hbad hd)))
    · exact .inr (d2 (.inl ⟨j, hj, by rw [hitem j hj]; exact hpending⟩))
    · exact .inl ⟨j, hj, (hwaits j hj).trans hw⟩

theorem serviced_spec (h : s.FillEnds b i) (hb : 3 ≤ b) (hb6 : b ≤ 6) (hl : s.service.items.length = 8) (ht : s.store.task = .none)
    (hf : ∀ j, itemBlock j = b → (s.itemFigures j).Resets) : s.Serviced b i (s.serviced b i) := by
  obtain ⟨hfill, horders, htask, hdirty, hnow⟩ := fillReplaced_filling h hb hf (!checkGood (s.store.nv.block b))
  unfold State.serviced
  refine serviced_of hb hb6 hl hf hfill horders (htask.trans ht) (fun hbad => hdirty (by rw [hbad]; rfl)) (fun hgood => ?_) hnow
  rw [hgood]
  rfl

/-! ### The items formed -/

/-- The state whose store is left to settle. -/
@[irreducible] def State.servicedFormed (s : State) (b i : Nat) : State := ((s.serviced b i).formItems (itemsOf b)).setMark b false

theorem servicedFormed_kept (s : State) (b i : Nat) :
    KeptBut [.service, .arbiter, .sound, .line, .handler] (s.serviced b i) (s.servicedFormed b i) := by
  unfold State.servicedFormed
  exact (formItems_kept (s.serviced b i) (itemsOf b)).trans ((setMark_kept _ _ _).mono (by decide))

theorem fillEnd_service (h : s.FillEnds b i) (hb : 3 ≤ b) (hb6 : b ≤ 6) (hl : s.service.items.length = 8)
    (ht : s.store.task = .none) (hf : ∀ j, itemBlock j = b → (s.itemFigures j).Resets) :
    s.fillEnd b = (s.servicedFormed b i).settleStore := by
  have hspec := serviced_spec h hb hb6 hl ht hf
  have hpin : s.pinAtFill b = false := by rw [pinAtFill_eq h, ht]; rfl
  have htaken : s.fillTaken b = s.setStore (s.store.filled b i false) := by
    rw [fillTaken_eq h, hpin]
    unfold State.taskFilled
    rw [show (s.setStore (s.store.filled b i false)).store.task = .none from ht]
  have hstore : (s.servicedFormed b i).store = (s.serviced b i).store := (servicedFormed_kept s b i).store
  have happlied : (s.servicedFormed b i).taskApplied b = s.servicedFormed b i := by
    unfold State.taskApplied
    rw [hstore, hspec.listed.task]
    cases (s.writebacks b).any id <;> rfl
  rw [fillEnd_eq, if_neg h.awake, if_pos ((serviceBlock_iff b).mpr ⟨hb, hb6⟩), htaken, serviceFill_eq]
  unfold State.servicedFormed State.serviced at happlied ⊢
  exact congrArg State.settleStore happlied

end

end Sys2Proof.Machine
end

section
/-! SUPPORT. The end of a block read: a service block's items, and the obligation's cases. Settles O50. -/
namespace Sys2Proof.Machine
set_option Elab.async false

section
variable {s u t : State} {b i j : Nat}

/-! ### One item -/

theorem itemFilledNow_waits (h : (s.item j).waits = true) : s.itemFilledNow b j =
    ((((s.itemFigures j).distanceInterval : Int), ((s.itemFigures j).dayInterval : Int), s.store.odometerValue),
      (s.item j).resetTo (if s.itemActive j then .ok else (s.item j).state)) := by
  have hsame : (pendingTaken (s.fillFields b (!checkGood (s.store.nv.block b)) j, s.item j)).2.waits = true := h
  unfold State.itemFilledNow State.resetDue
  rw [hsame, if_pos rfl]
  rfl

theorem itemFilledNow_stands (h : (s.item j).waits = false) : s.itemFilledNow b j =
    pendingTaken (s.fillFields b (!checkGood (s.store.nv.block b)) j, s.item j) := by
  have hsame : (pendingTaken (s.fillFields b (!checkGood (s.store.nv.block b)) j, s.item j)).2.waits = false := h
  unfold State.itemFilledNow State.resetDue
  rw [hsame, if_neg Bool.false_ne_true]

theorem pending_cleared {x : ServiceItem} (h : x.waits = false) :
    ({ x with pendingKm := 0, pendingDays := 0 } : ServiceItem) = x.resetTo x.state := by
  obtain ⟨hc, hk⟩ : x.waitsChauffeur = false ∧ x.waitsWorkshop = false := Bool.or_eq_false_iff.mp h
  cases x
  cases hc
  cases hk
  rfl

/-- The item's other fields, and its state where the item is not active. -/
theorem itemFilledNow_item : ∃ x, (s.itemFilledNow b j).2 = (s.item j).resetTo x ∧ (s.itemActive j = false → x = (s.item j).state) ∧
    (x = (s.item j).state ∨ (x = .ok ∧ s.itemActive j = true ∧ (s.item j).waits = true)) := by
  cases hw : (s.item j).waits with
  | true =>
    rw [itemFilledNow_waits hw]
    cases ha : s.itemActive j with
    | true => exact ⟨.ok, rfl, nofun, .inr ⟨rfl, rfl, rfl⟩⟩
    | false => exact ⟨(s.item j).state, rfl, fun _ => rfl, .inl rfl⟩
  | false =>
    refine ⟨(s.item j).state, ?_, fun _ => rfl, .inl rfl⟩
    rw [itemFilledNow_stands hw]
    exact pending_cleared hw

theorem serviced_newState (h : s.Serviced b i u) (hj : itemBlock j = b) :
    u.newItemState j = if s.itemActive j then
      itemStateOf (s.itemFigures j) (u.store.itemFields j).1 (u.store.itemFields j).2.1 else (s.item j).state := by
  obtain ⟨x, hx, hactive, -⟩ := itemFilledNow_item (s := s) (b := b) (j := j)
  have hcal := h.filling.kept.cal
  have hitem : u.item j = (s.item j).resetTo x := (congrArg Prod.snd (h.now j hj)).trans hx
  have hnew : u.newItemState j = if u.itemActive j && u.store.present (itemBlock j) then
      itemStateOf (u.itemFigures j) (u.store.itemFields j).1 (u.store.itemFields j).2.1 else (u.item j).state := rfl
  rw [hnew, itemActive_of_cal hcal, itemFigures_of_cal hcal, hj, h.filling.holds.1, Bool.and_true, hitem]
  cases ha : s.itemActive j with
  | true => rfl
  | false => exact hactive ha

/-- The requirement's words for one item of the filled block. -/
theorem serviced_itemFilled (h : s.Serviced b i u) (hj : itemBlock j = b) (hitem : t.item j = u.formedItem j)
    (hdata : t.store.dataOf b = u.store.dataOf b) :
    s.ItemFilled j ((List.range 15).map fun k => s.store.nv.read (16 * b + k)) (checkGood (s.store.nv.block b)) t := by
  have hfields : t.store.itemFields j = u.store.itemFields j := itemFields_of_data (by rw [hj]; exact hdata)
  have hnow : u.store.itemFields j = (s.itemFilledNow b j).1 := congrArg Prod.fst (h.now j hj)
  have hall := hfields.trans hnow
  have hkm : t.store.remainingKm j = (s.itemFilledNow b j).1.1 := congrArg Prod.fst hall
  have hdays : t.store.remainingDays j = (s.itemFilledNow b j).1.2.1 := congrArg (fun p => p.2.1) hall
  have hodo : tripleAt (t.store.dataOf (itemBlock j)) (itemOffset j + 4) = (s.itemFilledNow b j).1.2.2 := congrArg (fun p => p.2.2) hall
  rw [← block_take]
  refine ⟨fun hw => ?_, fun hw => ?_, ?_⟩
  · have hstands := itemFilledNow_stands (b := b) (eq_false_of_ne_true fun k => hw ((waits_iff _).mp k))
    rw [hkm, hdays, hodo, hstands]
    unfold State.fillFields
    cases checkGood (s.store.nv.block b) <;> exact ⟨rfl, rfl, rfl⟩
  · have hreset := itemFilledNow_waits (b := b) ((waits_iff _).mpr hw)
    rw [hkm, hdays, hodo, hreset]
    exact ⟨rfl, rfl, rfl⟩
  · obtain ⟨x, hx, -⟩ := itemFilledNow_item (s := s) (b := b) (j := j)
    have hu : u.item j = (s.item j).resetTo x := (congrArg Prod.snd (h.now j hj)).trans hx
    rw [hitem, State.formedItem, serviced_newState h hj, hu, ← hfields]
    rfl

/-! ### The warnings raised -/

theorem not_worsens_ok (x : ItemState) (w : Nat) : ¬Worsens x .ok w := by
  unfold Worsens
  simp

theorem serviced_raises (h : s.Serviced b i u) (hb : 3 ≤ b) (hb6 : b ≤ 6) (hl : s.service.items.length = 8)
    (hf : ∀ j, itemBlock j = b → (s.itemFigures j).Resets) (ha : s.ign.awake = true) (hw : s.arbiter.warnings.length = 32)
    (hitems : t.service.items = (u.formItems (itemsOf b)).service.items)
    (harbiter : t.arbiter = (u.formItems (itemsOf b)).arbiter) : s.RaisesForItems t := by
  have hkept := h.filling.kept
  have hlength : u.service.items.length = 8 := h.filling.items.trans hl
  have hraised := formItems_raised (s := u) (is := itemsOf b) (by rw [hkept.ign]; exact ha) (by rw [hkept.arbiter]; exact hw)
    hlength (itemsOf_lt hb6)
  have hitem : ∀ k, t.item k = (u.formItems (itemsOf b)).item k := item_of_items hitems
  have hworse (k : Nat) (hk : k < 8) (v : Nat) : Worsens (u.item k).state ((u.formItems (itemsOf b)).item k).state v ↔
      Worsens (s.item k).state (t.item k).state v := by
    rw [hitem]
    by_cases hkb : itemBlock k = b
    · obtain ⟨x, hx, -, hstate⟩ := itemFilledNow_item (s := s) (b := b) (j := k)
      have hu : (u.item k).state = x := congrArg ServiceItem.state ((congrArg Prod.snd (h.now k hkb)).trans hx)
      rcases hstate with rfl | ⟨rfl, hactive, hwaits⟩
      · rw [hu]
      · have hfields : u.store.itemFields k = (((s.itemFigures k).distanceInterval : Int), ((s.itemFigures k).dayInterval : Int),
            s.store.odometerValue) := congrArg Prod.fst ((h.now k hkb).trans (itemFilledNow_waits hwaits))
        have hok : ((u.formItems (itemsOf b)).item k).state = .ok := by
          rw [formItems_item _ (by omega), if_pos ((mem_itemsOf hb).mpr hkb)]
          show u.newItemState k = .ok
          rw [serviced_newState h hkb, hactive, if_pos rfl, hfields]
          exact itemStateOf_fresh (hf k hkb).fresh
        rw [hok]
        exact iff_of_false (not_worsens_ok _ _) (not_worsens_ok _ _)
    · rw [h.filling.others k hkb]
  refine raisesForItems_of fun v hv => ?_
  have hone := hraised v hv
  rw [warningFigures_of_cal hkept.cal, warning_of_warnings (congrArg Arbiter.warnings hkept.arbiter)] at hone
  rw [warning_of_warnings (congrArg Arbiter.warnings harbiter)]
  exact hone.congr (and_congr_right fun _ => exists_congr fun k => and_congr_right fun hk => hworse k hk v)

end

end Sys2Proof.Machine
end

section
/-! SUPPORT. The commands that end a block read. Settles O50. -/
namespace Sys2Proof.Machine
set_option Elab.async false

theorem settleStore_store_eq (x : State) : x.settleStore.store = (x.store.settle settleFuel).1 := by
  unfold State.settleStore
  split
  · next st r h => rw [(returnStatus_kept _ _ _).store, h]; rfl
  · next st h => rw [h]; rfl

theorem setMark_units (s : State) (b : Nat) (x : Bool) : (s.setMark b x).service.items = s.service.items ∧
    (s.setMark b x).service.selected = s.service.selected := ⟨rfl, rfl⟩

theorem mem_enter (l : LineStation) (topic cls : Nat) (kind : MsgKind) (data : List Byte) (answer : Answer) :
    ∃ m ∈ (l.enter topic cls kind data answer).queue, m.topic = topic ∧ m.started = false ∧ m.answer = answer ∧ m.data = data :=
  ⟨_, List.mem_append_right _ (List.mem_singleton.mpr rfl), rfl, rfl, rfl, rfl⟩

section
variable {s : State} {b i : Nat}

/-! ### A service block -/

/-- The fill of a service block comes to its end, its items' figures as the image limits them. -/
structure State.ServiceFillEnds (s : State) (b i : Nat) : Prop where
  ends : s.FillEnds b i
  low : 3 ≤ b
  high : b ≤ 6
  task : s.store.task = .none
  items : s.service.items.length = 8
  marks : s.service.fetchMarks.length = 4
  figures : ∀ j, itemBlock j = b → (s.itemFigures j).Resets

theorem State.ServiceFillEnds.spec (h : s.ServiceFillEnds b i) : s.Serviced b i (s.serviced b i) :=
  serviced_spec h.ends h.low h.high h.items h.task h.figures

/-- The end of the command. -/
def State.serviceEnd (s : State) (b i : Nat) : State := (s.servicedFormed b i).settleStore

theorem exec_serviceFill (h : s.ServiceFillEnds b i) : exec .blockReadEnd s = .next (State.present s (s.serviceEnd b i)) := by
  rw [exec_readFill h.ends, fillEnd_service h.ends h.low h.high h.items h.task h.figures]
  rfl

theorem serviceEnd_kept (h : s.ServiceFillEnds b i) :
    KeptBut [.store, .service, .arbiter, .sound, .line, .handler] s (s.serviceEnd b i) :=
  ((h.spec.filling.kept.mono (by decide)).trans ((servicedFormed_kept s b i).mono (by decide))).trans
    ((settleStore_kept _).mono (by decide))

theorem serviceEnd_store (s : State) (b i : Nat) : (s.serviceEnd b i).store = ((s.serviced b i).store.settle settleFuel).1 := by
  unfold State.serviceEnd
  rw [settleStore_store_eq, (servicedFormed_kept s b i).store]

theorem serviceEnd_reads (h : s.ServiceFillEnds b i) : (s.serviced b i).store.ReadsAs (s.serviceEnd b i).store := by
  have hspec := h.spec
  rw [serviceEnd_store]
  exact (settle_listed hspec.listed.orders hspec.listed.task hspec.filling.waiting 63).2

theorem serviceEnd_service (s : State) (b i : Nat) :
    (s.serviceEnd b i).service = (((s.serviced b i).formItems (itemsOf b)).setMark b false).service := by
  unfold State.serviceEnd
  rw [(settleStore_kept (s.servicedFormed b i)).service, State.servicedFormed]

theorem serviceEnd_items (s : State) (b i : Nat) :
    (s.serviceEnd b i).service.items = ((s.serviced b i).formItems (itemsOf b)).service.items := by
  rw [serviceEnd_service, (setMark_units _ _ _).1]

theorem serviceEnd_arbiter (s : State) (b i : Nat) :
    (s.serviceEnd b i).arbiter = ((s.serviced b i).formItems (itemsOf b)).arbiter := by
  unfold State.serviceEnd
  rw [(settleStore_kept (s.servicedFormed b i)).arbiter, State.servicedFormed, (setMark_kept _ _ _).arbiter]

theorem serviceEnd_item (h : s.ServiceFillEnds b i) {j : Nat} (hj : itemBlock j = b) :
    (s.serviceEnd b i).item j = (s.serviced b i).formedItem j := by
  have hlt : j < 8 := by
    have := h.high
    unfold itemBlock at hj
    omega
  rw [item_of_items (serviceEnd_items s b i), formItems_item _ (by rw [h.spec.filling.items, h.items]; exact hlt),
    if_pos ((mem_itemsOf h.low).mpr hj)]

theorem serviceEnd_other (h : s.ServiceFillEnds b i) {j : Nat} (hj : itemBlock j ≠ b) : (s.serviceEnd b i).item j = s.item j := by
  rw [item_of_items (serviceEnd_items s b i)]
  by_cases hlt : j < (s.serviced b i).service.items.length
  · rw [formItems_item _ hlt, if_neg fun k => hj ((mem_itemsOf h.low).mp k)]
    exact h.spec.filling.others j hj
  · have hlength : ((s.serviced b i).formItems (itemsOf b)).service.items.length = s.service.items.length := by
      rw [formItems_service, formQuietly_length]
      exact h.spec.filling.items
    rw [h.spec.filling.items] at hlt
    unfold State.item
    rw [List.getD_eq_default _ _ (by rw [hlength]; exact Nat.le_of_not_lt hlt), List.getD_eq_default _ _ (Nat.le_of_not_lt hlt)]

theorem serviceEnd_marks (h : s.ServiceFillEnds b i) : (s.serviceEnd b i).service.mark b = false ∧
    (∀ c, 3 ≤ c → c ≠ b → (s.serviceEnd b i).service.mark c = s.service.mark c) ∧
    (s.serviceEnd b i).service.selected = s.service.selected := by
  have hmarks : ((s.serviced b i).formItems (itemsOf b)).service.fetchMarks = s.service.fetchMarks := by
    rw [formItems_service, formQuietly_marks]
    exact h.spec.filling.marks
  have hlength := (congrArg List.length hmarks).trans h.marks
  rw [serviceEnd_service]
  refine ⟨mark_setMark_same hlength h.low h.high false, fun c hc hne => ?_, ?_⟩
  · rw [mark_setMark_ne _ h.low hc hne]
    unfold Service.mark
    rw [hmarks]
  · rw [(setMark_units _ _ _).2, formItems_selected]
    exact h.spec.filling.selected

theorem serviceEnd_unasked (h : s.ServiceFillEnds b i) (hnone : ∀ j, itemBlock j = b → (s.item j).waits = false) :
    (s.serviceEnd b i).store = (s.serviced b i).store ∧ (s.serviced b i).store.orders = [] ∧ (s.serviced b i).store.op = none := by
  have hspec := h.spec
  have horders := hspec.listed.orders
  have htask := hspec.listed.task
  rw [(writebacks_nil h.low).mpr hnone] at horders htask
  have hrest : (s.serviced b i).store.AtRest := ⟨horders, hspec.filling.op, hspec.filling.waiting, htask⟩
  refine ⟨?_, horders, hspec.filling.op⟩
  rw [serviceEnd_store, settle_settled (settled_atRest hrest)]

theorem serviceEnd_writes (h : s.ServiceFillEnds b i) (hp : s.store.pwrGood = true) (hf : s.store.nvFault = false) {j : Nat}
    (hj : itemBlock j = b) (hw : (s.item j).waits = true) :
    (s.serviceEnd b i).store.op = some (.write i ((s.serviceEnd b i).store.dataOf b) .single 4) ∧
      ((s.serviceEnd b i).store.line i).state = .writing := by
  have hspec := h.spec
  have hne : s.writebacks b ≠ [] := fun hnil => by
    rw [(writebacks_nil h.low).mp hnil j hj] at hw
    cases hw
  rw [serviceEnd_store]
  exact settle_listed_writes hspec.listed.orders hspec.listed.task hspec.filling.waiting hne hspec.filling.op
    (hspec.filling.power.trans hp) (hspec.filling.fault.trans hf) hspec.filling.line (hspec.dirty (.inr ⟨j, hj, .inr hw⟩)) 62

theorem serviceEnd_answers (h : s.ServiceFillEnds b i) {j : Nat} (hj : itemBlock j = b) (hw : (s.item j).waitsWorkshop = true)
    (hroom : s.line.queue.length < 10) (ho : s.line.Open 0x70) :
    (s.serviceEnd b i).handler = { s.handler with state := .replying } ∧
      ∃ m ∈ (s.serviceEnd b i).line.queue, m.topic = 0x70 ∧ m.started = false ∧ m.answer = .own ∧
        m.data = [byteOf s.handler.topic, 0] := by
  have hspec := h.spec
  have hend := (settle_listed hspec.listed.orders hspec.listed.task hspec.filling.waiting 63).1
  rw [writebacks_any hj hw, if_pos rfl] at hend
  have hsettle : (s.serviceEnd b i) =
      ((s.servicedFormed b i).setStore ((s.serviced b i).store.settle settleFuel).1).returnStatus .done [] := by
    unfold State.serviceEnd State.settleStore
    rw [(servicedFormed_kept s b i).store]
    have hpair : (s.serviced b i).store.settle settleFuel = (((s.serviced b i).store.settle settleFuel).1, some .done) :=
      Prod.ext rfl hend
    rw [hpair]
  have hsummary : s.Summarised ((s.servicedFormed b i).setStore ((s.serviced b i).store.settle settleFuel).1) := by
    refine .of_kept (setStore_kept _ _) ?_
    unfold State.servicedFormed
    refine .of_kept (setMark_kept _ _ _) (State.Summarised.formItems ?_ (by omega) _)
    exact .of_kept hspec.filling.kept (.refl s)
  obtain ⟨hhandler, hline⟩ := hsummary.answers ho (by omega) .done []
  rw [hsettle]
  refine ⟨hhandler, ?_⟩
  rw [hline]
  exact mem_enter _ _ _ _ _ _

theorem serviceEnd_raises (h : s.ServiceFillEnds b i) (ha : s.ign.awake = true) (hw : s.arbiter.warnings.length = 32) :
    s.RaisesForItems (State.present s (s.serviceEnd b i)) :=
  serviced_raises h.spec h.low h.high h.items h.figures ha hw
    ((congrArg Service.items (State.present_service _ _)).trans (serviceEnd_items s b i))
    ((State.present_arbiter _ _).trans (serviceEnd_arbiter s b i))

/-! ### Any other block -/

theorem serviceBlock_high (hb : 7 ≤ b) : serviceBlock b = false := eq_false_of_ne_true fun k => by
  have := (serviceBlock_iff b).mp k
  omega

theorem userFill_unasked (h : s.FillEnds b i) (hb : 7 ≤ b) (ht : s.store.task = .none) :
    ∃ t, exec .blockReadEnd s = .next t ∧ KeptBut [.store, .display] s t ∧ t.store = s.store.filledFor b i false := by
  have hfilled : s.store.filled b i false = s.store.filledFor b i false := by
    unfold Store.filledFor
    rw [← ht]
    rfl
  refine ⟨_, (exec_readFill h).trans (by rw [fillEnd_unasked h (serviceBlock_high hb) ht]), present_frame (setStore_kept _ _), ?_⟩
  rw [State.present_store]
  exact hfilled

theorem byteOf_source (good : Bool) : byteOf (if !good then 2 else 1) = if good then 1 else 2 := by
  cases good <;> rfl

end

/-- Settles O50: the ends of a fill of a block of the workshop's and of a service block, and of a VERIFY's read. -/
theorem blockReadsEnd : Obligations.BlockReadsEnd := by
  intro s b hload hwaiting read good replies
  refine ⟨fun i hop horders hfind hfilling hb => ?_, fun i hop horders hfind hfilling hb hb6 ht hitems hmarks hfigures => ?_,
    fun hop horders hopen => ?_⟩
  · intro filled rest
    have h : s.FillEnds b i := ⟨hload, hwaiting, hop, horders, hfind, hfilling⟩
    have huser := serviceBlock_high hb
    refine ⟨fun ht => ?_, fun pin ht hopen => ?_, fun o ho ht hopen => ?_, fun o data ht hopen hlatch => ?_⟩
    · obtain ⟨t, he, hk, hstore⟩ := userFill_unasked h hb ht
      obtain ⟨h1, h2, h3, h4, h5, h6⟩ := filled_frame h false hstore
      exact ⟨t, he, hk, ⟨h1, h2, h3, h4, h5⟩, h6⟩
    · obtain ⟨hk, hstore, hhandler, hline⟩ := answered_of hopen (fillEnd_fetched h huser ht)
      obtain ⟨h1, h2, h3, h4, h5, h6⟩ := filled_frame h pin hstore
      exact ⟨_, exec_readFill h, hk, ⟨h1, h2, h3, h4, h5⟩, h6, hhandler, hline⟩
    · obtain ⟨hk, hstore, hhandler, hline⟩ := answered_of hopen (fillEnd_read h huser ht)
      obtain ⟨h1, h2, h3, h4, h5, h6⟩ := filled_frame h false hstore
      rw [readResult_eq (by rw [block_take_length]; omega), byteOf_source, block_take] at hline
      refine ⟨_, exec_readFill h, hk, ⟨h1, h2, h3, h4, h5⟩, h6, fun hgood => ⟨hhandler, ?_⟩, fun hbad => ⟨hhandler, ?_⟩⟩
      · rw [hline, (checkGood_iff _ _).mpr hgood]
        rfl
      · rw [hline, eq_false_of_ne_true (mt (checkGood_iff _ _).mp hbad)]
        rfl
    · have hrefused : s.store.writeRefused b = false := by
        unfold Store.writeRefused
        rw [hlatch]
        simp
        omega
      obtain ⟨hk, hstore, hhandler, hline⟩ := answered_of hopen (fillEnd_written h huser ht hrefused)
      obtain ⟨h1, h2, h3, h4, h5, h6⟩ := filled_frame h false rfl
      obtain ⟨hthere, hother⟩ := filled_written h fun bs => splice bs o data
      obtain ⟨o1, o2, -, o3, -, -, -, -, -, o4⟩ := update_rest (s.store.filledFor b i false) b fun bs => splice bs o data
      refine ⟨_, exec_readFill h, hk, ⟨?_, ?_, ?_, ?_, fun j hj hj' => ?_⟩, ?_, hhandler, hline⟩
      · rw [hstore, o1, h1]
      · rw [hstore, o2, h2]
      · rw [hstore, o3, h3]
      · rw [hstore, o4, h4]
      · rw [hstore, hother j hj hj', h5 j hj hj']
      · rw [hstore, hthere, h6]
  · intro here waits
    have hlt (j : Nat) (hj : itemBlock j = b) : j < 8 := by
      unfold itemBlock at hj
      omega
    have h : s.ServiceFillEnds b i := ⟨⟨hload, hwaiting, hop, horders, hfind, hfilling⟩, hb, hb6, ht, hitems, hmarks, fun j hj => by
      obtain ⟨hkm, hdays, hahead, hahead'⟩ := hfigures j (hlt j hj)
      exact ⟨hkm, hdays, hahead, hahead'⟩⟩
    have hspec := h.spec
    have hreads := serviceEnd_reads h
    have hstore := State.present_store s (s.serviceEnd b i)
    have hservice := State.present_service s (s.serviceEnd b i)
    have hitem (j : Nat) : (State.present s (s.serviceEnd b i)).item j = (s.serviceEnd b i).item j := item_of_items (by rw [hservice]) j
    have hdecide : decide good = checkGood (s.store.nv.block b) := by
      rw [Bool.eq_iff_iff, decide_eq_true_iff]
      exact (checkGood_iff _ _).symm
    obtain ⟨hmark, hothers, hselected⟩ := serviceEnd_marks h
    refine ⟨_, exec_serviceFill h, (present_frame_keys (serviceEnd_kept h)).mono (by decide), serviceEnd_raises h, fun j hj => ?_,
      fun j hj => ?_, ?_, fun c hc hne => ?_, ?_, ?_, fun c hc => ?_, fun hnone => ?_, fun _ hp hf j hj hw => ⟨?_, ?_, fun hask hroom hopen => ?_⟩⟩
    · rw [hdecide]
      exact serviced_itemFilled hspec hj.2 ((hitem j).trans (serviceEnd_item h hj.2)) (by rw [hstore]; exact hreads.data b)
    · rw [hitem]
      exact serviceEnd_other h fun k => hj ⟨hlt j k, k⟩
    · rw [hservice]
      exact hmark
    · rw [hservice]
      exact hothers c hc hne
    · rw [hservice]
      exact hselected
    · rw [hstore, hreads.nv]
      exact hspec.filling.nv
    · rw [hstore, hreads.data]
      exact hspec.filling.reads c hc
    · have hnone' : ∀ j, itemBlock j = b → (s.item j).waits = false := fun j hj =>
        eq_false_of_ne_true fun k => hnone j ⟨hlt j hj, hj⟩ ((waits_iff _).mp k)
      obtain ⟨hsame, horders', hop'⟩ := serviceEnd_unasked h hnone'
      rw [hstore, hsame]
      refine ⟨horders', hop', fun hgood hpending => ?_, fun hd => hspec.dirty ?_⟩
      · have hclean := hspec.clean ((checkGood_iff _ _).mpr hgood) fun j hj => ⟨hpending j ⟨hlt j hj, hj⟩, hnone' j hj⟩
        rw [hclean]
        exact ⟨by rw [filled_line (line_lt h.ends) false], by rw [filled_data h.ends, block_take]⟩
      · rcases hd with hbad | ⟨j, hj, hpending⟩
        · exact .inl (eq_false_of_ne_true (mt (checkGood_iff _ _).mp hbad))
        · exact .inr ⟨j, hj.2, .inl hpending⟩
    · rw [hstore]
      exact (serviceEnd_writes h hp hf hj.2 ((waits_iff _).mpr hw)).1
    · rw [hstore]
      exact (serviceEnd_writes h hp hf hj.2 ((waits_iff _).mpr hw)).2
    · obtain ⟨hhandler, hmsg⟩ := serviceEnd_answers h hj.2 hask hroom hopen
      rw [State.present_handler, State.present_line]
      exact ⟨hhandler, hmsg⟩
  · obtain ⟨t, he, hk, hstore, hhandler, x, hline, hx, hmismatch⟩ := verify_answered hop horders hwaiting hopen
    exact ⟨t, he, hk, hstore, hhandler, x, hline, hx.trans (verifies_iff _ _), hmismatch⟩

end Sys2Proof.Machine
end

section
/-! SUPPORT. A walk of the lines (R175, R176): how the store settles with one as its only order. -/
namespace Sys2Proof.Machine
set_option Elab.async false

theorem reaches_more {st : Store} {k : Nat} {r : Store × Option Status} (h : st.Reaches k r) : st.Reaches (k + 1) r := fun m => by
  rw [show m + (k + 1) = (m + 1) + k by omega]
  exact h (m + 1)

/-- The walk's next line: the first DIRTY one from its position on. -/
theorem dirtyFrom_some {st : Store} {p i : Nat} (h : st.dirtyFrom p = some i) :
    i < 8 ∧ p ≤ i ∧ (st.line i).state = .dirty ∧ ∀ k < i, ¬(p ≤ k ∧ k < 8 ∧ (st.line k).state = .dirty) := by
  obtain ⟨hp, before, after, heq, hno⟩ := List.find?_eq_some_iff_append.mp h
  rw [Bool.and_eq_true, decide_eq_true_eq, beq_iff_eq] at hp
  have hi : i < 8 := List.mem_range.mp (heq ▸ by simp)
  have hlen : before.length = i := by
    have hat : (List.range 8)[before.length]? = some i := by rw [heq]; simp
    rw [List.getElem?_eq_some_iff] at hat
    obtain ⟨hlt, hat⟩ := hat
    simpa using hat
  refine ⟨hi, hp.1, hp.2, fun k hk ⟨hpk, _, hd⟩ => ?_⟩
  have hmem : k ∈ before := by
    have hat : (List.range 8)[k]? = before[k]? := by rw [heq, List.getElem?_append_left (by omega)]
    rw [List.getElem?_range (by omega)] at hat
    exact List.mem_of_getElem? hat.symm
  have := hno k hmem
  rw [hd] at this
  simp [hpk] at this

theorem dirtyFrom_none {st : Store} {p : Nat} (h : st.dirtyFrom p = none) (j : Nat) :
    ¬(p ≤ j ∧ j < 8 ∧ (st.line j).state = .dirty) := fun ⟨hp, hj, hd⟩ => by
  have := List.find?_eq_none.mp h j (List.mem_range.mpr hj)
  rw [hd] at this
  simp [hp] at this

/-- The lines after a walk has gone on: as they were, or with the line whose write has begun. -/
def Store.WalkLines (lines : List CacheLine) (u : Store) : Prop :=
  u.lines = lines ∨ ∃ j, u.lines = lines.modify j fun l => { l with state := .writing, redirty := false }

/-- What settling leaves of a store whose only order is a walk. -/
structure Store.WalkSettles (h : Bool) (p : Nat) (st u : Store) : Prop where
  goes : u.WalkGoes h p st.lines
  same : u = { st with orders := u.orders, op := u.op, lines := u.lines }
  lines : u.WalkLines st.lines

theorem walkGoes_over {st : Store} {h : Bool} {p : Nat} (ho : st.orders = []) (hop : st.op = none)
    (hd : st.nvFault = true ∨ ∀ j, ¬(p ≤ j ∧ j < 8 ∧ (st.line j).state = .dirty)) : st.WalkGoes h p st.lines :=
  ⟨fun _ => ⟨ho, hop, rfl⟩, fun j _ hf hdirty _ => hd.elim (fun k => by rw [hf] at k; cases k) fun k => absurd hdirty (k j)⟩

/-- A store whose only order is a walk, no request waiting, goes on with it at once. -/
theorem reaches_walk {st : Store} {h : Bool} {p : Nat} (ht : st.task.passive = true) (hw : st.waiting = []) (hop : st.op = none)
    (ho : st.orders = [.walk h p]) : ∃ u, st.Reaches 1 (u, none) ∧ st.WalkSettles h p u := by
  have hend : st.endOrder 0 = { st with orders := [] } := endOrder_one ho nofun
  have hover (hcan : st.canStart (.walk h p) = true) (hs : st.startOrder 0 = st.endOrder 0)
      (hd : st.nvFault = true ∨ ∀ j, ¬(p ≤ j ∧ j < 8 ∧ (st.line j).state = .dirty)) :
      ∃ u, st.Reaches 1 (u, none) ∧ st.WalkSettles h p u := by
    refine ⟨{ st with orders := [] }, reaches_engine (taskOne_passive ht) (admitOne_empty hw) (engineOne_one ho hop hcan) ?_,
      walkGoes_over (st := { st with orders := [] }) rfl hop hd, rfl, .inl rfl⟩
    rw [hs, hend]
    exact reaches_settled (settled_of (taskOne_passive (st := { st with orders := [] }) ht) hw (.inl rfl))
  by_cases hf : st.nvFault = true
  · refine hover ?_ ?_ (.inl hf)
    · unfold Store.canStart Store.writesNext Store.walkWrites
      rw [hf]
      simp
    · unfold Store.startOrder
      rw [ho]
      exact if_pos hf
  cases hd : st.dirtyFrom p with
  | none =>
    refine hover ?_ ?_ (.inr (dirtyFrom_none hd))
    · rw [Store.canStart, show st.writesNext (.walk h p) = false by
        show st.walkWrites p = false
        unfold Store.walkWrites
        rw [hd]
        simp]
      simp
    · unfold Store.startOrder
      rw [ho]
      dsimp only [List.getElem?_cons_zero]
      rw [if_neg hf, hd]
  | some i =>
    obtain ⟨hi, hp, hdirty, hfirst⟩ := dirtyFrom_some hd
    have hunique {j : Nat} (hj : j < 8) (hdj : p ≤ j ∧ j < 8 ∧ (st.line j).state = .dirty)
        (hno : ∀ k < j, ¬(p ≤ k ∧ k < 8 ∧ (st.line k).state = .dirty)) : j = i := by
      rcases Nat.lt_trichotomy j i with k | k | k
      · exact absurd hdj (hfirst j k)
      · exact k
      · exact absurd ⟨hp, hi, hdirty⟩ (hno i k)
    by_cases hg : st.pwrGood = true
    · have hs : st.startOrder 0 = ({ st with orders := [.walk h i] } : Store).startWrite i .walk := by
        unfold Store.startOrder
        rw [ho]
        dsimp only [List.getElem?_cons_zero]
        rw [if_neg hf, hd]
        rfl
      refine ⟨({ st with orders := [.walk h i] } : Store).startWrite i .walk,
        reaches_engine (taskOne_passive ht) (admitOne_empty hw) (engineOne_one ho hop (canStart_pwrGood hg _)) ?_,
        ⟨fun k => ?_, fun j hj _ hdj hno => ⟨fun _ => ?_, fun k => ?_⟩⟩, rfl, .inr ⟨i, rfl⟩⟩
      · rw [hs]
        exact reaches_settled (settled_of (taskOne_passive ht) hw (.inr rfl))
      · rcases k with k | k
        · exact absurd k hf
        · exact absurd ⟨hp, hi, hdirty⟩ (k i hi)
      · obtain rfl := hunique hj hdj hno
        exact ⟨rfl, rfl, rfl⟩
      · exact absurd (k.symm.trans hg) Bool.false_ne_true
    · have hg' := eq_false_of_ne_true hg
      have hstop : st.canStart (.walk h p) = false := canStart_held hg' (by
        show st.walkWrites p = true
        unfold Store.walkWrites
        rw [hd, eq_false_of_ne_true hf]
        rfl)
      refine ⟨st, reaches_more (reaches_settled ⟨taskOne_passive ht, admitOne_empty hw, engineOne_stopped ho hstop⟩),
        ⟨fun k => ?_, fun j hj _ hdj hno => ⟨fun k => absurd k hg, fun _ => ⟨ho, hop, rfl⟩⟩⟩, rfl, .inl rfl⟩
      rcases k with k | k
      · exact absurd k hf
      · exact absurd ⟨hp, hi, hdirty⟩ (k i hi)

/-- A walk at position `p`, which is over once it has passed the last line. -/
def Store.WalkAt (h : Bool) (p : Nat) (st : Store) : Prop := st.orders = [.walk h p] ∨ (st.orders = [] ∧ 8 ≤ p)

theorem reaches_walkAt {st : Store} {h : Bool} {p : Nat} (ht : st.task.passive = true) (hw : st.waiting = [])
    (hop : st.op = none) (ho : st.WalkAt h p) : ∃ u, st.Reaches 1 (u, none) ∧ st.WalkSettles h p u := by
  rcases ho with ho | ⟨ho, hp⟩
  · exact reaches_walk ht hw hop ho
  · exact ⟨st, reaches_more (reaches_settled (settled_of (taskOne_passive ht) hw (.inl ho))),
      walkGoes_over ho hop (.inr fun j k => by omega), rfl, .inl rfl⟩

/-- A line that a walk goes on with is reported still. -/
theorem walkLines_reported {lines : List CacheLine} {u : Store} (h : u.WalkLines lines) {j : Nat}
    (hj : (lines.getD j .invalid).state ∈ [.dirty, .writing]) : u.dirtyReported = true := by
  refine dirtyReported_of_line (j := j) ?_
  unfold Store.line
  rcases h with h | ⟨k, h⟩
  · rw [h]
    exact hj
  · rw [h, List.getD_eq_getElem?_getD, List.getElem?_modify]
    rw [List.getD_eq_getElem?_getD] at hj
    cases hat : lines[j]? with
    | none => rw [hat] at hj; simp [CacheLine.invalid] at hj
    | some l =>
      rw [hat] at hj
      by_cases hk : k = j
      · simp [hk]
      · simpa [hk] using hj

end Sys2Proof.Machine
end

section
/-! SUPPORT. The ends of a block write: success, failure, and the fall of PWR-GOOD. Settles O51. -/
namespace Sys2Proof.Machine
set_option Elab.async false

/-! ### The port's level -/

/-- The store with PWR-GOOD at `x`. -/
def Store.powered (st : Store) (x : Bool) : Store := { st with pwrGood := x }

theorem cond_of_ite_none {p : Prop} [Decidable p] {α : Type} {x : Option α} (hx : x ≠ none)
    (h : (if p then none else x) = none) : p := by_contra fun k => hx ((if_neg k).symm.trans h)

/-- A task waits on whatever stands before its end; the power has no part in it. -/
theorem taskOne_powered {st : Store} (h : st.taskOne = none) (x : Bool) : (st.powered x).taskOne = none := by
  unfold Store.taskOne at h ⊢
  rw [show (st.powered x).task = st.task from rfl]
  cases ht : st.task with
  | writeback b => rw [ht] at h; exact if_pos (cond_of_ite_none (by nofun) h)
  | invalidate b => rw [ht] at h; exact if_pos (cond_of_ite_none (by split <;> nofun) h)
  | placing => rw [ht] at h; exact if_pos (cond_of_ite_none (by nofun) h)
  | writebackInvalidate b w => rw [ht] at h; cases w <;> exact if_pos (cond_of_ite_none (by split <;> nofun) h)
  | _ => rfl

theorem canGoOn_powered (st : Store) (x : Bool) : (st.powered x).canGoOn = st.canGoOn := by
  funext w
  cases w <;> rfl

theorem admitOne_powered (st : Store) (x : Bool) : (st.powered x).admitOne.isNone = st.admitOne.isNone := by
  unfold Store.admitOne
  rw [canGoOn_powered, show (st.powered x).waiting = st.waiting from rfl]
  split
  · next k _ =>
    split
    · next b y _ =>
      rw [show (st.powered x).victim (setOf b) = st.victim (setOf b) from rfl]
      cases st.victim (setOf b) <;> rfl
    · rfl
    · rfl
  · rfl

/-- The engine selects an order wherever one is listed and the power lets every order start. -/
theorem orders_of_selected_none {st : Store} (hg : st.pwrGood = true) (h : st.selected = none) : st.orders = [] := by
  rcases ho : st.orders with _ | ⟨o, rest⟩
  · rfl
  · exfalso
    have hrank : o.rank < 5 := by
      cases o with
      | walk x p => cases x <;> simp [Order.rank]
      | _ => simp [Order.rank]
    have hno := List.findSome?_eq_none_iff.mp h o.rank (List.mem_range.mpr hrank)
    rw [List.findIdx?_eq_none_iff] at hno
    have := hno o (ho ▸ List.mem_cons_self)
    rw [canStart_pwrGood hg] at this
    simp at this

/-- A fall of PWR-GOOD moves no settled store that writes nothing. -/
theorem settled_powerless {st : Store} (h : st.Settled) : (st.powered false).Settled := by
  obtain ⟨ht, ha, he⟩ := h
  refine ⟨taskOne_powered ht false,
    Option.isNone_iff_eq_none.mp ((admitOne_powered st false).trans (by rw [ha]; rfl)), ?_⟩
  cases hop : st.op with
  | some x => exact engineOne_busy (by show st.op.isSome = true; rw [hop]; rfl)
  | none =>
    by_cases hg : st.pwrGood = true
    · refine engineOne_empty (orders_of_selected_none (st := st) hg ?_)
      unfold Store.engineOne at he
      rw [hop] at he
      exact Option.map_eq_none_iff.mp he
    · have hsame : st.powered false = st := by
        unfold Store.powered
        rw [← eq_false_of_ne_true hg]
      rw [hsame]
      exact he

/-! ### The store after a write -/

/-- The orders after the write of line `i`. -/
def Store.servedOrders (st : Store) (i : Nat) : WriteFor → List Order
  | .single => []
  | .walk => (st.orders.map (Order.pastLine i)).filter fun o => !o.walked
  | .restarted => st.orders

theorem writeServed_orders {st : Store} (i : Nat) {serves : WriteFor}
    (hs : serves = .single → ∃ b w, st.orders = [.single b w none]) :
    st.writeServed i serves = { st with orders := st.servedOrders i serves } := by
  cases serves with
  | walk => rfl
  | restarted => rfl
  | single =>
    obtain ⟨b, w, ho⟩ := hs rfl
    have hend : st.endOrder 0 = { st with orders := [] } := endOrder_one ho nofun
    show st.endKind Order.isSingle = { st with orders := [] }
    unfold Store.endKind
    rw [ho]
    exact hend

/-- The store after a write that succeeded. -/
def Store.wrote (st : Store) (i : Nat) (snapshot : List Byte) (serves : WriteFor) : Store :=
  { st with
    lines := st.lines.modify i CacheLine.written, orders := st.servedOrders i serves, op := none
    consecutiveFailures := 0, nv := st.nv.writeBlock (st.blockOf i) snapshot }

/-- The store after a write that failed. -/
def Store.failed (st : Store) (i : Nat) (serves : WriteFor) (k : Nat) : Store :=
  { st with
    lines := st.lines.modify i CacheLine.unwritten, orders := st.servedOrders i serves, op := none
    nvFailures := satAdd 255 st.nvFailures 1, consecutiveFailures := satAdd 3 st.consecutiveFailures 1
    nvFault := st.nvFault || decide (3 ≤ st.consecutiveFailures + 1), nv := st.nv.scramble (st.blockOf i) k }

section
variable {s : State} {i n : Nat} {snapshot : List Byte} {serves : WriteFor}

theorem exec_written (hop : s.store.op = some (.write i snapshot serves n))
    (hs : serves = .single → ∃ b w, s.store.orders = [.single b w none]) :
    exec .blockWriteReady s = .next (State.present s (s.setStore (s.store.wrote i snapshot serves)).settleStore.holdupExit) := by
  have hready : s.store.writeReady = s.store.wrote i snapshot serves := by
    unfold Store.writeReady
    rw [hop]
    dsimp only
    rw [writeServed_orders (st := s.store.modifyLine i CacheLine.written) i hs]
    rfl
  refine exec_next (c := .blockWriteReady) rfl ?_
  unfold State.writeDone
  rw [if_pos (by unfold Store.writing; rw [hop]), hready]

theorem exec_failed (hop : s.store.op = some (.write i snapshot serves n))
    (hs : serves = .single → ∃ b w, s.store.orders = [.single b w none]) :
    exec .blockWriteTimeout s = .next (State.present s
      ((s.setFreeIndex (s.freeIndex + s.store.freeUse)).setStore (s.store.failed i serves s.freeIndex)).settleStore) := by
  have hfailed : s.store.writeFailed s.freeIndex = s.store.failed i serves s.freeIndex := by
    unfold Store.writeFailed
    rw [hop]
    dsimp only
    rw [writeServed_orders (st := s.store.modifyLine i CacheLine.unwritten) i hs]
    rfl
  refine exec_next (c := .blockWriteTimeout) rfl ?_
  unfold State.writeTimedOut
  rw [if_pos (by unfold Store.writing; rw [hop]), hfailed]
  rfl

end

/-! ### A walk's write -/

theorem walkAt_served {st : Store} {h : Bool} {p i : Nat} (again : Bool) (ho : st.orders = [.walk h p]) (u : Store)
    (hu : u.orders = st.servedOrders i (if again then .restarted else .walk)) :
    u.WalkAt h (if again then p else i + 1) := by
  cases again with
  | true => exact .inl (hu.trans ho)
  | false =>
    have hserved : st.servedOrders i .walk = if 8 ≤ i + 1 then [] else [.walk h (i + 1)] := by
      unfold Store.servedOrders
      rw [ho]
      by_cases hi : 8 ≤ i + 1
      · simp [Order.pastLine, Order.walked, hi]
      · simp [Order.pastLine, Order.walked, hi]
    rw [Store.WalkAt, hu, show st.servedOrders i (if false then .restarted else .walk) = _ from hserved]
    by_cases hi : 8 ≤ i + 1
    · exact .inr ⟨if_pos hi, hi⟩
    · exact .inl (if_neg hi)

/-- What stands after a walk's write, over a store `w` whose walk has gone on to `u`. -/
theorem walk_frame {s y : State} {w u : Store} {h : Bool} {p b : Nat} (hk : KeptBut [.freeIndex] s y)
    (hs : w.WalkSettles h p u) (hw : w.waiting = []) (ht : w.task = .none) (hl : w.latch = s.store.latch)
    (hg : w.pwrGood = s.store.pwrGood) (hn : ∀ a, a < 16 * b ∨ 16 * b + 16 ≤ a → w.nv.read a = s.store.nv.read a) :
    KeptBut [.store, .freeIndex, .display] s (State.present s (y.setStore u)) ∧
      (State.present s (y.setStore u)).store.waiting = [] ∧ (State.present s (y.setStore u)).store.task = .none ∧
      (State.present s (y.setStore u)).store.latch = s.store.latch ∧
      (State.present s (y.setStore u)).store.pwrGood = s.store.pwrGood ∧
      ∀ a, a < 16 * b ∨ 16 * b + 16 ≤ a → (State.present s (y.setStore u)).store.nv.read a = s.store.nv.read a := by
  have hstore : (State.present s (y.setStore u)).store = u := State.present_store _ _
  refine ⟨present_frame (hk.andThen (cs := [.store, .freeIndex]) (setStore_kept y u)), ?_⟩
  rw [hstore, hs.same]
  exact ⟨hw, ht, hl, hg, hn⟩

theorem blockOf_tag {st : Store} {i b : Nat} (h : (st.line i).tag = some b) : st.blockOf i = b := by
  unfold Store.blockOf
  rw [h]
  rfl

theorem line_lt_of_state {st : Store} {i : Nat} (h : (st.line i).state ≠ .invalid) : i < st.lines.length := by
  by_contra hno
  unfold Store.line at h
  rw [List.getD_eq_default _ _ (Nat.le_of_not_lt hno)] at h
  exact h rfl

/-- The lines of a store that stays up report a DIRTY one when line `i` has been written. -/
theorem staysUp_reported {s : State} {i : Nat} (hs : (s.store.line i).state = .writing) (h : (s.store.line i).redirty = true ∨
    ∃ j < 8, j ≠ i ∧ (s.store.line j).state ∈ [.dirty, .writing]) :
    ∃ j, ((s.store.lines.modify i CacheLine.written).getD j .invalid).state ∈ [.dirty, .writing] := by
  have hlt : i < s.store.lines.length := line_lt_of_state (by rw [hs]; decide)
  have hline (j : Nat) : (s.store.lines.modify i CacheLine.written).getD j .invalid =
      if i = j then (s.store.line j).written else s.store.line j := modifyLine_line s.store i j CacheLine.written hlt
  rcases h with h | ⟨j, -, hj, hd⟩
  · refine ⟨i, ?_⟩
    rw [hline, if_pos rfl, CacheLine.written, h]
    simp
  · exact ⟨j, by rw [hline, if_neg (Ne.symm hj)]; exact hd⟩

theorem read_written {st : Store} {i b j : Nat} {snapshot : List Byte} (h : st.nv.wf = true) (ht : (st.line i).tag = some b)
    (hl : snapshot.length = 15) (hj : j < 15) :
    (st.nv.writeBlock (st.blockOf i) snapshot).read (16 * b + j) = snapshot.getD j 0 := by
  rw [blockOf_tag ht]
  exact NvMemory.read_writeBlock h (by omega)

end Sys2Proof.Machine
end

section
/-! SUPPORT. The commands that end a block write. Settles O51. -/
namespace Sys2Proof.Machine
set_option Elab.async false

/-! ### A fall of PWR-GOOD while nothing is written -/

theorem fall_unwritten {s : State} (hw : s.store.writing = false) (hs : s.store.Settled) :
    ∃ t, exec .pwrGoodFall s = .next t ∧ KeptBut [.store, .display] s t ∧ t.store = { s.store with pwrGood := false } := by
  have habandon : s.store.abandonWrite s.freeIndex = s.store := by
    unfold Store.abandonWrite
    split
    · next i x y z h => unfold Store.writing at hw; rw [h] at hw; cases hw
    · rfl
  have hfree : s.store.freeUse = 0 := by unfold Store.freeUse; rw [hw]; rfl
  have hfall : s.pwrFall = s.setStore (s.store.powered false) := by
    unfold State.pwrFall
    rw [habandon, hfree]
    exact settleStore_settled (s := s.setStore (s.store.powered false)) (settled_powerless hs)
  exact ⟨_, exec_next (c := .pwrGoodFall) rfl hfall, present_frame (setStore_kept s _), State.present_store _ _⟩

/-! ### A walk's write -/

section
variable {s : State} {i b n p : Nat} {snapshot : List Byte} {h again : Bool}

/-- What every end of a walk's write leaves. -/
def State.WalkFrame (s : State) (b : Nat) (t : State) : Prop :=
  KeptBut [.store, .freeIndex, .display] s t ∧ t.store.waiting = [] ∧ t.store.task = .none ∧
    t.store.latch = s.store.latch ∧ t.store.pwrGood = s.store.pwrGood ∧
    ∀ a, a < 16 * b ∨ 16 * b + 16 ≤ a → t.store.nv.read a = s.store.nv.read a

theorem walk_written (hnv : s.store.nv.wf = true) (hlen : snapshot.length = 15) (ho : s.store.orders = [.walk h p])
    (hwait : s.store.waiting = []) (htask : s.store.task = .none)
    (hop : s.store.op = some (.write i snapshot (if again then .restarted else .walk) n))
    (hs : (s.store.line i).state = .writing) (htag : (s.store.line i).tag = some b) (hstay : s.StaysUp i) :
    ∃ t, exec .blockWriteReady s = .next t ∧ s.WalkFrame b t ∧ t.freeIndex = s.freeIndex ∧
      (∀ j < 15, t.store.nv.read (16 * b + j) = snapshot.getD j 0) ∧ t.store.consecutiveFailures = 0 ∧
      t.store.nvFailures = s.store.nvFailures ∧ t.store.nvFault = s.store.nvFault ∧
      t.store.WalkGoes h (if again then p else i + 1) (s.store.lines.modify i CacheLine.written) := by
  generalize hw : s.store.wrote i snapshot (if again then .restarted else .walk) = w
  have hat : w.WalkAt h (if again then p else i + 1) := hw ▸ walkAt_served again ho _ rfl
  obtain ⟨u, hreach, hsettles⟩ := reaches_walkAt (st := w) (by subst hw; show s.store.task.passive = true; rw [htask]; rfl)
    (by subst hw; exact hwait) (by subst hw; rfl) hat
  have hlines : w.lines = s.store.lines.modify i CacheLine.written := by subst hw; rfl
  have hexec := exec_written hop (fun k => by cases again <;> cases k)
  rw [hw, settleStore_reaches (s := s.setStore w) hreach] at hexec
  have hup : ((s.setStore w).setStore u).holdupExit = s.setStore u := by
    refine holdupExit_stays fun hi => (hstay hi).imp id fun hd => ?_
    obtain ⟨j, hj⟩ := staysUp_reported hs hd
    exact walkLines_reported hsettles.lines (hlines ▸ hj)
  rw [hup] at hexec
  have hstore : (State.present s (s.setStore u)).store = u := State.present_store _ _
  refine ⟨_, hexec, walk_frame (KeptBut.refl _ s) hsettles (hw ▸ hwait) (hw ▸ htask) (hw ▸ rfl) (hw ▸ rfl) ?_,
    State.present_freeIndex _ _, ?_, ?_, ?_, ?_, ?_⟩
  · subst hw
    intro a ha
    rw [← blockOf_tag htag] at ha
    exact NvMemory.read_writeBlock_other hnv hlen ha
  · subst hw
    intro j hj
    rw [hstore, hsettles.same]
    exact read_written hnv htag hlen hj
  · rw [hstore, hsettles.same, ← hw]; rfl
  · rw [hstore, hsettles.same, ← hw]; rfl
  · rw [hstore, hsettles.same, ← hw]; rfl
  · rw [hstore, ← hlines]
    exact hsettles.goes

theorem walk_failed (hnv : s.store.nv.wf = true) (ho : s.store.orders = [.walk h p])
    (hwait : s.store.waiting = []) (htask : s.store.task = .none)
    (hop : s.store.op = some (.write i snapshot (if again then .restarted else .walk) n))
    (htag : (s.store.line i).tag = some b) :
    ∃ t, exec .blockWriteTimeout s = .next t ∧ s.WalkFrame b t ∧
      t.store.nvFailures = min 255 (s.store.nvFailures + 1) ∧
      t.store.consecutiveFailures = min 3 (s.store.consecutiveFailures + 1) ∧
      t.store.nvFault = (s.store.nvFault || decide (3 ≤ s.store.consecutiveFailures + 1)) ∧
      t.store.WalkGoes h (if again then p else i + 1) (s.store.lines.modify i CacheLine.unwritten) := by
  generalize hw : s.store.failed i (if again then .restarted else .walk) s.freeIndex = w
  generalize hy : s.setFreeIndex (s.freeIndex + s.store.freeUse) = y
  have hat : w.WalkAt h (if again then p else i + 1) := hw ▸ walkAt_served again ho _ rfl
  obtain ⟨u, hreach, hsettles⟩ := reaches_walkAt (st := w) (by subst hw; show s.store.task.passive = true; rw [htask]; rfl)
    (by subst hw; exact hwait) (by subst hw; rfl) hat
  have hexec := exec_failed hop (fun k => by cases again <;> cases k)
  rw [hw, hy, show (y.setStore w).settleStore = y.setStore u from settleStore_reaches (s := y.setStore w) hreach] at hexec
  have hstore : (State.present s (y.setStore u)).store = u := State.present_store _ _
  refine ⟨_, hexec, walk_frame (hy ▸ setFreeIndex_kept s _) hsettles (hw ▸ hwait) (hw ▸ htask) (hw ▸ rfl) (hw ▸ rfl) ?_,
    ?_, ?_, ?_, ?_⟩
  · subst hw
    intro a ha
    rw [← blockOf_tag htag] at ha
    exact NvMemory.read_scramble_other hnv ha
  · rw [hstore, hsettles.same, ← hw]; rfl
  · rw [hstore, hsettles.same, ← hw]; rfl
  · rw [hstore, hsettles.same, ← hw]; rfl
  · rw [hstore, show s.store.lines.modify i CacheLine.unwritten = w.lines by rw [← hw]; rfl]
    exact hsettles.goes

/-- A walk waits for PWR-GOOD, and its rise lets it go on. -/
theorem walk_powered (ho : s.store.orders = [.walk h p]) (hwait : s.store.waiting = []) (htask : s.store.task = .none)
    (hop : s.store.op = none) : ∃ t, exec .pwrGoodRise s = .next t ∧ KeptBut [.store, .display] s t ∧ t.store.pwrGood = true ∧
      t.store.nv = s.store.nv ∧ t.store.WalkGoes h p s.store.lines := by
  obtain ⟨u, hreach, hsettles⟩ := reaches_walk (st := s.store.powered true)
    (by show s.store.task.passive = true; rw [htask]; rfl) hwait hop ho
  have hrise : s.pwrRise = s.setStore u := settleStore_reaches (s := s.setStore (s.store.powered true)) hreach
  have hstore : (State.present s (s.setStore u)).store = u := State.present_store _ _
  refine ⟨_, exec_next (c := .pwrGoodRise) rfl hrise, present_frame (setStore_kept s u), ?_, ?_, ?_⟩
  · rw [hstore, hsettles.same]; rfl
  · rw [hstore, hsettles.same]; rfl
  · rw [hstore]; exact hsettles.goes

end

/-! ### A SINGLE order's write -/

section
variable {s : State} {i b n : Nat} {snapshot : List Byte} {w ok : Bool}

/-- A line's block is written by a SINGLE order, the workshop's where `w` stands. -/
structure State.WritesSingle (s : State) (b i : Nat) (w : Bool) : Prop where
  wf : s.store.nv.wf = true
  orders : s.store.orders = [.single b w none]
  waiting : s.store.waiting = []
  task : s.store.task = if w then .writeback b else .none
  find : s.store.find b = some i
  room : s.line.Open 0x70

/-- What the end of the order leaves: the store at rest, and the workshop answered. -/
def State.SingleEnded (s : State) (w : Bool) (t : State) (ok : Bool) : Prop :=
  t.store.orders = [] ∧ t.store.op = none ∧ t.store.task = .none ∧
    (w = false → KeptBut [.store, .freeIndex, .display] s t) ∧
    (w = true → KeptBut [.store, .freeIndex, .line, .handler, .display] s t ∧
      t.handler = { s.handler with state := .replying } ∧
      t.line = s.line.enter 0x70 3 .reply [byteOf s.handler.topic, if ok then 0 else 6] .own)

/-- A store whose order has ended, with the workshop's task of it. -/
theorem single_settles {y : State} {u : Store} (hk : KeptBut [.freeIndex] s y) (h : s.WritesSingle b i w)
    (ho : u.orders = []) (hop : u.op = none) (hw : u.waiting = []) (ht : u.task = s.store.task)
    (hok : ok = !u.isDirty b) :
    ∃ x, (y.setStore u).settleStore = x ∧ x.store = { u with task := .none } ∧ x.freeIndex = y.freeIndex ∧
      x.ign = s.ign ∧ (x.line = s.line ∨ x.line.queue ≠ []) ∧ (w = true → x.line.queue ≠ []) ∧
      s.SingleEnded w (State.present s x) ok := by
  have hframe : KeptBut [.store, .freeIndex] s (y.setStore { u with task := .none }) :=
    hk.andThen (cs := [.store, .freeIndex]) (setStore_kept y _)
  cases w with
  | false =>
    have hnone : u.task = .none := ht.trans h.task
    have hsame : ({ u with task := .none } : Store) = u := by rw [← hnone]
    have hstore : (State.present s (y.setStore u)).store = u := State.present_store _ _
    rw [hsame] at hframe
    refine ⟨y.setStore u, settleStore_settled (settled_of (st := u) (taskOne_passive (by rw [hnone]; rfl)) hw (.inl ho)),
      hsame.symm, rfl, congrArg Ignition.state hframe.ignition, .inl hframe.line, nofun, ?_⟩
    unfold State.SingleEnded
    rw [hstore]
    exact ⟨ho, hop, hnone, fun _ => present_frame hframe, nofun⟩
  | true =>
    have htask : u.task = .writeback b := ht.trans h.task
    have hone : u.taskOne = some ({ u with task := .none }, some (if ok then .done else .mismatch)) := by
      have hlisted : (u.workshopListed || u.workshopWaits) = false := by
        unfold Store.workshopListed Store.workshopWaits
        rw [ho, hw]
        rfl
      unfold Store.taskOne
      rw [htask, hok]
      dsimp only
      rw [if_neg (by rw [hlisted]; decide)]
      cases u.isDirty b <;> rfl
    have hreach : u.Reaches 1 ({ u with task := .none }, some (if ok then .done else .mismatch)) :=
      reaches_end hone (reaches_settled (settled_of (st := { u with task := .none }) rfl hw (.inl ho)))
    have hline : (y.setStore { u with task := .none }).line = s.line := hframe.line
    have hhandler : (y.setStore { u with task := .none }).handler = s.handler := hframe.handler
    have hreply := returnStatus_open (s := y.setStore { u with task := .none }) (x := if ok then .done else .mismatch)
      (result := []) (hline ▸ h.room)
    rw [hline, hhandler] at hreply
    refine ⟨_, settleStore_reaches_end (s := y.setStore u) hreach, ?_⟩
    rw [show (y.setStore u).setStore { u with task := .none } = y.setStore { u with task := .none } from rfl, hreply]
    have hkept : KeptBut [.store, .freeIndex, .line, .handler] s (((y.setStore { u with task := .none }).setHandler
        { s.handler with state := .replying }).setLine (s.line.enter 0x70 3 .reply
          ([byteOf s.handler.topic, byteOf (if ok then Status.done else .mismatch).code] ++ []) .own)) :=
      (hframe.andThen (cs := [.store, .freeIndex, .handler]) (setHandler_kept _ _)).andThen (setLine_kept _ _)
    refine ⟨rfl, rfl, congrArg Ignition.state hkept.ignition, .inr ?_, fun _ => ?_, ?_⟩
    · exact List.append_ne_nil_of_right_ne_nil _ (List.cons_ne_nil _ _)
    · exact List.append_ne_nil_of_right_ne_nil _ (List.cons_ne_nil _ _)
    · unfold State.SingleEnded
      rw [State.present_store, State.present_handler, State.present_line]
      refine ⟨ho, hop, rfl, nofun, fun _ => ⟨present_frame hkept, rfl, ?_⟩⟩
      cases ok <;> rfl

end

end Sys2Proof.Machine
end

section
/-! SUPPORT. The commands that end a SINGLE order's write. Settles O51. -/
namespace Sys2Proof.Machine
set_option Elab.async false

theorem NvMemory.block_writeBlock {m : NvMemory} (b : Nat) {data : List Byte} (h : m.wf = true) (hd : data.length = 15) :
    (m.writeBlock b data).block b = data ++ [checkByteOf data] := by
  refine List.ext_getElem (by simp [NvMemory.block, hd]) fun j h₁ h₂ => ?_
  simp only [NvMemory.block, List.getElem_map, List.getElem_range, NvMemory.writeBlock, NvMemory.read_writeMany _ _ _ h]
  rw [if_pos (by simp at h₂ ⊢; omega), List.getD_eq_getElem?_getD, Nat.add_sub_cancel_left,
    List.getElem?_eq_getElem h₂, Option.getD_some]

section
variable {s : State} {i b n : Nat} {snapshot : List Byte} {w : Bool}

theorem State.WritesSingle.lt (h : s.WritesSingle b i w) : i < s.store.lines.length := line_lt_of_find h.find

theorem State.WritesSingle.blockOf (h : s.WritesSingle b i w) : s.store.blockOf i = b := blockOf_tag (line_of_find h.find).1

/-- The order's task waits while the order is listed. -/
theorem State.WritesSingle.taskOne (h : s.WritesSingle b i w) {u : Store} (ht : u.task = s.store.task)
    (ho : u.orders = s.store.orders) : u.taskOne = none := by
  have htask : u.task = if w then .writeback b else .none := ht.trans h.task
  cases w with
  | false => exact taskOne_passive (by rw [htask]; rfl)
  | true => exact taskOne_listed (.inl htask) (ho.trans h.orders)

/-- The block's line after a change of its state, as the end of its write makes it. -/
theorem single_line (h : s.WritesSingle b i w) (hs : (s.store.line i).state = .writing) {f : CacheLine → CacheLine}
    (ht : ∀ l, (f l).tag = l.tag) (hf : ∀ l, (f l).state = .clean ∨ (f l).state = .dirty) {u : Store}
    (hu : u.lines = s.store.lines.modify i f) : u.find b = some i ∧ u.line i = f (s.store.line i) := by
  have hfind : u.find b = (s.store.modifyLine i f).find b := by
    unfold Store.find
    rw [hu]
    rfl
  have hline : u.line i = (s.store.modifyLine i f).line i := by
    unfold Store.line
    rw [hu]
    rfl
  refine ⟨?_, hline.trans ((modifyLine_line s.store i i f h.lt).trans (if_pos rfl))⟩
  rw [hfind, find_modifyLine_at (ht _) (by rcases hf (s.store.line i) with k | k <;> rw [k, hs] <;> rfl)]
  exact h.find

theorem isDirty_line {u : Store} (hfind : u.find b = some i) : u.isDirty b = ((u.line i).state == .dirty) := by
  unfold Store.isDirty
  rw [hfind]

theorem written_state (l : CacheLine) : l.written.state = .clean ∨ l.written.state = .dirty := by
  unfold CacheLine.written
  cases l.redirty
  · exact .inl rfl
  · exact .inr rfl

theorem single_written (h : s.WritesSingle b i w) (hlen : snapshot.length = 15)
    (hop : s.store.op = some (.write i snapshot .single n)) (hs : (s.store.line i).state = .writing)
    (hstay : s.StaysUp i ∨ w = true) :
    ∃ t, exec .blockWriteReady s = .next t ∧
      (∀ a, a < 16 * b ∨ 16 * b + 16 ≤ a → t.store.nv.read a = s.store.nv.read a) ∧
      s.SingleEnded w t !(s.store.line i).redirty ∧
      (∀ j < 15, t.store.nv.read (16 * b + j) = snapshot.getD j 0) ∧
      byteSum ((List.range 16).map fun j => t.store.nv.read (16 * b + j)) = 0 ∧ t.store.consecutiveFailures = 0 ∧
      t.store.nvFailures = s.store.nvFailures ∧ t.store.nvFault = s.store.nvFault ∧ t.freeIndex = s.freeIndex ∧
      t.store.lines = s.store.lines.modify i CacheLine.written := by
  have hblock := h.blockOf
  obtain ⟨hfind, hline⟩ := single_line h hs (fun _ => rfl) written_state (f := CacheLine.written)
    (u := s.store.wrote i snapshot .single) rfl
  have hdirty : (s.store.wrote i snapshot .single).isDirty b = (s.store.line i).redirty := by
    rw [isDirty_line hfind, hline, CacheLine.written]
    cases (s.store.line i).redirty <;> rfl
  obtain ⟨x, hx, hstore, hfree, hign, hqueue, hbusy, hended⟩ := single_settles (KeptBut.refl _ s) h
    (u := s.store.wrote i snapshot .single) rfl rfl h.waiting rfl (by rw [hdirty])
  have hexec := exec_written hop fun _ => ⟨b, w, h.orders⟩
  have hup : x.holdupExit = x := by
    refine holdupExit_stays fun hi => ?_
    rcases hstay with hstay | hw
    · rcases hstay (hign ▸ hi) with hq | hd
      · exact .inl (hqueue.elim (fun k => k ▸ hq) id)
      · obtain ⟨j, hj⟩ := staysUp_reported hs hd
        refine .inr (dirtyReported_of_line (j := j) ?_)
        rw [hstore]
        exact hj
    · exact .inl (hbusy hw)
  rw [hx, hup] at hexec
  refine ⟨_, hexec, ?_⟩
  rw [State.present_store, hstore]
  have hnv : (s.store.wrote i snapshot .single).nv = s.store.nv.writeBlock b snapshot := by
    unfold Store.wrote
    rw [hblock]
  refine ⟨fun a ha => ?_, hended, fun j hj => ?_, ?_, rfl, rfl, rfl, (State.present_freeIndex _ _).trans hfree, rfl⟩
  · show (s.store.wrote i snapshot .single).nv.read a = _
    rw [hnv]
    exact NvMemory.read_writeBlock_other h.wf hlen ha
  · show (s.store.wrote i snapshot .single).nv.read _ = _
    rw [hnv]
    exact NvMemory.read_writeBlock h.wf (by omega)
  · show byteSum ((s.store.wrote i snapshot .single).nv.block b) = 0
    rw [hnv, NvMemory.block_writeBlock b h.wf hlen]
    exact byteSum_checked snapshot

theorem single_failed (h : s.WritesSingle b i w) (hop : s.store.op = some (.write i snapshot .single n))
    (hs : (s.store.line i).state = .writing) :
    ∃ t, exec .blockWriteTimeout s = .next t ∧
      (∀ a, a < 16 * b ∨ 16 * b + 16 ≤ a → t.store.nv.read a = s.store.nv.read a) ∧ s.SingleEnded w t false ∧
      t.store.nvFailures = min 255 (s.store.nvFailures + 1) ∧
      t.store.consecutiveFailures = min 3 (s.store.consecutiveFailures + 1) ∧
      t.store.nvFault = (s.store.nvFault || decide (3 ≤ s.store.consecutiveFailures + 1)) ∧
      t.store.lines = s.store.lines.modify i CacheLine.unwritten := by
  have hblock := h.blockOf
  obtain ⟨hfind, hline⟩ := single_line h hs (fun _ => rfl) (fun _ => .inr rfl) (f := CacheLine.unwritten)
    (u := s.store.failed i .single s.freeIndex) rfl
  have hdirty : (s.store.failed i .single s.freeIndex).isDirty b = true := by
    rw [isDirty_line hfind, hline]
    rfl
  obtain ⟨x, hx, hstore, -, -, -, -, hended⟩ := single_settles (setFreeIndex_kept s (s.freeIndex + s.store.freeUse)) h
    (u := s.store.failed i .single s.freeIndex) rfl rfl h.waiting rfl (ok := false) (by rw [hdirty]; decide)
  have hexec := exec_failed hop fun _ => ⟨b, w, h.orders⟩
  rw [hx] at hexec
  refine ⟨_, hexec, ?_⟩
  rw [State.present_store, hstore]
  refine ⟨fun a ha => ?_, hended, rfl, rfl, rfl, rfl⟩
  rw [← hblock] at ha
  exact NvMemory.read_scramble_other h.wf ha

/-- The store after a fall of PWR-GOOD during the write. -/
def Store.fallen (st : Store) (i k : Nat) : Store :=
  { st with
    lines := st.lines.modify i CacheLine.unwritten, op := none, nv := st.nv.spoil (st.blockOf i) k, pwrGood := false }

theorem single_fallen (h : s.WritesSingle b i w) (hop : s.store.op = some (.write i snapshot .single n))
    (hs : (s.store.line i).state = .writing) (hf : s.store.nvFault = false) :
    ∃ t, exec .pwrGoodFall s = .next t ∧
      (∀ a, a < 16 * b ∨ 16 * b + 16 ≤ a → t.store.nv.read a = s.store.nv.read a) ∧
      KeptBut [.store, .freeIndex, .display] s t ∧ t.store.pwrGood = false ∧ t.store.op = none ∧
      t.store.orders = s.store.orders ∧ t.store.nvFailures = s.store.nvFailures ∧
      t.store.consecutiveFailures = s.store.consecutiveFailures ∧
      byteSum ((List.range 16).map fun j => t.store.nv.read (16 * b + j)) ≠ 0 ∧
      t.store.lines = s.store.lines.modify i CacheLine.unwritten := by
  have hblock := h.blockOf
  have habandon : ({ s.store.abandonWrite s.freeIndex with pwrGood := false } : Store) = s.store.fallen i s.freeIndex := by
    unfold Store.abandonWrite
    rw [hop]
    rfl
  obtain ⟨hfind, hline⟩ := single_line h hs (fun _ => rfl) (fun _ => .inr rfl) (f := CacheLine.unwritten)
    (u := s.store.fallen i s.freeIndex) rfl
  have hsettled : (s.store.fallen i s.freeIndex).Settled :=
    settled_write_held (h.taskOne rfl rfl) h.orders (admitOne_empty h.waiting) rfl hf hfind (by rw [hline]; rfl)
  have hfall : s.pwrFall =
      (s.setFreeIndex (s.freeIndex + s.store.freeUse)).setStore (s.store.fallen i s.freeIndex) := by
    unfold State.pwrFall
    dsimp only
    rw [habandon]
    exact settleStore_settled (s := (s.setFreeIndex _).setStore (s.store.fallen i s.freeIndex)) hsettled
  refine ⟨_, exec_next (c := .pwrGoodFall) rfl hfall, ?_⟩
  rw [State.present_store]
  refine ⟨fun a ha => ?_, present_frame ((setFreeIndex_kept s _).andThen (cs := [.store, .freeIndex]) (setStore_kept _ _)),
    rfl, rfl, rfl, rfl, rfl, ?_, rfl⟩
  · rw [← hblock] at ha
    exact NvMemory.read_spoil_other h.wf ha
  · intro hgood
    have hbad := NvMemory.check_spoil (m := s.store.nv) b s.freeIndex h.wf
    have hnv : ((s.setFreeIndex (s.freeIndex + s.store.freeUse)).setStore (s.store.fallen i s.freeIndex)).store.nv =
        s.store.nv.spoil b s.freeIndex := by
      show s.store.nv.spoil (s.store.blockOf i) s.freeIndex = _
      rw [hblock]
    rw [hnv] at hgood
    rw [(checkGood_iff _ _).mpr hgood] at hbad
    cases hbad

/-- The order waited for PWR-GOOD, and its rise starts the write. -/
theorem single_powered (h : s.WritesSingle b i w) (hop : s.store.op = none) (hd : (s.store.line i).state = .dirty)
    (hf : s.store.nvFault = false) : ∃ t, exec .pwrGoodRise s = .next t ∧ KeptBut [.store, .display] s t ∧
      t.store.pwrGood = true ∧ t.store.op = some (.write i (s.store.line i).data .single 4) ∧
      t.store.orders = s.store.orders ∧ t.store.nv = s.store.nv ∧
      t.store.lines = s.store.lines.modify i fun l => { l with state := .writing, redirty := false } := by
  have hreach : (s.store.powered true).Reaches 1 ((s.store.powered true).startWrite i .single, none) :=
    reaches_write (h.taskOne rfl rfl) (h.taskOne rfl rfl) h.orders hop (admitOne_empty h.waiting) (admitOne_empty h.waiting)
      rfl hf h.find hd
  have hrise : s.pwrRise = s.setStore ((s.store.powered true).startWrite i .single) :=
    settleStore_reaches (s := s.setStore (s.store.powered true)) hreach
  refine ⟨_, exec_next (c := .pwrGoodRise) rfl hrise, present_frame (setStore_kept s _), ?_⟩
  rw [State.present_store]
  exact ⟨rfl, rfl, rfl, rfl, rfl⟩

end

/-- Settles O51: the fall while nothing is written, a walk's write, and a SINGLE order's. -/
theorem blockWritesEnd : Obligations.BlockWritesEnd := by
  refine ⟨fun s => fall_unwritten, ?_, ?_⟩
  · intro s i b n p snapshot h again hnv _ hlen ho hwait htask next ended frame
    refine ⟨fun hop hs htag => ⟨fun hstay => ?_, walk_failed hnv ho hwait htask hop htag⟩, walk_powered ho hwait htask⟩
    obtain ⟨t, hexec, hframe, hfree, hread, hzero, hcount, hfault, hgoes⟩ := walk_written hnv hlen ho hwait htask hop hs htag hstay
    refine ⟨t, hexec, hframe, hfree, hread, hzero, hcount, hfault, ?_⟩
    have hlines : ended (if (s.store.line i).redirty then .dirty else .clean) = s.store.lines.modify i CacheLine.written := by
      have hlt : i < s.store.lines.length := line_lt_of_state (by rw [hs]; decide)
      exact (lines_modify hlt _).trans (lines_modify hlt CacheLine.written).symm
    rw [hlines]
    exact hgoes
  · intro s i b n snapshot w hnv _ hlen ho hwait htask hfind hroom outside ended
    have hw : s.WritesSingle b i w := ⟨hnv, ho, hwait, htask, hfind, hroom⟩
    exact ⟨fun hop hs => ⟨single_written hw hlen hop hs, single_failed hw hop hs, single_fallen hw hop hs⟩, single_powered hw⟩

end Sys2Proof.Machine
end

section
/-! SUPPORT. SLEEP entry of a store whose lines hold one block twice: the read of the odometer does not stay. Refutes O54. -/
namespace Sys2Proof.Machine
set_option Elab.async false

/-- A line with block 0 CLEAN in it. -/
def cleanOdometer : CacheLine := { CacheLine.invalid with tag := some 0, state := .clean }

/-- A part in WATCH, no level high, its watch timer about to expire, while block 0 is being filled into the first way of its set
and stands in the second: no reachable state, as R164 gives a block one line, but one that the statement speaks of. -/
def watchingTwice : State :=
  { State.reset with
    ignition := { State.reset.ignition with state := .watch, watchTimer := some 1 }
    store := { State.reset.store with lines := [CacheLine.filling 0, cleanOdometer] } }

/-- Before SLEEP entry the line found for block 0 is the FILLING one, so the odometer cannot be read. -/
theorem watchingTwice_unread : watchingTwice.store.odometer = none := by decide

/-- SLEEP entry empties the FILLING line (R179), and the odometer is read from the other. -/
theorem watchingTwice_slept : watchingTwice.sleepEntry.store.odometer = some (0, true) := by
  rw [sleepEntry_store]
  decide

theorem exec_watchingTwice : exec .watchTimerExpiry watchingTwice = .next (State.present watchingTwice watchingTwice.sleepEntry) := by
  refine exec_next (c := .watchTimerExpiry) rfl ?_
  have hasleep : watchingTwice.sleepEntry.ignition.asked = .sleep := (sleepEntry_asked _).trans rfl
  have hexpired : watchingTwice.watchExpired = watchingTwice.enterSleep := by
    unfold State.watchExpired
    rw [if_pos ⟨rfl, rfl⟩, if_neg (by decide)]
  exact hexpired.trans (lookFromSleep_of_sleep hasleep)

/-- Refutes O54: SLEEP entry is said to leave the odometer as it is read, and in the state `watchingTwice` it becomes readable
with it. -/
theorem not_standbyFollowsLevels : ¬ Obligations.StandbyFollowsLevels := by
  intro h
  obtain ⟨-, -, -, hwatch, -⟩ := h watchingTwice
  obtain ⟨t, hexec, hsleeps, -⟩ := (hwatch rfl rfl).1 (by decide)
  obtain ⟨-, -, -, -, -, -, -, -, -, -, -, -, -, -, -, ⟨-, -, -, -, -, -, hodometer, -⟩, -⟩ := (hsleeps (by decide)).1
  rw [exec_watchingTwice] at hexec
  cases hexec
  rw [State.present_store, watchingTwice_slept, watchingTwice_unread] at hodometer
  cases hodometer

end Sys2Proof.Machine
end

section
/-! SUPPORT. What summary topics and replies leave of the line station, and what the item warnings' requests leave of the
arbiter and the sound unit, from a part that has just been woken or brought up. -/
namespace Sys2Proof.Machine
set_option Elab.async false

/-! ### The line station but for its queue -/

/-- The station with another queue, its sequences and its drop count. -/
def LineStation.QueuedOn (l l' : LineStation) : Prop :=
  l' = { l with queue := l'.queue, seqs := l'.seqs, dropped := l'.dropped }

theorem LineStation.QueuedOn.refl (l : LineStation) : l.QueuedOn l := rfl

theorem LineStation.QueuedOn.trans {l l' l'' : LineStation} (h : l.QueuedOn l') (k : l'.QueuedOn l'') : l.QueuedOn l'' := by
  unfold LineStation.QueuedOn at *
  rw [k, h]

theorem replyLeft_line (s : State) (m : Msg) : (s.replyLeft m).line = s.line := by
  rw [replyLeft_eq]
  rfl

theorem placeFull_queuedOn (s : State) (m : Msg) : s.line.QueuedOn (s.placeFull m).line := by
  unfold State.placeFull
  dsimp only
  split
  · split
    · rw [replyLeft_line]; rfl
    · rw [replyLeft_line]; rfl
  · rw [replyLeft_line]; rfl

theorem busyReplaced_line (s : State) (old new : Msg) : (s.busyReplaced old new).line = s.line := by
  unfold State.busyReplaced
  split <;> rfl

theorem placeMsg_queuedOn (s : State) (m : Msg) : s.line.QueuedOn (s.placeMsg m).line := by
  unfold State.placeMsg
  dsimp only
  split
  · rw [busyReplaced_line]; rfl
  · split
    · rfl
    · exact placeFull_queuedOn s m

theorem queue_queuedOn (s : State) (topic cls : Nat) (kind : MsgKind) (data : List Byte) (answer : Answer) :
    s.line.QueuedOn (s.queue topic cls kind data answer).line :=
  LineStation.QueuedOn.trans (l' := (s.setLine { s.line with seqs := s.line.seqs.advance topic }).line) rfl (placeMsg_queuedOn _ _)

theorem publish_queuedOn (s : State) (topic cls : Nat) (data : List Byte) : s.line.QueuedOn (s.publish topic cls data).line :=
  queue_queuedOn _ _ _ _ _ _

theorem returnStatus_queuedOn (s : State) (x : Status) (result : List Byte) : s.line.QueuedOn (s.returnStatus x result).line :=
  queue_queuedOn (s.setHandler { s.handler with state := .replying }) _ _ _ _ _

theorem settleStore_queuedOn (s : State) : s.line.QueuedOn s.settleStore.line := by
  unfold State.settleStore
  split
  · next st x _ => exact returnStatus_queuedOn (s.setStore st) x []
  · exact .refl _

/-- A handler that is IDLE stays so while publications are queued. -/
theorem publish_idle {s : State} (h : s.handler.state = .idle) (topic cls : Nat) (data : List Byte) :
    (s.publish topic cls data).handler = s.handler := by
  have hleft (u : State) (m : Msg) (hu : u.handler = s.handler) : (u.replyLeft m).handler = s.handler := by
    unfold State.replyLeft
    split
    · show ({ u.handler with state := .idle } : Handler) = _
      rw [hu, ← h]
    · exact hu
  unfold State.publish State.queue State.placeMsg
  dsimp only
  split
  · unfold State.busyReplaced
    rw [if_neg (fun k => by cases k.2)]
    rfl
  · split
    · rfl
    · unfold State.placeFull
      dsimp only
      split
      · split
        · exact hleft _ _ rfl
        · exact hleft _ _ rfl
      · exact hleft _ _ rfl

/-! ### The summary queued -/

/-- The queue holds a summary not yet started, and nothing else. -/
def LineStation.Announces (l : LineStation) : Prop := l.queue.length ≤ 1 ∧ l.queue.any (Msg.unstarted 0x43) = true

theorem publish_announces {s : State} (h : s.line.queue.length = 0 ∨ s.line.Announces) (cls : Nat) (data : List Byte) :
    (s.publish 0x43 cls data).line.Announces := by
  rcases h with h | ⟨hlen, hany⟩
  · have hempty := List.length_eq_zero_iff.mp h
    have hopen : s.line.Open 0x43 := ⟨by omega, by rw [hempty]; rfl⟩
    rw [show s.publish 0x43 cls data = _ from queue_open hopen]
    refine ⟨?_, ?_⟩
    · show (s.line.queue ++ [_]).length ≤ 1
      rw [hempty]
      exact Nat.le_refl _
    · show (s.line.queue ++ [_]).any (Msg.unstarted 0x43) = true
      rw [List.any_append]
      exact Bool.or_true _
  · unfold State.publish State.queue State.placeMsg
    dsimp only [State.setLine_line]
    cases hfind : s.line.queue.findIdx? (Msg.unstarted 0x43) with
    | none => rw [any_findIdx hfind] at hany; cases hany
    | some i =>
      dsimp only
      rw [busyReplaced_line]
      exact ⟨(List.length_modify _ _ _).trans_le hlen,
        (any_modify_same _ _ (fun m => unstarted_coalesce _ m 0x43) _ _).trans hany⟩

/-- A summary stays in the queue when the workshop's reply is queued. -/
theorem returnStatus_announces {s : State} (h : s.line.Announces) (x : Status) (result : List Byte) :
    (s.returnStatus x result).line.queue.any (Msg.unstarted 0x43) = true := by
  obtain ⟨hlen, hany⟩ := h
  unfold State.returnStatus State.queue State.placeMsg
  dsimp only [State.setLine_line, State.setHandler_line]
  split
  · rw [busyReplaced_line]
    exact (any_modify_same _ _ (fun m => unstarted_coalesce _ m 0x43) _ _).trans hany
  · rw [if_pos (by show s.line.queue.length < 12; omega)]
    show (s.line.queue ++ [_]).any (Msg.unstarted 0x43) = true
    rw [List.any_append, hany]
    rfl

theorem settleStore_announces {s : State} (h : s.line.Announces) :
    s.settleStore.line.queue.any (Msg.unstarted 0x43) = true := by
  unfold State.settleStore
  split
  · next st x _ => exact returnStatus_announces (s := s.setStore st) h x []
  · exact h.2

theorem announced_message {l : LineStation} (h : l.queue.any (Msg.unstarted 0x43) = true) :
    ∃ m ∈ l.queue, m.topic = 0x43 ∧ m.started = false := by
  obtain ⟨m, hm, hp⟩ := List.any_eq_true.mp h
  unfold Msg.unstarted at hp
  rw [Bool.and_eq_true, beq_iff_eq] at hp
  exact ⟨m, hm, hp.1, by simpa using hp.2⟩

/-! ### The sound unit but for what sounds -/

/-- The lamps and the flags stand as `u` has them, and no click or tick is timed. -/
structure Sound.LampsAs (u v : Sound) : Prop where
  quietCabin : v.quietCabin = u.quietCabin
  lastLeft : v.lastLeft = u.lastLeft
  lastRight : v.lastRight = u.lastRight
  flash : v.flash = u.flash
  lit : v.lit = u.lit
  bulbCheck : v.bulbCheck = u.bulbCheck
  clickTimer : v.clickTimer = 0
  tickTimer : v.tickTimer = 0

section
variable {u : Sound} {s : State}

theorem startPattern_lamps (h : u.LampsAs s.sound) (p : Playing) : u.LampsAs (s.startPattern p).sound :=
  ⟨h.quietCabin, h.lastLeft, h.lastRight, h.flash, h.lit, h.bulbCheck, h.clickTimer, h.tickTimer⟩

theorem shownNotice_lamps (h : u.LampsAs s.sound) (w : Nat) : u.LampsAs (s.shownNotice w).sound := by
  unfold State.shownNotice
  dsimp only
  split
  · exact startPattern_lamps h _
  · split
    · exact startPattern_lamps h _
    · exact startPattern_lamps h _
    · exact startPattern_lamps h _
    · exact ⟨h.quietCabin, h.lastLeft, h.lastRight, h.flash, h.lit, h.bulbCheck, h.clickTimer, h.tickTimer⟩
    · exact ⟨h.quietCabin, h.lastLeft, h.lastRight, h.flash, h.lit, h.bulbCheck, h.clickTimer, h.tickTimer⟩

theorem syncChime_lamps (h : u.LampsAs s.sound) : u.LampsAs s.syncChime.sound := by
  unfold State.syncChime
  split
  · exact ⟨h.quietCabin, h.lastLeft, h.lastRight, h.flash, h.lit, h.bulbCheck, rfl, rfl⟩
  · split
    · exact ⟨h.quietCabin, h.lastLeft, h.lastRight, h.flash, h.lit, h.bulbCheck, h.clickTimer, h.tickTimer⟩
    · exact h

theorem select_lamps (h : u.LampsAs s.sound) : u.LampsAs s.select.sound := by
  have henter (d : State) (hd : d.sound = s.sound) (w : Nat) : u.LampsAs (d.enterShown w).sound := by
    rw [enterShown_eq]
    exact shownNotice_lamps (s := d.placed w) (hd.symm ▸ h) w
  rcases select_cases s with ⟨k, -, -⟩ | ⟨w, -, -, k⟩ | ⟨v, -, -, k⟩ | ⟨v, w, -, -, k⟩
  · rw [k]; exact h
  · rw [k]; exact henter s rfl w
  · rw [k]; exact h
  · rw [k]; exact henter (s.modifyWarning v fun x => { x with state := .held }) rfl w

theorem chimed_lamps (h : u.LampsAs s.sound) (s0 : State) : u.LampsAs (State.chimed s0 s).sound := by
  unfold State.chimed
  refine syncChime_lamps ?_
  rw [(endStaleReview_kept _).sound]
  split
  · exact ⟨h.quietCabin, h.lastLeft, h.lastRight, h.flash, h.lit, h.bulbCheck, h.clickTimer, h.tickTimer⟩
  · exact h

end

end Sys2Proof.Machine
end

section
/-! SUPPORT. The item warnings' requests at a part that has just been woken: everything but those warnings, the chime and the
transmit queue stands. -/
namespace Sys2Proof.Machine
set_option Elab.async false

/-- Nothing is reviewed or presented, and no sub-warning is open. -/
structure Arbiter.Still (a : Arbiter) : Prop where
  review : a.review = none
  presented : a.presented = none
  subs : lowestOpen a.subs = none

/-- The three warnings of the service items. -/
abbrev itemWarnings : List Nat := [27, 28, 29]

theorem withWarnings_self (a : Arbiter) (ws : List Warning) (h : a.warnings = ws) : a.withWarnings ws = a := by
  subst h
  rfl

section
variable {s : State}

theorem enterShown_still (h : s.arbiter.Still) (w : Nat) :
    (s.enterShown w).arbiter = s.arbiter.withWarnings (s.enterShown w).arbiter.warnings := by
  obtain ⟨hreview, hpresented, hsubs⟩ := h
  rw [enterShown_eq, (shownNotice_kept _ w).arbiter]
  show ({ s.arbiter with
    warnings := _, review := none
    presented := if w = 30 ∧ s.arbiter.presented = none then lowestOpen s.arbiter.subs else s.arbiter.presented } : Arbiter) = _
  rw [hpresented, hsubs, ite_self]
  unfold Arbiter.withWarnings
  rw [← hpresented, ← hreview]
  rfl

theorem still_of_warnings {a b : Arbiter} {ws : List Warning} (h : b = a.withWarnings ws) (k : a.Still) : b.Still :=
  h ▸ ⟨k.review, k.presented, k.subs⟩

theorem select_still (h : s.arbiter.Still) : s.select.arbiter = s.arbiter.withWarnings s.select.arbiter.warnings := by
  rcases select_cases s with ⟨k, -, -⟩ | ⟨w, -, -, k⟩ | ⟨v, -, -, k⟩ | ⟨v, w, -, -, k⟩
  · rw [k]; rfl
  · rw [k]; exact enterShown_still h w
  · rw [k]; rfl
  · rw [k]
    have hmodified : (s.modifyWarning v fun x => { x with state := .held }).arbiter.Still := ⟨h.review, h.presented, h.subs⟩
    rw [enterShown_still hmodified w]
    rfl

theorem event_still (h : s.arbiter.Still) {f : State → State} {ws : List Warning} (hf : (f s).arbiter = s.arbiter.withWarnings ws) :
    (s.arbiterEvent f).arbiter = s.arbiter.withWarnings (s.arbiterEvent f).arbiter.warnings := by
  have hstill : (f s).arbiter.Still := still_of_warnings hf h
  have hdrop : (f s).dropPresented.arbiter = (f s).arbiter := by
    unfold State.dropPresented
    split
    · rfl
    · show ({ (f s).arbiter with presented := none } : Arbiter) = _
      rw [← hstill.presented]
  have hselect := select_still (s := (f s).dropPresented) (hdrop.symm ▸ hstill)
  have hreview : (f s).dropPresented.select.standingReview = none := by
    unfold State.standingReview
    rw [hselect]
    show Option.filter _ (f s).dropPresented.arbiter.review = none
    rw [hdrop, hstill.review]
    rfl
  have hdone : (s.arbiterEvent f).arbiter = (f s).dropPresented.select.arbiter := by
    rw [arbiterEvent_eq, afterSelect_arbiter, hreview, hselect]
    show ({ ((f s).dropPresented.arbiter.withWarnings _) with review := none } : Arbiter) = _
    unfold Arbiter.withWarnings
    rw [hdrop, ← hstill.review]
  rw [hdone, hselect, hdrop, hf]
  rfl

end

/-- The part stands as it was roused, but for the item warnings, the chime and the queue: the line station `l`, the arbiter `a`,
the sound unit `u` and the handler `x` as they were then. -/
structure State.Roused (l : LineStation) (a : Arbiter) (u : Sound) (x : Handler) (t : State) : Prop where
  line : l.QueuedOn t.line
  arbiter : t.arbiter = a.withWarnings t.arbiter.warnings
  length : t.arbiter.warnings.length = 32
  off : ∀ w, w ∉ itemWarnings → t.warning w = .off
  sound : u.LampsAs t.sound
  handler : t.handler = x

section
variable {l : LineStation} {a : Arbiter} {u : Sound} {x : Handler} {t : State}

theorem State.Roused.of_kept {bs : List Block} {t' : State} (k : KeptBut bs t t') (h : t.Roused l a u x)
    (hl : Block.line ∉ bs := by decide) (ha : Block.arbiter ∉ bs := by decide) (hs : Block.sound ∉ bs := by decide)
    (hh : Block.handler ∉ bs := by decide) : t'.Roused l a u x where
  line := (k.line hl).symm ▸ h.line
  arbiter := by rw [k.arbiter ha]; exact h.arbiter
  length := by rw [k.arbiter ha]; exact h.length
  off w hw := (warning_of_warnings (by rw [k.arbiter ha]) w).trans (h.off w hw)
  sound := (k.sound hs).symm ▸ h.sound
  handler := (k.handler hh).trans h.handler

theorem State.Roused.edgeRequest (hstill : a.Still) (hx : x.state = .idle) (h : t.Roused l a u x) {v : Nat}
    (hv : v ∈ itemWarnings) : (t.edgeRequest v).Roused l a u x := by
  have hlength := (edgeRequest_steady t v).rings.length h.length
  unfold State.edgeRequest at hlength ⊢
  split
  · next hawake =>
    rw [if_pos hawake] at hlength
    obtain ⟨hline, harb, -, hoff, hsound, hhandler⟩ := h
    have htake : KeptBut [.arbiter] t (t.takeEdge v) := takeEdge_kept t v
    have hkept : KeptBut [.arbiter, .sound] t (State.chimed t (t.takeEdge v).dropPresented.select) :=
      ((htake.andThen (cs := [.arbiter]) (dropPresented_kept _)).andThen (cs := [.arbiter, .sound]) (select_kept _)).andThen
        (chimed_kept _ _)
    have hevent : (t.arbiterEvent fun s => s.takeEdge v) =
        if (State.chimed t (t.takeEdge v).dropPresented.select).summary = t.summary then
          State.chimed t (t.takeEdge v).dropPresented.select
        else (State.chimed t (t.takeEdge v).dropPresented.select).queueSummary := by
      rw [arbiterEvent_eq, afterSelect_eq]
    have hquiet : KeptBut [.line, .handler] (State.chimed t (t.takeEdge v).dropPresented.select)
        (t.arbiterEvent fun s => s.takeEdge v) := by
      rw [hevent]
      exact .ite (.refl _ _) (queueSummary_kept _)
    refine ⟨?_, ?_, ?_, fun w hw => ?_, ?_, ?_⟩
    · rw [hevent]
      have hstart : l.QueuedOn (State.chimed t (t.takeEdge v).dropPresented.select).line := hkept.line.symm ▸ hline
      split
      · exact hstart
      · exact hstart.trans (publish_queuedOn _ _ _ _)
    · have := event_still (s := t) (still_of_warnings harb hstill) (f := fun s => s.takeEdge v)
        (ws := (t.takeEdge v).arbiter.warnings) rfl
      rw [this, harb]
      rfl
    · exact hlength
    · have hsel := arbiterEvent_selected t (fun s => s.takeEdge v) w
      have hsame : (t.takeEdge v).warning w = .off := by
        unfold State.takeEdge
        rw [modifyWarning_others _ (fun k : w = v => hw (k.symm ▸ hv))]
        exact hoff w hw
      rw [hsame] at hsel
      exact hsel.same (by decide)
    · rw [hquiet.sound]
      refine chimed_lamps (select_lamps ?_) t
      rw [(dropPresented_kept _).sound, htake.sound]
      exact hsound
    · rw [hevent]
      have hstart : (State.chimed t (t.takeEdge v).dropPresented.select).handler = x := hkept.handler.trans hhandler
      split
      · exact hstart
      · exact (publish_idle (hstart.symm ▸ hx) _ _ _).trans hstart
  · exact h

end

end Sys2Proof.Machine
end

section
/-! SUPPORT. The item warnings' requests given one after the other: forming the items' states, counting the held days down, and
the reminders of a RUN entry. -/
namespace Sys2Proof.Machine
set_option Elab.async false

theorem foldl_const {α β : Type} {P : α → Prop} {f : α → α} (h : ∀ s, P s → P (f s)) (l : List β) {v : α} (hv : P v) :
    P (l.foldl (fun s _ => f s) v) := by
  induction l generalizing v with
  | nil => exact hv
  | cons _ _ ih => exact ih (h v hv)

section
variable {l : LineStation} {a : Arbiter} {u : Sound} {x : Handler} {t : State}

theorem State.Roused.edgeRequests (hstill : a.Still) (hx : x.state = .idle) {ws : List Nat} (hws : ∀ w ∈ ws, w ∈ itemWarnings)
    (h : t.Roused l a u x) : (ws.foldl State.edgeRequest t).Roused l a u x := by
  induction ws generalizing t with
  | nil => exact h
  | cons w ws ih =>
    exact ih (fun v hv => hws v (List.mem_cons_of_mem _ hv)) (h.edgeRequest hstill hx (hws w List.mem_cons_self))

theorem edgeFor_warnings {old new : ItemState} {w : Nat} (h : edgeFor old new = some w) : w ∈ itemWarnings := by
  rcases (edgeFor_iff old new w).mp h with ⟨-, -, rfl⟩ | ⟨-, -, rfl⟩ | ⟨-, -, rfl⟩ <;> decide

theorem formEdges_warnings (s : State) (is : List Nat) :
    ∀ w ∈ is.filterMap fun i => edgeFor (s.item i).state (s.newItemState i), w ∈ itemWarnings := fun w hw => by
  obtain ⟨i, -, hi⟩ := List.mem_filterMap.mp hw
  exact edgeFor_warnings hi

theorem State.Roused.formItems (hstill : a.Still) (hx : x.state = .idle) (h : t.Roused l a u x) (is : List Nat) :
    (t.formItems is).Roused l a u x :=
  (h.of_kept (formQuietly_kept t is)).edgeRequests hstill hx (formEdges_warnings t is)

theorem State.Roused.countdown (hstill : a.Still) (hx : x.state = .idle) (h : t.Roused l a u x) (km : Bool) :
    (t.countdown km).Roused l a u x := by
  rw [countdown_eq]
  exact (h.of_kept (countItems_on t km).kept).formItems hstill hx _

theorem State.Roused.deliverHeldDays (hstill : a.Still) (hx : x.state = .idle) (h : t.Roused l a u x) :
    t.deliverHeldDays.Roused l a u x := by
  unfold State.deliverHeldDays
  have hstart : (t.setCounting { t.counting with heldDays := 0 }).Roused l a u x := h.of_kept (setCounting_kept t _)
  exact foldl_const (P := fun v : State => v.Roused l a u x) (fun _ h => h.countdown hstill hx false) _ hstart

theorem reminders_warnings (s : State) (is : List Nat) : ∀ w ∈ is.filterMap fun i =>
    if s.itemActive i && ((s.item i).state == .due || (s.item i).state == .overdue) then (s.item i).state.warning else none,
    w ∈ itemWarnings := fun w hw => by
  obtain ⟨i, -, hi⟩ := List.mem_filterMap.mp hw
  split at hi
  · cases hs : (s.item i).state <;> rw [hs] at hi <;> cases hi <;> decide
  · cases hi

theorem State.Roused.serviceReminders (hstill : a.Still) (hx : x.state = .idle) (h : t.Roused l a u x) :
    t.serviceReminders.Roused l a u x := h.edgeRequests hstill hx (reminders_warnings t _)

/-! ### The summary queued -/

theorem edgeRequest_announces (h : t.line.Announces) (w : Nat) : (t.edgeRequest w).line.Announces := by
  unfold State.edgeRequest
  split
  · have hkept : KeptBut [.arbiter, .sound] t (State.chimed t (t.takeEdge w).dropPresented.select) :=
      (((takeEdge_kept t w).andThen (cs := [.arbiter]) (dropPresented_kept _)).andThen (cs := [.arbiter, .sound])
        (select_kept _)).andThen (chimed_kept _ _)
    rw [arbiterEvent_eq, afterSelect_eq]
    have hstart : (State.chimed t (t.takeEdge w).dropPresented.select).line.Announces := hkept.line.symm ▸ h
    split
    · exact hstart
    · exact publish_announces (.inr hstart) _ _
  · exact h

theorem edgeRequests_announces {ws : List Nat} (h : t.line.Announces) : (ws.foldl State.edgeRequest t).line.Announces := by
  induction ws generalizing t with
  | nil => exact h
  | cons w ws ih => exact ih (edgeRequest_announces h w)

theorem countdown_announces (h : t.line.Announces) (km : Bool) : (t.countdown km).line.Announces := by
  rw [countdown_eq]
  refine edgeRequests_announces ?_
  rw [(formQuietly_kept _ _).line, (countItems_on t km).kept.line]
  exact h

theorem deliverHeldDays_announces (h : t.line.Announces) : t.deliverHeldDays.line.Announces := by
  unfold State.deliverHeldDays
  have hstart : (t.setCounting { t.counting with heldDays := 0 }).line.Announces := h
  exact foldl_const (P := fun v : State => v.line.Announces) (fun _ h => countdown_announces h false) _ hstart

/-! ### The reminders -/

theorem serviceReminders_reminds (ha : t.ign.awake = true) (hl : t.arbiter.warnings.length = 32) :
    t.Reminds t.warning t.serviceReminders := by
  refine ((edgeRequests_raised _ ha hl).congr fun w _ => ?_).raises
  rw [List.mem_filterMap]
  constructor
  · rintro ⟨i, hi, hw⟩
    refine ⟨i, List.mem_range.mp hi, ?_⟩
    split at hw
    · next hp =>
      rw [Bool.and_eq_true] at hp
      refine ⟨hp.1, ?_⟩
      have hlate := hp.2
      cases hs : (t.item i).state <;> rw [hs] at hw hlate <;> simp_all [ItemState.warning]
    · cases hw
  · rintro ⟨i, hi, hactive, hw⟩
    refine ⟨i, List.mem_range.mpr hi, ?_⟩
    rcases hw with ⟨hs, rfl⟩ | ⟨hs, rfl⟩ <;> rw [hactive, hs] <;> rfl

/-- The reminders read in a state whose items, arbiter and image stand as they were taken. -/
theorem reminds_of {s v w : State} {before : Nat → Warning} (h : v.Reminds before w) (hc : v.cal = s.cal)
    (hi : v.service.items = s.service.items) {w' : State} (hw : w'.arbiter.warnings = w.arbiter.warnings) :
    s.Reminds before w' := by
  have hfigures : v.warningFigures = s.warningFigures := funext fun w => warningFigures_of_cal hc w
  have hactive : v.itemActive = s.itemActive := funext fun i => itemActive_of_cal hc i
  have hitem : v.item = s.item := funext fun i => item_of_items hi i
  have hwarning : w'.warning = w.warning := funext fun i => warning_of_warnings hw i
  unfold State.Reminds State.Raises at h ⊢
  rw [hfigures, hactive, hitem] at h
  rw [hwarning]
  exact h

end

end Sys2Proof.Machine
end

section
/-! SUPPORT. What the store's progress leaves of the copy engine's port and the memory, and the fetches of a wake (R162). -/
namespace Sys2Proof.Machine
set_option Elab.async false

/-! ### The port -/

/-- What only the ends of a write and the port's levels change. -/
def Store.port (st : Store) : NvMemory × Nat × Nat × Bool × Bool × Bool :=
  (st.nv, st.nvFailures, st.consecutiveFailures, st.nvFault, st.latch, st.pwrGood)

theorem fetch_port (st : Store) (b : Nat) : (st.fetch b).port = st.port := by
  unfold Store.fetch
  split
  · split <;> rfl
  · split <;> rfl

theorem update_port (st : Store) (b : Nat) (f : List Byte → List Byte) : (st.update b f).port = st.port := by
  unfold Store.update
  split <;> rfl

theorem endOrder_port (st : Store) (k : Nat) : (st.endOrder k).port = st.port := by
  unfold Store.endOrder
  dsimp only
  split <;> rfl

theorem admitOne_port {st st' : Store} (h : st.admitOne = some st') : st'.port = st.port := by
  rcases admitOne_cases h with ⟨b, i, k, x, -, -, rfl⟩ | ⟨k, o, -, rfl⟩
  · unfold Store.takeVictim
    split <;> rfl
  · rfl

theorem engineOne_port {st st' : Store} (h : st.engineOne = some st') : st'.port = st.port := by
  obtain ⟨-, k, o, ho, rfl⟩ := engineOne_cases h
  rcases startOrder_cases ho with ⟨op, h⟩ | ⟨i, serves, -, h⟩ | ⟨i, x, p, -, -, h⟩ | ⟨-, -, h⟩
  · rw [h]; rfl
  · rw [h]; rfl
  · rw [h]; rfl
  · rw [h]; exact endOrder_port st k

theorem place_port (st : Store) (o : Order) : (st.place o).port = st.port := by
  unfold Store.place
  split
  · rfl
  · split <;> rfl

theorem invalidateBlock_port (st : Store) (b : Nat) : (st.invalidateBlock b).port = st.port := by
  unfold Store.invalidateBlock
  split <;> rfl

theorem taskOne_port {st st' : Store} {x : Option Status} (h : st.taskOne = some (st', x)) : st'.port = st.port := by
  have hremoved (b : Nat) : ({ st.invalidateBlock b with task := .none } : Store).port = st.port := invalidateBlock_port st b
  have hplaced (b : Nat) : ({ st.writeback b true with task := .writebackInvalidate b true } : Store).port = st.port := place_port st _
  unfold Store.taskOne at h
  dsimp only at h
  split at h
  · split at h
    · cases h
    · cases h; rfl
  · split at h
    · cases h
    · split at h
      · cases h; rfl
      · cases h; exact hremoved _
  · split at h
    · cases h
    · split at h
      · cases h; exact hplaced _
      · cases h; exact hremoved _
  · split at h
    · cases h
    · split at h
      · cases h; rfl
      · cases h; exact hremoved _
  · split at h
    · cases h
    · cases h; rfl
  all_goals cases h

theorem settle_port (fuel : Nat) (st : Store) : (st.settle fuel).1.port = st.port := by
  induction fuel generalizing st with
  | zero => rfl
  | succ fuel ih =>
    unfold Store.settle
    split
    · next st' r h => exact (ih st').trans (taskOne_port h)
    · split
      · next st' h => exact (ih st').trans (admitOne_port h)
      · split
        · next st' h => exact (ih st').trans (engineOne_port h)
        · rfl

theorem settleStore_port (s : State) : s.settleStore.store.port = s.store.port := by
  rw [settleStore_store_eq]
  exact settle_port _ _

theorem Store.Counts.port {P : Nat → Prop} {st st' : Store} (h : st.Counts P st') : st'.port = st.port := by
  induction h with
  | refl => rfl
  | update _ _ f ih => exact (update_port _ _ f).trans ih
  | fetch _ _ _ ih => exact (fetch_port _ _).trans ih

/-! ### A fetch outstanding -/

theorem fetch_lists (st : Store) (b : Nat) : (st.fetch b).orders = st.orders ∧ ∀ w ∈ st.waiting, w ∈ (st.fetch b).waiting := by
  unfold Store.fetch
  split
  · split <;> exact ⟨rfl, fun _ => id⟩
  · split
    · exact ⟨rfl, fun _ => id⟩
    · exact ⟨rfl, fun _ h => List.mem_append_left _ h⟩

theorem fetch_keeps_fetches {st : Store} {n : Nat} (h : st.Fetches n) (b : Nat) : (st.fetch b).Fetches n := by
  obtain ⟨ho, hw⟩ := fetch_lists st b
  exact h.imp (fun k => ho ▸ k) fun ⟨x, k⟩ => ⟨x, hw _ k⟩

theorem Store.Counts.fetches {P : Nat → Prop} {st st' : Store} (h : st.Counts P st') {n : Nat} (k : st.Fetches n) :
    st'.Fetches n := by
  induction h with
  | refl => exact k
  | @update u _ b _ f ih =>
    have hlists : (u.update b f).orders = u.orders ∧ (u.update b f).waiting = u.waiting := by
      unfold Store.update
      split <;> exact ⟨rfl, rfl⟩
    exact ih.imp (fun k => hlists.1 ▸ k) fun ⟨x, k⟩ => ⟨x, hlists.2 ▸ k⟩
  | fetch _ _ _ ih => exact fetch_keeps_fetches ih _

theorem find_fetch (st : Store) (b c : Nat) : (st.fetch b).find c = st.find c := by
  unfold Store.fetch
  split
  · split
    · rfl
    · exact find_touch _ _ _
  · split <;> rfl

/-! ### The wake's fetches -/

/-- An item of the block has pending counts. -/
def State.pendsIn (s : State) (b : Nat) : Bool := (itemsOf b).any fun i => (s.item i).pendingKm != 0 || (s.item i).pendingDays != 0

def State.wakeFetch (s : State) (b : Nat) : State := if s.pendsIn b then s.fetchService b else s

theorem serviceWake_eq (s : State) : s.serviceWake = [3, 4, 5, 6].foldl State.wakeFetch s := rfl

theorem pendsIn_iff (s : State) {b : Nat} (hb : 3 ≤ b ∧ b ≤ 6) : s.pendsIn b = true ↔
    ∃ i < 8, itemBlock i = b ∧ ((s.item i).pendingKm ≠ 0 ∨ (s.item i).pendingDays ≠ 0) := by
  unfold State.pendsIn
  rw [List.any_eq_true]
  simp only [Bool.or_eq_true, bne_iff_ne]
  constructor
  · rintro ⟨i, hi, hp⟩
    obtain ⟨hlt, hblock⟩ : i < 8 ∧ itemBlock i = b := by
      simp only [itemsOf, List.mem_cons, List.not_mem_nil, or_false] at hi
      unfold itemBlock
      omega
    exact ⟨i, hlt, hblock, hp⟩
  · rintro ⟨i, hi, hblock, hp⟩
    refine ⟨i, ?_, hp⟩
    unfold itemBlock at hblock
    simp only [itemsOf, List.mem_cons, List.not_mem_nil, or_false]
    omega

/-- What the wake's fetches leave. -/
structure State.WakeFetched (s t : State) : Prop where
  kept : KeptBut [.service, .store] s t
  items : t.service.items = s.service.items
  selected : t.service.selected = s.service.selected
  marks : t.service.fetchMarks.length = s.service.fetchMarks.length
  port : t.store.port = s.store.port
  task : t.store.task = s.store.task
  find : ∀ c, t.store.find c = s.store.find c
  fetches : ∀ n, s.store.Fetches n → t.store.Fetches n

theorem State.WakeFetched.refl (s : State) : s.WakeFetched s := ⟨.refl _ _, rfl, rfl, rfl, rfl, rfl, fun _ => rfl, fun _ => id⟩

theorem State.WakeFetched.trans {s t u : State} (h : s.WakeFetched t) (k : t.WakeFetched u) : s.WakeFetched u :=
  ⟨h.kept.trans k.kept, k.items.trans h.items, k.selected.trans h.selected, k.marks.trans h.marks, k.port.trans h.port,
    k.task.trans h.task, fun c => (k.find c).trans (h.find c), fun n hn => k.fetches n (h.fetches n hn)⟩

theorem wakeFetch_on (s : State) (b : Nat) : s.WakeFetched (s.wakeFetch b) := by
  unfold State.wakeFetch
  split
  · cases hm : s.service.mark b with
    | true => rw [fetchService_marked hm]; exact .refl s
    | false =>
      have hkept := fetchService_kept s b
      rw [fetchService_unmarked hm] at hkept ⊢
      exact ⟨hkept, rfl, rfl, List.length_set, fetch_port _ _, fetch_task _ _, find_fetch _ _, fun n hn => fetch_keeps_fetches hn b⟩
  · exact .refl s

theorem wakeFetches_on (bs : List Nat) (s : State) : s.WakeFetched (bs.foldl State.wakeFetch s) := by
  induction bs generalizing s with
  | nil => exact .refl s
  | cons b bs ih => exact (wakeFetch_on s b).trans (ih _)

theorem State.WakeFetched.pendsIn {s t : State} (h : s.WakeFetched t) (b : Nat) : t.pendsIn b = s.pendsIn b := by
  unfold State.pendsIn
  simp only [item_of_items h.items]

theorem wakeFetches_mark {c : Nat} (hc : 3 ≤ c ∧ c ≤ 6) (bs : List Nat) (hbs : ∀ b ∈ bs, 3 ≤ b) {s : State}
    (hl : s.service.fetchMarks.length = 4) : (bs.foldl State.wakeFetch s).service.mark c = true ↔
      s.service.mark c = true ∨ (c ∈ bs ∧ s.pendsIn c = true) := by
  induction bs generalizing s with
  | nil => simp
  | cons b bs ih =>
    have hon := wakeFetch_on s b
    rw [List.foldl_cons, ih (fun x hx => hbs x (List.mem_cons_of_mem _ hx)) (hon.marks.trans hl), hon.pendsIn]
    have hstep : (s.wakeFetch b).service.mark c = true ↔ s.service.mark c = true ∨ (c = b ∧ s.pendsIn c = true) := by
      unfold State.wakeFetch
      by_cases hcb : c = b
      · subst hcb
        by_cases hp : s.pendsIn c = true
        · rw [if_pos hp, fetchService_mark hl hc.1 hc.2]
          simp [hp]
        · rw [if_neg hp]
          simp [hp]
      · split
        · rw [fetchService_mark_ne s (hbs b List.mem_cons_self) hc.1 hcb]
          simp [hcb]
        · simp [hcb]
    rw [hstep, List.mem_cons]
    tauto

theorem wakeFetches_fetch {c : Nat} (hc : 3 ≤ c) (bs : List Nat) (hbs : ∀ b ∈ bs, 3 ≤ b) {s : State} (hmem : c ∈ bs)
    (hp : s.pendsIn c = true) (hm : s.service.mark c = false) (hf : s.store.find c = none) :
    (bs.foldl State.wakeFetch s).store.Fetches c := by
  induction bs generalizing s with
  | nil => cases hmem
  | cons b bs ih =>
    have hon := wakeFetch_on s b
    rw [List.foldl_cons]
    by_cases hcb : c = b
    · subst hcb
      refine (wakeFetches_on bs _).fetches c ?_
      unfold State.wakeFetch
      rw [if_pos hp, fetchService_unmarked hm]
      exact fetch_fetches hf
    · refine ih (fun x hx => hbs x (List.mem_cons_of_mem _ hx)) ((List.mem_cons.mp hmem).resolve_left hcb)
        ((hon.pendsIn c).trans hp) ?_ ((hon.find c).trans hf)
      unfold State.wakeFetch
      split
      · rw [fetchService_mark_ne s (hbs b List.mem_cons_self) hc hcb]
        exact hm
      · exact hm

theorem wakeFetches_none (bs : List Nat) {s : State} (h : ∀ b ∈ bs, s.pendsIn b = false) : bs.foldl State.wakeFetch s = s := by
  induction bs with
  | nil => rfl
  | cons b bs ih =>
    rw [List.foldl_cons, show s.wakeFetch b = s from if_neg (by rw [h b List.mem_cons_self]; decide)]
    exact ih fun x hx => h x (List.mem_cons_of_mem _ hx)

end Sys2Proof.Machine
end

section
/-! SUPPORT. A wake (R19, R31, R69, R85, R101, R112, R136, R150, R162): every block's values. -/
namespace Sys2Proof.Machine
set_option Elab.async false

section
variable {s : State} {x : Ign}

/-! ### The blocks up to the start of the timers -/

theorem wakeBegun_kept (s : State) (x : Ign) :
    KeptBut [.ignition, .keys, .counting, .trip, .line, .topics, .store, .handler, .arbiter, .sound] s (s.wakeBegun x) := by
  unfold State.wakeBegun
  refine KeptBut.trans ?_ ((arbiterWake_kept _).mono (by decide))
  refine KeptBut.trans ?_ ((setHandler_kept _ _).mono (by decide))
  refine KeptBut.trans (KeptBut.trans ?_ ((setTopics_kept _ _).mono (by decide))) ((setStore_kept _ _).mono (by decide))
  refine KeptBut.trans (KeptBut.trans ?_ ((setTrip_kept _ _).mono (by decide))) ((setLine_kept _ _).mono (by decide))
  exact (goTo_kept s x).andThen (countingWake_kept _)

/-- The arbiter of a part that wakes, before its timers start. -/
def Arbiter.woken (a : Arbiter) : Arbiter :=
  { a with warnings := List.replicate 32 .off, review := none, presented := none, subs := List.replicate 8 .none }

theorem wakeBegun_blocks (s : State) (x : Ign) :
    (s.wakeBegun x).trip = s.trip.wake ∧ (s.wakeBegun x).topics = s.topics.wake ∧ (s.wakeBegun x).store = s.store.wake ∧
      (s.wakeBegun x).handler = { s.handler with state := .idle } ∧ (s.wakeBegun x).keys = s.keys.map KeyInput.forget ∧
      (s.wakeBegun x).arbiter = s.arbiter.woken := by
  unfold State.wakeBegun
  refine ⟨(arbiterWake_kept _).trip, (arbiterWake_kept _).topics, (arbiterWake_kept _).store, (arbiterWake_kept _).handler,
    (arbiterWake_kept _).keys, ?_⟩
  unfold State.arbiterWake
  dsimp only
  rw [State.setArbiter_arbiter, arbiterClear_arbiter]
  rfl

/-- Whatever the arbiter's start told the sound unit, it is silent. -/
theorem wakeBegun_sound (s : State) (x : Ign) : (s.wakeBegun x).sound.sleep = s.sound.sleep := by
  unfold State.wakeBegun State.arbiterWake
  dsimp only
  rw [State.setArbiter_sound, clear_sound_sleep]
  rfl

/-- The arbiter with its timers started. -/
def Arbiter.started (a : Arbiter) : Arbiter := { a with tick := some 10, rate43 := some 200 }

theorem woken_still (a : Arbiter) : a.woken.started.Still := ⟨rfl, rfl, rfl⟩

theorem woken_warning (a : Arbiter) (w : Nat) : a.woken.started.warnings.getD w .off = .off := by
  show (List.replicate 32 Warning.off).getD w .off = .off
  rw [List.getD_eq_getElem?_getD, List.getElem?_replicate]
  split <;> rfl

theorem timersStarted_line (w : State) : w.timersStarted.line = w.line.start41 := rfl

theorem timersStarted_arbiter (w : State) : w.timersStarted.arbiter = w.arbiter.started := rfl

theorem timersStarted_sound (w : State) : w.timersStarted.sound = w.sound.wake := rfl

theorem timersStarted_handler (w : State) : w.timersStarted.handler = w.handler := by
  unfold State.timersStarted
  simp only [State.setArbiter_handler, State.setSound_handler, State.setRules_handler, State.setGauges_handler,
    State.setTopics_handler, State.setLine_handler]

theorem timersStarted_topics (w : State) : w.timersStarted.topics = { w.topics with tick := some 10 } := rfl

theorem timersStarted_gauges (w : State) : w.timersStarted.gauges = w.gauges.wake := rfl

theorem timersStarted_rules (w : State) : w.timersStarted.rules = w.rules.wake := rfl

theorem wake_of_sleep {u v : Sound} (h : u.sleep = v.sleep) : u.wake = v.wake := by
  unfold Sound.wake
  rw [h]

theorem timersStarted_roused (s : State) (x : Ign) : (s.wakeBegun x).timersStarted.Roused s.line.wake.start41
    s.arbiter.woken.started s.sound.wake { s.handler with state := .idle } := by
  obtain ⟨-, -, -, hhandler, -, harbiter⟩ := wakeBegun_blocks s x
  have hsound := wake_of_sleep (wakeBegun_sound s x)
  have hline := wakeBegun_line s x
  have kline := timersStarted_line (s.wakeBegun x)
  have karb := timersStarted_arbiter (s.wakeBegun x)
  have ksound := timersStarted_sound (s.wakeBegun x)
  have khandler := timersStarted_handler (s.wakeBegun x)
  rw [hline] at kline
  rw [harbiter] at karb
  rw [hsound] at ksound
  rw [hhandler] at khandler
  refine ⟨kline.symm ▸ .refl _, ?_, ?_, fun w _ => ?_, ?_, khandler⟩
  · rw [karb]; rfl
  · rw [karb]; rfl
  · unfold State.warning
    rw [karb]
    exact woken_warning _ w
  · rw [ksound]
    exact ⟨rfl, rfl, rfl, rfl, rfl, rfl, rfl, rfl⟩

/-! ### The start of the timers, and the fetches -/

/-- The part with its timers started and its fetches placed. -/
def State.wakeTimed (s : State) (x : Ign) : State := (s.wakeBegun x).startTimers.serviceWake

theorem wakeTimed_fetched (s : State) (x : Ign) : (s.wakeBegun x).startTimers.WakeFetched (s.wakeTimed x) := wakeFetches_on _ _

theorem startTimers_roused (s : State) (x : Ign) : (s.wakeBegun x).startTimers.Roused s.line.wake.start41
    s.arbiter.woken.started s.sound.wake { s.handler with state := .idle } := by
  have h := timersStarted_roused s x
  have hk := queueSummary_kept (s.wakeBegun x).timersStarted
  rw [startTimers_eq]
  refine ⟨h.line.trans (publish_queuedOn _ _ _ _), ?_, ?_, fun w hw => ?_, ?_, ?_⟩
  · rw [hk.arbiter]; exact h.arbiter
  · rw [hk.arbiter]; exact h.length
  · rw [warning_of_warnings (congrArg Arbiter.warnings hk.arbiter)]
    exact h.off w hw
  · rw [hk.sound]; exact h.sound
  · exact (publish_idle (h.handler ▸ rfl) _ _ _).trans h.handler

theorem wakeTimed_roused (s : State) (x : Ign) : (s.wakeTimed x).Roused s.line.wake.start41 s.arbiter.woken.started s.sound.wake
    { s.handler with state := .idle } := (startTimers_roused s x).of_kept (wakeTimed_fetched s x).kept

theorem wakeTimed_announces (h : s.line.queue = []) (x : Ign) : (s.wakeTimed x).line.Announces := by
  rw [(wakeTimed_fetched s x).kept.line, startTimers_eq]
  refine publish_announces (.inl ?_) _ _
  rw [timersStarted_line, wakeBegun_line, show s.line.wake.start41.queue = s.line.queue from rfl, h]
  rfl

/-! ### The entry to the state -/

/-- The line station, and the sound unit, that the entry leaves but for the queue and the chime. -/
def LineStation.risen (l : LineStation) (x : Ign) : LineStation := if x = .run then l.wake.start41.runEntry else l.wake.start41

def Sound.risen (u : Sound) (x : Ign) : Sound := if x = .run then u.wake.startBulbCheck else u.wake

/-- The part with the state entered, before the held days. -/
def State.risen (s : State) (x : Ign) : State := (s.wakeTimed x).enterAwake x

theorem wakeInto_risen (s : State) (x : Ign) : s.wakeInto x = (s.risen x).deliverHeldDays.settleStore := rfl

theorem queuedOn_runEntry {l l' : LineStation} (h : l.QueuedOn l') : l.runEntry.QueuedOn l'.runEntry := by
  unfold LineStation.QueuedOn at *
  unfold LineStation.runEntry
  rw [h]

theorem runStarted_roused {l : LineStation} {a : Arbiter} {u : Sound} {y : Handler} {t : State} (h : t.Roused l a u y) :
    t.runStarted.Roused l.runEntry a u.startBulbCheck y where
  line := queuedOn_runEntry h.line
  arbiter := h.arbiter
  length := h.length
  off := h.off
  sound :=
    ⟨h.sound.quietCabin, h.sound.lastLeft, h.sound.lastRight, h.sound.flash, h.sound.lit, rfl, h.sound.clickTimer, h.sound.tickTimer⟩
  handler := h.handler

theorem enterAwake_roused {t : State} {a : Arbiter} {y : Handler} (ha : a.Still) (hy : y.state = .idle)
    (h : t.Roused s.line.wake.start41 a s.sound.wake y) : (t.enterAwake x).Roused (s.line.risen x) a (s.sound.risen x) y := by
  unfold State.enterAwake LineStation.risen Sound.risen
  by_cases hx : x = .run
  · rw [if_pos hx, if_pos hx, if_pos hx, runEntry_eq]
    exact (runStarted_roused h).serviceReminders ha hy
  · rw [if_neg hx, if_neg hx, if_neg hx]
    exact h

theorem risen_roused (s : State) (x : Ign) : (s.risen x).Roused (s.line.risen x) s.arbiter.woken.started (s.sound.risen x)
    { s.handler with state := .idle } := enterAwake_roused (woken_still _) rfl (wakeTimed_roused s x)

theorem enterAwake_announces {t : State} (h : t.line.Announces) (x : Ign) : (t.enterAwake x).line.Announces := by
  unfold State.enterAwake
  split
  · rw [runEntry_eq]
    exact edgeRequests_announces (t := t.runStarted) h
  · exact h

theorem risen_announces (h : s.line.queue = []) (x : Ign) : (s.risen x).line.Announces :=
  enterAwake_announces (wakeTimed_announces h x) x

theorem delivered_roused (s : State) (x : Ign) : (s.risen x).deliverHeldDays.Roused (s.line.risen x) s.arbiter.woken.started
    (s.sound.risen x) { s.handler with state := .idle } := (risen_roused s x).deliverHeldDays (woken_still _) rfl

end

end Sys2Proof.Machine
end

section
/-! SUPPORT. A wake's values, block by block: the held days, the counting unit, the gauges, the store. -/
namespace Sys2Proof.Machine
set_option Elab.async false

/-! ### The held days -/

section
variable {t : State}

theorem deliverHeldDays_quiet (h : t.counting.heldDays = 0) :
    t.deliverHeldDays = t.setCounting { t.counting with heldDays := 0 } := by
  unfold State.deliverHeldDays
  rw [h]
  rfl

theorem deliverHeldDays_counting (t : State) : t.deliverHeldDays.counting = { t.counting with heldDays := 0 } :=
  (KeptBut.foldl (fun s _ => countdown_kept s false) _ _ : KeptBut serviceBlocks _ t.deliverHeldDays).counting

theorem deliverHeldDays_selected (t : State) : t.deliverHeldDays.service.selected = t.service.selected := by
  unfold State.deliverHeldDays
  exact foldl_const (P := fun v : State => v.service.selected = t.service.selected)
    (fun v h => (countdown_selected v false).trans h) _ rfl

theorem countdown_counts (t : State) (km : Bool) : t.store.Counts ServiceBlock (t.countdown km).store := by
  have hstore : (t.countdown km).store = (t.countItems km).store := (formItems_kept (t.countItems km) (List.range 8)).store
  rw [hstore]
  exact (countItems_on t km).store

theorem deliverHeldDays_counts (t : State) : t.store.Counts ServiceBlock t.deliverHeldDays.store := by
  unfold State.deliverHeldDays
  exact foldl_const (P := fun v : State => t.store.Counts ServiceBlock v.store)
    (fun v h => h.trans (countdown_counts v false)) _ .refl

end

/-! ### From the start of the timers on -/

section
variable {s : State} {x : Ign}

abbrev risingBlocks : List Block := [.counting, .gauges, .sound, .line, .arbiter, .handler, .service, .store]

theorem wakeInto_after (s : State) (x : Ign) : KeptBut risingBlocks (s.wakeBegun x).startTimers (s.wakeInto x) := by
  rw [wakeInto_risen]
  refine KeptBut.trans ?_ ((settleStore_kept _).mono (by decide))
  refine KeptBut.trans ?_ ((deliverHeldDays_kept _).mono (by decide))
  exact ((wakeTimed_fetched s x).kept.mono (by decide)).trans ((enterAwake_kept _ x).mono (by decide))

theorem wakeInto_begun (s : State) (x : Ign) :
    KeptBut [.counting, .gauges, .sound, .line, .arbiter, .handler, .service, .store, .topics, .rules] (s.wakeBegun x)
      (s.wakeInto x) :=
  ((startTimers_kept _).mono (by decide)).trans ((wakeInto_after s x).mono (by decide))

theorem wakeInto_trip (s : State) (x : Ign) : (s.wakeInto x).trip = s.trip.wake :=
  (wakeInto_begun s x).trip.trans (wakeBegun_blocks s x).1

theorem wakeInto_keys (s : State) (x : Ign) : (s.wakeInto x).keys = s.keys.map KeyInput.forget :=
  (wakeInto_begun s x).keys.trans (wakeBegun_blocks s x).2.2.2.2.1

theorem wakeInto_others (s : State) (x : Ign) : (s.wakeInto x).arith = s.arith ∧ (s.wakeInto x).cal = s.cal ∧
    (s.wakeInto x).pending = s.pending ∧ (s.wakeInto x).display = s.display ∧ (s.wakeInto x).freeIndex = s.freeIndex := by
  have hafter := wakeInto_begun s x
  have hbegun := wakeBegun_kept s x
  exact ⟨hafter.arith.trans hbegun.arith, hafter.cal.trans hbegun.cal, hafter.pending.trans hbegun.pending,
    hafter.display.trans hbegun.display, hafter.freeIndex.trans hbegun.freeIndex⟩

theorem wakeInto_topics (s : State) (x : Ign) :
    (s.wakeInto x).topics = { entries := s.topics.entries.map Entry.wake, tick := some 10 } := by
  rw [(wakeInto_after s x).topics, startTimers_eq, (queueSummary_kept _).topics, timersStarted_topics,
    (wakeBegun_blocks s x).2.1]
  rfl

theorem wakeInto_rules (s : State) (x : Ign) :
    (s.wakeInto x).rules = { slots := List.replicate 32 .clear, timer := some 10 } := by
  rw [(wakeInto_after s x).rules, startTimers_eq, (queueSummary_kept _).rules, timersStarted_rules]
  rfl

theorem risen_ends (s : State) (x : Ign) : KeptBut [.counting, .service, .store, .arbiter, .sound, .line, .handler]
    (s.risen x) (s.wakeInto x) := by
  rw [wakeInto_risen]
  exact (deliverHeldDays_kept _).trans ((settleStore_kept _).mono (by decide))

/-- The gauge of a part that wakes. -/
def wokenGauge (run : Bool) : Gauge :=
  { state := if run then .sweep else .parked, evaluated := none, target := 0, filtered := 0, commanded := 0
    parkCount := 0, driven := run }

theorem enterAwake_gauges {t : State} (x : Ign) : (t.enterAwake x).gauges = if x = .run then t.gauges.startSweep false else t.gauges := by
  unfold State.enterAwake
  split
  · rw [runEntry_eq, (serviceReminders_kept _).gauges]
    rfl
  · rfl

theorem wakeTimed_gauges (s : State) (x : Ign) : (s.wakeTimed x).gauges = s.gauges.wake := by
  rw [(wakeTimed_fetched s x).kept.gauges, startTimers_eq, (queueSummary_kept _).gauges, timersStarted_gauges]
  rfl

theorem wakeInto_gauges (s : State) (x : Ign) : (s.wakeInto x).gauges =
    { gauges := List.replicate 6 (wokenGauge (x == .run)), sweep := if x == .run then some 0 else none, testMark := false
      timer := some 2 } := by
  rw [(risen_ends s x).gauges, State.risen, enterAwake_gauges, wakeTimed_gauges]
  cases x <;> rfl

/-- The counting unit of a part that wakes. -/
def Counting.woken (c : Counting) (run : Bool) : Counting := { c with
  openCount := 0, closedCount := 0, hasClosed := false, windowTimer := if run then some 50 else none
  notedPulses := none, speed := 0, turnDistance := 0, turnActive := false, turnTicks := 0, windowSteps := 0
  windowFuel := 0, heldDays := 0, clockSet := .normal, keyIdle := none, fuelReference := none, rawFuel := none
  fuel := none, returnPending := true, keptRaw := none, latestRaw := none, requestRaw := none, refuelTimer := 0 }

theorem enterAwake_counting {t : State} (x : Ign) : (t.enterAwake x).counting = if x = .run then t.counting.startWindows else t.counting := by
  unfold State.enterAwake
  split
  · rw [runEntry_eq, (serviceReminders_kept _).counting]
    rfl
  · rfl

theorem wakeTimed_counting (s : State) (x : Ign) : (s.wakeTimed x).counting = s.countingWake.counting := by
  rw [(wakeTimed_fetched s x).kept.counting, (startTimers_kept _).counting, wakeBegun_counting]
  rfl

theorem wakeInto_counting (s : State) (x : Ign) : (s.wakeInto x).counting = s.counting.woken (x == .run) := by
  rw [wakeInto_risen, (settleStore_kept _).counting, deliverHeldDays_counting, State.risen, enterAwake_counting, wakeTimed_counting]
  cases x <;> rfl

theorem risen_heldDays (s : State) (x : Ign) : (s.risen x).counting.heldDays = s.counting.heldDays := by
  rw [State.risen, enterAwake_counting, wakeTimed_counting]
  cases x <;> rfl

/-- Without held days only the store's progress follows the entry. -/
theorem wakeInto_quiet (h : s.counting.heldDays = 0) (x : Ign) :
    KeptBut [.counting, .store, .line, .handler] (s.risen x) (s.wakeInto x) := by
  rw [wakeInto_risen, deliverHeldDays_quiet ((risen_heldDays s x).trans h)]
  exact ((setCounting_kept _ _).mono (by decide)).trans ((settleStore_kept _).mono (by decide))

/-! ### The store -/

theorem wakeTimed_eq (s : State) (x : Ign) : s.wakeTimed x = [3, 4, 5, 6].foldl State.wakeFetch (s.wakeBegun x).startTimers := by
  unfold State.wakeTimed
  rw [serviceWake_eq]

theorem startTimers_store (s : State) (x : Ign) : (s.wakeBegun x).startTimers.store = s.store.wake :=
  (startTimers_kept _).store.trans (wakeBegun_blocks s x).2.2.1

theorem startTimers_service (s : State) (x : Ign) : (s.wakeBegun x).startTimers.service = s.service :=
  (startTimers_kept _).service.trans (wakeBegun_kept s x).service

theorem risen_store (s : State) (x : Ign) : (s.risen x).store = (s.wakeTimed x).store := (enterAwake_kept _ x).store

theorem risen_service (s : State) (x : Ign) : (s.risen x).service = (s.wakeTimed x).service := (enterAwake_kept _ x).service

theorem wakeInto_port (s : State) (x : Ign) : (s.wakeInto x).store.port = s.store.wake.port := by
  rw [wakeInto_risen, settleStore_port, (deliverHeldDays_counts _).port, risen_store, (wakeTimed_fetched s x).port,
    startTimers_store]

theorem startTimers_pends (s : State) (x : Ign) (b : Nat) : (s.wakeBegun x).startTimers.pendsIn b = s.pendsIn b := by
  unfold State.pendsIn
  simp only [item_of_items (congrArg Service.items (startTimers_service s x))]

theorem wakeInto_task (h : s.store.task = .none) (x : Ign) : (s.risen x).deliverHeldDays.store.task = .none := by
  rw [(deliverHeldDays_counts _).kept.task, risen_store, (wakeTimed_fetched s x).task, startTimers_store]
  exact h

theorem wakeInto_untasked (h : s.store.task = .none) (x : Ign) :
    ∃ u, s.wakeInto x = (s.risen x).deliverHeldDays.setStore u ∧ (s.risen x).deliverHeldDays.store.GoesOn u := by
  obtain ⟨hset, hon⟩ := settleStore_goesOn (s := (s.risen x).deliverHeldDays) (by rw [wakeInto_task h]; rfl)
  exact ⟨_, (wakeInto_risen s x).trans hset, hon⟩

theorem wakeInto_fetches (h : s.store.task = .none) (x : Ign) {b : Nat} (hb : 3 ≤ b ∧ b ≤ 6) (hp : s.pendsIn b = true)
    (hm : s.service.mark b = false) (hf : s.store.find b = none) : (s.wakeInto x).store.Fetches b := by
  obtain ⟨u, hu, hon⟩ := wakeInto_untasked h x
  rw [hu, State.setStore_store]
  refine hon.fetches b ((deliverHeldDays_counts _).fetches ?_)
  rw [risen_store, wakeTimed_eq]
  have hp' := (startTimers_pends s x b).trans hp
  have hm' : (s.wakeBegun x).startTimers.service.mark b = false := by rw [startTimers_service]; exact hm
  have hf' : (s.wakeBegun x).startTimers.store.find b = none := by rw [startTimers_store]; exact hf
  generalize (s.wakeBegun x).startTimers = v at hp' hm' hf' ⊢
  exact wakeFetches_fetch hb.1 [3, 4, 5, 6] (by decide) (by simp; omega) hp' hm' hf'

theorem wakeInto_resting (h : s.store.AtRest) (hq : s.counting.heldDays = 0) (hp : ∀ b, 3 ≤ b → b ≤ 6 → s.pendsIn b = false)
    (x : Ign) : (s.wakeInto x).store = s.store.wake := by
  have hpends : ∀ b ∈ [3, 4, 5, 6], (s.wakeBegun x).startTimers.pendsIn b = false := fun b hb => by
    rw [startTimers_pends]
    have : 3 ≤ b ∧ b ≤ 6 := by simp at hb; omega
    exact hp b this.1 this.2
  have hnone : s.wakeTimed x = (s.wakeBegun x).startTimers := (wakeTimed_eq s x).trans (wakeFetches_none _ hpends)
  have hstore : (s.risen x).deliverHeldDays.store = s.store.wake := by
    rw [deliverHeldDays_quiet ((risen_heldDays s x).trans hq), State.setCounting_store, risen_store, hnone, startTimers_store]
  have hrest : s.store.wake.AtRest := h
  rw [wakeInto_risen, settleStore_settled (by rw [hstore]; exact settled_atRest hrest)]
  exact hstore

/-! ### The service unit -/

theorem wakeInto_selected (s : State) (x : Ign) : (s.wakeInto x).service.selected = s.service.selected := by
  rw [wakeInto_risen, (settleStore_kept _).service, deliverHeldDays_selected, risen_service, (wakeTimed_fetched s x).selected,
    startTimers_service]

theorem wakeInto_items (hq : s.counting.heldDays = 0) (x : Ign) : (s.wakeInto x).service.items = s.service.items := by
  rw [(wakeInto_quiet hq x).service, risen_service, (wakeTimed_fetched s x).items, startTimers_service]

theorem wakeInto_marks (hq : s.counting.heldDays = 0) (hl : s.service.fetchMarks.length = 4) (x : Ign) {b : Nat}
    (hb : 3 ≤ b ∧ b ≤ 6) : (s.wakeInto x).service.mark b = true ↔ s.service.mark b = true ∨ s.pendsIn b = true := by
  rw [(wakeInto_quiet hq x).service, risen_service]
  have h := wakeFetches_mark hb [3, 4, 5, 6] (by decide) (s := (s.wakeBegun x).startTimers)
    (by rw [startTimers_service]; exact hl)
  rw [startTimers_service, startTimers_pends] at h
  refine h.trans ?_
  have hmem : b ∈ [3, 4, 5, 6] := by simp; omega
  simp [hmem]

end

end Sys2Proof.Machine
end

section
/-! SUPPORT. A wake as the statements on the ignition read it: `State.Wakes`. -/
namespace Sys2Proof.Machine
set_option Elab.async false

/-! ### The presentation of a part whose keys are released -/

theorem forget_endHold (x : KeyInput) : x.forget.endHold = x.forget := rfl

theorem refreshHolds_forgotten {v : State} {ks : Keys} (h : v.keys = ks.map KeyInput.forget) (s0 : State) :
    State.refreshHolds s0 v = v := by
  have hall : v.keys.map KeyInput.endHold = v.keys := by rw [h]; rfl
  have hreset : ({ v.keys with reset := v.keys.reset.endServiceReset } : Keys) = v.keys := by rw [h]; rfl
  unfold State.refreshHolds
  split
  · rw [hall]; rfl
  · split
    · rw [hreset]; rfl
    · rfl

theorem present_forgotten {v : State} {ks : Keys} (h : v.keys = ks.map KeyInput.forget) (s0 : State) :
    KeptBut [.display] v (State.present s0 v) := by
  unfold State.present
  rw [refreshHolds_forgotten h]
  exact refreshDisplay_kept _ _

theorem present_asleep_forgotten {v : State} {ks : Keys} (h : v.keys = ks.map KeyInput.forget) (ha : v.ign.awake = false) (s0 : State) :
    State.present s0 v = v := by
  unfold State.present
  rw [refreshHolds_forgotten h]
  unfold State.refreshDisplay
  rw [if_pos (by rw [ha]; rfl)]

/-- A port that has not run sends the record of this moment. -/
theorem present_display {v : State} {ks : Keys} (h : v.keys = ks.map KeyInput.forget) (ha : v.ign.awake = true)
    (ht : v.display.timer = none) (hx : v.display.transfer = none) (s0 : State) : (State.present s0 v).display =
      { v.display with timer := some 10, transfer := some (State.present s0 v).displayRecord } := by
  have hsend : State.present s0 v = v.setDisplay { v.display with timer := some 10, transfer := some v.displayRecord } := by
    unfold State.present
    rw [refreshHolds_forgotten h]
    unfold State.refreshDisplay
    rw [if_neg (by rw [ha]; decide), if_pos (by rw [ht]; rfl)]
    unfold State.requestSend
    dsimp only [State.setDisplay_display]
    rw [hx]
    rfl
  have hrecord : (State.present s0 v).displayRecord = v.displayRecord := by
    unfold State.displayRecord
    rw [recordItems_congr ((present_forgotten h s0).mono (by decide))]
  rw [hrecord, hsend]
  rfl

/-! ### The line, the arbiter and the sound unit of a wake -/

/-- The line station that a wake leaves but for its queue. -/
def LineStation.awake (l : LineStation) (run : Bool) : LineStation := { l with
  state := .init, awaitsRelease := false, quiet := 0, drivenTime := 0, sendBits := 0, sent := [], stuck := false
  silent := false, conflict := false, silence := if run then some 200 else none
  rate40 := if run then some 10 else none, rate41 := some 100 }

theorem risen_awake (l : LineStation) (x : Ign) : l.risen x = l.awake (x == .run) := by cases x <;> rfl

section
variable {s : State} {x : Ign}

theorem wakeInto_queuedOn (s : State) (x : Ign) : (s.line.awake (x == .run)).QueuedOn (s.wakeInto x).line := by
  rw [← risen_awake, wakeInto_risen]
  exact (delivered_roused s x).line.trans (settleStore_queuedOn _)

theorem wakeInto_summary (h : s.line.queue = []) (x : Ign) : ∃ m ∈ (s.wakeInto x).line.queue, m.topic = 0x43 ∧ m.started = false := by
  rw [wakeInto_risen]
  exact announced_message (settleStore_announces (deliverHeldDays_announces (risen_announces h x)))

theorem risen_unrun (hx : x ≠ .run) (s : State) : s.risen x = s.wakeTimed x := if_neg hx

theorem timersStarted_cal (w : State) : w.timersStarted.cal = w.cal := by
  unfold State.timersStarted
  simp only [State.setArbiter_cal, State.setSound_cal, State.setRules_cal, State.setGauges_cal, State.setTopics_cal,
    State.setLine_cal]

theorem timersStarted_warning (s : State) (x : Ign) (w : Nat) : (s.wakeBegun x).timersStarted.warning w = .off := by
  unfold State.warning
  rw [timersStarted_arbiter, (wakeBegun_blocks s x).2.2.2.2.2]
  exact woken_warning _ w

theorem wakeTimed_arbiter (s : State) (x : Ign) : (s.wakeTimed x).arbiter = (s.wakeBegun x).timersStarted.arbiter := by
  rw [(wakeTimed_fetched s x).kept.arbiter, startTimers_eq, (queueSummary_kept _).arbiter]

theorem wakeTimed_warning (s : State) (x : Ign) (w : Nat) : (s.wakeTimed x).warning w = .off :=
  (warning_of_warnings (congrArg Arbiter.warnings (wakeTimed_arbiter s x)) w).trans (timersStarted_warning s x w)

theorem wakeInto_off (hq : s.counting.heldDays = 0) (hx : x ≠ .run) (w : Nat) : (s.wakeInto x).warning w = .off := by
  rw [warning_of_warnings (congrArg Arbiter.warnings (wakeInto_quiet hq x).arbiter), risen_unrun hx]
  exact wakeTimed_warning s x w

theorem wakeInto_line (hq : s.counting.heldDays = 0) (hx : x ≠ .run) (ht : s.store.task = .none) (ho : s.line.Open 0x43) :
    (s.wakeInto x).line = (s.line.awake false).enter 0x43 2 .publication (s.wakeInto x).summary .none := by
  obtain ⟨u, hu, -⟩ := wakeInto_untasked ht x
  have hstarted : (s.wakeBegun x).timersStarted.line = s.line.awake false := by
    rw [timersStarted_line, wakeBegun_line]
    rfl
  have hopen : (s.wakeBegun x).timersStarted.line.Open 0x43 := by rw [hstarted]; exact ho
  have hnone : (s.wakeBegun x).timersStarted.shown = none :=
    shown_eq_none_iff.mpr fun w => by rw [timersStarted_warning]; decide
  have hsummary : (s.wakeBegun x).timersStarted.summary = (s.wakeInto x).summary := by
    have harb : (s.wakeInto x).arbiter = (s.wakeBegun x).timersStarted.arbiter := by
      rw [(wakeInto_quiet hq x).arbiter, risen_unrun hx, wakeTimed_arbiter]
    have hcal : (s.wakeBegun x).timersStarted.cal = s.cal := (timersStarted_cal _).trans (wakeBegun_kept s x).cal
    refine summary_congr (by rw [harb]) (hcal.trans (wakeInto_others s x).2.1.symm) fun w => ?_
    rw [timersStarted_warning, wakeInto_off hq hx]
  have hqueued : (s.wakeBegun x).startTimers.line = (s.line.awake false).enter 0x43 2 .publication (s.wakeInto x).summary .none := by
    have hclass : (if (s.wakeBegun x).timersStarted.shownClass = some WarnClass.danger then 0 else 2) = 2 :=
      if_neg (by unfold State.shownClass; rw [hnone]; nofun)
    rw [startTimers_eq, State.queueSummary, hclass, hsummary, State.publish, queue_open hopen, hstarted, State.setLine_line]
  rw [← hqueued, hu, State.setStore_line, deliverHeldDays_quiet ((risen_heldDays s x).trans hq), State.setCounting_line,
    risen_unrun hx, (wakeTimed_fetched s x).kept.line]

theorem wakeInto_roused (s : State) (x : Ign) :
    (s.wakeInto x).arbiter = s.arbiter.woken.started.withWarnings (s.wakeInto x).arbiter.warnings ∧
      (s.wakeInto x).arbiter.warnings.length = 32 ∧ (∀ w, w ∉ itemWarnings → (s.wakeInto x).warning w = .off) ∧
      (s.sound.risen x).LampsAs (s.wakeInto x).sound := by
  have h := delivered_roused s x
  have hk := settleStore_kept (s.risen x).deliverHeldDays
  rw [wakeInto_risen]
  refine ⟨?_, ?_, fun w hw => ?_, ?_⟩
  · rw [hk.arbiter]; exact h.arbiter
  · rw [hk.arbiter]; exact h.length
  · rw [warning_of_warnings (congrArg Arbiter.warnings hk.arbiter)]
    exact h.off w hw
  · rw [hk.sound]; exact h.sound

theorem runStarted_blocks (t : State) : t.runStarted.arbiter = t.arbiter ∧ t.runStarted.cal = t.cal ∧
    t.runStarted.service = t.service ∧ t.runStarted.ignition = t.ignition := ⟨rfl, rfl, rfl, rfl⟩

theorem runEntry_reminds {t : State} (ha : t.ign.awake = true) (hl : t.arbiter.warnings.length = 32) :
    t.Reminds t.warning t.runEntry := by
  obtain ⟨harb, hcal, hservice, hignition⟩ := runStarted_blocks t
  have hwarning : t.runStarted.warning = t.warning := funext fun w => warning_of_warnings (congrArg Arbiter.warnings harb) w
  have h := serviceReminders_reminds (t := t.runStarted) (by rw [State.ign, hignition]; exact ha) (by rw [harb]; exact hl)
  rw [hwarning] at h
  rw [runEntry_eq]
  exact reminds_of h hcal (congrArg Service.items hservice) rfl

theorem wakeTimed_ignition (s : State) (x : Ign) : (s.wakeTimed x).ignition = { s.ignition with state := x } := by
  rw [(wakeTimed_fetched s x).kept.ignition, startTimers_ignition, wakeBegun_ignition]

theorem wakeInto_reminds (hq : s.counting.heldDays = 0) : s.Reminds (fun _ => .off) (s.wakeInto .run) := by
  have hwarning : (s.wakeTimed .run).warning = fun _ => .off := funext fun w => wakeTimed_warning s .run w
  have h := runEntry_reminds (t := s.wakeTimed .run) (by rw [State.ign, wakeTimed_ignition]; rfl) (wakeTimed_roused s .run).length
  rw [hwarning] at h
  refine reminds_of h ?_ ?_ (congrArg Arbiter.warnings (wakeInto_quiet hq .run).arbiter)
  · rw [(wakeTimed_fetched s .run).kept.cal, (startTimers_kept _).cal, (wakeBegun_kept s .run).cal]
  · rw [(wakeTimed_fetched s .run).items, startTimers_service]

theorem wakeInto_silent (hq : s.counting.heldDays = 0) (hx : x ≠ .run) : (s.wakeInto x).sound = s.sound.wake := by
  rw [(wakeInto_quiet hq x).sound, risen_unrun hx, (wakeTimed_fetched s x).kept.sound, startTimers_eq,
    (queueSummary_kept _).sound, timersStarted_sound, wake_of_sleep (wakeBegun_sound s x)]

theorem wakeInto_handler (h : s.store.task = .none) (x : Ign) : (s.wakeInto x).handler = { s.handler with state := .idle } := by
  obtain ⟨u, hu, -⟩ := wakeInto_untasked h x
  rw [hu, State.setStore_handler]
  exact (delivered_roused s x).handler

end

end Sys2Proof.Machine
end

section
/-! SUPPORT. A wake as the statements on the ignition read it: `State.Wakes`. -/
namespace Sys2Proof.Machine
set_option Elab.async false

section
variable {s : State} {x : Ign}

theorem wakeInto_ign (s : State) (x : Ign) : (s.wakeInto x).ign = x := congrArg Ignition.state (wakeInto_ignition s x)

theorem itemWarnings_iff (w : Nat) : w ∉ itemWarnings ↔ w ∉ [27, 28, 29] := Iff.rfl

theorem unrun_of {p : Prop} (h : ¬((x == Ign.run) = true)) (k : x ≠ .run → p) : p := k fun hx => h (by rw [hx]; rfl)

/-- The lamps and flags of a part that wakes. -/
theorem wakeInto_sound (s : State) (x : Ign) :
    (s.wakeInto x).sound.quietCabin = false ∧ (s.wakeInto x).sound.lastLeft = false ∧ (s.wakeInto x).sound.lastRight = false ∧
      (s.wakeInto x).sound.flash = some 25 ∧ (s.wakeInto x).sound.lit = true ∧
      (s.wakeInto x).sound.bulbCheck = (if x == .run then some 300 else none) ∧ (s.wakeInto x).sound.clickTimer = 0 ∧
      (s.wakeInto x).sound.tickTimer = 0 := by
  have h := (wakeInto_roused s x).2.2.2
  have hrisen : (s.sound.risen x).quietCabin = false ∧ (s.sound.risen x).lastLeft = false ∧ (s.sound.risen x).lastRight = false ∧
      (s.sound.risen x).flash = some 25 ∧ (s.sound.risen x).lit = true ∧
      (s.sound.risen x).bulbCheck = (if x == .run then some 300 else none) := by
    cases x <;> exact ⟨rfl, rfl, rfl, rfl, rfl, rfl⟩
  obtain ⟨hquiet, hleft, hright, hflash, hlit, hcheck⟩ := hrisen
  exact ⟨h.quietCabin.trans hquiet, h.lastLeft.trans hleft, h.lastRight.trans hright, h.flash.trans hflash, h.lit.trans hlit,
    h.bulbCheck.trans hcheck, h.clickTimer, h.tickTimer⟩

theorem wakeInto_warnings (s : State) (x : Ign) (t : State) (ht : KeptBut [.display] (s.wakeInto x) t) :
    (t.arbiter = { s.arbiter with
        warnings := t.arbiter.warnings, review := none, subs := List.replicate 8 .none, presented := none
        tick := some 10, rate43 := some 200 } ∧
      t.arbiter.warnings.length = 32 ∧ (∀ w, w ∉ [27, 28, 29] → t.warning w = .off) ∧
      (s.counting.heldDays = 0 → ((x == .run) = true → s.Reminds (fun _ => .off) t) ∧
        (¬(x == .run) = true → ∀ w, t.warning w = .off))) := by
  obtain ⟨harbiter, hlength, hoff, -⟩ := wakeInto_roused s x
  have hwarning (w : Nat) : t.warning w = (s.wakeInto x).warning w := warning_of_warnings (congrArg Arbiter.warnings ht.arbiter) w
  refine ⟨?_, ?_, fun w hw => (hwarning w).trans (hoff w hw), fun hq => ⟨fun hrun => ?_, fun hrun w => ?_⟩⟩
  · rw [ht.arbiter]; exact harbiter
  · rw [ht.arbiter]; exact hlength
  · have hx : x = .run := eq_of_beq hrun
    rw [hx] at ht
    exact reminds_of (wakeInto_reminds hq) rfl rfl (congrArg Arbiter.warnings ht.arbiter)
  · rw [hwarning]
    exact unrun_of hrun fun hx => wakeInto_off hq hx w

theorem wakeInto_stores (s : State) (x : Ign) :
    (s.wakeInto x).store.nvFault = false ∧ (s.wakeInto x).store.consecutiveFailures = 0 ∧
      (s.wakeInto x).store.nvFailures = s.store.nvFailures ∧ (s.wakeInto x).store.latch = s.store.latch ∧
      (s.wakeInto x).store.nv = s.store.nv := by
  have h := wakeInto_port s x
  unfold Store.port at h
  simp only [Prod.mk.injEq] at h
  obtain ⟨hnv, hfailures, hconsecutive, hfault, hlatch, -⟩ := h
  exact ⟨hfault, hconsecutive, hfailures, hlatch, hnv⟩

theorem pendsIn_false (s : State) {b : Nat} (hb : 3 ≤ b ∧ b ≤ 6)
    (h : ¬∃ i < 8, itemBlock i = b ∧ ((s.item i).pendingKm ≠ 0 ∨ (s.item i).pendingDays ≠ 0)) : s.pendsIn b = false :=
  Bool.eq_false_iff.mpr fun hp => h ((pendsIn_iff s hb).mp hp)

/-- The line of a part that wakes, as the statement reads it. -/
theorem wakeInto_lines (s : State) (x : Ign) (t : State) (ht : KeptBut [.display] (s.wakeInto x) t) :
    (t.line = { s.line.awake (x == .run) with queue := t.line.queue, seqs := t.line.seqs, dropped := t.line.dropped } ∧
      (s.line.queue = [] → ∃ m ∈ t.line.queue, m.topic = 0x43 ∧ m.started = false) ∧
      (s.counting.heldDays = 0 → ¬(x == .run) = true → s.store.task = .none → s.line.Open 0x43 →
        t.line = (s.line.awake (x == .run)).enter 0x43 2 .publication t.summary .none)) := by
  have hsummary : t.summary = (s.wakeInto x).summary :=
    summary_congr (by rw [ht.arbiter]) ht.cal fun w => by rw [warning_of_warnings (congrArg Arbiter.warnings ht.arbiter)]
  rw [ht.line, hsummary]
  refine ⟨wakeInto_queuedOn s x, fun h => wakeInto_summary h x, fun hq hrun htask ho => ?_⟩
  rw [Bool.eq_false_iff.mpr hrun]
  exact unrun_of hrun fun hx => wakeInto_line hq hx htask ho

/-- What a wake leaves is what every block's wake rule gives. -/
theorem wakes_of (hx : x = .watch ∨ x = .accessory ∨ x = .run) (s0 : State) : s.Wakes (State.present s0 (s.wakeInto x)) := by
  have hforget := wakeInto_keys s x
  have hawake : (s.wakeInto x).ign.awake = true := by
    rw [wakeInto_ign]
    rcases hx with rfl | rfl | rfl <;> rfl
  have hkept := present_forgotten hforget s0
  have hdisplay := present_display hforget hawake
  obtain ⟨harith, hcal, hpending, hshown, -⟩ := wakeInto_others s x
  have hign : (State.present s0 (s.wakeInto x)).ign = x := (congrArg Ignition.state hkept.ignition).trans (wakeInto_ign s x)
  have hstay : (State.present s0 (s.wakeInto x)).stayAwake = true := by
    unfold State.stayAwake
    rw [hign]
    rcases hx with rfl | rfl | rfl <;> rfl
  unfold State.Wakes
  rw [hign]
  dsimp only
  refine ⟨hstay, hkept.keys.trans hforget, hkept.arith.trans harith, hkept.cal.trans hcal, hkept.pending.trans hpending,
    hkept.counting.trans (wakeInto_counting s x), hkept.trip.trans (wakeInto_trip s x), fun ht htr => ?_,
    wakeInto_lines s x _ hkept, hkept.topics.trans (wakeInto_topics s x), hkept.gauges.trans (wakeInto_gauges s x),
    hkept.rules.trans (wakeInto_rules s x), wakeInto_warnings s x _ hkept, ⟨?_, fun hq hrun => ?_⟩, ?_, ?_, fun htask => ?_⟩
  · rw [hdisplay (by rw [hshown]; exact ht) (by rw [hshown]; exact htr), hshown]
  · rw [hkept.sound]; exact wakeInto_sound s x
  · rw [hkept.sound]
    exact unrun_of hrun fun hne => by rw [wakeInto_silent hq hne]; exact ⟨rfl, rfl, rfl⟩
  · rw [hkept.service]
    refine ⟨wakeInto_selected s x, fun hq => wakeInto_items hq x, fun hq hl b hlow hhigh => ?_⟩
    rw [wakeInto_marks hq hl x ⟨hlow, hhigh⟩, pendsIn_iff s ⟨hlow, hhigh⟩]
  · rw [hkept.store]
    obtain ⟨hfault, hconsecutive, hfailures, hlatch, hnv⟩ := wakeInto_stores s x
    refine ⟨hfault, hconsecutive, hfailures, hlatch, hnv, fun hrest hq hp => ?_, fun hrest b hlow hhigh hp hm hf => ?_⟩
    · exact wakeInto_resting hrest hq (fun b hlow hhigh => pendsIn_false s ⟨hlow, hhigh⟩ (hp b hlow hhigh)) x
    · obtain ⟨-, -, -, htask⟩ := hrest
      exact wakeInto_fetches htask x ⟨hlow, hhigh⟩ ((pendsIn_iff s ⟨hlow, hhigh⟩).mpr hp) hm hf
  · exact hkept.handler.trans (wakeInto_handler htask x)

end

/-- A wake does not read the ignition block. -/
theorem State.Wakes.of_ignition {s t : State} {i : Ignition} (h : (s.setIgnition i).Wakes t) : s.Wakes t := h

end Sys2Proof.Machine
end

section
/-! SUPPORT. What leaving RUN does: the gauges park, the end of the bulb check, the review and the silence timer, and a gauge
test's reply; and the messages that wait in the queue as others are queued. -/
namespace Sys2Proof.Machine
set_option Elab.async false

/-! ### Messages that stay in the queue -/

/-- A message stays as one of another topic is queued that finds room, or one of its own topic not yet started. -/
theorem queue_keeps_message {s : State} {m : Msg} {topic : Nat} (cls : Nat) (kind : MsgKind) (data : List Byte) (answer : Answer)
    (hm : m ∈ s.line.queue) (hne : topic ≠ m.topic)
    (hroom : s.line.queue.length < 12 ∨ s.line.queue.any (Msg.unstarted topic) = true) :
    m ∈ (s.queue topic cls kind data answer).line.queue := by
  cases hfind : s.line.queue.findIdx? (Msg.unstarted topic) with
  | some i =>
    obtain ⟨hi, hp, -⟩ := List.findIdx?_eq_some_iff_getElem.mp hfind
    have htopic : s.line.queue[i].topic = topic := by
      unfold Msg.unstarted at hp
      exact beq_iff_eq.mp (Bool.and_eq_true _ _ ▸ hp).1
    have hqueue : ∃ f, (s.queue topic cls kind data answer).line.queue = s.line.queue.modify i f := by
      refine ⟨Msg.coalesce (Msg.entered cls kind topic ((s.line.seqs.advance topic).get topic) data answer), ?_⟩
      unfold State.queue State.placeMsg
      dsimp only [State.setLine_line]
      rw [hfind]
      dsimp only
      rw [busyReplaced_line]
      rfl
    obtain ⟨f, hf⟩ := hqueue
    obtain ⟨j, hj, hjm⟩ := List.getElem_of_mem hm
    have hij : i ≠ j := by
      rintro rfl
      exact hne (by rw [← htopic, hjm])
    rw [hf]
    refine List.mem_of_getElem? (i := j) ?_
    rw [List.getElem?_modify, List.getElem?_eq_getElem hj, hjm]
    exact congrArg some (if_neg hij)
  | none =>
    have hany := any_findIdx hfind
    have hlen : s.line.queue.length < 12 := hroom.resolve_right (by rw [hany]; decide)
    rw [queue_open ⟨hlen, hany⟩]
    exact List.mem_append_left _ hm

/-- A message that finds room waits with its items. -/
theorem queue_posts {s : State} (topic cls : Nat) (kind : MsgKind) (data : List Byte) (answer : Answer)
    (h : s.line.queue.length < 12) : ∃ m ∈ (s.queue topic cls kind data answer).line.queue,
      m.topic = topic ∧ m.cls = cls ∧ m.kind = kind ∧ m.started = false ∧ m.data = data ∧ m.answer = answer := by
  rcases queue_cases (s := s) topic cls kind data answer h with ⟨i, m, hm, ht, hs, hq⟩ | hq
  · rw [hq]
    refine ⟨Msg.coalesce (Msg.entered cls kind topic ((s.line.seqs.advance topic).get topic) data answer) m,
      List.mem_of_getElem? (i := i) ?_, ht, rfl, rfl, hs, rfl, rfl⟩
    rw [List.getElem?_modify, hm]
    exact congrArg some (if_pos rfl)
  · rw [hq]
    exact ⟨_, List.mem_append_right _ (List.mem_singleton.mpr rfl), rfl, rfl, rfl, rfl, rfl, rfl⟩

theorem queue_length_le {s : State} (topic cls : Nat) (kind : MsgKind) (data : List Byte) (answer : Answer)
    (h : s.line.queue.length < 12) : (s.queue topic cls kind data answer).line.queue.length ≤ s.line.queue.length + 1 := by
  rcases queue_cases (s := s) topic cls kind data answer h with ⟨i, m, -, -, -, hq⟩ | hq
  · rw [hq, List.length_modify]; omega
  · rw [hq, List.length_append, List.length_singleton]

theorem placeFull_nonempty {s : State} (h : s.line.queue ≠ []) (m : Msg) : (s.placeFull m).line.queue ≠ [] := by
  unfold State.placeFull
  dsimp only
  split
  · split
    · rw [replyLeft_line]; exact List.append_ne_nil_of_right_ne_nil _ (List.cons_ne_nil _ _)
    · rw [replyLeft_line]; exact h
  · rw [replyLeft_line]; exact h

/-- No queueing leaves the queue empty. -/
theorem queue_nonempty (s : State) (topic cls : Nat) (kind : MsgKind) (data : List Byte) (answer : Answer) :
    (s.queue topic cls kind data answer).line.queue ≠ [] := by
  unfold State.queue State.placeMsg
  dsimp only [State.setLine_line]
  split
  · next i hi =>
    rw [busyReplaced_line]
    have hlt := (List.findIdx?_eq_some_iff_getElem.mp hi).1
    refine List.ne_nil_of_length_pos ?_
    show 0 < (List.modify s.line.queue i _).length
    rw [List.length_modify]
    omega
  · split
    · exact List.append_ne_nil_of_right_ne_nil _ (List.cons_ne_nil _ _)
    · next hfull =>
      refine placeFull_nonempty (List.ne_nil_of_length_pos ?_) _
      show 0 < s.line.queue.length
      have : 12 ≤ s.line.queue.length := Nat.le_of_not_lt hfull
      omega

theorem settleStore_nonempty {s : State} (h : s.line.queue ≠ []) : s.settleStore.line.queue ≠ [] := by
  rcases settleStore_cases s with ⟨x, hx, -⟩ | ⟨hx, -⟩
  · rw [hx]; exact queue_nonempty _ _ _ _ _ _
  · rw [hx]; exact h

/-- A message that is no reply stays as the store goes on. -/
theorem settleStore_keeps_message {s : State} {m : Msg} (hm : m ∈ s.line.queue) (hne : 0x70 ≠ m.topic)
    (hroom : s.line.queue.length < 12 ∨ s.line.queue.any (Msg.unstarted 0x70) = true) : m ∈ s.settleStore.line.queue := by
  rcases settleStore_cases s with ⟨x, hx, -⟩ | ⟨hx, -⟩
  · rw [hx]
    exact queue_keeps_message (s := (s.setStore (s.store.settle settleFuel).1).setHandler _) _ _ _ _ hm hne hroom
  · rw [hx]; exact hm

/-! ### Leaving RUN -/

section
variable {s : State}

theorem tellTest_on (h : s.gauges.testMark = true) (x : Status) :
    s.tellTest x = (s.setGauges { s.gauges with testMark := false }).returnStatus x [] := if_pos h

theorem tellTest_off (h : s.gauges.testMark = false) (x : Status) : s.tellTest x = s := if_neg (by rw [h]; nofun)

/-- Parked gauges with no sweep and no test. -/
def Gauges.parked (u : Gauges) : Gauges := { u with gauges := u.gauges.map Gauge.startPark, sweep := none, testMark := false }

theorem tellTest_gauges (s : State) (x : Status) : (s.tellTest x).gauges = { s.gauges with testMark := false } := by
  cases h : s.gauges.testMark with
  | true =>
    rw [tellTest_on h, (returnStatus_kept _ _ _).gauges]
    rfl
  | false =>
    rw [tellTest_off h, ← h]

theorem tellTest_queuedOn (s : State) (x : Status) : s.line.QueuedOn (s.tellTest x).line := by
  cases h : s.gauges.testMark with
  | true => rw [tellTest_on h]; exact returnStatus_queuedOn _ _ _
  | false => rw [tellTest_off h]; exact .refl _

/-- The gauges parked, before the reply to a test. -/
def State.gaugesParked (s : State) : State :=
  s.setGauges { s.gauges with gauges := s.gauges.gauges.map Gauge.startPark, sweep := none }

/-- The mark of a gauge test taken away. -/
def State.untested (s : State) : State := s.setGauges { s.gauges with testMark := false }

theorem parkGauges_eq (s : State) : s.parkGauges = s.gaugesParked.tellTest .state := rfl

theorem parkGauges_on (h : s.gauges.testMark = true) : s.parkGauges = s.gaugesParked.untested.returnStatus .state [] := by
  rw [parkGauges_eq, tellTest_on (s := s.gaugesParked) h]
  rfl

theorem parkGauges_off (h : s.gauges.testMark = false) : s.parkGauges = s.gaugesParked := by
  rw [parkGauges_eq, tellTest_off (s := s.gaugesParked) h]

theorem leave_run (h : s.ign = .run) : s.leave =
    (((s.parkGauges.setSound s.parkGauges.sound.endBulbCheck).setLine s.parkGauges.line.leaveRun).endReview) := by
  unfold State.leave
  rw [h]

theorem leave_run_gauges (h : s.ign = .run) : s.leave.gauges = s.gauges.parked := by
  rw [leave_run h]
  show s.parkGauges.gauges = _
  rw [parkGauges_eq, tellTest_gauges]
  rfl

theorem leave_run_sound (h : s.ign = .run) : s.leave.sound = s.sound.endBulbCheck := by
  rw [leave_run h]
  show s.parkGauges.sound.endBulbCheck = _
  rw [(parkGauges_kept s).sound]

theorem leave_run_review (h : s.ign = .run) : s.leave.arbiter.review = none := by
  rw [leave_run h]
  rfl

theorem leave_run_silence (h : s.ign = .run) : s.leave.line.silence = none := by
  rw [leave_run h]
  rfl

theorem leave_warnings (s : State) : s.leave.arbiter.warnings = s.arbiter.warnings := by
  unfold State.leave
  split
  · show s.parkGauges.arbiter.warnings = _
    rw [(parkGauges_kept s).arbiter]
  all_goals rfl

theorem leave_queue_of_untested (h : s.ign = .run → s.gauges.testMark = false) : s.leave.line.queue = s.line.queue := by
  unfold State.leave
  split
  · next hx =>
    show s.parkGauges.line.queue = _
    rw [parkGauges_off (h hx)]
    rfl
  all_goals rfl

/-- The queue and the handler that the part leaves RUN with, a gauge test in progress. -/
theorem leave_tested (h : s.ign = .run) (ht : s.gauges.testMark = true) :
    ∃ u : State, u.line = s.line ∧ u.handler = s.handler ∧
      s.leave.line.queue = (u.returnStatus .state []).line.queue ∧ s.leave.handler = (u.returnStatus .state []).handler := by
  rw [leave_run h]
  refine ⟨s.gaugesParked.untested, rfl, rfl, ?_, ?_⟩
  · show s.parkGauges.line.queue = _
    rw [parkGauges_on ht]
  · show s.parkGauges.handler = _
    rw [parkGauges_on ht]

/-- A test's reply waits among the others, which have room for one more. -/
theorem leave_waits (h : s.ign = .run) (ht : s.gauges.testMark = true) (hlen : s.line.queue.length < 11) :
    s.leave.line.queue.length ≤ 11 ∧ s.leave.line.queue.any (Msg.unstarted 0x70) = true := by
  obtain ⟨u, hline, hhandler, hqueue, -⟩ := leave_tested h ht
  have hroom : (u.setHandler { u.handler with state := .replying }).line.queue.length < 11 := by
    show u.line.queue.length < 11
    rw [hline]; exact hlen
  rw [hqueue]
  unfold State.returnStatus
  refine ⟨(queue_length_le _ _ _ _ _ (by omega)).trans (by omega), ?_⟩
  obtain ⟨m, hm, htopic, -, -, hstarted, -, -⟩ := queue_posts (s := u.setHandler { u.handler with state := .replying }) 0x70 3 .reply
    ([byteOf u.handler.topic, byteOf Status.state.code] ++ []) .own (by omega)
  refine List.any_eq_true.mpr ⟨m, hm, ?_⟩
  unfold Msg.unstarted
  rw [htopic, hstarted]
  rfl

theorem leave_replies (h : s.ign = .run) (ht : s.gauges.testMark = true) (ho : s.line.Open 0x70) :
    s.leave.handler = { s.handler with state := .replying } ∧ ∃ m ∈ s.leave.line.queue, m.topic = 0x70 ∧ m.started = false ∧
      m.answer = .own ∧ m.data = [byteOf s.handler.topic, 7] := by
  obtain ⟨u, hline, hhandler, hqueue, hreply⟩ := leave_tested h ht
  rw [hqueue, hreply, returnStatus_open (by rw [hline]; exact ho), ← hhandler]
  exact ⟨rfl, _, List.mem_append_right _ (List.mem_singleton.mpr rfl), rfl, rfl, rfl, rfl⟩

end

end Sys2Proof.Machine
end

section
/-! SUPPORT. A settled store as a walk is placed, turned into a HOLDUP walk, or back: it stays settled while the engine works. -/
namespace Sys2Proof.Machine
set_option Elab.async false

/-! ### What keeps a store settled -/

theorem admitOne_none_iff (st : Store) : st.admitOne = none ↔ ∀ w ∈ st.waiting, st.canGoOn w = false := by
  unfold Store.admitOne
  cases hfind : st.waiting.findIdx? st.canGoOn with
  | none =>
    refine iff_of_true rfl fun w hw => ?_
    have := List.findIdx?_eq_none_iff.mp hfind w hw
    simpa using this
  | some k =>
    obtain ⟨hk, hgo, -⟩ := List.findIdx?_eq_some_iff_getElem.mp hfind
    refine iff_of_false (fun h => ?_) fun h => by rw [h _ (List.getElem_mem hk)] at hgo; cases hgo
    dsimp only at h
    rw [List.getElem?_eq_getElem hk] at h
    cases hw : st.waiting[k] with
    | fetch b x =>
      rw [hw] at h hgo
      unfold Store.canGoOn at hgo
      simp only [Bool.and_eq_true] at hgo
      dsimp only at h
      rw [Option.map_eq_none_iff] at h
      rw [h] at hgo
      exact absurd hgo.2 (by decide)
    | order o =>
      rw [hw] at h
      cases h

/-- The same lines and the same room, or less, let nothing more go on. -/
theorem canGoOn_relisted {st st' : Store} (hl : st'.lines = st.lines) (hf : st'.nvFault = st.nvFault)
    (hr : st'.hasRoom = true → st.hasRoom = true) {w : Waiting} (h : st.canGoOn w = false) : st'.canGoOn w = false := by
  have hline (i : Nat) : st'.line i = st.line i := by unfold Store.line; rw [hl]
  have heligible (i : Nat) : st'.eligible i = st.eligible i := by unfold Store.eligible; rw [hline, hf]
  have hvictim (n : Nat) : st'.victim n = st.victim n := by
    unfold Store.victim
    simp only [heligible, hline]
  cases hroom : st'.hasRoom with
  | false => cases w <;> simp [Store.canGoOn, hroom]
  | true =>
    have hroom' := hr hroom
    cases w with
    | fetch b x =>
      unfold Store.canGoOn at h ⊢
      dsimp only at h ⊢
      rw [hvictim, hroom, ← hroom']
      exact h
    | order o =>
      unfold Store.canGoOn at h
      rw [hroom'] at h
      cases h

theorem taskOne_relisted {st st' : Store} (h : st.taskOne = none) (ht : st'.task = st.task) (hl : st'.lines = st.lines)
    (hlisted : st'.workshopListed = st.workshopListed) (hwaits : st'.workshopWaits = st.workshopWaits) : st'.taskOne = none := by
  have htransfer (b : Nat) : st'.inTransfer b = st.inTransfer b := by
    unfold Store.inTransfer Store.find Store.line
    rw [hl]
  unfold Store.taskOne at h ⊢
  rw [ht]
  cases hk : st.task with
  | writeback b => rw [hk] at h; dsimp only; rw [hlisted, hwaits]; exact if_pos (cond_of_ite_none (by nofun) h)
  | invalidate b => rw [hk] at h; dsimp only; rw [htransfer]; exact if_pos (cond_of_ite_none (by split <;> nofun) h)
  | placing => rw [hk] at h; dsimp only; rw [hwaits]; exact if_pos (cond_of_ite_none (by nofun) h)
  | writebackInvalidate b w =>
    rw [hk] at h
    cases w with
    | false => dsimp only; rw [htransfer]; exact if_pos (cond_of_ite_none (by split <;> nofun) h)
    | true => dsimp only; rw [hlisted, hwaits]; exact if_pos (cond_of_ite_none (by split <;> nofun) h)
  | _ => rfl

/-- No request waits that could go on. -/
theorem Store.Settled.held {st : Store} (h : st.Settled) : ∀ w ∈ st.waiting, st.canGoOn w = false := by
  obtain ⟨-, ha, -⟩ := h
  exact (admitOne_none_iff st).mp ha

theorem Store.Settled.any {st : Store} (h : st.Settled) : st.waiting.any st.canGoOn = false := by
  rw [List.any_eq_false]
  exact fun w hw => by rw [h.held w hw]; decide

theorem Store.Settled.relisted {st st' : Store} (h : st.Settled) (ht : st'.task = st.task) (hl : st'.lines = st.lines)
    (hlisted : st'.workshopListed = st.workshopListed) (hwaits : st'.workshopWaits = st.workshopWaits)
    (ha : ∀ w ∈ st'.waiting, st'.canGoOn w = false) (he : st'.engineOne = none) : st'.Settled := by
  obtain ⟨htask, -, -⟩ := h
  exact ⟨taskOne_relisted htask ht hl hlisted hwaits, (admitOne_none_iff st').mpr ha, he⟩

theorem hasRoom_of_length {st st' : Store} (h : st.orders.length ≤ st'.orders.length) (hr : st'.hasRoom = true) : st.hasRoom = true := by
  unfold Store.hasRoom at *
  rw [decide_eq_true_eq] at *
  omega

/-! ### Placing a walk -/

section
variable {st : Store} {h : Bool}

theorem listed_append_walk (st : Store) (x : Bool) (p : Nat) :
    ({ st with orders := st.orders ++ [.walk x p] } : Store).workshopListed = st.workshopListed := by
  unfold Store.workshopListed
  simp

/-- With room a walk is listed, and the store stays settled while its engine works. -/
theorem settled_walk_listed (hs : st.Settled) (hop : st.op.isSome = true) (hlen : st.orders.length < 4) :
    st.place (.walk h 0) = { st with orders := st.orders ++ [.walk h 0] } ∧
      ({ st with orders := st.orders ++ [.walk h 0] } : Store).Settled := by
  have hroom : st.hasRoom = true := decide_eq_true hlen
  refine ⟨if_pos (by rw [hroom, hs.any]; rfl), ?_⟩
  refine hs.relisted rfl rfl (listed_append_walk st h 0) rfl (fun w hw => ?_) (engineOne_busy hop)
  exact canGoOn_relisted (st := st) (st' := { st with orders := st.orders ++ [.walk h 0] }) rfl rfl
    (fun hr => hasRoom_of_length (by simp) hr) (hs.held w hw)

theorem sameRequest_walk {w : Waiting} (hno : w.isWalk = false) : w.sameRequest (.walk h 0) = false := by
  cases w with
  | fetch b x => rfl
  | order o =>
    cases o with
    | walk x p => cases hno
    | _ => rfl

/-- Without room it waits. -/
theorem settled_walk_waits (hs : st.Settled) (hop : st.op.isSome = true) (hlen : 4 ≤ st.orders.length)
    (hno : ∀ w ∈ st.waiting, w.isWalk = false) :
    st.place (.walk h 0) = { st with waiting := st.waiting ++ [.order (.walk h 0)] } ∧
      ({ st with waiting := st.waiting ++ [.order (.walk h 0)] } : Store).Settled := by
  have hroom : st.hasRoom = false := decide_eq_false (by exact Nat.not_lt.mpr hlen)
  have hfind : st.waiting.findIdx? (Waiting.sameRequest (.walk h 0)) = none :=
    List.findIdx?_eq_none_iff.mpr fun w hw => by rw [sameRequest_walk (hno w hw)]
  refine ⟨?_, hs.relisted rfl rfl rfl ?_ (fun w hw => ?_) (engineOne_busy hop)⟩
  · unfold Store.place
    rw [hroom, hfind]
    rfl
  · unfold Store.workshopWaits
    simp
  · rcases List.mem_append.mp hw with hw | hw
    · exact canGoOn_relisted (st := st) (st' := { st with waiting := st.waiting ++ [.order (.walk h 0)] }) rfl rfl id (hs.held w hw)
    · rw [List.mem_singleton.mp hw]
      exact hroom

theorem isWalk_iff (o : Order) : o.isWalk = true ↔ ∃ x p, o = .walk x p := by
  cases o <;> simp [Order.isWalk]

theorem waiting_isWalk_iff (w : Waiting) : w.isWalk = true ↔ ∃ x p, w = .order (.walk x p) := by
  cases w with
  | fetch b x => simp [Waiting.isWalk, Waiting.order?]
  | order o => simpa [Waiting.isWalk, Waiting.order?] using isWalk_iff o

theorem walkPresent_iff (st : Store) : st.walkPresent = true ↔ st.Walks := by
  unfold Store.walkPresent Store.Walks
  rw [Bool.or_eq_true, List.any_eq_true, List.any_eq_true]
  constructor
  · rintro (⟨o, ho, hw⟩ | ⟨w, hw, hwalk⟩)
    · obtain ⟨x, p, rfl⟩ := (isWalk_iff o).mp hw
      exact ⟨x, p, .inl ho⟩
    · obtain ⟨x, p, rfl⟩ := (waiting_isWalk_iff w).mp hwalk
      exact ⟨x, p, .inr hw⟩
  · rintro ⟨x, p, ho | hw⟩
    · exact .inl ⟨_, ho, rfl⟩
    · exact .inr ⟨_, hw, rfl⟩

theorem no_waiting_walk (hno : ¬st.Walks) : ∀ w ∈ st.waiting, w.isWalk = false := fun w hw => by
  refine Bool.eq_false_iff.mpr fun k => hno ?_
  obtain ⟨x, p, rfl⟩ := (waiting_isWalk_iff w).mp k
  exact ⟨x, p, .inr hw⟩

/-- Placing a walk where none is, as the engine works. -/
theorem settled_walk_placed (hs : st.Settled) (hop : st.op.isSome = true) (hno : ¬st.Walks) :
    (st.place (.walk h 0)).Settled ∧
      (st.orders.length < 4 → st.place (.walk h 0) = { st with orders := st.orders ++ [.walk h 0] }) ∧
      (4 ≤ st.orders.length → st.place (.walk h 0) = { st with waiting := st.waiting ++ [.order (.walk h 0)] }) := by
  by_cases hlen : st.orders.length < 4
  · obtain ⟨hplace, hsettled⟩ := settled_walk_listed (h := h) hs hop hlen
    exact ⟨hplace ▸ hsettled, fun _ => hplace, fun k => by omega⟩
  · obtain ⟨hplace, hsettled⟩ := settled_walk_waits (h := h) hs hop (by omega) (no_waiting_walk hno)
    exact ⟨hplace ▸ hsettled, fun k => absurd k hlen, fun _ => hplace⟩

/-- A walk at a store at rest goes on at once. -/
theorem rest_walk_goes (hr : st.AtRest) (h : Bool) :
    ∃ u, (st.place (.walk h 0)).Reaches 1 (u, none) ∧ u.WalkGoes h 0 st.lines ∧
      u = { st with orders := u.orders, op := u.op, lines := u.lines } := by
  obtain ⟨ho, hop, hw, ht⟩ := hr
  rw [place_empty ho hw]
  obtain ⟨u, hu, hgoes⟩ := reaches_walk (st := { st with orders := [.walk h 0] }) (h := h) (p := 0)
    (by show st.task.passive = true; rw [ht]; rfl) hw hop rfl
  exact ⟨u, hu, hgoes.goes, hgoes.same⟩

end

end Sys2Proof.Machine
end

section
/-! SUPPORT. A settled store as a HOLDUP walk is placed or turned back, and the orders that the changes of the ignition state
place. -/
namespace Sys2Proof.Machine
set_option Elab.async false

section
variable {st : Store}

/-! ### A SWEEP -/

theorem settle_after {k : Nat} {u : Store} (h : st.Reaches k (u, none)) (hk : k ≤ 64 := by omega) : (st.settle settleFuel).1 = u := by
  rw [settle_of_reaches h hk]

theorem settle_over (h : st.Settled) : (st.settle settleFuel).1 = st := settle_after (reaches_settled h)

theorem walks_not_of_rest (h : st.AtRest) : ¬st.Walks := by
  obtain ⟨ho, -, hw, -⟩ := h
  rintro ⟨x, p, k | k⟩
  · rw [ho] at k; cases k
  · rw [hw] at k; cases k

theorem sweep_placed (st : Store) : st.SweepPlaced (st.placeSweep.settle settleFuel).1 := by
  have hplace (h : ¬st.Walks) : st.placeSweep = st.place (.walk false 0) :=
    if_neg fun k => h ((walkPresent_iff st).mp k)
  refine ⟨fun hr => ?_, fun hs => ⟨fun hw => ?_, fun hw hop => ?_⟩⟩
  · obtain ⟨u, hu, hgoes, hsame⟩ := rest_walk_goes hr false
    rw [hplace (walks_not_of_rest hr), settle_after hu]
    exact ⟨hgoes, hsame⟩
  · rw [show st.placeSweep = st from if_pos ((walkPresent_iff st).mpr hw), settle_over hs]
  · obtain ⟨hsettled, hroom, hfull⟩ := settled_walk_placed (h := false) hs hop hw
    rw [hplace hw, settle_over hsettled]
    exact ⟨hroom, hfull⟩

/-! ### A HOLDUP walk -/

/-- The first SWEEP gives place to a HOLDUP walk at the list's end. -/
def Store.sweepTaken (st : Store) (k : Nat) : Store :=
  { st with orders := st.orders.eraseIdx k ++ [.walk true 0], op := st.op.map EngineOp.restart }

theorem any_eraseIdx_of_not {α : Type} {p : α → Bool} {l : List α} {k : Nat} {a : α} (h : l[k]? = some a) (hp : p a = false) :
    (l.eraseIdx k).any p = l.any p := by
  obtain ⟨hk, hget⟩ := List.getElem?_eq_some_iff.mp h
  conv_rhs => rw [← List.take_append_drop k l, List.drop_eq_getElem_cons hk]
  rw [List.eraseIdx_eq_take_drop_succ, List.any_append, List.any_append, List.any_cons, hget, hp, Bool.false_or]

theorem sweepTaken_settled (hs : st.Settled) (hop : st.op.isSome = true) {k p : Nat} (hk : st.orders[k]? = some (.walk false p)) :
    (st.sweepTaken k).Settled := by
  have hlt := (List.getElem?_eq_some_iff.mp hk).1
  have hlen : (st.sweepTaken k).orders.length = st.orders.length := by
    show (st.orders.eraseIdx k ++ [_]).length = _
    rw [List.length_append, List.length_eraseIdx_of_lt hlt, List.length_singleton]
    omega
  refine hs.relisted rfl rfl ?_ rfl (fun w hw => ?_) (engineOne_busy (by
    show (st.op.map _).isSome = true
    rw [Option.isSome_map]
    exact hop))
  · unfold Store.workshopListed Store.sweepTaken
    rw [List.any_append, any_eraseIdx_of_not hk rfl]
    simp
  · exact canGoOn_relisted (st := st) (st' := st.sweepTaken k) rfl rfl (fun hr => hasRoom_of_length hlen.symm.le hr) (hs.held w hw)

theorem isSweep_iff (o : Order) : o.isSweep = true ↔ ∃ p, o = .walk false p := by
  cases o with
  | walk h p => cases h <;> simp [Order.isSweep]
  | _ => simp [Order.isSweep]

theorem isSweep_false {o : Order} (h : ∀ p, o ≠ .walk false p) : o.isSweep = false :=
  Bool.eq_false_iff.mpr fun k => by
    obtain ⟨p, rfl⟩ := (isSweep_iff o).mp k
    exact h p rfl

theorem placeHoldup_sweep {k p : Nat} (hk : st.orders[k]? = some (.walk false p))
    (hfirst : ∀ j q, j < k → st.orders[j]? ≠ some (.walk false q)) : st.placeHoldup = st.sweepTaken k := by
  obtain ⟨hlt, hget⟩ := List.getElem?_eq_some_iff.mp hk
  have hfind : st.orders.findIdx? Order.isSweep = some k := by
    refine List.findIdx?_eq_some_iff_getElem.mpr ⟨hlt, by rw [hget]; rfl, fun j hj => ?_⟩
    have hj' : j < st.orders.length := hj.trans hlt
    rw [isSweep_false fun q hq => hfirst j q hj (by rw [List.getElem?_eq_getElem hj', hq])]
    decide
  unfold Store.placeHoldup
  rw [hfind]
  rfl

theorem no_sweep (h : ∀ p, Order.walk false p ∉ st.orders) : st.orders.findIdx? Order.isSweep = none :=
  List.findIdx?_eq_none_iff.mpr fun _ ho => isSweep_false fun p hp => h p (hp ▸ ho)

theorem placeHoldup_listed (h : ∀ p, Order.walk false p ∉ st.orders) (hw : ∃ p, Order.walk true p ∈ st.orders) :
    st.placeHoldup = st := by
  obtain ⟨p, hp⟩ := hw
  unfold Store.placeHoldup
  rw [no_sweep h]
  exact if_pos (List.any_eq_true.mpr ⟨_, hp, rfl⟩)

theorem no_listed_walk (h : ∀ x p, Order.walk x p ∉ st.orders) : st.orders.any Order.isWalk = false := by
  rw [List.any_eq_false]
  intro o ho k
  obtain ⟨x, p, rfl⟩ := (isWalk_iff o).mp k
  exact h x p ho

/-- The waiting walk becomes a HOLDUP walk. -/
def Store.waitingTurned (st : Store) : Store := { st with waiting := st.waiting.map Waiting.toHoldup }

theorem placeHoldup_waiting (h : ∀ x p, Order.walk x p ∉ st.orders) (hw : ∃ x p, Waiting.order (.walk x p) ∈ st.waiting) :
    st.placeHoldup = st.waitingTurned := by
  obtain ⟨x, p, hp⟩ := hw
  unfold Store.placeHoldup
  rw [no_sweep (h false), no_listed_walk h]
  exact if_pos (List.any_eq_true.mpr ⟨_, hp, rfl⟩)

theorem placeHoldup_new (h : ¬st.Walks) : st.placeHoldup = st.place (.walk true 0) := by
  have hno : ∀ x p, Order.walk x p ∉ st.orders := fun x p k => h ⟨x, p, .inl k⟩
  have hwaiting : st.waiting.any Waiting.isWalk = false := by
    rw [List.any_eq_false]
    exact fun w hw => by rw [no_waiting_walk h w hw]; decide
  unfold Store.placeHoldup
  rw [no_sweep (hno false), no_listed_walk hno, hwaiting]
  rfl

theorem toHoldup_canGoOn (st : Store) (w : Waiting) : st.canGoOn w.toHoldup = st.canGoOn w := by
  cases w with
  | fetch b x => rfl
  | order o => cases o <;> rfl

/-- The mark of the workshop's own write-back among the waiting requests. -/
def Waiting.workshop (w : Waiting) : Bool := match w with | .order (.single _ x _) => x | _ => false

theorem workshopWaits_eq (st : Store) : st.workshopWaits = st.waiting.any Waiting.workshop := rfl

theorem toHoldup_workshop (w : Waiting) : w.toHoldup.workshop = w.workshop := by
  cases w with
  | fetch b x => rfl
  | order o => cases o <;> rfl

theorem waitingTurned_settled (hs : st.Settled) (hop : st.op.isSome = true) : st.waitingTurned.Settled := by
  refine hs.relisted rfl rfl rfl ?_ (fun w hw => ?_) (engineOne_busy hop)
  · rw [workshopWaits_eq, workshopWaits_eq]
    show (st.waiting.map Waiting.toHoldup).any Waiting.workshop = _
    rw [List.any_map]
    congr 1
    funext w
    exact toHoldup_workshop w
  · obtain ⟨v, hv, rfl⟩ := List.mem_map.mp hw
    refine canGoOn_relisted (st := st) (st' := st.waitingTurned) rfl rfl id ?_
    rw [toHoldup_canGoOn]
    exact hs.held v hv

theorem holdup_placed (st : Store) : st.HoldupPlaced (st.placeHoldup.settle settleFuel).1 := by
  refine ⟨fun hr => ?_, fun hs hop => ⟨fun k p hk hfirst => ?_, fun hno hwalk => ?_, fun hno hwalk => ?_, fun hno => ?_⟩⟩
  · obtain ⟨u, hu, hgoes, hsame⟩ := rest_walk_goes hr true
    rw [placeHoldup_new (walks_not_of_rest hr), settle_after hu]
    exact ⟨hgoes, hsame⟩
  · rw [placeHoldup_sweep hk hfirst, settle_over (sweepTaken_settled hs hop hk)]
    rfl
  · rw [placeHoldup_listed hno hwalk, settle_over hs]
  · rw [placeHoldup_waiting hno hwalk, settle_over (waitingTurned_settled hs hop)]
    have hmap (w : Waiting) : w.toHoldup = match w with
        | .order (.walk _ _) => .order (.walk true 0)
        | w => w := by
      cases w with
      | fetch b x => rfl
      | order o => cases o <;> rfl
    exact congrArg (fun ws => ({ st with waiting := ws } : Store)) (List.map_congr_left fun w _ => hmap w)
  · obtain ⟨hsettled, hroom, hfull⟩ := settled_walk_placed (h := true) hs hop hno
    rw [placeHoldup_new hno, settle_over hsettled]
    exact ⟨hroom, hfull⟩

/-! ### A walk that turns back -/

theorem toSweep_rank_lt (o : Order) : o.rank < 5 := by
  cases o with
  | walk x p => cases x <;> simp [Order.rank]
  | _ => simp [Order.rank]

theorem selected_none_iff (st : Store) : st.selected = none ↔ ∀ o ∈ st.orders, st.canStart o = false := by
  unfold Store.selected
  rw [List.findSome?_eq_none_iff]
  constructor
  · intro h o ho
    have hno := h o.rank (List.mem_range.mpr (toSweep_rank_lt o))
    rw [List.findIdx?_eq_none_iff] at hno
    have := hno o ho
    simpa using this
  · intro h r _
    rw [List.findIdx?_eq_none_iff]
    exact fun o ho => by rw [h o ho, Bool.and_false]

theorem toSweep_canStart (st : Store) (o : Order) : st.turnHoldup.canStart o.toSweep = st.canStart o := by
  cases o <;> rfl

theorem engineOne_turned (h : st.engineOne = none) : st.turnHoldup.engineOne = none := by
  unfold Store.engineOne at h ⊢
  rw [show st.turnHoldup.op = st.op from rfl]
  cases hop : st.op with
  | some o => rfl
  | none =>
    rw [hop] at h
    have hno := (selected_none_iff st).mp (Option.map_eq_none_iff.mp h)
    refine Option.map_eq_none_iff.mpr ((selected_none_iff _).mpr fun o ho => ?_)
    obtain ⟨v, hv, rfl⟩ := List.mem_map.mp ho
    rw [toSweep_canStart]
    exact hno v hv

theorem toSweep_canGoOn (st : Store) (w : Waiting) : st.canGoOn w.toSweep = st.canGoOn w := by
  cases w <;> rfl

theorem toSweep_workshop (w : Waiting) : w.toSweep.workshop = w.workshop := by
  cases w with
  | fetch b x => rfl
  | order o => cases o <;> rfl

/-- The mark of the workshop's own write-back among the orders. -/
def Order.workshop (o : Order) : Bool := match o with | .single _ x _ => x | _ => false

theorem workshopListed_eq (st : Store) : st.workshopListed = st.orders.any Order.workshop := rfl

theorem turnHoldup_settled (hs : st.Settled) : st.turnHoldup.Settled := by
  refine hs.relisted rfl rfl ?_ ?_ (fun w hw => ?_) (engineOne_turned (by obtain ⟨-, -, he⟩ := hs; exact he))
  · rw [workshopListed_eq, workshopListed_eq]
    show (st.orders.map Order.toSweep).any Order.workshop = _
    rw [List.any_map]
    congr 1
    funext o
    cases o <;> rfl
  · rw [workshopWaits_eq, workshopWaits_eq]
    show (st.waiting.map Waiting.toSweep).any Waiting.workshop = _
    rw [List.any_map]
    congr 1
    funext w
    exact toSweep_workshop w
  · obtain ⟨v, hv, rfl⟩ := List.mem_map.mp hw
    refine canGoOn_relisted (st := st) (st' := st.turnHoldup) rfl rfl (fun hr => hasRoom_of_length ?_ hr) ?_
    · show _ ≤ (st.orders.map Order.toSweep).length
      rw [List.length_map]
    · rw [toSweep_canGoOn]
      exact hs.held v hv

theorem holdup_turned (st : Store) : st.HoldupTurned (st.turnHoldup.settle settleFuel).1 := fun hs => by
  rw [settle_over (turnHoldup_settled hs)]
  have horder (o : Order) : o.toSweep = match o with
      | .walk _ p => .walk false p
      | o => o := by cases o <;> rfl
  have hwaiting (w : Waiting) : w.toSweep = match w with
      | .order (.walk _ p) => .order (.walk false p)
      | w => w := by
    cases w with
    | fetch b x => rfl
    | order o => cases o <;> rfl
  exact congrArg₂ (fun os ws => ({ st with orders := os, waiting := ws } : Store)) (List.map_congr_left fun o _ => horder o)
    (List.map_congr_left fun w _ => hwaiting w)

end

end Sys2Proof.Machine
end

section
/-! SUPPORT. A RUN entry: what its reminders leave alone, and what the store's progress leaves of an entered state. -/
namespace Sys2Proof.Machine
set_option Elab.async false

/-! ### What the reminders leave alone -/

section
variable {s : State} {c : Option Nat}

theorem startPattern_check (h : s.sound.bulbCheck = c) (p : Playing) : (s.startPattern p).sound.bulbCheck = c := h

theorem shownNotice_check (h : s.sound.bulbCheck = c) (w : Nat) : (s.shownNotice w).sound.bulbCheck = c := by
  unfold State.shownNotice
  dsimp only
  split
  · exact startPattern_check h _
  · split
    · exact startPattern_check h _
    · exact startPattern_check h _
    · exact startPattern_check h _
    · exact h
    · exact h

theorem syncChime_check (h : s.sound.bulbCheck = c) : s.syncChime.sound.bulbCheck = c := by
  unfold State.syncChime
  split
  · exact h
  · split <;> exact h

theorem select_check (h : s.sound.bulbCheck = c) : s.select.sound.bulbCheck = c := by
  have henter (d : State) (hd : d.sound = s.sound) (w : Nat) : (d.enterShown w).sound.bulbCheck = c := by
    rw [enterShown_eq]
    exact shownNotice_check (s := d.placed w) (hd.symm ▸ h) w
  rcases select_cases s with ⟨k, -, -⟩ | ⟨w, -, -, k⟩ | ⟨v, -, -, k⟩ | ⟨v, w, -, -, k⟩
  · rw [k]; exact h
  · rw [k]; exact henter s rfl w
  · rw [k]; exact h
  · rw [k]; exact henter (s.modifyWarning v fun x => { x with state := .held }) rfl w

theorem chimed_check (h : s.sound.bulbCheck = c) (s0 : State) : (State.chimed s0 s).sound.bulbCheck = c := by
  unfold State.chimed
  refine syncChime_check ?_
  rw [(endStaleReview_kept _).sound]
  split <;> exact h

/-- An arbiter's event keeps the bulb check and, but for its queue, the line station. -/
theorem edgeRequest_keeps (s : State) (w : Nat) :
    (s.edgeRequest w).sound.bulbCheck = s.sound.bulbCheck ∧ s.line.QueuedOn (s.edgeRequest w).line := by
  unfold State.edgeRequest
  split
  · have hkept : KeptBut [.arbiter] s (s.takeEdge w).dropPresented := (takeEdge_kept s w).andThen (dropPresented_kept _)
    have hchimed : KeptBut [.arbiter, .sound] s (State.chimed s (s.takeEdge w).dropPresented.select) :=
      (hkept.andThen (cs := [.arbiter, .sound]) (select_kept _)).andThen (chimed_kept _ _)
    have hcheck : (State.chimed s (s.takeEdge w).dropPresented.select).sound.bulbCheck = s.sound.bulbCheck :=
      chimed_check (select_check (congrArg Sound.bulbCheck hkept.sound)) s
    rw [arbiterEvent_eq, afterSelect_eq]
    split
    · exact ⟨hcheck, by rw [hchimed.line]; exact .refl _⟩
    · refine ⟨by rw [(queueSummary_kept _).sound]; exact hcheck, ?_⟩
      rw [← hchimed.line]
      exact publish_queuedOn _ _ _ _
  · exact ⟨rfl, .refl _⟩

theorem serviceReminders_keeps (s : State) :
    s.serviceReminders.sound.bulbCheck = s.sound.bulbCheck ∧ s.line.QueuedOn s.serviceReminders.line := by
  unfold State.serviceReminders
  generalize ((List.range 8).filterMap _) = ws
  induction ws generalizing s with
  | nil => exact ⟨rfl, .refl _⟩
  | cons w ws ih =>
    obtain ⟨hcheck, hline⟩ := edgeRequest_keeps s w
    obtain ⟨hcheck', hline'⟩ := ih (s := s.edgeRequest w)
    exact ⟨hcheck'.trans hcheck, hline.trans hline'⟩

end

/-- A RUN entry starts the sweep, the bulb check, the silence timer, the 40h counter and the windows. -/
theorem runEntry_starts (w : State) : w.runEntry.gauges = w.gauges.startSweep false ∧
    w.runEntry.counting = w.counting.startWindows ∧ w.runEntry.sound.bulbCheck = some 300 ∧
    w.line.runEntry.QueuedOn w.runEntry.line := by
  obtain ⟨hcheck, hline⟩ := serviceReminders_keeps w.runStarted
  have hkept := serviceReminders_kept w.runStarted
  rw [runEntry_eq]
  exact ⟨hkept.gauges, hkept.counting, hcheck, hline⟩

theorem LineStation.QueuedOn.timers {l l' : LineStation} (h : l.QueuedOn l') : l'.silence = l.silence ∧ l'.rate40 = l.rate40 := by
  unfold LineStation.QueuedOn at h
  rw [h]
  exact ⟨rfl, rfl⟩

/-! ### The store's progress after an entry -/

/-- What the store's progress leaves of the state that was entered. -/
structure State.SettledFrom (w u : State) : Prop where
  kept : KeptBut [.store, .line, .handler] w u
  line : w.line.QueuedOn u.line
  quiet : w.store.task = .none → u.line = w.line ∧ u.handler = w.handler
  nonempty : w.line.queue ≠ [] → u.line.queue ≠ []

theorem State.SettledFrom.refl (w : State) : w.SettledFrom w := ⟨.refl _ _, .refl _, fun _ => ⟨rfl, rfl⟩, id⟩

theorem settleStore_settledFrom (w : State) : w.SettledFrom w.settleStore := by
  refine ⟨(settleStore_kept w).mono (by decide), settleStore_queuedOn w, fun h => ?_, settleStore_nonempty⟩
  obtain ⟨hset, -⟩ := settleStore_goesOn (s := w) (by rw [h]; rfl)
  rw [hset]
  exact ⟨rfl, rfl⟩

/-- An order placed before the store goes on. -/
theorem settleStore_settledFrom_store (w : State) {st : Store} (h : st.task = w.store.task) :
    w.SettledFrom (w.setStore st).settleStore := by
  obtain ⟨hkept, hline, hquiet, hnonempty⟩ := settleStore_settledFrom (w.setStore st)
  exact ⟨((setStore_kept w st).mono (by decide)).trans hkept, hline, fun k => hquiet (h.trans k), hnonempty⟩

theorem place_task (st : Store) (o : Order) : (st.place o).task = st.task := by
  unfold Store.place
  split
  · rfl
  · split <;> rfl

theorem placeSweep_task (st : Store) : st.placeSweep.task = st.task := by
  unfold Store.placeSweep
  split
  · rfl
  · exact place_task st _

theorem placeHoldup_task (st : Store) : st.placeHoldup.task = st.task := by
  unfold Store.placeHoldup
  split
  · rfl
  · split
    · rfl
    · split
      · rfl
      · exact place_task st _

end Sys2Proof.Machine
end

section
/-! SUPPORT. The entries to RUN, ACCESSORY and HOLDUP among the awake states, as the statement on the ignition reads them. -/
namespace Sys2Proof.Machine
set_option Elab.async false

/-! ### What an entry is to leave -/

/-- What a RUN entry starts. -/
def State.RunBegun (t : State) : Prop :=
  (t.gauges.sweep = some 0 ∧
    ∀ g ∈ t.gauges.gauges, g.state = .sweep ∧ g.target = 0 ∧ g.filtered = 0 ∧ g.commanded = 0 ∧ g.driven = true) ∧
  t.sound.bulbCheck = some 300 ∧ t.line.silence = some 200 ∧ t.line.rate40.isSome = true ∧
  t.counting.windowTimer = some 50 ∧ t.counting.speed = 0

/-- What leaving RUN ends, with a gauge test's reply. -/
def State.RunLeft (s t : State) : Prop :=
  (t.gauges.sweep = none ∧ ∀ g ∈ t.gauges.gauges, g.state = .parked ∧ g.target = 0 ∧ g.parkCount = 100) ∧
  t.sound.bulbCheck = none ∧ t.line.silence = none ∧ t.arbiter.review = none ∧ t.gauges.testMark = false ∧
  (s.gauges.testMark = true → s.store.task = .none → s.line.queue.length < 11 → s.line.Open 0x70 →
    t.handler = { s.handler with state := .replying } ∧ ∃ m ∈ t.line.queue, m.topic = 0x70 ∧ m.started = false ∧
      m.answer = .own ∧ m.data = [byteOf s.handler.topic, 7])

/-- What a HOLDUP entry begins. -/
def State.HoldupHeld (s t : State) : Prop :=
  t.ignition.holdupTimer = some 30 ∧ t.counting.clockSet = .normal ∧
  t.counting.windowTimer.isSome = true ∧ t.line.rate40.isSome = true ∧ t.line.queue ≠ [] ∧
  (s.ign ∈ [.accessory, .run] → s.line.queue.length < 11 → s.store.Settled → s.OdometerQueued t)

/-- What a change of the ignition state leaves. -/
structure State.Entered (s t : State) : Prop where
  keys : t.keys = s.keys.map KeyInput.forget
  run : t.ign = .run → t.RunBegun
  left : s.ign = .run → s.RunLeft t
  reminds : s.ign ≠ .sleep → s.arbiter.warnings.length = 32 → (t.ign = .run → s.Reminds s.warning t) ∧
    (t.ign ≠ .run → t.arbiter.warnings = s.arbiter.warnings)
  sweep : s.ign = .run → t.ign = .accessory → s.store.SweepPlaced t.store
  holdup : s.ign ≠ .sleep → t.ign = .holdup → s.store.HoldupPlaced t.store
  turned : s.ign = .holdup → s.store.HoldupTurned t.store
  accessory : t.ign = .accessory → t.counting.windowTimer = none ∧ t.counting.speed = 0 ∧ t.line.rate40 = none
  held : t.ign = .holdup → s.HoldupHeld t
  holdupTimer : s.ign = .holdup → t.ignition.holdupTimer = none
  watchTimer : s.ign = .watch → t.ignition.watchTimer = none

section
variable {s p u v w : State}

/-! ### Leaving RUN -/

theorem runLeft_of (hp : KeptBut [.ignition, .store] s p) (h : p.ign = .run)
    (hv : KeptBut [.ignition, .keys, .counting, .line, .store, .handler] p.leave v) (hsilence : v.line.silence = p.leave.line.silence)
    (hreply : s.gauges.testMark = true → s.store.task = .none → s.line.queue.length < 11 → v.handler = p.leave.handler ∧
      ∀ m ∈ p.leave.line.queue, m.topic = 0x70 → m ∈ v.line.queue) : s.RunLeft v := by
  have hgauges : v.gauges = s.gauges.parked := by rw [hv.gauges, leave_run_gauges h, hp.gauges]
  refine ⟨⟨by rw [hgauges]; rfl, fun g hg => ?_⟩, ?_, hsilence.trans (leave_run_silence h), ?_, by rw [hgauges]; rfl,
    fun htest htask hlen ho => ?_⟩
  · rw [hgauges] at hg
    obtain ⟨g0, -, rfl⟩ := List.mem_map.mp hg
    exact ⟨rfl, rfl, rfl⟩
  · rw [hv.sound, leave_run_sound h]
    rfl
  · rw [hv.arbiter]
    exact leave_run_review h
  · obtain ⟨hhandler, hkeeps⟩ := hreply htest htask hlen
    obtain ⟨hreplying, m, hm, htopic, hrest⟩ := leave_replies h (by rw [hp.gauges]; exact htest) (by rw [hp.line]; exact ho)
    rw [hhandler, hreplying, ← hp.handler]
    exact ⟨rfl, m, hkeeps m hm htopic, htopic, hrest⟩

/-! ### RUN -/

theorem toRun_eq (p : State) : p.toRun = (p.leave.goTo .run).runEntry := rfl

theorem toRun_store (p : State) : p.toRun.store = p.store := by
  rw [toRun_eq, (runEntry_kept _).store]
  exact (leave_kept p).store

theorem toRun_begun (p : State) (hu : p.toRun.SettledFrom u) : u.RunBegun := by
  obtain ⟨hgauges, hcounting, hcheck, hline⟩ := runEntry_starts (p.leave.goTo .run)
  rw [← toRun_eq] at hgauges hcounting hcheck hline
  obtain ⟨hsilence, hrate⟩ := hline.timers
  obtain ⟨hsilence', hrate'⟩ := hu.line.timers
  have hsweep : u.gauges = (p.leave.goTo .run).gauges.startSweep false := hu.kept.gauges.trans hgauges
  refine ⟨⟨by rw [hsweep]; rfl, fun g hg => ?_⟩, ?_, hsilence'.trans hsilence, ?_, ?_, ?_⟩
  · rw [hsweep] at hg
    obtain ⟨g0, -, rfl⟩ := List.mem_map.mp hg
    exact ⟨rfl, rfl, rfl, rfl, rfl⟩
  · rw [hu.kept.sound]; exact hcheck
  · rw [hrate', hrate]; rfl
  · rw [hu.kept.counting, hcounting]; rfl
  · rw [hu.kept.counting, hcounting]; rfl

theorem toRun_reminds (hp : KeptBut [.ignition, .store] s p) (hl : s.arbiter.warnings.length = 32) (hu : p.toRun.SettledFrom u) :
    s.Reminds s.warning u := by
  have hkept : KeptBut [.ignition, .keys, .gauges, .line, .handler, .sound, .arbiter] p (p.leave.goTo .run) :=
    (leave_kept p).andThen (goTo_kept _ _)
  have hwarnings : (p.leave.goTo .run).arbiter.warnings = s.arbiter.warnings := by
    show p.leave.arbiter.warnings = _
    rw [leave_warnings, hp.arbiter]
  have h := runEntry_reminds (t := p.leave.goTo .run) rfl (by rw [hwarnings]; exact hl)
  rw [show (p.leave.goTo .run).warning = s.warning from funext fun n => warning_of_warnings hwarnings n, ← toRun_eq] at h
  exact reminds_of h (hkept.cal.trans hp.cal) (by rw [hkept.service, hp.service]) (congrArg Arbiter.warnings hu.kept.arbiter)

theorem run_entered (hp : KeptBut [.ignition, .store] s p) (hx : s.ign ≠ .run) (hu : p.toRun.SettledFrom u)
    (hturned : s.ign = .holdup → s.store.HoldupTurned u.store ∧ p.ignition.holdupTimer = none)
    (hwatch : s.ign = .watch → p.ignition.watchTimer = none) : s.Entered u := by
  have hign : u.ign = .run := (congrArg Ignition.state hu.kept.ignition).trans (toRun_ign p)
  have hother {x : Ign} (k : u.ign = x) (hne : x ≠ .run) : False := hne (k.symm.trans hign)
  have hignition : u.ignition = { p.ignition with state := .run } := by
    rw [hu.kept.ignition, toRun_eq, (runEntry_kept _).ignition]
    show ({ p.leave.ignition with state := _ } : Ignition) = _
    rw [(leave_kept p).ignition]
  refine ⟨?_, fun _ => toRun_begun p hu, fun k => absurd k hx,
    fun _ hl => ⟨fun _ => toRun_reminds hp hl hu, fun k => absurd hign k⟩, fun k => absurd k hx,
    fun _ k => (hother k (by decide)).elim, fun k => (hturned k).1, fun k => (hother k (by decide)).elim,
    fun k => (hother k (by decide)).elim, fun k => ?_, fun k => ?_⟩
  · rw [hu.kept.keys, toRun_eq, (runEntry_kept _).keys]
    show p.leave.keys.map _ = _
    rw [(leave_kept p).keys, hp.keys]
  · rw [hignition]; exact (hturned k).2
  · rw [hignition]; exact hwatch k

/-! ### ACCESSORY -/

theorem toAccessory_left (p : State) : KeptBut [.ignition, .keys, .counting, .line] p.leave p.toAccessory :=
  ((goTo_kept p.leave .accessory).andThen (cs := [.ignition, .keys, .counting]) (setCounting_kept _ _)).andThen
    (cs := [.ignition, .keys, .counting, .line]) (setLine_kept _ _)

theorem toAccessory_line (p : State) : p.toAccessory.line = p.leave.line.stop40 := rfl

theorem toAccessory_counting (p : State) : p.toAccessory.counting = p.leave.counting.stopWindows := rfl

theorem toAccessory_ignition (p : State) : p.toAccessory.ignition = { p.ignition with state := .accessory } := by
  show ({ p.leave.ignition with state := _ } : Ignition) = _
  rw [(leave_kept p).ignition]

theorem toAccessory_store (p : State) : p.toAccessory.store = p.store :=
  (toAccessory_left p).store.trans (leave_kept p).store

theorem accessory_left (hp : KeptBut [.ignition, .store] s p) (h : p.ign = .run) (htask : p.store.task = s.store.task)
    (hu : p.toAccessory.SettledFrom u) : s.RunLeft u := by
  refine runLeft_of hp h (((toAccessory_left p).mono (by decide)).trans (hu.kept.mono (by decide))) ?_ fun _ hnone _ => ?_
  · rw [hu.line.timers.1]
    rfl
  · obtain ⟨hline, hhandler⟩ := hu.quiet (by rw [toAccessory_store, htask]; exact hnone)
    rw [hline, hhandler]
    exact ⟨(toAccessory_left p).handler, fun m hm _ => hm⟩

theorem accessory_entered (hp : KeptBut [.ignition, .store] s p) (hpi : p.ign = s.ign) (hu : p.toAccessory.SettledFrom u)
    (hrun : s.ign = .run → s.store.SweepPlaced u.store ∧ p.store.task = s.store.task)
    (hturned : s.ign = .holdup → s.store.HoldupTurned u.store ∧ p.ignition.holdupTimer = none)
    (hwatch : s.ign = .watch → p.ignition.watchTimer = none) : s.Entered u := by
  have hign : u.ign = .accessory := (congrArg Ignition.state hu.kept.ignition).trans (toAccessory_ign p)
  have hother {x : Ign} (k : u.ign = x) (hne : x ≠ .accessory) : False := hne (k.symm.trans hign)
  refine ⟨?_, fun k => (hother k (by decide)).elim, fun k => accessory_left hp (hpi.trans k) (hrun k).2 hu,
    fun _ _ => ⟨fun k => (hother k (by decide)).elim, fun _ => ?_⟩, fun k _ => (hrun k).1,
    fun _ k => (hother k (by decide)).elim, fun k => (hturned k).1, fun _ => ⟨?_, ?_, ?_⟩,
    fun k => (hother k (by decide)).elim, fun k => ?_, fun k => ?_⟩
  · rw [hu.kept.keys]
    show p.leave.keys.map _ = _
    rw [(leave_kept p).keys, hp.keys]
  · rw [hu.kept.arbiter, (toAccessory_left p).arbiter, leave_warnings, hp.arbiter]
  · rw [hu.kept.counting]; rfl
  · rw [hu.kept.counting]; rfl
  · rw [hu.line.timers.2]; rfl
  · rw [hu.kept.ignition, toAccessory_ignition]; exact (hturned k).2
  · rw [hu.kept.ignition, toAccessory_ignition]; exact hwatch k

end

end Sys2Proof.Machine
end

section
/-! SUPPORT. The entry to HOLDUP from the key: its walk, its 41h, and a gauge test's reply beside it. -/
namespace Sys2Proof.Machine
set_option Elab.async false

section
variable {s p u : State}

theorem holdupBegun_left (p : State) : KeptBut [.ignition, .keys, .counting, .line, .store] p.leave p.holdupBegun := by
  have hgo : KeptBut [.ignition, .keys] p.leave (((p.leave.goTo .holdup).setWatch none).setHoldup (some 30)) :=
    ((goTo_kept _ _).andThen (cs := [.ignition, .keys]) (setWatch_kept _ _)).andThen (cs := [.ignition, .keys]) (setHoldup_kept _ _)
  exact ((hgo.andThen (cs := [.ignition, .keys, .counting]) (setCounting_kept _ _)).andThen
    (cs := [.ignition, .keys, .counting, .line]) (setLine_kept _ _)).andThen (setStore_kept _ _)

theorem holdupBegun_line (p : State) : p.holdupBegun.line = p.leave.line.holdupEntry := rfl

theorem holdupBegun_store (p : State) : p.holdupBegun.store = p.store.placeHoldup := by
  show p.leave.store.placeHoldup = _
  rw [(leave_kept p).store]

theorem holdupBegun_counting (p : State) : p.holdupBegun.counting = p.leave.counting.holdupWindows.endSetting := rfl

theorem holdupBegun_keys (p : State) : p.holdupBegun.keys = p.keys.map KeyInput.forget := by
  show p.leave.keys.map _ = _
  rw [(leave_kept p).keys]

theorem holdupEntered_of_key (h : p.ign.keysAccepted = true) : p.holdupEntered = p.holdupBegun.queueOdometer.settleStore := by
  rw [holdupEntered_eq, if_pos h]

theorem queueOdometer_nonempty (v : State) : v.queueOdometer.line.queue ≠ [] := queue_nonempty _ _ _ _ _ _

theorem queueOdometer_queuedOn (v : State) : v.line.QueuedOn v.queueOdometer.line := publish_queuedOn _ _ _ _

/-- The 41h that the entry queues keeps the part from the exit. -/
theorem toHoldup_of_key (h : p.ign.keysAccepted = true) : p.toHoldup = p.holdupBegun.queueOdometer.settleStore := by
  rw [toHoldup_eq, holdupEntered_of_key h]
  exact holdupExit_stays fun _ => .inl (settleStore_nonempty (queueOdometer_nonempty _))

/-! ### The 41h -/

theorem odometer_of_lines {st st' : Store} (h : st'.lines = st.lines) : st'.odometer = st.odometer := by
  unfold Store.odometer Store.present Store.dataOf Store.presentLine Store.find Store.line
  rw [h]

theorem placeHoldup_lines (st : Store) : st.placeHoldup.lines = st.lines := by
  unfold Store.placeHoldup
  split
  · rfl
  · split
    · rfl
    · split
      · rfl
      · exact (place_lines st _).1

/-- Before the 41h the queue has room, beside a reply to a gauge test where there is one. -/
theorem leave_room (hp : KeptBut [.ignition] s p) (hlen : s.line.queue.length < 11) :
    p.leave.line.queue.length < 11 ∨ (p.leave.line.queue.length ≤ 11 ∧ p.leave.line.queue.any (Msg.unstarted 0x70) = true) := by
  by_cases htested : p.ign = .run ∧ p.gauges.testMark = true
  · exact .inr (leave_waits htested.1 htested.2 (by rw [hp.line]; exact hlen))
  · left
    rw [leave_queue_of_untested fun k => Bool.eq_false_iff.mpr fun ht => htested ⟨k, ht⟩, hp.line]
    exact hlen

theorem publish_handler {v : State} (h : v.line.queue.length < 12) (topic cls : Nat) (data : List Byte) :
    (v.publish topic cls data).handler = v.handler := by
  cases hfind : v.line.queue.findIdx? (Msg.unstarted topic) with
  | some i =>
    unfold State.publish State.queue State.placeMsg
    dsimp only [State.setLine_line]
    rw [hfind]
    dsimp only
    unfold State.busyReplaced
    rw [if_neg fun k => by cases k.2]
    rfl
  | none =>
    rw [show v.publish topic cls data = _ from queue_open ⟨h, any_findIdx hfind⟩]
    rfl

theorem odometer_queued (hp : KeptBut [.ignition] s p) (hlen : s.line.queue.length < 11) :
    s.OdometerQueued p.holdupBegun.queueOdometer.settleStore := by
  have hqueue : p.holdupBegun.line.queue = p.leave.line.queue := rfl
  have hroom := leave_room hp hlen
  have htwelve : p.holdupBegun.line.queue.length < 12 := by rw [hqueue]; omega
  obtain ⟨m, hm, htopic, hcls, hkind, hstarted, hdata, -⟩ := queue_posts (s := p.holdupBegun) 0x41 2 .publication
    (bytes3 p.holdupBegun.store.odometerSent ++ [byteOf p.holdupBegun.store.odometerCode]) .none htwelve
  have hstays : p.holdupBegun.queueOdometer.line.queue.length < 12 ∨
      p.holdupBegun.queueOdometer.line.queue.any (Msg.unstarted 0x70) = true := by
    rcases hroom with hroom | ⟨-, hreply⟩
    · left
      have := queue_length_le (s := p.holdupBegun) 0x41 2 .publication
        (bytes3 p.holdupBegun.store.odometerSent ++ [byteOf p.holdupBegun.store.odometerCode]) .none htwelve
      rw [hqueue] at this
      exact this.trans_lt (by omega)
    · right
      obtain ⟨n, hn, hun⟩ := List.any_eq_true.mp hreply
      refine List.any_eq_true.mpr ⟨n, queue_keeps_message (s := p.holdupBegun) 2 .publication _ _ hn ?_ (.inl htwelve), hun⟩
      unfold Msg.unstarted at hun
      rw [Bool.and_eq_true, beq_iff_eq] at hun
      rw [hun.1]
      decide
  refine ⟨m, settleStore_keeps_message (s := p.holdupBegun.queueOdometer) hm (by rw [htopic]; decide) hstays, htopic, hcls, hkind,
    hstarted, hdata.trans ?_⟩
  have hodometer : p.holdupBegun.store.odometer = s.store.odometer := by
    rw [holdupBegun_store, odometer_of_lines (placeHoldup_lines _), hp.store]
  obtain ⟨hsome, hnone⟩ := odometer_bytes p.holdupBegun.store
  rw [← hodometer]
  split
  · next v good h => exact hsome v good h
  · next h => exact hnone h

/-! ### The entry -/

theorem holdup_left (hp : KeptBut [.ignition] s p) (h : p.ign = .run) : s.RunLeft p.holdupBegun.queueOdometer.settleStore := by
  have hu := settleStore_settledFrom p.holdupBegun.queueOdometer
  have hodometer := queueOdometer_kept p.holdupBegun
  refine runLeft_of (hp.mono (by decide)) h ((((holdupBegun_left p).mono (by decide)).trans (hodometer.mono (by decide))).trans
    (hu.kept.mono (by decide))) ?_ fun _ hnone hlen => ?_
  · rw [hu.line.timers.1, (queueOdometer_queuedOn p.holdupBegun).timers.1]
    rfl
  · have htwelve : p.holdupBegun.line.queue.length < 12 := by
      have := leave_room hp hlen
      show p.leave.line.queue.length < 12
      omega
    obtain ⟨hline, hhandler⟩ := hu.quiet (by
      rw [hodometer.store, holdupBegun_store, placeHoldup_task, hp.store]
      exact hnone)
    rw [hline, hhandler]
    refine ⟨(publish_handler htwelve _ _ _).trans (holdupBegun_left p).handler, fun m hm htopic => ?_⟩
    exact queue_keeps_message (s := p.holdupBegun) _ _ _ _ hm (by rw [htopic]; decide) (.inl htwelve)

theorem holdup_held (hp : KeptBut [.ignition] s p) (hk : p.ign.keysAccepted = true) :
    s.HoldupHeld p.holdupBegun.queueOdometer.settleStore := by
  have hu := settleStore_settledFrom p.holdupBegun.queueOdometer
  have hcounting : p.holdupBegun.queueOdometer.settleStore.counting = p.leave.counting.holdupWindows.endSetting := by
    rw [hu.kept.counting, (queueOdometer_kept _).counting, holdupBegun_counting]
  refine ⟨?_, ?_, ?_, ?_, hu.nonempty (queueOdometer_nonempty _), fun _ hlen _ => odometer_queued hp hlen⟩
  · rw [← holdupEntered_of_key hk, holdupEntered_ignition]
  · rw [hcounting]
    unfold Counting.endSetting
    split
    · next h => exact h
    · rfl
  · rw [hcounting, (endSetting_ok _).window]
    unfold Counting.holdupWindows
    split
    · assumption
    · rfl
  · rw [hu.line.timers.2, (queueOdometer_queuedOn p.holdupBegun).timers.2]
    rfl

theorem holdup_entered (hp : KeptBut [.ignition] s p) (hpi : p.ign = s.ign) (hk : s.ign = .accessory ∨ s.ign = .run) :
    s.Entered p.toHoldup := by
  have haccepted : p.ign.keysAccepted = true := by
    rw [hpi]
    rcases hk with hk | hk <;> rw [hk] <;> rfl
  rw [toHoldup_of_key haccepted]
  have hu := settleStore_settledFrom p.holdupBegun.queueOdometer
  have hodometer := queueOdometer_kept p.holdupBegun
  have hign : p.holdupBegun.queueOdometer.settleStore.ign = .holdup := by
    rw [← holdupEntered_of_key haccepted]
    exact holdupEntered_ign p
  have hother {x : Ign} (k : p.holdupBegun.queueOdometer.settleStore.ign = x) (hne : x ≠ .holdup) : False := hne (k.symm.trans hign)
  have hnever {x : Ign} (k : s.ign = x) (hne : x ≠ .accessory ∧ x ≠ .run) : False := by
    rcases hk with hk | hk
    · exact hne.1 (k.symm.trans hk)
    · exact hne.2 (k.symm.trans hk)
  refine ⟨?_, fun k => (hother k (by decide)).elim, fun k => holdup_left hp (hpi.trans k),
    fun _ _ => ⟨fun k => (hother k (by decide)).elim, fun _ => ?_⟩, fun _ k => (hother k (by decide)).elim, fun _ _ => ?_,
    fun k => (hnever k (by decide)).elim, fun k => (hother k (by decide)).elim, fun _ => holdup_held hp haccepted,
    fun k => (hnever k (by decide)).elim, fun k => (hnever k (by decide)).elim⟩
  · rw [hu.kept.keys, hodometer.keys, holdupBegun_keys, hp.keys]
  · rw [hu.kept.arbiter, hodometer.arbiter, (holdupBegun_left p).arbiter, leave_warnings, hp.arbiter]
  · rw [settleStore_store_eq, hodometer.store, holdupBegun_store, hp.store]
    exact holdup_placed s.store

end

end Sys2Proof.Machine
end

section
/-! SUPPORT. The change of the ignition inputs, row by row of Table 11-1. Settles O53. -/
namespace Sys2Proof.Machine
set_option Elab.async false

section
variable {s t u p : State} {acc run : Bool}

/-- The levels, the pins, the samples and the load stand as `i` has them. -/
def Ignition.SameLevels (i j : Ignition) : Prop :=
  j = { i with state := j.state, watchTimer := j.watchTimer, holdupTimer := j.holdupTimer }

theorem Ignition.SameLevels.trans {i j k : Ignition} (h : i.SameLevels j) (h' : j.SameLevels k) : i.SameLevels k := by
  unfold Ignition.SameLevels at *
  rw [h', h]

theorem toRun_levels (p : State) : p.ignition.SameLevels p.toRun.ignition := by
  rw [toRun_eq, (runEntry_kept _).ignition]
  show p.ignition.SameLevels { p.leave.ignition with state := _ }
  rw [(leave_kept p).ignition]
  rfl

theorem toAccessory_levels (p : State) : p.ignition.SameLevels p.toAccessory.ignition := by
  rw [toAccessory_ignition]
  rfl

theorem toHoldup_levels (h : p.ign.keysAccepted = true) : p.ignition.SameLevels p.toHoldup.ignition := by
  rw [toHoldup_of_key h, ← holdupEntered_of_key h, holdupEntered_ignition]
  rfl

theorem lookFromSleep_levels (p : State) : p.ignition.SameLevels p.lookFromSleep.ignition := by
  by_cases h : p.ignition.asked = .sleep
  · rw [lookFromSleep_of_sleep h]
    rfl
  · rw [lookFromSleep_of_ne h, wakeInto_ignition]
    rfl

theorem keyPosition_levels (s : State) (acc run : Bool) :
    (s.takeLevels acc run).ignition.SameLevels (s.keyPosition acc run).ignition := by
  have hsettle (w : State) : w.settleStore.ignition = w.ignition := (settleStore_kept w).ignition
  have hkey {x : Ign} (hx : s.ign = x) (k : x.keysAccepted = true) : (s.takeLevels acc run).ign.keysAccepted = true := by
    show s.ign.keysAccepted = true
    rw [hx]
    exact k
  unfold State.keyPosition
  dsimp only
  split
  · rfl
  · exact lookFromSleep_levels _
  · rw [hsettle]; exact toRun_levels ((s.takeLevels acc run).setWatch none)
  · exact toAccessory_levels ((s.takeLevels acc run).setWatch none)
  · rfl
  · rw [hsettle]; exact toRun_levels _
  · next hx _ => exact toHoldup_levels (hkey hx rfl)
  · rfl
  · rw [hsettle]; exact toAccessory_levels (s.takeLevels acc run)
  · next hx _ => exact toHoldup_levels (hkey hx rfl)
  · rfl
  · rw [hsettle]; exact toRun_levels (s.takeLevels acc run).endHoldup
  · rw [hsettle]; exact toAccessory_levels (s.takeLevels acc run).endHoldup
  · rfl

/-- What a change among the awake states leaves. -/
theorem keyPosition_entered (hs : s.ign ≠ .sleep) (hc : (s.keyPosition acc run).ign ≠ s.ign) :
    s.Entered (s.keyPosition acc run) := by
  have hlevels : KeptBut [.ignition] s (s.takeLevels acc run) := setIgnition_kept _ _
  have hpi : (s.takeLevels acc run).ign = s.ign := rfl
  have hwatch : KeptBut [.ignition, .store] s ((s.takeLevels acc run).setWatch none) :=
    (hlevels.trans (setWatch_kept _ _)).mono (by decide)
  have hholdup : KeptBut [.ignition, .store] s (s.takeLevels acc run).endHoldup :=
    (hlevels.trans (setHoldup_kept _ none)).andThen (setStore_kept _ _)
  have hnever {x y : Ign} {q : Prop} (hx : s.ign = x) (hne : x ≠ y := by decide) (k : s.ign = y) : q :=
    absurd (hx.symm.trans k) hne
  unfold State.keyPosition at hc ⊢
  dsimp only at hc ⊢
  split at hc
  · exact absurd hpi hc
  · next hx => exact absurd hx hs
  · next hx _ => exact run_entered hwatch (by rw [hx]; decide) (settleStore_settledFrom _) (hnever hx) fun _ => rfl
  · next hx _ => exact accessory_entered hwatch hpi (.refl _) (hnever hx) (hnever hx) fun _ => rfl
  · exact absurd hpi hc
  · next hx _ =>
    exact run_entered (hlevels.mono (by decide)) (by rw [hx]; decide) (settleStore_settledFrom _) (hnever hx) (hnever hx)
  · next hx _ => exact holdup_entered hlevels hpi (.inl hx)
  · exact absurd hpi hc
  · next hx _ =>
    refine accessory_entered (hlevels.mono (by decide)) hpi (settleStore_settledFrom_store _ (placeSweep_task _)) (fun _ => ⟨?_, rfl⟩)
      (hnever hx) (hnever hx)
    rw [settleStore_store_eq, State.setStore_store, toAccessory_store]
    exact sweep_placed s.store
  · next hx _ => exact holdup_entered hlevels hpi (.inr hx)
  · exact absurd hpi hc
  · next hx _ =>
    refine run_entered hholdup (by rw [hx]; decide) (settleStore_settledFrom _) (fun _ => ⟨?_, rfl⟩) (hnever hx)
    rw [settleStore_store_eq, (toRun_store _)]
    exact holdup_turned s.store
  · next hx _ =>
    refine accessory_entered hholdup hpi (settleStore_settledFrom _) (hnever hx) (fun _ => ⟨?_, rfl⟩) (hnever hx)
    rw [settleStore_store_eq, toAccessory_store]
    exact holdup_turned s.store
  · exact absurd hpi hc

end

end Sys2Proof.Machine
end

section
/-! SUPPORT. The change of the ignition inputs, row by row of Table 11-1. Settles O53. -/
namespace Sys2Proof.Machine
set_option Elab.async false

section
variable {s t u : State} {acc run : Bool}

/-! ### The state that the row gives -/

theorem takeLevels_position (s : State) (acc run : Bool) :
    (s.takeLevels acc run).ignition.position = if run then .run else if acc then .acc else .off := rfl

theorem takeLevels_asked (s : State) (acc run : Bool) :
    (s.takeLevels acc run).ignition.asked = levelState run acc s.ignition.wake := by
  unfold Ignition.asked levelState
  rw [takeLevels_position]
  cases run <;> cases acc <;> rfl

theorem keyPosition_load (h : s.ign = .load) : s.keyPosition acc run = s.takeLevels acc run := by
  unfold State.keyPosition
  rw [h]

theorem keyPosition_sleep (h : s.ign = .sleep) : s.keyPosition acc run = (s.takeLevels acc run).lookFromSleep := by
  unfold State.keyPosition
  rw [h]

theorem keyPosition_watch (h : s.ign = .watch) : (s.keyPosition acc run).ign = levelState run acc true := by
  unfold State.keyPosition levelState
  dsimp only
  rw [h, takeLevels_position]
  cases run with
  | true => exact (settleStore_kept ((s.takeLevels acc true).setWatch none).toRun).ign.trans (toRun_ign _)
  | false =>
    cases acc with
    | true => rfl
    | false => exact h

theorem toHoldup_ign_of_key {p : State} (h : p.ign.keysAccepted = true) : p.toHoldup.ign = .holdup := by
  rw [toHoldup_of_key h, ← holdupEntered_of_key h]
  exact holdupEntered_ign p

theorem keyPosition_awake (h : s.ign ∈ [.accessory, .run, .holdup]) :
    (s.keyPosition acc run).ign = if run then .run else if acc then .accessory else .holdup := by
  have hsettle (w : State) : w.settleStore.ign = w.ign := (settleStore_kept w).ign
  have hpi : (s.takeLevels acc run).ign = s.ign := rfl
  unfold State.keyPosition
  dsimp only
  rw [takeLevels_position]
  have hcases : s.ign = .accessory ∨ s.ign = .run ∨ s.ign = .holdup := by simpa using h
  rcases hcases with hx | hx | hx <;> rw [hx]
  · cases run with
    | true => exact (hsettle _).trans (toRun_ign _)
    | false =>
      cases acc with
      | true => exact hpi.trans hx
      | false => exact toHoldup_ign_of_key (by rw [hpi, hx]; rfl)
  · cases run with
    | true => exact hpi.trans hx
    | false =>
      cases acc with
      | true => exact (hsettle _).trans (toAccessory_ign _)
      | false => exact toHoldup_ign_of_key (by rw [hpi, hx]; rfl)
  · cases run with
    | true => exact (hsettle _).trans (toRun_ign _)
    | false =>
      cases acc with
      | true => exact (hsettle _).trans (toAccessory_ign _)
      | false => exact hpi.trans hx

/-! ### A wake as an entry -/

theorem entered_of_wakes (h : s.ign = .sleep) (hw : s.Wakes t) (hh : t.ign ≠ .holdup) : s.Entered t := by
  obtain ⟨-, hkeys, -, -, -, hcounting, -, -, ⟨hline, -⟩, -, hgauges, -, -, ⟨⟨-, -, -, -, -, hcheck, -⟩, -⟩, -⟩ := hw
  have hnever {y : Ign} {q : Prop} (k : s.ign = y) (hne : Ign.sleep ≠ y := by decide) : q := absurd (h.symm.trans k) hne
  refine ⟨hkeys, fun k => ?_, fun k => hnever k, fun k => absurd h k, fun k => hnever k, fun k => absurd h k, fun k => hnever k,
    fun k => ?_, fun k => absurd k hh, fun k => hnever k, fun k => hnever k⟩
  · rw [k] at hcounting hline hgauges hcheck
    refine ⟨⟨by rw [hgauges]; rfl, fun g hg => ?_⟩, hcheck, by rw [hline]; rfl, by rw [hline]; rfl, by rw [hcounting]; rfl,
      by rw [hcounting]⟩
    rw [hgauges] at hg
    rw [List.eq_of_mem_replicate hg]
    exact ⟨rfl, rfl, rfl, rfl, rfl⟩
  · rw [k] at hcounting hline
    exact ⟨by rw [hcounting]; rfl, by rw [hcounting], by rw [hline]; rfl⟩

/-- The entry is read at no part of the display block. -/
theorem State.Entered.of_display (k : KeptBut [.display] u t) (h : s.Entered u) : s.Entered t := by
  have hign : t.ign = u.ign := congrArg Ignition.state k.ignition
  obtain ⟨hkeys, hrun, hleft, hreminds, hsweep, hholdup, hturned, haccessory, hheld, hholdupTimer, hwatchTimer⟩ := h
  refine ⟨k.keys.trans hkeys, fun x => ?_, fun x => ?_, fun x y => ⟨fun z => ?_, fun z => ?_⟩, fun x y => ?_, fun x y => ?_,
    fun x => ?_, fun x => ?_, fun x => ?_, fun x => ?_, fun x => ?_⟩
  · unfold State.RunBegun
    rw [k.gauges, k.sound, k.line, k.counting]
    exact hrun (hign ▸ x)
  · unfold State.RunLeft
    rw [k.gauges, k.sound, k.line, k.arbiter, k.handler]
    exact hleft x
  · exact reminds_of ((hreminds x y).1 (hign ▸ z)) rfl rfl (congrArg Arbiter.warnings k.arbiter)
  · rw [k.arbiter]
    exact (hreminds x y).2 (hign ▸ z)
  · rw [k.store]; exact hsweep x (hign ▸ y)
  · rw [k.store]; exact hholdup x (hign ▸ y)
  · rw [k.store]; exact hturned x
  · rw [k.counting, k.line]; exact haccessory (hign ▸ x)
  · unfold State.HoldupHeld State.OdometerQueued
    rw [k.ignition, k.counting, k.line]
    exact hheld (hign ▸ x)
  · rw [k.ignition]; exact hholdupTimer x
  · rw [k.ignition]; exact hwatchTimer x

/-! ### The statement -/

theorem keyPosition_frame (hign : (s.keyPosition acc run) = s.takeLevels acc run) :
    KeptBut [.ignition, .display] s (State.present s (s.keyPosition acc run)) := by
  rw [hign]
  exact present_frame (setIgnition_kept _ _)

/-- Asleep and left asleep, nothing but the levels changes. -/
theorem keyPosition_asleep (h : s.ign = .sleep) (ha : (s.takeLevels acc run).ignition.asked = .sleep) :
    KeptBut [.ignition] s (State.present s (s.keyPosition acc run)) := by
  rw [keyPosition_sleep h, lookFromSleep_of_sleep ha]
  have hkept : KeptBut [.ignition] s (s.takeLevels acc run) := setIgnition_kept _ _
  have hpresent : State.present s (s.takeLevels acc run) = s.takeLevels acc run := by
    unfold State.present
    rw [refreshHolds_same (s := s) (u := s.takeLevels acc run) rfl (warningPage_congr rfl) rfl]
    exact if_pos (by rw [show (s.takeLevels acc run).ign = s.ign from rfl, h]; rfl)
  rw [hpresent]
  exact hkept

theorem keyPosition_wakes (h : s.ign = .sleep) (ha : (s.takeLevels acc run).ignition.asked ≠ .sleep) :
    s.Wakes (State.present s (s.keyPosition acc run)) := by
  rw [keyPosition_sleep h, lookFromSleep_of_ne ha]
  refine (wakes_of (s := s.takeLevels acc run) ?_ s).of_ignition
  rcases asked_cases (s.takeLevels acc run).ignition with k | k | k | k
  · exact absurd k ha
  · exact .inl k
  · exact .inr (.inl k)
  · exact .inr (.inr k)

theorem keyPosition_enters (hc : (s.keyPosition acc run).ign ≠ s.ign) :
    s.Entered (State.present s (s.keyPosition acc run)) := by
  by_cases hs : s.ign = .sleep
  · have hign : (s.keyPosition acc run).ign = (s.takeLevels acc run).ignition.asked := by
      rw [keyPosition_sleep hs]
      exact lookFromSleep_ign (show (s.takeLevels acc run).ign = .sleep from hs)
    have ha : (s.takeLevels acc run).ignition.asked ≠ .sleep := fun k => hc (by rw [hign, k, hs])
    refine entered_of_wakes hs (keyPosition_wakes hs ha) ?_
    rw [present_ign, hign]
    exact asked_ne_holdup _
  · have h := keyPosition_entered hs hc
    exact h.of_display (present_forgotten h.keys s)

/-- Settles O53: the row of Table 11-1 is read off the levels; each entry is settled by what it starts and by the orders it places. -/
theorem ignitionFollowsKey : Obligations.IgnitionFollowsKey := by
  intro s acc run
  have hlevels := keyPosition_levels s acc run
  have hignition : (State.present s (s.keyPosition acc run)).ignition = (s.keyPosition acc run).ignition := State.present_ignition _ _
  have hign : (State.present s (s.keyPosition acc run)).ign = (s.keyPosition acc run).ign := present_ign _ _
  have hasleep (h : s.ign = .sleep) : (s.keyPosition acc run).ign = levelState run acc s.ignition.wake := by
    rw [keyPosition_sleep h, ← takeLevels_asked]
    exact lookFromSleep_ign (show (s.takeLevels acc run).ign = .sleep from h)
  refine ⟨State.present s (s.keyPosition acc run), rfl, ?_, ?_, ?_, ?_, ⟨?_, ?_⟩, ⟨?_, ?_⟩, fun h => ?_, fun h => ?_, fun h => ?_,
    fun h => ?_, fun hc => ?_⟩
  · rw [hignition, hlevels]; rfl
  · rw [hignition, hlevels]; rfl
  · rw [hignition, hlevels]; rfl
  · rw [State.present_cal]
    exact (keyPosition_kept s acc run).cal
  · rw [hignition, hlevels]; rfl
  · rw [hignition, hlevels]; rfl
  · rw [hignition, hlevels]; rfl
  · rw [hignition, hlevels]; rfl
  · refine ⟨?_, keyPosition_frame (keyPosition_load h)⟩
    rw [hign, keyPosition_load h]
    exact h
  · rw [hign, hasleep h]
    refine ⟨rfl, fun hs => keyPosition_asleep h ?_, fun hs => keyPosition_wakes h ?_⟩
    · rw [takeLevels_asked]; exact hs
    · rw [takeLevels_asked]; exact hs
  · rw [hign]; exact keyPosition_watch h
  · rw [hign]; exact keyPosition_awake h
  · have h := keyPosition_enters (hign ▸ hc)
    exact ⟨h.keys, h.run, h.left, h.reminds, h.sweep, h.holdup, h.turned, h.accessory, h.held, h.holdupTimer, h.watchTimer⟩

end

end Sys2Proof.Machine
end

section
/-! SUPPORT. The image of the start-up load: what the items of Tables 12-7 and 12-8 read, and when it is kept. For O52. -/
namespace Sys2Proof.Machine
set_option Elab.async false

/-! ### Lists of items -/

theorem map_range_get {α : Type} (f : Nat → α) {n k : Nat} (h : k < n) : ((List.range n).map f)[k]? = some (f k) := by
  rw [List.getElem?_map, List.getElem?_range h]
  rfl

theorem map_range_length {α : Type} (f : Nat → α) (n : Nat) : ((List.range n).map f).length = n := by
  rw [List.length_map, List.length_range]

/-! ### When the image is kept -/

theorem strictlyRising_iff (f : Nat → Nat) (n : Nat) :
    strictlyRising ((List.range (n + 1)).map f) = true ↔ ∀ k < n, f k < f (k + 1) := by
  induction n generalizing f with
  | zero => exact iff_of_true rfl fun k hk => absurd hk (Nat.not_lt_zero k)
  | succ n ih =>
    have hcons : strictlyRising ((List.range (n + 1 + 1)).map f) =
        (decide (f 0 < f 1) && strictlyRising ((List.range (n + 1)).map fun k => f (k + 1))) := by
      rw [List.range_succ_eq_map, List.map_cons, List.map_map, List.range_succ_eq_map]
      rfl
    rw [hcons, Bool.and_eq_true, decide_eq_true_eq, ih]
    constructor
    · rintro ⟨hfirst, hrest⟩ (_ | k) hk
      · exact hfirst
      · exact hrest k (by omega)
    · exact fun h => ⟨h 0 (by omega), fun k hk => h (k + 1) (by omega)⟩

theorem neverFalling_iff (f : Nat → Nat) (n : Nat) :
    neverFalling ((List.range (n + 1)).map f) = true ↔ ∀ k < n, f k ≤ f (k + 1) := by
  induction n generalizing f with
  | zero => exact iff_of_true rfl fun k hk => absurd hk (Nat.not_lt_zero k)
  | succ n ih =>
    have hcons : neverFalling ((List.range (n + 1 + 1)).map f) =
        (decide (f 0 ≤ f 1) && neverFalling ((List.range (n + 1)).map fun k => f (k + 1))) := by
      rw [List.range_succ_eq_map, List.map_cons, List.map_map, List.range_succ_eq_map]
      rfl
    rw [hcons, Bool.and_eq_true, decide_eq_true_eq, ih]
    constructor
    · rintro ⟨hfirst, hrest⟩ (_ | k) hk
      · exact hfirst
      · exact hrest k (by omega)
    · exact fun h => ⟨h 0 (by omega), fun k hk => h (k + 1) (by omega)⟩

theorem readCurve_ordered (img : List Byte) (o : Nat) : (readCurve img o).ordered = true ↔ CurveInOrder img o := by
  unfold Curve.ordered readCurve CurveInOrder
  dsimp only
  rw [Bool.and_eq_true, Bool.and_eq_true, Bool.and_eq_true, strictlyRising_iff _ 8, neverFalling_iff _ 8, List.all_eq_true,
    List.all_eq_true]
  simp only [List.mem_map, List.mem_range, forall_exists_index, and_imp, forall_apply_eq_imp_iff₂,
    decide_not, Bool.not_eq_true', decide_eq_false_iff_not]
  constructor
  · rintro ⟨⟨⟨hx, hy⟩, hxs⟩, hys⟩
    refine ⟨fun k hk => ⟨hx k hk, hy k hk⟩, fun k hk => ?_⟩
    by_cases h : k < 9
    · exact hxs k h
    · have := hys (k - 9) (by omega)
      rwa [show o + 18 + 2 * (k - 9) = o + 2 * k by omega] at this
  · rintro ⟨horder, hvalue⟩
    refine ⟨⟨⟨fun k hk => (horder k hk).1, fun k hk => (horder k hk).2⟩, fun k hk => hvalue k (by omega)⟩, fun k hk => ?_⟩
    have := hvalue (k + 9) (by omega)
    rwa [show o + 2 * (k + 9) = o + 18 + 2 * k by omega] at this

theorem imageFails_iff (img : List Byte) (bad : Bool) :
    imageFails img bad = false ↔ bad = false ∧ ∀ m < 7, CurveInOrder img (86 + 36 * m) := by
  unfold imageFails imageCurves
  rw [Bool.or_eq_false_iff, Bool.not_eq_false', List.all_eq_true]
  simp only [List.mem_map, List.mem_range, forall_exists_index, and_imp, forall_apply_eq_imp_iff₂, readCurve_ordered]

/-! ### The items of the image -/

section
variable (img : List Byte)

theorem readCurve_isAt (o : Nat) : (readCurve img o).IsAt img o :=
  ⟨map_range_length _ 9, map_range_length _ 9, fun _ hk => ⟨map_range_get _ hk, map_range_get _ hk⟩⟩

theorem bne_zero_eq (n : Nat) : (n != 0) = decide (n ≠ 0) := by
  rw [bne, Bool.eq_iff_iff]
  simp

theorem readWindow_eq (k : Nat) : readWindow img k =
    { first := byteAt img (10 + 4 * k), last := byteAt img (11 + 4 * k)
      source := if byteAt img (12 + 4 * k) % 16 = 0 then none else some (byteAt img (12 + 4 * k) % 16)
      enabled := decide (byteAt img (13 + 4 * k) ≠ 0) } := by
  unfold readWindow
  dsimp only
  rw [bne_zero_eq, show 10 + 4 * k + 1 = 11 + 4 * k by omega, show 10 + 4 * k + 2 = 12 + 4 * k by omega,
    show 10 + 4 * k + 3 = 13 + 4 * k by omega]

theorem readEntry_eq (k : Nat) : readEntry img k =
    { defined := decide (byteAt img (38 + 4 * k) ≠ 0), topic := byteAt img (39 + 4 * k), length := byteAt img (40 + 4 * k)
      limit := max 1 (byteAt img (41 + 4 * k)) } := by
  unfold readEntry
  dsimp only
  rw [bne_zero_eq, show 38 + 4 * k + 1 = 39 + 4 * k by omega, show 38 + 4 * k + 2 = 40 + 4 * k by omega,
    show 38 + 4 * k + 3 = 41 + 4 * k by omega]

theorem readGauge_isAt (g : Nat) : (readGauge img g).curve.IsAt img (122 + 36 * g) ∧
    (readGauge img g).shift = min 5 (byteAt img (338 + 2 * g)) ∧ (readGauge img g).slew = max 1 (byteAt img (339 + 2 * g)) := by
  refine ⟨?_, rfl, rfl⟩
  rw [show 122 + 36 * g = 86 + 36 * (g + 1) by omega]
  exact readCurve_isAt img _

/-! ### Rules -/

theorem builtInRule_eq {k : Nat} {b : RuleRecord} (h : builtInSlots[k]? = some b) (t : Int) (y q r : Nat) :
    builtInRule k t y q r = { b with threshold := t, hysteresis := y, qualify := q, release := r } := by
  have hk : k < 17 := (List.getElem?_eq_some_iff.mp h).1
  interval_cases k <;> (cases h; rfl)

theorem builtInSlot_isAt {k : Nat} (hk : k < 17) : SlotIsAt (some (readBuiltInSlot img k)) img k := by
  refine ⟨fun b hb => ?_, fun h => by omega, fun h => by omega⟩
  exact congrArg some (builtInRule_eq hb _ _ _ _)

theorem gateOfCode_eq (n : Nat) : gateOfCode n = ([.always, .notRun, .run, .moving, .stopped, .engineRunning] : List Gate)[n]? := by
  match n with
  | 0 | 1 | 2 | 3 | 4 | 5 => rfl
  | n + 6 => rfl

theorem quantityOfCode_eq (n : Nat) : quantityOfCode n = quantityCodes[n]? := by
  match n with
  | 0 | 1 | 2 | 3 | 4 | 5 | 6 | 7 | 8 | 9 | 10 | 11 | 12 | 13 | 14 | 15 | 16 | 17 => rfl
  | n + 18 => rfl

theorem permittedWarning_iff (k w : Nat) : permittedWarning k w = true ↔
    (k < 20 ∧ (w ≤ 13 ∨ w = 26 ∨ w = 31)) ∨ (20 ≤ k ∧ 14 ≤ w ∧ w ≤ 25) := by
  unfold permittedWarning
  split
  · simp only [Bool.or_eq_true, decide_eq_true_eq, beq_iff_eq]
    omega
  · simp only [Bool.and_eq_true, decide_eq_true_eq]
    omega

end

end Sys2Proof.Machine
end

section
/-! SUPPORT. The items of the image, and of the built-in default image, as the statement reads them. For O52. -/
namespace Sys2Proof.Machine
set_option Elab.async false

section
variable (img : List Byte)

/-! ### The calibratable rules -/

/-- Where the record of slot `k` stands in the image. -/
def slotAt (k : Nat) : Nat := 435 + 11 * (k - 17)

/-- The conditions of the record of slot `k`. -/
def condAt (k : Nat) : ConditionSet :=
  ⟨bitAt img (slotAt k) 1, bitAt img (slotAt k) 2, bitAt img (slotAt k) 3, bitAt img (slotAt k) 4⟩

/-- The record of slot `k` with a gate and a source. -/
def recordAt (k : Nat) (g : Gate) (src : Source) : RuleRecord :=
  { source := src, threshold := signedWordAt img (slotAt k + 5), hysteresis := byteAt img (slotAt k + 7), cond := condAt img k
    gate := g, qualify := byteAt img (slotAt k + 8), release := byteAt img (slotAt k + 9), edge := bitAt img (slotAt k) 5
    warning := byteAt img (slotAt k + 10) }

/-- The source that the record of slot `k` names. -/
def sourceAt (k : Nat) : Option Source :=
  sourceOf k (byteAt img (slotAt k + 2)) (byteAt img (slotAt k + 3)) (byteAt img (slotAt k + 4))

theorem cond_any_iff (c : ConditionSet) :
    (c.less || c.equal || c.greater || c.unordered) = true ↔ c ≠ ⟨false, false, false, false⟩ := by
  obtain ⟨l, e, g, u⟩ := c
  cases l <;> cases e <;> cases g <;> cases u <;> simp

/-- Whether the record's flag, conditions and warning let the rule be active. -/
def RuleAllowed (k : Nat) : Prop :=
  bitAt img (slotAt k) 0 = true ∧ condAt img k ≠ ⟨false, false, false, false⟩ ∧ permittedWarning k (byteAt img (slotAt k + 10)) = true

theorem readSlot_disallowed {k : Nat} (h : ¬RuleAllowed img k) : readSlot img k = none := by
  refine if_pos ?_
  by_contra hno
  rw [Bool.not_eq_true, Bool.or_eq_false_iff, Bool.or_eq_false_iff, Bool.not_eq_false', Bool.not_eq_false', Bool.not_eq_false'] at hno
  obtain ⟨⟨hbit, hcond⟩, hwarning⟩ := hno
  exact h ⟨hbit, (cond_any_iff (condAt img k)).mp hcond, hwarning⟩

theorem readSlot_allowed {k : Nat} (h : RuleAllowed img k) : readSlot img k =
    match gateOfCode (byteAt img (slotAt k + 1)), sourceAt img k with
    | some g, some src => some (recordAt img k g src)
    | _, _ => none := by
  obtain ⟨hbit, hcond, hwarning⟩ := h
  refine (if_neg ?_).trans rfl
  rw [Bool.not_eq_true, Bool.or_eq_false_iff, Bool.or_eq_false_iff, Bool.not_eq_false', Bool.not_eq_false', Bool.not_eq_false']
  exact ⟨⟨hbit, (cond_any_iff (condAt img k)).mpr hcond⟩, hwarning⟩

theorem sourceOf_field {k code offset bits : Nat} (h : 20 ≤ k ∧ 0x84 ≤ code ∧ code ≤ 0x8F ∧ offset ≤ 7) :
    sourceOf k code offset bits = some (.field (code - 0x80) offset (bits.testBit 0) (bits.testBit 1)) := by
  obtain ⟨hk, hlow, hhigh, hoffset⟩ := h
  unfold sourceOf
  rw [if_pos ⟨hlow, hhigh⟩, if_pos ⟨hk, hoffset⟩]

theorem sourceOf_quantity {k code offset bits : Nat} (h : code ≤ 17) :
    sourceOf k code offset bits = (quantityCodes[code]?).map .builtIn := by
  unfold sourceOf
  rw [if_neg (by omega), quantityOfCode_eq]

theorem sourceOf_none {k code offset bits : Nat} (h : ¬(code ≤ 17 ∨ (20 ≤ k ∧ 0x84 ≤ code ∧ code ≤ 0x8F ∧ offset ≤ 7))) :
    sourceOf k code offset bits = none := by
  unfold sourceOf
  split
  · exact if_neg (by omega)
  · rw [quantityOfCode_eq, List.getElem?_eq_none (by show 18 ≤ code; omega)]
    rfl

theorem gateOfCode_none {n : Nat} (h : ¬n ≤ 5) : gateOfCode n = none := by
  rw [gateOfCode_eq]
  exact List.getElem?_eq_none (by show 6 ≤ n; omega)

theorem gateOfCode_some {n : Nat} (h : n ≤ 5) : ∃ g, gateOfCode n = some g :=
  ⟨_, (gateOfCode_eq n).trans (List.getElem?_eq_getElem (by show n < 6; omega))⟩

theorem quantityCodes_some {n : Nat} (h : n ≤ 17) : ∃ q, quantityCodes[n]? = some q :=
  ⟨_, List.getElem?_eq_getElem (by show n < 18; omega)⟩

theorem readSlot_isAt {k : Nat} (hk : 17 ≤ k) : SlotIsAt (readSlot img k) img k := by
  refine ⟨fun b hb => ?_, fun _ hno => ?_, fun _ hactive => ?_⟩
  · have : k < 17 := (List.getElem?_eq_some_iff.mp hb).1
    omega
  · by_cases hallowed : RuleAllowed img k
    · obtain ⟨hbit, hcond, hwarning⟩ := id hallowed
      rw [readSlot_allowed img hallowed]
      by_cases hgate : byteAt img (slotAt k + 1) ≤ 5
      · have hsource : sourceAt img k = none := by
          refine sourceOf_none fun hs => hno ⟨hbit, hcond, hgate, hs, (permittedWarning_iff k _).mp hwarning⟩
        obtain ⟨g, hg⟩ := gateOfCode_some hgate
        rw [hsource, hg]
      · rw [gateOfCode_none hgate]
    · exact readSlot_disallowed img hallowed
  · rw [show 435 + 11 * (k - 17) = slotAt k from rfl] at hactive
    obtain ⟨hbit, hcond, hgate, hsource, hwarning⟩ := hactive
    have hallowed : RuleAllowed img k := ⟨hbit, hcond, (permittedWarning_iff k _).mpr hwarning⟩
    obtain ⟨g, hg⟩ := gateOfCode_some hgate
    have hfound : ∃ src, sourceAt img k = some src ∧
        (∀ q, quantityCodes[byteAt img (slotAt k + 2)]? = some q → src = .builtIn q) ∧
        (20 ≤ k ∧ 0x84 ≤ byteAt img (slotAt k + 2) ∧ byteAt img (slotAt k + 2) ≤ 0x8F ∧ byteAt img (slotAt k + 3) ≤ 7 →
          src = .field (byteAt img (slotAt k + 2) - 0x80) (byteAt img (slotAt k + 3)) (bitAt img (slotAt k + 4) 0)
            (bitAt img (slotAt k + 4) 1)) := by
      rcases hsource with hcode | hfield
      · obtain ⟨q, hq⟩ := quantityCodes_some hcode
        refine ⟨.builtIn q, by unfold sourceAt; rw [sourceOf_quantity hcode, hq]; rfl, fun q' hq' => ?_, fun hf => by omega⟩
        rw [hq] at hq'
        cases hq'
        rfl
      · refine ⟨_, sourceOf_field hfield, fun q hq => ?_, fun _ => rfl⟩
        have : byteAt img (slotAt k + 2) < 18 := (List.getElem?_eq_some_iff.mp hq).1
        omega
    obtain ⟨src, hsrc, hquantity, hfield⟩ := hfound
    refine ⟨recordAt img k g src, ?_, (gateOfCode_eq _).symm.trans hg, rfl, rfl, rfl, rfl, rfl, rfl, rfl, hquantity, hfield⟩
    rw [readSlot_allowed img hallowed, hg, hsrc]

/-! ### Warnings, patterns, lamps, service items -/

theorem classOf_builtIn : ∀ p ∈ builtInClasses, ∀ w ∈ p.2, ∀ c, classOf w c = p.1 := by
  intro p hp w hw c
  have hfixed : ¬(14 ≤ w ∧ w ≤ 25) := by
    simp only [builtInClasses, List.mem_cons, List.not_mem_nil, or_false] at hp
    rcases hp with rfl | rfl | rfl | rfl <;> simp only [List.mem_cons, List.not_mem_nil, or_false] at hw <;> omega
  have htable : ∀ p ∈ builtInClasses, ∀ w ∈ p.2, classOf w .danger = p.1 := by decide
  rw [← htable p hp w hw]
  unfold classOf
  rw [if_neg hfixed, if_neg hfixed]

theorem classOf_calibrated {w : Nat} (h : 14 ≤ w) (h' : w ≤ 25) (c : WarnClass) : classOf w c = c := if_pos ⟨h, h'⟩

theorem classOfCode_eq {n : Nat} (h : n < 4) :
    ([WarnClass.danger, .caution, .advisory, .information] : List WarnClass)[n]? = some (classOfCode n) := by
  interval_cases n <;> rfl

theorem readWarning_isAt (w : Nat) : (readWarning img w).enabled = bitAt img (600 + 2 * w) 0 ∧
    (readWarning img w).pattern = byteAt img (600 + 2 * w) / 2 % 8 ∧
    (readWarning img w).lamp = (if byteAt img (601 + 2 * w) ≤ 15 then some (byteAt img (601 + 2 * w)) else none) ∧
    (∀ p ∈ builtInClasses, w ∈ p.2 → (readWarning img w).cls = p.1) ∧
    (14 ≤ w → w ≤ 25 → [WarnClass.danger, .caution, .advisory, .information][byteAt img (600 + 2 * w) / 16 % 4]? =
      some (readWarning img w).cls) := by
  refine ⟨rfl, rfl, rfl, fun p hp hw => classOf_builtIn p hp w hw _, fun hlow hhigh => ?_⟩
  rw [classOfCode_eq (Nat.mod_lt _ (by decide))]
  exact congrArg some (classOf_calibrated hlow hhigh _).symm

theorem readPattern_eq (p : Nat) : readPattern img p =
    { first := min 7 (byteAt img (664 + 6 * p))
      second := if byteAt img (664 + 6 * p + 1) ≤ 7 then some (byteAt img (664 + 6 * p + 1)) else none
      onTime := max 1 (byteAt img (664 + 6 * p + 2)), offTime := byteAt img (664 + 6 * p + 3)
      repeats := min 254 (byteAt img (664 + 6 * p + 4)), loud := decide (byteAt img (664 + 6 * p + 5) = 0) } := by
  unfold readPattern
  dsimp only
  rw [show (byteAt img (664 + 6 * p + 5) == 0) = decide (byteAt img (664 + 6 * p + 5) = 0) from rfl]

theorem lampKindOf_eq (n : Nat) :
    lampKindOf n = ([LampKind.warning, .turnLeft, .turnRight, .highBeam] : List LampKind).getD n .unused := by
  match n with
  | 0 | 1 | 2 | 3 => rfl
  | n + 4 => rfl

theorem readItem_isAt (i : Nat) : (readItem img i).IsAt img i := by
  refine ⟨bne_zero_eq _, Nat.min_comm _ _, Nat.min_comm _ _, fun hkm => ⟨?_, ?_⟩, fun hdays => ⟨?_, ?_⟩⟩
  all_goals
    unfold readItem limitItem
    simp only [Nat.min_comm 32000]
  · split <;> omega
  · split <;> omega

end

end Sys2Proof.Machine
end

section
/-! SUPPORT. The image kept, or the built-in defaults in its place. For O52. -/
namespace Sys2Proof.Machine
set_option Elab.async false

theorem readImage_slot (img : List Byte) {k : Nat} (hk : k < 32) :
    ∃ slot, (readImage img).slots[k]? = some slot ∧ SlotIsAt slot img k := by
  refine ⟨_, map_range_get _ hk, ?_⟩
  split
  · next h => exact builtInSlot_isAt img h
  · next h => exact readSlot_isAt img (Nat.le_of_not_lt h)

theorem readImage_isAt (img : List Byte) : (readImage img).IsAt img := by
  refine ⟨rfl, rfl, ⟨map_range_length _ 7, fun k hk => ?_⟩, ⟨map_range_length _ 12, fun k hk => ?_⟩,
    ⟨readCurve_isAt img 86, map_range_length _ 6, fun g hg => ⟨_, map_range_get _ hg, readGauge_isAt img g⟩⟩,
    ⟨map_range_length _ 32, fun k hk => readImage_slot img hk⟩,
    ⟨map_range_length _ 32, fun w hw => ⟨_, map_range_get _ hw, readWarning_isAt img w⟩⟩,
    ⟨map_range_length _ 8, fun p hp => ?_⟩, ⟨map_range_length _ 16, fun n hn => ?_⟩,
    ⟨map_range_length _ 8, fun i hi => ⟨_, map_range_get _ hi, readItem_isAt img i⟩⟩⟩
  · exact (map_range_get _ hk).trans (congrArg some (readWindow_eq img k))
  · exact (map_range_get _ hk).trans (congrArg some (readEntry_eq img k))
  · exact (map_range_get _ hp).trans (congrArg some (readPattern_eq img p))
  · exact (map_range_get (fun i => lampKindOf (byteAt img (712 + i))) hn).trans (congrArg some (lampKindOf_eq _))

theorem builtInSlot_default (k : Nat) (b : RuleRecord) (f : Int × Nat × Nat × Nat) (hb : builtInSlots[k]? = some b)
    (hf : ([(10, 2, 20, 10), (158, 3, 30, 30), (125, 3, 100, 20), (0, 0, 10, 0), (0, 0, 5, 0), (0, 0, 5, 0), (50, 10, 50, 0),
        (80, 20, 50, 0), (0, 0, 0, 0), (0, 0, 10, 0), (1300, 20, 30, 50), (0, 0, 50, 0), (0, 0, 50, 0), (0, 0, 10, 20),
        (0, 0, 0, 0), (3, 2, 50, 0), (160, 0, 0, 0)] : List (Int × Nat × Nat × Nat))[k]? = some f) :
    defaultSlots[k]? = some (some { b with
      threshold := f.1, hysteresis := f.2.1, qualify := f.2.2.1, release := f.2.2.2 }) := by
  rw [← builtInRule_eq hb]
  have hk : k < 17 := (List.getElem?_eq_some_iff.mp hb).1
  interval_cases k <;> (cases hf; rfl)

theorem defaultSlots_none (k : Nat) (h : 17 ≤ k) (h' : k < 32) : defaultSlots[k]? = some none := by
  interval_cases k <;> rfl

theorem builtInDefaults_isDefault : builtInDefaults.IsDefault := by
  refine ⟨⟨rfl, rfl, rfl, rfl, rfl⟩, rfl, rfl, ⟨rfl, rfl⟩, rfl, rfl, rfl,
    ⟨rfl, defaultSlots_none, builtInSlot_default⟩, ⟨by decide, by decide, by decide, fun p hp w hw => ?_⟩, rfl, rfl, rfl,
    fun p hp => ?_⟩
  · have hlt : ∀ p ∈ builtInClasses, ∀ w ∈ p.2, w < 32 := by decide
    rw [show builtInDefaults.warnings[w]? = some (defaultWarning w) from map_range_get _ (hlt p hp w hw)]
    exact congrArg some (classOf_builtIn p hp w hw _)
  · simp only [List.mem_cons, List.not_mem_nil, or_false] at hp
    rcases hp with rfl | rfl | rfl | rfl
    · exact ⟨_, rfl, fun x hx => by cases hx; exact ⟨rfl, rfl⟩, fun x hx => by cases hx; exact ⟨rfl, rfl⟩⟩
    · exact ⟨_, rfl, fun x hx => by cases hx; exact ⟨rfl, rfl⟩, nofun⟩
    · exact ⟨_, rfl, nofun, fun x hx => by cases hx; exact ⟨rfl, rfl⟩⟩
    · exact ⟨_, rfl, fun x hx => by cases hx; exact ⟨rfl, rfl⟩, fun x hx => by cases hx; exact ⟨rfl, rfl⟩⟩

/-! ### Station number and divisor -/

theorem clampStation_eq (n : Nat) : clampStation n = if n = 0 ∨ n = 15 then 2 else n := rfl

theorem clampDivisor_eq (d : Nat) : clampDivisor d = if d < 10 then 10 else if 160 < d then 160 else d := by
  unfold clampDivisor
  split
  · omega
  · split <;> omega

theorem clampsOf_eq (img : List Byte) : clampsOf img =
    (if byteAt img 0 % 16 = 0 ∨ byteAt img 0 % 16 = 15 then 1 else 0) +
      (if byteAt img 1 < 10 ∨ 160 < byteAt img 1 then 1 else 0) := by
  have hstation : flagNat (clampStation (byteAt img 0 % 16) != byteAt img 0 % 16) =
      if byteAt img 0 % 16 = 0 ∨ byteAt img 0 % 16 = 15 then 1 else 0 := by
    rw [clampStation_eq]
    split
    · next h => rw [bne_iff_ne.mpr (by omega)]; rfl
    · rw [bne_self_eq_false]; rfl
  have hdivisor : flagNat (clampDivisor (byteAt img 1) != byteAt img 1) =
      if byteAt img 1 < 10 ∨ 160 < byteAt img 1 then 1 else 0 := by
    rw [clampDivisor_eq]
    split
    · next h => rw [bne_iff_ne.mpr (by omega), if_pos (.inl h)]; rfl
    · split
      · next h => rw [bne_iff_ne.mpr (by omega), if_pos (.inr h)]; rfl
      · rw [bne_self_eq_false, if_neg (by omega)]; rfl
  unfold clampsOf
  rw [hstation, hdivisor]

/-! ### The check of the image -/

section
variable {s : State}

/-- The load with the image that stands for a bad one. -/
theorem checkImage_fails (h : imageFails s.ignition.load.bytes s.ignition.load.bad = true) : s.checkImage =
    s.setIgnition { s.ignition with calDefault := true, load := { s.ignition.load with image := builtInDefaults } } := if_pos h

theorem checkImage_keeps (h : imageFails s.ignition.load.bytes s.ignition.load.bad = false) : s.checkImage =
    s.setIgnition { s.ignition with
      clampCount := s.ignition.clampCount + clampsOf s.ignition.load.bytes
      load := { s.ignition.load with image := readImage s.ignition.load.bytes } } := if_neg (by rw [h]; decide)

end

end Sys2Proof.Machine
end

section
/-! SUPPORT. A step of the start-up load at the store: the block just filled stands while the next block's read begins. For O52. -/
namespace Sys2Proof.Machine
set_option Elab.async false

/-! ### A way for the next block -/

section
variable {st : Store}

theorem victim_of_eligible {set j : Nat} (hj : j = 2 * set ∨ j = 2 * set + 1) (he : st.eligible j = true) : ∃ i, st.victim set = some i := by
  refine Option.isSome_iff_exists.mp ?_
  unfold Store.victim
  dsimp only
  split
  · rfl
  · split
    · rfl
    · split
      · rfl
      · next hfirst =>
        split
        · rfl
        · next hsecond =>
          exfalso
          rcases hj with rfl | rfl
          · rw [he, Bool.eq_false_iff.mpr hsecond] at hfirst
            simp at hfirst
          · exact hsecond he

/-- The ways of block `n`'s set can be taken without a write. -/
structure Store.Ways (st : Store) (n : Nat) : Prop where
  free : ∀ j, j / 2 = n % 4 → (st.line j).pinned = true ∨ (st.line j).state ∈ [.invalid, .clean]
  way : ∃ j, j / 2 = n % 4 ∧ (st.line j).pinned = false

theorem Store.Ways.victim {n : Nat} (h : st.Ways n) : ∃ j, st.victim (n % 4) = some j ∧ j / 2 = n % 4 ∧ (st.line j).state ≠ .dirty := by
  obtain ⟨hfree, j, hj, hp⟩ := h
  have hstate (k : Nat) (hk : k / 2 = n % 4) (hpin : (st.line k).pinned = false) :
      (st.line k).state = .invalid ∨ (st.line k).state = .clean := by
    rcases hfree k hk with h | h
    · rw [hpin] at h; cases h
    · simpa using h
  have heligible : st.eligible j = true := by
    rcases hstate j hj hp with hs | hs
    · exact eligible_iff.mpr ⟨hp, .inl hs⟩
    · exact eligible_iff.mpr ⟨hp, .inr (.inl hs)⟩
  obtain ⟨i, hi⟩ := victim_of_eligible (set := n % 4) (j := j) (by omega) heligible
  obtain ⟨hset, hpin⟩ := victim_spec hi
  refine ⟨i, hi, hset, ?_⟩
  rcases hstate i hset hpin with hs | hs <;> rw [hs] <;> decide

/-- The line taken for the fill is the one where the block is found. -/
theorem find_fillBegun {n i : Nat} (hf : st.find n = none) (hi : i < st.lines.length) : (st.fillBegun n i).find n = some i := by
  unfold Store.find Store.fillBegun at *
  refine List.findIdx?_eq_some_iff_getElem.mpr ⟨by rw [List.length_set]; exact hi, ?_, fun k hk => ?_⟩
  · rw [List.getElem_set_self]
    unfold CacheLine.holds CacheLine.filling
    simp
  · rw [List.getElem_set_ne (by omega)]
    have hno := List.findIdx?_eq_none_iff.mp hf st.lines[k] (List.getElem_mem _)
    rw [hno]
    decide

/-- The read of the next block begins. -/
theorem next_begins {n : Nat} (hr : st.AtRest) (hlen : st.lines.length = 8) (hf : st.find n = none) (hw : st.Ways n) :
    ∃ v, ((st.fetch n).settle settleFuel).1 = v ∧ v.orders = [.fill n] ∧ v.op = some (.readFill n) ∧ v.waiting = [] ∧
      ∃ j, j / 2 = n % 4 ∧ v.find n = some j ∧ (v.line j).state = .filling := by
  obtain ⟨ho, hop, hwaiting, htask⟩ := hr
  obtain ⟨i, hv, hset, hdirty⟩ := hw.victim
  have hi : i < st.lines.length := by rw [hlen]; omega
  rw [fetch_absent hf hwaiting]
  refine ⟨_, settle_after (reaches_fetch (st := { st with waiting := [.fetch n false] }) (b := n) (i := i)
    (by show st.task.passive = true; rw [htask]; rfl) rfl ho hop hi hv hdirty), rfl, rfl, rfl, i, hset,
    find_fillBegun (st := { st with waiting := [.fetch n false] }) hf hi, ?_⟩
  unfold Store.line Store.fillBegun
  rw [List.getD_eq_getElem?_getD, List.getElem?_set_self hi]
  rfl

/-! ### The filled line -/

theorem engineOne_pinned {st' : Store} (h : st.engineOne = some st') (i : Nat) : (st'.line i).pinned = (st.line i).pinned := by
  obtain ⟨-, k, o, hk, rfl⟩ := engineOne_cases h
  have hwrite (u : Store) (hu : u.lines = st.lines) (j : Nat) (serves : WriteFor) :
      ((u.startWrite j serves).line i).pinned = (st.line i).pinned := by
    rw [← line_of_lines hu]
    show ((u.modifyLine j _).line i).pinned = _
    unfold Store.line Store.modifyLine
    rw [List.getD_eq_getElem?_getD, List.getD_eq_getElem?_getD, List.getElem?_modify]
    split
    · cases u.lines[i]? <;> rfl
    · cases u.lines[i]? <;> rfl
  rcases startOrder_cases hk with ⟨op, e⟩ | ⟨j, serves, hj, e⟩ | ⟨j, x, p, rfl, hj, e⟩ | ⟨-, -, e⟩ <;> rw [e]
  · rfl
  · exact hwrite st rfl j serves
  · exact hwrite { st with orders := st.orders.set k (.walk x j) } rfl j .walk
  · unfold Store.endOrder
    dsimp only
    split <;> rfl

/-- A guarded block keeps its line, its bytes and its pin as the store goes on. -/
theorem settle_guards_pinned {b i : Nat} {d : List Byte} {p : Bool} (fuel : Nat) (ht : st.task.passive = true) (h : st.Guards b i d)
    (hp : (st.line i).pinned = p) : (st.settle fuel).1.Guards b i d ∧ ((st.settle fuel).1.line i).pinned = p :=
  (settle_keeps (P := fun st => st.Guards b i d ∧ (st.line i).pinned = p)
    (fun _ _ hP ha => by
      obtain ⟨hguards, hline⟩ := hP.1.admitOne ha
      exact ⟨hguards, by rw [hline]; exact hP.2⟩)
    (fun _ _ hP _ he => ⟨hP.1.engineOne he, (engineOne_pinned he i).trans hP.2⟩) fuel ht ⟨h, hp⟩).2

/-- The store `u` with block `b` loaded in line `i` with the bytes `d`, and else as `st` at the end of the read. -/
structure Store.Loaded (st : Store) (b i : Nat) (d : List Byte) (u : Store) : Prop where
  rest : u.AtRest
  line : u.presentLine b = some i
  data : u.dataOf b = d
  length : u.lines.length = st.lines.length
  find : ∀ c, u.find c = st.find c
  others : ∀ j, j ≠ i → j ≠ otherWay i → u.line j = st.line j
  reads : ∀ c, c ≠ b → u.presentLine c = st.presentLine c ∧ u.dataOf c = st.dataOf c
  port : u.port = st.port
  pinned : (u.line i).pinned = ((st.line i).pinned || systemBlock b)

theorem update_length (st : Store) (b : Nat) (f : List Byte → List Byte) : (st.update b f).lines.length = st.lines.length := by
  unfold Store.update
  split
  · simp [Store.touch, Store.modifyLine]
  · rfl

theorem update_others {b i : Nat} (h : st.presentLine b = some i) (f : List Byte → List Byte) {j : Nat} (hj : j ≠ i)
    (hj' : j ≠ otherWay i) : (st.update b f).line j = st.line j := by
  unfold Store.update
  rw [h]
  dsimp only
  rw [line_touch_other _ hj hj']
  unfold Store.line Store.modifyLine
  simp [List.getD_eq_getElem?_getD, Ne.symm hj]

section
variable {b i : Nat} {d : List Byte} {u : Store}

theorem Store.Loaded.update (h : st.Loaded b i d u) (f : List Byte → List Byte) : st.Loaded b i (f d) (u.update b f) := by
  refine ⟨atRest_update h.rest b f, (presentLine_update u b f b).trans h.line, ?_, (update_length u b f).trans h.length,
    fun c => (find_update u b f c).trans (h.find c), fun j hj hj' => (update_others h.line f hj hj').trans (h.others j hj hj'),
    fun c hc => ⟨(presentLine_update u b f c).trans (h.reads c hc).1, (dataOf_update_ne f hc).trans (h.reads c hc).2⟩,
    (update_port u b f).trans h.port, (line_update_pinned u b f i).trans h.pinned⟩
  rw [dataOf_update_same f (by unfold Store.present; rw [h.line]; rfl), h.data]

theorem filled_length (pin : Bool) : (st.filled b i pin).lines.length = st.lines.length := by
  simp [Store.filled, Store.touch, Store.modifyLine]

theorem find_filled (hs : (st.line i).state = .filling) (pin : Bool) (c : Nat) : (st.filled b i pin).find c = st.find c := by
  unfold Store.filled
  rw [find_touch, find_modifyLine_at (st := { st with orders := [], op := none }) rfl]
  · rfl
  · show ((LineState.clean : LineState) == .invalid) = ((st.line i).state == .invalid)
    rw [hs]
    rfl

theorem presentLine_modifyLine_tagged {f : CacheLine → CacheLine} {c : Nat} (hfind : st.find b = some i) (hc : c ≠ b)
    (ht : (f (st.line i)).tag = (st.line i).tag) (hv : ((f (st.line i)).state == .invalid) = ((st.line i).state == .invalid)) :
    (st.modifyLine i f).presentLine c = st.presentLine c := by
  unfold Store.presentLine
  rw [find_modifyLine_at ht hv]
  cases hf : st.find c with
  | none => rfl
  | some j =>
    have hne : i ≠ j := by
      rintro rfl
      have hheld := (line_of_find hfind).1
      rw [(line_of_find hf).1] at hheld
      exact hc (Option.some.inj hheld)
    dsimp only
    rw [modifyLine_line _ _ _ _ (line_lt_of_find hfind), if_neg hne]

theorem filled_reads (hi : st.find b = some i) (hs : (st.line i).state = .filling) (pin : Bool) {c : Nat} (hc : c ≠ b) :
    (st.filled b i pin).presentLine c = st.presentLine c ∧ (st.filled b i pin).dataOf c = st.dataOf c := by
  have hv : ((LineState.clean : LineState) == .invalid) = ((st.line i).state == .invalid) := by rw [hs]; rfl
  unfold Store.filled
  rw [presentLine_touch, dataOf_touch, presentLine_modifyLine_tagged (st := { st with orders := [], op := none }) hi hc rfl hv,
    dataOf_modifyLine_tagged (st := { st with orders := [], op := none }) hi hc rfl hv]
  exact ⟨presentLine_of_lines rfl c, dataOf_of_lines rfl c⟩

theorem filled_loaded (hw : st.waiting = []) (ht : st.task = .none) (hi : st.find b = some i)
    (hs : (st.line i).state = .filling) :
    st.Loaded b i ((List.range 15).map fun j => st.nv.read (16 * b + j)) (st.filled b i (systemBlock b)) := by
  have hlt := line_lt_of_find hi
  have hline := filled_line (b := b) hlt (systemBlock b)
  have hpresent : (st.filled b i (systemBlock b)).presentLine b = some i :=
    presentLine_eq_some.mpr ⟨(find_filled hs _ b).trans hi, by rw [hline]; rfl⟩
  refine ⟨⟨rfl, rfl, hw, ht⟩, hpresent, ?_, filled_length _, fun c => find_filled hs _ c, fun j hj hj' => filled_other _ hj hj',
    fun c hc => filled_reads hi hs _ hc, rfl, by rw [hline]⟩
  rw [dataOf_of_line hpresent, hline, ← block_take]

theorem otherWay_set (i : Nat) : otherWay i / 2 = i / 2 := by
  unfold otherWay
  split <;> omega

theorem Store.Loaded.other_set (h : st.Loaded b i d u) {j : Nat} (hj : j / 2 ≠ i / 2) : u.line j = st.line j :=
  h.others j (fun e => hj (by rw [e])) fun e => hj (by rw [e, otherWay_set])

theorem Store.Loaded.ways {n : Nat} (h : st.Loaded b i d u) (hn : n % 4 ≠ i / 2) (hw : st.Ways n) : u.Ways n := by
  obtain ⟨hfree, j, hj, hp⟩ := hw
  exact ⟨fun k hk => by rw [h.other_set (by omega)]; exact hfree k hk, j, hj, by rw [h.other_set (by omega)]; exact hp⟩

/-- The block stands, with its pin, as the fetch of a block of another set goes on. -/
theorem Store.Loaded.stands {n : Nat} (h : st.Loaded b i d u) (hn : n ≠ b) (hset : n % 4 ≠ i / 2) :
    ((u.fetch n).settle settleFuel).1.presentLine b = some i ∧ ((u.fetch n).settle settleFuel).1.dataOf b = d ∧
      (((u.fetch n).settle settleFuel).1.line i).pinned = ((st.line i).pinned || systemBlock b) := by
  obtain ⟨-, -, hwaiting, htask⟩ := h.rest
  have hguards : u.Guards b i d := ⟨h.line, h.data, fun m x hm => by rw [hwaiting] at hm; cases hm⟩
  have hfetch : (u.fetch n).Guards b i d ∧ ((u.fetch n).line i).pinned = ((st.line i).pinned || systemBlock b) := by
    cases hf : u.find n with
    | none =>
      rw [fetch_absent hf hwaiting]
      refine ⟨⟨h.line, h.data, fun m x hm => ?_⟩, h.pinned⟩
      rw [List.mem_singleton] at hm
      cases hm
      exact ⟨hn, fun e => absurd e.symm hset⟩
    | some k =>
      unfold Store.fetch
      rw [hf]
      dsimp only
      split
      · exact ⟨hguards, h.pinned⟩
      · refine ⟨⟨(presentLine_touch u k b).trans h.line, (dataOf_touch u k b).trans h.data, fun m x hm => ?_⟩, ?_⟩
        · rw [show (u.touch k).waiting = u.waiting from rfl, hwaiting] at hm
          cases hm
        · obtain ⟨y, hy⟩ := line_touch u k i
          rw [hy]
          exact h.pinned
  obtain ⟨hg, hp⟩ := settle_guards_pinned settleFuel (by rw [fetch_task, htask]; rfl) hfetch.1 hfetch.2
  exact ⟨hg.line, hg.data, hp⟩

end

end

end Sys2Proof.Machine
end

section
/-! SUPPORT. A step of the start-up load: the block read is taken, and the next block's read begins. For O52. -/
namespace Sys2Proof.Machine
set_option Elab.async false

/-- The fill that the load awaits has come to its end. -/
structure State.LoadFills (s : State) (b i : Nat) : Prop where
  load : s.ign = .load
  awaits : s.ignition.load.awaits = b
  op : s.store.op = some (.readFill b)
  orders : s.store.orders = [.fill b]
  waiting : s.store.waiting = []
  task : s.store.task = .none
  find : s.store.find b = some i
  filling : (s.store.line i).state = .filling

/-- The read of block `n` begins, where its set has a way. -/
def State.ReadsNext (s : State) (b i n : Nat) (t : State) : Prop :=
  s.store.lines.length = 8 → i / 2 = b % 4 → s.store.find n = none →
    (∀ j, j / 2 = n % 4 → (s.store.line j).pinned = true ∨ (s.store.line j).state ∈ [.invalid, .clean]) →
    (∃ j, j / 2 = n % 4 ∧ (s.store.line j).pinned = false) →
    t.store.orders = [.fill n] ∧ t.store.op = some (.readFill n) ∧ t.store.waiting = [] ∧
      ∃ j, j / 2 = n % 4 ∧ t.store.find n = some j ∧ (t.store.line j).state = .filling

/-- The load goes on to block `n`. -/
def State.loadAwaits (w : State) (n : Nat) : State :=
  w.setIgnition { w.ignition with load := { w.ignition.load with awaits := n } }

/-- The fill's line taken, in LOAD. -/
def State.loadTaken (s : State) (b i : Nat) : State := s.setStore (s.store.filled b i (systemBlock b))

section
variable {s w : State} {b i n : Nat} {d : List Byte}

theorem exec_loadFill (h : s.LoadFills b i) : exec .blockReadEnd s = .next (State.present s (s.fillEnd b)) := by
  have hread : s.readEnd = s.fillEnd b := by
    unfold State.readEnd
    rw [h.op]
  show Host.Outcome.next (State.present s s.readEnd) = _
  rw [hread]

theorem fillTaken_load (h : s.LoadFills b i) : s.fillTaken b = s.loadTaken b i := by
  have hpin : s.pinAtFill b = systemBlock b := by
    unfold State.pinAtFill
    rw [h.load, h.task]
    show (true && systemBlock b || false) = _
    rw [Bool.true_and, Bool.or_false]
  unfold State.fillTaken
  rw [endFill_eq h.orders h.find, hpin]
  unfold State.taskFilled
  rw [show (s.setStore (s.store.filled b i (systemBlock b))).store.task = .none from h.task]
  rfl

theorem fillEnd_load (h : s.LoadFills b i) : s.fillEnd b = (((s.loadTaken b i).loadFill b
    ((List.range 15).map fun j => s.store.nv.read (16 * b + j)) (!checkGood (s.store.nv.block b))).taskApplied b).settleStore := by
  rw [fillEnd_of_load h.load, fillTaken_load h, block_take]

/-- What the load does with the block that it awaits. -/
theorem loadFill_awaited (h : w.ignition.load.awaits = b) (bs : List Byte) (bad : Bool) : w.loadFill b bs bad =
    if 63 ≤ b then (w.loadCalibration bs bad).checkImage.loadNext 0
    else if 7 ≤ b then (w.loadCalibration bs bad).loadNext (b + 1)
    else if b < 6 then (w.loadRecord b bs bad).loadNext (b + 1)
    else (w.loadRecord b bs bad).loadDone := if_neg (not_not.mpr h.symm)

theorem loadTaken_loaded (h : s.LoadFills b i) :
    s.store.Loaded b i ((List.range 15).map fun j => s.store.nv.read (16 * b + j)) (s.loadTaken b i).store :=
  filled_loaded h.waiting h.task h.find h.filling

theorem loadNext_ends (ht : w.store.task = .none) (n b : Nat) : ((w.loadNext n).taskApplied b).settleStore =
    (w.loadAwaits n).setStore ((w.store.fetch n).settle settleFuel).1 := by
  have hnone : (w.loadNext n).store.task = .none := (fetch_task w.store n).trans ht
  rw [taskApplied_none hnone]
  obtain ⟨hset, -⟩ := settleStore_goesOn (s := w.loadNext n) (by rw [hnone]; rfl)
  rw [hset]
  rfl

theorem present_load {u : State} (k : KeptBut [.ignition, .store, .freeIndex] s u) (hu : u.ign = .load) : State.present s u = u := by
  unfold State.present
  rw [refreshHolds_same (by rw [k.trip]) (warningPage_congr k.arbiter) (by rw [k.service])]
  exact if_pos (by rw [hu]; rfl)

/-- What a step of the load leaves: the part is in LOAD still, awaits block `n`, and the block read stands. -/
structure State.LoadSteps (s : State) (b i n : Nat) (d : List Byte) (w t : State) : Prop where
  exec : exec .blockReadEnd s = .next t
  ignition : t.ignition = (w.loadAwaits n).ignition
  nv : t.store.nv = s.store.nv
  next : n % 4 ≠ b % 4 → s.ReadsNext b i n t
  stands : i / 2 = b % 4 → n % 4 ≠ b % 4 → t.store.presentLine b = some i ∧ t.store.dataOf b = d ∧
    (t.store.line i).pinned = ((s.store.line i).pinned || systemBlock b)
  kept : KeptBut [.store, .ignition] w t

theorem loadSteps_of (h : s.LoadFills b i) (hw : KeptBut [.ignition, .store, .freeIndex] s w) (hign : w.ign = .load)
    (hl : s.store.Loaded b i d w.store) (hfill : (s.loadTaken b i).loadFill b
      ((List.range 15).map fun j => s.store.nv.read (16 * b + j)) (!checkGood (s.store.nv.block b)) = w.loadNext n) :
    ∃ t, s.LoadSteps b i n d w t := by
  obtain ⟨ho, hop, hwaiting, htask⟩ := hl.rest
  have hend : s.fillEnd b = (w.loadAwaits n).setStore ((w.store.fetch n).settle settleFuel).1 := by
    rw [fillEnd_load h, hfill]
    exact loadNext_ends htask n b
  have hkept : KeptBut [.store, .ignition] w ((w.loadAwaits n).setStore ((w.store.fetch n).settle settleFuel).1) :=
    (setIgnition_kept w _).andThen (setStore_kept _ _)
  have hpresent : State.present s (s.fillEnd b) = (w.loadAwaits n).setStore ((w.store.fetch n).settle settleFuel).1 := by
    rw [hend]
    exact present_load (hw.trans (hkept.mono (by decide))) hign
  refine ⟨(w.loadAwaits n).setStore ((w.store.fetch n).settle settleFuel).1, by rw [exec_loadFill h, hpresent], rfl, ?_, fun hset hlen hi hf hfree hway => ?_, fun hi hset => ?_, hkept⟩
  · have hport : ((w.store.fetch n).settle settleFuel).1.port = s.store.port :=
      (settle_port _ _).trans ((fetch_port _ _).trans hl.port)
    exact congrArg Prod.fst hport
  · obtain ⟨v, hv, horders, hreads, hnone, hline⟩ := next_begins hl.rest (hl.length.trans hlen) ((hl.find n).trans hf)
      (hl.ways (by rw [hi]; exact hset) ⟨hfree, hway⟩)
    rw [State.setStore_store, hv]
    exact ⟨horders, hreads, hnone, hline⟩
  · rw [State.setStore_store]
    refine hl.stands (fun e => hset (by rw [e])) (by rw [hi]; exact hset)

end

end Sys2Proof.Machine
end

section
/-! SUPPORT. The calibration blocks of the start-up load, and the image at their end. For O52. -/
namespace Sys2Proof.Machine
set_option Elab.async false

section
variable {s : State} {b i : Nat}

/-- The bytes that the read of block `b` gives. -/
def State.readBytes (s : State) (b : Nat) : List Byte := (List.range 15).map fun j => s.store.nv.read (16 * b + j)

/-- Whether block `b`'s check is good. -/
def State.ReadGood (s : State) (b : Nat) : Prop := byteSum ((List.range 16).map fun j => s.store.nv.read (16 * b + j)) = 0

theorem readGood_iff (s : State) (b : Nat) : (!checkGood (s.store.nv.block b)) = false ↔ s.ReadGood b := by
  rw [Bool.not_eq_false', checkGood_iff]
  exact Iff.rfl

/-- The load with the block's bytes taken. -/
def State.calibrated (s : State) (b i : Nat) : State :=
  (s.loadTaken b i).loadCalibration (s.readBytes b) (!checkGood (s.store.nv.block b))

theorem calibrated_kept (s : State) (b i : Nat) : KeptBut [.ignition, .store] s (s.calibrated b i) :=
  (setStore_kept s _).andThen (loadCalibration_kept _ _ _)

theorem calibrated_ignition (s : State) (b i : Nat) : (s.calibrated b i).ignition = { s.ignition with
    load := { s.ignition.load with
      bytes := s.ignition.load.bytes ++ s.readBytes b, bad := s.ignition.load.bad || !checkGood (s.store.nv.block b) } } := rfl

theorem calibrated_loaded (h : s.LoadFills b i) : s.store.Loaded b i (s.readBytes b) (s.calibrated b i).store := loadTaken_loaded h

theorem calibration_steps (h : s.LoadFills b i) (hlow : 7 ≤ b) (hhigh : b < 63) :
    ∃ t, s.LoadSteps b i (b + 1) (s.readBytes b) (s.calibrated b i) t := by
  refine loadSteps_of h ((calibrated_kept s b i).mono (by decide)) h.load (calibrated_loaded h) ?_
  rw [loadFill_awaited (w := s.loadTaken b i) h.awaits, if_neg (by omega), if_pos hlow]
  rfl

theorem calibration_taken (h : s.LoadFills b i) (hlow : 7 ≤ b) (hhigh : b < 63) :
    ∃ t, exec .blockReadEnd s = .next t ∧ KeptBut [.ignition, .store] s t ∧ t.store.nv = s.store.nv ∧ s.ReadsNext b i (b + 1) t ∧
      (s.ReadGood b → t.ignition = { s.ignition with
        load := { s.ignition.load with awaits := b + 1, bytes := s.ignition.load.bytes ++ s.readBytes b } }) ∧
      (¬s.ReadGood b → t.ignition = { s.ignition with
        load := { s.ignition.load with awaits := b + 1, bytes := s.ignition.load.bytes ++ s.readBytes b, bad := true } }) := by
  obtain ⟨t, ht⟩ := calibration_steps h hlow hhigh
  refine ⟨t, ht.exec, (calibrated_kept s b i).trans (ht.kept.mono (by decide)), ht.nv, ht.next (by omega), fun hg => ?_, fun hg => ?_⟩
  · rw [ht.ignition]
    unfold State.loadAwaits
    rw [calibrated_ignition, (readGood_iff s b).mpr hg, Bool.or_false]
    rfl
  · rw [ht.ignition]
    unfold State.loadAwaits
    rw [calibrated_ignition, Bool.eq_true_of_not_eq_false fun k => hg ((readGood_iff s b).mp k), Bool.or_true]
    rfl

/-! ### The image -/

/-- The image is kept. -/
def State.ImageKept (s : State) (b : Nat) : Prop :=
  s.ignition.load.bad = false ∧ s.ReadGood b ∧ ∀ m < 7, CurveInOrder (s.ignition.load.bytes ++ s.readBytes b) (86 + 36 * m)

theorem calibrated_keeps_iff (s : State) (b i : Nat) :
    imageFails (s.calibrated b i).ignition.load.bytes (s.calibrated b i).ignition.load.bad = false ↔ s.ImageKept b := by
  rw [calibrated_ignition, imageFails_iff, Bool.or_eq_false_iff, readGood_iff, and_assoc]
  exact Iff.rfl

theorem checkImage_ign (w : State) : w.checkImage.ign = w.ign := by
  unfold State.checkImage
  dsimp only
  split <;> rfl

theorem image_steps (h : s.LoadFills 63 i) :
    ∃ t, s.LoadSteps 63 i 0 (s.readBytes 63) (s.calibrated 63 i).checkImage t := by
  have hkept : KeptBut [.ignition, .store] s (s.calibrated 63 i).checkImage :=
    (calibrated_kept s 63 i).trans ((checkImage_kept _).mono (by decide))
  refine loadSteps_of h (hkept.mono (by decide)) ((checkImage_ign _).trans h.load) ?_ ?_
  · rw [(checkImage_kept (s.calibrated 63 i)).store]
    exact calibrated_loaded h
  · rw [loadFill_awaited (w := s.loadTaken 63 i) h.awaits, if_pos (by decide)]
    rfl

/-- What stands of the image at the end of its last block. -/
def State.ImageTaken (s : State) (t : State) : Prop :=
  let image := s.ignition.load.bytes ++ s.readBytes 63
  let station := byteAt image 0 % 16
  let divisor := byteAt image 1
  (¬s.ImageKept 63 → t.ignition.calDefault = true ∧ t.ignition.load.image.IsDefault ∧
    t.ignition.clampCount = s.ignition.clampCount) ∧
  (s.ImageKept 63 → t.ignition.calDefault = s.ignition.calDefault ∧ t.ignition.load.image.IsAt image ∧
    t.ignition.load.image.station = (if station = 0 ∨ station = 15 then 2 else station) ∧
    t.ignition.load.image.divisor = (if divisor < 10 then 10 else if 160 < divisor then 160 else divisor) ∧
    t.ignition.load.image.fixedLimits = (List.range 4).map (fun e => max 1 (byteAt image (6 + e))) ∧
    t.ignition.clampCount = s.ignition.clampCount + (if station = 0 ∨ station = 15 then 1 else 0) +
      (if divisor < 10 ∨ 160 < divisor then 1 else 0))

theorem image_taken (h : s.LoadFills 63 i) : ∃ t, exec .blockReadEnd s = .next t ∧ KeptBut [.ignition, .store] s t ∧
    t.ign = .load ∧ t.ignition.load.awaits = 0 ∧ s.ReadsNext 63 i 0 t ∧ s.ImageTaken t := by
  obtain ⟨t, ht⟩ := image_steps h
  have hign : t.ign = .load := (congrArg Ignition.state ht.ignition).trans ((checkImage_ign _).trans h.load)
  refine ⟨t, ht.exec, (calibrated_kept s 63 i).trans (((checkImage_kept _).mono (by decide)).trans (ht.kept.mono (by decide))), hign,
    congrArg (fun g => g.load.awaits) ht.ignition, ht.next (by decide), fun hno => ?_, fun hyes => ?_⟩
  · have hfails := Bool.eq_true_of_not_eq_false fun k => hno ((calibrated_keeps_iff s 63 i).mp k)
    rw [ht.ignition, checkImage_fails hfails]
    exact ⟨rfl, builtInDefaults_isDefault, rfl⟩
  · rw [ht.ignition, checkImage_keeps ((calibrated_keeps_iff s 63 i).mpr hyes)]
    refine ⟨rfl, readImage_isAt _, clampStation_eq _, clampDivisor_eq _, rfl, ?_⟩
    rw [Nat.add_assoc, ← clampsOf_eq]
    rfl

end

end Sys2Proof.Machine
end

section
/-! SUPPORT. The records of the start-up load: block 0, the trip records and the service blocks. For O52. -/
namespace Sys2Proof.Machine
set_option Elab.async false

section
variable {s : State} {b i : Nat}

/-- The figures of item `j` in the image that the load has taken. -/
def State.loadedFigures (s : State) (j : Nat) : ItemFigures := s.ignition.load.image.items.getD j (s.itemFigures j)

/-- The bytes that stand in block `b`'s line once its record is loaded. -/
def State.recordData (s : State) (b : Nat) : List Byte :=
  if b = 0 then
    if odometerStored (s.readBytes b) (!checkGood (s.store.nv.block b)) then s.readBytes b else putOdometerState 0 1 (s.readBytes b)
  else if checkGood (s.store.nv.block b) then s.readBytes b
  else if b ≤ 2 then zeroRecord 0 s.freeIndex
  else replaceService (s.loadedFigures (2 * (b - 3))) (s.loadedFigures (2 * (b - 3) + 1)) s.store.odometerValue b (s.readBytes b)

/-- The part with block `b`'s record loaded. -/
def State.recorded (s : State) (b i : Nat) : State :=
  (s.loadTaken b i).loadRecord b (s.readBytes b) (!checkGood (s.store.nv.block b))

theorem recorded_kept (s : State) (b i : Nat) : KeptBut [.store, .freeIndex] s (s.recorded b i) :=
  ((setStore_kept s _).mono (by decide)).trans (loadRecord_kept _ _ _ _)

theorem recorded_zero (s : State) (i : Nat) : KeptBut [.store] s (s.recorded 0 i) := by
  have htaken : KeptBut [.store] s (s.loadTaken 0 i) := setStore_kept s _
  refine htaken.trans ?_
  unfold State.recorded State.loadRecord
  dsimp only
  rw [if_pos rfl]
  exact .ite (.refl _ _) (update_kept _ _ _)

theorem recorded_loaded (h : s.LoadFills b i) : s.store.Loaded b i (s.recordData b) (s.recorded b i).store := by
  have hl := loadTaken_loaded h
  have hodometer (hb : b ≠ 0) : (s.loadTaken b i).store.odometerValue = s.store.odometerValue :=
    congrArg (tripleAt · 0) (hl.reads 0 (Ne.symm hb)).2
  unfold State.recorded State.loadRecord State.recordData
  dsimp only
  split
  · next hb =>
    subst hb
    split
    · exact hl
    · exact hl.update _
  · next hb =>
    cases hgood : checkGood (s.store.nv.block b) with
    | true => exact hl
    | false =>
      simp only [Bool.not_false, Bool.not_true, Bool.false_eq_true, if_false, hodometer hb]
      by_cases hb2 : b ≤ 2
      · rw [if_pos hb2, if_pos hb2]
        exact hl.update fun _ => zeroRecord 0 (s.loadTaken b i).freeIndex
      · rw [if_neg hb2, if_neg hb2]
        exact hl.update (replaceService (s.loadedFigures (2 * (b - 3))) (s.loadedFigures (2 * (b - 3) + 1)) s.store.odometerValue b)

theorem record_steps (h : s.LoadFills b i) (hb : b < 6) : ∃ t, s.LoadSteps b i (b + 1) (s.recordData b) (s.recorded b i) t := by
  refine loadSteps_of h ((recorded_kept s b i).mono (by decide)) (((recorded_kept s b i).ign).trans h.load) (recorded_loaded h) ?_
  rw [loadFill_awaited (w := s.loadTaken b i) h.awaits, if_neg (by omega), if_neg (by omega), if_pos hb]
  rfl

theorem LoadSteps.loading {n : Nat} {d : List Byte} {t : State} (h : s.LoadFills b i) (ht : s.LoadSteps b i n d (s.recorded b i) t) :
    t.ign = .load ∧ t.ignition.load.awaits = n := by
  refine ⟨(congrArg Ignition.state ht.ignition).trans (((recorded_kept s b i).ign).trans h.load), ?_⟩
  rw [ht.ignition]
  rfl

/-! ### Block 0 -/

theorem odometerStored_iff (s : State) : odometerStored (s.readBytes 0) (!checkGood (s.store.nv.block 0)) = true ↔
    s.ReadGood 0 ∧ tripleAt (s.readBytes 0) 0 ≤ 9999999 ∧ byteAt (s.readBytes 0) 3 ≤ 1 := by
  unfold odometerStored
  rw [Bool.not_not, Bool.and_eq_true, Bool.and_eq_true, checkGood_iff, decide_eq_true_eq, decide_eq_true_eq, and_assoc]
  exact Iff.rfl

theorem putOdometerState_suspect (bs : List Byte) :
    tripleAt (putOdometerState 0 1 bs) 0 = 0 ∧ byteAt (putOdometerState 0 1 bs) 3 = 1 :=
  ⟨(tripleAt_append 0 _).trans (tripleAt_bytes3 (by decide)), rfl⟩

theorem odometer_of_line {st : Store} {d : List Byte} (h : st.presentLine 0 = some i) (hd : st.dataOf 0 = d) :
    st.odometer = some (tripleAt d 0, byteAt d 3 == 0) := by
  unfold Store.odometer Store.present
  rw [h, hd]
  rfl

theorem odometer_loaded (h : s.LoadFills 0 i) (hi : i < 2) : ∃ t, exec .blockReadEnd s = .next t ∧
    KeptBut [.ignition, .store] s t ∧ t.ign = .load ∧ t.ignition.load.awaits = 1 ∧ s.ReadsNext 0 i 1 t ∧
    (t.store.line i).pinned = true ∧
    (s.ReadGood 0 ∧ tripleAt (s.readBytes 0) 0 ≤ 9999999 ∧ byteAt (s.readBytes 0) 3 ≤ 1 →
      t.store.odometer = some (tripleAt (s.readBytes 0) 0, byteAt (s.readBytes 0) 3 == 0)) ∧
    (¬(s.ReadGood 0 ∧ tripleAt (s.readBytes 0) 0 ≤ 9999999 ∧ byteAt (s.readBytes 0) 3 ≤ 1) →
      t.store.odometer = some (0, false)) := by
  obtain ⟨t, ht⟩ := record_steps h (by decide)
  obtain ⟨hign, hawaits⟩ := LoadSteps.loading h ht
  obtain ⟨hline, hdata, hpinned⟩ := ht.stands (by omega) (by decide)
  refine ⟨t, ht.exec, ((recorded_zero s i).mono (by decide)).trans (ht.kept.mono (by decide)), hign, hawaits, ht.next (by decide), ?_,
    fun hgood => ?_, fun hbad => ?_⟩
  · rw [hpinned]
    exact Bool.or_true _
  · rw [odometer_of_line hline hdata, State.recordData, if_pos rfl, if_pos ((odometerStored_iff s).mpr hgood)]
  · rw [odometer_of_line hline hdata, State.recordData, if_pos rfl, if_neg fun k => hbad ((odometerStored_iff s).mp k)]
    obtain ⟨hvalue, hstate⟩ := putOdometerState_suspect (s.readBytes 0)
    rw [hvalue, hstate]
    rfl

/-! ### The trip records and the service blocks -/

theorem recordData_good (hb : b ≠ 0) (h : s.ReadGood b) : s.recordData b = s.readBytes b := by
  unfold State.recordData
  rw [if_neg hb, if_pos ((checkGood_iff _ _).mpr h)]

theorem readBad (h : ¬s.ReadGood b) : checkGood (s.store.nv.block b) = false := Bool.eq_false_iff.mpr fun k => h ((checkGood_iff _ _).mp k)

theorem zeroRecord_view (k : Nat) : viewOfBlock (zeroRecord 0 k) =
    { distance := 0, fuel := 0, time := 0, generation := 0, economy := .none, average := .none } := by
  unfold zeroRecord
  generalize Result.storedValue k .none = x
  generalize Result.storedValue (k + 1) .none = y
  simp [viewOfBlock, tripleAt, wordAt, byteAt, bytes2, byteOf, storedResult, List.replicate]

theorem recordData_trip (hb : b ≠ 0) (hb2 : b ≤ 2) (h : ¬s.ReadGood b) : viewOfBlock (s.recordData b) =
    { distance := 0, fuel := 0, time := 0, generation := 0, economy := .none, average := .none } := by
  unfold State.recordData
  rw [if_neg hb, readBad h, if_neg (by decide), if_pos hb2]
  exact zeroRecord_view _

theorem recordData_service (hb : 3 ≤ b) (h : ¬s.ReadGood b) : s.recordData b =
    replaceService (s.loadedFigures (2 * (b - 3))) (s.loadedFigures (2 * (b - 3) + 1)) s.store.odometerValue b (s.readBytes b) := by
  unfold State.recordData
  rw [if_neg (by omega), readBad h, if_neg (by decide), if_neg (by omega)]

theorem readBytes_length (s : State) (b : Nat) : (s.readBytes b).length = 15 := by simp [State.readBytes]

/-- A replaced service block gives each of its items its intervals, whatever those of the other. -/
theorem replaced_fields {j : Nat} {f : ItemFigures} (hb : 3 ≤ b) (h : ¬s.ReadGood b) (hj : itemBlock j = b)
    (hf : s.ignition.load.image.items[j]? = some f) (hkm : f.distanceInterval ≤ 32000) (hdays : f.dayInterval ≤ 32000) :
    FieldsAt (s.recordData b) (itemOffset j) f.distanceInterval f.dayInterval s.store.odometerValue := by
  have hfigures : s.loadedFigures j = f := by
    unfold State.loadedFigures
    rw [List.getD_eq_getElem?_getD, hf]
    rfl
  have hodometer : s.store.odometerValue < 16777216 := tripleAt_lt _ _
  have hl := readBytes_length s b
  obtain ⟨h1, h2⟩ := itemBlock_first hb
  rw [recordData_service hb h]
  have hfirst : (resetField (s.loadedFigures (2 * (b - 3))) s.store.odometerValue (2 * (b - 3)) (s.readBytes b)).length = 15 :=
    resetField_length hl
  rcases items_of_block hj with rfl | rfl
  · rw [hfigures] at hfirst ⊢
    exact (resetField_fields hl hkm hdays hodometer).of_outside (resetField_outside hfirst)
      (itemOffset_apart (h1.trans h2.symm) (by omega))
  · rw [hfigures]
    exact resetField_fields hfirst hkm hdays hodometer

/-- The items of a replaced block, as the statement reads them; `counted` says that no held day lowers a count of days. -/
def State.Replaced (s : State) (b : Nat) (t : State) : Prop :=
  ∀ j f, itemBlock j = b → s.ignition.load.image.items[j]? = some f → f.distanceInterval ≤ 32000 →
    f.dayInterval ≤ 32000 → t.store.remainingKm j = f.distanceInterval ∧
      (s.counting.heldDays = 0 ∨ b < 6 → t.store.remainingDays j = f.dayInterval) ∧
      tripleAt (t.store.dataOf b) (itemOffset j + 4) = s.store.odometerValue

theorem record_loaded (h : s.LoadFills b i) (hlow : 1 ≤ b) (hhigh : b ≤ 5) (hi : i / 2 = b % 4) :
    ∃ t, exec .blockReadEnd s = .next t ∧ KeptBut [.ignition, .store, .freeIndex] s t ∧ t.ign = .load ∧
      t.ignition.load.awaits = b + 1 ∧ s.ReadsNext b i (b + 1) t ∧ (s.ReadGood b → t.store.dataOf b = s.readBytes b) ∧
      (b ≤ 2 → (t.store.line i).pinned = true) ∧ (3 ≤ b → (t.store.line i).pinned = (s.store.line i).pinned) ∧
      (¬s.ReadGood b → 3 ≤ b → s.Replaced b t) ∧
      (¬s.ReadGood b → b ≤ 2 → viewOfBlock (t.store.dataOf b) =
        { distance := 0, fuel := 0, time := 0, generation := 0, economy := .none, average := .none }) := by
  obtain ⟨t, ht⟩ := record_steps h (by omega)
  obtain ⟨hign, hawaits⟩ := LoadSteps.loading h ht
  obtain ⟨hline, hdata, hpinned⟩ := ht.stands hi (by omega)
  refine ⟨t, ht.exec, ((recorded_kept s b i).mono (by decide)).trans (ht.kept.mono (by decide)), hign, hawaits, ht.next (by omega),
    fun hg => ?_, fun hb => ?_, fun hb => ?_, fun hbad hb j f hj hf hkm hdays => ?_, fun hbad hb => ?_⟩
  · rw [hdata]; exact recordData_good (by omega) hg
  · rw [hpinned, show systemBlock b = true from decide_eq_true hb, Bool.or_true]
  · rw [hpinned, show systemBlock b = false from decide_eq_false (by omega), Bool.or_false]
  · have hfields := replaced_fields hb hbad hj hf hkm hdays
    rw [← hdata, ← hj] at hfields
    exact ⟨hfields.km, fun _ => hfields.days, hj ▸ hfields.odometer⟩
  · rw [hdata]; exact recordData_trip (by omega) hb hbad

end

end Sys2Proof.Machine
end

section
/-! SUPPORT. The topic entries at the end of the start-up load: the fixed entries' limits and the definitions' entries. For O52. -/
namespace Sys2Proof.Machine
set_option Elab.async false

/-- What the entry of a definition is to be used for: nothing, where the definition is not in use, is of a wrong length, or
repeats the topic of a used entry before it. -/
def EntryDefinition.UsedAfter (d : EntryDefinition) (es : List Entry) (n : Nat) : Prop :=
  d.defined = true ∧ 1 ≤ d.length ∧ d.length ≤ 8 ∧
    ∀ e < n, ¬((es.getD e .blank).used = true ∧ (es.getD e .blank).topic = d.topic)

/-- The entry of a definition. -/
def EntryDefinition.entry (d : EntryDefinition) (used : Bool) : Entry :=
  { Entry.blank with topic := d.topic, length := d.length, limit := max 1 d.limit, used := used }

/-- Whether a definition is taken into use after the entries `es`. -/
def EntryDefinition.taken (d : EntryDefinition) (es : List Entry) : Bool :=
  d.defined && decide (1 ≤ d.length) && decide (d.length ≤ 8) && !es.any fun e => e.used && e.topic == d.topic

theorem takeDefinition_eq (es : List Entry) (d : EntryDefinition) : takeDefinition es d = es ++ [d.entry (d.taken es)] := rfl

theorem taken_iff (es : List Entry) (d : EntryDefinition) : d.taken es = true ↔ d.UsedAfter es es.length := by
  unfold EntryDefinition.taken EntryDefinition.UsedAfter
  rw [Bool.and_eq_true, Bool.and_eq_true, Bool.and_eq_true, decide_eq_true_eq, decide_eq_true_eq, and_assoc, and_assoc]
  refine and_congr_right fun _ => and_congr_right fun _ => and_congr_right fun _ => ?_
  rw [Bool.not_eq_true', List.any_eq_false]
  constructor
  · intro h e he
    rw [List.getD_eq_getElem _ _ he]
    simpa using h es[e] (List.getElem_mem he)
  · intro h x hx
    obtain ⟨e, he, rfl⟩ := List.mem_iff_getElem.mp hx
    have := h e he
    rw [List.getD_eq_getElem _ _ he] at this
    simpa using this

theorem UsedAfter.congr {d : EntryDefinition} {es es' : List Entry} {n : Nat} (h : ∀ e < n, es'.getD e .blank = es.getD e .blank) :
    d.UsedAfter es' n ↔ d.UsedAfter es n := by
  unfold EntryDefinition.UsedAfter
  refine and_congr_right fun _ => and_congr_right fun _ => and_congr_right fun _ => forall_congr' fun e => forall_congr' fun he => ?_
  rw [h e he]

/-- The definitions' entries follow those before them, which stay. -/
theorem takeDefinitions_earlier (ds : List EntryDefinition) : ∀ (es : List Entry) {e : Nat}, e < es.length →
    (ds.foldl takeDefinition es).getD e .blank = es.getD e .blank := by
  induction ds with
  | nil => exact fun _ _ _ => rfl
  | cons d ds ih =>
    intro es e he
    rw [List.foldl_cons, takeDefinition_eq, ih _ (by rw [List.length_append]; omega)]
    rw [List.getD_eq_getElem?_getD, List.getD_eq_getElem?_getD, List.getElem?_append_left he]

theorem takeDefinitions_entry (ds : List EntryDefinition) : ∀ (es : List Entry) {k : Nat} {d : EntryDefinition}, ds[k]? = some d →
    ∃ used, (ds.foldl takeDefinition es).getD (es.length + k) .blank = d.entry used ∧
      (used = true ↔ d.UsedAfter (ds.foldl takeDefinition es) (es.length + k)) := by
  induction ds with
  | nil => exact fun _ _ _ h => by cases h
  | cons x ds ih =>
    intro es k d h
    rw [List.foldl_cons]
    cases k with
    | zero =>
      cases h
      refine ⟨x.taken es, ?_, (taken_iff es x).trans (UsedAfter.congr fun e he => ?_).symm⟩
      · rw [takeDefinition_eq, takeDefinitions_earlier _ _ (by simp)]
        simp
      · rw [takeDefinition_eq, takeDefinitions_earlier _ _ (by rw [List.length_append]; omega)]
        rw [List.getD_eq_getElem?_getD, List.getD_eq_getElem?_getD, List.getElem?_append_left he]
    | succ k =>
      have := ih (takeDefinition es x) h
      rw [takeDefinition_eq, List.length_append, List.length_singleton, show es.length + 1 + k = es.length + (k + 1) by omega] at this
      exact this

/-- The entries that the load defines, as the statement reads them. -/
def State.EntriesDefined (s t : State) : Prop :=
  (∀ e < 4, ∀ n, s.ignition.load.image.fixedLimits[e]? = some n → t.entry e = { s.entry e with limit := n }) ∧
    ∀ k d, s.ignition.load.image.entries[k]? = some d →
      t.entry (4 + k) = { Entry.blank with
        topic := d.topic, length := d.length, limit := max 1 d.limit, used := (t.entry (4 + k)).used } ∧
      ((t.entry (4 + k)).used = true ↔ d.defined = true ∧ 1 ≤ d.length ∧ d.length ≤ 8 ∧
        ∀ e < 4 + k, ¬((t.entry e).used = true ∧ (t.entry e).topic = d.topic))

/-- The fixed entries with the limits of the image. -/
def State.fixedEntries (s : State) : List Entry :=
  (s.topics.entries.take 4).mapIdx fun i e => { e with limit := s.ignition.load.image.fixedLimits.getD i e.limit }

theorem imageTaken_entries (s : State) :
    s.imageTaken.topics.entries = s.ignition.load.image.entries.foldl takeDefinition s.fixedEntries := rfl

theorem fixedEntries_length {s : State} (h : s.topics.entries.length = 16) : s.fixedEntries.length = 4 := by
  simp [State.fixedEntries, h]

theorem fixedEntries_entry {s : State} (h : s.topics.entries.length = 16) {e n : Nat} (he : e < 4)
    (hn : s.ignition.load.image.fixedLimits[e]? = some n) : s.fixedEntries.getD e .blank = { s.entry e with limit := n } := by
  have hlt : e < s.topics.entries.length := by omega
  unfold State.fixedEntries State.entry
  rw [List.getD_eq_getElem?_getD, List.getElem?_mapIdx, List.getElem?_take_of_lt he, List.getElem?_eq_getElem hlt,
    List.getD_eq_getElem _ _ hlt]
  simp [List.getD_eq_getElem?_getD, hn]

theorem entries_defined {s t : State} (h : s.topics.entries.length = 16)
    (ht : t.topics.entries = s.ignition.load.image.entries.foldl takeDefinition s.fixedEntries) : s.EntriesDefined t := by
  have hlength := fixedEntries_length h
  have hentry (e : Nat) : t.entry e = (s.ignition.load.image.entries.foldl takeDefinition s.fixedEntries).getD e .blank := by
    unfold State.entry
    rw [ht]
  refine ⟨fun e he n hn => ?_, fun k d hd => ?_⟩
  · rw [hentry, takeDefinitions_earlier _ _ (by omega)]
    exact fixedEntries_entry h he hn
  · obtain ⟨used, hget, hused⟩ := takeDefinitions_entry s.ignition.load.image.entries s.fixedEntries hd
    rw [hlength] at hget hused
    simp only [hentry, hget]
    exact ⟨rfl, hused⟩

end Sys2Proof.Machine
end

section
/-! SUPPORT. A block with unsaved bytes stands while the store makes its moves; SLEEP entry leaves every present block. For O52. -/
namespace Sys2Proof.Machine
set_option Elab.async false

section
variable {st : Store} {b i : Nat} {d : List Byte}

/-! ### Unsaved bytes -/

/-- The block stands with unsaved bytes: its line is DIRTY or being written, and no fetch asks for it. -/
structure Store.Unsaved (b i : Nat) (d : List Byte) (st : Store) : Prop where
  line : st.presentLine b = some i
  data : st.dataOf b = d
  unsaved : (st.line i).state = .dirty ∨ (st.line i).state = .writing
  unasked : ∀ x, .fetch b x ∉ st.waiting

theorem victim_eligible {set j : Nat} (h : st.victim set = some j) : st.eligible j = true := by
  unfold Store.victim at h
  dsimp only at h
  split at h
  · next hc => cases h; exact (Bool.and_eq_true_iff.mp hc).1
  split at h
  · next hc => cases h; exact (Bool.and_eq_true_iff.mp hc).1
  split at h
  · next hc => cases h; exact (Bool.and_eq_true_iff.mp hc).1
  split at h
  · next hc => cases h; exact hc
  · cases h

/-- A DIRTY victim is left to be written first. -/
theorem takeVictim_dirty {n j k old : Nat} (hs : (st.line j).state = .dirty) (ht : (st.line j).tag = some old) :
    st.takeVictim n j k =
      { st with orders := st.orders ++ [.single old false (some n)], waiting := st.waiting.set k (.fetch n true) } := by
  unfold Store.takeVictim
  rw [hs, ht]

/-- What leaves the lines and asks for nothing new leaves the unsaved block. -/
theorem Store.Unsaved.of_lines {st' : Store} (h : st.Unsaved b i d) (hl : st'.lines = st.lines)
    (hw : ∀ x, .fetch b x ∈ st'.waiting → ∃ y, Waiting.fetch b y ∈ st.waiting) : st'.Unsaved b i d where
  line := (presentLine_of_lines hl b).trans h.line
  data := (dataOf_of_lines hl b).trans h.data
  unsaved := by rw [line_of_lines hl]; exact h.unsaved
  unasked x hx := by
    obtain ⟨y, hy⟩ := hw x hx
    exact h.unasked y hy

theorem Store.Unsaved.tag (h : st.Unsaved b i d) : (st.line i).tag = some b := (line_of_find (presentLine_eq_some.mp h.line).1).1

theorem Store.Unsaved.takeVictim {n j k : Nat} {x : Bool} (h : st.Unsaved b i d) (hk : st.waiting[k]? = some (.fetch n x))
    (hj : st.victim (setOf n) = some j) : (st.takeVictim n j k).Unsaved b i d := by
  have hn : n ≠ b := fun e => h.unasked x (e ▸ List.mem_of_getElem? hk)
  have hlisted (old : Nat) : ({ st with
      orders := st.orders ++ [.single old false (some n)], waiting := st.waiting.set k (.fetch n true) } : Store).Unsaved b i d := by
    refine h.of_lines rfl fun y hy => ?_
    rcases List.mem_or_eq_of_mem_set hy with hy | hy
    · exact ⟨y, hy⟩
    · cases hy
      exact absurd rfl hn
  by_cases hji : j = i
  · subst hji
    have hdirty : (st.line j).state = .dirty := by
      refine h.unsaved.resolve_right fun hwriting => ?_
      have := (eligible_iff.mp (victim_eligible hj)).2
      rw [hwriting] at this
      simp at this
    rw [takeVictim_dirty hdirty h.tag]
    exact hlisted b
  · rcases takeVictim_cases st n j k with ⟨old, he⟩ | he <;> rw [he]
    · exact hlisted old
    · obtain ⟨hline, hsame⟩ := presentLine_modifyLine_other (f := fun l => { CacheLine.filling n with recent := l.recent }) h.line hji
        fun l hl => hn (Option.some.inj hl)
      refine ⟨hline, ?_, ?_, fun y hy => h.unasked y (List.mem_of_mem_eraseIdx hy)⟩
      · exact (dataOf_of_line hline).trans ((congrArg CacheLine.data hsame).trans ((dataOf_of_line h.line).symm.trans h.data))
      · exact (congrArg CacheLine.state hsame).symm ▸ h.unsaved

theorem Store.Unsaved.startWrite {j : Nat} (h : st.Unsaved b i d) (hj : (st.line j).state = .dirty) (serves : WriteFor) :
    (st.startWrite j serves).Unsaved b i d := by
  have hlt : j < st.lines.length := by
    by_contra hno
    unfold Store.line at hj
    rw [List.getD_eq_default _ _ (Nat.le_of_not_lt hno)] at hj
    cases hj
  have hreads := reads_modifyLine_at (f := fun l => { l with state := .writing, redirty := false }) hlt rfl (by rw [hj]; rfl)
    (by rw [hj]; rfl) b
  have hdata := dataOf_modifyLine_at (f := fun l => { l with state := .writing, redirty := false }) hlt rfl (by rw [hj]; rfl)
    (by rw [hj]; rfl) rfl b
  have hline : (st.startWrite j serves).line i = if j = i then { st.line i with state := .writing, redirty := false } else st.line i := by
    show (st.modifyLine j _).line i = _
    rw [modifyLine_line _ _ _ _ hlt]
  refine ⟨hreads.2.trans h.line, hdata.trans h.data, ?_, h.unasked⟩
  rw [hline]
  split
  · exact .inr rfl
  · exact h.unsaved

theorem Store.Unsaved.endOrder (h : st.Unsaved b i d) (k : Nat) : (st.endOrder k).Unsaved b i d := by
  unfold Store.endOrder
  dsimp only
  split
  · refine h.of_lines rfl fun x hx => ?_
    obtain ⟨w, hw, hx⟩ := List.mem_map.mp hx
    obtain ⟨y, rfl⟩ := victimWritten_fetch hx
    exact ⟨y, hw⟩
  · exact h.of_lines rfl fun x hx => ⟨x, hx⟩

theorem Store.Unsaved.admitOne {st' : Store} (h : st.Unsaved b i d) (ha : st.admitOne = some st') : st'.Unsaved b i d := by
  rcases admitOne_cases ha with ⟨n, j, k, x, hk, hj, rfl⟩ | ⟨k, o, hk, rfl⟩
  · exact h.takeVictim hk hj
  · exact h.of_lines rfl fun x hx => ⟨x, List.mem_of_mem_eraseIdx hx⟩

theorem Store.Unsaved.engineOne {st' : Store} (h : st.Unsaved b i d) (he : st.engineOne = some st') : st'.Unsaved b i d := by
  obtain ⟨-, k, o, hk, rfl⟩ := engineOne_cases he
  rcases startOrder_cases hk with ⟨op, e⟩ | ⟨j, serves, hj, e⟩ | ⟨j, x, p, rfl, hj, e⟩ | ⟨-, -, e⟩ <;> rw [e]
  · exact h.of_lines rfl fun x hx => ⟨x, hx⟩
  · exact h.startWrite hj serves
  · exact (h.of_lines (st' := { st with orders := st.orders.set k (.walk x j) }) rfl fun x hx => ⟨x, hx⟩).startWrite hj .walk
  · exact h.endOrder k

theorem settle_unsaved (fuel : Nat) (ht : st.task.passive = true) (h : st.Unsaved b i d) : (st.settle fuel).1.Unsaved b i d :=
  (settle_keeps (P := fun st => st.Unsaved b i d) (fun _ _ hP ha => hP.admitOne ha) (fun _ _ hP _ he => hP.engineOne he) fuel ht h).2

/-! ### SLEEP entry -/

theorem sleep_line (st : Store) (j : Nat) : st.sleep.line j =
    if (st.line j).state = .filling then { CacheLine.invalid with recent := (st.line j).recent } else st.line j := line_unfill st j

/-- SLEEP entry leaves a present block in its line. -/
theorem sleep_presentLine (h : st.presentLine b = some i) : st.sleep.presentLine b = some i ∧ st.sleep.line i = st.line i := by
  obtain ⟨hfind, hpresent⟩ := presentLine_eq_some.mp h
  have hline : st.sleep.line i = st.line i := by
    rw [sleep_line, if_neg]
    intro hs
    rw [hs] at hpresent
    cases hpresent
  refine ⟨presentLine_eq_some.mpr ⟨?_, by rw [hline]; exact hpresent⟩, hline⟩
  unfold Store.find at hfind ⊢
  obtain ⟨hlt, hat, hbefore⟩ := List.findIdx?_eq_some_iff_getElem.mp hfind
  have hget (j : Nat) (hj : j < st.lines.length) : st.line j = st.lines[j] := List.getD_eq_getElem _ _ hj
  have hlength : st.sleep.lines.length = st.lines.length := List.length_map _
  have hslept (j : Nat) (hj : j < st.lines.length) : st.sleep.lines[j]'(hlength.symm ▸ hj) = st.sleep.line j :=
    (List.getD_eq_getElem _ _ _).symm
  refine List.findIdx?_eq_some_iff_getElem.mpr ⟨hlength.symm ▸ hlt, ?_, fun k hk => ?_⟩
  · rw [hslept i hlt, hline, hget i hlt]
    exact hat
  · rw [hslept k (by omega), sleep_line]
    split
    · unfold CacheLine.holds CacheLine.invalid
      simp
    · rw [hget k (by omega)]
      exact hbefore k hk

theorem sleep_dataOf (h : st.presentLine b = some i) : st.sleep.dataOf b = st.dataOf b := by
  obtain ⟨hslept, hline⟩ := sleep_presentLine h
  rw [dataOf_of_line hslept, dataOf_of_line h, hline]

/-- Without an operation in flight there is no write to abandon. -/
theorem abandonWrite_none (h : st.op = none) (k : Nat) : st.abandonWrite k = st := by
  unfold Store.abandonWrite
  rw [h]

end

end Sys2Proof.Machine
end

section
/-! SUPPORT. The held days at the end of the start-up load: the counts they lower, the items' states they form. For O52. -/
namespace Sys2Proof.Machine
set_option Elab.async false

/-! ### What a countdown leaves of a service block -/

theorem lowerField_odometer {bs : List Byte} (h : bs.length = 15) (i j n : Nat) (km : Bool) :
    tripleAt (lowerField (remainingOffset i km) n bs) (itemOffset j + 4) = tripleAt bs (itemOffset j + 4) := by
  have hle := remainingOffset_le i km
  unfold lowerField
  refine tripleAt_splice_apart ?_ (by omega)
  rw [signedBytes2_length]
  unfold remainingOffset itemOffset
  cases km <;> simp <;> omega

section
variable {s v w : State} {i j : Nat}

theorem countItem_odometer (hh : s.store.Holds (itemBlock j)) (km : Bool) (i : Nat) :
    tripleAt ((State.countItem km s i).store.dataOf (itemBlock j)) (itemOffset j + 4) =
      tripleAt (s.store.dataOf (itemBlock j)) (itemOffset j + 4) := by
  cases hc : s.counted km i with
  | false => rw [countItem_uncounted hc]
  | true =>
    cases hp : s.store.present (itemBlock i) with
    | true =>
      rw [countItem_present hc hp]
      show tripleAt ((s.store.update (itemBlock i) _).dataOf (itemBlock j)) _ = _
      by_cases hb : itemBlock j = itemBlock i
      · rw [hb, dataOf_update_same _ hp, lowerField_odometer (hb ▸ hh.2)]
      · rw [dataOf_update_ne _ hb]
    | false =>
      rw [countItem_absent hc hp]
      cases hm : (s.modifyItem i (ServiceItem.pend km)).service.mark (itemBlock i) with
      | true => rw [fetchService_marked hm]; rfl
      | false =>
        rw [fetchService_unmarked hm]
        show tripleAt ((s.store.fetch (itemBlock i)).dataOf (itemBlock j)) _ = _
        rcases fetch_of_absent hp with h | h <;> rw [h]
        exact congrArg (tripleAt · _) (dataOf_of_lines rfl _)

theorem countItems_odometer (hj : j < 8) (hh : s.store.Holds (itemBlock j)) (km : Bool) :
    tripleAt ((s.countItems km).store.dataOf (itemBlock j)) (itemOffset j + 4) =
      tripleAt (s.store.dataOf (itemBlock j)) (itemOffset j + 4) := by
  have hfold := foldl_at (f := State.countItem km) (I := s.CountsOn) (j := j) (h := id)
    (g := fun u => tripleAt (u.store.dataOf (itemBlock j)) (itemOffset j + 4))
    (fun _ _ h hi => h.trans (countItem_on hi))
    (fun u i h _ => by
      show tripleAt _ _ = if i = j then tripleAt _ _ else tripleAt _ _
      rw [ite_self]
      exact countItem_odometer (h.holds _ hh) km i)
    (List.range 8) List.nodup_range range8_lt (.refl s)
  exact hfold.trans (if_pos (List.mem_range.mpr hj))

/-- What countdowns of days leave of the service blocks: the remaining kilometres and the odometer of each item's reset. -/
structure State.DaysPass (v w : State) : Prop where
  store : v.store.Counts ServiceBlock w.store
  holds : ∀ b, v.store.Holds b → w.store.Holds b
  km : ∀ j < 8, v.store.Holds (itemBlock j) → w.store.remainingKm j = v.store.remainingKm j
  odometer : ∀ j < 8, v.store.Holds (itemBlock j) →
    tripleAt (w.store.dataOf (itemBlock j)) (itemOffset j + 4) = tripleAt (v.store.dataOf (itemBlock j)) (itemOffset j + 4)

theorem State.DaysPass.refl (v : State) : v.DaysPass v := ⟨.refl, fun _ => id, fun _ _ _ => rfl, fun _ _ _ => rfl⟩

theorem State.DaysPass.trans {u : State} (h : u.DaysPass v) (k : v.DaysPass w) : u.DaysPass w where
  store := h.store.trans k.store
  holds b hb := k.holds b (h.holds b hb)
  km j hj hh := (k.km j hj (h.holds _ hh)).trans (h.km j hj hh)
  odometer j hj hh := (k.odometer j hj (h.holds _ hh)).trans (h.odometer j hj hh)

theorem countItems_store (v : State) (km : Bool) : (v.countdown km).store = (v.countItems km).store :=
  (formItems_kept (v.countItems km) (List.range 8)).store

theorem countdown_days (v : State) : v.DaysPass (v.countdown false) := by
  have hstore := countItems_store v false
  refine ⟨countdown_counts v false, fun b hb => ?_, fun j hj hh => ?_, fun j hj hh => ?_⟩ <;> rw [hstore]
  · exact (countItems_on v false).holds b hb
  · exact (countItems_remaining hj hh true).trans (if_neg fun h => by cases h.2)
  · exact countItems_odometer hj hh false

theorem deliverHeldDays_days (v : State) : v.DaysPass v.deliverHeldDays := by
  unfold State.deliverHeldDays
  have hstart : v.DaysPass (v.setCounting { v.counting with heldDays := 0 }) :=
    ⟨.refl, fun _ => id, fun _ _ _ => rfl, fun _ _ _ => rfl⟩
  exact foldl_const (P := fun u : State => v.DaysPass u) (fun u h => h.trans (countdown_days u)) _ hstart

/-! ### The items' states -/

/-- The state of item `j` as its block and the image give it, or `old` where the item is not active. -/
def State.itemFormed (w : State) (old : ItemState) (j : Nat) : ItemState :=
  if w.itemActive j then itemStateOf (w.itemFigures j) (w.store.remainingKm j) (w.store.remainingDays j) else old

/-- Every item's block is present, and its state is formed. -/
structure State.Formed (old : Nat → ItemState) (w : State) : Prop where
  items : w.service.items.length = 8
  present : ∀ j < 8, w.store.present (itemBlock j) = true
  state : ∀ j < 8, (w.item j).state = w.itemFormed (old j) j

theorem newItemState_present (hp : w.store.present (itemBlock j) = true) : w.newItemState j = w.itemFormed (w.item j).state j := by
  unfold State.newItemState State.itemFormed
  rw [hp, Bool.and_true]

theorem itemFormed_congr (hc : w.cal = v.cal) (hs : w.store = v.store) (x : ItemState) : w.itemFormed x j = v.itemFormed x j := by
  unfold State.itemFormed
  rw [itemActive_of_cal hc, itemFigures_of_cal hc, hs]

/-- Forming the items again takes nothing from the state that an item keeps while it is not active. -/
theorem itemFormed_again {x : ItemState} {u : State} (hc : w.cal = u.cal) : w.itemFormed (u.itemFormed x j) j = w.itemFormed x j := by
  unfold State.itemFormed
  rw [itemActive_of_cal hc]
  split
  · rfl
  · rfl

theorem serviceLoaded_items (v : State) : v.serviceLoaded.service.items = (v.formQuietly (List.range 8)).service.items := by
  unfold State.serviceLoaded
  generalize v.formQuietly (List.range 8) = u
  rfl

theorem serviceLoaded_formed (hl : v.service.items.length = 8) (hp : ∀ j < 8, v.store.present (itemBlock j) = true) :
    State.Formed (fun j => (v.item j).state) v.serviceLoaded := by
  have hkept := serviceLoaded_kept v
  refine ⟨(congrArg List.length (serviceLoaded_items v)).trans ((formQuietly_length v _).trans hl), fun j hj => ?_, fun j hj => ?_⟩
  · rw [hkept.store]; exact hp j hj
  · rw [item_of_items (serviceLoaded_items v), formQuietly_item _ _ _ (by omega), if_pos (List.mem_range.mpr hj), State.formedItem,
      newItemState_present (hp j hj)]
    exact (itemFormed_congr hkept.cal hkept.store _).symm

theorem State.Formed.countdown {old : Nat → ItemState} (h : w.Formed old) (km : Bool) : (w.countdown km).Formed old := by
  have hon := countItems_on w km
  have hkept := formItems_kept (w.countItems km) (List.range 8)
  have hstore := countItems_store w km
  have hpresent (j : Nat) (hj : j < 8) : (w.countItems km).store.present (itemBlock j) = true := by
    rw [hon.present]; exact h.present j hj
  have hlength : (w.countItems km).service.items.length = 8 := hon.items.trans h.items
  refine ⟨?_, fun j hj => by rw [hstore]; exact hpresent j hj, fun j hj => ?_⟩
  · rw [countdown_eq, formItems_service, formQuietly_length]
    exact hlength
  · have hsame : (w.countItems km).item j = w.item j := by
      rw [countItems_item hj h.items, if_neg]
      rw [h.present j hj]
      simp
    rw [countdown_eq, formItems_item _ (by omega), if_pos (List.mem_range.mpr hj), State.formedItem,
      newItemState_present (hpresent j hj), hsame, h.state j hj, itemFormed_again hon.kept.cal,
      itemFormed_congr hkept.cal hkept.store]

theorem State.Formed.deliverHeldDays {old : Nat → ItemState} (h : w.Formed old) : w.deliverHeldDays.Formed old := by
  unfold State.deliverHeldDays
  have hstart : (w.setCounting { w.counting with heldDays := 0 }).Formed old := ⟨h.items, h.present, h.state⟩
  exact foldl_const (P := fun u : State => u.Formed old) (fun u k => k.countdown false) _ hstart

/-- SLEEP entry leaves the items' states. -/
theorem sleep_item_state (v : Service) (j : Nat) : (v.sleep.items.getD j .fresh).state = (v.items.getD j .fresh).state := by
  unfold Service.sleep
  simp only [List.getD_eq_getElem?_getD, List.getElem?_map]
  cases v.items[j]? <;> rfl

end

end Sys2Proof.Machine
end

section
/-! SUPPORT. The change of state that ends the start-up load, SLEEP or an awake state, with the held days delivered. For O52. -/
namespace Sys2Proof.Machine
set_option Elab.async false

/-- The part that leaves LOAD, the held days not yet delivered: as it is on its way to SLEEP, and else in the state that the
inputs ask for, with its timers started. -/
def State.loadTurned (s : State) : State :=
  if s.ignition.asked = .sleep then s else (s.goTo s.ignition.asked).startTimers.enterAwake s.ignition.asked

/-- The same with the held days delivered. -/
def State.loadCounted (s : State) : State := s.loadTurned.deliverHeldDays

section
variable {s : State} {b i : Nat}

theorem asked_levels (x : Ignition) : x.asked = levelState x.run x.acc x.wake := by
  unfold Ignition.asked levelState Ignition.position
  cases x.run <;> cases x.acc <;> rfl

theorem loadTurned_sleep (h : s.ignition.asked = .sleep) : s.loadTurned = s := if_pos h

theorem loadTurned_awake (h : s.ignition.asked ≠ .sleep) :
    s.loadTurned = (s.goTo s.ignition.asked).startTimers.enterAwake s.ignition.asked := if_neg h

theorem loadLeft_asleep (h : s.ignition.asked = .sleep) : s.loadLeft = s.loadCounted.sleepEntry := by
  have hasked : s.deliverHeldDays.sleepEntry.ignition.asked = .sleep := by
    rw [sleepEntry_asked, (deliverHeldDays_kept s).ignition]
    exact h
  rw [loadLeft_of_sleep h, State.enterSleep, lookFromSleep_of_sleep hasked, State.loadCounted, loadTurned_sleep h]

theorem loadLeft_awake (h : s.ignition.asked ≠ .sleep) : s.loadLeft = s.loadCounted := by
  rw [loadLeft_of_ne h, State.loadCounted, loadTurned_awake h]

theorem loadTurned_kept (s : State) :
    KeptBut [.ignition, .keys, .line, .topics, .gauges, .rules, .sound, .arbiter, .handler, .counting] s s.loadTurned := by
  unfold State.loadTurned
  refine .ite (.refl _ _) ?_
  exact (((goTo_kept s _).mono (by decide)).trans ((startTimers_kept _).mono (by decide))).trans ((enterAwake_kept _ _).mono (by decide))

theorem loadTurned_heldDays (s : State) : s.loadTurned.counting.heldDays = s.counting.heldDays := by
  rcases eq_or_ne s.ignition.asked .sleep with h | h
  · rw [loadTurned_sleep h]
  · rw [loadTurned_awake h, enterAwake_counting, (startTimers_kept _).counting, (goTo_kept s _).counting]
    split <;> rfl

theorem loadTurned_entries (s : State) : s.loadTurned.topics.entries = s.topics.entries := by
  rcases eq_or_ne s.ignition.asked .sleep with h | h
  · rw [loadTurned_sleep h]
  · rw [loadTurned_awake h, (enterAwake_kept _ _).topics, startTimers_eq, (queueSummary_kept _).topics, timersStarted_topics,
      (goTo_kept s _).topics]

theorem loadCounted_kept (s : State) : KeptBut [.ignition, .keys, .line, .topics, .gauges, .rules, .sound, .arbiter, .handler,
    .counting, .service, .store] s s.loadCounted :=
  ((loadTurned_kept s).mono (by decide)).trans ((deliverHeldDays_kept _).mono (by decide))

theorem loadLeft_ign (s : State) : s.loadLeft.ign = levelState s.ignition.run s.ignition.acc s.ignition.wake := by
  rw [← asked_levels]
  rcases eq_or_ne s.ignition.asked .sleep with h | h
  · rw [loadLeft_asleep h, sleepEntry_ign, h]
  · rw [loadLeft_awake h, State.loadCounted, (deliverHeldDays_kept _).ign, loadTurned_awake h, (enterAwake_kept _ _).ign,
      (startTimers_kept _).ign]
    rfl

theorem loadLeft_heldDays (s : State) : s.loadLeft.counting.heldDays = 0 := by
  have hcounted : s.loadCounted.counting.heldDays = 0 := by
    rw [State.loadCounted, deliverHeldDays_counting]
  rcases eq_or_ne s.ignition.asked .sleep with h | h
  · rw [loadLeft_asleep h, (sleepEntry_blocks_eq _).1]
    unfold Counting.endSetting
    split <;> exact hcounted
  · rw [loadLeft_awake h]
    exact hcounted

theorem loadLeft_entries (s : State) : s.loadLeft.topics.entries = s.topics.entries := by
  have hcounted : s.loadCounted.topics.entries = s.topics.entries := by
    rw [State.loadCounted, (deliverHeldDays_kept _).topics, loadTurned_entries]
  rcases eq_or_ne s.ignition.asked .sleep with h | h
  · obtain ⟨-, -, -, -, htopics, -⟩ := sleepEntry_blocks_eq s.loadCounted
    rw [loadLeft_asleep h, htopics]
    exact hcounted
  · rw [loadLeft_awake h]
    exact hcounted

theorem loadLeft_selected (s : State) : s.loadLeft.service.selected = s.service.selected := by
  have hcounted : s.loadCounted.service.selected = s.service.selected := by
    rw [State.loadCounted, deliverHeldDays_selected, (loadTurned_kept s).service]
  rcases eq_or_ne s.ignition.asked .sleep with h | h
  · obtain ⟨-, -, -, -, -, -, -, hservice⟩ := sleepEntry_blocks_eq s.loadCounted
    rw [loadLeft_asleep h, hservice]
    exact hcounted
  · rw [loadLeft_awake h]
    exact hcounted

theorem loadLeft_item (s : State) (j : Nat) : (s.loadLeft.item j).state = (s.loadCounted.item j).state := by
  rcases eq_or_ne s.ignition.asked .sleep with h | h
  · obtain ⟨-, -, -, -, -, -, -, hservice⟩ := sleepEntry_blocks_eq s.loadCounted
    unfold State.item
    rw [loadLeft_asleep h, hservice]
    exact sleep_item_state _ j
  · rw [loadLeft_awake h]

/-! ### The store -/

theorem loadCounted_counts (s : State) : s.store.Counts ServiceBlock s.loadCounted.store := by
  have h := deliverHeldDays_counts s.loadTurned
  rw [(loadTurned_kept s).store] at h
  exact h

theorem loadLeft_store (h : s.store.AtRest) :
    (s.loadLeft.settleStore.store = s.loadCounted.store.sleep ∧ s.loadLeft.settleStore = s.loadLeft) ∨
      s.loadLeft.settleStore = s.loadCounted.setStore (s.loadCounted.store.settle settleFuel).1 := by
  obtain ⟨-, hop, -, htask⟩ := h
  have hkept := (loadCounted_counts s).kept
  rcases eq_or_ne s.ignition.asked .sleep with hasked | hasked
  · have hstore : s.loadLeft.store = s.loadCounted.store.sleep := by
      rw [loadLeft_asleep hasked, sleepEntry_store, abandonWrite_none (hkept.op.trans hop)]
    have hrest : s.loadLeft.store.AtRest := by
      rw [hstore]
      exact ⟨rfl, rfl, rfl, rfl⟩
    have hset := settleStore_settled (settled_atRest hrest)
    exact .inl ⟨by rw [hset, hstore], hset⟩
  · rw [loadLeft_awake hasked]
    exact .inr (settleStore_goesOn (by rw [hkept.task, htask]; rfl)).1

/-- A present block stands, if it has unsaved bytes or nothing waits for a line. -/
theorem loadLeft_data (h : s.store.AtRest) (hline : s.store.presentLine b = some i)
    (hsafe : (s.store.line i).state = .dirty ∨ s.loadCounted.store.waiting = []) :
    s.loadLeft.settleStore.store.dataOf b = s.loadCounted.store.dataOf b := by
  have hkept := (loadCounted_counts s).kept
  have hpresent : s.loadCounted.store.presentLine b = some i := (hkept.reads b).trans hline
  rcases loadLeft_store h with ⟨hstore, -⟩ | hstore
  · rw [hstore]
    exact sleep_dataOf hpresent
  · obtain ⟨ho, hop, hwaiting, htask⟩ := h
    have hpassive : s.loadCounted.store.task.passive = true := by rw [hkept.task, htask]; rfl
    rw [hstore, State.setStore_store]
    rcases hsafe with hdirty | hnone
    · refine (settle_unsaved settleFuel hpassive ⟨hpresent, rfl, .inl (hkept.dirty i hdirty), fun x hx => ?_⟩).data
      rcases hkept.waiting _ hx with hold | ⟨n, -, habsent, he⟩
      · rw [hwaiting] at hold
        cases hold
      · cases he
        unfold Store.present at habsent
        rw [hline] at habsent
        cases habsent
    · have hrest : s.loadCounted.store.AtRest := ⟨hkept.orders.trans ho, hkept.op.trans hop, hnone, hkept.task.trans htask⟩
      rw [settle_settled (settled_atRest hrest)]

end

end Sys2Proof.Machine
end

section
/-! SUPPORT. The last step of the start-up load, block by block: the image in use, the state, the store. For O52. -/
namespace Sys2Proof.Machine
set_option Elab.async false

/-- The part with the last record loaded, the image in use and the items' states formed: ready to leave LOAD. -/
def State.loadReady (s : State) (i : Nat) : State := (s.recorded 6 i).imageTaken.serviceLoaded

/-- What the step that ends LOAD leaves. -/
structure State.LoadEnds (s : State) (i : Nat) (t : State) : Prop where
  exec : exec .blockReadEnd s = .next t
  kept : KeptBut [.store, .line, .handler, .keys, .display] (s.loadReady i).loadLeft t
  store : t.store = (s.loadReady i).loadLeft.settleStore.store

section
variable {s t : State} {i : Nat}

theorem loadReady_kept (s : State) (i : Nat) : KeptBut [.store, .freeIndex, .cal, .topics, .arbiter, .service] s (s.loadReady i) :=
  (((recorded_kept s 6 i).mono (by decide)).trans ((imageTaken_kept _).mono (by decide))).trans
    ((serviceLoaded_kept _).mono (by decide))

theorem loadReady_store (s : State) (i : Nat) : (s.loadReady i).store = (s.recorded 6 i).store :=
  (serviceLoaded_kept _).store.trans (imageTaken_kept _).store

theorem loadReady_loaded (h : s.LoadFills 6 i) : s.store.Loaded 6 i (s.recordData 6) (s.loadReady i).store := by
  rw [loadReady_store]
  exact recorded_loaded h

theorem loadLeft_task (h : s.store.task = .none) : s.loadLeft.store.task = .none := by
  rcases eq_or_ne s.ignition.asked .sleep with hasked | hasked
  · rw [loadLeft_asleep hasked, sleepEntry_store]
    rfl
  · rw [loadLeft_awake hasked, (loadCounted_counts s).kept.task]
    exact h

theorem load_ends (h : s.LoadFills 6 i) : ∃ t, s.LoadEnds i t := by
  obtain ⟨-, -, -, htask⟩ := (loadReady_loaded h).rest
  have hfill : (s.loadTaken 6 i).loadFill 6 (s.readBytes 6) (!checkGood (s.store.nv.block 6)) = (s.loadReady i).loadLeft := by
    rw [loadFill_awaited (w := s.loadTaken 6 i) h.awaits, if_neg (by decide), if_neg (by decide), if_neg (by decide)]
    exact loadDone_eq _
  have hend : s.fillEnd 6 = (s.loadReady i).loadLeft.settleStore := by
    rw [fillEnd_load h]
    show (((s.loadTaken 6 i).loadFill 6 (s.readBytes 6) _).taskApplied 6).settleStore = _
    rw [hfill, taskApplied_none (loadLeft_task htask)]
  refine ⟨_, exec_loadFill h, ?_, ?_⟩ <;> rw [hend]
  · exact ((settleStore_kept _).mono (by decide)).trans ((present_kept _ _).mono (by decide))
  · exact State.present_store _ _

/-! ### The image, the ignition state, the rotation orders -/

theorem imageTaken_cal (v : State) : v.imageTaken.cal = v.ignition.load.image := by
  unfold State.imageTaken
  rw [(formOrders_kept _).cal, (takeDefinitions_kept _).cal]
  rfl

theorem loadReady_cal (s : State) (i : Nat) : (s.loadReady i).cal = s.ignition.load.image := by
  unfold State.loadReady
  rw [(serviceLoaded_kept _).cal, imageTaken_cal, (recorded_kept s 6 i).ignition]

theorem State.LoadEnds.cal (h : s.LoadEnds i t) : t.cal = s.ignition.load.image := by
  rw [h.kept.cal, (loadLeft_moves _).rings.cal, loadReady_cal]

theorem State.LoadEnds.ign (h : s.LoadEnds i t) : t.ign = levelState s.ignition.run s.ignition.acc s.ignition.wake := by
  rw [h.kept.ign, loadLeft_ign, (loadReady_kept s i).ignition]

theorem State.LoadEnds.heldDays (h : s.LoadEnds i t) : t.counting.heldDays = 0 := by
  rw [h.kept.counting, loadLeft_heldDays]

theorem imageTaken_once (v : State) : v.imageTaken.OrdersOnce :=
  ⟨List.nodup_range.filter _, List.nodup_range.filter _⟩

theorem State.LoadEnds.orders (h : s.LoadEnds i t) (hl : s.arbiter.warnings.length = 32) : t.OrdersComplete ∧ t.OrdersOnce := by
  have hrings : Rings (s.recorded 6 i).imageTaken t :=
    ((serviceLoaded_moves _).rings.trans (loadLeft_moves _).rings).trans (.of_kept h.kept)
  have hlength : (s.recorded 6 i).arbiter.warnings.length = 32 := by rw [(recorded_kept s 6 i).arbiter]; exact hl
  exact ⟨hrings.complete (imageTaken_complete hlength), hrings.once (imageTaken_once _)⟩

theorem State.LoadEnds.systemPinned (h : s.LoadEnds i t) (hs : s.store.SystemPinned) : t.store.SystemPinned :=
  (bounded_exec (by decide) s t h.exec).1.store.systemPinned hs

/-! ### The entries and the selected item -/

theorem State.LoadEnds.entries (h : s.LoadEnds i t) (hl : s.topics.entries.length = 16) : s.EntriesDefined t := by
  refine entries_defined hl ?_
  have hkept := recorded_kept s 6 i
  rw [h.kept.topics, loadLeft_entries, State.loadReady, (serviceLoaded_kept _).topics, imageTaken_entries, State.fixedEntries,
    hkept.ignition, hkept.topics]
  rfl

theorem activeItems_of_cal {v w : State} (h : w.cal = v.cal) : w.activeItems = v.activeItems := by
  have hactive : w.itemActive = v.itemActive := funext fun j => itemActive_of_cal h j
  unfold State.activeItems
  rw [hactive]

theorem serviceLoaded_selected (v : State) : v.serviceLoaded.service.selected = v.activeItems.head? := by
  rw [← activeItems_of_cal (formQuietly_kept v (List.range 8)).cal]
  unfold State.serviceLoaded
  generalize v.formQuietly (List.range 8) = u
  rfl

theorem State.LoadEnds.selected (h : s.LoadEnds i t) : t.service.selected = t.activeItems.head? := by
  have hcal : t.cal = (s.recorded 6 i).imageTaken.cal := by
    rw [h.cal, imageTaken_cal, (recorded_kept s 6 i).ignition]
  rw [h.kept.service, loadLeft_selected, State.loadReady, serviceLoaded_selected, activeItems_of_cal hcal]

/-- The first active item, if there is one. -/
theorem firstActive (v : State) :
    (∀ j < 8, v.itemActive j = true → (∀ k < j, v.itemActive k = false) → v.activeItems.head? = some j) ∧
      ((∀ j < 8, v.itemActive j = false) → v.activeItems.head? = none) := by
  unfold State.activeItems
  rw [List.head?_filter]
  refine ⟨fun j hj ha hbelow => List.find?_range_eq_some.mpr ⟨ha, by simpa using hj, fun k hk => by simp [hbelow k hk]⟩, fun hnone => ?_⟩
  exact List.find?_range_eq_none.mpr fun j hj => by simp [hnone j hj]

end

end Sys2Proof.Machine
end

section
/-! SUPPORT. The last step of the start-up load: its last record and the items' states. For O52. -/
namespace Sys2Proof.Machine
set_option Elab.async false

section
variable {s t : State} {b i : Nat}

/-! ### The last record -/

theorem loadReady_held (s : State) (i : Nat) : (s.loadReady i).counting.heldDays = s.counting.heldDays := by
  rw [(loadReady_kept s i).counting]

theorem loadCounted_quiet (h : s.counting.heldDays = 0) : KeptBut [.counting] s.loadTurned s.loadCounted := by
  unfold State.loadCounted
  rw [deliverHeldDays_quiet ((loadTurned_heldDays s).trans h)]
  exact setCounting_kept _ _

theorem loadCounted_store (h : s.counting.heldDays = 0) : s.loadCounted.store = s.store :=
  (loadCounted_quiet h).store.trans (loadTurned_kept s).store

theorem State.LoadEnds.dataOf_quiet (h : s.LoadFills 6 i) (ht : s.LoadEnds i t) (hq : s.counting.heldDays = 0) :
    t.store.dataOf 6 = s.recordData 6 := by
  have hl := loadReady_loaded h
  have hstore := loadCounted_store ((loadReady_held s i).trans hq)
  obtain ⟨-, -, hwaiting, -⟩ := hl.rest
  rw [ht.store, loadLeft_data hl.rest hl.line (.inr (by rw [hstore]; exact hwaiting)), hstore, hl.data]

/-- A bad record is replaced by an UPDATE, which leaves its line DIRTY. -/
theorem recorded_dirty (h : s.LoadFills 6 i) (hbad : ¬s.ReadGood 6) : ((s.recorded 6 i).store.line i).state = .dirty := by
  have hl := loadTaken_loaded h
  obtain ⟨f, hf⟩ : ∃ f, (s.recorded 6 i).store = (s.loadTaken 6 i).store.update 6 f := by
    unfold State.recorded State.loadRecord
    dsimp only
    rw [if_neg (by decide), readBad hbad, if_neg (by decide), if_neg (by decide)]
    exact ⟨_, rfl⟩
  have hclean : ((s.loadTaken 6 i).store.line i).state = .clean := by
    show ((s.store.filled 6 i (systemBlock 6)).line i).state = .clean
    rw [filled_line (line_lt_of_find h.find)]
  obtain ⟨y, hy⟩ := line_update_same f hl.line
  rw [hf, hy]
  exact (updated_marks f (by rw [hclean]; rfl)).1.trans (if_neg (by rw [hclean]; decide))

theorem recordData_length (hb : 3 ≤ b) : (s.recordData b).length = 15 := by
  by_cases hg : s.ReadGood b
  · rw [recordData_good (by omega) hg, readBytes_length]
  · rw [recordData_service hb hg]
    exact resetField_length (resetField_length (readBytes_length s b))

theorem loadReady_holds (h : s.LoadFills 6 i) : (s.loadReady i).store.Holds 6 := by
  have hl := loadReady_loaded h
  refine ⟨?_, ?_⟩
  · unfold Store.present
    rw [hl.line]
    rfl
  · rw [hl.data]
    exact recordData_length (by decide)

theorem loadReady_passes (s : State) (i : Nat) : (s.loadReady i).loadTurned.DaysPass (s.loadReady i).loadCounted :=
  deliverHeldDays_days _

theorem itemBlock_last {j : Nat} (h : itemBlock j = 6) : j < 8 := by
  unfold itemBlock at h
  omega

theorem State.LoadEnds.replaced (h : s.LoadFills 6 i) (ht : s.LoadEnds i t) (hbad : ¬s.ReadGood 6) : s.Replaced 6 t := by
  intro j f hj hf hkm hdays
  have hl := loadReady_loaded h
  have hfields := replaced_fields (by decide) hbad hj hf hkm hdays
  rw [← hl.data] at hfields
  have hturned := (loadTurned_kept (s.loadReady i)).store
  have hholds : (s.loadReady i).loadTurned.store.Holds (itemBlock j) := by
    rw [hturned, hj]
    exact loadReady_holds h
  have hpass := loadReady_passes s i
  have hpassKm := hpass.km j (itemBlock_last hj) hholds
  have hpassOdometer := hpass.odometer j (itemBlock_last hj) hholds
  rw [hturned] at hpassKm hpassOdometer
  have hdata : t.store.dataOf 6 = (s.loadReady i).loadCounted.store.dataOf 6 := by
    rw [ht.store]
    exact loadLeft_data hl.rest hl.line (.inl (by rw [loadReady_store]; exact recorded_dirty h hbad))
  rw [hj] at hpassOdometer
  refine ⟨?_, fun hq => ?_, ?_⟩
  · refine Eq.trans ?_ (hpassKm.trans ?_)
    · unfold Store.remainingKm
      rw [hj, hdata]
    · unfold Store.remainingKm
      rw [hj]
      exact hfields.km
  · unfold Store.remainingDays
    rw [hj, ht.dataOf_quiet h (hq.resolve_right (by decide)), ← hl.data]
    exact hfields.days
  · rw [hdata, hpassOdometer]
    exact hfields.odometer

/-! ### The items' states -/

theorem loadReady_present (h : s.LoadFills 6 i) (hh : ∀ c, 3 ≤ c → c ≤ 5 → s.store.Holds c) {j : Nat} (hj : j < 8) :
    (s.loadReady i).store.present (itemBlock j) = true := by
  have hl := loadReady_loaded h
  obtain ⟨hlow, hhigh⟩ := itemBlock_bounds hj
  rcases Nat.lt_or_ge (itemBlock j) 6 with hlt | hge
  · have hpresent := (hh (itemBlock j) hlow (by omega)).1
    unfold Store.present at hpresent ⊢
    rw [(hl.reads _ (by omega)).1]
    exact hpresent
  · rw [show itemBlock j = 6 by omega]
    exact (loadReady_holds h).1

/-- With every service block present the held days fetch nothing. -/
theorem loadCounted_waiting (h : s.LoadFills 6 i) (hh : ∀ c, 3 ≤ c → c ≤ 5 → s.store.Holds c) :
    (s.loadReady i).loadCounted.store.waiting = [] := by
  obtain ⟨-, -, hwaiting, -⟩ := (loadReady_loaded h).rest
  refine List.eq_nil_iff_forall_not_mem.mpr fun x hx => ?_
  rcases (loadCounted_counts (s.loadReady i)).kept.waiting x hx with hold | ⟨n, hn, habsent, -⟩
  · rw [hwaiting] at hold
    cases hold
  · have hpresent := loadReady_present h hh (j := 2 * (n - 3)) (by omega)
    rw [show itemBlock (2 * (n - 3)) = n by unfold itemBlock; omega, habsent] at hpresent
    cases hpresent

theorem loadReady_formed (h : s.LoadFills 6 i) (hl : s.service.items.length = 8) (hh : ∀ c, 3 ≤ c → c ≤ 5 → s.store.Holds c) :
    (s.loadReady i).Formed fun j => (s.item j).state := by
  have hservice : (s.recorded 6 i).imageTaken.service = s.service :=
    (imageTaken_kept _).service.trans (recorded_kept s 6 i).service
  have hstore : (s.recorded 6 i).imageTaken.store = (s.loadReady i).store := (serviceLoaded_kept _).store.symm
  have hformed := serviceLoaded_formed (v := (s.recorded 6 i).imageTaken) (by rw [hservice]; exact hl)
    fun j hj => by rw [hstore]; exact loadReady_present h hh hj
  have hold (j : Nat) : ((s.recorded 6 i).imageTaken.item j).state = (s.item j).state :=
    congrArg ServiceItem.state (item_of_items (congrArg Service.items hservice) j)
  exact ⟨hformed.items, hformed.present, fun j hj => by rw [← hold]; exact hformed.state j hj⟩

theorem State.Formed.of_kept {bs : List Block} {old : Nat → ItemState} {v w : State} (h : v.Formed old) (k : KeptBut bs v w)
    (hb : Block.service ∉ bs ∧ Block.store ∉ bs ∧ Block.cal ∉ bs := by decide) : w.Formed old := by
  obtain ⟨hservice, hstore, hcal⟩ := hb
  refine ⟨by rw [k.service hservice]; exact h.items, fun j hj => by rw [k.store hstore]; exact h.present j hj, fun j hj => ?_⟩
  rw [item_of_items (congrArg Service.items (k.service hservice)), itemFormed_congr (k.cal hcal) (k.store hstore)]
  exact h.state j hj

theorem State.LoadEnds.items (h : s.LoadFills 6 i) (ht : s.LoadEnds i t) (hl : s.service.items.length = 8)
    (hh : ∀ c, 3 ≤ c → c ≤ 5 → s.store.Holds c) {j : Nat} (hj : j < 8) : (t.item j).state = t.itemFormed (s.item j).state j := by
  have hrest := (loadReady_loaded h).rest
  have hformed : (s.loadReady i).loadCounted.Formed fun j => (s.item j).state :=
    ((loadReady_formed h hl hh).of_kept (loadTurned_kept _)).deliverHeldDays
  have hitem : (t.item j).state = ((s.loadReady i).loadCounted.item j).state := by
    rw [item_of_items (congrArg Service.items ht.kept.service), loadLeft_item]
  have hcal : t.cal = (s.loadReady i).loadCounted.cal := by
    rw [ht.cal, (loadCounted_kept _).cal, loadReady_cal]
  obtain ⟨k, hk⟩ := present_of_presentLine (loadReady_present h hh hj)
  have hdata : t.store.dataOf (itemBlock j) = (s.loadReady i).loadCounted.store.dataOf (itemBlock j) := by
    rw [ht.store]
    exact loadLeft_data hrest hk (.inr (loadCounted_waiting h hh))
  rw [hitem, hformed.state j hj]
  unfold State.itemFormed Store.remainingKm Store.remainingDays
  rw [itemActive_of_cal hcal, itemFigures_of_cal hcal, hdata]

end

end Sys2Proof.Machine
end

section
/-! SUPPORT. The warnings as the start-up load ends, and the steps of the load together. Settles O52. -/
namespace Sys2Proof.Machine
set_option Elab.async false

section
variable {s t : State} {b i : Nat}

/-! ### The warnings -/

theorem loadReady_warnings (s : State) (i : Nat) : (s.loadReady i).arbiter.warnings = s.arbiter.warnings := by
  have himage (v : State) : v.imageTaken.arbiter.warnings = v.arbiter.warnings := rfl
  unfold State.loadReady
  rw [(serviceLoaded_kept _).arbiter, himage, (recorded_kept s 6 i).arbiter]

theorem startTimers_warnings (v : State) : v.startTimers.arbiter.warnings = v.arbiter.warnings := by
  rw [startTimers_eq, (queueSummary_kept _).arbiter, timersStarted_arbiter]
  rfl

theorem started_warnings (v : State) (x : Ign) : (v.goTo x).startTimers.arbiter.warnings = v.arbiter.warnings := by
  rw [startTimers_warnings, (goTo_kept v x).arbiter]

theorem loadLeft_off (hq : s.counting.heldDays = 0) (hoff : s.arbiter.warnings = List.replicate 32 .off) (hx : s.loadLeft.ign ≠ .run) :
    s.loadLeft.arbiter.warnings = s.arbiter.warnings := by
  rcases eq_or_ne s.ignition.asked .sleep with h | h
  · rw [loadLeft_asleep h, sleepEntry_arbiter, hoff]
  · have hrun : s.ignition.asked ≠ .run := by
      rw [loadLeft_ign, ← asked_levels] at hx
      exact hx
    rw [loadLeft_awake h, (loadCounted_quiet hq).arbiter, loadTurned_awake h, State.enterAwake, if_neg hrun, started_warnings]

theorem loadLeft_reminds (hq : s.counting.heldDays = 0) (hl : s.arbiter.warnings.length = 32) (hx : s.loadLeft.ign = .run) :
    s.loadLeft.Reminds s.warning s.loadLeft := by
  have hasked : s.ignition.asked = .run := by
    rw [loadLeft_ign, ← asked_levels] at hx
    exact hx
  have hawake : s.ignition.asked ≠ .sleep := by rw [hasked]; nofun
  have hturned : s.loadTurned = (s.goTo .run).startTimers.runEntry := by
    rw [loadTurned_awake hawake, hasked]
    rfl
  have hstarted := started_warnings s .run
  have hign : (s.goTo .run).startTimers.ign.awake = true := by
    rw [(startTimers_kept _).ign]
    rfl
  have h := runEntry_reminds hign (by rw [hstarted]; exact hl)
  rw [← hturned, show (s.goTo .run).startTimers.warning = s.warning from funext fun w => warning_of_warnings hstarted w] at h
  have hkept : KeptBut [.ignition, .keys, .counting, .topics, .rules, .gauges, .sound, .line, .arbiter, .handler]
      (s.goTo .run).startTimers s.loadLeft := by
    rw [loadLeft_awake hawake]
    refine KeptBut.trans ?_ ((loadCounted_quiet hq).mono (by decide))
    rw [hturned]
    exact (runEntry_kept _).mono (by decide)
  refine reminds_of h hkept.cal.symm (congrArg Service.items hkept.service.symm) ?_
  rw [loadLeft_awake hawake, (loadCounted_quiet hq).arbiter]

theorem State.LoadEnds.warnings (ht : s.LoadEnds i t) (hq : s.counting.heldDays = 0)
    (hoff : s.arbiter.warnings = List.replicate 32 .off) :
    (t.ign ≠ .run → t.arbiter.warnings = s.arbiter.warnings) ∧ (t.ign = .run → t.Reminds s.warning t) := by
  have hready := loadReady_warnings s i
  have hheld := (loadReady_held s i).trans hq
  have hwarnings : t.arbiter.warnings = (s.loadReady i).loadLeft.arbiter.warnings := congrArg Arbiter.warnings ht.kept.arbiter
  refine ⟨fun hx => ?_, fun hx => ?_⟩
  · rw [hwarnings, loadLeft_off hheld (hready.trans hoff) (by rw [← ht.kept.ign]; exact hx), hready]
  · have hreminds := loadLeft_reminds hheld (by rw [hready, hoff]; rfl) (by rw [← ht.kept.ign]; exact hx)
    rw [show (s.loadReady i).warning = s.warning from funext fun w => warning_of_warnings hready w] at hreminds
    exact reminds_of hreminds ht.kept.cal.symm (congrArg Service.items ht.kept.service.symm) hwarnings

/-! ### The steps of the load -/

theorem load_left (h : s.LoadFills 6 i) : ∃ t, exec .blockReadEnd s = .next t ∧ t.cal = s.ignition.load.image ∧
    t.ign = levelState s.ignition.run s.ignition.acc s.ignition.wake ∧ t.counting.heldDays = 0 ∧
    (s.store.SystemPinned → t.store.SystemPinned) ∧ (s.arbiter.warnings.length = 32 → t.OrdersComplete ∧ t.OrdersOnce) ∧
    (s.ReadGood 6 → s.counting.heldDays = 0 → t.store.dataOf 6 = s.readBytes 6) ∧ (¬s.ReadGood 6 → s.Replaced 6 t) ∧
    (s.topics.entries.length = 16 → s.EntriesDefined t) ∧
    ((∀ j < 8, t.itemActive j = true → (∀ k < j, t.itemActive k = false) → t.service.selected = some j) ∧
      ((∀ j < 8, t.itemActive j = false) → t.service.selected = none)) ∧
    (s.service.items.length = 8 → (∀ c, 3 ≤ c → c ≤ 5 → s.store.Holds c) → ∀ j < 8,
      (t.item j).state = t.itemFormed (s.item j).state j) ∧
    (s.counting.heldDays = 0 → s.arbiter.warnings = List.replicate 32 .off →
      (t.ign ≠ .run → t.arbiter.warnings = s.arbiter.warnings) ∧ (t.ign = .run → t.Reminds s.warning t)) := by
  obtain ⟨t, ht⟩ := load_ends h
  refine ⟨t, ht.exec, ht.cal, ht.ign, ht.heldDays, ht.systemPinned, ht.orders, fun hg hq => ?_, ht.replaced h, ht.entries, ?_,
    fun hl hh j hj => ht.items h hl hh hj, ht.warnings⟩
  · rw [ht.dataOf_quiet h hq]
    exact recordData_good (by decide) hg
  · rw [ht.selected]
    exact firstActive t

end

/-- Settles O52: each block's step of the load, and the step that ends it. -/
theorem loadGoesOn : Obligations.LoadGoesOn := by
  intro s b i hload hawaits hop horders hwaiting htask hfind hfilling _
  have h : s.LoadFills b i := ⟨hload, hawaits, hop, horders, hwaiting, htask, hfind, hfilling⟩
  refine ⟨calibration_taken h, ?_, ?_, record_loaded h, ?_⟩
  · rintro rfl
    exact image_taken h
  · rintro rfl
    exact odometer_loaded h
  · rintro rfl
    exact load_left h

end Sys2Proof.Machine
end
